-- ==== Sys2Proof/Config.lean ====
section
/-! DEFINITION. The free values: constants without a body, so that nothing can be proved of what they are. Each is applied to
State.fresh, which a command that takes a free value advances, or to the operands it depends on. -/

namespace Sys2Proof.Config

/-- A value the manual leaves open, of up to 64 bits, by the number of free values taken before it. -/
opaque freeValue : Nat → BitVec 64

/-- The Rice parameter the archive encoder chooses for a row-component (R343), by the free values taken before it and the
row-component. -/
opaque riceChoice : Nat → Nat → BitVec 3

/-- What a receiver makes of a pixel whose encoding is not full-range RGB of 10 bits (R71): R, G and B of 10 bits each, by the encoding's number and the
pixel; the manual does not state the arithmetic. -/
opaque toRgb : Nat → BitVec 32 → BitVec 30

/-- The CRC-32 over a cluster's shadow set that a PEND message carries (R412), by the set's byte addresses and values; the
manual does not state the set's byte layout. -/
opaque shadowCrc : List (Nat × Nat) → BitVec 32

end Sys2Proof.Config
end

