-- ==== Sys2Proof/Word.lean ====
section
/-! DEFINITION. The byte and the 32-bit word of the manual's registers and memories (R10, "Numbers and units"). -/

namespace Sys2Proof

/-- A byte of HBM, of the plate store or of the Almanac. -/
abbrev Byte := BitVec 8

/-- A 32-bit register word (R10). -/
abbrev Word := BitVec 32

end Sys2Proof
end

