-- ==== Sys2Proof/Machine/Bits.lean ====
section
/-! DEFINITION. Bit fields, sign extension, little-endian byte order, saturation, and the CRCs and hashes the manual
names (R159 CRC-32 and CRC-16 of Trioc, CRC-64 of R257, CRC-8 of R268, SHA-256 of R259, SHA-384 of R42). -/

namespace Sys2Proof.Machine

/-- Bits lo to lo + w − 1 of a number. -/
def bits (v lo w : Nat) : Nat := v / 2 ^ lo % 2 ^ w

/-- Bit n of a number. -/
def bit (v n : Nat) : Bool := v / 2 ^ n % 2 == 1

/-- 1 or 0. -/
def b2n (b : Bool) : Nat := if b then 1 else 0

/-- A number with bit n set or cleared. -/
def putBit (v n : Nat) (b : Bool) : Nat :=
  if bit v n == b then v else if b then v + 2 ^ n else v - 2 ^ n

/-- The two's-complement value of a w-bit number. -/
def signed (w v : Nat) : Int := if bit v (w - 1) then (v % 2 ^ w : Nat) - (2 ^ w : Nat) else (v % 2 ^ w : Nat)

/-- The w-bit two's-complement pattern of an integer, its low-order bits. -/
def unsigned (w : Nat) (x : Int) : Nat := (x % (2 ^ w : Nat)).toNat

/-- An unsigned result held to w bits by saturation. -/
def satN (w v : Nat) : Nat := min v (2 ^ w - 1)

/-- An integer held between two bounds. -/
def clampI (lo hi x : Int) : Int := if x < lo then lo else if hi < x then hi else x

/-- A number held between two bounds. -/
def clampN (lo hi x : Nat) : Nat := if x < lo then lo else if hi < x then hi else x

/-- An integer held to the range of a signed w-bit number. -/
def satI (w : Nat) (x : Int) : Int := clampI (-(2 ^ (w - 1) : Nat)) ((2 ^ (w - 1) : Nat) - 1) x

/-- The n bytes of a number, low byte first. -/
def leBytes : Nat → Nat → List Nat
  | 0, _ => []
  | n + 1, v => v % 256 :: leBytes n (v / 256)

/-- The number that bytes spell, low byte first. -/
def ofLe : List Nat → Nat
  | [] => 0
  | b :: bs => b % 256 + 256 * ofLe bs

/-- The n bytes of a number, high byte first. -/
def beBytes (n v : Nat) : List Nat := (leBytes n v).reverse

/-- How many bits of a mask of w bits are set. -/
def popCount : Nat → Nat → Nat
  | 0, _ => 0
  | w + 1, v => v % 2 + popCount w (v / 2)

/-- The mask of w bits whose bit i is `f i`. -/
def maskOf (w : Nat) (f : Nat → Bool) : Nat := (List.range w).foldl (fun m i => if f i then m + 2 ^ i else m) 0

/-- The lowest set bit of a mask of w bits. -/
def lowestSet (w v : Nat) : Option Nat := (List.range w).find? fun i => bit v i

/-- One step of a reflected CRC over one bit. -/
def crcBitR (poly c : Nat) : Nat := if c % 2 == 1 then (c / 2) ^^^ poly else c / 2

/-- A reflected CRC over one byte. -/
def crcByteR (poly c b : Nat) : Nat := (List.range 8).foldl (fun x _ => crcBitR poly x) (c ^^^ (b % 256))

/-- One step of a CRC of width w, high bit first. -/
def crcBitN (w poly c : Nat) : Nat := if bit c (w - 1) then ((c * 2) % 2 ^ w) ^^^ poly else (c * 2) % 2 ^ w

/-- A CRC of width w over one byte, high bit first. -/
def crcByteN (w poly c b : Nat) : Nat :=
  (List.range 8).foldl (fun x _ => crcBitN w poly x) (c ^^^ ((b % 256) * 2 ^ (w - 8)))

/-- CRC-32 of R159: polynomial 0x04C1_1DB7 reflected, initial value and final XOR all ones. -/
def crc32 (bs : List Nat) : Nat := (bs.foldl (crcByteR 0xEDB88320) 0xFFFFFFFF) ^^^ 0xFFFFFFFF

/-- CRC-64 of R257: ECMA-182, initial value 0, no reflection, no final XOR. -/
def crc64 (bs : List Nat) : Nat := bs.foldl (crcByteN 64 0x42F0E1EBA9EA3693) 0

/-- CRC-16 of R159: CCITT, polynomial 0x1021, initial value 0xFFFF, no reflection, no final XOR. -/
def crc16 (bs : List Nat) : Nat := bs.foldl (crcByteN 16 0x1021) 0xFFFF

/-- CRC-8 of R268: polynomial 0x2F, initial value 0xFF, no reflection, final XOR 0xFF. -/
def crc8 (bs : List Nat) : Nat := (bs.foldl (crcByteN 8 0x2F) 0xFF) ^^^ 0xFF

/-- CRC-8 of the lamp line (R193): polynomial 0x07, initial value 0xFF, over bits in transmission order. -/
def crc8Bits (bs : List Bool) : Nat :=
  bs.foldl (fun c b => crcBitN 8 0x07 (if b then c ^^^ 0x80 else c)) 0xFF

/-- The w bits of a number, high bit first. -/
def msbBits (w v : Nat) : List Bool := ((List.range w).map (bit v)).reverse

/-! ### The two hashes of the manual: SHA-256 of digest records (R259, R260) and SHA-384 of images (R42 to R44)

Both are one construction with its own word width, rotations and number of rounds. Its constants are the leading fraction bits of
roots of the first primes, and they are computed here from the primes. -/

/-- A number from 2 on that no smaller one from 2 on divides. -/
def isPrime (n : Nat) : Bool := 2 ≤ n && (List.range n).all fun d => d < 2 || n % d != 0

/-- The primes below 410; the first 80 are wanted. -/
def smallPrimes : List Nat := (List.range 410).filter isPrime

/-- The largest x of `fuel` bits with x ^ k at most n, found bit by bit from the top. -/
def rootBits (k n : Nat) : Nat → Nat → Nat
  | 0, x => x
  | fuel + 1, x => rootBits k n fuel (if (x + 2 ^ fuel) ^ k ≤ n then x + 2 ^ fuel else x)

/-- The first w fraction bits of the k-th root of n. -/
def rootFraction (k w n : Nat) : Nat := rootBits k (n * 2 ^ (k * w)) (w + 8) 0 % 2 ^ w

/-- What distinguishes one hash of the family from another: the bits of a word, the rounds, the rotations of the two mixes of a round, the
two rotations and the shift of each mix of the message schedule, and which primes seed the state. -/
structure HashKind where
  w : Nat
  rounds : Nat
  mixA : Nat × Nat × Nat
  mixE : Nat × Nat × Nat
  near : Nat × Nat × Nat
  far : Nat × Nat × Nat
  seeds : List Nat
  deriving DecidableEq, Repr

/-- SHA-256 (R259). -/
def HashKind.sha256 : HashKind :=
  { w := 32, rounds := 64, mixA := (2, 13, 22), mixE := (6, 11, 25), near := (17, 19, 10), far := (7, 18, 3), seeds := smallPrimes.take 8 }

/-- SHA-384 (R43): the words and rounds of 64 bits, seeded by the ninth to the sixteenth prime. -/
def HashKind.sha384 : HashKind :=
  { w := 64, rounds := 80, mixA := (28, 34, 39), mixE := (14, 18, 41), near := (19, 61, 6), far := (1, 8, 7),
    seeds := (smallPrimes.drop 8).take 8 }

namespace HashKind

/-- A word turned right by n places. -/
def turn (k : HashKind) (x n : Nat) : Nat := (x * (2 ^ k.w + 1)) >>> n % 2 ^ k.w

/-- The three turned words of a round's mix, added without carries. -/
def mix (k : HashKind) (r : Nat × Nat × Nat) (x : Nat) : Nat := k.turn x r.1 ^^^ k.turn x r.2.1 ^^^ k.turn x r.2.2

/-- Two turned words and a shifted one, added without carries. -/
def spread (k : HashKind) (r : Nat × Nat × Nat) (x : Nat) : Nat := k.turn x r.1 ^^^ k.turn x r.2.1 ^^^ (x >>> r.2.2)

/-- The eight working words of a round. -/
structure Vars where
  a : Nat
  b : Nat
  c : Nat
  d : Nat
  e : Nat
  f : Nat
  g : Nat
  h : Nat
  deriving DecidableEq, Repr

/-- Eight words as working words. -/
def Vars.ofWords (x : List Nat) : Vars :=
  ⟨x.getD 0 0, x.getD 1 0, x.getD 2 0, x.getD 3 0, x.getD 4 0, x.getD 5 0, x.getD 6 0, x.getD 7 0⟩

/-- Word-wise sums of working words. -/
def Vars.plus (x y : Vars) (m : Nat) : Vars :=
  ⟨(x.a + y.a) % m, (x.b + y.b) % m, (x.c + y.c) % m, (x.d + y.d) % m, (x.e + y.e) % m, (x.f + y.f) % m, (x.g + y.g) % m,
    (x.h + y.h) % m⟩

/-- One round with its constant and message word. -/
def round (k : HashKind) (v : Vars) (c m : Nat) : Vars :=
  let pick := (v.e &&& (v.f ^^^ v.g)) ^^^ v.g
  let most := (v.a &&& (v.b ||| v.c)) ||| (v.b &&& v.c)
  let t := v.h + k.mix k.mixE v.e + pick + c + m
  ⟨(t + k.mix k.mixA v.a + most) % 2 ^ k.w, v.a, v.b, v.c, (v.d + t) % 2 ^ k.w, v.e, v.f, v.g⟩

/-- The message word sixteen places after the first of a window of sixteen. -/
def nextWord (k : HashKind) (x : List Nat) : Nat :=
  (x.headD 0 + k.spread k.far (x.getD 1 0) + x.getD 9 0 + k.spread k.near (x.getD 14 0)) % 2 ^ k.w

/-- The rounds over a block: each takes the first word of a window of sixteen, which moves on by one. -/
def runBlock (k : HashKind) : List Nat → Vars → List Nat → Vars
  | [], v, _ => v
  | p :: ps, v, x => k.runBlock ps (k.round v (rootFraction 3 k.w p) (x.headD 0)) (x.drop 1 ++ [k.nextWord x])

/-- Sixteen words of a block of bytes, each high byte first. -/
def blockWords (k : HashKind) (b : List Nat) : List Nat :=
  (List.range 16).map fun i => ofLe ((b.drop (k.w / 8 * i)).take (k.w / 8)).reverse

/-- Every block in turn; `n` blocks remain. -/
def blocks (k : HashKind) : Nat → Vars → List Nat → Vars
  | 0, v, _ => v
  | n + 1, v, b => k.blocks n (v.plus (k.runBlock (smallPrimes.take k.rounds) v (k.blockWords b)) (2 ^ k.w)) (b.drop (2 * k.w))

/-- The message with its mark, zeros to the end of the last block, and its length in bits. -/
def padded (k : HashKind) (m : List Nat) : List Nat :=
  let size := 2 * k.w
  let used := m.length + 1 + k.w / 4
  m ++ 0x80 :: List.replicate ((size - used % size) % size) 0 ++ beBytes (k.w / 4) (8 * m.length)

/-- The first n bytes of the hash of a message. -/
def hash (k : HashKind) (n : Nat) (m : List Nat) : List Nat :=
  let p := k.padded m
  let v := k.blocks (p.length / (2 * k.w)) (Vars.ofWords (k.seeds.map (rootFraction 2 k.w))) p
  ([v.a, v.b, v.c, v.d, v.e, v.f, v.g, v.h].flatMap (beBytes (k.w / 8))).take n

end HashKind

/-- SHA-256: 32 bytes (R259, R260). -/
def sha256 (m : List Nat) : List Nat := HashKind.sha256.hash 32 m

/-- SHA-384: 48 bytes (R42, R43). -/
def sha384 (m : List Nat) : List Nat := HashKind.sha384.hash 48 m

/-- SEQ x is newer than SEQ y (R317). -/
def seqNewer (x y : Nat) : Bool :=
  let d := (x + 2 ^ 32 - y) % 2 ^ 32
  1 ≤ d && d < 2 ^ 31

end Sys2Proof.Machine
end

