-- ==== Sys2Proof/Machine/ArchiveState.lean ====
section
/-! DEFINITION. The archive's formats as pure functions (R340 to R343) and its state beside the registers (R344 to R352). -/

namespace Sys2Proof.Machine

/-- An archive record (R341): type, flags, RSEQ, TIME, source path and body. -/
structure ArcRec where
  rtype : Nat
  rflags : Nat
  rseq : Nat
  time : Nat
  src : Nat
  body : List Nat
  deriving DecidableEq, Repr

/-- The body padded so that the record's length is a multiple of 8 (R341). -/
def ArcRec.padded (r : ArcRec) : List Nat := r.body ++ List.replicate ((8 - r.body.length % 8) % 8) 0

/-- RLEN (R341). -/
def ArcRec.len (r : ArcRec) : Nat := 32 + r.padded.length

/-- The first 28 bytes of a record header (R341). -/
def ArcRec.head (r : ArcRec) : List Nat :=
  leBytes 2 0x52A7 ++ [r.rtype % 256, r.rflags % 256] ++ leBytes 4 r.len ++ leBytes 8 r.rseq ++ leBytes 8 r.time
    ++ leBytes 4 r.src

/-- The bytes of a record as stored, RCRC included (R341). -/
def ArcRec.bytes (r : ArcRec) : List Nat := r.head ++ leBytes 4 (crc32 (r.head ++ r.padded)) ++ r.padded

/-- A superblock copy (R340). -/
structure Superblock where
  lbab : Nat
  extents : Nat
  capacity : Nat
  archiveId : Nat
  serial : Nat
  initTime : Nat
  sbseq : Nat
  tail : Nat
  tailSeq : Nat
  deriving DecidableEq, Repr

/-- The first 4,092 bytes of a superblock (R340). -/
def Superblock.body (b : Superblock) : List Nat :=
  [0x50, 0x4C, 0x41, 0x54, 0x45, 0x41, 0x52, 0x43] ++ leBytes 2 1 ++ leBytes 2 b.lbab ++ leBytes 4 b.extents
    ++ leBytes 8 b.capacity ++ leBytes 16 b.archiveId ++ leBytes 8 b.serial ++ leBytes 8 b.initTime ++ leBytes 4 b.sbseq
    ++ leBytes 4 b.tail ++ leBytes 8 b.tailSeq ++ List.replicate 4020 0

/-- The 4,096 bytes of a superblock copy (R340). -/
def Superblock.bytes (b : Superblock) : List Nat := b.body ++ leBytes 4 (crc32 b.body)

/-- An extent: its header's facts and its records, oldest first (R341). -/
structure Extent where
  index : Nat
  extSeq : Nat
  firstRseq : Nat
  firstTime : Nat
  pcycle : Nat
  firstFrames : List Nat
  recs : List ArcRec
  deriving DecidableEq, Repr

/-- The 4,096 bytes of an extent header (R341). -/
def Extent.header (e : Extent) (archiveId : Nat) : List Nat :=
  let b := [0x50, 0x4C, 0x41, 0x54, 0x45, 0x45, 0x58, 0x54] ++ leBytes 16 archiveId ++ leBytes 8 e.extSeq
    ++ leBytes 8 e.firstRseq ++ leBytes 8 e.firstTime ++ leBytes 8 e.pcycle
    ++ ((e.firstFrames.flatMap (leBytes 8)) ++ List.replicate 32 0).take 32
  b ++ leBytes 4 (crc32 b) ++ List.replicate 4004 0

/-- How many bytes of an extent its header and records take. -/
def Extent.used (e : Extent) : Nat := 4096 + (e.recs.map ArcRec.len).sum

/-- An NVMe drive as attached (R337, R338, R340): what Identify reports and what it holds, its extents oldest first; `cycles` gives each power
cycle that recorded, as its first RSEQ and ALM_PCYCLES (R387). -/
structure Drive where
  capacity : Nat
  lbab : Nat
  metadata : Bool
  mdts : Nat
  queue64 : Bool
  rate : Nat
  lanes : Nat
  superA : Option Superblock
  superB : Option Superblock
  extents : List Extent
  cycles : List (Nat × Nat)
  deriving DecidableEq, Repr

/-- How many extents a drive holds (R340). -/
def extentCount (capacity : Nat) : Nat := capacity / 2 ^ 26 - 1

/-- The prediction of R343: left neighbour a, upper b, upper-left c. -/
def predict (a b c : Nat) : Nat :=
  if max a b ≤ c then min a b else if c ≤ min a b then max a b else a + b - c

/-- The zigzag value of a residual (R343). -/
def zigzag (v p : Nat) : Nat :=
  let r : Int := ((v : Int) - p + 128) % 256 - 128
  if 0 ≤ r then (2 * r).toNat else (-2 * r - 1).toNat

/-- The bits of one pixel under Rice parameter k, least significant first (R343). -/
def riceBits (k z : Nat) : List Bool :=
  let q := z / 2 ^ k
  if 16 ≤ q then List.replicate 16 true ++ (List.range 8).map (bit z)
  else List.replicate q true ++ [false] ++ (List.range k).map (bit z)

/-- Bits packed least significant first, the last byte padded with zeros (R343). -/
def packBits : Nat → List Bool → List Nat
  | 0, _ => []
  | fuel + 1, bs => if bs.isEmpty then [] else maskOf 8 (fun i => bs.getD i false) :: packBits fuel (bs.drop 8)

/-- CODING 1 of a tile of w × h pixels, its bytes in CRC order (R343); `k` is the Rice parameter of each row-component. -/
def codeTile (k : Nat → Nat) (w h : Nat) (bytes : List Nat) : List Nat :=
  let at' := fun x y c => bytes.getD ((y * w + x) * 3 + c) 0
  let z := fun x y c =>
    let p := if y == 0 then (if x == 0 then 128 else at' (x - 1) y c)
      else if x == 0 then at' x (y - 1) c
      else predict (at' (x - 1) y c) (at' x (y - 1) c) (at' (x - 1) (y - 1) c)
    zigzag (at' x y c) p
  let stream := (List.range h).flatMap fun y => (List.range 3).flatMap fun c =>
    let kk := k (3 * y + c) % 8
    (List.range 3).map (bit kk) ++ (List.range w).flatMap fun x => riceBits kk (z x y c)
  packBits stream.length stream

/-- A tile entry of a TILES or KEYFRAME body (R342, R343): predictive coding unless storing is shorter. -/
def tileEntry (k : Nat → Nat) (w h idx crc : Nat) (bytes : List Nat) : List Nat :=
  let c1 := codeTile k w h bytes
  let stored := bytes.length < c1.length
  let data := if stored then bytes else c1
  leBytes 4 idx ++ leBytes 8 crc ++ [b2n (!stored), 0] ++ leBytes 2 data.length ++ data
    ++ List.replicate ((8 - data.length % 8) % 8) 0

/-- The flag runs of a frame: (first tile, count, flags) for tiles whose flag byte is non-zero, in order (R342). -/
def flagRuns : List (Nat × Nat) → List (Nat × Nat × Nat)
  | [] => []
  | (i, f) :: rest =>
    match flagRuns rest with
    | (j, n, g) :: more => if j == i + 1 && g == f && n < 65535 then (i, n + 1, f) :: more else (i, 1, f) :: (j, n, g) :: more
    | [] => [(i, 1, f)]

/-- The body of a TILES or KEYFRAME record (R342). -/
def tilesBody (frame base tsize partNo nPart : Nat) (runs : List (Nat × Nat × Nat)) (entries : List (List Nat)) : List Nat :=
  leBytes 8 frame ++ leBytes 8 base ++ leBytes 4 entries.length ++ leBytes 4 runs.length ++ [tsize, partNo, nPart]
    ++ List.replicate 5 0 ++ runs.flatMap (fun r => leBytes 4 r.1 ++ leBytes 2 r.2.1 ++ [r.2.2 % 256, 0]) ++ entries.flatten

/-- A sample in the pre-trigger ring (R349): its time, cluster, frame and record; `bad` when its entry fails detection, and `done` when
the flush under way has taken it. -/
structure RingEntry where
  time : Nat
  cluster : Nat
  frame : Nat
  sample : ArcRec
  bad : Bool
  done : Bool
  deriving DecidableEq, Repr

/-- A pre-trigger flush under way (R350): its cause, the window of wall time it takes, and what it has lost. -/
structure ArcFlush where
  cause : Nat
  from' : Nat
  upto : Nat
  entries : Nat
  lost : Nat
  deriving DecidableEq, Repr

/-- A sample taken of a frame that has not closed (R342, R344, R349): the frame, the previous sample's, the wall time of its meridian, whether
it is a keyframe, whether it is the ring's, COMPLETE, and its coded tile entries; its flag runs come with the close. -/
structure PendingSample where
  frame : Nat
  base : Nat
  time : Nat
  key : Bool
  ring : Bool
  complete : Bool
  entries : List (List Nat)
  deriving DecidableEq, Repr

/-- What the archive keeps of one output: the previous sample frame, the wall time of the last keyframe, digest records not
yet gathered (R346), the latest and the latest flushed digest as D, FRAME, MTIME, for each DIGEST record not yet flushed its RSEQ
with D, FRAME and MTIME of its last record (R351), the ring's sample number, previous frame and CRC copy (R349), and the samples of
frames that have not closed. -/
structure OutputArc where
  base : Option Nat
  keyAt : Option Nat
  digests : List (List Nat)
  latest : List Nat × Nat × Nat
  flushed : List Nat × Nat × Nat
  marks : List (Nat × List Nat × Nat × Nat)
  ringNo : Nat
  ringBase : Nat
  ringCrcs : List Nat
  samples : List PendingSample
  deriving DecidableEq, Repr

/-- An NVMe command that has not completed (R339): its number, its kind (0 read, 1 write, 2 Flush, 3 admin), its failed
tries, whether the controller has been reset for it, the bytes of staging it carries and the bytes it writes. -/
structure NvmeCmd where
  id : Nat
  kind : Nat
  tries : Nat
  wasReset : Bool
  bytes : Nat
  data : List Nat
  deriving DecidableEq, Repr

/-- The archive beside its registers: the drive, records in the staging buffer, oldest first, the next RSEQ, the last RSEQ
written and the last RSEQ a Flush covers, commands in flight, the pre-trigger ring, newest first, a flush under way, the
outputs, the lifetime counts of the shadow image (R351), the bytes that the extent being filled takes with what is staged, that a NOTE of
kind 5 is due, the RSEQs of staged records that open an extent, and the writes of the last 10 s as (instant, bytes). -/
structure Archive where
  drive : Option Drive
  archiveId : Nat
  staging : List ArcRec
  nextRseq : Nat
  written : Nat
  flushUpto : Nat
  cmds : List NvmeCmd
  nextCmd : Nat
  ring : List RingEntry
  flush : Option ArcFlush
  outs : Vector OutputArc 4
  logCopied : List Nat
  bytesWritten : Nat
  recsByType : List Nat
  lifeDeferred : Nat
  lifeDiscard : Nat
  headUsed : Nat
  overflowed : Bool
  opens : List Nat
  rates : List (Nat × Nat)
  deriving DecidableEq, Repr

/-- An output's archive state after reset. -/
def OutputArc.reset : OutputArc :=
  { base := none, keyAt := none, digests := [], latest := ([], 0, 0), flushed := ([], 0, 0), marks := [], ringNo := 0, ringBase := 0,
    ringCrcs := [], samples := [] }

/-- The archive after reset: no drive. -/
def Archive.reset : Archive :=
  { drive := none, archiveId := 0, staging := [], nextRseq := 0, written := 0, flushUpto := 0, cmds := [], nextCmd := 0,
    ring := [], flush := none, outs := Vector.replicate 4 OutputArc.reset, logCopied := [], bytesWritten := 0,
    recsByType := [], lifeDeferred := 0, lifeDiscard := 0, headUsed := 0, overflowed := false, opens := [],
    rates := [] }

end Sys2Proof.Machine
end

