-- ==== Sys2Proof/Machine/LinkFormat.lean ====
section
/-! DEFINITION. The formats of the Trioc link and of the lamp line as pure functions: block header, trailer and units
(R155, R156, R158), command units (R162), return-lane messages (R167), and lamp-line shares (R190, R191). -/

namespace Sys2Proof.Machine

/-- PLANE_ID of a block header or command (R158). -/
def planeId (prim bitn piece frame : Nat) : Nat := bitn % 16 + prim % 4 * 16 + piece % 4 * 64 + frame % 256 * 256

/-- A plane block as the module forms it (R158). -/
structure BlockHeader where
  resend : Bool
  last : Bool
  seq : Nat
  planeId : Nat
  place : Nat
  band : Nat
  row0 : Nat
  nrows : Nat
  rowbytes : Nat
  deriving DecidableEq, Repr

/-- The first 30 bytes of a block header (R158). -/
def BlockHeader.body (h : BlockHeader) : List Nat :=
  [0x01, b2n h.resend + 2 * b2n h.last] ++ leBytes 2 h.seq ++ leBytes 2 h.planeId ++ [h.place % 256, h.band % 256]
    ++ leBytes 2 h.row0 ++ leBytes 2 h.nrows ++ leBytes 2 h.rowbytes ++ [0, 0] ++ leBytes 4 (h.nrows * h.rowbytes)
    ++ List.replicate 10 0

/-- The 32 bytes of a block header, HCRC included (R158). -/
def BlockHeader.bytes (h : BlockHeader) : List Nat := h.body ++ leBytes 2 (crc16 h.body)

/-- BCRC: CRC-32 over the header and the payload (R158). -/
def blockCrc (h : BlockHeader) (payload : List Nat) : Nat := crc32 (h.bytes ++ payload)

/-- The bytes of a whole block: header, payload and trailer (R158). -/
def blockBytes (h : BlockHeader) (payload : List Nat) : List Nat :=
  h.bytes ++ payload ++ leBytes 4 (blockCrc h payload) ++ leBytes 2 h.seq ++ List.replicate 10 0

/-- How many 16-byte units a block of so many payload bytes takes (R158). -/
def blockUnits (plen : Nat) : Nat := 2 + (plen + 15) / 16 + 1

/-- A unit on a data lane as it leaves the pins: its two sync header bits in order, and its 16 bytes (R155). -/
structure LinkUnit where
  sync0 : Bool
  sync1 : Bool
  bytes : List Nat
  deriving DecidableEq, Repr

/-- A data unit: the header bits are 0 then 1 (R155). -/
def dataUnit (bytes : List Nat) : LinkUnit := ⟨false, true, bytes⟩

/-- An ordered-set unit: the header bits are 1 then 0 (R155). -/
def orderedSet (bytes : List Nat) : LinkUnit := ⟨true, false, bytes⟩

/-- Bytes cut into n data units of 16 (R155). -/
def dataUnits : Nat → List Nat → List LinkUnit
  | 0, _ => []
  | n + 1, l => dataUnit (l.take 16) :: dataUnits n (l.drop 16)

/-- The training set TS1 of a lane, or TS2, which ends training ("Other ordered sets"); `prbs` says that PRBS31 follows. -/
def trainingSet (ts2 : Bool) (lane : Nat) (prbs : Bool) : LinkUnit :=
  orderedSet ([if ts2 then 0x2D else 0x1E, lane, 0x10, if ts2 then 0 else b2n prbs] ++ List.replicate 12 0x4A)

/-- IDLE, the fill ("Other ordered sets"). -/
def idleSet : LinkUnit := orderedSet (List.replicate 16 0)

/-- How long a number of units takes, in CCLK: 13 CCLK each (R155). -/
def unitTime (n : Nat) : Nat := 13 * n

/-- The most rows a block carries (R160). -/
def blockRows (rowbytes : Nat) : Nat := if rowbytes == 0 then 0 else 8192 / rowbytes

/-- The blocks a band of `n` rows from `r0` is cut into: each its first row and its rows (R160). -/
def cutBand (per : Nat) : Nat → Nat → Nat → List (Nat × Nat)
  | 0, _, _ => []
  | fuel + 1, r0, n =>
    if n == 0 || per == 0 then [] else (r0, min per n) :: cutBand per fuel (r0 + min per n) (n - min per n)

/-- The scrambler seed of a lane (R156). -/
def laneSeed (lane : Nat) : Nat := 0x1DC000 + lane * 0x0101

/-- One step of the additive scrambler x^23 + x^21 + x^16 + x^8 + x^5 + x^2 + 1: the output bit and the next state. -/
def scrambleBit (s : Nat) : Bool × Nat :=
  let o := bit s 22
  (o, if o then ((s * 2) % 2 ^ 23) ^^^ 0x210125 else (s * 2) % 2 ^ 23)

/-- One byte scrambled, least significant bit first (R155, R156). -/
def scrambleByte (s b : Nat) : Nat × Nat :=
  (List.range 8).foldl (fun (acc : Nat × Nat) i =>
    let r := scrambleBit acc.2
    (acc.1 + b2n (bit b i != r.1) * 2 ^ i, r.2)) (0, s)

/-- Bytes scrambled in order, and the scrambler's state after them. -/
def scramble : Nat → List Nat → List Nat × Nat
  | s, [] => ([], s)
  | s, b :: bs =>
    let r := scrambleByte s b
    let rest := scramble r.2 bs
    (r.1 :: rest.1, rest.2)

/-- A command's operation (R162). -/
inductive CmdOp | nop | reset | dump | identReq
  deriving DecidableEq, Repr

/-- The OP byte (R162). -/
def CmdOp.code : CmdOp → Nat
  | .nop => 0
  | .reset => 1
  | .dump => 2
  | .identReq => 3

/-- A command unit as the module forms it (R162). -/
structure TriocCmd where
  op : CmdOp
  first : Nat
  last : Nat
  place : Nat
  hold : Bool
  replay : Bool
  planeId : Nat
  cseq : Nat
  delay : Nat
  deriving DecidableEq, Repr

/-- The first 14 bytes of a command unit (R162). -/
def TriocCmd.body (c : TriocCmd) : List Nat :=
  [0x4B, c.op.code, c.first % 256, c.last % 256, c.place % 256, b2n c.hold + 2 * b2n c.replay] ++ leBytes 2 c.planeId
    ++ leBytes 2 c.cseq ++ [c.delay % 256, 0, 0, 0]

/-- The 16 bytes of a command unit, CCRC included (R162). -/
def TriocCmd.bytes (c : TriocCmd) : List Nat := c.body ++ leBytes 2 (crc16 c.body)

/-- A command on a lane: an ordered-set unit, which no lane scrambles (R155, R156). -/
def TriocCmd.unit (c : TriocCmd) : LinkUnit := orderedSet c.bytes

/-- The fine delay that puts the end of a command on a unit boundary (R164): `phase` is where in a unit R − ADV falls. -/
def cmdDelay (phase : Nat) : Nat := phase % 13

/-- A message with a CRC-16 in its last two bytes passes its check (R167). -/
def msgOk (n : Nat) (m : List Nat) : Bool :=
  m.length == n && ofLe ((m.drop (n - 2)).take 2) == crc16 (m.take (n - 2))

/-- The number in the `w` bytes of a message from offset `o`, little-endian (R167). -/
def msgField (m : List Nat) (o w : Nat) : Nat := ofLe ((m.drop o).take w)

/-- A board on the lamp line: its switch count and the channel its switches belong to (R191). -/
structure LampBoard where
  switches : Nat
  chan : Nat
  deriving DecidableEq, Repr

/-- The bits of a share from MARK to PAT (R191). -/
def shareBody (keep : Bool) (seq n pat : Nat) : List Bool := msbBits 4 0xA ++ [keep] ++ msbBits 3 seq ++ msbBits n pat

/-- A share, CRC included, in transmission order (R191). -/
def share (keep : Bool) (seq n pat : Nat) : List Bool :=
  shareBody keep seq n pat ++ msbBits 8 (crc8Bits (shareBody keep seq n pat))

/-- How long a lamp frame of so many bits takes: 400 CCLK a bit (R190). -/
def lampTime (bits : Nat) : Nat := 400 * bits

/-- How long after a frame's end its LATCH may come, for so many boards: 1 µs + 0.5 µs each (R194). -/
def latchWait (boards : Nat) : Nat := 1600 + 800 * boards

end Sys2Proof.Machine
end

