-- ==== Sys2Proof/Machine/Regs.lean ====
section
/-! DEFINITION. The register fields of BAR0, block by block: the names, places, access codes, reset entries and apply
classes of the spec's register tables (chapters 02 to 19), the addresses of R438 and R439, and the status-word addresses.
A register whose value takes two words (R10) is one field that spans both words. -/

namespace Sys2Proof.Machine

/-- Access codes of the register tables (00_scope.md). -/
inductive Access | ro | rw | wo | w1s | rc | w1c
  deriving DecidableEq, Repr

/-- Apply classes (R11, R12, R13). -/
inductive ApplyClass | live | meridian | static
  deriving DecidableEq, Repr

/-- The Reset column (R442). `mtxDiag` is the unit matrix of GEO_MTX, `lut` the straight line of R469, `qos` the
targets of R271. -/
inductive ResetEntry | const (n : Nat) | eph | alm | cal | strap | fuse | random | fixed | mtxDiag | lut | qos
  deriving DecidableEq, Repr

/-- One register field: the BAR0 address of its register's instance 0, the register's repetition
(count, stride), outermost first, the register's words, the field's lowest bit and width, and its columns. -/
structure FieldInfo where
  base : Nat
  dims : List (Nat × Nat)
  words : Nat
  lo : Nat
  width : Nat
  acc : Access
  rst : ResetEntry
  apply : ApplyClass
  deriving DecidableEq, Repr

/-- A repetition used by the register tables. -/
def repOne : List (Nat × Nat) := []
/-- A repetition used by the register tables. -/
def rep4x4 : List (Nat × Nat) := [(4, 0x4)]
/-- A repetition used by the register tables. -/
def rep4x400000 : List (Nat × Nat) := [(4, 0x400000)]
/-- A repetition used by the register tables. -/
def rep4x400000_8x40 : List (Nat × Nat) := [(4, 0x400000), (8, 0x40)]
/-- A repetition used by the register tables. -/
def rep4x100 : List (Nat × Nat) := [(4, 0x100)]
/-- A repetition used by the register tables. -/
def rep4x400000_9x4 : List (Nat × Nat) := [(4, 0x400000), (9, 0x4)]
/-- A repetition used by the register tables. -/
def rep4x400000_3x4 : List (Nat × Nat) := [(4, 0x400000), (3, 0x4)]
/-- A repetition used by the register tables. -/
def rep4x400000_6x4 : List (Nat × Nat) := [(4, 0x400000), (6, 0x4)]
/-- A repetition used by the register tables. -/
def rep4x400000_17x4 : List (Nat × Nat) := [(4, 0x400000), (17, 0x4)]
/-- A repetition used by the register tables. -/
def rep4x400000_4x4 : List (Nat × Nat) := [(4, 0x400000), (4, 0x4)]
/-- A repetition used by the register tables. -/
def rep4x400000_6x40 : List (Nat × Nat) := [(4, 0x400000), (6, 0x40)]
/-- A repetition used by the register tables. -/
def rep4x400000_2x4 : List (Nat × Nat) := [(4, 0x400000), (2, 0x4)]
/-- A repetition used by the register tables. -/
def rep4x400000_16x80 : List (Nat × Nat) := [(4, 0x400000), (16, 0x80)]
/-- A repetition used by the register tables. -/
def rep4x400000_16x80_8x4 : List (Nat × Nat) := [(4, 0x400000), (16, 0x80), (8, 0x4)]
/-- A repetition used by the register tables. -/
def rep4x400000_8x4 : List (Nat × Nat) := [(4, 0x400000), (8, 0x4)]
/-- A repetition used by the register tables. -/
def rep2x400000 : List (Nat × Nat) := [(2, 0x400000)]
/-- A repetition used by the register tables. -/
def rep2x400000_8x4 : List (Nat × Nat) := [(2, 0x400000), (8, 0x4)]
/-- A repetition used by the register tables. -/
def rep2x400000_4x4 : List (Nat × Nat) := [(2, 0x400000), (4, 0x4)]
/-- A repetition used by the register tables. -/
def rep2x400000_8x10 : List (Nat × Nat) := [(2, 0x400000), (8, 0x10)]
/-- A repetition used by the register tables. -/
def rep2x400000_2x20 : List (Nat × Nat) := [(2, 0x400000), (2, 0x20)]
/-- A repetition used by the register tables. -/
def rep8x4 : List (Nat × Nat) := [(8, 0x4)]
/-- A repetition used by the register tables. -/
def rep6x40 : List (Nat × Nat) := [(6, 0x40)]
/-- A repetition used by the register tables. -/
def rep6x40_4x4 : List (Nat × Nat) := [(6, 0x40), (4, 0x4)]
/-- A repetition used by the register tables. -/
def rep2x4 : List (Nat × Nat) := [(2, 0x4)]
/-- A repetition used by the register tables. -/
def rep6x4 : List (Nat × Nat) := [(6, 0x4)]
/-- A repetition used by the register tables. -/
def rep64x4 : List (Nat × Nat) := [(64, 0x4)]
/-- A repetition used by the register tables. -/
def rep4x400000_2x400_4x100_64x4 : List (Nat × Nat) := [(4, 0x400000), (2, 0x400), (4, 0x100), (64, 0x4)]
/-- A repetition used by the register tables. -/
def rep4x400000_2x8000_3x1400_1025x4 : List (Nat × Nat) := [(4, 0x400000), (2, 0x8000), (3, 0x1400), (1025, 0x4)]
/-- A repetition used by the register tables. -/
def rep4x400000_2x40000_40960x4 : List (Nat × Nat) := [(4, 0x400000), (2, 0x40000), (40960, 0x4)]
/-- A repetition used by the register tables. -/
def rep4x400000_2x20000_9216x8 : List (Nat × Nat) := [(4, 0x400000), (2, 0x20000), (9216, 0x8)]
/-- A repetition used by the register tables. -/
def rep4x400000_2x4000_3x1400_1280x4 : List (Nat × Nat) := [(4, 0x400000), (2, 0x4000), (3, 0x1400), (1280, 0x4)]
/-- A repetition used by the register tables. -/
def rep4x400000_6x80_32x4 : List (Nat × Nat) := [(4, 0x400000), (6, 0x80), (32, 0x4)]
/-- A repetition used by the register tables. -/
def rep6x200_72x4 : List (Nat × Nat) := [(6, 0x200), (72, 0x4)]
/-- A repetition used by the register tables. -/
def rep4x100_6x10 : List (Nat × Nat) := [(4, 0x100), (6, 0x10)]
/-- A repetition used by the register tables. -/
def rep16x1000_3x400_72x4 : List (Nat × Nat) := [(16, 0x1000), (3, 0x400), (72, 0x4)]
/-- A repetition used by the register tables. -/
def rep1024x4 : List (Nat × Nat) := [(1024, 0x4)]

/-- Fields of the GLB block (spec/19). -/
inductive GlbF
  | idPart | idVariant | revIo | revCompute | fuseClen | serialSerial | partnerSerial | statusOut | statusLight
  | statusMarked | statusFault | statusNoimage | statusFrozen | statusObsup | statusPrime | statusWtvalid
  | statusLogfrz | walltimeTime | applyErrAddr | applyErrCause | applyErrSrc | applyErrValid | applyErrLastAddr
  | applyErrLastCause | applyErrLastSrc | applyErrCntCount | applyErrCntOvf | tagSelPath | tagInfoLen | tagInfoBad
  | tagDataData
  deriving DecidableEq, Repr

/-- Fields of the EPH block (spec/02). -/
inductive EphF
  | statusState | statusSlot | statusPatched | statusArbdone | rejectReason | rejectSource | rejectSection
  | rejectIdxIdx | imageIdId | arbImageArb | arbStoredArb | buildBuild | keysValid | keysRevoked | keysInuse
  | presetNum | presetGo | presetBad | swapStatFrame | swapStatCancel | dbgNonceNonce | dbgOpen | dbgScope
  | dbgFails | dbgRemain
  deriving DecidableEq, Repr

/-- Fields of the PWR block (spec/15). -/
inductive PwrF
  | stateState | stateStep | stateHoldupOk | stateRefclkOk | ctrlStandby | vinVin | vinIin | powerPin | powerPmax
  | limitW | limitAct | holdupEnergy | tempCompute | tempIo | temp2Hbm | temp2Max | thermAlarm | thermAlarms
  | strapPairRole | strapSmbaddr | pllLock | pllUnlocks | domOnOn | domPlanPlan | lastfailCause | startMs
  deriving DecidableEq, Repr

/-- Fields of the ALM block (spec/13). -/
inductive AlmF
  | recovObjects | recovSealed | recovRollback | recovLost | ckptMin | ckptNow | ckptBusy | ckptFromckpt
  | ckptTimeTime | busOwner | busQueued | pcyclesCount | cntObjwr | cntRawwr | saveLastus | saveOk
  deriving DecidableEq, Repr

/-- Fields of the LOG block (spec/13). -/
inductive LogF
  | ctrlTrig | ctrlRelease0 | ctrlRelease1 | ctrlPost | statFrozen | statSaving | statPend | statValid0
  | statValid1 | statKeep0 | statKeep1 | statLast | statCause | statSkipped | seqSeq | queueDepth | queueHigh
  | lostACount | lostDCount | lostMCount | slotFirstFirstseq
  deriving DecidableEq, Repr

/-- Fields of the PCI block (spec/16). -/
inductive PciF
  | linkSpeed | linkWidth | linkUp | bar2BaseAddr | vecEnMrd | vecEnCommit | vecEnRetire | evrBaseAddr | evrCfgEn
  | evrCfgLog2n | evrCfgClassmask | evrCfgThresh | evrCfgMod | evrProdProd | evrConsCons | evrStatLost
  | evrStatFull | errBadacc | errCa | errPoisoned | errAerunc
  deriving DecidableEq, Repr

/-- Fields of the DPR block (spec/03). -/
inductive DprF
  | linkUp | linkHpd | linkRate | linkLanes | linkDsc | linkPsr | linkLostcause | timingW | timingH | periodPeriod
  | frameDone | frameDiscard | frameNobuf
  deriving DecidableEq, Repr

/-- Fields of the ARC block (spec/14). -/
inductive ArcF
  | stateState | stateRingok | stateFlushing | stateBlocked | cfgSample | cfgKeymin | cfgFlushs | cfgPosts
  | cfgAutoinit | cfgRingen | headRseq | extHead | tailTail | ringDepth | ringPend | cntDeferred | cntDiscard
  | driveCapgb | driveTemp | driveCritwarn | rateBps
  deriving DecidableEq, Repr

/-- Fields of the CHN block (spec/17). -/
inductive ChnF
  | addrAddr | addrHead | addrN | addrOver | addrGen | ctrlWtset | ctrlTrigmask | ctrlWake | ctrlWakeAddr
  | wtSetTime | wtStatValid | wtStatSteps | wtErrErr | hopLat | corrCorr | fsCfgEn | fsCfgSrc | fsCfgClus
  | fsPeriodPeriod | wframeF | wsyncS | ccId | ccArm | ccArmed | ccErr | ccOutcome | ccDefers | ccCfgCut
  | ccMembersMask | ccArmedMask | ccFrameF | cntCrcerr | cntReenums
  deriving DecidableEq, Repr

/-- Fields of the PAR block (spec/17). -/
inductive ParF
  | statRole | statReady | statLockstep | statSelOwn | statSelPeer | statHbOk | statIdmatch | statLanes
  | statLasttrig | ctrlHandover | ctrlAllow | cfgK | cfgCwait | cntSecwrong | cntSampler | cntUndec | cntTakeovers
  | cnt2Mapdiff | cnt2Hbmiss | skewSkew | tkTimeTime
  deriving DecidableEq, Repr

/-- Fields of the FRS block (spec/10). -/
inductive FrsF
  | ctrlGrace | ctrlForceEn | tileTsize | tileCols | tileRows | tbaseBase | markedCount | markedCauses
  | flaggedCount | nextStaleTime | maxageMaxage | reaffirmLayer | reaffirmList | reaffirmCount | reaffirmAddrAddr
  | reaffirmStampStamp | reaffirmStatBusy | reaffirmStatQueued | reaffirmStatResult | reaffirmStatDone | occA0Red
  | occA0Green | occA1Blue | occB0Red | occB0Green | occB1Blue | force0Col0 | force0Row0 | force1Ncols
  | force1Nrows | digestD | digestFrameFrame | layerAgeAge | layerAgeStale | layerAgeReaff | layerAgeNocontent
  deriving DecidableEq, Repr

/-- Fields of the HBM block (spec/11). -/
inductive HbmF
  | fenceGo | fenceBusy | fenceDone | fenceLost | scrubCfgHbmh | scrubCfgPltm | scrubCfgAlmh | scrubStatHbmerr
  | scrubStatPlterr | scrubStatAlmerr | scrubStatLate | rgnCtrlDiagFreeze | rgnCtrlFreeze | rgnCtrlRecover
  | rgnCtrlAutorecover | rgnStatState | rgnStatCause | rgnStatSnap | rgnStatTries | frzInfoPc | frzInfoKind
  | frzInfoPort | frzInfoRdq | frzInfoWrq | frzAddrAddr | frzSrcPath | frzTimeTime | profileNum | profileFailed
  | pwrIdle | pwrPdx | pwrSridle | unmappedReads | unmappedWrites | dropwrCount | qosTarget | qosStatMiss
  | qosStatMaxlat | fcElastic | fcReqset | fcCur | fcMinset | fcBusy | fcFcPending | fcRefused | fcCount
  | pcStatePwr | pcStateFailed | pcStateRemapped | pcStateSet | pcCntDeterr | pcCntPoison | pcCntWpar | pcCntScrub
  deriving DecidableEq, Repr

/-- Fields of the PIX block (spec/03). -/
inductive PixF
  | bgBlue | bgGreen | bgRed | cloneEn | cloneSrc | layerRetireLayer | layerRetireValid | layerRetireOvf
  | layerRetireFrame | layerCfgEn | layerCfgSrc | layerCfgDpin | layerCfgFmt | layerCfgAlpha | layerCfgClass
  | layerCfgCalpha | layerAddrAddr | layerStrideStride | layerPosX | layerPosY | layerCropXyCx | layerCropXyCy
  | layerCropWhW | layerCropWhH | layerFillFill | layerStampStamp | layerCntRepeat | layerCntDrop
  | layerErrLeaseviol | layerErrDataerr | layerErrLate
  deriving DecidableEq, Repr

/-- Fields of the CHR block (spec/06). -/
inductive ChrF
  | ctrlEn | commitReq | commitCancel | commitMode | commitNotify | commitGuard | commitArmed | commitStatFrame
  | commitFlagsLate | commitFlagsLatewr | commitFlagsWaited | commitFlagsCancelled | commitFlagsLatewrCnt
  | frameFrame | showFrame | mTimeTime | nextMTime | commitTimeTime | leadLead | periodMeasPeriod | lockSrc
  | lockDpin | lockRatio | lockLocked | lockPeer | lockPhasePhase | lockCfgSlew | lockCfgWin | lockErrErr
  | lockAdjAdj | heldAllow | heldHeld | heldPend | heldWake | heldFrameFrame | heldTolTol | heldCntEntries
  | heldCntLatewake | lenDlyDly
  deriving DecidableEq, Repr

/-- Fields of the TRI block (spec/07). -/
inductive TriF
  | ctrlEn | ctrlRetrain | ctrlRlane | stateLink | stateWorking | stateNwork | stateSpareUsed | stateRreq
  | stateRetlock | arrayGeomW | arrayGeomH | arrayCfgBands | arrayCfgP | arrayCfgReplay | arrayCfgSettle
  | arrayIdModel | cmdAdvAdv | sendWinWin | echoTmoTmo | laneCfgErrlim | cntResend | cntUnconf | cnt2Rackmiss
  | cnt2Alarms | tempTemp | tempAge | laneTapDeskew | laneTapFine | laneTapPre | laneTapPost | laneTapRx
  | laneErrPadmis | laneErrEchomis
  deriving DecidableEq, Repr

/-- Fields of the LSR block (spec/08). -/
inductive LsrF
  | policyPolicy | dimDim | fadeFadeT | fadeStartT | fadeStopT | dimStatDimeff | dimStatDuty | ceilCeil | ceilLimit
  | ceilCh | chopMinpw | diagN | diagNocover | outLightoff | outCause | outRearm | outStop | outStopped | outFading
  | intlkIn | intlkTripped | intlkRearm | intlkTrips | wearInterval | wearDue | wearDefers | lampBusy | lampPend
  | lampReloads | lampNottaken | lampSeq | litRed | litGreen | litBlue | tsenTemp | tsenValid | chCtrlEn
  | chCtrlRearm | chCtrlDiagnow | chStateState | chStateCause | chStateEmitter | chStateEmknown | chStateNlitH
  | chStateNlitL | bankNemit | bankNfull | bankNlow | bankNmin | bankTsen | patHPat | patLPat | badMask
  | vstrCfgVstep | vstrCfgVcomp | vstrOfsVofs | vstrOfsVstr | pdCfgDark | pdCfgMissfrac | diagCfgCode
  | diagCfgPdexp | thermTknee | thermTcut | slopeSlope | slopeDer | detCntOpen | detCntShort | detCntMissing
  | detCntIsolost | hoursMs | emitSec
  deriving DecidableEq, Repr

/-- Fields of the HEL block (spec/09). -/
inductive HelF
  | csCfgEn | csCfgDiv | csCfgSpimode | csStatValid | csStatRun | csStatMisscnt | csTxnDly | csTxnCmdlen
  | csTxnRdlen | csTxnRdofs | csCmdCmd | csResWord | csRawData | pwmCfgFreq | pwmDuty | pwmFull | isoLatLat
  | slotCtrlEn | slotCtrlMode | slotCtrlSatact | slotCtrlIload | slotCtrlSatclr | trigTmode | trigTsrc | trigPeriod
  | phasePhase | routeMtype | routeMidx | routeD0type | routeD0idx | routeD1type | routeD1idx | routeGate
  | cascadeN | cascadeScale | inOfs | inBlank | coefC | shift0Sff | shift0Sffl | shift0Sb0 | shift0Sb1 | shift0Sb2
  | shift1Sa1 | shift1Sa2 | shift1Ski | uminUmin | umaxUmax | safeSafe | openOpen | initInit | slewSlew | spSp
  | limitSatlim | limitOvrlim | outU | spwR | measM | integI | slotStatLimited | slotStatSat | slotStatSatfault
  | slotStatDark | slotStatSafe | slotStatOpenloop | slotStatOvrrun | cntOverrunCnt | cntMlost
  deriving DecidableEq, Repr

/-- Fields of the PLN block (spec/05). -/
inductive PlnF
  | ctrlEn | ctrlSchedPage | ctrlForceTonly | ctrlForceReduced | stateKind | stateAsupp | stateRcmp | stateTcause
  | stateRreq | stateNored | schedChkGo | schedChkBusy | schedChkValid0 | schedChkValid1 | schedChkReason
  | schedChkEntry | schedLoadSplitq | schedTailTail | rdleadLead | pbufBaseAddr | pbufStrideStride | planeSizeSize
  | frameFrame | rcmpCntBands | rcmpCntZero | modeCntTonly | modeCntAsupp | schedWord
  deriving DecidableEq, Repr

/-- Fields of the GEO block (spec/04). -/
inductive GeoF
  | ctrlWarpEn | ctrlBlendEn | ctrlIlutEn | ctrlMtxEn | ctrlUniEn | ctrlOlutEn | ctrlCorrEn | ctrlMeshPage
  | ctrlLutPage | ctrlUniPage | edgeColour | blendW0Left | blendW0Right | blendW1Top | blendW1Bottom | meshLoadGo
  | meshLoadPage | meshLoadBusy | meshLoadErr | meshSrcAddr | meshStatClamped | meshStatParity | mtxCoef
  | mtxDirCoef | mtxCorrCorr | colClipClip | colClipSat | plateBaseBase | platePitchPitch | plateLineLine
  | plateFrameFrame | blendGain | ilutEntry | olutEntry | meshDx | meshDy | uniG
  deriving DecidableEq, Repr

/-- Fields of the PLT block (spec/11). -/
inductive PltF
  | parCntParity | parCntPoison | fbCfgLayer | fbCfgKind | fbCfgDpin | fbCfgFmt | fbBaseBase | fbPitchPitch
  | fbXyCx | fbXyCy | fbWhW | fbWhH | fbStatTorn | fbStatViol | cacheFree | cacheLayers | cacheDrops | winerrCount
  deriving DecidableEq, Repr

/-- Fields of the TRN block (spec/12). -/
inductive TrnF
  | ctrlHost | cfgMinwHbm | cfgMinwTri | cfgMinwAdc | cfgTdrift | schedRetrainMin | schedDarkmin | schedApplytmo
  | pdcalDarkmax | pdcalDarkmarg | userpatPat | engCtrlGo | engCtrlAbort | engCtrlTarget | engCtrlIdx
  | engCtrlCluster | engCtrlPattern | engStatState | engStatDone | engStatPass | engStatStale | engStatExpired
  | engStatPrecond | engStatAt | engStatBursts | engRangeFirst | engRangeLast | engBurstLen | engBurstGap
  | engResultStart | engResultWidth | engResultChosen | engResultBit | engMapMap | biterrCount | adcPhase
  | adcNophase | adcStaged | hbmTapRd | hbmTapWr
  deriving DecidableEq, Repr

/-- Fields of the OBS block (spec/16/18). -/
inductive ObsF
  | cmdCmd | cmdTag | argArg | haddrAddr | hlenLen | doorbellRing | statusBusy | statusDone | statusOffline
  | statusCollide | replyStatus | replyTag | replyLenLen | retryMs | detailDetail | loadLoad | loadMean | loadPeak
  | loadShed | loadShedding | shedCntEntries | shedCntBusyreplies | wdogTimeout | wdogResets | wdogRecent
  | fwVersion | fwCopy | reqpageWord | reppageWord
  deriving DecidableEq, Repr

/-- Unit types (R35), by the name of the unit. -/
inductive UType
  | comp | layer | dpr | geo | geoCol | pln | chr | lane | lamp | intlk | tsen | lsrCh | cs | pwm | slot | frsEng | scrub | hbm | pc | bank | trn | alm | log | arc | nvme | pwr | dom | pll | pci | port | chn | par | transit | obs | cluster | region | die | pkg | d2d | eph | ls
  deriving DecidableEq, Repr

/-- The fields of the common status word that a unit stores (R16); EN, RUN and ABSENT follow from other state. -/
inductive StF | fatal | degr | mark | lastclass | errcnt
  deriving DecidableEq, Repr

/-- A register field of BAR0: a field of a register table, or a stored field of a unit's status word. -/
inductive Fld
  | glb (f : GlbF)
  | eph (f : EphF)
  | pwr (f : PwrF)
  | alm (f : AlmF)
  | log (f : LogF)
  | pci (f : PciF)
  | dpr (f : DprF)
  | arc (f : ArcF)
  | chn (f : ChnF)
  | par (f : ParF)
  | frs (f : FrsF)
  | hbm (f : HbmF)
  | pix (f : PixF)
  | chr (f : ChrF)
  | tri (f : TriF)
  | lsr (f : LsrF)
  | hel (f : HelF)
  | pln (f : PlnF)
  | geo (f : GeoF)
  | plt (f : PltF)
  | trn (f : TrnF)
  | obs (f : ObsF)
  | st (u : UType) (f : StF)
  deriving DecidableEq, Repr

/-- The key that orders fields in the register file. -/
def Fld.code : Fld → Nat
  | .glb f => 0 + f.ctorIdx
  | .eph f => 1000 + f.ctorIdx
  | .pwr f => 2000 + f.ctorIdx
  | .alm f => 3000 + f.ctorIdx
  | .log f => 4000 + f.ctorIdx
  | .pci f => 5000 + f.ctorIdx
  | .dpr f => 6000 + f.ctorIdx
  | .arc f => 7000 + f.ctorIdx
  | .chn f => 8000 + f.ctorIdx
  | .par f => 9000 + f.ctorIdx
  | .frs f => 10000 + f.ctorIdx
  | .hbm f => 11000 + f.ctorIdx
  | .pix f => 12000 + f.ctorIdx
  | .chr f => 13000 + f.ctorIdx
  | .tri f => 14000 + f.ctorIdx
  | .lsr f => 15000 + f.ctorIdx
  | .hel f => 16000 + f.ctorIdx
  | .pln f => 17000 + f.ctorIdx
  | .geo f => 18000 + f.ctorIdx
  | .plt f => 19000 + f.ctorIdx
  | .trn f => 20000 + f.ctorIdx
  | .obs f => 21000 + f.ctorIdx
  | .st u f => 100000 + u.ctorIdx * 8 + f.ctorIdx

/-- The register-table rows of the GLB block. -/
def GlbF.info : GlbF → FieldInfo
  | .idPart => .mk 0x0 repOne 1 0 16 .ro (.const 18432) .live
  | .idVariant => .mk 0x0 repOne 1 16 4 .ro .fuse .live
  | .revIo => .mk 0x4 repOne 1 0 16 .ro .fuse .live
  | .revCompute => .mk 0x4 repOne 1 16 16 .ro .fuse .live
  | .fuseClen => .mk 0x8 repOne 1 0 4 .ro .fuse .live
  | .serialSerial => .mk 0x10 repOne 2 0 64 .ro .fuse .live
  | .partnerSerial => .mk 0x18 repOne 2 0 64 .ro .fuse .live
  | .statusOut => .mk 0x20 repOne 1 0 8 .ro (.const 0) .live
  | .statusLight => .mk 0x20 repOne 1 8 4 .ro (.const 0) .live
  | .statusMarked => .mk 0x20 repOne 1 12 4 .ro (.const 0) .live
  | .statusFault => .mk 0x20 repOne 1 16 1 .ro (.const 0) .live
  | .statusNoimage => .mk 0x20 repOne 1 17 1 .ro (.const 0) .live
  | .statusFrozen => .mk 0x20 repOne 1 18 2 .ro (.const 0) .live
  | .statusObsup => .mk 0x20 repOne 1 20 1 .ro (.const 0) .live
  | .statusPrime => .mk 0x20 repOne 1 21 1 .ro (.const 0) .live
  | .statusWtvalid => .mk 0x20 repOne 1 22 1 .ro (.const 0) .live
  | .statusLogfrz => .mk 0x20 repOne 1 23 1 .ro (.const 0) .live
  | .walltimeTime => .mk 0x24 repOne 2 0 64 .ro (.const 0) .live
  | .applyErrAddr => .mk 0x30 repOne 1 0 26 .ro (.const 0) .live
  | .applyErrCause => .mk 0x30 repOne 1 26 3 .ro (.const 0) .live
  | .applyErrSrc => .mk 0x30 repOne 1 29 2 .ro (.const 0) .live
  | .applyErrValid => .mk 0x30 repOne 1 31 1 .w1c (.const 0) .live
  | .applyErrLastAddr => .mk 0x34 repOne 1 0 26 .ro (.const 0) .live
  | .applyErrLastCause => .mk 0x34 repOne 1 26 3 .ro (.const 0) .live
  | .applyErrLastSrc => .mk 0x34 repOne 1 29 2 .ro (.const 0) .live
  | .applyErrCntCount => .mk 0x38 repOne 1 0 16 .ro (.const 0) .live
  | .applyErrCntOvf => .mk 0x38 repOne 1 31 1 .ro (.const 0) .live
  | .tagSelPath => .mk 0x80 repOne 1 0 32 .rw (.const 0) .live
  | .tagInfoLen => .mk 0x84 repOne 1 0 9 .ro (.const 0) .live
  | .tagInfoBad => .mk 0x84 repOne 1 9 1 .ro (.const 0) .live
  | .tagDataData => .mk 0x100 rep64x4 1 0 32 .ro (.const 0) .live

/-- The fields of the GLB block, in table order. -/
def GlbF.all : List GlbF :=
  [GlbF.idPart, GlbF.idVariant, GlbF.revIo, GlbF.revCompute, GlbF.fuseClen, GlbF.serialSerial,
    GlbF.partnerSerial, GlbF.statusOut, GlbF.statusLight, GlbF.statusMarked, GlbF.statusFault, GlbF.statusNoimage,
    GlbF.statusFrozen, GlbF.statusObsup, GlbF.statusPrime, GlbF.statusWtvalid]
  ++ [GlbF.statusLogfrz, GlbF.walltimeTime, GlbF.applyErrAddr, GlbF.applyErrCause, GlbF.applyErrSrc, GlbF.applyErrValid,
    GlbF.applyErrLastAddr, GlbF.applyErrLastCause, GlbF.applyErrLastSrc, GlbF.applyErrCntCount, GlbF.applyErrCntOvf, GlbF.tagSelPath,
    GlbF.tagInfoLen, GlbF.tagInfoBad, GlbF.tagDataData]

/-- The register-table rows of the EPH block. -/
def EphF.info : EphF → FieldInfo
  | .statusState => .mk 0x10000 repOne 1 0 4 .ro (.const 0) .live
  | .statusSlot => .mk 0x10000 repOne 1 4 1 .ro (.const 0) .live
  | .statusPatched => .mk 0x10000 repOne 1 5 1 .ro (.const 0) .live
  | .statusArbdone => .mk 0x10000 repOne 1 6 1 .ro (.const 0) .live
  | .rejectReason => .mk 0x10004 repOne 1 0 8 .ro (.const 0) .live
  | .rejectSource => .mk 0x10004 repOne 1 8 2 .ro (.const 0) .live
  | .rejectSection => .mk 0x10004 repOne 1 16 16 .ro (.const 0) .live
  | .rejectIdxIdx => .mk 0x10008 repOne 1 0 32 .ro (.const 0) .live
  | .imageIdId => .mk 0x10010 rep4x4 1 0 32 .ro (.const 0) .live
  | .arbImageArb => .mk 0x10020 repOne 1 0 32 .ro (.const 0) .live
  | .arbStoredArb => .mk 0x10024 repOne 1 0 32 .ro .alm .live
  | .buildBuild => .mk 0x10028 repOne 2 0 64 .ro (.const 0) .live
  | .keysValid => .mk 0x10030 repOne 1 0 4 .ro .alm .live
  | .keysRevoked => .mk 0x10030 repOne 1 4 4 .ro .alm .live
  | .keysInuse => .mk 0x10030 repOne 1 8 2 .ro (.const 0) .live
  | .presetNum => .mk 0x10040 repOne 1 0 7 .rw (.const 0) .live
  | .presetGo => .mk 0x10040 repOne 1 7 1 .wo (.const 0) .live
  | .presetBad => .mk 0x10040 repOne 1 8 1 .ro (.const 0) .live
  | .swapStatFrame => .mk 0x10050 rep4x4 1 0 31 .ro (.const 0) .live
  | .swapStatCancel => .mk 0x10050 rep4x4 1 31 1 .ro (.const 0) .live
  | .dbgNonceNonce => .mk 0x10060 repOne 2 0 64 .ro .random .live
  | .dbgOpen => .mk 0x10068 repOne 1 0 1 .ro (.const 0) .live
  | .dbgScope => .mk 0x10068 repOne 1 1 3 .ro (.const 0) .live
  | .dbgFails => .mk 0x10068 repOne 1 4 4 .ro (.const 0) .live
  | .dbgRemain => .mk 0x10068 repOne 1 8 24 .ro (.const 0) .live

/-- The fields of the EPH block, in table order. -/
def EphF.all : List EphF :=
  [EphF.statusState, EphF.statusSlot, EphF.statusPatched, EphF.statusArbdone, EphF.rejectReason, EphF.rejectSource,
    EphF.rejectSection, EphF.rejectIdxIdx, EphF.imageIdId, EphF.arbImageArb, EphF.arbStoredArb, EphF.buildBuild,
    EphF.keysValid, EphF.keysRevoked, EphF.keysInuse, EphF.presetNum]
  ++ [EphF.presetGo, EphF.presetBad, EphF.swapStatFrame, EphF.swapStatCancel, EphF.dbgNonceNonce, EphF.dbgOpen,
    EphF.dbgScope, EphF.dbgFails, EphF.dbgRemain]

/-- The register-table rows of the PWR block. -/
def PwrF.info : PwrF → FieldInfo
  | .stateState => .mk 0x20004 repOne 1 0 3 .ro (.const 0) .live
  | .stateStep => .mk 0x20004 repOne 1 4 4 .ro (.const 0) .live
  | .stateHoldupOk => .mk 0x20004 repOne 1 8 1 .ro (.const 0) .live
  | .stateRefclkOk => .mk 0x20004 repOne 1 9 1 .ro (.const 0) .live
  | .ctrlStandby => .mk 0x20008 repOne 1 0 1 .w1s (.const 0) .live
  | .vinVin => .mk 0x2000C repOne 1 0 16 .ro (.const 0) .live
  | .vinIin => .mk 0x2000C repOne 1 16 16 .ro (.const 0) .live
  | .powerPin => .mk 0x20010 repOne 1 0 16 .ro (.const 0) .live
  | .powerPmax => .mk 0x20010 repOne 1 16 16 .rc (.const 0) .live
  | .limitW => .mk 0x20014 repOne 1 0 8 .rw (.const 0) .live
  | .limitAct => .mk 0x20014 repOne 1 8 3 .ro (.const 0) .live
  | .holdupEnergy => .mk 0x20018 repOne 1 0 16 .ro (.const 0) .live
  | .tempCompute => .mk 0x2001C repOne 1 0 16 .ro (.const 0) .live
  | .tempIo => .mk 0x2001C repOne 1 16 16 .ro (.const 0) .live
  | .temp2Hbm => .mk 0x20020 repOne 1 0 16 .ro (.const 0) .live
  | .temp2Max => .mk 0x20020 repOne 1 16 16 .rc (.const 0) .live
  | .thermAlarm => .mk 0x20024 repOne 1 0 1 .ro (.const 0) .live
  | .thermAlarms => .mk 0x20024 repOne 1 8 8 .ro (.const 0) .live
  | .strapPairRole => .mk 0x20028 repOne 1 0 2 .ro .strap .static
  | .strapSmbaddr => .mk 0x20028 repOne 1 2 3 .ro .strap .static
  | .pllLock => .mk 0x2002C repOne 1 0 8 .ro (.const 0) .live
  | .pllUnlocks => .mk 0x2002C repOne 1 8 8 .ro (.const 0) .live
  | .domOnOn => .mk 0x20030 repOne 2 0 50 .ro (.const 1) .live
  | .domPlanPlan => .mk 0x20038 repOne 2 0 50 .ro .eph .static
  | .lastfailCause => .mk 0x20040 repOne 1 0 3 .ro .alm .live
  | .startMs => .mk 0x20044 repOne 1 0 16 .ro (.const 0) .live

/-- The fields of the PWR block, in table order. -/
def PwrF.all : List PwrF :=
  [PwrF.stateState, PwrF.stateStep, PwrF.stateHoldupOk, PwrF.stateRefclkOk, PwrF.ctrlStandby, PwrF.vinVin,
    PwrF.vinIin, PwrF.powerPin, PwrF.powerPmax, PwrF.limitW, PwrF.limitAct, PwrF.holdupEnergy,
    PwrF.tempCompute, PwrF.tempIo, PwrF.temp2Hbm, PwrF.temp2Max]
  ++ [PwrF.thermAlarm, PwrF.thermAlarms, PwrF.strapPairRole, PwrF.strapSmbaddr, PwrF.pllLock, PwrF.pllUnlocks,
    PwrF.domOnOn, PwrF.domPlanPlan, PwrF.lastfailCause, PwrF.startMs]

/-- The register-table rows of the ALM block. -/
def AlmF.info : AlmF → FieldInfo
  | .recovObjects => .mk 0x30004 repOne 1 0 8 .ro (.const 0) .live
  | .recovSealed => .mk 0x30004 repOne 1 8 8 .ro (.const 0) .live
  | .recovRollback => .mk 0x30004 repOne 1 16 8 .ro (.const 0) .live
  | .recovLost => .mk 0x30004 repOne 1 24 8 .ro (.const 0) .live
  | .ckptMin => .mk 0x30008 repOne 1 0 8 .rw (.const 10) .live
  | .ckptNow => .mk 0x30008 repOne 1 8 1 .wo (.const 0) .live
  | .ckptBusy => .mk 0x30008 repOne 1 9 1 .ro (.const 0) .live
  | .ckptFromckpt => .mk 0x30008 repOne 1 10 1 .ro (.const 0) .live
  | .ckptTimeTime => .mk 0x3000C repOne 2 0 64 .ro (.const 0) .live
  | .busOwner => .mk 0x30014 repOne 1 0 3 .ro (.const 0) .live
  | .busQueued => .mk 0x30014 repOne 1 8 8 .ro (.const 0) .live
  | .pcyclesCount => .mk 0x30018 repOne 2 0 64 .ro .alm .live
  | .cntObjwr => .mk 0x30020 repOne 1 0 16 .ro (.const 0) .live
  | .cntRawwr => .mk 0x30020 repOne 1 16 16 .ro (.const 0) .live
  | .saveLastus => .mk 0x30024 repOne 1 0 16 .ro .alm .live
  | .saveOk => .mk 0x30024 repOne 1 16 1 .ro .alm .live

/-- The fields of the ALM block, in table order. -/
def AlmF.all : List AlmF :=
  [AlmF.recovObjects, AlmF.recovSealed, AlmF.recovRollback, AlmF.recovLost, AlmF.ckptMin, AlmF.ckptNow,
    AlmF.ckptBusy, AlmF.ckptFromckpt, AlmF.ckptTimeTime, AlmF.busOwner, AlmF.busQueued, AlmF.pcyclesCount,
    AlmF.cntObjwr, AlmF.cntRawwr, AlmF.saveLastus, AlmF.saveOk]

/-- The register-table rows of the LOG block. -/
def LogF.info : LogF → FieldInfo
  | .ctrlTrig => .mk 0x40004 repOne 1 0 1 .wo (.const 0) .live
  | .ctrlRelease0 => .mk 0x40004 repOne 1 1 1 .wo (.const 0) .live
  | .ctrlRelease1 => .mk 0x40004 repOne 1 2 1 .wo (.const 0) .live
  | .ctrlPost => .mk 0x40004 repOne 1 16 10 .rw (.const 64) .live
  | .statFrozen => .mk 0x40008 repOne 1 0 1 .ro (.const 0) .live
  | .statSaving => .mk 0x40008 repOne 1 1 1 .ro (.const 0) .live
  | .statPend => .mk 0x40008 repOne 1 2 1 .ro (.const 0) .live
  | .statValid0 => .mk 0x40008 repOne 1 3 1 .ro .alm .live
  | .statValid1 => .mk 0x40008 repOne 1 4 1 .ro .alm .live
  | .statKeep0 => .mk 0x40008 repOne 1 5 1 .ro .alm .live
  | .statKeep1 => .mk 0x40008 repOne 1 6 1 .ro .alm .live
  | .statLast => .mk 0x40008 repOne 1 7 1 .ro .alm .live
  | .statCause => .mk 0x40008 repOne 1 8 3 .ro (.const 0) .live
  | .statSkipped => .mk 0x40008 repOne 1 16 16 .ro (.const 0) .live
  | .seqSeq => .mk 0x4000C repOne 1 0 32 .ro .alm .live
  | .queueDepth => .mk 0x40010 repOne 1 0 9 .ro (.const 0) .live
  | .queueHigh => .mk 0x40010 repOne 1 16 9 .rc (.const 0) .live
  | .lostACount => .mk 0x40014 repOne 1 0 32 .ro .alm .live
  | .lostDCount => .mk 0x40018 repOne 1 0 32 .ro .alm .live
  | .lostMCount => .mk 0x4001C repOne 1 0 32 .ro .alm .live
  | .slotFirstFirstseq => .mk 0x40020 rep2x4 1 0 32 .ro .alm .live

/-- The fields of the LOG block, in table order. -/
def LogF.all : List LogF :=
  [LogF.ctrlTrig, LogF.ctrlRelease0, LogF.ctrlRelease1, LogF.ctrlPost, LogF.statFrozen, LogF.statSaving,
    LogF.statPend, LogF.statValid0, LogF.statValid1, LogF.statKeep0, LogF.statKeep1, LogF.statLast,
    LogF.statCause, LogF.statSkipped, LogF.seqSeq, LogF.queueDepth]
  ++ [LogF.queueHigh, LogF.lostACount, LogF.lostDCount, LogF.lostMCount, LogF.slotFirstFirstseq]

/-- The register-table rows of the PCI block. -/
def PciF.info : PciF → FieldInfo
  | .linkSpeed => .mk 0x80004 repOne 1 0 4 .ro (.const 0) .live
  | .linkWidth => .mk 0x80004 repOne 1 4 6 .ro (.const 0) .live
  | .linkUp => .mk 0x80004 repOne 1 10 1 .ro (.const 0) .live
  | .bar2BaseAddr => .mk 0x80008 repOne 2 28 6 .rw (.const 0) .live
  | .vecEnMrd => .mk 0x80010 repOne 1 0 4 .rw (.const 0) .live
  | .vecEnCommit => .mk 0x80010 repOne 1 4 4 .rw (.const 0) .live
  | .vecEnRetire => .mk 0x80010 repOne 1 8 4 .rw (.const 0) .live
  | .evrBaseAddr => .mk 0x80020 repOne 2 12 52 .rw (.const 0) .static
  | .evrCfgEn => .mk 0x80028 repOne 1 0 1 .rw (.const 0) .live
  | .evrCfgLog2n => .mk 0x80028 repOne 1 1 5 .rw (.const 8) .static
  | .evrCfgClassmask => .mk 0x80028 repOne 1 6 5 .rw (.const 31) .live
  | .evrCfgThresh => .mk 0x80028 repOne 1 16 8 .rw (.const 16) .live
  | .evrCfgMod => .mk 0x80028 repOne 1 24 8 .rw (.const 10) .live
  | .evrProdProd => .mk 0x8002C repOne 1 0 16 .ro (.const 0) .live
  | .evrConsCons => .mk 0x80030 repOne 1 0 16 .rw (.const 0) .live
  | .evrStatLost => .mk 0x80034 repOne 1 0 16 .ro (.const 0) .live
  | .evrStatFull => .mk 0x80034 repOne 1 16 1 .ro (.const 0) .live
  | .errBadacc => .mk 0x80040 repOne 1 0 8 .ro (.const 0) .live
  | .errCa => .mk 0x80040 repOne 1 8 8 .ro (.const 0) .live
  | .errPoisoned => .mk 0x80040 repOne 1 16 8 .ro (.const 0) .live
  | .errAerunc => .mk 0x80040 repOne 1 24 8 .ro (.const 0) .live

/-- The fields of the PCI block, in table order. -/
def PciF.all : List PciF :=
  [PciF.linkSpeed, PciF.linkWidth, PciF.linkUp, PciF.bar2BaseAddr, PciF.vecEnMrd, PciF.vecEnCommit,
    PciF.vecEnRetire, PciF.evrBaseAddr, PciF.evrCfgEn, PciF.evrCfgLog2n, PciF.evrCfgClassmask, PciF.evrCfgThresh,
    PciF.evrCfgMod, PciF.evrProdProd, PciF.evrConsCons, PciF.evrStatLost]
  ++ [PciF.evrStatFull, PciF.errBadacc, PciF.errCa, PciF.errPoisoned, PciF.errAerunc]

/-- The register-table rows of the DPR block. -/
def DprF.info : DprF → FieldInfo
  | .linkUp => .mk 0x90000 rep4x100 1 0 1 .ro (.const 0) .live
  | .linkHpd => .mk 0x90000 rep4x100 1 1 1 .ro (.const 0) .live
  | .linkRate => .mk 0x90000 rep4x100 1 2 3 .ro (.const 0) .live
  | .linkLanes => .mk 0x90000 rep4x100 1 5 3 .ro (.const 0) .live
  | .linkDsc => .mk 0x90000 rep4x100 1 8 1 .ro (.const 0) .live
  | .linkPsr => .mk 0x90000 rep4x100 1 9 2 .ro (.const 0) .live
  | .linkLostcause => .mk 0x90000 rep4x100 1 11 4 .ro (.const 0) .live
  | .timingW => .mk 0x90004 rep4x100 1 0 13 .ro (.const 0) .live
  | .timingH => .mk 0x90004 rep4x100 1 16 13 .ro (.const 0) .live
  | .periodPeriod => .mk 0x90008 rep4x100 1 0 32 .ro (.const 0) .live
  | .frameDone => .mk 0x9000C rep4x100 1 0 16 .ro (.const 0) .live
  | .frameDiscard => .mk 0x9000C rep4x100 1 16 8 .ro (.const 0) .live
  | .frameNobuf => .mk 0x9000C rep4x100 1 24 8 .ro (.const 0) .live

/-- The fields of the DPR block, in table order. -/
def DprF.all : List DprF :=
  [DprF.linkUp, DprF.linkHpd, DprF.linkRate, DprF.linkLanes, DprF.linkDsc, DprF.linkPsr,
    DprF.linkLostcause, DprF.timingW, DprF.timingH, DprF.periodPeriod, DprF.frameDone, DprF.frameDiscard,
    DprF.frameNobuf]

/-- The register-table rows of the ARC block. -/
def ArcF.info : ArcF → FieldInfo
  | .stateState => .mk 0xA0008 repOne 1 0 3 .ro (.const 0) .live
  | .stateRingok => .mk 0xA0008 repOne 1 3 1 .ro (.const 0) .live
  | .stateFlushing => .mk 0xA0008 repOne 1 4 1 .ro (.const 0) .live
  | .stateBlocked => .mk 0xA0008 repOne 1 5 1 .ro (.const 0) .live
  | .cfgSample => .mk 0xA000C repOne 1 0 6 .rw (.const 1) .live
  | .cfgKeymin => .mk 0xA000C repOne 1 8 6 .rw (.const 10) .live
  | .cfgFlushs => .mk 0xA000C repOne 1 16 4 .rw (.const 1) .live
  | .cfgPosts => .mk 0xA000C repOne 1 20 4 .rw (.const 2) .live
  | .cfgAutoinit => .mk 0xA000C repOne 1 24 1 .rw (.const 1) .live
  | .cfgRingen => .mk 0xA000C repOne 1 25 1 .rw (.const 1) .live
  | .headRseq => .mk 0xA0010 repOne 2 0 64 .ro (.const 0) .live
  | .extHead => .mk 0xA0018 repOne 1 0 20 .ro (.const 0) .live
  | .tailTail => .mk 0xA001C repOne 1 0 20 .ro (.const 0) .live
  | .ringDepth => .mk 0xA0020 repOne 1 0 16 .ro (.const 0) .live
  | .ringPend => .mk 0xA0020 repOne 1 16 16 .ro (.const 0) .live
  | .cntDeferred => .mk 0xA0024 repOne 1 0 16 .ro (.const 0) .live
  | .cntDiscard => .mk 0xA0024 repOne 1 16 16 .ro (.const 0) .live
  | .driveCapgb => .mk 0xA0028 repOne 1 0 16 .ro (.const 0) .live
  | .driveTemp => .mk 0xA0028 repOne 1 16 8 .ro (.const 0) .live
  | .driveCritwarn => .mk 0xA0028 repOne 1 24 8 .ro (.const 0) .live
  | .rateBps => .mk 0xA002C repOne 1 0 32 .ro (.const 0) .live

/-- The fields of the ARC block, in table order. -/
def ArcF.all : List ArcF :=
  [ArcF.stateState, ArcF.stateRingok, ArcF.stateFlushing, ArcF.stateBlocked, ArcF.cfgSample, ArcF.cfgKeymin,
    ArcF.cfgFlushs, ArcF.cfgPosts, ArcF.cfgAutoinit, ArcF.cfgRingen, ArcF.headRseq, ArcF.extHead,
    ArcF.tailTail, ArcF.ringDepth, ArcF.ringPend, ArcF.cntDeferred]
  ++ [ArcF.cntDiscard, ArcF.driveCapgb, ArcF.driveTemp, ArcF.driveCritwarn, ArcF.rateBps]

/-- The register-table rows of the CHN block. -/
def ChnF.info : ChnF → FieldInfo
  | .addrAddr => .mk 0xB000C repOne 1 0 7 .ro (.const 0) .live
  | .addrHead => .mk 0xB000C repOne 1 7 1 .ro (.const 0) .live
  | .addrN => .mk 0xB000C repOne 1 8 7 .ro (.const 0) .live
  | .addrOver => .mk 0xB000C repOne 1 15 1 .ro (.const 0) .live
  | .addrGen => .mk 0xB000C repOne 1 24 8 .ro (.const 0) .live
  | .ctrlWtset => .mk 0xB0010 repOne 1 0 1 .w1s (.const 0) .live
  | .ctrlTrigmask => .mk 0xB0010 repOne 1 1 3 .rw (.const 7) .live
  | .ctrlWake => .mk 0xB0010 repOne 1 4 1 .wo (.const 0) .live
  | .ctrlWakeAddr => .mk 0xB0010 repOne 1 8 7 .rw (.const 0) .live
  | .wtSetTime => .mk 0xB0014 repOne 2 0 64 .rw (.const 0) .live
  | .wtStatValid => .mk 0xB001C repOne 1 0 1 .ro (.const 0) .live
  | .wtStatSteps => .mk 0xB001C repOne 1 8 8 .ro (.const 0) .live
  | .wtErrErr => .mk 0xB0020 repOne 1 0 32 .ro (.const 0) .live
  | .hopLat => .mk 0xB0024 repOne 1 0 24 .ro (.const 0) .live
  | .corrCorr => .mk 0xB0028 repOne 1 0 32 .ro (.const 0) .live
  | .fsCfgEn => .mk 0xB002C repOne 1 0 1 .rw (.const 1) .live
  | .fsCfgSrc => .mk 0xB002C repOne 1 1 1 .rw (.const 0) .live
  | .fsCfgClus => .mk 0xB002C repOne 1 2 2 .rw (.const 0) .live
  | .fsPeriodPeriod => .mk 0xB0030 repOne 1 0 27 .rw (.const 6666667) .live
  | .wframeF => .mk 0xB0034 repOne 2 0 64 .ro (.const 0) .live
  | .wsyncS => .mk 0xB003C repOne 2 0 64 .ro (.const 0) .live
  | .ccId => .mk 0xB0044 repOne 1 0 8 .rw (.const 0) .live
  | .ccArm => .mk 0xB0044 repOne 1 8 1 .w1s (.const 0) .live
  | .ccArmed => .mk 0xB0044 repOne 1 9 1 .ro (.const 0) .live
  | .ccErr => .mk 0xB0044 repOne 1 10 1 .ro (.const 0) .live
  | .ccOutcome => .mk 0xB0044 repOne 1 11 3 .ro (.const 0) .live
  | .ccDefers => .mk 0xB0044 repOne 1 16 4 .ro (.const 0) .live
  | .ccCfgCut => .mk 0xB0048 repOne 1 0 10 .rw (.const 50) .live
  | .ccMembersMask => .mk 0xB004C repOne 2 0 64 .rw (.const 0) .live
  | .ccArmedMask => .mk 0xB0054 repOne 2 0 64 .ro (.const 0) .live
  | .ccFrameF => .mk 0xB005C repOne 2 0 64 .ro (.const 0) .live
  | .cntCrcerr => .mk 0xB0064 repOne 1 0 16 .ro (.const 0) .live
  | .cntReenums => .mk 0xB0064 repOne 1 16 16 .ro (.const 0) .live

/-- The fields of the CHN block, in table order. -/
def ChnF.all : List ChnF :=
  [ChnF.addrAddr, ChnF.addrHead, ChnF.addrN, ChnF.addrOver, ChnF.addrGen, ChnF.ctrlWtset,
    ChnF.ctrlTrigmask, ChnF.ctrlWake, ChnF.ctrlWakeAddr, ChnF.wtSetTime, ChnF.wtStatValid, ChnF.wtStatSteps,
    ChnF.wtErrErr, ChnF.hopLat, ChnF.corrCorr, ChnF.fsCfgEn]
  ++ [ChnF.fsCfgSrc, ChnF.fsCfgClus, ChnF.fsPeriodPeriod, ChnF.wframeF, ChnF.wsyncS, ChnF.ccId,
    ChnF.ccArm, ChnF.ccArmed, ChnF.ccErr, ChnF.ccOutcome, ChnF.ccDefers, ChnF.ccCfgCut,
    ChnF.ccMembersMask, ChnF.ccArmedMask, ChnF.ccFrameF, ChnF.cntCrcerr]
  ++ [ChnF.cntReenums]

/-- The register-table rows of the PAR block. -/
def ParF.info : ParF → FieldInfo
  | .statRole => .mk 0xC0008 repOne 1 0 2 .ro .strap .live
  | .statReady => .mk 0xC0008 repOne 1 2 1 .ro (.const 0) .live
  | .statLockstep => .mk 0xC0008 repOne 1 3 1 .ro (.const 0) .live
  | .statSelOwn => .mk 0xC0008 repOne 1 4 1 .ro (.const 0) .live
  | .statSelPeer => .mk 0xC0008 repOne 1 5 1 .ro (.const 0) .live
  | .statHbOk => .mk 0xC0008 repOne 1 6 1 .ro (.const 0) .live
  | .statIdmatch => .mk 0xC0008 repOne 1 7 1 .ro (.const 0) .live
  | .statLanes => .mk 0xC0008 repOne 1 8 4 .ro (.const 0) .live
  | .statLasttrig => .mk 0xC0008 repOne 1 12 3 .ro (.const 0) .live
  | .ctrlHandover => .mk 0xC000C repOne 1 0 1 .w1s (.const 0) .live
  | .ctrlAllow => .mk 0xC000C repOne 1 1 1 .rw (.const 1) .live
  | .cfgK => .mk 0xC0010 repOne 1 0 8 .rw (.const 4) .live
  | .cfgCwait => .mk 0xC0010 repOne 1 8 4 .rw (.const 2) .live
  | .cntSecwrong => .mk 0xC0014 repOne 1 0 8 .ro (.const 0) .live
  | .cntSampler => .mk 0xC0014 repOne 1 8 8 .ro (.const 0) .live
  | .cntUndec => .mk 0xC0014 repOne 1 16 8 .ro (.const 0) .live
  | .cntTakeovers => .mk 0xC0014 repOne 1 24 8 .ro (.const 0) .live
  | .cnt2Mapdiff => .mk 0xC0018 repOne 1 0 16 .ro (.const 0) .live
  | .cnt2Hbmiss => .mk 0xC0018 repOne 1 16 16 .ro (.const 0) .live
  | .skewSkew => .mk 0xC001C repOne 1 0 16 .ro (.const 0) .live
  | .tkTimeTime => .mk 0xC0020 repOne 2 0 64 .ro (.const 0) .live

/-- The fields of the PAR block, in table order. -/
def ParF.all : List ParF :=
  [ParF.statRole, ParF.statReady, ParF.statLockstep, ParF.statSelOwn, ParF.statSelPeer, ParF.statHbOk,
    ParF.statIdmatch, ParF.statLanes, ParF.statLasttrig, ParF.ctrlHandover, ParF.ctrlAllow, ParF.cfgK,
    ParF.cfgCwait, ParF.cntSecwrong, ParF.cntSampler, ParF.cntUndec]
  ++ [ParF.cntTakeovers, ParF.cnt2Mapdiff, ParF.cnt2Hbmiss, ParF.skewSkew, ParF.tkTimeTime]

/-- The register-table rows of the FRS block. -/
def FrsF.info : FrsF → FieldInfo
  | .ctrlGrace => .mk 0x1200000 rep4x400000 1 0 4 .rw .eph .meridian
  | .ctrlForceEn => .mk 0x1200000 rep4x400000 1 8 1 .rw (.const 0) .meridian
  | .tileTsize => .mk 0x1200004 rep4x400000 1 0 2 .ro .eph .static
  | .tileCols => .mk 0x1200004 rep4x400000 1 4 9 .ro .eph .static
  | .tileRows => .mk 0x1200004 rep4x400000 1 16 8 .ro .eph .static
  | .tbaseBase => .mk 0x1200008 rep4x400000 1 0 17 .ro .eph .static
  | .markedCount => .mk 0x120000C rep4x400000 1 0 17 .ro (.const 0) .live
  | .markedCauses => .mk 0x120000C rep4x400000 1 24 8 .ro (.const 0) .live
  | .flaggedCount => .mk 0x1200010 rep4x400000 1 0 17 .ro (.const 0) .live
  | .nextStaleTime => .mk 0x1200014 rep4x400000 2 0 64 .ro (.const 18446744073709551615) .live
  | .maxageMaxage => .mk 0x1200020 rep4x400000_8x4 1 0 16 .rw .eph .meridian
  | .reaffirmLayer => .mk 0x1200040 rep4x400000 1 0 3 .wo (.const 0) .live
  | .reaffirmList => .mk 0x1200040 rep4x400000 1 3 1 .wo (.const 0) .live
  | .reaffirmCount => .mk 0x1200040 rep4x400000 1 16 13 .wo (.const 0) .live
  | .reaffirmAddrAddr => .mk 0x1200044 rep4x400000 2 2 32 .rw (.const 0) .live
  | .reaffirmStampStamp => .mk 0x120004C rep4x400000 2 0 64 .rw (.const 0) .live
  | .reaffirmStatBusy => .mk 0x1200054 rep4x400000 1 0 1 .ro (.const 0) .live
  | .reaffirmStatQueued => .mk 0x1200054 rep4x400000 1 1 1 .ro (.const 0) .live
  | .reaffirmStatResult => .mk 0x1200054 rep4x400000 1 2 3 .ro (.const 0) .live
  | .reaffirmStatDone => .mk 0x1200054 rep4x400000 1 16 16 .ro (.const 0) .live
  | .occA0Red => .mk 0x1200060 rep4x400000 1 0 16 .rw (.const 32768) .meridian
  | .occA0Green => .mk 0x1200060 rep4x400000 1 16 16 .rw (.const 32768) .meridian
  | .occA1Blue => .mk 0x1200064 rep4x400000 1 0 16 .rw (.const 32768) .meridian
  | .occB0Red => .mk 0x1200068 rep4x400000 1 0 16 .rw (.const 0) .meridian
  | .occB0Green => .mk 0x1200068 rep4x400000 1 16 16 .rw (.const 0) .meridian
  | .occB1Blue => .mk 0x120006C rep4x400000 1 0 16 .rw (.const 0) .meridian
  | .force0Col0 => .mk 0x1200070 rep4x400000 1 0 9 .rw (.const 0) .meridian
  | .force0Row0 => .mk 0x1200070 rep4x400000 1 16 8 .rw (.const 0) .meridian
  | .force1Ncols => .mk 0x1200074 rep4x400000 1 0 9 .rw (.const 0) .meridian
  | .force1Nrows => .mk 0x1200074 rep4x400000 1 16 8 .rw (.const 0) .meridian
  | .digestD => .mk 0x1200080 rep4x400000_8x4 1 0 32 .ro (.const 0) .live
  | .digestFrameFrame => .mk 0x12000A0 rep4x400000 2 0 64 .ro (.const 0) .live
  | .layerAgeAge => .mk 0x12000C0 rep4x400000_8x4 1 0 16 .ro (.const 0) .live
  | .layerAgeStale => .mk 0x12000C0 rep4x400000_8x4 1 16 1 .ro (.const 0) .live
  | .layerAgeReaff => .mk 0x12000C0 rep4x400000_8x4 1 17 1 .ro (.const 0) .live
  | .layerAgeNocontent => .mk 0x12000C0 rep4x400000_8x4 1 18 1 .ro (.const 0) .live

/-- The fields of the FRS block, in table order. -/
def FrsF.all : List FrsF :=
  [FrsF.ctrlGrace, FrsF.ctrlForceEn, FrsF.tileTsize, FrsF.tileCols, FrsF.tileRows, FrsF.tbaseBase,
    FrsF.markedCount, FrsF.markedCauses, FrsF.flaggedCount, FrsF.nextStaleTime, FrsF.maxageMaxage, FrsF.reaffirmLayer,
    FrsF.reaffirmList, FrsF.reaffirmCount, FrsF.reaffirmAddrAddr, FrsF.reaffirmStampStamp]
  ++ [FrsF.reaffirmStatBusy, FrsF.reaffirmStatQueued, FrsF.reaffirmStatResult, FrsF.reaffirmStatDone, FrsF.occA0Red, FrsF.occA0Green,
    FrsF.occA1Blue, FrsF.occB0Red, FrsF.occB0Green, FrsF.occB1Blue, FrsF.force0Col0, FrsF.force0Row0,
    FrsF.force1Ncols, FrsF.force1Nrows, FrsF.digestD, FrsF.digestFrameFrame]
  ++ [FrsF.layerAgeAge, FrsF.layerAgeStale, FrsF.layerAgeReaff, FrsF.layerAgeNocontent]

/-- The register-table rows of the HBM block. -/
def HbmF.info : HbmF → FieldInfo
  | .fenceGo => .mk 0xE0000 repOne 1 0 1 .wo (.const 0) .live
  | .fenceBusy => .mk 0xE0000 repOne 1 1 1 .ro (.const 0) .live
  | .fenceDone => .mk 0xE0000 repOne 1 2 1 .ro (.const 0) .live
  | .fenceLost => .mk 0xE0000 repOne 1 3 1 .ro (.const 0) .live
  | .scrubCfgHbmh => .mk 0xE0010 repOne 1 0 8 .rw (.const 24) .live
  | .scrubCfgPltm => .mk 0xE0010 repOne 1 8 8 .rw (.const 60) .live
  | .scrubCfgAlmh => .mk 0xE0010 repOne 1 16 8 .rw (.const 24) .live
  | .scrubStatHbmerr => .mk 0xE0014 repOne 1 0 8 .ro (.const 0) .live
  | .scrubStatPlterr => .mk 0xE0014 repOne 1 8 8 .ro (.const 0) .live
  | .scrubStatAlmerr => .mk 0xE0014 repOne 1 16 8 .ro (.const 0) .live
  | .scrubStatLate => .mk 0xE0014 repOne 1 24 3 .ro (.const 0) .live
  | .rgnCtrlDiagFreeze => .mk 0x2000000 rep2x400000 1 0 1 .rw (.const 0) .live
  | .rgnCtrlFreeze => .mk 0x2000000 rep2x400000 1 1 1 .w1s (.const 0) .live
  | .rgnCtrlRecover => .mk 0x2000000 rep2x400000 1 2 1 .w1s (.const 0) .live
  | .rgnCtrlAutorecover => .mk 0x2000000 rep2x400000 1 3 1 .rw (.const 0) .live
  | .rgnStatState => .mk 0x2000004 rep2x400000 1 0 3 .ro (.const 0) .live
  | .rgnStatCause => .mk 0x2000004 rep2x400000 1 3 3 .ro (.const 0) .live
  | .rgnStatSnap => .mk 0x2000004 rep2x400000 1 6 1 .ro (.const 0) .live
  | .rgnStatTries => .mk 0x2000004 rep2x400000 1 8 2 .ro (.const 0) .live
  | .frzInfoPc => .mk 0x200000C rep2x400000 1 0 4 .ro (.const 0) .live
  | .frzInfoKind => .mk 0x200000C rep2x400000 1 4 4 .ro (.const 0) .live
  | .frzInfoPort => .mk 0x200000C rep2x400000 1 8 4 .ro (.const 0) .live
  | .frzInfoRdq => .mk 0x200000C rep2x400000 1 16 8 .ro (.const 0) .live
  | .frzInfoWrq => .mk 0x200000C rep2x400000 1 24 8 .ro (.const 0) .live
  | .frzAddrAddr => .mk 0x2000010 rep2x400000 2 0 34 .ro (.const 0) .live
  | .frzSrcPath => .mk 0x2000018 rep2x400000 1 0 32 .ro (.const 0) .live
  | .frzTimeTime => .mk 0x200001C rep2x400000 2 0 64 .ro (.const 0) .live
  | .profileNum => .mk 0x2000024 rep2x400000 1 0 4 .ro (.const 0) .live
  | .profileFailed => .mk 0x2000024 rep2x400000 1 8 8 .ro (.const 0) .live
  | .pwrIdle => .mk 0x2000028 rep2x400000 1 0 8 .rw (.const 20) .live
  | .pwrPdx => .mk 0x2000028 rep2x400000 1 8 8 .rw (.const 10) .live
  | .pwrSridle => .mk 0x2000028 rep2x400000 1 16 16 .rw (.const 100) .live
  | .unmappedReads => .mk 0x200002C rep2x400000 1 0 16 .ro (.const 0) .live
  | .unmappedWrites => .mk 0x200002C rep2x400000 1 16 16 .ro (.const 0) .live
  | .dropwrCount => .mk 0x2000030 rep2x400000 1 0 32 .ro (.const 0) .live
  | .qosTarget => .mk 0x2000040 rep2x400000_8x4 1 0 16 .rw .qos .live
  | .qosStatMiss => .mk 0x2000060 rep2x400000_8x4 1 0 16 .ro (.const 0) .live
  | .qosStatMaxlat => .mk 0x2000060 rep2x400000_8x4 1 16 16 .rc (.const 0) .live
  | .fcElastic => .mk 0x2000080 rep2x400000_4x4 1 0 1 .ro .eph .static
  | .fcReqset => .mk 0x2000080 rep2x400000_4x4 1 1 2 .rw (.const 0) .live
  | .fcCur => .mk 0x2000080 rep2x400000_4x4 1 3 2 .ro (.const 0) .live
  | .fcMinset => .mk 0x2000080 rep2x400000_4x4 1 5 2 .ro .eph .static
  | .fcBusy => .mk 0x2000080 rep2x400000_4x4 1 7 1 .ro (.const 0) .live
  | .fcFcPending => .mk 0x2000080 rep2x400000_4x4 1 8 1 .ro (.const 0) .live
  | .fcRefused => .mk 0x2000080 rep2x400000_4x4 1 9 1 .ro (.const 0) .live
  | .fcCount => .mk 0x2000080 rep2x400000_4x4 1 16 16 .ro (.const 0) .live
  | .pcStatePwr => .mk 0x2000104 rep2x400000_8x10 1 0 2 .ro (.const 0) .live
  | .pcStateFailed => .mk 0x2000104 rep2x400000_8x10 1 2 1 .ro (.const 0) .live
  | .pcStateRemapped => .mk 0x2000104 rep2x400000_8x10 1 3 1 .ro (.const 0) .live
  | .pcStateSet => .mk 0x2000104 rep2x400000_8x10 1 4 2 .ro (.const 0) .live
  | .pcCntDeterr => .mk 0x2000108 rep2x400000_8x10 1 0 8 .ro (.const 0) .live
  | .pcCntPoison => .mk 0x2000108 rep2x400000_8x10 1 8 8 .ro (.const 0) .live
  | .pcCntWpar => .mk 0x2000108 rep2x400000_8x10 1 16 8 .ro (.const 0) .live
  | .pcCntScrub => .mk 0x2000108 rep2x400000_8x10 1 24 8 .ro (.const 0) .live

/-- The fields of the HBM block, in table order. -/
def HbmF.all : List HbmF :=
  [HbmF.fenceGo, HbmF.fenceBusy, HbmF.fenceDone, HbmF.fenceLost, HbmF.scrubCfgHbmh, HbmF.scrubCfgPltm,
    HbmF.scrubCfgAlmh, HbmF.scrubStatHbmerr, HbmF.scrubStatPlterr, HbmF.scrubStatAlmerr, HbmF.scrubStatLate, HbmF.rgnCtrlDiagFreeze,
    HbmF.rgnCtrlFreeze, HbmF.rgnCtrlRecover, HbmF.rgnCtrlAutorecover, HbmF.rgnStatState]
  ++ [HbmF.rgnStatCause, HbmF.rgnStatSnap, HbmF.rgnStatTries, HbmF.frzInfoPc, HbmF.frzInfoKind, HbmF.frzInfoPort,
    HbmF.frzInfoRdq, HbmF.frzInfoWrq, HbmF.frzAddrAddr, HbmF.frzSrcPath, HbmF.frzTimeTime, HbmF.profileNum,
    HbmF.profileFailed, HbmF.pwrIdle, HbmF.pwrPdx, HbmF.pwrSridle]
  ++ [HbmF.unmappedReads, HbmF.unmappedWrites, HbmF.dropwrCount, HbmF.qosTarget, HbmF.qosStatMiss, HbmF.qosStatMaxlat,
    HbmF.fcElastic, HbmF.fcReqset, HbmF.fcCur, HbmF.fcMinset, HbmF.fcBusy, HbmF.fcFcPending,
    HbmF.fcRefused, HbmF.fcCount, HbmF.pcStatePwr, HbmF.pcStateFailed]
  ++ [HbmF.pcStateRemapped, HbmF.pcStateSet, HbmF.pcCntDeterr, HbmF.pcCntPoison, HbmF.pcCntWpar, HbmF.pcCntScrub]

/-- The register-table rows of the PIX block. -/
def PixF.info : PixF → FieldInfo
  | .bgBlue => .mk 0x1000000 rep4x400000 1 0 10 .rw (.const 0) .meridian
  | .bgGreen => .mk 0x1000000 rep4x400000 1 10 10 .rw (.const 0) .meridian
  | .bgRed => .mk 0x1000000 rep4x400000 1 20 10 .rw (.const 0) .meridian
  | .cloneEn => .mk 0x1000004 rep4x400000 1 0 1 .ro .eph .static
  | .cloneSrc => .mk 0x1000004 rep4x400000 1 1 2 .ro .eph .static
  | .layerRetireLayer => .mk 0x1000010 rep4x400000 2 0 3 .rc (.const 0) .live
  | .layerRetireValid => .mk 0x1000010 rep4x400000 2 7 1 .rc (.const 0) .live
  | .layerRetireOvf => .mk 0x1000010 rep4x400000 2 8 1 .rc (.const 0) .live
  | .layerRetireFrame => .mk 0x1000010 rep4x400000 2 32 32 .ro (.const 0) .live
  | .layerCfgEn => .mk 0x1000100 rep4x400000_8x40 1 0 1 .rw (.const 0) .meridian
  | .layerCfgSrc => .mk 0x1000100 rep4x400000_8x40 1 1 2 .rw (.const 0) .meridian
  | .layerCfgDpin => .mk 0x1000100 rep4x400000_8x40 1 3 2 .rw (.const 0) .meridian
  | .layerCfgFmt => .mk 0x1000100 rep4x400000_8x40 1 5 3 .rw (.const 0) .meridian
  | .layerCfgAlpha => .mk 0x1000100 rep4x400000_8x40 1 8 2 .rw (.const 0) .meridian
  | .layerCfgClass => .mk 0x1000100 rep4x400000_8x40 1 10 2 .rw (.const 0) .meridian
  | .layerCfgCalpha => .mk 0x1000100 rep4x400000_8x40 1 16 16 .rw (.const 65535) .meridian
  | .layerAddrAddr => .mk 0x1000104 rep4x400000_8x40 2 8 26 .rw (.const 0) .meridian
  | .layerStrideStride => .mk 0x100010C rep4x400000_8x40 1 6 10 .rw (.const 0) .meridian
  | .layerPosX => .mk 0x1000110 rep4x400000_8x40 1 0 16 .rw (.const 0) .meridian
  | .layerPosY => .mk 0x1000110 rep4x400000_8x40 1 16 16 .rw (.const 0) .meridian
  | .layerCropXyCx => .mk 0x1000114 rep4x400000_8x40 1 0 13 .rw (.const 0) .meridian
  | .layerCropXyCy => .mk 0x1000114 rep4x400000_8x40 1 16 13 .rw (.const 0) .meridian
  | .layerCropWhW => .mk 0x1000118 rep4x400000_8x40 1 0 13 .rw (.const 0) .meridian
  | .layerCropWhH => .mk 0x1000118 rep4x400000_8x40 1 16 13 .rw (.const 0) .meridian
  | .layerFillFill => .mk 0x100011C rep4x400000_8x40 1 0 30 .rw (.const 0) .meridian
  | .layerStampStamp => .mk 0x1000120 rep4x400000_8x40 2 0 64 .rw (.const 0) .meridian
  | .layerCntRepeat => .mk 0x100012C rep4x400000_8x40 1 0 16 .ro (.const 0) .live
  | .layerCntDrop => .mk 0x100012C rep4x400000_8x40 1 16 16 .ro (.const 0) .live
  | .layerErrLeaseviol => .mk 0x1000130 rep4x400000_8x40 1 0 8 .ro (.const 0) .live
  | .layerErrDataerr => .mk 0x1000130 rep4x400000_8x40 1 8 8 .ro (.const 0) .live
  | .layerErrLate => .mk 0x1000130 rep4x400000_8x40 1 16 8 .ro (.const 0) .live

/-- The fields of the PIX block, in table order. -/
def PixF.all : List PixF :=
  [PixF.bgBlue, PixF.bgGreen, PixF.bgRed, PixF.cloneEn, PixF.cloneSrc, PixF.layerRetireLayer,
    PixF.layerRetireValid, PixF.layerRetireOvf, PixF.layerRetireFrame, PixF.layerCfgEn, PixF.layerCfgSrc, PixF.layerCfgDpin,
    PixF.layerCfgFmt, PixF.layerCfgAlpha, PixF.layerCfgClass, PixF.layerCfgCalpha]
  ++ [PixF.layerAddrAddr, PixF.layerStrideStride, PixF.layerPosX, PixF.layerPosY, PixF.layerCropXyCx, PixF.layerCropXyCy,
    PixF.layerCropWhW, PixF.layerCropWhH, PixF.layerFillFill, PixF.layerStampStamp, PixF.layerCntRepeat, PixF.layerCntDrop,
    PixF.layerErrLeaseviol, PixF.layerErrDataerr, PixF.layerErrLate]

/-- The register-table rows of the CHR block. -/
def ChrF.info : ChrF → FieldInfo
  | .ctrlEn => .mk 0x1010000 rep4x400000 1 0 1 .rw (.const 0) .meridian
  | .commitReq => .mk 0x1010008 rep4x400000 1 0 1 .w1s (.const 0) .live
  | .commitCancel => .mk 0x1010008 rep4x400000 1 1 1 .wo (.const 0) .live
  | .commitMode => .mk 0x1010008 rep4x400000 1 2 1 .rw (.const 0) .live
  | .commitNotify => .mk 0x1010008 rep4x400000 1 3 1 .rw (.const 0) .live
  | .commitGuard => .mk 0x1010008 rep4x400000 1 4 1 .ro (.const 0) .live
  | .commitArmed => .mk 0x1010008 rep4x400000 1 5 1 .ro (.const 0) .live
  | .commitStatFrame => .mk 0x101000C rep4x400000 2 0 64 .ro (.const 0) .live
  | .commitFlagsLate => .mk 0x1010014 rep4x400000 1 0 1 .ro (.const 0) .live
  | .commitFlagsLatewr => .mk 0x1010014 rep4x400000 1 1 1 .ro (.const 0) .live
  | .commitFlagsWaited => .mk 0x1010014 rep4x400000 1 2 1 .ro (.const 0) .live
  | .commitFlagsCancelled => .mk 0x1010014 rep4x400000 1 3 1 .ro (.const 0) .live
  | .commitFlagsLatewrCnt => .mk 0x1010014 rep4x400000 1 8 8 .ro (.const 0) .live
  | .frameFrame => .mk 0x1010018 rep4x400000 2 0 64 .ro (.const 0) .live
  | .showFrame => .mk 0x1010020 rep4x400000 2 0 64 .ro (.const 0) .live
  | .mTimeTime => .mk 0x1010028 rep4x400000 2 0 64 .ro (.const 0) .live
  | .nextMTime => .mk 0x1010030 rep4x400000 2 0 64 .ro (.const 0) .live
  | .commitTimeTime => .mk 0x1010038 rep4x400000 2 0 64 .ro (.const 0) .live
  | .leadLead => .mk 0x1010040 rep4x400000 1 0 20 .rw .eph .static
  | .periodMeasPeriod => .mk 0x1010044 rep4x400000 1 0 27 .ro (.const 0) .live
  | .lockSrc => .mk 0x1010048 rep4x400000 1 0 2 .rw .eph .meridian
  | .lockDpin => .mk 0x1010048 rep4x400000 1 2 2 .rw (.const 0) .meridian
  | .lockRatio => .mk 0x1010048 rep4x400000 1 4 3 .rw (.const 1) .meridian
  | .lockLocked => .mk 0x1010048 rep4x400000 1 8 1 .ro (.const 0) .live
  | .lockPeer => .mk 0x1010048 rep4x400000 1 9 1 .ro (.const 0) .live
  | .lockPhasePhase => .mk 0x101004C rep4x400000 1 0 20 .rw (.const 8000) .meridian
  | .lockCfgSlew => .mk 0x1010050 rep4x400000 1 0 16 .rw (.const 800) .live
  | .lockCfgWin => .mk 0x1010050 rep4x400000 1 16 16 .rw (.const 1600) .live
  | .lockErrErr => .mk 0x1010054 rep4x400000 1 0 32 .ro (.const 0) .live
  | .lockAdjAdj => .mk 0x1010058 rep4x400000 1 0 32 .ro (.const 0) .live
  | .heldAllow => .mk 0x1010060 rep4x400000 1 0 1 .rw (.const 1) .live
  | .heldHeld => .mk 0x1010060 rep4x400000 1 1 1 .ro (.const 0) .live
  | .heldPend => .mk 0x1010060 rep4x400000 1 2 1 .ro (.const 0) .live
  | .heldWake => .mk 0x1010060 rep4x400000 1 4 3 .ro (.const 0) .live
  | .heldFrameFrame => .mk 0x1010064 rep4x400000 2 0 64 .ro (.const 0) .live
  | .heldTolTol => .mk 0x101006C rep4x400000 1 0 16 .rw (.const 64) .live
  | .heldCntEntries => .mk 0x1010070 rep4x400000 1 0 16 .ro (.const 0) .live
  | .heldCntLatewake => .mk 0x1010070 rep4x400000 1 16 16 .ro (.const 0) .live
  | .lenDlyDly => .mk 0x1010080 rep4x400000_6x4 1 0 7 .rw (.const 0) .meridian

/-- The fields of the CHR block, in table order. -/
def ChrF.all : List ChrF :=
  [ChrF.ctrlEn, ChrF.commitReq, ChrF.commitCancel, ChrF.commitMode, ChrF.commitNotify, ChrF.commitGuard,
    ChrF.commitArmed, ChrF.commitStatFrame, ChrF.commitFlagsLate, ChrF.commitFlagsLatewr, ChrF.commitFlagsWaited, ChrF.commitFlagsCancelled,
    ChrF.commitFlagsLatewrCnt, ChrF.frameFrame, ChrF.showFrame, ChrF.mTimeTime]
  ++ [ChrF.nextMTime, ChrF.commitTimeTime, ChrF.leadLead, ChrF.periodMeasPeriod, ChrF.lockSrc, ChrF.lockDpin,
    ChrF.lockRatio, ChrF.lockLocked, ChrF.lockPeer, ChrF.lockPhasePhase, ChrF.lockCfgSlew, ChrF.lockCfgWin,
    ChrF.lockErrErr, ChrF.lockAdjAdj, ChrF.heldAllow, ChrF.heldHeld]
  ++ [ChrF.heldPend, ChrF.heldWake, ChrF.heldFrameFrame, ChrF.heldTolTol, ChrF.heldCntEntries, ChrF.heldCntLatewake,
    ChrF.lenDlyDly]

/-- The register-table rows of the TRI block. -/
def TriF.info : TriF → FieldInfo
  | .ctrlEn => .mk 0x1020000 rep4x400000 1 0 1 .rw (.const 0) .meridian
  | .ctrlRetrain => .mk 0x1020000 rep4x400000 1 1 1 .wo (.const 0) .live
  | .ctrlRlane => .mk 0x1020000 rep4x400000 1 2 5 .rw (.const 0) .live
  | .stateLink => .mk 0x1020004 rep4x400000 1 0 3 .ro (.const 0) .live
  | .stateWorking => .mk 0x1020004 rep4x400000 1 3 17 .ro (.const 0) .live
  | .stateNwork => .mk 0x1020004 rep4x400000 1 20 5 .ro (.const 0) .live
  | .stateSpareUsed => .mk 0x1020004 rep4x400000 1 25 1 .ro (.const 0) .live
  | .stateRreq => .mk 0x1020004 rep4x400000 1 26 1 .ro (.const 0) .live
  | .stateRetlock => .mk 0x1020004 rep4x400000 1 27 1 .ro (.const 0) .live
  | .arrayGeomW => .mk 0x1020008 rep4x400000 1 0 13 .ro (.const 0) .live
  | .arrayGeomH => .mk 0x1020008 rep4x400000 1 16 13 .ro (.const 0) .live
  | .arrayCfgBands => .mk 0x102000C rep4x400000 1 0 7 .ro (.const 0) .live
  | .arrayCfgP => .mk 0x102000C rep4x400000 1 8 7 .ro (.const 0) .live
  | .arrayCfgReplay => .mk 0x102000C rep4x400000 1 15 1 .ro (.const 0) .live
  | .arrayCfgSettle => .mk 0x102000C rep4x400000 1 16 16 .ro (.const 0) .live
  | .arrayIdModel => .mk 0x1020010 rep4x400000 1 0 32 .ro (.const 0) .live
  | .cmdAdvAdv => .mk 0x1020014 rep4x400000 1 0 16 .rw .eph .static
  | .sendWinWin => .mk 0x1020018 rep4x400000 1 0 16 .rw (.const 19200) .static
  | .echoTmoTmo => .mk 0x102001C rep4x400000 1 0 12 .rw (.const 1600) .static
  | .laneCfgErrlim => .mk 0x1020020 rep4x400000 1 0 8 .rw (.const 8) .live
  | .cntResend => .mk 0x1020024 rep4x400000 1 0 16 .ro (.const 0) .live
  | .cntUnconf => .mk 0x1020024 rep4x400000 1 16 16 .ro (.const 0) .live
  | .cnt2Rackmiss => .mk 0x1020028 rep4x400000 1 0 16 .ro (.const 0) .live
  | .cnt2Alarms => .mk 0x1020028 rep4x400000 1 16 16 .ro (.const 0) .live
  | .tempTemp => .mk 0x102002C rep4x400000 1 0 16 .ro (.const 0) .live
  | .tempAge => .mk 0x102002C rep4x400000 1 16 16 .ro (.const 65535) .live
  | .laneTapDeskew => .mk 0x1020180 rep4x400000_17x4 1 0 7 .ro (.const 0) .live
  | .laneTapFine => .mk 0x1020180 rep4x400000_17x4 1 8 4 .ro (.const 0) .live
  | .laneTapPre => .mk 0x1020180 rep4x400000_17x4 1 12 4 .ro (.const 0) .live
  | .laneTapPost => .mk 0x1020180 rep4x400000_17x4 1 16 6 .ro (.const 0) .live
  | .laneTapRx => .mk 0x1020180 rep4x400000_17x4 1 24 5 .ro (.const 0) .live
  | .laneErrPadmis => .mk 0x1020200 rep4x400000_17x4 1 0 16 .ro (.const 0) .live
  | .laneErrEchomis => .mk 0x1020200 rep4x400000_17x4 1 16 16 .ro (.const 0) .live

/-- The fields of the TRI block, in table order. -/
def TriF.all : List TriF :=
  [TriF.ctrlEn, TriF.ctrlRetrain, TriF.ctrlRlane, TriF.stateLink, TriF.stateWorking, TriF.stateNwork,
    TriF.stateSpareUsed, TriF.stateRreq, TriF.stateRetlock, TriF.arrayGeomW, TriF.arrayGeomH, TriF.arrayCfgBands,
    TriF.arrayCfgP, TriF.arrayCfgReplay, TriF.arrayCfgSettle, TriF.arrayIdModel]
  ++ [TriF.cmdAdvAdv, TriF.sendWinWin, TriF.echoTmoTmo, TriF.laneCfgErrlim, TriF.cntResend, TriF.cntUnconf,
    TriF.cnt2Rackmiss, TriF.cnt2Alarms, TriF.tempTemp, TriF.tempAge, TriF.laneTapDeskew, TriF.laneTapFine,
    TriF.laneTapPre, TriF.laneTapPost, TriF.laneTapRx, TriF.laneErrPadmis]
  ++ [TriF.laneErrEchomis]

/-- The register-table rows of the LSR block. -/
def LsrF.info : LsrF → FieldInfo
  | .policyPolicy => .mk 0x1030000 rep4x400000 1 0 2 .rw .eph .meridian
  | .dimDim => .mk 0x1030004 rep4x400000 1 0 16 .rw .eph .meridian
  | .fadeFadeT => .mk 0x1030008 rep4x400000 1 0 13 .rw .eph .meridian
  | .fadeStartT => .mk 0x1030008 rep4x400000 1 16 8 .rw .eph .meridian
  | .fadeStopT => .mk 0x1030008 rep4x400000 1 24 8 .rw .eph .meridian
  | .dimStatDimeff => .mk 0x103000C rep4x400000 1 0 16 .ro (.const 0) .live
  | .dimStatDuty => .mk 0x103000C rep4x400000 1 16 16 .ro (.const 0) .live
  | .ceilCeil => .mk 0x1030010 rep4x400000 1 0 16 .ro (.const 65535) .live
  | .ceilLimit => .mk 0x1030010 rep4x400000 1 16 2 .ro (.const 0) .live
  | .ceilCh => .mk 0x1030010 rep4x400000 1 20 3 .ro (.const 0) .live
  | .chopMinpw => .mk 0x1030014 rep4x400000 1 0 7 .rw (.const 16) .live
  | .diagN => .mk 0x1030018 rep4x400000 1 0 9 .rw (.const 8) .live
  | .diagNocover => .mk 0x1030018 rep4x400000 1 16 1 .ro (.const 0) .live
  | .outLightoff => .mk 0x103001C rep4x400000 1 0 1 .ro (.const 0) .live
  | .outCause => .mk 0x103001C rep4x400000 1 1 3 .ro (.const 0) .live
  | .outRearm => .mk 0x103001C rep4x400000 1 4 1 .w1s (.const 0) .live
  | .outStop => .mk 0x103001C rep4x400000 1 5 1 .w1s (.const 0) .live
  | .outStopped => .mk 0x103001C rep4x400000 1 6 1 .ro (.const 0) .live
  | .outFading => .mk 0x103001C rep4x400000 1 7 1 .ro (.const 0) .live
  | .intlkIn => .mk 0x1030020 rep4x400000 1 0 1 .ro (.const 0) .live
  | .intlkTripped => .mk 0x1030020 rep4x400000 1 1 1 .ro (.const 1) .live
  | .intlkRearm => .mk 0x1030020 rep4x400000 1 2 1 .w1s (.const 0) .live
  | .intlkTrips => .mk 0x1030020 rep4x400000 1 8 8 .ro (.const 0) .live
  | .wearInterval => .mk 0x1030024 rep4x400000 1 0 11 .rw .eph .live
  | .wearDue => .mk 0x1030024 rep4x400000 1 16 1 .ro (.const 0) .live
  | .wearDefers => .mk 0x1030024 rep4x400000 1 24 8 .ro (.const 0) .live
  | .lampBusy => .mk 0x1030028 rep4x400000 1 0 1 .ro (.const 0) .live
  | .lampPend => .mk 0x1030028 rep4x400000 1 1 1 .ro (.const 0) .live
  | .lampReloads => .mk 0x1030028 rep4x400000 1 8 8 .ro (.const 0) .live
  | .lampNottaken => .mk 0x1030028 rep4x400000 1 16 8 .ro (.const 0) .live
  | .lampSeq => .mk 0x1030028 rep4x400000 1 24 3 .ro (.const 0) .live
  | .litRed => .mk 0x1030034 rep4x400000 1 0 1 .rw (.const 0) .meridian
  | .litGreen => .mk 0x1030034 rep4x400000 1 1 1 .rw (.const 0) .meridian
  | .litBlue => .mk 0x1030034 rep4x400000 1 2 1 .rw (.const 0) .meridian
  | .tsenTemp => .mk 0x1030040 rep4x400000_4x4 1 0 16 .ro (.const 0) .live
  | .tsenValid => .mk 0x1030040 rep4x400000_4x4 1 16 1 .ro (.const 0) .live
  | .chCtrlEn => .mk 0x1030100 rep4x400000_6x40 1 0 1 .rw (.const 0) .meridian
  | .chCtrlRearm => .mk 0x1030100 rep4x400000_6x40 1 1 1 .w1s (.const 0) .live
  | .chCtrlDiagnow => .mk 0x1030100 rep4x400000_6x40 1 2 1 .w1s (.const 0) .live
  | .chStateState => .mk 0x1030108 rep4x400000_6x40 1 0 3 .ro (.const 0) .live
  | .chStateCause => .mk 0x1030108 rep4x400000_6x40 1 3 4 .ro (.const 0) .live
  | .chStateEmitter => .mk 0x1030108 rep4x400000_6x40 1 7 5 .ro (.const 0) .live
  | .chStateEmknown => .mk 0x1030108 rep4x400000_6x40 1 12 1 .ro (.const 0) .live
  | .chStateNlitH => .mk 0x1030108 rep4x400000_6x40 1 13 6 .ro (.const 0) .live
  | .chStateNlitL => .mk 0x1030108 rep4x400000_6x40 1 19 6 .ro (.const 0) .live
  | .bankNemit => .mk 0x103010C rep4x400000_6x40 1 0 6 .rw .eph .static
  | .bankNfull => .mk 0x103010C rep4x400000_6x40 1 6 6 .rw .eph .static
  | .bankNlow => .mk 0x103010C rep4x400000_6x40 1 12 6 .rw .eph .static
  | .bankNmin => .mk 0x103010C rep4x400000_6x40 1 18 6 .rw .eph .static
  | .bankTsen => .mk 0x103010C rep4x400000_6x40 1 24 2 .rw .eph .static
  | .patHPat => .mk 0x1030110 rep4x400000_6x40 1 0 32 .ro (.const 0) .live
  | .patLPat => .mk 0x1030114 rep4x400000_6x40 1 0 32 .ro (.const 0) .live
  | .badMask => .mk 0x1030118 rep4x400000_6x40 1 0 32 .ro .alm .live
  | .vstrCfgVstep => .mk 0x103011C rep4x400000_6x40 1 0 12 .rw .cal .live
  | .vstrCfgVcomp => .mk 0x103011C rep4x400000_6x40 1 16 12 .rw .cal .live
  | .vstrOfsVofs => .mk 0x1030120 rep4x400000_6x40 1 0 12 .rw .cal .live
  | .vstrOfsVstr => .mk 0x1030120 rep4x400000_6x40 1 16 12 .ro (.const 0) .live
  | .pdCfgDark => .mk 0x1030124 rep4x400000_6x40 1 0 14 .rw .cal .live
  | .pdCfgMissfrac => .mk 0x1030124 rep4x400000_6x40 1 16 8 .rw (.const 128) .live
  | .diagCfgCode => .mk 0x1030128 rep4x400000_6x40 1 0 16 .rw .eph .live
  | .diagCfgPdexp => .mk 0x1030128 rep4x400000_6x40 1 16 14 .rw .cal .live
  | .thermTknee => .mk 0x103012C rep4x400000_6x40 1 0 12 .rw .eph .live
  | .thermTcut => .mk 0x103012C rep4x400000_6x40 1 12 12 .rw .eph .live
  | .slopeSlope => .mk 0x1030130 rep4x400000_6x40 1 0 16 .rw .eph .live
  | .slopeDer => .mk 0x1030130 rep4x400000_6x40 1 16 16 .ro (.const 65535) .live
  | .detCntOpen => .mk 0x1030134 rep4x400000_6x40 1 0 8 .ro (.const 0) .live
  | .detCntShort => .mk 0x1030134 rep4x400000_6x40 1 8 8 .ro (.const 0) .live
  | .detCntMissing => .mk 0x1030134 rep4x400000_6x40 1 16 8 .ro (.const 0) .live
  | .detCntIsolost => .mk 0x1030134 rep4x400000_6x40 1 24 8 .ro (.const 0) .live
  | .hoursMs => .mk 0x1030138 rep4x400000_6x40 2 0 64 .ro .alm .live
  | .emitSec => .mk 0x1030800 rep4x400000_6x80_32x4 1 0 32 .ro .alm .live

/-- The fields of the LSR block, in table order. -/
def LsrF.all : List LsrF :=
  [LsrF.policyPolicy, LsrF.dimDim, LsrF.fadeFadeT, LsrF.fadeStartT, LsrF.fadeStopT, LsrF.dimStatDimeff,
    LsrF.dimStatDuty, LsrF.ceilCeil, LsrF.ceilLimit, LsrF.ceilCh, LsrF.chopMinpw, LsrF.diagN,
    LsrF.diagNocover, LsrF.outLightoff, LsrF.outCause, LsrF.outRearm]
  ++ [LsrF.outStop, LsrF.outStopped, LsrF.outFading, LsrF.intlkIn, LsrF.intlkTripped, LsrF.intlkRearm,
    LsrF.intlkTrips, LsrF.wearInterval, LsrF.wearDue, LsrF.wearDefers, LsrF.lampBusy, LsrF.lampPend,
    LsrF.lampReloads, LsrF.lampNottaken, LsrF.lampSeq, LsrF.litRed]
  ++ [LsrF.litGreen, LsrF.litBlue, LsrF.tsenTemp, LsrF.tsenValid, LsrF.chCtrlEn, LsrF.chCtrlRearm,
    LsrF.chCtrlDiagnow, LsrF.chStateState, LsrF.chStateCause, LsrF.chStateEmitter, LsrF.chStateEmknown, LsrF.chStateNlitH,
    LsrF.chStateNlitL, LsrF.bankNemit, LsrF.bankNfull, LsrF.bankNlow]
  ++ [LsrF.bankNmin, LsrF.bankTsen, LsrF.patHPat, LsrF.patLPat, LsrF.badMask, LsrF.vstrCfgVstep,
    LsrF.vstrCfgVcomp, LsrF.vstrOfsVofs, LsrF.vstrOfsVstr, LsrF.pdCfgDark, LsrF.pdCfgMissfrac, LsrF.diagCfgCode,
    LsrF.diagCfgPdexp, LsrF.thermTknee, LsrF.thermTcut, LsrF.slopeSlope]
  ++ [LsrF.slopeDer, LsrF.detCntOpen, LsrF.detCntShort, LsrF.detCntMissing, LsrF.detCntIsolost, LsrF.hoursMs,
    LsrF.emitSec]

/-- The register-table rows of the HEL block. -/
def HelF.info : HelF → FieldInfo
  | .csCfgEn => .mk 0x1040000 rep4x400000 1 0 1 .rw .eph .meridian
  | .csCfgDiv => .mk 0x1040000 rep4x400000 1 1 4 .rw .eph .static
  | .csCfgSpimode => .mk 0x1040000 rep4x400000 1 5 2 .rw (.const 0) .static
  | .csStatValid => .mk 0x1040008 rep4x400000 1 0 3 .ro (.const 0) .live
  | .csStatRun => .mk 0x1040008 rep4x400000 1 8 8 .ro (.const 0) .live
  | .csStatMisscnt => .mk 0x1040008 rep4x400000 1 16 16 .ro (.const 0) .live
  | .csTxnDly => .mk 0x1040010 rep4x400000_3x4 1 0 16 .rw .eph .static
  | .csTxnCmdlen => .mk 0x1040010 rep4x400000_3x4 1 16 3 .rw .eph .static
  | .csTxnRdlen => .mk 0x1040010 rep4x400000_3x4 1 19 4 .rw .eph .static
  | .csTxnRdofs => .mk 0x1040010 rep4x400000_3x4 1 23 3 .rw .eph .static
  | .csCmdCmd => .mk 0x1040020 rep4x400000_3x4 1 0 32 .rw .eph .static
  | .csResWord => .mk 0x1040030 rep4x400000_3x4 1 0 16 .ro (.const 0) .live
  | .csRawData => .mk 0x104003C rep4x400000 1 0 32 .rw (.const 0) .live
  | .pwmCfgFreq => .mk 0x1040040 rep4x400000 1 0 8 .rw (.const 25) .static
  | .pwmDuty => .mk 0x1040044 rep4x400000_2x4 1 0 16 .ro (.const 65535) .live
  | .pwmFull => .mk 0x1040044 rep4x400000_2x4 1 16 1 .ro (.const 1) .live
  | .isoLatLat => .mk 0x1040054 rep4x400000 1 0 8 .ro .fixed .live
  | .slotCtrlEn => .mk 0x1040100 rep4x400000_16x80 1 0 1 .rw (.const 0) .meridian
  | .slotCtrlMode => .mk 0x1040100 rep4x400000_16x80 1 1 2 .rw .eph .live
  | .slotCtrlSatact => .mk 0x1040100 rep4x400000_16x80 1 3 2 .rw .eph .meridian
  | .slotCtrlIload => .mk 0x1040100 rep4x400000_16x80 1 5 1 .rw (.const 0) .meridian
  | .slotCtrlSatclr => .mk 0x1040100 rep4x400000_16x80 1 6 1 .wo (.const 0) .live
  | .trigTmode => .mk 0x1040108 rep4x400000_16x80 1 0 2 .rw .eph .static
  | .trigTsrc => .mk 0x1040108 rep4x400000_16x80 1 2 5 .rw .eph .static
  | .trigPeriod => .mk 0x1040108 rep4x400000_16x80 1 16 16 .rw .eph .static
  | .phasePhase => .mk 0x104010C rep4x400000_16x80 1 0 12 .rw .eph .static
  | .routeMtype => .mk 0x1040110 rep4x400000_16x80 1 0 4 .rw .eph .static
  | .routeMidx => .mk 0x1040110 rep4x400000_16x80 1 4 4 .rw .eph .static
  | .routeD0type => .mk 0x1040110 rep4x400000_16x80 1 8 4 .rw .eph .static
  | .routeD0idx => .mk 0x1040110 rep4x400000_16x80 1 12 4 .rw .eph .static
  | .routeD1type => .mk 0x1040110 rep4x400000_16x80 1 16 4 .rw .eph .static
  | .routeD1idx => .mk 0x1040110 rep4x400000_16x80 1 20 4 .rw .eph .static
  | .routeGate => .mk 0x1040110 rep4x400000_16x80 1 24 1 .rw .eph .static
  | .cascadeN => .mk 0x1040114 rep4x400000_16x80 1 0 16 .rw (.const 0) .static
  | .cascadeScale => .mk 0x1040114 rep4x400000_16x80 1 16 1 .rw (.const 0) .static
  | .inOfs => .mk 0x1040118 rep4x400000_16x80 1 0 16 .rw .cal .live
  | .inBlank => .mk 0x1040118 rep4x400000_16x80 1 16 8 .rw (.const 48) .static
  | .coefC => .mk 0x1040120 rep4x400000_16x80_8x4 1 0 32 .rw .eph .meridian
  | .shift0Sff => .mk 0x1040140 rep4x400000_16x80 1 0 6 .rw .eph .meridian
  | .shift0Sffl => .mk 0x1040140 rep4x400000_16x80 1 6 6 .rw .eph .meridian
  | .shift0Sb0 => .mk 0x1040140 rep4x400000_16x80 1 12 6 .rw .eph .meridian
  | .shift0Sb1 => .mk 0x1040140 rep4x400000_16x80 1 18 6 .rw .eph .meridian
  | .shift0Sb2 => .mk 0x1040140 rep4x400000_16x80 1 24 6 .rw .eph .meridian
  | .shift1Sa1 => .mk 0x1040144 rep4x400000_16x80 1 0 6 .rw .eph .meridian
  | .shift1Sa2 => .mk 0x1040144 rep4x400000_16x80 1 6 6 .rw .eph .meridian
  | .shift1Ski => .mk 0x1040144 rep4x400000_16x80 1 12 6 .rw .eph .meridian
  | .uminUmin => .mk 0x1040148 rep4x400000_16x80 1 0 32 .rw .eph .meridian
  | .umaxUmax => .mk 0x104014C rep4x400000_16x80 1 0 32 .rw .eph .meridian
  | .safeSafe => .mk 0x1040150 rep4x400000_16x80 1 0 32 .rw .eph .meridian
  | .openOpen => .mk 0x1040154 rep4x400000_16x80 1 0 32 .rw .eph .meridian
  | .initInit => .mk 0x1040158 rep4x400000_16x80 1 0 32 .rw .eph .meridian
  | .slewSlew => .mk 0x104015C rep4x400000_16x80 1 0 31 .rw .eph .meridian
  | .spSp => .mk 0x1040160 rep4x400000_16x80 1 0 32 .rw .eph .meridian
  | .limitSatlim => .mk 0x1040164 rep4x400000_16x80 1 0 24 .rw .eph .meridian
  | .limitOvrlim => .mk 0x1040164 rep4x400000_16x80 1 24 8 .rw (.const 16) .meridian
  | .outU => .mk 0x1040168 rep4x400000_16x80 1 0 32 .ro (.const 0) .live
  | .spwR => .mk 0x104016C rep4x400000_16x80 1 0 32 .ro (.const 0) .live
  | .measM => .mk 0x1040170 rep4x400000_16x80 1 0 32 .ro (.const 0) .live
  | .integI => .mk 0x1040174 rep4x400000_16x80 1 0 32 .ro (.const 0) .live
  | .slotStatLimited => .mk 0x1040178 rep4x400000_16x80 1 0 1 .ro (.const 0) .live
  | .slotStatSat => .mk 0x1040178 rep4x400000_16x80 1 1 1 .ro (.const 0) .live
  | .slotStatSatfault => .mk 0x1040178 rep4x400000_16x80 1 2 1 .ro (.const 0) .live
  | .slotStatDark => .mk 0x1040178 rep4x400000_16x80 1 3 1 .ro (.const 0) .live
  | .slotStatSafe => .mk 0x1040178 rep4x400000_16x80 1 4 1 .ro (.const 0) .live
  | .slotStatOpenloop => .mk 0x1040178 rep4x400000_16x80 1 5 1 .ro (.const 0) .live
  | .slotStatOvrrun => .mk 0x1040178 rep4x400000_16x80 1 8 8 .ro (.const 0) .live
  | .cntOverrunCnt => .mk 0x104017C rep4x400000_16x80 1 0 16 .ro (.const 0) .live
  | .cntMlost => .mk 0x104017C rep4x400000_16x80 1 16 16 .ro (.const 0) .live

/-- The fields of the HEL block, in table order. -/
def HelF.all : List HelF :=
  [HelF.csCfgEn, HelF.csCfgDiv, HelF.csCfgSpimode, HelF.csStatValid, HelF.csStatRun, HelF.csStatMisscnt,
    HelF.csTxnDly, HelF.csTxnCmdlen, HelF.csTxnRdlen, HelF.csTxnRdofs, HelF.csCmdCmd, HelF.csResWord,
    HelF.csRawData, HelF.pwmCfgFreq, HelF.pwmDuty, HelF.pwmFull]
  ++ [HelF.isoLatLat, HelF.slotCtrlEn, HelF.slotCtrlMode, HelF.slotCtrlSatact, HelF.slotCtrlIload, HelF.slotCtrlSatclr,
    HelF.trigTmode, HelF.trigTsrc, HelF.trigPeriod, HelF.phasePhase, HelF.routeMtype, HelF.routeMidx,
    HelF.routeD0type, HelF.routeD0idx, HelF.routeD1type, HelF.routeD1idx]
  ++ [HelF.routeGate, HelF.cascadeN, HelF.cascadeScale, HelF.inOfs, HelF.inBlank, HelF.coefC,
    HelF.shift0Sff, HelF.shift0Sffl, HelF.shift0Sb0, HelF.shift0Sb1, HelF.shift0Sb2, HelF.shift1Sa1,
    HelF.shift1Sa2, HelF.shift1Ski, HelF.uminUmin, HelF.umaxUmax]
  ++ [HelF.safeSafe, HelF.openOpen, HelF.initInit, HelF.slewSlew, HelF.spSp, HelF.limitSatlim,
    HelF.limitOvrlim, HelF.outU, HelF.spwR, HelF.measM, HelF.integI, HelF.slotStatLimited,
    HelF.slotStatSat, HelF.slotStatSatfault, HelF.slotStatDark, HelF.slotStatSafe]
  ++ [HelF.slotStatOpenloop, HelF.slotStatOvrrun, HelF.cntOverrunCnt, HelF.cntMlost]

/-- The register-table rows of the PLN block. -/
def PlnF.info : PlnF → FieldInfo
  | .ctrlEn => .mk 0x1080000 rep4x400000 1 0 1 .rw (.const 0) .meridian
  | .ctrlSchedPage => .mk 0x1080000 rep4x400000 1 1 1 .rw (.const 0) .meridian
  | .ctrlForceTonly => .mk 0x1080000 rep4x400000 1 2 1 .rw (.const 0) .meridian
  | .ctrlForceReduced => .mk 0x1080000 rep4x400000 1 3 1 .rw (.const 0) .meridian
  | .stateKind => .mk 0x1080008 rep4x400000 1 0 2 .ro (.const 0) .live
  | .stateAsupp => .mk 0x1080008 rep4x400000 1 2 1 .ro (.const 0) .live
  | .stateRcmp => .mk 0x1080008 rep4x400000 1 3 1 .ro (.const 0) .live
  | .stateTcause => .mk 0x1080008 rep4x400000 1 4 4 .ro (.const 0) .live
  | .stateRreq => .mk 0x1080008 rep4x400000 1 8 1 .ro (.const 0) .live
  | .stateNored => .mk 0x1080008 rep4x400000 1 9 1 .ro (.const 0) .live
  | .schedChkGo => .mk 0x108000C rep4x400000 1 0 1 .wo (.const 0) .live
  | .schedChkBusy => .mk 0x108000C rep4x400000 1 1 1 .ro (.const 0) .live
  | .schedChkValid0 => .mk 0x108000C rep4x400000 1 2 1 .ro .eph .live
  | .schedChkValid1 => .mk 0x108000C rep4x400000 1 3 1 .ro .eph .live
  | .schedChkReason => .mk 0x108000C rep4x400000 1 8 8 .ro (.const 0) .live
  | .schedChkEntry => .mk 0x108000C rep4x400000 1 16 16 .ro (.const 0) .live
  | .schedLoadSplitq => .mk 0x1080010 rep4x400000 1 0 8 .ro (.const 0) .live
  | .schedTailTail => .mk 0x1080014 rep4x400000 1 0 27 .ro (.const 0) .live
  | .rdleadLead => .mk 0x1080018 rep4x400000 1 0 16 .rw .eph .static
  | .pbufBaseAddr => .mk 0x1080020 rep4x400000 2 12 22 .rw .eph .static
  | .pbufStrideStride => .mk 0x1080028 rep4x400000 1 0 20 .rw .eph .static
  | .planeSizeSize => .mk 0x108002C rep4x400000 1 0 20 .rw .eph .static
  | .frameFrame => .mk 0x1080030 rep4x400000 1 0 32 .ro (.const 0) .live
  | .rcmpCntBands => .mk 0x1080034 rep4x400000 1 0 16 .ro (.const 0) .live
  | .rcmpCntZero => .mk 0x1080034 rep4x400000 1 16 16 .ro (.const 0) .live
  | .modeCntTonly => .mk 0x1080038 rep4x400000 1 0 16 .ro (.const 0) .live
  | .modeCntAsupp => .mk 0x1080038 rep4x400000 1 16 16 .ro (.const 0) .live
  | .schedWord => .mk 0x1090000 rep4x400000_2x4000_3x1400_1280x4 1 0 32 .rw .eph .live

/-- The fields of the PLN block, in table order. -/
def PlnF.all : List PlnF :=
  [PlnF.ctrlEn, PlnF.ctrlSchedPage, PlnF.ctrlForceTonly, PlnF.ctrlForceReduced, PlnF.stateKind, PlnF.stateAsupp,
    PlnF.stateRcmp, PlnF.stateTcause, PlnF.stateRreq, PlnF.stateNored, PlnF.schedChkGo, PlnF.schedChkBusy,
    PlnF.schedChkValid0, PlnF.schedChkValid1, PlnF.schedChkReason, PlnF.schedChkEntry]
  ++ [PlnF.schedLoadSplitq, PlnF.schedTailTail, PlnF.rdleadLead, PlnF.pbufBaseAddr, PlnF.pbufStrideStride, PlnF.planeSizeSize,
    PlnF.frameFrame, PlnF.rcmpCntBands, PlnF.rcmpCntZero, PlnF.modeCntTonly, PlnF.modeCntAsupp, PlnF.schedWord]

/-- The register-table rows of the GEO block. -/
def GeoF.info : GeoF → FieldInfo
  | .ctrlWarpEn => .mk 0x1100000 rep4x400000 1 0 1 .rw (.const 0) .meridian
  | .ctrlBlendEn => .mk 0x1100000 rep4x400000 1 1 1 .rw (.const 0) .meridian
  | .ctrlIlutEn => .mk 0x1100000 rep4x400000 1 2 1 .rw (.const 0) .meridian
  | .ctrlMtxEn => .mk 0x1100000 rep4x400000 1 3 1 .rw (.const 0) .meridian
  | .ctrlUniEn => .mk 0x1100000 rep4x400000 1 4 1 .rw (.const 0) .meridian
  | .ctrlOlutEn => .mk 0x1100000 rep4x400000 1 5 1 .rw (.const 0) .meridian
  | .ctrlCorrEn => .mk 0x1100000 rep4x400000 1 6 1 .rw (.const 0) .meridian
  | .ctrlMeshPage => .mk 0x1100000 rep4x400000 1 8 1 .rw (.const 0) .meridian
  | .ctrlLutPage => .mk 0x1100000 rep4x400000 1 9 1 .rw (.const 0) .meridian
  | .ctrlUniPage => .mk 0x1100000 rep4x400000 1 10 1 .rw (.const 0) .meridian
  | .edgeColour => .mk 0x1100004 rep4x400000 1 0 30 .rw (.const 0) .meridian
  | .blendW0Left => .mk 0x1100008 rep4x400000 1 0 11 .rw (.const 0) .meridian
  | .blendW0Right => .mk 0x1100008 rep4x400000 1 16 11 .rw (.const 0) .meridian
  | .blendW1Top => .mk 0x110000C rep4x400000 1 0 11 .rw (.const 0) .meridian
  | .blendW1Bottom => .mk 0x110000C rep4x400000 1 16 11 .rw (.const 0) .meridian
  | .meshLoadGo => .mk 0x1100010 rep4x400000 1 0 1 .wo (.const 0) .live
  | .meshLoadPage => .mk 0x1100010 rep4x400000 1 1 1 .rw (.const 0) .live
  | .meshLoadBusy => .mk 0x1100010 rep4x400000 1 2 1 .ro (.const 0) .live
  | .meshLoadErr => .mk 0x1100010 rep4x400000 1 3 1 .ro (.const 0) .live
  | .meshSrcAddr => .mk 0x1100014 rep4x400000 2 8 26 .rw (.const 0) .live
  | .meshStatClamped => .mk 0x110001C rep4x400000 1 0 16 .ro (.const 0) .live
  | .meshStatParity => .mk 0x110001C rep4x400000 1 16 16 .ro (.const 0) .live
  | .mtxCoef => .mk 0x1100040 rep4x400000_9x4 1 0 20 .rw .mtxDiag .meridian
  | .mtxDirCoef => .mk 0x1100070 rep4x400000_9x4 1 0 20 .rw (.const 0) .meridian
  | .mtxCorrCorr => .mk 0x11000A0 rep4x400000_3x4 1 0 32 .ro (.const 0) .live
  | .colClipClip => .mk 0x11000AC rep4x400000 1 0 24 .ro (.const 0) .live
  | .colClipSat => .mk 0x11000AC rep4x400000 1 24 8 .ro (.const 0) .live
  | .plateBaseBase => .mk 0x11000B0 rep4x400000 1 0 20 .rw .eph .static
  | .platePitchPitch => .mk 0x11000B4 rep4x400000 1 6 10 .rw .eph .static
  | .plateLineLine => .mk 0x11000B8 rep4x400000 1 0 12 .ro (.const 0) .live
  | .plateFrameFrame => .mk 0x11000BC rep4x400000 1 0 32 .ro (.const 0) .live
  | .blendGain => .mk 0x1100800 rep4x400000_2x400_4x100_64x4 1 0 16 .rw (.const 65535) .live
  | .ilutEntry => .mk 0x1110000 rep4x400000_2x8000_3x1400_1025x4 1 0 16 .rw .lut .live
  | .olutEntry => .mk 0x1114000 rep4x400000_2x8000_3x1400_1025x4 1 0 16 .rw .lut .live
  | .meshDx => .mk 0x1140000 rep4x400000_2x40000_40960x4 1 0 16 .rw (.const 0) .live
  | .meshDy => .mk 0x1140000 rep4x400000_2x40000_40960x4 1 16 16 .rw (.const 0) .live
  | .uniG => .mk 0x11C0000 rep4x400000_2x20000_9216x8 2 0 48 .rw (.const 0x800080008000) .live

/-- The fields of the GEO block, in table order. -/
def GeoF.all : List GeoF :=
  [GeoF.ctrlWarpEn, GeoF.ctrlBlendEn, GeoF.ctrlIlutEn, GeoF.ctrlMtxEn, GeoF.ctrlUniEn, GeoF.ctrlOlutEn,
    GeoF.ctrlCorrEn, GeoF.ctrlMeshPage, GeoF.ctrlLutPage, GeoF.ctrlUniPage, GeoF.edgeColour, GeoF.blendW0Left,
    GeoF.blendW0Right, GeoF.blendW1Top, GeoF.blendW1Bottom, GeoF.meshLoadGo]
  ++ [GeoF.meshLoadPage, GeoF.meshLoadBusy, GeoF.meshLoadErr, GeoF.meshSrcAddr, GeoF.meshStatClamped, GeoF.meshStatParity,
    GeoF.mtxCoef, GeoF.mtxDirCoef, GeoF.mtxCorrCorr, GeoF.colClipClip, GeoF.colClipSat, GeoF.plateBaseBase,
    GeoF.platePitchPitch, GeoF.plateLineLine, GeoF.plateFrameFrame, GeoF.blendGain]
  ++ [GeoF.ilutEntry, GeoF.olutEntry, GeoF.meshDx, GeoF.meshDy, GeoF.uniG]

/-- The register-table rows of the PLT block. -/
def PltF.info : PltF → FieldInfo
  | .parCntParity => .mk 0x2010020 rep2x400000_8x4 1 0 16 .ro (.const 0) .live
  | .parCntPoison => .mk 0x2010020 rep2x400000_8x4 1 16 16 .ro (.const 0) .live
  | .fbCfgLayer => .mk 0x2010040 rep2x400000_2x20 1 0 3 .ro .eph .static
  | .fbCfgKind => .mk 0x2010040 rep2x400000_2x20 1 3 1 .ro .eph .static
  | .fbCfgDpin => .mk 0x2010040 rep2x400000_2x20 1 4 2 .ro .eph .static
  | .fbCfgFmt => .mk 0x2010040 rep2x400000_2x20 1 6 1 .ro .eph .static
  | .fbBaseBase => .mk 0x2010044 rep2x400000_2x20 1 0 20 .ro .eph .static
  | .fbPitchPitch => .mk 0x2010048 rep2x400000_2x20 1 6 10 .ro .eph .static
  | .fbXyCx => .mk 0x201004C rep2x400000_2x20 1 0 13 .ro .eph .static
  | .fbXyCy => .mk 0x201004C rep2x400000_2x20 1 16 13 .ro .eph .static
  | .fbWhW => .mk 0x2010050 rep2x400000_2x20 1 0 13 .ro .eph .static
  | .fbWhH => .mk 0x2010050 rep2x400000_2x20 1 16 13 .ro .eph .static
  | .fbStatTorn => .mk 0x2010054 rep2x400000_2x20 1 0 16 .ro (.const 0) .live
  | .fbStatViol => .mk 0x2010054 rep2x400000_2x20 1 16 16 .ro (.const 0) .live
  | .cacheFree => .mk 0x2010080 rep2x400000 1 0 16 .ro (.const 0) .live
  | .cacheLayers => .mk 0x2010080 rep2x400000 1 16 8 .ro (.const 0) .live
  | .cacheDrops => .mk 0x2010080 rep2x400000 1 24 8 .ro (.const 0) .live
  | .winerrCount => .mk 0x2010084 rep2x400000 1 0 16 .ro (.const 0) .live

/-- The fields of the PLT block, in table order. -/
def PltF.all : List PltF :=
  [PltF.parCntParity, PltF.parCntPoison, PltF.fbCfgLayer, PltF.fbCfgKind, PltF.fbCfgDpin, PltF.fbCfgFmt,
    PltF.fbBaseBase, PltF.fbPitchPitch, PltF.fbXyCx, PltF.fbXyCy, PltF.fbWhW, PltF.fbWhH,
    PltF.fbStatTorn, PltF.fbStatViol, PltF.cacheFree, PltF.cacheLayers]
  ++ [PltF.cacheDrops, PltF.winerrCount]

/-- The register-table rows of the TRN block. -/
def TrnF.info : TrnF → FieldInfo
  | .ctrlHost => .mk 0x3000008 repOne 1 0 1 .rw (.const 0) .live
  | .cfgMinwHbm => .mk 0x3000010 repOne 1 0 6 .rw (.const 6) .live
  | .cfgMinwTri => .mk 0x3000010 repOne 1 8 4 .rw (.const 3) .live
  | .cfgMinwAdc => .mk 0x3000010 repOne 1 16 4 .rw (.const 8) .live
  | .cfgTdrift => .mk 0x3000010 repOne 1 20 8 .rw (.const 10) .live
  | .schedRetrainMin => .mk 0x3000014 repOne 1 0 8 .rw (.const 60) .live
  | .schedDarkmin => .mk 0x3000014 repOne 1 8 8 .rw (.const 10) .live
  | .schedApplytmo => .mk 0x3000014 repOne 1 16 16 .rw (.const 1000) .live
  | .pdcalDarkmax => .mk 0x3000018 repOne 1 0 14 .rw (.const 512) .live
  | .pdcalDarkmarg => .mk 0x3000018 repOne 1 16 8 .rw (.const 64) .live
  | .userpatPat => .mk 0x3000040 rep8x4 1 0 32 .rw (.const 0) .live
  | .engCtrlGo => .mk 0x3000100 rep6x40 1 0 1 .wo (.const 0) .live
  | .engCtrlAbort => .mk 0x3000100 rep6x40 1 1 1 .wo (.const 0) .live
  | .engCtrlTarget => .mk 0x3000100 rep6x40 1 4 3 .rw (.const 0) .live
  | .engCtrlIdx => .mk 0x3000100 rep6x40 1 8 8 .rw (.const 0) .live
  | .engCtrlCluster => .mk 0x3000100 rep6x40 1 16 2 .rw (.const 0) .live
  | .engCtrlPattern => .mk 0x3000100 rep6x40 1 24 3 .rw (.const 1) .live
  | .engStatState => .mk 0x3000104 rep6x40 1 0 3 .ro (.const 0) .live
  | .engStatDone => .mk 0x3000104 rep6x40 1 3 1 .ro (.const 0) .live
  | .engStatPass => .mk 0x3000104 rep6x40 1 4 1 .ro (.const 0) .live
  | .engStatStale => .mk 0x3000104 rep6x40 1 5 1 .ro (.const 0) .live
  | .engStatExpired => .mk 0x3000104 rep6x40 1 6 1 .ro (.const 0) .live
  | .engStatPrecond => .mk 0x3000104 rep6x40 1 8 4 .ro (.const 0) .live
  | .engStatAt => .mk 0x3000104 rep6x40 1 12 2 .ro (.const 0) .live
  | .engStatBursts => .mk 0x3000104 rep6x40 1 16 16 .ro (.const 0) .live
  | .engRangeFirst => .mk 0x3000108 rep6x40 1 0 7 .rw (.const 0) .live
  | .engRangeLast => .mk 0x3000108 rep6x40 1 8 7 .rw (.const 127) .live
  | .engBurstLen => .mk 0x300010C rep6x40 1 0 7 .rw (.const 32) .live
  | .engBurstGap => .mk 0x300010C rep6x40 1 16 16 .rw (.const 100) .live
  | .engResultStart => .mk 0x3000110 rep6x40 1 0 7 .ro (.const 0) .live
  | .engResultWidth => .mk 0x3000110 rep6x40 1 8 7 .ro (.const 0) .live
  | .engResultChosen => .mk 0x3000110 rep6x40 1 16 7 .ro (.const 0) .live
  | .engResultBit => .mk 0x3000110 rep6x40 1 24 7 .ro (.const 0) .live
  | .engMapMap => .mk 0x3000120 rep6x40_4x4 1 0 32 .ro (.const 0) .live
  | .biterrCount => .mk 0x3000800 rep6x200_72x4 1 0 16 .rc (.const 0) .live
  | .adcPhase => .mk 0x3002000 rep4x100_6x10 1 0 6 .ro .cal .live
  | .adcNophase => .mk 0x3002000 rep4x100_6x10 1 8 1 .ro (.const 0) .live
  | .adcStaged => .mk 0x3002000 rep4x100_6x10 1 9 1 .ro (.const 0) .live
  | .hbmTapRd => .mk 0x3100000 rep16x1000_3x400_72x4 1 0 7 .ro .cal .live
  | .hbmTapWr => .mk 0x3100000 rep16x1000_3x400_72x4 1 8 7 .ro .cal .live

/-- The fields of the TRN block, in table order. -/
def TrnF.all : List TrnF :=
  [TrnF.ctrlHost, TrnF.cfgMinwHbm, TrnF.cfgMinwTri, TrnF.cfgMinwAdc, TrnF.cfgTdrift, TrnF.schedRetrainMin,
    TrnF.schedDarkmin, TrnF.schedApplytmo, TrnF.pdcalDarkmax, TrnF.pdcalDarkmarg, TrnF.userpatPat, TrnF.engCtrlGo,
    TrnF.engCtrlAbort, TrnF.engCtrlTarget, TrnF.engCtrlIdx, TrnF.engCtrlCluster]
  ++ [TrnF.engCtrlPattern, TrnF.engStatState, TrnF.engStatDone, TrnF.engStatPass, TrnF.engStatStale, TrnF.engStatExpired,
    TrnF.engStatPrecond, TrnF.engStatAt, TrnF.engStatBursts, TrnF.engRangeFirst, TrnF.engRangeLast, TrnF.engBurstLen,
    TrnF.engBurstGap, TrnF.engResultStart, TrnF.engResultWidth, TrnF.engResultChosen]
  ++ [TrnF.engResultBit, TrnF.engMapMap, TrnF.biterrCount, TrnF.adcPhase, TrnF.adcNophase, TrnF.adcStaged,
    TrnF.hbmTapRd, TrnF.hbmTapWr]

/-- The register-table rows of the OBS block. -/
def ObsF.info : ObsF → FieldInfo
  | .cmdCmd => .mk 0x3800000 repOne 1 0 16 .rw (.const 0) .static
  | .cmdTag => .mk 0x3800000 repOne 1 16 16 .rw (.const 0) .static
  | .argArg => .mk 0x3800004 rep6x4 1 0 32 .rw (.const 0) .static
  | .haddrAddr => .mk 0x3800020 repOne 2 6 58 .rw (.const 0) .static
  | .hlenLen => .mk 0x3800028 repOne 1 0 32 .rw (.const 0) .static
  | .doorbellRing => .mk 0x3800030 repOne 1 0 1 .wo (.const 0) .live
  | .statusBusy => .mk 0x3800034 repOne 1 0 1 .ro (.const 0) .live
  | .statusDone => .mk 0x3800034 repOne 1 1 1 .w1c (.const 0) .live
  | .statusOffline => .mk 0x3800034 repOne 1 2 1 .ro (.const 0) .live
  | .statusCollide => .mk 0x3800034 repOne 1 3 1 .w1c (.const 0) .live
  | .replyStatus => .mk 0x3800040 repOne 1 0 16 .ro (.const 0) .live
  | .replyTag => .mk 0x3800040 repOne 1 16 16 .ro (.const 0) .live
  | .replyLenLen => .mk 0x3800044 repOne 1 0 13 .ro (.const 0) .live
  | .retryMs => .mk 0x3800048 repOne 1 0 32 .ro (.const 0) .live
  | .detailDetail => .mk 0x380004C repOne 1 0 32 .ro (.const 0) .live
  | .loadLoad => .mk 0x3800084 repOne 1 0 8 .ro (.const 0) .live
  | .loadMean => .mk 0x3800084 repOne 1 8 8 .ro (.const 0) .live
  | .loadPeak => .mk 0x3800084 repOne 1 16 8 .rc (.const 0) .live
  | .loadShed => .mk 0x3800084 repOne 1 24 3 .ro (.const 0) .live
  | .loadShedding => .mk 0x3800084 repOne 1 27 1 .ro (.const 0) .live
  | .shedCntEntries => .mk 0x3800088 repOne 1 0 16 .ro (.const 0) .live
  | .shedCntBusyreplies => .mk 0x3800088 repOne 1 16 16 .ro (.const 0) .live
  | .wdogTimeout => .mk 0x380008C repOne 1 0 13 .rw (.const 500) .live
  | .wdogResets => .mk 0x380008C repOne 1 16 8 .ro (.const 0) .live
  | .wdogRecent => .mk 0x380008C repOne 1 24 2 .ro (.const 0) .live
  | .fwVersion => .mk 0x3800090 repOne 1 0 16 .ro (.const 0) .live
  | .fwCopy => .mk 0x3800090 repOne 1 16 1 .ro (.const 0) .live
  | .reqpageWord => .mk 0x3801000 rep1024x4 1 0 32 .rw (.const 0) .static
  | .reppageWord => .mk 0x3802000 rep1024x4 1 0 32 .ro (.const 0) .live

/-- The fields of the OBS block, in table order. -/
def ObsF.all : List ObsF :=
  [ObsF.cmdCmd, ObsF.cmdTag, ObsF.argArg, ObsF.haddrAddr, ObsF.hlenLen, ObsF.doorbellRing,
    ObsF.statusBusy, ObsF.statusDone, ObsF.statusOffline, ObsF.statusCollide, ObsF.replyStatus, ObsF.replyTag,
    ObsF.replyLenLen, ObsF.retryMs, ObsF.detailDetail, ObsF.loadLoad]
  ++ [ObsF.loadMean, ObsF.loadPeak, ObsF.loadShed, ObsF.loadShedding, ObsF.shedCntEntries, ObsF.shedCntBusyreplies,
    ObsF.wdogTimeout, ObsF.wdogResets, ObsF.wdogRecent, ObsF.fwVersion, ObsF.fwCopy, ObsF.reqpageWord,
    ObsF.reppageWord]

/-- The UTYPE code of R35. -/
def UType.code : UType → Nat
  | .comp => 0x09
  | .layer => 0x08
  | .dpr => 0x20
  | .geo => 0x0A
  | .geoCol => 0x0B
  | .pln => 0x0C
  | .chr => 0x0D
  | .lane => 0x0E
  | .lamp => 0x15
  | .intlk => 0x14
  | .tsen => 0x13
  | .lsrCh => 0x0F
  | .cs => 0x11
  | .pwm => 0x12
  | .slot => 0x10
  | .frsEng => 0x1B
  | .scrub => 0x1F
  | .hbm => 0x18
  | .pc => 0x19
  | .bank => 0x1A
  | .trn => 0x28
  | .alm => 0x24
  | .log => 0x2C
  | .arc => 0x1C
  | .nvme => 0x22
  | .pwr => 0x25
  | .dom => 0x2B
  | .pll => 0x2A
  | .pci => 0x21
  | .port => 0x26
  | .chn => 0x05
  | .par => 0x05
  | .transit => 0x1E
  | .obs => 0x23
  | .cluster => 0x01
  | .region => 0x02
  | .die => 0x03
  | .pkg => 0x04
  | .d2d => 0x1D
  | .eph => 0x29
  | .ls => 0x27

/-- Every unit type, in the order of the register tables. -/
def UType.all : List UType :=
  [UType.comp, UType.layer, UType.dpr, UType.geo, UType.geoCol, UType.pln, UType.chr, UType.lane, UType.lamp, UType.intlk, UType.tsen, UType.lsrCh]
  ++ [UType.cs, UType.pwm, UType.slot, UType.frsEng, UType.scrub, UType.hbm, UType.pc, UType.bank, UType.trn, UType.alm, UType.log, UType.arc]
  ++ [UType.nvme, UType.pwr, UType.dom, UType.pll, UType.pci, UType.port, UType.chn, UType.par, UType.transit, UType.obs, UType.cluster, UType.region]
  ++ [UType.die, UType.pkg, UType.d2d, UType.eph, UType.ls]

/-- Where the status words of a unit type stand: address of the first and repetition (the register tables). TRN has two
words, die 0 at 0 and die 1 at 4. -/
def UType.statusPlace : UType → Nat × List (Nat × Nat)
  | .comp => (0x1000020, [(4, 0x400000)])
  | .layer => (0x1000128, [(4, 0x400000), (8, 0x40)])
  | .dpr => (0x90010, [(4, 0x100)])
  | .geo => (0x1100020, [(4, 0x400000)])
  | .geoCol => (0x1100024, [(4, 0x400000)])
  | .pln => (0x1080004, [(4, 0x400000)])
  | .chr => (0x1010004, [(4, 0x400000)])
  | .lane => (0x1020100, [(4, 0x400000), (18, 0x4)])
  | .lamp => (0x103002C, [(4, 0x400000)])
  | .intlk => (0x1030030, [(4, 0x400000)])
  | .tsen => (0x1030050, [(4, 0x400000), (4, 0x4)])
  | .lsrCh => (0x1030104, [(4, 0x400000), (6, 0x40)])
  | .cs => (0x1040004, [(4, 0x400000)])
  | .pwm => (0x104004C, [(4, 0x400000), (2, 0x4)])
  | .slot => (0x1040104, [(4, 0x400000), (16, 0x80)])
  | .frsEng => (0xD0000, [])
  | .scrub => (0xE0018, [])
  | .hbm => (0x2000008, [(2, 0x400000)])
  | .pc => (0x2000100, [(2, 0x400000), (8, 0x10)])
  | .bank => (0x2010000, [(2, 0x400000), (8, 0x4)])
  | .trn => (0x3000000, [(2, 0x4)])
  | .alm => (0x30000, [])
  | .log => (0x40000, [])
  | .arc => (0xA0000, [])
  | .nvme => (0xA0004, [])
  | .pwr => (0x20000, [])
  | .dom => (0x20100, [(50, 0x4)])
  | .pll => (0x20200, [(8, 0x4)])
  | .pci => (0x80000, [])
  | .port => (0xB0000, [(2, 0x4)])
  | .chn => (0xB0008, [])
  | .par => (0xC0000, [])
  | .transit => (0xC0004, [])
  | .obs => (0x3800080, [])
  | .cluster => (0x40, [(4, 0x4)])
  | .region => (0x50, [(2, 0x4)])
  | .die => (0x58, [(2, 0x4)])
  | .pkg => (0x60, [])
  | .d2d => (0x64, [(2, 0x4)])
  | .eph => (0x6C, [])
  | .ls => (0x70, [(2, 0x4)])

/-- The place, width and access of a stored status-word field (R16). -/
def StF.info (u : UType) (f : StF) : FieldInfo :=
  let p := u.statusPlace
  match f with
  | .fatal => .mk p.1 p.2 1 2 1 .w1c (.const 0) .live
  | .degr => .mk p.1 p.2 1 3 1 .ro (.const 0) .live
  | .mark => .mk p.1 p.2 1 4 1 .ro (.const 0) .live
  | .lastclass => .mk p.1 p.2 1 8 4 .ro (.const 0) .live
  | .errcnt => .mk p.1 p.2 1 16 16 .ro (.const 0) .live

/-- The row of a field. -/
def Fld.info : Fld → FieldInfo
  | .glb f => f.info
  | .eph f => f.info
  | .pwr f => f.info
  | .alm f => f.info
  | .log f => f.info
  | .pci f => f.info
  | .dpr f => f.info
  | .arc f => f.info
  | .chn f => f.info
  | .par f => f.info
  | .frs f => f.info
  | .hbm f => f.info
  | .pix f => f.info
  | .chr f => f.info
  | .tri f => f.info
  | .lsr f => f.info
  | .hel f => f.info
  | .pln f => f.info
  | .geo f => f.info
  | .plt f => f.info
  | .trn f => f.info
  | .obs f => f.info
  | .st u f => f.info u

/-- Split an offset by a repetition: the instance (row-major) and what is left. -/
def splitDims : List (Nat × Nat) → Nat → Nat → Option (Nat × Nat)
  | [], rem, inst => some (inst, rem)
  | (n, st) :: ds, rem, inst => if rem / st < n then splitDims ds (rem % st) (inst * n + rem / st) else none

/-- The offset of an instance under a repetition; `inst` is row-major. -/
def instOffset : List (Nat × Nat) → Nat → Nat
  | [], _ => 0
  | (_, st) :: ds, inst =>
    let inner := (ds.map Prod.fst).foldl (· * ·) 1
    inst / inner * st + instOffset ds (inst % inner)

/-- The instance and the word of a field's register that a BAR0 address names, if it does. -/
def FieldInfo.at (f : FieldInfo) (a : Nat) : Option (Nat × Nat) :=
  if a < f.base then none else
  match splitDims f.dims (a - f.base) 0 with
  | some (inst, rem) => if rem / 4 < f.words then some (inst, rem / 4) else none
  | none => none

/-- How many instances a field has. -/
def FieldInfo.count (f : FieldInfo) : Nat := (f.dims.map Prod.fst).foldl (· * ·) 1

/-- The BAR0 address of the register that holds an instance of a field. -/
def Fld.addr (f : Fld) (inst : Nat) : Nat := f.info.base + instOffset f.info.dims inst

/-- The blocks of R438. -/
inductive Block
  | glb | eph | pwr | alm | log | pci | dpr | arc | chn | par | frs | hbm | pix | chr | tri | lsr | hel | pln | geo | plt | trn | obs
  deriving DecidableEq, Repr

/-- The fields of a block. -/
def Block.fields : Block → List Fld
  | .glb => GlbF.all.map Fld.glb
  | .eph => EphF.all.map Fld.eph
  | .pwr => PwrF.all.map Fld.pwr
  | .alm => AlmF.all.map Fld.alm
  | .log => LogF.all.map Fld.log
  | .pci => PciF.all.map Fld.pci
  | .dpr => DprF.all.map Fld.dpr
  | .arc => ArcF.all.map Fld.arc
  | .chn => ChnF.all.map Fld.chn
  | .par => ParF.all.map Fld.par
  | .frs => FrsF.all.map Fld.frs
  | .hbm => HbmF.all.map Fld.hbm
  | .pix => PixF.all.map Fld.pix
  | .chr => ChrF.all.map Fld.chr
  | .tri => TriF.all.map Fld.tri
  | .lsr => LsrF.all.map Fld.lsr
  | .hel => HelF.all.map Fld.hel
  | .pln => PlnF.all.map Fld.pln
  | .geo => GeoF.all.map Fld.geo
  | .plt => PltF.all.map Fld.plt
  | .trn => TrnF.all.map Fld.trn
  | .obs => ObsF.all.map Fld.obs

/-- The block in whose range a BAR0 address lies (R438, R439); none in a range that holds no block. -/
def blockAt (a : Nat) : Option Block :=
  if a < 0x10000 then some .glb else if a < 0x20000 then some .eph else if a < 0x30000 then some .pwr
  else if a < 0x40000 then some .alm else if a < 0x80000 then some .log else if a < 0x90000 then some .pci
  else if a < 0xA0000 then some .dpr else if a < 0xB0000 then some .arc else if a < 0xC0000 then some .chn
  else if a < 0xD0000 then some .par else if a < 0xE0000 then some .frs else if a < 0xF0000 then some .hbm
  else if a < 0x1000000 then none
  else if a < 0x2000000 then
    let r := a % 0x400000
    if r < 0x10000 then some .pix else if r < 0x20000 then some .chr else if r < 0x30000 then some .tri
    else if r < 0x40000 then some .lsr else if r < 0x50000 then some .hel else if r < 0x80000 then none
    else if r < 0xA0000 then some .pln else if r < 0x100000 then none else if r < 0x200000 then some .geo
    else if r < 0x300000 then some .frs else none
  else if a < 0x2800000 then
    let r := a % 0x400000
    if r < 0x10000 then some .hbm else if r < 0x20000 then some .plt else none
  else if a < 0x3000000 then none
  else if a < 0x3800000 then some .trn else if a < 0x3810000 then some .obs else none

/-- The fields of the register that holds the word at a BAR0 address, each with its instance and the word's number. -/
def fieldsAt (a : Nat) : List (Fld × Nat × Nat) :=
  match blockAt a with
  | none => []
  | some b => b.fields.filterMap fun f =>
    match f.info.at a with
    | some (inst, wd) => some (f, inst, wd)
    | none => none

/-- The status word at a BAR0 address: the unit type and the instance. -/
def statusAt (a : Nat) : Option (UType × Nat) :=
  UType.all.findSome? fun u =>
    let p := u.statusPlace
    if a < p.1 then none else
    match splitDims p.2 (a - p.1) 0 with
    | some (inst, rem) => if rem < 4 then some (u, inst) else none
    | none => none

end Sys2Proof.Machine
end

