-- ==== Sys2Proof/Machine/Schedule.lean ====
section
/-! DEFINITION. Plane schedules as data: the header and entries of a schedule window (R116, R117), the validity checks
of R118 with the split factor of R115 and the lengths of R119, the band phasing of R109, and the fit check of R134. -/

namespace Sys2Proof.Machine

/-- A schedule header (R116). -/
structure SchedHeader where
  kind : Nat
  nseg : Nat
  nent : Nat
  da : Nat
  settle : Nat
  period : Nat
  dump : Nat
  bands : Nat
  minlanes : Nat
  splitq : Nat
  tform : Bool
  tail : Nat
  deriving DecidableEq, Repr

/-- A schedule entry (R117). -/
structure SchedEntry where
  op : Nat
  prim : Nat
  bitn : Nat
  piece : Nat
  npiece : Nat
  send : Bool
  smpl : Bool
  dwell : Nat
  deriving DecidableEq, Repr

/-- A schedule: its header and its entries. -/
structure Schedule where
  hdr : SchedHeader
  ents : List SchedEntry
  deriving DecidableEq, Repr

/-- Read a header from the first eight words of a schedule (R116). -/
def readHeader (wd : Nat → Nat) : SchedHeader :=
  { kind := bits (wd 0) 0 8, nseg := bits (wd 0) 8 8, nent := bits (wd 0) 16 16, da := bits (wd 1) 0 16,
    settle := bits (wd 1) 16 16, period := wd 2, dump := wd 3, bands := bits (wd 4) 0 8,
    minlanes := bits (wd 4) 8 8, splitq := bits (wd 4) 16 8, tform := bit (wd 4) 24, tail := wd 5 }

/-- Read an entry from its two words (R117). -/
def readEntry (lo hi : Nat) : SchedEntry :=
  { op := bits lo 0 4, prim := bits lo 4 2, bitn := bits lo 6 4, piece := bits lo 10 2, npiece := bits lo 12 2,
    send := bit lo 14, smpl := bit lo 15, dwell := bits hi 0 16 }

/-- Read a schedule from its window words; at most 512 entries (R116). -/
def readSchedule (wd : Nat → Nat) : Schedule :=
  let h := readHeader wd
  ⟨h, (List.range (min h.nent 512)).map fun i => readEntry (wd (8 + 2 * i)) (wd (9 + 2 * i))⟩

/-- The segments of a schedule: for each SEG entry, its primary and the entries up to the next SEG or END. -/
def segmentsOf : List SchedEntry → List (Nat × List SchedEntry)
  | [] => []
  | e :: es =>
    if e.op == 1 then (e.prim, es.takeWhile fun x => x.op != 1 && x.op != 0) :: segmentsOf es else segmentsOf es

/-- The T-plane pieces of a segment, in base order. -/
def tpcs (body : List SchedEntry) : List SchedEntry := body.filter fun e => e.op == 2

/-- A dwell field in CCLK (R107). -/
def dwellCclk (h : SchedHeader) (d : Nat) : Nat := d * h.da / 64

/-- T_T of a segment (R119). -/
def tPortion (h : SchedHeader) (body : List SchedEntry) : Nat :=
  ((tpcs body).length + 1) * h.settle + ((tpcs body).map fun e => dwellCclk h e.dwell).sum

/-- The length of the A-window (R119). -/
def aWindow (h : SchedHeader) : Nat := if h.tform then 0 else 6 * (h.settle + h.da)

/-- The length of a segment (R119). -/
def segLen (h : SchedHeader) (body : List SchedEntry) : Nat := tPortion h body + aWindow h

/-- The tail the module computes; negative when the schedule overruns its frame (R119). -/
def tailOf (s : Schedule) : Int :=
  (s.hdr.period : Int) - s.hdr.dump
    - (((segmentsOf s.ents).map fun g => segLen s.hdr g.2).sum : Nat)

/-- Plane-equivalents sent per frame (R115). -/
def planeEquivalents (s : Schedule) : Nat :=
  (s.ents.filter fun e => (e.op == 2 && e.send) || e.op == 4).length + s.hdr.nseg

/-- The split factor times 64, rounded up (R115, R116). -/
def splitqOf (s : Schedule) : Nat :=
  if s.hdr.nseg == 0 then 0 else (planeEquivalents s * 64 + 16 * s.hdr.nseg - 1) / (16 * s.hdr.nseg)

/-- The planes of a frame under a schedule: 36 in the T-form, 48 in the A-form (R149). -/
def planeCount (h : SchedHeader) : Nat := if h.tform then 36 else 48

/-- What a schedule must agree with: the output's size and period and the array's parameters. -/
structure SchedEnv where
  w : Nat
  h : Nat
  period : Nat
  bands : Nat
  settle : Nat
  cache : Nat
  deriving DecidableEq, Repr

/-- Where the check of the entries stands: the index, the segments opened, the open segment's primary, whether its
A-window has begun, the A-bits seen, and for each T-bit seen its next piece, its NPIECE and the dwell so far. -/
structure SchedWalk where
  idx : Nat
  opened : List Nat
  inSeg : Bool
  prim : Nat
  awin : Bool
  abits : List Nat
  tbits : List (Nat × Nat × Nat × Nat)
  deriving DecidableEq, Repr

/-- Whether a segment that closes here is complete (R114, R118: T-bits, Segment body). -/
def segComplete (tform : Bool) (st : SchedWalk) : Bool :=
  let lo := if tform then 4 else 6
  ((List.range (16 - lo)).all fun k =>
    (st.tbits.any fun t => t.1 == lo + k && t.2.1 == t.2.2.1 + 1 && t.2.2.2 == 2 ^ (lo + k)))
  && (tform || (st.awin && (List.range 6).all fun j => st.abits.contains j))

/-- One entry of the check; none when the entry breaks R118. -/
def schedStep (h : SchedHeader) (st : SchedWalk) (e : SchedEntry) : Option SchedWalk :=
  let nxt := { st with idx := st.idx + 1 }
  match e.op with
  | 0 => if st.inSeg && segComplete h.tform st && st.idx + 1 == h.nent then some { nxt with inSeg := false } else none
  | 1 =>
    if e.prim < 3 && (!st.inSeg || segComplete h.tform st) && (st.inSeg || st.idx == 0) then
      some { nxt with opened := e.prim :: st.opened, inSeg := true, prim := e.prim, awin := false, abits := [], tbits := [] }
    else none
  | 2 =>
    let lo := if h.tform then 4 else 6
    if st.inSeg && !st.awin && e.prim == st.prim && lo ≤ e.bitn && 16 ≤ e.dwell && (e.piece != 0 || e.send)
        && e.piece ≤ e.npiece then
      match st.tbits.find? fun t => t.1 == e.bitn with
      | none => if e.piece == 0 then some { nxt with tbits := (e.bitn, 1, e.npiece, e.dwell) :: st.tbits } else none
      | some t =>
        if e.piece == t.2.1 && e.npiece == t.2.2.1 then
          some { nxt with tbits := (e.bitn, t.2.1 + 1, t.2.2.1, t.2.2.2 + e.dwell)
                                    :: st.tbits.filter fun u => u.1 != e.bitn }
        else none
    else none
  | 3 => if st.inSeg && !h.tform && !st.awin then some { nxt with awin := true } else none
  | 4 =>
    if st.inSeg && st.awin && e.prim == st.prim && e.bitn < 6 && !st.abits.contains e.bitn then
      some { nxt with abits := e.bitn :: st.abits }
    else none
  | _ => none

/-- The index of the first entry that breaks R118, if any. DESIGN CHOICE, log entry 115: the rule gives no index where END is missing, here NENT, one
past the last entry, nor where a primary has too few segments, here the last entry. -/
def schedWalk (h : SchedHeader) : SchedWalk → List SchedEntry → Option Nat
  | st, [] => if st.inSeg || st.idx == 0 then some st.idx else
      if (List.range 3).all fun p => (st.opened.filter (· == p)).length == h.nseg / 3 then none else some (st.idx - 1)
  | st, e :: es =>
    match schedStep h st e with
    | some st' => schedWalk h st' es
    | none => some st.idx

/-- The header agrees with R107, the ARRAY section and GEOMETRY, and with R116 (R118, Header). -/
def headerOk (v : SchedEnv) (k : Nat) (h : SchedHeader) : Bool :=
  h.kind == k && (h.nseg == 3 || h.nseg == 6 || h.nseg == 9) && 1 ≤ h.nent && h.nent ≤ 512
  && h.da % 64 == 0 && 1280 ≤ h.da && h.da ≤ 16000
  && h.settle == v.settle && 1600 ≤ h.settle && h.settle ≤ 32000
  && h.period == v.period && h.dump ≤ 80000 && h.bands == v.bands
  && (if k == 2 then 8 ≤ h.minlanes && h.minlanes ≤ 15 else h.minlanes == 16)
  && (k != 1 || h.tform)

/-- The link limit of R115: SPLITQ / 64 × 16 × NSEG × W × H bits a frame, times the frame rate, against
MINLANES × 15.75 Gbit/s. -/
def linkOk (v : SchedEnv) (h : SchedHeader) : Bool :=
  h.splitq * 16 * h.nseg * v.w * v.h * 160 ≤ 64 * h.minlanes * 1575 * h.period

/-- The first failing check of schedule k, as (REASON, ENTRY); none when it is valid (R118). An absent kind 2 is
valid (R116). DESIGN CHOICE, log entry 115: a failure that belongs to no one entry gives ENTRY 0xFFFF. -/
def schedFault (v : SchedEnv) (k : Nat) (s : Schedule) : Option (Nat × Nat) :=
  if k == 2 && s.hdr.nent == 0 then none
  else if !headerOk v k s.hdr then some (0x17, 0xFFFF)
  else if !s.hdr.tform && v.cache < 7 then some (0x17, 0xFFFF)
  else match schedWalk s.hdr ⟨0, [], false, 0, false, [], []⟩ s.ents with
  | some i => some (0x17, i)
  | none =>
    if tailOf s < 0 || (s.hdr.tail : Int) != tailOf s then some (0x17, 0xFFFF)
    else if s.hdr.splitq != splitqOf s || 96 < s.hdr.splitq then some (0x17, 0xFFFF)
    else if !linkOk v s.hdr then some (0x1D, 0xFFFF)
    else none

/-- The first failing check of a page of three schedules (R118). -/
def pageFault (v : SchedEnv) (page : Nat → Schedule) : Option (Nat × Nat) :=
  (List.range 3).findSome? fun k => schedFault v k (page k)

/-- LEAD_MIN of R134. -/
def leadMin (w rdlead : Nat) : Nat := 256 * ((w + 3) / 4) + rdlead

/-- The fit check of R134: a frame's composition fits before its earliest plane send. -/
def fitOk (w h rdlead lead : Nat) (s : SchedHeader) : Bool :=
  2 * ((w * h + 3) / 4) + 256 * ((w + 3) / 4) + rdlead + s.dump + s.tail ≤ s.period + max lead (leadMin w rdlead)

/-- Where δ_b falls in a base sequence: the entry and the offset r in its dwell (R109). `i` counts entries. -/
def bandPlace (h : SchedHeader) : List SchedEntry → Nat → Nat → Option (Nat × Nat)
  | [], _, _ => none
  | e :: es, i, d =>
    let dw := dwellCclk h e.dwell
    if d < h.settle then some (i, 0)
    else if d < h.settle + dw then some (i, d - h.settle)
    else bandPlace h es (i + 1) (d - h.settle - dw)

/-- The pieces a band shows in a segment's T-portion, each an entry index with its dwell; none for the off slot (R109). -/
def bandPieces (h : SchedHeader) (body : List SchedEntry) (b : Nat) : List (Option Nat × Nat) :=
  let es := tpcs body
  let n := es.length
  let l := n * h.settle + (es.map fun e => dwellCclk h e.dwell).sum
  let d := if h.bands == 0 then 0 else b * l / h.bands
  match bandPlace h es 0 d with
  | none => []
  | some (i, r) =>
    let full := fun k => ((some k, dwellCclk h ((es.map (·.dwell)).getD k 0)) : Option Nat × Nat)
    (some i, (full i).2 - r) :: ((List.range (n - 1)).map fun k => full ((i + 1 + k) % n))
      ++ [if r == 0 then (none, 0) else (some i, r)]

/-- The rows of band b of an array of `bands` bands and h lines (R108). -/
def bandFirst (h bands b : Nat) : Nat := if bands == 0 then 0 else b * h / bands
def bandRows (h bands b : Nat) : List Nat :=
  (List.range (bandFirst h bands (b + 1) - bandFirst h bands b)).map (· + bandFirst h bands b)

/-! ### The instants of a frame, in CCLK from F (R109 to R111, R119, R131) -/

/-- The resets of a band in a segment's T-portion that starts at g: each instant with the entry it resets into, none for
the off slot (R109). -/
def bandResets (h : SchedHeader) (body : List SchedEntry) (g b : Nat) : List (Nat × Option Nat) :=
  ((bandPieces h body b).foldl (fun (acc : Nat × List (Nat × Option Nat)) x =>
    (acc.1 + h.settle + x.2, acc.2 ++ [(acc.1, x.1)])) (g, [])).2

/-- The common resets of a segment's A-window that starts at a (R111). -/
def aResets (h : SchedHeader) (a : Nat) : List Nat :=
  if h.tform then [] else (List.range 6).map fun k => a + k * (h.settle + h.da)

/-- Each segment with its start G. -/
def segTimes (h : SchedHeader) : Nat → List (Nat × List SchedEntry) → List (Nat × Nat × List SchedEntry)
  | _, [] => []
  | g, x :: xs => (g, x) :: segTimes h (g + segLen h x.2) xs

/-- Every reset instant of a frame: the dump window, each band and A-plane reset, and the tail (R109, R111, R165). -/
def frameResets (s : Schedule) : List Nat :=
  let segs := segTimes s.hdr s.hdr.dump (segmentsOf s.ents)
  let tail := s.hdr.dump + ((segmentsOf s.ents).map fun g => segLen s.hdr g.2).sum
  [0] ++ (segs.flatMap fun x =>
      ((List.range s.hdr.bands).flatMap fun b => (bandResets s.hdr x.2.2 x.1 b).map Prod.fst)
      ++ aResets s.hdr (x.1 + tPortion s.hdr x.2.2))
    ++ [tail]

end Sys2Proof.Machine
end

