-- ==== Sys2Proof/Machine/EphState.lean ====
section
/-! DEFINITION. Ephemeris images as data (R42 to R47) and the loader's state beside its registers (R48 to R63); the HBM map
of an image (R265, R291). -/

namespace Sys2Proof.Machine

/-- A partition of a region's HBM (R265): base and size in bytes, KIND, the pseudo-channels of its region as a mask, its
start within each of them, the input of a DPIN partition, and the cluster that owns a PLANE, MESH or RING partition. -/
structure Partition where
  base : Nat
  size : Nat
  kind : Nat
  pcmask : Nat
  pcbase : Nat
  dpin : Nat
  owner : Option Nat
  deriving DecidableEq, Repr

/-- A degraded profile (R291): the failed pseudo-channel, 0 to 7 within its region, and the replacement map. -/
structure Profile where
  failed : Nat
  parts : List Partition
  deriving DecidableEq, Repr

/-- The image header (R42). -/
structure ImageHeader where
  magic : Nat
  fmt : Nat
  flags : Nat
  keyslot : Nat
  part : Nat
  clmask : Nat
  rsvd : Nat
  length : Nat
  arb : Nat
  seccount : Nat
  build : Nat
  imageId : List Nat
  baseId : List Nat
  deriving DecidableEq, Repr

/-- The header's 64 bytes read as its fields (R42). -/
def ImageHeader.ofBytes (b : List Nat) : ImageHeader :=
  let f := fun o n => ofLe ((b.drop o).take n)
  { magic := f 0 4, fmt := f 4 2, flags := f 6 1, keyslot := f 7 1, part := f 8 2, clmask := f 10 1, rsvd := f 11 1, length := f 12 4,
    arb := f 16 4, seccount := f 20 4, build := f 24 8, imageId := (b.drop 32).take 16, baseId := (b.drop 48).take 16 }

/-- A section table entry (R42), and whether its source gives the section's bytes back as they were written. -/
structure Section where
  type : Nat
  sflags : Nat
  offset : Nat
  slen : Nat
  rsvd : Nat
  hash : List Nat
  readOk : Bool
  deriving DecidableEq, Repr

/-- A value that the image gives to an instance of a register field (a Reset entry 'ephemeris', R442). -/
structure Setting where
  fld : Fld
  inst : Nat
  val : Nat
  deriving DecidableEq, Repr

/-- What GEOMETRY, FRESHNESS and the plate placement say of one output: its size, its frame period in CCLK, its tile size
code, its plate copy's first byte and length in its region's plate banks. -/
structure OutputPlan where
  c : Nat
  w : Nat
  h : Nat
  period : Nat
  tsize : Nat
  plateRegion : Nat
  plateBase : Nat
  plateLen : Nat
  deriving DecidableEq, Repr

/-- What ARRAY says of one output's array (R154, R168, R169). -/
structure ArrayPlan where
  c : Nat
  w : Nat
  h : Nat
  bands : Nat
  cache : Nat
  replay : Bool
  settle : Nat
  cmdlat : Nat
  model : Nat
  deriving DecidableEq, Repr

/-- What ROUTING says of one layer: its source (0 none, 1 host, 2 DisplayPort, 3 fill) and input. -/
structure LayerPlan where
  c : Nat
  l : Nat
  src : Nat
  dpin : Nat
  deriving DecidableEq, Repr

/-- What LASER says of one bank: its emitters and the board switches that serve it (R189). -/
structure BankPlan where
  c : Nat
  k : Nat
  nemit : Nat
  deriving DecidableEq, Repr

/-- What HELSLOT says of one slot: whether its routing names another cluster. -/
structure SlotPlan where
  c : Nat
  s : Nat
  across : Bool
  deriving DecidableEq, Repr

/-- A KEYENROL entry (R47): enrol or revoke a slot. -/
structure KeyEntry where
  revoke : Bool
  slot : Nat
  hash : Nat
  deriving DecidableEq, Repr

/-- A preset (R61): its number and its BAR0 offsets and values. -/
structure Preset where
  num : Nat
  entries : List (Nat × Nat)
  deriving DecidableEq, Repr

/-- What the sections of an image say. The manual does not give the sections' own byte formats, so `formFaults` lists the
sections and indices that break them (reason 0x0D). `schedules` holds (cluster, kind, window words), `boards` (cluster, board),
`parts` and `profiles` the region, `elastic` (channel, MINSET), `power` the domains the plan permits, `hbmLoad` each region's planned
HBM traffic in 0.1 GB/s (R40), `meshes` the tables that MESH partitions hold, by address, `tags` default tags by source path. A setting of a
table window is given for page 0. -/
structure Plan where
  outputs : List OutputPlan
  arrays : List ArrayPlan
  layers : List LayerPlan
  clones : List (Nat × Nat)
  schedules : List (Nat × Nat × List Nat)
  banks : List BankPlan
  boards : List (Nat × LampBoard)
  slots : List SlotPlan
  parts : List (Nat × Partition)
  profiles : List (Nat × Profile)
  elastic : List (Nat × Nat)
  power : Nat
  heldPermit : Vector Bool 4
  settings : List Setting
  reginit : List (Nat × Nat)
  edids : List (Nat × List Nat)
  tags : List (Nat × List Nat)
  presets : List Preset
  keys : List KeyEntry
  hbmLoad : List Nat
  meshes : List (Nat × List Nat)
  formFaults : List (Nat × Nat)
  deriving DecidableEq, Repr

/-- A plan that says nothing. -/
def Plan.empty : Plan :=
  { outputs := [], arrays := [], layers := [], clones := [], schedules := [], banks := [], boards := [], slots := [], parts := [],
    profiles := [], elastic := [], power := 0, heldPermit := Vector.replicate 4 false, settings := [], reginit := [], edids := [], tags := [], presets := [],
    keys := [], hbmLoad := [], meshes := [], formFaults := [] }

/-- What an ECDSA P-384 signature binds (R43): the SHA-384 digest that it verifies over, and the hash of the public key under which it does. The curve
arithmetic itself is not part of the model: a signature comes with what it binds, or with nothing where it verifies over nothing. -/
structure Signed where
  digest : List Nat
  key : Nat
  deriving DecidableEq, Repr

/-- An ephemeris image: its bytes, its header and section table, what its signature binds (R43), and what its sections say. -/
structure Image where
  bytes : List Nat
  hdr : ImageHeader
  secs : List Section
  signs : Option Signed
  plan : Plan
  deriving DecidableEq, Repr

/-- The section table of an image's bytes (R42); the list says which sections the source gives back as written. -/
def sectionsOf (b : List Nat) (readOk : List Bool) : List Section :=
  (List.range (min 65 (ofLe ((b.drop 20).take 4)))).map fun i =>
    let e := b.drop (64 + 64 * i)
    { type := ofLe (e.take 2), sflags := ofLe ((e.drop 2).take 2), offset := ofLe ((e.drop 4).take 4), slen := ofLe ((e.drop 8).take 4),
      rsvd := ofLe ((e.drop 12).take 4), hash := (e.drop 16).take 48, readOk := readOk.getD i false }

/-- An image from its bytes, what its signature binds, the verdicts on the read of its sections, and what its sections say. -/
def Image.ofBytes (b : List Nat) (signs : Option Signed) (readOk : List Bool) (plan : Plan) : Image :=
  { bytes := b, hdr := ImageHeader.ofBytes b, secs := sectionsOf b readOk, signs := signs, plan := plan }

/-- The bytes from the image's start to its signature block, over which the signature is computed (R43). -/
def Image.signedLen (im : Image) : Nat := 64 + 64 * im.hdr.seccount

/-- The digest that the signature signs (R43): SHA-384 of the header and the section table. -/
def Image.digest (im : Image) : List Nat := sha384 (im.bytes.take im.signedLen)

/-- The signature block: 128 bytes (R42). -/
def Image.sigBlock (im : Image) : List Nat := (im.bytes.drop im.signedLen).take 128

/-- r of the signature, big-endian (R43). -/
def Image.sigR (im : Image) : Nat := ofLe (im.sigBlock.take 48).reverse

/-- s of the signature, big-endian (R43). -/
def Image.sigS (im : Image) : Nat := ofLe ((im.sigBlock.drop 48).take 48).reverse

/-- The signature verifies under a public key (R43): the block is whole, its bytes 96 to 127 are zero, r and s are not zero, as ECDSA requires,
and it binds the digest of this header and section table to that key. -/
def Image.signed (im : Image) (key : Nat) : Bool :=
  im.sigBlock.length == 128 && (im.sigBlock.drop 96).all (· == 0) && im.sigR != 0 && im.sigS != 0 && im.signs == some ⟨im.digest, key⟩

/-- A section's bytes as the loader reads them match its HASH (R44). -/
def Image.matches (im : Image) (x : Section) : Bool :=
  x.readOk && sha384 ((im.bytes.drop x.offset).take x.slen) == x.hash

/-- An image some of whose sections come back altered when they are read again (R44). -/
def Image.readBad (im : Image) (bad : List Nat) : Image :=
  { im with secs := im.secs.map fun x => { x with readOk := x.readOk && !bad.contains x.type } }

/-- The sections that hold a byte of an image, by its offset. -/
def Image.sectionsAt (im : Image) (o : Nat) : List Nat :=
  (im.secs.filter fun x => x.offset ≤ o && o < x.offset + x.slen).map (·.type)

/-- What a slot holds while only its first bytes have been written (R56): it fails authentication, at its signature block if that is not
whole, else at the sections that are not. `signs` is the key under which the finished image's signature verifies. -/
def Image.partWritten (b : List Nat) (signs : Option Nat) : Image :=
  let done := (sectionsOf b []).map fun x => decide (x.offset + x.slen ≤ b.length)
  let im := Image.ofBytes b none (if done.all id then [] else done) Plan.empty
  { im with signs := signs.map fun k => ⟨im.digest, k⟩ }

/-- A trusted key slot (R46, R47). -/
inductive KeySlot | empty | key (hash : Nat) | revoked (hash : Nat)
  deriving DecidableEq, Repr

/-- A live swap between EPH_SWAP and its landings (R58, R59): the patch, the clusters that have not taken it, and those in which the
loader itself set REQ (AUTO). -/
structure Swap where
  patch : Image
  waiting : List Nat
  asked : List Nat
  deriving DecidableEq, Repr

/-- The ephemeris loader beside its registers: what the flash slots and the patch staging area hold, the image in force,
the 64 KiB blocks of the plate store that the staging area takes, in order (R294), the swap under way, the key slots, the clusters in which the image's first commit has landed (R50), when the debug port
relocks, a reload whose stop fades run: the slot it names, if any (R53, R57), the preset applied last (R61), and the
outputs that the module itself stopped for a reload or deep standby. -/
structure Loader where
  slots : Vector (Option Image) 2
  staged : Option Image
  stagedAt : List Nat
  inForce : Option Image
  swap : Option Swap
  keys : Vector KeySlot 4
  landed : List Nat
  dbgUntil : Option Nat
  reload : Option (Option Nat)
  preset : Nat
  stopped : List Nat
  deriving DecidableEq, Repr

/-- The loader after reset: nothing loaded; key slot 0 is Basnewa's (R46). DESIGN CHOICE (log entry 127): the manual gives no value of its fused key
hash; the model calls it the number 0. -/
def Loader.reset : Loader :=
  { slots := Vector.replicate 2 none, staged := none, stagedAt := [], inForce := none, swap := none,
    keys := (Vector.replicate 4 KeySlot.empty).set 0 (KeySlot.key 0), landed := [], dbgUntil := none, reload := none, preset := 0, stopped := [] }

end Sys2Proof.Machine
end

