-- ==== Sys2Proof/Machine/MemState.lean ====
section
/-! DEFINITION. The memory system's state beside its registers (R264 to R296): partitions in force, fallback, frequency
changes, scrubbing; and the training helpers' state (R297 to R313). -/

namespace Sys2Proof.Machine

/-- A region of the memory system beside its registers: its partitions and profiles in force, the instant of the freeze
condition (R284), detection errors of the last second as (pseudo-channel, instant) (R269), and what the firmware copied of the
latest freeze (R283): HBM_FRZ_INFO's fields, the address, the source path, the wall time and the cause. -/
structure Region where
  parts : List Partition
  profiles : List Profile
  freezeAt : Option Nat
  deterr : List (Nat × Nat)
  snap : List Nat
  deriving DecidableEq, Repr

/-- A region after reset. -/
def Region.reset : Region := { parts := [], profiles := [], freezeAt := none, deterr := [], snap := [] }

/-- A lap of the scrubber over a store (R296): when it started, none before its first read, the errors it found, and the unit it reads next. -/
structure Lap where
  start : Option Nat
  errs : Nat
  unit : Nat
  deriving DecidableEq, Repr

/-- A static layer's copy in spare plate space (R294): its cluster, layer and lease range, the 64 KiB blocks of the plate store that hold it, in
order, the bytes of the range as they were copied, by their HBM address, and the frame in which they were copied. -/
structure CacheCopy where
  c : Nat
  l : Nat
  first : Nat
  last : Nat
  blocks : List Nat
  cells : List Host.Cell
  since : Nat
  deriving DecidableEq, Repr

/-- What the fallback path of a cluster keeps from before it (R60, R90, R129, R145): the schedule page in force when the region froze and the
schedules it held, and the designated layer's position, class and MAXAGE in force when the cluster entered the path. -/
structure FbHold where
  page : Nat
  scheds : List Schedule
  x : Int
  y : Int
  cls : Nat
  maxage : Nat
  deriving DecidableEq, Repr

/-- Nothing kept. -/
def FbHold.reset : FbHold := ⟨0, [], 0, 0, 0, 0⟩

/-- The memory system beside its registers: regions, which clusters are on the fallback path (R284, R290) and what it keeps of each, poisoned bursts by number (R268),
bad plate words by number (R292), frequency changes that wait as (channel, set) and those in progress (R280), the next
set of a channel in self-refresh (R281), postponed refreshes per pseudo-channel (R274), the instant of the last request to
each (R277, R278), the pseudo-channels that have a
request queued, the scrub laps of HBM, plate banks and Almanac, the static-layer cache, whether host writes have been
discarded since the last fence GO and before it (R276), and whether the
host has written a cluster's fallback buffer since the ephemeris was loaded (R250). -/
structure MemSys where
  regions : Vector Region 2
  fallback : Vector Bool 4
  fbHold : Vector FbHold 4
  poisoned : List Nat
  badPlate : List Nat
  fcWait : List (Nat × Nat)
  fcBusy : List (Nat × Nat × Nat)
  fcNext : List (Nat × Nat)
  postponed : Vector Nat 16
  lastReq : Vector Nat 16
  laps : Vector Lap 3
  cache : List CacheCopy
  dropped : Bool
  covered : Bool
  fbWritten : Vector Bool 4
  deriving DecidableEq, Repr

/-- The memory system after reset. -/
def MemSys.reset : MemSys :=
  { regions := Vector.replicate 2 Region.reset, fallback := Vector.replicate 4 false, fbHold := Vector.replicate 4 FbHold.reset, poisoned := [], badPlate := [],
    fcWait := [], fcBusy := [], fcNext := [], postponed := Vector.replicate 16 0, lastReq := Vector.replicate 16 0, laps := Vector.replicate 3 ⟨none, 0, 0⟩,
    cache := [], dropped := false, covered := false, fbWritten := Vector.replicate 4 false }

/-- A staged calibration result (R302): the TARGET code of its run, its index, cluster and timing set, the values, and when
it was staged. -/
structure Staged where
  target : Nat
  idx : Nat
  cluster : Nat
  set : Nat
  vals : List Nat
  at' : Nat
  deriving DecidableEq, Repr

/-- A training engine beside its registers (R300): the timing set its run is bound to (R307), the tap of the next burst,
the pass maps of the bits as one mask of taps each, since when it waits, the temperature at the start (R304), whether the
run tests PRE after POST (`wrap`), what the latched preconditions compare with, the POST tap chosen, the staged result, a result
held back while the Observer sheds load (R303), the first latched precondition violated during the run, when the burst began, and the bit errors
that an array has reported for it (R299). -/
structure Engine where
  bound : Nat
  tap : Nat
  maps : List Nat
  waitSince : Option Nat
  temp0 : Int
  base : List Nat
  taken : List Nat
  staged : Option Staged
  held : Option Staged
  viol : Option Nat
  burstAt : Nat
  heard : Nat
  wrap : Bool
  deriving DecidableEq, Repr

/-- An engine after reset. -/
def Engine.reset : Engine :=
  { bound := 0, tap := 0, maps := [], waitSince := none, temp0 := 0, base := [], taken := [], staged := none, held := none,
    viol := none, burstAt := 0, heard := 0, wrap := false }

/-- What an engine's burst or sample run gathers (R299, R304, R306): the errors of each bit, the temperature at its end in 1/16 °C, the
PD mean of its last 32 samples, the sum of its 256 PD samples or of eight diagnostic pulses, and for VSTR the evaluated windows of each
range and the sum of 64 of them. -/
structure Gathered where
  errs : List Nat
  temp : Int
  pdLast : Nat
  total : Nat
  numH : Nat
  numL : Nat
  sumH : Nat
  sumL : Nat
  deriving DecidableEq, Repr

/-- A trial tap (R301): that of all 72 bits of a read (0) or write (1) target on a pseudo-channel, in one timing set. -/
structure TrialTap where
  target : Nat
  pc : Nat
  set : Nat
  tap : Nat
  deriving DecidableEq, Repr

/-- The training helpers beside their registers: the engines, the PHY's trial taps, which a helper steps one for all bits, with 0 where none is listed
(R301), consecutive refusals per target and the targets refused three times since their last scheduled run (R305), when each target was
last scheduled, the temperature then, and the targets that an event asks for, each with the instant from which it is due (R305). -/
structure Training where
  engines : Vector Engine 6
  trials : List TrialTap
  barred : List Nat
  refusals : List (Nat × Nat)
  lastRun : List (Nat × Nat)
  lastTemp : Int
  asked : List (Nat × Nat)
  deriving DecidableEq, Repr

/-- The training helpers after reset. -/
def Training.reset : Training :=
  { engines := Vector.replicate 6 Engine.reset, trials := [], barred := [], refusals := [], lastRun := [], lastTemp := 0, asked := [] }

end Sys2Proof.Machine
end

