-- ==== Sys2Proof/Machine/ModuleState.lean ====
section
/-! DEFINITION. The state beside the registers of power and clocks (R354 to R374), the host interfaces (R375 to R392), the
chain (R393 to R411), the pair (R412 to R421) and the Observer (R422 to R431). -/

namespace Sys2Proof.Machine

/-- What distinguishes one module from another: ordering code (R3), cluster fuses, serial numbers, die tag bytes, die
revisions, the isochronous latency of HEL_ISO_LAT, and the straps of PWR_STRAP and of the SMBus address. -/
structure Device where
  variant : Nat
  clen : Nat
  serial : Nat
  partner : Nat
  dieSerial : Vector Nat 2
  revIo : Nat
  revCompute : Nat
  isoLat : Nat
  pairRole : Nat
  smbAddr : Nat
  deriving DecidableEq, Repr

/-- What the endpoint's one function shows in PCI configuration space (R375). -/
structure PciIdentity where
  vendor : Nat
  device : Nat
  revision : Nat
  classCode : Nat
  subsysVendor : Nat
  subsys : Nat
  serial : Nat
  intPin : Nat
  deriving DecidableEq, Repr

/-- The PCI identity of a module (R375): the I/O die's revision, the variant and the serial number come from its fuses; it has no INTx. -/
def Device.pci (d : Device) : PciIdentity :=
  { vendor := 0x1F7B, device := 0x4800, revision := d.revIo % 256, classCode := 0x038000, subsysVendor := 0x1F7B
    subsys := (match d.variant with | 0 => 0x0004 | 1 => 0x0002 | _ => 0x0014), serial := d.serial, intPin := 0 }

/-- An IX4800-S4 with its straps left open (R460). -/
def Device.s4 : Device :=
  { variant := 0, clen := 0xF, serial := 0, partner := 0, dieSerial := Vector.replicate 2 0, revIo := 0, revCompute := 0,
    isoLat := 0, pairRole := 3, smbAddr := 7 }

/-- Power and clocks beside their registers: the CCLK of the start condition, since when the input power is over the limit
(R374), each demand and the instant of the last shedding step taken and released, whether FAULT_OUT# is driven (R372),
the class U and X events of this power cycle (R389), whether the hold-up's 50 ms have passed (R367), whether the stop fades of deep
standby run (R365), whether REFCLK is lost, whether a start has begun, whether first picture time has been recorded, whether an
overvoltage ended the last power cycle (R356), and the sets that channels had requested before shedding step 3 (channel, set; R374). -/
structure Power where
  startAt : Nat
  overSince : Option Nat
  lastStep : Nat
  lastRelease : Nat
  taken : List Nat
  faultOut : Bool
  uEvents : Nat
  xEvents : Nat
  holdupLate : Bool
  standbyPend : Bool
  began : Bool
  refLost : Bool
  firstPicture : Bool
  overVolt : Bool
  reqBefore : List (Nat × Nat)
  deriving DecidableEq, Repr

/-- Power after reset. -/
def Power.reset : Power :=
  { startAt := 0, overSince := none, lastStep := 0, lastRelease := 0, taken := [], faultOut := false, uEvents := 0,
    xEvents := 0, holdupLate := false, standbyPend := false, began := false, refLost := false, firstPicture := false,
    overVolt := false, reqBefore := [] }

/-- What an open upload session writes (R56, R391). -/
inductive UploadTarget | slotA | slotB | patch | firmware
  deriving DecidableEq, Repr

/-- An open upload session (R56, R386): its target, its length, the offset after the last accepted page, that page, and
the bytes accepted. `erased` says that the flash erase has completed. -/
structure Upload where
  target : UploadTarget
  length : Nat
  next : Nat
  lastPage : List Nat
  bytes : List Nat
  erased : Bool
  deriving DecidableEq, Repr

/-- A firmware copy in the boot flash (R390, R391): its version and build, and whether it authenticates. -/
structure FwCopy where
  version : Nat
  build : Nat
  auth : Bool
  deriving DecidableEq, Repr

/-- The host interfaces beside their registers: D3hot and Bus Master Enable (R379), MSI-X mask and pending bits (R380),
event-ring entries not yet signalled and when the first was written (R381), the event ring's last full report, the
firmware copies and the running one, the open upload sessions, unit tags by source path without ADDR (R31), the
package tag copy of PD00 (R389), and the size of BAR2 as a power of two (R377). -/
structure HostIf where
  d3hot : Bool
  busMaster : Bool
  vecMask : Nat
  vecPend : Nat
  unsignalled : Nat
  firstUnsig : Option Nat
  fw : Vector FwCopy 2
  fwRun : Nat
  fwUp : Option Upload
  ephUp : Option Upload
  unitTags : List (Nat × List Nat)
  smbTag : List Nat
  bar2Log : Nat
  deriving DecidableEq, Repr

/-- The host interfaces after reset: D0, no bus master, nothing masked. -/
def HostIf.reset : HostIf :=
  { d3hot := false, busMaster := false, vecMask := 0, vecPend := 0, unsignalled := 0, firstUnsig := none,
    fw := Vector.replicate 2 ⟨0, 0, false⟩, fwRun := 0, fwUp := none, ephUp := none, unitTags := [], smbTag := List.replicate 256 0, bar2Log := 34 }

/-- What the head knows of a module (R403, R406): its address, the ID, its state (0 disarmed, 1 armed, 2 excluded) and its
armed clusters. -/
structure ArmInfo where
  addr : Nat
  id : Nat
  state : Nat
  mask : Nat
  deriving DecidableEq, Repr

/-- A wall sync instant announced by FSYNC (R402): the wall frame and S(f) in 1/64 tick. -/
structure Fsync where
  frame : Nat
  sync : Nat
  deriving DecidableEq, Repr

/-- The chain beside its registers: wall time as an offset in 1/512 tick to 8 × CCLK, the error still being trimmed away
and since when (R399), the receive lanes of CHAIN_IN and CHAIN_OUT (R393), the PING sequence number, its send instant
and the last 16 hop measurements (R398), when the last TIME came and whether its absence has been reported (R400), the
armed clusters and ID (R403), the head's table, the last sync instants, whether the module has found itself beyond the 64th (R396),
the wall tag taken in (R30), and the wall frame of a GO that came before its FSYNC (R408). -/
structure Chain where
  wallOff : Int
  trim : Int
  trimAt : Nat
  rx : Vector Bool 2
  pingSeq : Nat
  pingAt : Nat
  hops : List Nat
  lastTime : Option Nat
  timeLost : Bool
  armed : List Nat
  armId : Nat
  arms : List ArmInfo
  fsync : Option Fsync
  fsyncAt : Nat
  beyond : Bool
  wallTag : List Nat
  goFrame : Option Nat
  deriving DecidableEq, Repr

/-- The chain after reset. -/
def Chain.reset : Chain :=
  { wallOff := 0, trim := 0, trimAt := 0, rx := Vector.replicate 2 false, pingSeq := 0, pingAt := 0, hops := [],
    lastTime := none, timeLost := false, armed := [], armId := 0, arms := [], fsync := none, fsyncAt := 0, beyond := false, wallTag := [],
    goFrame := none }

/-- A PEND message of a cluster (R414): its REQ state, its shadow CRC and its send instant in CCLK. -/
structure Pend where
  req : Bool
  crc : Nat
  sentAt : Nat
  deriving DecidableEq, Repr

/-- A CRCREP message (R416). -/
structure CrcRep where
  cluster : Nat
  seq : Nat
  gen : Nat
  pad : Nat
  deriving DecidableEq, Repr

/-- The pair beside its registers: whether the Transit link is up, the lanes up each way as masks, the peer's
IMAGE_ID, serial and strap, the last heartbeat and the peer's role and READY, the MARK skew being within
limits and the skew itself in 1/8 CCLK per cluster (R146, R412), own and peer PEND per cluster, meridians waited for a match, whether a matched pair commit and an agreeing frame
have passed per cluster, the latest frame with a disagreement plus 1 (R415), CRCREP messages waiting, the planes reset in lockstep, newest
first, each with its cluster and whether it had an unconfirmed path-fault block (R417), the peer's stale-map marks
with their frame, own SEL since when, start collisions, the wait before SEL is raised again, and a takeover under way:
its trigger and X per cluster (R421). -/
structure Pair where
  linkUp : Bool
  txLanes : Nat
  rxLanes : Nat
  peerId : Option (List Nat)
  peerSerial : Nat
  peerStrap : Option Nat
  lastHb : Option Nat
  peerRole : Nat
  peerReady : Bool
  peerX : Bool
  markOk : Vector Bool 4
  skews : Vector Int 4
  ownPend : Vector (Option Pend) 4
  peerPend : Vector (Option Pend) 4
  waited : Vector Nat 4
  matched : Vector Bool 4
  agreed : Vector Nat 4
  reps : List CrcRep
  differ : Vector Nat 4
  planes : List (Nat × Nat × Bool)
  maps : Vector (Option (Nat × List Nat)) 4
  selAt : Option Nat
  collisions : Nat
  retryAt : Option Nat
  step8At : Option Nat
  yielded : Bool
  takeover : Option (Nat × List Nat)
  deriving DecidableEq, Repr

/-- The pair after reset. -/
def Pair.reset : Pair :=
  { linkUp := false, txLanes := 0, rxLanes := 0, peerId := none, peerSerial := 0, peerStrap := none, lastHb := none,
    peerRole := 0, peerReady := false, peerX := false, markOk := Vector.replicate 4 false, skews := Vector.replicate 4 0,
    ownPend := Vector.replicate 4 none, peerPend := Vector.replicate 4 none, waited := Vector.replicate 4 0,
    matched := Vector.replicate 4 false, agreed := Vector.replicate 4 0, reps := [], differ := Vector.replicate 4 0, planes := [],
    maps := Vector.replicate 4 none, selAt := none, collisions := 0, retryAt := none, step8At := none, yielded := false,
    takeover := none }

/-- The Observer beside its registers: the load windows, newest first, at most 1,000 (R424), when the level last changed
and when shedding began (R425), the expiries of the current 10 minutes (R430), since when it boots (R429), and whether it
is held in reset. -/
structure Observer where
  windows : List Nat
  lastChange : Nat
  shedSince : Nat
  expiries : List Nat
  bootingSince : Option Nat
  heldReset : Bool
  deriving DecidableEq, Repr

/-- The Observer after reset. -/
def Observer.reset : Observer :=
  { windows := [], lastChange := 0, shedSince := 0, expiries := [], bootingSince := none, heldReset := false }

end Sys2Proof.Machine
end

