-- ==== Sys2Proof/Machine/Operands.lean ====
section
/-! DEFINITION. The pure arithmetic of the picture path: packed pixel formats and their expansion (R67, R70), the "over"
blend (R67), composition (R64 to R69), mesh warp (R92, R93), look-up tables (R98), the matrix (R99), uniformity and edge
blend (R97, R101), the plate copy's bytes (R103), the occulter's pattern (R252) and the T-form rounding (R123). -/

namespace Sys2Proof.Machine

/-- The tables of GEO_CTRL's pages (R102). -/
inductive TableId | mesh | ilut | olut | blend | uni
  deriving DecidableEq, Repr

/-- A pixel of 16 bits per component. -/
structure Px where
  r : Nat
  g : Nat
  b : Nat
  deriving DecidableEq, Repr

/-- A layer's pixel with its own alpha, 16 bits each. -/
structure LPx where
  r : Nat
  g : Nat
  b : Nat
  a : Nat
  deriving DecidableEq, Repr

/-- Component p of a pixel: 0 red, 1 green, 2 blue. -/
def Px.comp (x : Px) : Nat → Nat
  | 0 => x.r
  | 1 => x.g
  | _ => x.b

/-- Floor of a / b rounded half up, for b > 0. -/
def roundDiv (a : Int) (b : Nat) : Int := (2 * a + b) / (2 * b : Nat)

/-- Bit replication of a w-bit component to 16 bits (R67, R70). -/
def expand16 (w v : Nat) : Nat :=
  let copies := (15 + w) / w
  let big := (List.range copies).foldl (fun acc _ => acc * 2 ^ w + v % 2 ^ w) 0
  big / 2 ^ (copies * w - 16)

/-- Bytes per pixel of a FMT code; the reserved codes 6 and 7 are treated as PF_32_X888 (R70). -/
def fmtBytes : Nat → Nat
  | 0 => 2
  | 1 => 3
  | 2 => 3
  | _ => 4

/-- A pixel of a packed format, from its little-endian value (the table of R70). -/
def decodePixel (fmt v : Nat) : LPx :=
  match fmt with
  | 0 => ⟨expand16 5 (bits v 11 5), expand16 6 (bits v 5 6), expand16 5 (bits v 0 5), 0xFFFF⟩
  | 1 => ⟨expand16 8 (bits v 16 8), expand16 8 (bits v 8 8), expand16 8 (bits v 0 8), 0xFFFF⟩
  | 2 => ⟨expand16 8 (bits v 0 8), expand16 8 (bits v 8 8), expand16 8 (bits v 16 8), 0xFFFF⟩
  | 3 => ⟨expand16 8 (bits v 16 8), expand16 8 (bits v 8 8), expand16 8 (bits v 0 8), expand16 8 (bits v 24 8)⟩
  | 5 => ⟨expand16 10 (bits v 20 10), expand16 10 (bits v 10 10), expand16 10 (bits v 0 10), expand16 2 (bits v 30 2)⟩
  | _ => ⟨expand16 8 (bits v 16 8), expand16 8 (bits v 8 8), expand16 8 (bits v 0 8), 0xFFFF⟩

/-- A 30-bit colour laid out as PF_32_2101010 without alpha (PIX_LAYER_FILL, GEO_EDGE, PIX_BG). -/
def colour30 (v : Nat) : Px := ⟨expand16 10 (bits v 20 10), expand16 10 (bits v 10 10), expand16 10 (bits v 0 10)⟩

/-- One component of the "over" blend, rounded half up (R67). -/
def overComp (a l b : Nat) : Nat := (2 * (a * l + (65535 - a) * b) + 65535) / (2 * 65535)

/-- The alpha of a layer's pixel under its mode (R67): 1 per-pixel, 2 constant, 0 and 3 opaque. -/
def layerAlpha (mode calpha own : Nat) : Nat :=
  match mode with
  | 1 => own
  | 2 => calpha
  | _ => 65535

/-- The "over" blend of a layer's pixel on the result below it (R67). -/
def overBlend (a : Nat) (l : LPx) (b : Px) : Px := ⟨overComp a l.r b.r, overComp a l.g b.g, overComp a l.b b.b⟩

/-- A layer as composition sees it in one frame: its place, its fetched pixels row by row (none where the pixel is
missing, R89), its alpha mode and constant. -/
structure Plane2d where
  x : Int
  y : Int
  w : Nat
  h : Nat
  img : List (Option LPx)
  mode : Nat
  calpha : Nat
  deriving DecidableEq, Repr

/-- One layer blended at composed pixel (x, y) (R64, R65). -/
def blendLayer (x y : Int) (below : Px) (p : Plane2d) : Px :=
  if x < p.x ∨ y < p.y ∨ p.x + p.w ≤ x ∨ p.y + p.h ≤ y then below else
  match p.img.getD ((y - p.y).toNat * p.w + (x - p.x).toNat) none with
  | some l => overBlend (layerAlpha p.mode p.calpha l.a) l below
  | none => below

/-- The composed pixel at (x, y): the background, then the layers in index order (R64). -/
def composeAt (bg : Px) (layers : List Plane2d) (x y : Int) : Px := layers.foldl (blendLayer x y) bg

/-- The composed picture of a w × h output, row by row. -/
def composePicture (w h : Nat) (bg : Px) (layers : List Plane2d) : List Px :=
  (List.range h).flatMap fun y => (List.range w).map fun x => composeAt bg layers x y

/-- A pixel of a row-by-row picture; `edge` outside it (R92). -/
def pictureAt (w h : Nat) (pic : List Px) (edge : Px) (x y : Int) : Px :=
  if x < 0 ∨ y < 0 ∨ (w : Int) ≤ x ∨ (h : Int) ≤ y then edge else pic.getD (y.toNat * w + x.toNat) edge

/-- Control-point columns and rows of a mesh (R93). -/
def meshCols (w : Nat) : Nat := w / 16 + 1
def meshRows (h : Nat) : Nat := (h + 15) / 16 + 1

/-- The four control points round an output pixel, each with its weight out of 256 (R92, R93). -/
def meshTaps (w x y : Nat) : List (Nat × Nat) :=
  let fx := x % 16
  let fy := y % 16
  let i := (y / 16) * meshCols w + x / 16
  [(i, (16 - fx) * (16 - fy)), (i + 1, fx * (16 - fy)),
   (i + meshCols w, (16 - fx) * fy), (i + meshCols w + 1, fx * fy)]

/-- The displacement of an output pixel in 1/128 pixel (R92): exact bilinear, then rounded half up. `disp i` is the signed
displacement of control point i. -/
def meshDisp (disp : Nat → Int) (w x y : Nat) : Int :=
  roundDiv ((meshTaps w x y).foldl (fun acc t => acc + disp t.1 * (t.2 : Int)) 0) 256

/-- The 2 × 2 bilinear sample of a component at a position in 1/128 pixel (R92). -/
def bilinear128 (f : Int → Int → Nat) (px py : Int) : Nat :=
  let ix := px / 128
  let iy := py / 128
  let fx := (px % 128).toNat
  let fy := (py % 128).toNat
  (2 * (f ix iy * ((128 - fx) * (128 - fy)) + f (ix + 1) iy * (fx * (128 - fy))
    + f ix (iy + 1) * ((128 - fx) * fy) + f (ix + 1) (iy + 1) * (fx * fy)) + 16384) / 32768

/-- The warped pixel: the composed picture sampled at (x + dx, y + dy) (R92). -/
def warpPixel (pic : Int → Int → Px) (px py : Int) : Px :=
  ⟨bilinear128 (fun a b => (pic a b).r) px py, bilinear128 (fun a b => (pic a b).g) px py,
   bilinear128 (fun a b => (pic a b).b) px py⟩

/-- The 1D look-up of R98; `tab i` is entry i. -/
def lut1d (tab : Nat → Nat) (x : Nat) : Nat :=
  let i := x / 64
  let f := x % 64
  ((tab i : Int) + (((tab (i + 1) : Int) - tab i) * f + 32) / 64).toNat

/-- A matrix coefficient after loop correction, saturated to signed Q3.16, and whether it saturated (R99). -/
def mtxCoef (corrEn : Bool) (base dir corr : Int) : Int × Bool :=
  let m := if corrEn then base + roundDiv (dir * corr) (2 ^ 31) else base
  (clampI (-524288) 524287 m, m < -524288 || 524287 < m)

/-- One output primary of the matrix, and whether it was clamped (R99). -/
def mtxRow (m0 m1 m2 : Int) (x : Px) : Nat × Bool :=
  let y := (m0 * x.r + m1 * x.g + m2 * x.b + 32768) / 65536
  ((clampI 0 65535 y).toNat, y < 0 || 65535 < y)

/-- An edge gain as a fraction (numerator, denominator) at distance d from an edge of ramp width wd (R97). -/
def edgeGain (tab : Nat → Nat) (wd d : Nat) : Nat × Nat :=
  if d < wd then
    let i := d * 63 / wd
    let r := d * 63 % wd
    (tab i * (wd - r) + tab (i + 1) * r, 65535 * wd)
  else (1, 1)

/-- The blend gain as a u0.16 value: the exact product of the edge gains, rounded half up once (R97). -/
def blendGain (gs : List (Nat × Nat)) : Nat :=
  let p := gs.foldl (fun a g => (a.1 * g.1, a.2 * g.2)) (1, 1)
  (2 * 65536 * p.1 + p.2) / (2 * p.2)

/-- Grid columns of the uniformity map (R101). -/
def uniCols (w : Nat) : Nat := w / 32 + 1

/-- The four grid points round an output pixel, each with its weight out of 1024 (R101). -/
def uniTaps (w x y : Nat) : List (Nat × Nat) :=
  let fx := x % 32
  let fy := y % 32
  let i := (y / 32) * uniCols w + x / 32
  [(i, (32 - fx) * (32 - fy)), (i + 1, fx * (32 - fy)),
   (i + uniCols w, (32 - fx) * fy), (i + uniCols w + 1, fx * fy)]

/-- The interpolated u1.15 uniformity gain (R101). -/
def uniGain (tab : Nat → Nat) (w x y : Nat) : Nat :=
  (2 * (uniTaps w x y).foldl (fun acc t => acc + tab t.1 * t.2) 0 + 1024) / 2048

/-- Stage 4 of R91: uniformity gain times blend gain (R101). -/
def gainStage (x gUni gBlend : Nat) : Nat := min 65535 ((x * gUni * gBlend + 2 ^ 30) / 2 ^ 31)

/-- The 3 bytes of a pixel in the plate copy, blue first (R103). -/
def plateBytes (x : Px) : List Nat := [x.b / 256, x.g / 256, x.r / 256]

/-- Whether the occulter shows colour A at output pixel (x, y) (R252). -/
def occA (x y : Nat) : Bool := (x + y) / 4 % 2 == 0

/-- The value a T-form schedule extracts its bits from (R123). -/
def tFormRound (v : Nat) : Nat := min (v + 8) 65535

/-- The value of a plane-generator pixel: stage-5 content, or the occulter on a marked tile (R105, R252). -/
def planePixel (marked : Bool) (a b : Px) (x y : Nat) (v : Px) : Px :=
  if marked then (if occA x y then a else b) else v

/-- The bit of plane j of one primary (R105, R123). -/
def planeBit (tForm : Bool) (j v : Nat) : Bool := if tForm then bit (tFormRound v) j else bit v j

/-- The bytes of one row of a plane: mirror x is bit x mod 8 of byte ⌊x / 8⌋ (R125). -/
def rowBytes (w : Nat) (f : Nat → Bool) : List Nat :=
  (List.range (w / 8)).map fun k => maskOf 8 fun i => f (8 * k + i)

end Sys2Proof.Machine
end

