-- ==== Sys2Proof/Machine/Types.lean ====
section
/-! DEFINITION. The types of commands' operands, of what a bus access returns and of what the module puts on its pins. -/

namespace Sys2Proof.Machine

/-- How a bus access completed (R266, R270, R283, R377): successfully, with Unsupported Request, with Completer Abort, or
with poisoned data. -/
inductive BusStatus | ok | ur | ca | poisoned
  deriving DecidableEq, Repr

/-- What the last bus access returned: its status and its bytes, low byte first. -/
structure Completion where
  status : BusStatus
  bytes : List Nat
  deriving DecidableEq, Repr

/-- What the pattern generator sends (R298): a pseudo-random sequence, or the 256 bits of TRN_USERPAT. -/
inductive Pattern
  | prbs7
  | prbs15
  | prbs31
  | user (bits : List Bool)
  deriving DecidableEq, Repr

/-- The shift register of a pseudo-random pattern: its length and the two powers of its polynomial that feed it back, as bits of the register
(R298); the user pattern has none. -/
def Pattern.taps : Pattern → Option (Nat × Nat × Nat)
  | .prbs7 => some (7, 6, 5)
  | .prbs15 => some (15, 14, 13)
  | .prbs31 => some (31, 30, 27)
  | .user _ => none

/-- The first n bits that a register of length w sends, from a state: each bit is the sum of the two tapped ones and enters at the low end. -/
def prbsBits (w a b : Nat) : Nat → Nat → List Bool
  | 0, _ => []
  | n + 1, x =>
    let o := bit x a != bit x b
    o :: prbsBits w a b n ((2 * x + b2n o) % 2 ^ w)

/-- The first n bits of a pattern (R298): every register starts with all ones; the user pattern repeats, bit 0 first. -/
def Pattern.bits (p : Pattern) (n : Nat) : List Bool :=
  match p.taps, p with
  | some (w, a, b), _ => prbsBits w a b n (2 ^ w - 1)
  | none, .user l => (List.range n).map fun i => l.getD (i % 256) false
  | none, _ => []

/-- The unit intervals by which each bit lane of a target carries a pattern later (R298): 17 × b on bit lane b of an HBM pseudo-channel, which has
72; none elsewhere. -/
def laneDelays (target : Nat) : List Nat := if target ≤ 1 then (List.range 72).map fun b => 17 * b else [0]

/-- What a bit lane that is later by d unit intervals carries in the interval t (R298); none before the sequence has reached it. -/
def Pattern.laneBit (p : Pattern) (d t : Nat) : Option Bool := if t < d then none else (p.bits (t - d + 1)).getLast?

/-- The encoding of an incoming pixel (the feature table, R71): YCbCr 4:4:4 or RGB, BT.709 or BT.601, limited or full range, bits per component. -/
structure PixEnc where
  ycc : Bool
  bt709 : Bool
  limited : Bool
  bpc : Nat
  deriving DecidableEq, Repr

/-- Full-range RGB of 10 bits per component. -/
def PixEnc.rgb10 : PixEnc := ⟨false, false, false, 10⟩

/-- A pixel as R, G and B of 10 bits (R71): full-range RGB of 10 bits is stored as it comes; the arithmetic of any other conversion, and of the expansion of
a limited range, is a free value (log entry 107). -/
def PixEnc.toRgb (e : PixEnc) (x : Word) : Nat :=
  if !e.ycc && !e.limited && e.bpc == 10 then x.toNat
  else (Config.toRgb (b2n e.ycc + 2 * b2n e.bt709 + 4 * b2n e.limited + 8 * e.bpc) x).toNat

/-- What a command makes the module drive or send. -/
inductive Output
  /-- MSI-X vector n is signalled (R380). -/
  | vector (n : Nat)
  /-- Bytes written into host memory (R381, R385). -/
  | dma (addr : Nat) (bytes : List Nat)
  /-- A command's unit on the data lanes of a cluster that run, all at one unit boundary, effective at an instant in CCLK (R155, R162 to R164). -/
  | command (c : Nat) (lanes : List Nat) (cmd : TriocCmd) (unit : LinkUnit) (at' : Nat)
  /-- A block's units on a Trioc lane, scrambled as they leave the pins (R155, R156, R158, R160). -/
  | block (c lane : Nat) (units : List LinkUnit)
  /-- A data lane repeats an ordered set from an instant until another (R165, "Bring-up"). -/
  | orderedSets (c lane : Nat) (unit : LinkUnit) (from' until' : Nat)
  /-- A data lane goes to electrical idle (R165). -/
  | laneIdle (c lane : Nat)
  /-- A training engine sends a pattern to its target for one gather burst (R298 to R300): the pattern, the unit intervals by which each bit lane
  carries it later, and the tap under test. -/
  | pattern (e target idx : Nat) (pat : Pattern) (delays : List Nat) (tap : Nat)
  /-- The front end's test-step source replaces a channel's PD input, or leaves it (R301). -/
  | testStep (c k : Nat) (on : Bool)
  /-- A lamp-line frame (R190, R191): its bits, and how long each is high and then low, in CCLK. -/
  | lampFrame (c : Nat) (bits : List Bool) (pulses : List (Nat × Nat))
  /-- A LATCH pulse (R194). -/
  | latch (c : Nat) (at' : Nat)
  /-- A LATCH pulse that has not risen at an instant is taken back: its command was lost (R178). -/
  | latchCut (c : Nat) (at' : Nat)
  /-- The RANGE line (R178): high is the low pattern range. -/
  | rangeLine (c : Nat) (low : Bool) (at' : Nat)
  /-- The gate cuts a channel's pulse at an instant: LEN is low from it to the end of a pulse whose edges stand already, risen or not (R179,
  R198). -/
  | lenCut (c k at' : Nat)
  /-- A LEN edge of a channel with the chop duty of its descriptor in 16,384ths: below 16,384 LEN is chopped within the pulse as R184
  says (R178, R179, R183). -/
  | len (c k : Nat) (high : Bool) (duty at' : Nat)
  /-- The code of an LREF DAC from an instant (R220, R221). -/
  | lref (c k code at' : Nat)
  /-- A cooling period's frequency in kHz and its duty (R233). -/
  | pwm (c i freq duty : Nat)
  /-- A colour-sensor SPI transfer, in an SPI mode with so many REFCLK per SCLK (R230). -/
  | spi (c mode div : Nat) (bytes : List Nat) (reads : Nat)
  /-- A strobe to the Heliostat slots at its instant (R139, R213), numbered as TSRC numbers it, with the primary it belongs to; one of the
  chronograph reaches the slots 8 CCLK later. -/
  | strobe (c tsrc prim at' : Nat)
  /-- A chain message on CHAIN_IN (0, upstream) or CHAIN_OUT (1, downstream) (R394). -/
  | chain (port : Nat) (bytes : List Nat)
  /-- The wall tag as the head sends it to every module (R30); the manual gives its message no format. -/
  | wallTag (bytes : List Nat)
  /-- A Transit message (R412). -/
  | transit (kind : Nat) (fields : List Nat)
  /-- The SEL land (R418). -/
  | sel (high : Bool)
  /-- FAULT_OUT# driven low or released (R372). -/
  | faultOut (low : Bool)
  /-- HPD of a DisplayPort receiver (R72). -/
  | hpd (i : Nat) (high : Bool)
  /-- What a receiver answers over AUX (R72). -/
  | aux (i : Nat) (bytes : List Nat)
  /-- An SMBus block read (R389). -/
  | smbus (bytes : List Nat)
  /-- An NVMe command: its number, kind (0 read, 1 write, 2 Flush, 3 admin) and bytes (R337, R351). -/
  | nvme (id kind : Nat) (bytes : List Nat)
  /-- A record offered to the Observer as it drains (R329). -/
  | observer (code : Nat)
  /-- The text line of a Logbook record on the debug UART (R392), as the record it prints. -/
  | console (rec' : List Nat)
  /-- The debug port takes a byte (R392). -/
  | uart (byte : Nat)
  deriving DecidableEq, Repr

/-- A word of an isochronous lane (R27): a photodiode sample, a DAC code of a channel, a LEN descriptor of a channel, a RANGE
command, or a LATCH command of a cluster. -/
inductive IsoWord
  | pd (c : Fin 4) (k : Fin 6)
  | dac (c : Fin 4) (k : Fin 6)
  | len (c : Fin 4) (k : Fin 6)
  | range (c : Fin 4)
  | latch (c : Fin 4)
  deriving DecidableEq, Repr

/-- What an NVMe SMART log reports (R339). -/
structure Smart where
  critWarn : Nat
  temp : Nat
  tempWarn : Bool
  deriving DecidableEq, Repr

/-- What a configuration write changes (R379, R380): the power state, Bus Master Enable, the MSI-X Function Mask, or the size of BAR2
as 2^(28 + n) bytes (R377). -/
inductive PciConfig
  | d3hot (v : Bool)
  | busMaster (v : Bool)
  | functionMask (v : Bool)
  | bar2Size (n : Fin 7)
  deriving DecidableEq, Repr

/-- The kinds of endpoint reset (R379). -/
inductive PciReset | flr | hot | perst
  deriving DecidableEq, Repr

/-- A mailbox request as the host has placed it (R383): TAG, DMA address and limit. The command and its arguments are the
command's other operands. -/
structure MailReq where
  tag : Nat
  haddr : Nat
  hlen : Nat
  deriving DecidableEq, Repr

/-- The slot that EPH_ACTIVATE names (R57), and the types of the sections whose bytes do not match their HASH as they are read now (R44). -/
structure SlotRead where
  slot : Nat
  bad : List Nat
  deriving DecidableEq, Repr

/-- The COMMIT argument of EPH_SWAP (R58), and an offset in the staged patch whose word fails parity as it is read (R295), if there is one. -/
structure SwapReq where
  commit : Nat
  bad : Option Nat
  deriving DecidableEq, Repr

/-- The pixels that an input sends, line by line, in the encoding of its stream (R71), and the latency of the receiver's last write request
in 100 ns (R273). -/
structure DpPixels where
  enc : PixEnc
  px : List Word
  lat : Nat
  deriving DecidableEq, Repr

/-- The bytes of a BAR2 write, an offset within them whose burst fails the read of its read-modify-write (R268), if there is one, and the latency
of the request in 100 ns (R273). -/
structure HbmBytes where
  bytes : List Byte
  bad : Option Nat
  lat : Nat
  deriving DecidableEq, Repr

/-- The bytes of a BAR4 write, and an offset within them whose word fails parity in its read-modify-write (R292), if there is one. -/
structure PlateBytes where
  bytes : List Byte
  bad : Option Nat
  deriving DecidableEq, Repr

/-- What a read of memory meets: the offset or address whose check fails now, if there is one, and the latency of the request in 100 ns (R273). -/
structure ReadCheck where
  bad : Option Nat
  lat : Nat
  deriving DecidableEq, Repr

/-- The last of the lines that a late fetch misses (R89), and the latency of its request in 100 ns (R273). -/
structure LateTo where
  line : Nat
  lat : Nat
  deriving DecidableEq, Repr

/-- An ENUM message (R395), and the wall tag that the head sends with it (R30), if it comes. -/
structure EnumMsg where
  bytes : List Byte
  tag : Option (List Byte)
  deriving DecidableEq, Repr

/-- Who reads a burst that fails its detection code (R270): the plane reader, a layer fetcher, a receiver's PSR2 copy, PCIe
through BAR2, a reaffirm list, a mesh load, the archive, or the Observer. -/
inductive HbmReader
  | plane (c : Fin 4) (frame prim bitn piece band : Nat)
  | layer (c : Fin 4) (l : Fin 8)
  | copy (i : Fin 4)
  | bar2
  | list (c : Fin 4)
  | mesh (c : Fin 4)
  | archive
  | observer
  deriving DecidableEq, Repr

/-- How a recovery ends (R290): with every pseudo-channel of the region trained but those of a mask, after so many milliseconds, with the taps that
training leaves (index, read, write) and whether the section that holds the MESH tables fails its HASH as it is read again (R44); or by a condition
that leaves it neither READY nor FALLBACK, with the cause, pseudo-channel, address, port and source path that HBM_FRZ captures. -/
inductive RecoveryEnd
  | trained (failed : Nat) (ms : Nat) (taps : List (Nat × Nat × Nat)) (meshBad : Bool)
  | failed (cause : Fin 8) (pc : Fin 8) (addr port path : Nat)
  deriving DecidableEq, Repr

/-- A store that the scrubber reads (R296). -/
inductive ScrubStore | hbm | plate | almanac
  deriving DecidableEq, Repr

/-- What a bring-up measures (R154 to R175, "Bring-up"): whether the return lane locked, the STATE and lane lock map of the
STATUS of step 2, IDENT0 and IDENT1 as received, each lane's receiver index, DESKEW and FINE, each lane's chosen (PRE, POST) with
none where no tap passes, the STATE of step 8, and the milliseconds taken. -/
structure BringUp where
  retlock : Bool
  state2 : Nat
  locks : Nat
  ident0 : List Nat
  ident1 : List Nat
  rx : List Nat
  skew : List (Nat × Nat)
  taps : List (Option (Nat × Nat))
  state8 : Nat
  ms : Nat
  deriving DecidableEq, Repr

/-- What start-up step 8 measures of a channel (R310, R313): the chosen ADC phase, with none where no tap passes and the
width found then, and the photodiode's OFS (R306 adds DARKMARG to it for DARK). -/
structure AdcCal where
  c : Fin 4
  k : Fin 6
  phase : Option Nat
  width : Nat
  ofs : Nat
  deriving DecidableEq, Repr

/-- How the steps of a start-up, or of the steps that a reload or a wake repeats, come out (R366 to R368): VIN in mV at the
start condition (R354), the last step that runs, whether the order stops within step 3 while it stores the power-cycle counter (R319),
the CCLK of the start condition, the measured REFCLK period error in 0.1 %, none while REFCLK is not valid, the hold-up's energy in µJ,
the JEDEC ID and the first missing SFDP item of a boot flash that cannot be used, the section types (by slot) whose bytes do not match
their HASH when they are fetched at step 7, the domains that do not reach power-good, the pseudo-channels that fail training, the taps that
training leaves (index, read, write), the bring-up of each array, and the channels' ADC calibration. -/
structure StartReport where
  vin : Nat
  upto : Nat
  counting : Bool
  startAt : Nat
  refclk : Option Int
  holdup : Nat
  flashBad : Option (Nat × Nat)
  fetchBad : List (Nat × Nat)
  powerBad : List Nat
  hbmBad : Nat
  taps : List (Nat × Nat × Nat)
  links : List (Fin 4 × BringUp)
  adc : List AdcCal
  deriving DecidableEq, Repr

/-- The transfer on the Almanac bus that a power-fail cuts off, after so many bytes (R321, R322): the store of an object, a Logbook save, a checkpoint,
or a raw write. -/
inductive BusCut
  | store (bytes : Nat)
  | save (bytes : Nat)
  | checkpoint (bytes : Nat)
  | raw (bytes : Nat)
  deriving DecidableEq, Repr

/-- How far a power-fail save comes (R336): whole; the shadow image torn after so many bytes; the image sealed and so many bytes of the
Logbook slot written; or LOGSAVE torn after so many bytes. -/
inductive SaveEnd
  | complete
  | imageTorn (bytes : Nat)
  | slotTorn (bytes : Nat)
  | logsaveTorn (bytes : Nat)
  deriving DecidableEq, Repr

end Sys2Proof.Machine
end

