-- ==== Sys2Proof/Syntax.lean ====
section
/-! DEFINITION. The commands of the block: one constructor per row of the operation table. The first operand t of every
command is the instant at which it reaches the module, in CCLK (R360). -/

namespace Sys2Proof

open Machine

/-- A command (one row of the operation table). -/
inductive Instr
  /-- REGISTER_WRITE (R11). -/
  | registerWrite (t : Nat) (addr : Nat) (data : Word)
  /-- BAR0_BAD_ACCESS (R377). -/
  | bar0BadAccess (t : Nat) (addr : Nat) (len : Nat) (write : Bool)
  /-- WIDE_LOW_READ (R10). -/
  | wideLowRead (t : Nat) (addr : Nat)
  /-- RC_READ (R441). -/
  | rcRead (t : Nat) (addr : Nat)
  /-- RETIRE_POP (R84). -/
  | retirePop (t : Nat) (c : Fin 4)
  /-- FATAL_CLEAR (R16). -/
  | fatalClear (t : Nat) (u : UType) (i : Nat)
  /-- CNTCLR (R16). -/
  | cntclr (t : Nat) (u : UType) (i : Nat)
  /-- APPLY_ERR_CLEAR (R444). -/
  | applyErrClear (t : Nat)
  /-- UNIT_FATAL_FAULT (R18). -/
  | unitFatalFault (t : Nat) (u : UType) (i : Nat) (sub : Nat) (code : Nat) (items : List (Nat × Nat))
  /-- D2D_CRC_RETRY (R26). -/
  | d2dCrcRetry (t : Nat) (d : Fin 2) (lane : Nat)
  /-- D2D_LINK_FAILURE (R28). -/
  | d2dLinkFailure (t : Nat) (d : Fin 2) (laneLock : Bool)
  /-- ISO_WORD_DISCARD (R27). -/
  | isoWordDiscard (t : Nat) (d : Fin 2) (word : IsoWord)
  /-- EPH_UPLOAD_BEGIN (R56). -/
  | ephUploadBegin (t : Nat) (m : MailReq) (target : Nat) (length : Nat)
  /-- EPH_UPLOAD_PAGE (R386). -/
  | ephUploadPage (t : Nat) (m : MailReq) (off : Nat) (data : List Byte) (progOk : Bool)
  /-- EPH_UPLOAD_END (R467). -/
  | ephUploadEnd (t : Nat) (m : MailReq) (signs : Option Signed) (hashOk : List Bool) (plan : Plan) (readOk : Bool)
  /-- EPH_ACTIVATE (R57). -/
  | ephActivate (t : Nat) (m : MailReq) (slot : SlotRead)
  /-- EPH_SWAP (R58). -/
  | ephSwap (t : Nat) (m : MailReq) (commit : SwapReq)
  /-- EPH_RESELECT (R53). -/
  | ephReselect (t : Nat) (m : MailReq)
  /-- FULL_RELOAD (R53). -/
  | fullReload (t : Nat) (r : Option StartReport)
  /-- PRESET_GO (R61). -/
  | presetGo (t : Nat)
  /-- DBG_UNLOCK (R62). -/
  | dbgUnlock (t : Nat) (m : MailReq) (token : List Byte) (signs : Option Signed)
  /-- DBG_LOCK (R62). -/
  | dbgLock (t : Nat) (m : MailReq)
  /-- DEBUG_UNLOCK_EXPIRY (R62). -/
  | debugUnlockExpiry (t : Nat)
  /-- DP_LINK_TRAINING (R75). -/
  | dpLinkTraining (t : Nat) (i : Fin 4) (fit : Bool) (rate : Fin 4) (lanes : Nat) (w : Nat) (h : Nat) (dsc : Bool)
  /-- DP_FRAME_COMPLETE (R73). -/
  | dpFrameComplete (t : Nat) (i : Fin 4) (w : Nat) (h : Nat) (line : Nat) (data : DpPixels)
  /-- DP_FRAME_DISCARD (R73). -/
  | dpFrameDiscard (t : Nat) (i : Fin 4)
  /-- DP_INPUT_LOST (R75). -/
  | dpInputLost (t : Nat) (i : Fin 4) (cause : Fin 5)
  /-- DP_PSR_CHANGE (R76). -/
  | dpPsrChange (t : Nat) (i : Fin 4) (psr : Fin 3)
  /-- DP_PSR2_UPDATE (R76). -/
  | dpPsr2Update (t : Nat) (i : Fin 4) (y0 : Nat) (line : Nat) (data : DpPixels) (bad : Option Nat)
  /-- HOST_HBM_WRITE (R85). -/
  | hostHbmWrite (t : Nat) (off : Nat) (data : HbmBytes)
  /-- HOST_HBM_READ (R270). -/
  | hostHbmRead (t : Nat) (off : Nat) (len : Nat) (check : ReadCheck)
  /-- BAR4_WRITE (R293). -/
  | bar4Write (t : Nat) (off : Nat) (data : PlateBytes)
  /-- BAR4_READ (R293). -/
  | bar4Read (t : Nat) (off : Nat) (len : Nat) (bad : Option Nat)
  /-- LAYER_READ_ERROR (R88). -/
  | layerReadError (t : Nat) (c : Fin 4) (l : Fin 8) (addr : Nat)
  /-- FETCH_LATE (R89). -/
  | fetchLate (t : Nat) (c : Fin 4) (l : Fin 8) (y0 : Nat) (y1 : LateTo)
  /-- FENCE_GO (R276). -/
  | fenceGo (t : Nat)
  /-- FENCE_DONE (R276). -/
  | fenceDone (t : Nat)
  /-- TABLE_WINDOW_WRITE (R95). -/
  | tableWindowWrite (t : Nat) (addr : Nat) (data : Word)
  /-- MESH_LOAD_GO (R95). -/
  | meshLoadGo (t : Nat) (c : Fin 4)
  /-- MESH_LOAD_COMPLETE (R95). -/
  | meshLoadComplete (t : Nat) (c : Fin 4) (err : Option Nat)
  /-- TABLE_PARITY_ERROR (R102). -/
  | tableParityError (t : Nat) (c : Fin 4) (table : TableId) (index : Nat) (word : Nat)
  /-- SCHED_WINDOW_WRITE (R120). -/
  | schedWindowWrite (t : Nat) (addr : Nat) (data : Word)
  /-- SCHED_CHECK_GO (R118). -/
  | schedCheckGo (t : Nat) (c : Fin 4)
  /-- SCHED_CHECK_DONE (R118). -/
  | schedCheckDone (t : Nat) (c : Fin 4)
  /-- MERIDIAN (R133). -/
  | meridian (t : Nat) (c : Fin 4)
  /-- COMMIT_REQUEST (R140). -/
  | commitRequest (t : Nat) (c : Fin 4)
  /-- COMMIT_CANCEL (R142). -/
  | commitCancel (t : Nat) (c : Fin 4)
  /-- FRAME_START (R131). -/
  | frameStart (t : Nat) (c : Fin 4)
  /-- SEGMENT_START (R110). -/
  | segmentStart (t : Nat) (c : Fin 4)
  /-- PLANE_RESET (R109). -/
  | planeReset (t : Nat) (c : Fin 4) (first : Nat) (last : Nat) (ent : Option (Nat × Nat))
  /-- SETTLE_COMPLETE (R136). -/
  | settleComplete (t : Nat) (c : Fin 4) (first : Nat) (ent : Option (Nat × Nat))
  /-- A_WINDOW_START (R111). -/
  | aWindowStart (t : Nat) (c : Fin 4)
  /-- TAIL_START (R119). -/
  | tailStart (t : Nat) (c : Fin 4)
  /-- FRAME_CLOSE (R248). -/
  | frameClose (t : Nat) (c : Fin 4)
  /-- HELD_WAKE (R152). -/
  | heldWake (t : Nat) (c : Fin 4)
  /-- FRESHNESS_DEADLINE_WAKE (R153). -/
  | freshnessDeadlineWake (t : Nat) (c : Fin 4)
  /-- PLANE_BAND_READ (R126). -/
  | planeBandRead (t : Nat) (c : Fin 4) (frame : Nat) (prim : Nat) (bitn : Nat) (piece : Nat) (band : Nat) (bad : Option Nat) (plate : ReadCheck)
  /-- FALLBACK_EXTRACTION (R129). -/
  | fallbackExtraction (t : Nat) (c : Fin 4) (frame : Nat) (prim : Nat) (bitn : Nat) (piece : Nat) (band : Nat) (plateBad : Option Nat)
  /-- BLOCK_SEND (R160). -/
  | blockSend (t : Nat) (c : Fin 4) (frame : Nat) (seg : Nat) (prim : Nat) (bitn : Nat) (piece : Nat) (wrap : Bool) (band : Nat) (blk : Nat) (resetAt : Nat)
  /-- BLOCK_TRAILER_SENT (R169). -/
  | blockTrailerSent (t : Nat) (c : Fin 4) (seq : Nat) (bcrc : Nat)
  /-- ECHO (R169). -/
  | echo (t : Nat) (c : Fin 4) (m : List Byte)
  /-- ECHO_TIMEOUT (R169). -/
  | echoTimeout (t : Nat) (c : Fin 4) (seq : Nat)
  /-- RSACK (R173). -/
  | rsack (t : Nat) (c : Fin 4) (m : List Byte)
  /-- RSACK_TIMEOUT (R173). -/
  | rsackTimeout (t : Nat) (c : Fin 4) (cseq : Nat)
  /-- STATUS (R176). -/
  | status (t : Nat) (c : Fin 4) (m : List Byte)
  /-- TEMP (R176). -/
  | temp (t : Nat) (c : Fin 4) (m : List Byte)
  /-- ALARM (R176). -/
  | alarm (t : Nat) (c : Fin 4) (m : List Byte)
  /-- IDENT0 (R168). -/
  | ident0 (t : Nat) (c : Fin 4) (m : List Byte)
  /-- IDENT1 (R168). -/
  | ident1 (t : Nat) (c : Fin 4) (m : List Byte)
  /-- TRAIN (R299). -/
  | train (t : Nat) (c : Fin 4) (m : List Byte)
  /-- RETURN_LANE_LOCK_LOSS (R176). -/
  | returnLaneLockLoss (t : Nat) (c : Fin 4)
  /-- STATUS_TIMEOUT (R176). -/
  | statusTimeout (t : Nat) (c : Fin 4)
  /-- LANE_RETIRE (R174). -/
  | laneRetire (t : Nat) (c : Fin 4) (lane : Fin 17)
  /-- LANE_RETRAIN (R175). -/
  | laneRetrain (t : Nat) (c : Fin 4)
  /-- LANE_RETRAIN_DONE (R175). -/
  | laneRetrainDone (t : Nat) (c : Fin 4) (taps : Option (Nat × Nat))
  /-- TRIOC_BRINGUP (R168). -/
  | triocBringup (t : Nat) (c : Fin 4) (r : BringUp)
  /-- INTERLOCK_TRIP (R180). -/
  | interlockTrip (t : Nat) (c : Fin 4)
  /-- INTERLOCK_REARM (R180). -/
  | interlockRearm (t : Nat) (c : Fin 4) (high : Nat)
  /-- OUTPUT_STOP (R186). -/
  | outputStop (t : Nat) (c : Fin 4)
  /-- OUTPUT_REARM (R205). -/
  | outputRearm (t : Nat) (c : Fin 4)
  /-- CHANNEL_REARM (R205). -/
  | channelRearm (t : Nat) (c : Fin 4) (k : Fin 6)
  /-- DIAGNOW (R198). -/
  | diagnow (t : Nat) (c : Fin 4) (k : Fin 6)
  /-- THERMISTOR_SAMPLE (R187). -/
  | thermistorSample (t : Nat) (c : Fin 4) (i : Fin 4) (raw : Nat) (temp : Int)
  /-- LAMP_FRAME_SEND (R194). -/
  | lampFrameSend (t : Nat) (c : Fin 4) (high : Bool)
  /-- FAULT_WINDOW (R197). -/
  | faultWindow (t : Nat) (c : Fin 4) (k : Fin 6) (pd : Nat) (vstr : Nat) (last : Bool)
  /-- WEAR_ROTATION (R210). -/
  | wearRotation (t : Nat) (c : Fin 4)
  /-- HELIOSTAT_SAMPLE (R212). -/
  | heliostatSample (t : Nat) (c : Fin 4) (i : Fin 16) (code : Option Nat)
  /-- SLOT_OUTPUT_WRITE (R214). -/
  | slotOutputWrite (t : Nat) (c : Fin 4) (i : Fin 16)
  /-- SATFAULT_CLEAR (R228). -/
  | satfaultClear (t : Nat) (c : Fin 4) (i : Fin 16)
  /-- COLOUR_SENSOR_TXN (R230). -/
  | colourSensorTxn (t : Nat) (c : Fin 4) (p : Fin 3)
  /-- COLOUR_RESULT_READY (R231). -/
  | colourResultReady (t : Nat) (c : Fin 4) (p : Fin 3) (data : List Byte)
  /-- REAFFIRM_LAYER (R243). -/
  | reaffirmLayer (t : Nat) (c : Fin 4) (l : Fin 8)
  /-- REAFFIRM_TILE_LIST (R244). -/
  | reaffirmTileList (t : Nat) (c : Fin 4) (l : Fin 8) (count : Nat)
  /-- REAFFIRM_LIST_READ_DONE (R245). -/
  | reaffirmListReadDone (t : Nat) (c : Fin 4) (err : Bool)
  /-- TILE_TABLE_PARITY_ERROR (R262). -/
  | tileTableParityError (t : Nat) (c : Fin 4) (tile : Nat)
  /-- HBM_DETECTION_ERROR (R270). -/
  | hbmDetectionError (t : Nat) (addr : Nat) (reader : HbmReader)
  /-- HBM_WRITE_PARITY_ERROR (R269). -/
  | hbmWriteParityError (t : Nat) (addr : Nat) (again : Bool)
  /-- REGION_FREEZE (R282). -/
  | regionFreeze (t : Nat) (r : Fin 2) (pc : Fin 8) (addr : Nat) (port : Nat) (path : Nat)
  /-- FREEZE_REQUEST (R282). -/
  | freezeRequest (t : Nat) (r : Fin 2)
  /-- FREEZE_SNAPSHOT_DONE (R283). -/
  | freezeSnapshotDone (t : Nat) (r : Fin 2)
  /-- RECOVER (R290). -/
  | recover (t : Nat) (r : Fin 2)
  /-- RECOVERY_DONE (R290). -/
  | recoveryDone (t : Nat) (r : Fin 2) (e : RecoveryEnd)
  /-- FREQ_CHANGE_REQUEST (R279). -/
  | freqChangeRequest (t : Nat) (ch : Fin 8) (set : Fin 4)
  /-- FREQ_CHANGE_DONE (R280). -/
  | freqChangeDone (t : Nat) (ch : Fin 8)
  /-- PC_POWER_DOWN (R277). -/
  | pcPowerDown (t : Nat) (p : Fin 16)
  /-- PC_POWER_DOWN_EXIT (R277). -/
  | pcPowerDownExit (t : Nat) (p : Fin 16)
  /-- SELF_REFRESH_ENTRY (R278). -/
  | selfRefreshEntry (t : Nat) (ch : Fin 8)
  /-- HBM_REFRESH (R274). -/
  | hbmRefresh (t : Nat) (p : Fin 16) (urgent : Bool)
  /-- SCRUB_READ (R296). -/
  | scrubRead (t : Nat) (st : ScrubStore) (place : Nat) (err : Bool) (copyB : Bool) (last : Bool)
  /-- TRAINING_GO (R300). -/
  | trainingGo (t : Nat) (e : Fin 6) (host : Bool) (temp : Int) (pd : Nat)
  /-- TRAINING_ABORT (R300). -/
  | trainingAbort (t : Nat) (e : Fin 6) (host : Bool)
  /-- GATHER_BURST_END (R299). -/
  | gatherBurstEnd (t : Nat) (e : Fin 6) (g : Gathered)
  /-- GATHER_BURST_START (R307). -/
  | gatherBurstStart (t : Nat) (e : Fin 6) (temp : Int) (pd : Nat)
  /-- STAGED_RESULT_APPLY (R302). -/
  | stagedResultApply (t : Nat) (e : Fin 6)
  /-- STAGED_RESULT_EXPIRY (R302). -/
  | stagedResultExpiry (t : Nat) (e : Fin 6)
  /-- SCHEDULED_TRAINING (R305). -/
  | scheduledTraining (t : Nat) (e : Fin 6) (target : Fin 7) (idx : Nat) (c : Fin 4) (temp : Int) (pd : Nat)
  /-- ALM_RAW_READ (R315). -/
  | almRawRead (t : Nat) (m : MailReq) (addr : Nat) (len : Nat)
  /-- ALM_RAW_WRITE (R320). -/
  | almRawWrite (t : Nat) (m : MailReq) (addr : Nat) (data : List Byte)
  /-- OBJECT_STORE (R316). -/
  | objectStore (t : Nat) (oid : Nat)
  /-- CHECKPOINT (R324). -/
  | checkpoint (t : Nat)
  /-- CHECKPOINT_NOW (R324). -/
  | checkpointNow (t : Nat)
  /-- ERROR_REPORT (R329). -/
  | errorReport (t : Nat) (u : UType) (i : Nat) (sub : Nat) (cls : Fin 6) (n : Fin 64) (items : List (Nat × Nat))
  /-- QUEUE_DRAIN (R329). -/
  | queueDrain (t : Nat)
  /-- LOG_TRIGGER_HOST (R333). -/
  | logTriggerHost (t : Nat)
  /-- LOG_FREEZE (R333). -/
  | logFreeze (t : Nat)
  /-- LOGBOOK_SAVE_DONE (R334). -/
  | logbookSaveDone (t : Nat)
  /-- LOG_RELEASE (R334). -/
  | logRelease (t : Nat) (slot : Fin 2)
  /-- LOG_SLOT_READ (R334). -/
  | logSlotRead (t : Nat) (m : MailReq) (slot : Nat)
  /-- DRIVE_ATTACH (R340). -/
  | driveAttach (t : Nat) (d : Drive)
  /-- NVME_COMMAND_TIMEOUT (R339). -/
  | nvmeCommandTimeout (t : Nat) (id : Nat)
  /-- SMART_POLL (R339). -/
  | smartPoll (t : Nat) (x : Smart)
  /-- ARCHIVE_SAMPLE_TICK (R344). -/
  | archiveSampleTick (t : Nat) (c : Fin 4) (late : List Nat) (bad : List Nat)
  /-- RING_SAMPLE (R349). -/
  | ringSample (t : Nat) (c : Fin 4)
  /-- RING_FLUSH_DONE (R350). -/
  | ringFlushDone (t : Nat)
  /-- ARCHIVE_FLUSH_TICK (R351). -/
  | archiveFlushTick (t : Nat)
  /-- ARCHIVE_FLUSH_DONE (R351). -/
  | archiveFlushDone (t : Nat)
  /-- LOGBOOK_ARCHIVE_COPY (R348). -/
  | logbookArchiveCopy (t : Nat) (slot : Fin 2) (saveSeq : Nat)
  /-- ARCHIVE_RESUME (R352). -/
  | archiveResume (t : Nat)
  /-- ARC_QUERY (R353). -/
  | arcQuery (t : Nat) (m : MailReq)
  /-- ARC_READ (R387). -/
  | arcRead (t : Nat) (m : MailReq) (args : Vector Word 6)
  /-- ARC_ANCHOR (R353). -/
  | arcAnchor (t : Nat) (m : MailReq)
  /-- ARC_INIT (R387). -/
  | arcInit (t : Nat) (m : MailReq) (serial : Nat)
  /-- STARTUP (R366). -/
  | startup (t : Nat) (r : StartReport)
  /-- POWER_FAIL (R369). -/
  | powerFail (t : Nat) (vin : Nat) (cut : Option BusCut) (e : SaveEnd)
  /-- OVERVOLTAGE (R356). -/
  | overvoltage (t : Nat) (vin : Nat) (cut : Option BusCut) (e : SaveEnd)
  /-- RESET_IN (R370). -/
  | resetIn (t : Nat) (cut : Option BusCut) (e : SaveEnd)
  /-- HOLDUP_TIMEOUT (R367). -/
  | holdupTimeout (t : Nat) (energy : Nat)
  /-- POWER_GOOD_TIMEOUT (R358). -/
  | powerGoodTimeout (t : Nat) (d : Fin 50)
  /-- PLL_LOCK_LOSS (R362). -/
  | pllLockLoss (t : Nat) (i : Fin 8)
  /-- FRONTEND_RELOCK_TIMEOUT (R362). -/
  | frontendRelockTimeout (t : Nat)
  /-- REFCLK_VALID (R363). -/
  | refclkValid (t : Nat) (err : Int)
  /-- REFCLK_LOST (R363). -/
  | refclkLost (t : Nat)
  /-- STANDBY_ENTER (R365). -/
  | standbyEnter (t : Nat)
  /-- TJ_SAMPLE (R373). -/
  | tjSample (t : Nat) (compute : Vector Int 4) (io : Vector Int 4) (hbm : Int)
  /-- POWER_SHED_STEP (R374). -/
  | powerShedStep (t : Nat) (pin : Nat) (vin : Nat) (iin : Nat)
  /-- PCIE_RESET (R379). -/
  | pcieReset (t : Nat) (kind : PciReset)
  /-- PCIE_LINK_LOSS (R379). -/
  | pcieLinkLoss (t : Nat)
  /-- EVR_MODERATION_TIMEOUT (R381). -/
  | evrModerationTimeout (t : Nat)
  /-- VERSION (R385). -/
  | version (t : Nat) (m : MailReq)
  /-- FW_UPDATE_BEGIN (R391). -/
  | fwUpdateBegin (t : Nat) (m : MailReq) (length : Nat)
  /-- FW_UPDATE_PAGE (R386). -/
  | fwUpdatePage (t : Nat) (m : MailReq) (off : Nat) (data : List Byte) (progOk : Bool)
  /-- FW_UPDATE_END (R391). -/
  | fwUpdateEnd (t : Nat) (m : MailReq) (copy : FwCopy)
  /-- TAG_READ (R388). -/
  | tagRead (t : Nat) (m : MailReq) (path : Nat)
  /-- TAG_WRITE (R388). -/
  | tagWrite (t : Nat) (m : MailReq) (path : Nat) (data : List Byte)
  /-- TELEMETRY (R385). -/
  | telemetry (t : Nat) (m : MailReq)
  /-- SMBUS_STATUS_READ (R389). -/
  | smbusStatusRead (t : Nat) (write : Bool)
  /-- SMBUS_TAG_READ (R389). -/
  | smbusTagRead (t : Nat) (i : Fin 8) (write : Bool)
  /-- SMBUS_STANDBY (R365). -/
  | smbusStandby (t : Nat) (key : Byte) (pecBad : Bool)
  /-- SMBUS_WAKE (R365). -/
  | smbusWake (t : Nat) (key : Byte) (pecBad : Bool) (r : StartReport)
  /-- SMBUS_THERMAL_RESTART (R373). -/
  | smbusThermalRestart (t : Nat) (key : Byte) (pecBad : Bool) (r : StartReport)
  /-- UART_RECEIVE (R392). -/
  | uartReceive (t : Nat) (byte : Byte)
  /-- HEAD_ELECTION (R395). -/
  | headElection (t : Nat)
  /-- ENUM_TICK (R395). -/
  | enumTick (t : Nat)
  /-- ENUM (R395). -/
  | enum (t : Nat) (m : EnumMsg)
  /-- ENUMDONE (R395). -/
  | enumdone (t : Nat) (m : List Byte)
  /-- PING_TICK (R398). -/
  | pingTick (t : Nat)
  /-- PING (R398). -/
  | ping (t : Nat) (m : List Byte) (turn : Nat)
  /-- PONG (R398). -/
  | pong (t : Nat) (m : List Byte) (sub : Fin 8)
  /-- TIME_TICK (R399). -/
  | timeTick (t : Nat)
  /-- TIME (R399). -/
  | time (t : Nat) (m : List Byte) (sub : Fin 8) (fwd : Nat)
  /-- TIME_TIMEOUT (R400). -/
  | timeTimeout (t : Nat)
  /-- WALL_TIME_SET (R400). -/
  | wallTimeSet (t : Nat)
  /-- FSYNC_TICK (R402). -/
  | fsyncTick (t : Nat)
  /-- FSYNC (R402). -/
  | fsync (t : Nat) (m : List Byte)
  /-- CHAIN_LANE_CHANGE (R393). -/
  | chainLaneChange (t : Nat) (port : Fin 2) (up : Bool)
  /-- COHERENT_ARM (R403). -/
  | coherentArm (t : Nat)
  /-- ARM_RESEND (R403). -/
  | armResend (t : Nat)
  /-- ARM (R406). -/
  | arm (t : Nat) (m : List Byte)
  /-- COMMIT_DECISION (R407). -/
  | commitDecision (t : Nat)
  /-- GO (R408). -/
  | go (t : Nat) (m : List Byte)
  /-- DEFER (R409). -/
  | defer (t : Nat) (m : List Byte)
  /-- ABORT (R409). -/
  | abort (t : Nat) (m : List Byte)
  /-- TRIG (R410). -/
  | trig (t : Nat) (m : List Byte) (port : Fin 2)
  /-- CHAIN_WAKE_SEND (R411). -/
  | chainWakeSend (t : Nat)
  /-- WAKE (R411). -/
  | wake (t : Nat) (m : List Byte) (port : Fin 2) (r : StartReport)
  /-- HB (R412). -/
  | hb (t : Nat) (role : Fin 3) (sel : Bool) (lockstep : Bool) (ready : Bool) (classX : Bool) (handover : Bool)
  /-- HB_SEND (R412). -/
  | hbSend (t : Nat)
  /-- HEARTBEAT_LOSS (R417). -/
  | heartbeatLoss (t : Nat)
  /-- MARK (R412). -/
  | mark (t : Nat) (c : Fin 4) (skew : Int)
  /-- ID (R55). -/
  | id (t : Nat) (imageId : List Byte) (serial : Nat) (strap : Nat)
  /-- PEND (R414). -/
  | pend (t : Nat) (c : Fin 4) (req : Bool) (crc : Nat) (sentAt : Nat)
  /-- CRCREP (R416). -/
  | crcrep (t : Nat) (c : Fin 4) (seq : Nat) (gen : Nat) (pad : Nat)
  /-- MAP (R415). -/
  | map (t : Nat) (c : Fin 4) (frame : Nat) (marked : List Nat)
  /-- CHSTATE (R207). -/
  | chstate (t : Nat) (c : Fin 4) (states : List Nat) (lit : List Nat)
  /-- TAKE (R421). -/
  | take (t : Nat) (trigger : Nat) (xs : List Nat)
  /-- XFATAL (R417). -/
  | xfatal (t : Nat) (code : Nat)
  /-- TRANSIT_LANE_DROP (R412). -/
  | transitLaneDrop (t : Nat) (lane : Fin 4) (rx : Bool)
  /-- HANDOVER (R417). -/
  | handover (t : Nat)
  /-- TAKEOVER_SWITCH (R421). -/
  | takeoverSwitch (t : Nat)
  /-- SEL_PEER_CHANGE (R418). -/
  | selPeerChange (t : Nat) (high : Bool)
  /-- ROLE_TIMEOUT (R419). -/
  | roleTimeout (t : Nat)
  /-- SEL_RETRY_TIMEOUT (R420). -/
  | selRetryTimeout (t : Nat)
  /-- LOAD_WINDOW (R425). -/
  | loadWindow (t : Nat) (load : Nat)
  /-- WATCHDOG_EXPIRY (R429). -/
  | watchdogExpiry (t : Nat) (code : Byte)
  /-- OBSERVER_BOOT_DONE (R429). -/
  | observerBootDone (t : Nat)
  /-- OBSERVER_FATAL_CLEAR (R430). -/
  | observerFatalClear (t : Nat)
  /-- LAYER_FETCH_DONE (R85). -/
  | layerFetchDone (t : Nat) (c : Fin 4) (l : Fin 8)
  /-- RAIL_OUT_OF_REGULATION (R36). -/
  | railOutOfRegulation (t : Nat) (rail : Nat) (value : Nat)
  /-- PLL_RELOCK (R362). -/
  | pllRelock (t : Nat) (i : Fin 8)
  /-- PCIE_LINK_UP (R376). -/
  | pcieLinkUp (t : Nat) (speed : Fin 5) (width : Nat)
  /-- PCIE_CONFIG_WRITE (R379). -/
  | pcieConfigWrite (t : Nat) (w : PciConfig)
  /-- TRANSIT_LINK_UP (R413). -/
  | transitLinkUp (t : Nat) (tx : Fin 16) (rx : Fin 16)
  /-- NVME_LINK_DOWN (R339). -/
  | nvmeLinkDown (t : Nat)
  /-- NVME_COMMAND_COMPLETE (R351). -/
  | nvmeCommandComplete (t : Nat) (id : Nat) (ok : Bool)
  /-- DP_AUX_TRANSACTION (R72). -/
  | dpAuxTransaction (t : Nat) (i : Fin 4) (edid : Bool) (off : Nat) (len : Nat)
  /-- PWM_PERIOD (R233). -/
  | pwmPeriod (t : Nat) (c : Fin 4) (i : Fin 2)
  /-- FLASH_ERASE_DONE (R386). -/
  | flashEraseDone (t : Nat) (firmware : Bool)
  deriving DecidableEq, Repr

end Sys2Proof
end

