-- ==== Sys2Proof/Decode.lean ====
section
/-! DEFINITION. Decoding of words. The operation table gives no row any bits, so no word spells a command. -/

namespace Sys2Proof

/-- The command that a word of so many bits spells by the operation table's bits: none, since no row has any. -/
def decodeTableWord (nbits w : Nat) : Option Instr :=
  let _ := (nbits, w)
  none

end Sys2Proof
end

