-- ==== Sys2Proof/Machine/HelLaw.lean ====
section
/-! DEFINITION. The Heliostat law as pure arithmetic: terms, saturation, the integrator freeze and the clamp (R212), the
set-point ramp (R222), the cascade scale (R223), measurement scaling (R217), delivered codes (R220) and the colour
sensor's normalisation (R231); and the light arithmetic of R183, R184, R187 and R188. -/

namespace Sys2Proof.Machine

/-- A full-precision product shifted right with rounding half up (R212). A shift field of 63 acts as 62. -/
def helTerm (c : Int) (sh : Nat) (x : Int) : Int :=
  let s := min sh 62
  let p := c * x
  if s == 0 then p else (p + 2 ^ (s - 1)) / 2 ^ s

/-- sat32 of R212. -/
def sat32 (v : Int) : Int := satI 32 v

/-- The coefficients, shifts and limits of a slot (R212). -/
structure HelCoef where
  ff : Int
  ffl : Int
  b0 : Int
  b1 : Int
  b2 : Int
  a1 : Int
  a2 : Int
  ki : Int
  sff : Nat
  sffl : Nat
  sb0 : Nat
  sb1 : Nat
  sb2 : Nat
  sa1 : Nat
  sa2 : Nat
  ski : Nat
  umin : Int
  umax : Int
  deriving DecidableEq, Repr

/-- What a slot's law carries from sample to sample (R212): I, e1, e2, u1, u2. -/
structure HelHist where
  i : Int
  e1 : Int
  e2 : Int
  u1 : Int
  u2 : Int
  deriving DecidableEq, Repr

/-- The output clamp; UMIN above UMAX yields UMAX (R212). -/
def helClamp (k : HelCoef) (v : Int) : Int := min (max v k.umin) k.umax

/-- One sample of the law: the output, the new history and SAT (R212). -/
def helLaw (k : HelCoef) (low : Bool) (h : HelHist) (sp m : Int) : Int × HelHist × Bool :=
  let fft := if low then helTerm k.ffl k.sffl sp else helTerm k.ff k.sff sp
  let e := sat32 (sp - m)
  let dI := helTerm k.ki k.ski e
  let in' := sat32 (h.i + dI)
  let rest := fft + helTerm k.b0 k.sb0 e + helTerm k.b1 k.sb1 h.e1 + helTerm k.b2 k.sb2 h.e2
    + helTerm k.a1 k.sa1 h.u1 + helTerm k.a2 k.sa2 h.u2
  let v0 := sat32 (rest + in')
  let freeze := (k.umax < v0 ∧ 0 < dI) ∨ (v0 < k.umin ∧ dI < 0)
  let i1 := if freeze then h.i else in'
  let v := if freeze then sat32 (rest + h.i) else v0
  let u := helClamp k v
  (u, ⟨i1, e, h.e1, u, h.u1⟩, k.umax < v || v < k.umin)

/-- A dark sample (R218): feedforward plus the integrator; e1 and e2 clear, u1 and u2 take u. -/
def helDark (k : HelCoef) (low : Bool) (h : HelHist) (sp : Int) : Int × HelHist :=
  let fft := if low then helTerm k.ffl k.sffl sp else helTerm k.ff k.sff sp
  let u := helClamp k (sat32 (fft + h.i))
  (u, ⟨h.i, 0, 0, u, u⟩)

/-- A feedforward-only sample (R226). -/
def helFeedforward (k : HelCoef) (low : Bool) (sp : Int) : Int :=
  helClamp k (sat32 (if low then helTerm k.ffl k.sffl sp else helTerm k.ff k.sff sp))

/-- One step of the set-point ramp: the new working set-point and LIMITED; SLEW = 0x7FFF_FFFF disables ramping, whatever the step (R222). -/
def helRamp (slew : Nat) (r req : Int) : Int × Bool :=
  if |req - r| ≤ (slew : Int) || slew == 0x7FFFFFFF then (req, false)
  else (if r < req then r + slew else r - slew, true)

/-- A cascade delivery scaled for a primary (R223). -/
def cascadeScale (u : Int) (a16 c16 j : Nat) : Int := sat32 ((u * a16 * c16 * 2 ^ j + 2 ^ 37) / 2 ^ 38)

/-- A PD measurement (R217). -/
def measPd (code ofs : Int) : Int := sat32 ((code - ofs) * 2 ^ 17)
/-- A thermistor measurement (R217). -/
def measTsen (temp ofs : Int) : Int := sat32 ((temp - ofs) * 2 ^ 19)

/-- The 16-bit code delivered to LREF or to a cooling output (R220). -/
def helCode (u : Int) : Nat := if 0 ≤ u then bits u.toNat 15 16 else 0

/-- The normalised colour word, none when the light fraction is too small (R231). `f` is D × C16. -/
def csNormalise (word f : Nat) : Option Nat :=
  if f < 2 ^ 26 then none else some (min (2 ^ 31 - 1) (word * 2 ^ 47 / f))

/-- D of R183 for an effective brightness. -/
def dimD (dimeff : Nat) : Nat := max dimeff 65

/-- The amplitude a of R183 as a number of 65,535ths. -/
def dimAmp (dimeff : Nat) : Nat := if dimeff == 0 then 0 else max (dimD dimeff) 16384

/-- The chop duty d of R183 as a number of 16,384ths. -/
def dimDuty (dimeff : Nat) : Nat := if dimeff == 0 then 0 else min (dimD dimeff) 16384

/-- D of R223 and R231: 65535 counts as 65536. -/
def dimD16 (dimeff : Nat) : Nat := if dimD dimeff == 65535 then 65536 else dimD dimeff

/-- A16 of R223: max(D, 16384), with 65535 counting as 65536. -/
def dimA16 (dimeff : Nat) : Nat := max (dimD16 dimeff) 16384

/-- C16 of R223: the ceiling, with 0xFFFF counting as 65536. -/
def ceilC16 (ceil : Nat) : Nat := if ceil == 0xFFFF then 65536 else ceil

/-- One chop period (R184): the accumulator in 16,384ths of a CCLK, then the pulse width and what is left. -/
def chopStep (minpw duty acc : Nat) : Nat × Nat :=
  let a := acc + 64 * duty
  if minpw * 16384 ≤ a then
    let w := min (a / 16384) 64
    (w, a - w * 16384)
  else (0, a)

/-- The derate factor as a 16-bit fraction, 0xFFFF for 1 (R187): 1 − SLOPE × (T − TKNEE), T and TKNEE in 1/16 °C, SLOPE
Q0.16 per °C. -/
def derate (slope : Nat) (t tknee : Int) : Nat :=
  let x : Int := 65536 * 16 - (slope : Int) * (t - tknee)
  min (clampI 0 (65536 * 16) x / 16).toNat 0xFFFF

/-- The capacity factor as a 16-bit fraction (R188). -/
def capacity (nlit nfull : Nat) : Nat := if nfull ≤ nlit then 0xFFFF else min (nlit * 65536 / nfull) 0xFFFF

end Sys2Proof.Machine
end

