-- ==== Sys2Proof/Machine/LightState.lean ====
section
/-! DEFINITION. The state beside the registers of a cluster's Trioc link (R154 to R176), laser channels, lamp line and
light amount (R177 to R210), and Heliostat engine (R211 to R235). -/

namespace Sys2Proof.Machine

/-- A block that has been sent and whose reset has not come yet (R169 to R172): its header fields, its payload, the frame
it belongs to, its lane, when its trailer leaves, what has confirmed its latest send, when the echo came, the BCRC the array echoed and
whether the pair found a path fault (R416), and the reset instant of its band. -/
structure SentBlock where
  hdr : BlockHeader
  payload : List Nat
  frame : Nat
  prim : Nat
  bitn : Nat
  lane : Nat
  trailerAt : Nat
  padOk : Option Bool
  echoOk : Option Bool
  echoAt : Nat
  echoCrc : Option Nat
  pathFault : Bool
  resetAt : Nat
  deriving DecidableEq, Repr

/-- A band of a plane that the plane reader has ready for sending (R126, R127, R129). -/
structure BandData where
  frame : Nat
  prim : Nat
  bitn : Nat
  piece : Nat
  band : Nat
  rows : List (List Nat)
  deriving DecidableEq, Repr

/-- A reset whose acknowledgement has not come (R173). -/
structure PendingAck where
  cseq : Nat
  first : Nat
  last : Nat
  place : Nat
  frame : Nat
  replay : Bool
  settleAt : Nat
  deriving DecidableEq, Repr

/-- A plane that a band shows from a cache place until its last reset into it (R161). -/
structure PlaceUse where
  place : Nat
  band : Nat
  frame : Nat
  prim : Nat
  bitn : Nat
  last : Nat
  deriving DecidableEq, Repr

/-- The Trioc link of one cluster beside its registers: sequence numbers, outstanding blocks, ready bands, when each lane
is free, the lane scramblers (R156), the active set (R154), the mismatch instants of each lane (R174), the lanes the last
STATUS showed unlocked among those it judges, its whole lane lock map (R167), the next round-robin place (R161), which plane each band still shows from a place and until when (R161), resets to be
acknowledged, the last STATUS and TEMP instants, the lane under retraining, and when the lanes that idle in held picture resume (R165). -/
structure Trioc where
  seq : Nat
  cseq : Nat
  blocks : List SentBlock
  bands : List BandData
  laneFree : Vector Nat 17
  lfsr : Vector Nat 17
  active : List Nat
  mism : List (Nat × Nat)
  unlocked : List Nat
  lockMap : Nat
  nextPlace : Nat
  shows : List PlaceUse
  acks : List PendingAck
  statusAt : Nat
  tempAt : Option Nat
  retrain : Option Nat
  resumeAt : Option Nat
  deriving DecidableEq, Repr

/-- The link after reset. -/
def Trioc.reset : Trioc :=
  { seq := 0, cseq := 0, blocks := [], bands := [], laneFree := Vector.replicate 17 0, lfsr := Vector.replicate 17 0,
    active := [], mism := [], unlocked := [], lockMap := 0, nextPlace := 0, shows := [], acks := [], statusAt := 0,
    tempAt := none, retrain := none, resumeAt := none }

/-- The three kinds of fade (R185). -/
inductive FadeKind | brightness | start | stop
  deriving DecidableEq, Repr

/-- A fade under way (R185): from the fraction start to target, `acc` CCLK of frame periods into `dur` CCLK. -/
structure Fade where
  kind : FadeKind
  startNum : Nat
  startDen : Nat
  target : Nat
  acc : Nat
  dur : Nat
  deriving DecidableEq, Repr

/-- A pattern range (R182): the high range for T-planes, the low range for A-planes. -/
inductive LampRange | high | low
  deriving DecidableEq, Repr

/-- An emitter search (R203): whether it looks for a short, the candidates left, the emitters the step under way
bypasses, the frames taken, and the high-range count when it began. -/
structure Search where
  short : Bool
  cands : List Nat
  bypassed : List Nat
  frames : Nat
  nlit : Nat
  deriving DecidableEq, Repr

/-- The calibration of a channel in the front end (R197): VSTEP, VOFS, VCOMP, DARK and MISSFRAC as it last took them. -/
structure FrontCal where
  vstep : Nat
  vofs : Nat
  vcomp : Nat
  dark : Nat
  missfrac : Nat
  deriving DecidableEq, Repr

/-- A laser channel beside its registers: pending diagnostic causes (R198, R205), whether no diagnostic pulse has failed since it became STANDBY
(R200), a pulse in the dump window, when it rises, that it has decided something already and that it shows the wanted high pattern (R199, R204), the consecutive windows of each criterion (R197), the pattern checks due, each a range with the
emitter count that it expects, the ranges loaded again after a failed check and not checked since, the patterns that the latest load of each range held (R195), the
search, thermal shutdown, that a rebalanced bank waits for a passing diagnostic pulse (R204), the LEN line, the
when LEN last rose,
the slot's LREF code and the interval in which LREF is held at CODE instead (R221), the lit time not yet a whole millisecond and that of each emitter not yet a whole second
(R209), the patterns wanted in each range, that a wear rotation waits for its LATCH and that it has been latched and not yet reported (R210), derating under way (R187), that the
channel's coming pulse is omitted (R178), that its next DAC code is lost on the isochronous lane (R178), the calibration that the
front end works with (R197), and the fault that the second of a pair has decided and the prime has not yet shown (R207). -/
structure LaserCh where
  rearm : Bool
  diagNow : Bool
  diagPassed : Bool
  diagOn : Bool
  diagRise : Nat
  diagDone : Bool
  diagTaken : Bool
  shorts : Nat
  missing : Nat
  pattern : Nat
  checkDue : List (LampRange × Nat)
  retried : List LampRange
  triedH : Nat
  triedL : Nat
  search : Option Search
  thermal : Bool
  waitDiag : Bool
  len : Bool
  lenSince : Nat
  lenRose : Nat
  lref : Nat
  lrefHeld : Option (Nat × Nat)
  litCclk : Nat
  emitCclk : List Nat
  wantH : Nat
  wantL : Nat
  wear : Bool
  wearDone : Bool
  derated : Bool
  lostPulse : Bool
  dacLost : Bool
  front : FrontCal
  verdict : Option Nat
  deriving DecidableEq, Repr

/-- A laser channel after reset. -/
def LaserCh.reset : LaserCh :=
  { rearm := false, diagNow := false, diagPassed := true, diagOn := false, diagRise := 0, diagDone := false, diagTaken := false, shorts := 0, missing := 0, pattern := 0,
    checkDue := [], retried := [], triedH := 0, triedL := 0, search := none, thermal := false, waitDiag := false, len := false, lenSince := 0, lenRose := 0,
    lref := 0, lrefHeld := none, litCclk := 0, emitCclk := [], wantH := 0, wantL := 0, wear := false, wearDone := false, derated := false,
    lostPulse := false, dacLost := false, front := ⟨0, 0, 0, 0, 0⟩, verdict := none }

/-- A lamp frame on the line or waiting for its LATCH (R194): its range, each channel's pattern, when it ends, and that a wear
rotation keeps its LATCH for a dump window (R210). -/
structure LampLoad where
  range : LampRange
  pats : List (Nat × Nat)
  endAt : Nat
  dumpOnly : Bool
  deriving DecidableEq, Repr

/-- The light of one output beside its registers: the exact DIMEFF (R185), the fade, the channels, the lamp boards, the load under
way, the load latched last with the patterns of before it and the instant of its LATCH (R178, R194), when the last frame on the lamp line ends (R190), the changes due
in each range (R194), RANGE and its coming changes, each with its instant (R137, R138), a lost RANGE command that holds every LEN low (R178), since when INTLK is
high, thermistor samples of the last second and their validity (R187, R189), the chop accumulator (R184), the bank that becomes
LIT at the next G for each primary (R200, R201), with the first frame that it may light in and whether it is a failover (R201),
the brightness and ceiling fixed at the last G of each primary (R223), the primary of the segment, when the ceiling was last
raised (R188) and the last wear rotation (R210), darkening (R20), light off by policy (R201), that the coming A-plane is held dark
(R113), that the A-window runs, and that the next LATCH is lost (R178), and that a loss of the front-end clock keeps every LEN low
until the next G (R362). -/
structure Light where
  dimNum : Nat
  dimDen : Nat
  fade : Option Fade
  chans : Vector LaserCh 6
  boards : List LampBoard
  load : Option LampLoad
  latched : Option (LampLoad × List (Nat × Nat))
  latchAt : Nat
  lampEnd : Nat
  pendHigh : Bool
  pendLow : Bool
  rangeHigh : Bool
  rangePend : List (Nat × Bool)
  rangeLost : Bool
  intlkSince : Option Nat
  tsen : Vector (List Int) 4
  tsenBad : Vector Bool 4
  chopAcc : Nat
  nextLit : Vector (Option Nat) 3
  litFrom : Vector Nat 3
  failover : Vector Bool 3
  segDim : Vector Nat 3
  segCeil : Vector Nat 3
  segPrim : Nat
  ceilAt : Nat
  wearAt : Nat
  darkened : Bool
  policyOff : Bool
  hold : Bool
  awin : Bool
  latchLost : Bool
  gated : Bool
  deriving DecidableEq, Repr

/-- The light after reset: nothing lit, the interlock tripped (LSR_INTLK.TRIPPED resets to 1). -/
def Light.reset : Light :=
  { dimNum := 0, dimDen := 1, fade := none, chans := Vector.replicate 6 LaserCh.reset, boards := [], load := none, latched := none, latchAt := 0, lampEnd := 0,
    pendHigh := false, pendLow := false, rangeHigh := true, rangePend := [], rangeLost := false, intlkSince := none,
    tsen := Vector.replicate 4 [], tsenBad := Vector.replicate 4 false, chopAcc := 0,
    nextLit := Vector.replicate 3 none, litFrom := Vector.replicate 3 0, failover := Vector.replicate 3 false, segDim := Vector.replicate 3 0, segCeil := Vector.replicate 3 0xFFFF,
    segPrim := 0, ceilAt := 0, wearAt := 0, darkened := false, policyOff := false, hold := false, awin := false, latchLost := false, gated := false }

/-- A Heliostat slot beside its registers: the law's history (R212), whether it has sampled since its enable landed
(R229), the last accepted trigger, the output waiting for its phase (R214), whether a trigger was dropped since the last
accepted one (R215), the cascade's counter and last delivery, the forced delivery and j (R223, R224), the saturation
count and stop (R228), lost PD words (R219), whether its source is invalid, the load of INIT due at a G (R225), its
output at held entry (R232), when HEL_OUT was last written and what it held before (R100), and the
instant from which its periodic grid counts (R213). -/
structure HelSlot where
  hist : HelHist
  sampled : Bool
  lastTrig : Option Nat
  due : Option (Nat × Int)
  dropped : Bool
  cascCount : Nat
  request : Option Int
  forced : Bool
  j : Nat
  satCount : Nat
  stopped : Bool
  lost : Nat
  invalid : Bool
  loadAt : Option Nat
  heldOut : Int
  outAt : Nat
  outPrev : Int
  gridAt : Nat
  deriving DecidableEq, Repr

/-- A slot after reset. -/
def HelSlot.reset : HelSlot :=
  { hist := ⟨0, 0, 0, 0, 0⟩, sampled := false, lastTrig := none, due := none, dropped := false, cascCount := 0,
    request := none, forced := false, j := 6, satCount := 0, stopped := false, lost := 0, invalid := false,
    loadAt := none, heldOut := 0, outAt := 0, outPrev := 0, gridAt := 0 }

/-- A SEG or AST strobe on its way to the slots (R224): when it reaches them, its j, and the primary whose scale a SEG takes, with its DIMEFF and
ceiling (R223). -/
structure CascadeStep where
  at' : Nat
  j : Nat
  scale : Option (Nat × Nat × Nat)
  deriving DecidableEq, Repr

/-- The Heliostat engine of one cluster beside its registers: the slots, the normalised colour results and invalid runs
per primary (R231), the primaries whose transactions have started or wait their turn, when the one in progress has transferred its bytes, when each
primary's next one falls due (R230), the light fraction of the primary's last segment and of its transaction (R231), the latest duty written to each
cooling output and when its period began (R233), the latest two instants at which each TSRC strobe reached the slots (R213), the SEG and AST strobes that have not reached them
(R224), and the brightness and ceiling by which each primary's cascade deliveries are scaled (R223). -/
structure Helio where
  slots : Vector HelSlot 16
  csMeas : Vector (Option Nat) 3
  csRun : Vector Nat 3
  csBusy : List Nat
  csReadyAt : Nat
  csDue : Vector (Option Nat) 3
  csFrac : Vector Nat 3
  csTxnFrac : Vector Nat 3
  csDegr : Bool
  pwmNext : Vector Nat 2
  pwmAt : Vector (Option Nat) 2
  strobes : Vector (List Nat) 12
  coming : List CascadeStep
  scaleDim : Vector Nat 3
  scaleCeil : Vector Nat 3
  deriving DecidableEq, Repr

/-- The engine after reset. -/
def Helio.reset : Helio :=
  { slots := Vector.replicate 16 HelSlot.reset, csMeas := Vector.replicate 3 none, csRun := Vector.replicate 3 0,
    csBusy := [], csReadyAt := 0, csDue := Vector.replicate 3 none, csFrac := Vector.replicate 3 0, csTxnFrac := Vector.replicate 3 0,
    csDegr := false, pwmNext := Vector.replicate 2 0xFFFF, pwmAt := Vector.replicate 2 none,
    strobes := Vector.replicate 12 [], coming := [], scaleDim := Vector.replicate 3 0, scaleCeil := Vector.replicate 3 0xFFFF }

end Sys2Proof.Machine
end

