-- ==== Sys2Proof/Machine/PictureState.lean ====
section
/-! DEFINITION. The picture path's state beside its registers: leases and layers (R64 to R90), DisplayPort receivers
(R71 to R78), table pages (R95, R96, R102), frames in flight with their tile flags (R248), and the tile table (R237). -/

namespace Sys2Proof.Machine

/-- A lease: the first and last byte, the ADDR it was installed with, the first frame and the last frame that read it
(R82, R84). -/
structure Lease where
  first : Nat
  last : Nat
  addr : Nat
  lastRead : Nat
  deriving DecidableEq, Repr

/-- A whole-layer reaffirmation that waits for its meridian: the reaffirmation time and the arrival (R243). -/
structure PendingReaffirm where
  time : Nat
  arrived : Nat
  deriving DecidableEq, Repr

/-- What a layer fetcher holds beside its registers. `stamp` is the production stamp in force and `stampPrev` that of the
frame before; `img` is the layer's fetched content in the frame of the last meridian and `imgPrev` that of the frame before
(R88); `kept` lists the tiles that keep older content, each with that content's stamp, and `keptPrev` those of the frame
before; `dpTaken` is the serial of the DisplayPort frame taken last, `dpPrev` that of the frame before, `dpCounted` the serial up to which
frames never taken are in DROP (R77, R88), and `lock` the input and buffer its read window locks (R78). -/
structure LayerSt where
  lease : Option Lease
  window : Bool
  stamp : Option Nat
  stampPrev : Option Nat
  reaff : Nat
  pendReaff : List PendingReaffirm
  dpTaken : Option Nat
  dpPrev : Option Nat
  dpCounted : Nat
  lock : Option (Nat × Nat)
  img : Option Plane2d
  imgPrev : Option Plane2d
  kept : List (Nat × Nat)
  keptPrev : List (Nat × Nat)
  deriving DecidableEq, Repr

/-- A layer fetcher after reset. -/
def LayerSt.reset : LayerSt :=
  { lease := none, window := false, stamp := none, stampPrev := none, reaff := 0, pendReaff := [], dpTaken := none,
    dpPrev := none, dpCounted := 0, lock := none, img := none, imgPrev := none, kept := [], keptPrev := [] }

/-- A complete DisplayPort frame: its serial number, its stamp (R74), the CCLK of its completion, its size and buffer. -/
structure DpFrame where
  serial : Nat
  stamp : Nat
  done : Nat
  w : Nat
  h : Nat
  buf : Nat
  deriving DecidableEq, Repr

/-- What a DisplayPort receiver holds beside its registers: whether the ephemeris routes it (R72), where its DPIN
partition starts and how far apart its three buffers lie there (R71), its complete frames, newest first, the serial of the next, the wall time of the previous
completion, the EDID, and the stamps and instants of the latest frames that its fallback buffers took, newest first (R288). -/
structure DpInput where
  routed : Bool
  base : Nat
  slot : Nat
  frames : List DpFrame
  serial : Nat
  lastDone : Nat
  edid : List Nat
  fbFrames : List (Nat × Nat)
  deriving DecidableEq, Repr

/-- A receiver after reset. -/
def DpInput.reset : DpInput := ⟨false, 0, 0, [], 0, 0, [], []⟩

/-- A table word that fails parity until it is written again (R102). -/
structure BadWord where
  table : TableId
  page : Nat
  index : Nat
  deriving DecidableEq, Repr

/-- The flags of a frame's tiles before it closes (R248), by tile number in the output. -/
structure TileFlags where
  torn : List Nat
  rfail : List Nat
  rcmp : List Nat
  deriving DecidableEq, Repr

/-- The tiles that a unit's faults flagged and that have not closed without a flag since, with the latest frame they were flagged in (R16,
R248). -/
structure Blame where
  unit : UType
  inst : Nat
  frame : Nat
  tiles : List Nat
  deriving DecidableEq, Repr

/-- The kind of a frame in its digest record (R258). -/
inductive FrameKind | composed | fallback | held | dark
  deriving DecidableEq, Repr

/-- The KIND byte of a digest record (R258). -/
def FrameKind.code : FrameKind → Nat
  | .composed => 0
  | .fallback => 1
  | .held => 2
  | .dark => 3

/-- A frame between its meridian and its close: its number, the wall time and CCLK of its meridian, its kind, the
schedule kind and schedule it uses (R120), the schedule page, the marked and stale tiles and the CRCs (R251, R257), the
flags raised so far, and the facts its digest record carries (R258); `dark` says that its meridian fell while the output was
darkened or that it is never shown (R259), and `badBands` the bands that fallback
extraction sends all off until the frame ends (R289). `cleared` says that no T-only condition
held at its meridian (R122), `dim` is the DIMEFF of its light (R183), and `placeBase` where its
cache places begin (R161). -/
structure FrameRec where
  num : Nat
  mtime : Nat
  mclk : Nat
  kind : FrameKind
  skind : Nat
  sched : Schedule
  page : Nat
  marked : List Nat
  stale : List Nat
  crcs : List Nat
  flags : TileFlags
  forced : Bool
  lightoff : Bool
  asupp : Bool
  dark : Bool
  cleared : Bool
  dim : Nat
  badBands : List Nat
  placeBase : Nat
  deriving DecidableEq, Repr

/-- A tile reaffirmation: its layer and its time in 10.24 µs units (R244). -/
structure TileReaffirm where
  layer : Nat
  stamp : Nat
  deriving DecidableEq, Repr

/-- A tile entry (R237) with the tile's reaffirmation and its CRCs of the last composed frames, newest first. `bad` says
that the stored word fails parity (R262). -/
structure Tile where
  stamp : Nat
  age : Nat
  layer : Nat
  bg : Bool
  persist : Nat
  torn : Bool
  rfail : Bool
  rcmp : Bool
  mark : Bool
  stale : Bool
  held : Bool
  chg : Bool
  reaff : Option TileReaffirm
  crcs : List Nat
  bad : Bool
  deriving DecidableEq, Repr

/-- A tile entry before any meridian. -/
def Tile.reset : Tile := ⟨0, 0, 0, true, 0, false, false, false, false, false, false, false, none, [], false⟩

/-- A tile entry as its 64-bit word (R237). -/
def Tile.word (t : Tile) : Nat :=
  (t.stamp / 256) % 2 ^ 32 + min t.age 0xFFFF * 2 ^ 32 + t.layer % 8 * 2 ^ 48 + b2n t.bg * 2 ^ 51
    + t.persist % 32 * 2 ^ 52 + b2n t.torn * 2 ^ 57 + b2n t.rfail * 2 ^ 58 + b2n t.rcmp * 2 ^ 59 + b2n t.mark * 2 ^ 60
    + b2n t.stale * 2 ^ 61 + b2n t.held * 2 ^ 62 + b2n t.chg * 2 ^ 63

/-- A mesh load under way: its page, its source address and the entries it copies (R95). -/
structure MeshLoad where
  page : Nat
  src : Nat
  count : Nat
  deriving DecidableEq, Repr

/-- A tile list between its write and the meridian that applies it (R244, R255): the layer, the time, the COUNT, the HBM
address, and once read, the tile indices and when the last was read. -/
structure TileList where
  layer : Nat
  time : Nat
  count : Nat
  addr : Nat
  tiles : Option (List Nat)
  readAt : Nat
  deriving DecidableEq, Repr

/-- What the chronograph knows of held picture (R149 to R153): frame m of the entry, its meridian's wall time, the
deadline D, the wake cause and its instant once one has come, the fresh frame, and DIMEFF of the latest replayed frames, newest first (R183, R185). -/
structure HeldState where
  entry : Nat
  mtime : Nat
  deadline : Option Nat
  wake : Option (Nat × Nat)
  fresh : Option Nat
  dims : List (Nat × Nat)
  deriving DecidableEq, Repr

/-- A held interval that has ended, with the frame of the first fresh meridian and the record of the frame that was replayed (R259). -/
structure HeldEnd where
  held : HeldState
  upto : Nat
  frame : Option FrameRec
  deriving DecidableEq, Repr

/-- The picture path of one cluster. `comp` is the composed picture of the last composed frame, `composed` its stage-5
output and `composedPrev` that of the frame before; `composedAt` is the CCLK of its meridian; `heldFlags` are flags that arose
in replay (R255); `heldDue` is a held interval that has ended and whose record is still to come (R259, R260); `blame` holds what the units' faults have
flagged (R16) and `wordsHit` the bad table words that the frame of the last meridian has used so far (R102); `digest` is the latest D (R260); `closedCrcs` are the tile CRCs of the last closed frame (R257); `replay` is the record of the frame that held picture replays (R150). -/
structure Picture where
  layers : Vector LayerSt 8
  retires : List (Nat × Nat)
  retireLost : Bool
  meshBad : Vector Bool 2
  meshClamps : Vector Nat 2
  meshLoad : Option MeshLoad
  badWords : List BadWord
  schedFail : Vector (Option (Nat × Nat)) 2
  schedBusy : Option Nat
  comp : List Px
  composed : List Px
  composedPrev : List Px
  composedNum : Nat
  composedPrevNum : Nat
  composedAt : Nat
  frames : List FrameRec
  tiles : List Tile
  lists : List TileList
  noContentStart : Bool
  genesis : Bool
  heldFlags : TileFlags
  digest : List Nat
  engineOff : Bool
  m3 : Bool
  replay : Option FrameRec
  closedCrcs : List Nat
  heldDue : Option HeldEnd
  blame : List Blame
  wordsHit : List BadWord
  deriving DecidableEq, Repr

/-- The picture path after reset. -/
def Picture.reset : Picture :=
  { layers := Vector.replicate 8 LayerSt.reset, retires := [], retireLost := false, meshBad := Vector.replicate 2 false,
    meshClamps := Vector.replicate 2 0, meshLoad := none, badWords := [],
    schedFail := Vector.replicate 2 (some (0xFF, 0xFFFF)), schedBusy := none, comp := [], composed := [],
    composedPrev := [], composedNum := 0, composedPrevNum := 0, composedAt := 0, frames := [], tiles := [],
    lists := [], noContentStart := false, genesis := true, heldFlags := ⟨[], [], []⟩,
    digest := List.replicate 32 0, engineOff := false, m3 := false, replay := none, closedCrcs := [],
    heldDue := none, blame := [], wordsHit := [] }

/-- A T-only condition that arose (R122): when, with which causes as PLN_STATE.TCAUSE, the last frame that was generated by then, and that it still
holds. -/
structure AsuppRun where
  since : Nat
  causes : Nat
  upto : Nat
  on : Bool
  deriving DecidableEq, Repr

/-- The chronograph of one cluster beside its registers: whether it runs (R144), the CCLK of the last meridian, of the
last F and of the last G, the predicted CCLK of the next meridian (R133), the instant REQ was set, the frame at which the pending
commit was first due, whether it was set inside a guard, whether the pending commit has waited, a coherent GO and its earliest
meridian (R408), the adj and lock history (R147, R148), the instant of the last loss of a lock (R148), the T-only conditions whose frames
may still be shown (R122), that kind 1 has been entered and not left (R122), that reduced rate has been announced and not ended (R124), the instant at which a class U event stopped the chronograph (R38), and
held picture. -/
structure Chrono where
  running : Bool
  lastM : Nat
  lastF : Nat
  lastG : Nat
  nextM : Nat
  seg : Nat
  reqAt : Nat
  reqFrame : Option Nat
  late : Bool
  waited : Bool
  coherentGo : Option Nat
  adj : Int
  inWindow : Nat
  outWindow : Nat
  meridians : Nat
  lostAt : Option Nat
  asupps : List AsuppRun
  tonly : Bool
  reduced : Bool
  faultAt : Option Nat
  held : Option HeldState
  deriving DecidableEq, Repr

/-- The chronograph after reset. -/
def Chrono.reset : Chrono :=
  { running := false, lastM := 0, lastF := 0, lastG := 0, nextM := 0, seg := 0, reqAt := 0, reqFrame := none, late := false, waited := false,
    coherentGo := none, adj := 0, inWindow := 0, outWindow := 0, meridians := 0,
    lostAt := none, asupps := [], tonly := false, reduced := false, faultAt := none, held := none }

end Sys2Proof.Machine
end

