-- ==== Sys2Proof/Machine/SystemState.lean ====
section
/-! DEFINITION. The state beside the registers of the module-wide units: error queue and Logbook (R327 to R336), Almanac
(R314 to R326). -/

namespace Sys2Proof.Machine

/-- A report in the error queue or the X register (R329, R330): wall time, code, source path without ADDR, DATA, COUNT,
the flags TRIGGER, SUMMARY and LOCAL, and the unit that reported. -/
structure Report where
  time : Nat
  code : Nat
  path : Nat
  data : List Nat
  count : Nat
  trigger : Bool
  summary : Bool
  loc : Bool
  deriving DecidableEq, Repr

/-- A Logbook record (R327). -/
structure LogRec where
  time : Nat
  code : Nat
  flags : Nat
  path : Nat
  data : List Nat
  seq : Nat
  deriving DecidableEq, Repr

/-- The 32 bytes of a Logbook record (R327). -/
def LogRec.bytes (r : LogRec) : List Nat :=
  leBytes 8 r.time ++ leBytes 2 r.code ++ leBytes 2 r.flags ++ leBytes 4 r.path
    ++ (r.data ++ List.replicate (12 - r.data.length) 0).take 12 ++ leBytes 4 r.seq

/-- A field of a record's bytes: n bytes from an offset, little-endian. -/
def LogRec.part (b : List Nat) (o n : Nat) : Nat := ofLe ((b.drop o).take n)

/-- The record that 32 bytes spell (R327). -/
def LogRec.ofBytes (b : List Nat) : LogRec :=
  { time := part b 0 8, code := part b 8 2, flags := part b 10 2, path := part b 12 4, data := (b.drop 16).take 12, seq := part b 28 4 }

/-- The records of a slot after a save of `new` over `old` was interrupted with n bytes written (R321): bytes before hold the new contents, those after
it the old ones. A slot holds 4,096 records (R314). -/
def mixSlot (new old : List LogRec) (n : Nat) : List LogRec :=
  let none' : LogRec := ⟨0, 0, 0, 0, [], 0⟩
  (List.range 4096).map fun i =>
    let a := new.getD i none'
    let b := old.getD i none'
    if 32 * i + 32 ≤ n then a else if n ≤ 32 * i then b else LogRec.ofBytes (a.bytes.take (n - 32 * i) ++ b.bytes.drop (n - 32 * i))

/-- A LOGSAVE entry (R334), and whether the slot's contents match it. -/
structure SaveEntry where
  saveSeq : Nat
  firstSeq : Nat
  time : Nat
  crc : Nat
  cause : Nat
  keep : Bool
  valid : Bool
  deriving DecidableEq, Repr

/-- The 24 bytes of a LOGSAVE entry (R334). -/
def SaveEntry.bytes (e : SaveEntry) : List Nat :=
  leBytes 4 e.saveSeq ++ leBytes 4 e.firstSeq ++ leBytes 8 e.time ++ leBytes 4 e.crc ++ [e.cause % 256, b2n e.keep, 0, 0]

/-- An empty LOGSAVE entry. -/
def SaveEntry.none : SaveEntry := ⟨0, 0, 0, 0, 0, false, false⟩

/-- The error queue and the Logbook beside their registers: the ring, newest record first; the queue and the X register,
oldest first; class U reports that wait in their units (R330); lost reports not yet summarised (R331); lifetime counts
by UTYPE × 5 + class − 1 (R323); the freeze under way as its cause, the records still accepted, the instant it falls due
and the wall time of its trigger, and whether a record of a trigger has been written since it began (R333, R335); the highest cause waiting while a save runs (R335); the save under way as cause,
slot and trigger time; the saved slots, oldest record first, with their LOGSAVE entries (R334); and the triggers whose pre-trigger flush has
still to start, as cause and wall time (R350). -/
structure Logbook where
  ring : List LogRec
  queue : List Report
  xreg : List Report
  upend : List Report
  lostA : Nat
  lostD : Nat
  lostM : Nat
  life : List (Nat × Nat)
  freeze : Option (Nat × Nat × Nat × Nat)
  trigSeen : Bool
  pendCause : Option (Nat × Nat)
  saving : Option (Nat × Nat × Nat)
  slots : Vector (List LogRec) 2
  saves : Vector SaveEntry 2
  triggers : List (Nat × Nat)
  deriving DecidableEq, Repr

/-- The Logbook after reset: nothing recorded, no valid save. -/
def Logbook.reset : Logbook :=
  { ring := [], queue := [], xreg := [], upend := [], lostA := 0, lostD := 0, lostM := 0, life := [], freeze := none, trigSeen := false,
    pendCause := none, saving := none, slots := Vector.replicate 2 [], saves := Vector.replicate 2 SaveEntry.none, triggers := [] }

/-- The Almanac's partitions (R314). -/
inductive AlmPart | system | counters | slot0 | slot1 | tags | security | archive | raw
  deriving DecidableEq, Repr

/-- The first address of a partition, and the one after its last (R314); pages are of 256 bytes. -/
def AlmPart.range : AlmPart → Nat × Nat
  | .system => (0x000000, 0x080000)
  | .counters => (0x080000, 0x090000)
  | .slot0 => (0x090000, 0x0B0000)
  | .slot1 => (0x0B0000, 0x0D0000)
  | .tags => (0x0D0000, 0x0D4000)
  | .security => (0x0D4000, 0x0D5000)
  | .archive => (0x0D5000, 0x0E5000)
  | .raw => (0x0E5000, 0x200000)

/-- The size of a partition (R314). -/
def AlmPart.size (p : AlmPart) : Nat := p.range.2 - p.range.1

/-- A partition holds every byte of a range of the Almanac. -/
def AlmPart.holds (p : AlmPart) (addr len : Nat) : Bool := p.range.1 ≤ addr && addr + len ≤ p.range.2

/-- The partition of an object (R314, R316); at which of its pages each copy stands the manual does not say, and nothing that reads the Almanac can tell
(log entry 139). -/
def almPart (oid : Nat) : AlmPart :=
  if oid < 0x0100 then .system else if oid < 0x0200 then .tags else if oid < 0x0300 then .security
  else if oid < 0x0400 then .counters else .archive

/-- A dual-copy object (R316): its OID, the payload length of the objects table, and the bytes copies A and B read. -/
structure AlmObj where
  oid : Nat
  len : Nat
  a : List Nat
  b : List Nat
  deriving DecidableEq, Repr

/-- A store that waits for the Almanac bus (R317). -/
structure AlmStore where
  oid : Nat
  payload : List Nat
  deriving DecidableEq, Repr

/-- The Almanac beside its registers: objects, waiting stores, oldest first (R317), and the values in force of the
objects (R318), by OID. The raw user area is a memory of State. -/
structure Almanac where
  objs : List AlmObj
  stores : List AlmStore
  vals : List (Nat × List Nat)
  deriving DecidableEq, Repr

/-- The object identifiers and payload lengths of the objects table (R316) and of the archive checkpoint objects. -/
def almTable : List (Nat × Nat) :=
  (List.range 6).map (fun i => (0x0001 + i, 1160)) ++ (List.range 4).map (fun c => (0x0010 + c, 72))
    ++ (List.range 4).map (fun c => (0x0018 + c, 96)) ++ (List.range 4).map (fun c => (0x0020 + c, 24)) ++ [(0x0028, 48)]
    ++ (List.range 4).map (fun c => (0x0100 + c, 64)) ++ (List.range 2).map (fun r => (0x0104 + r, 64))
    ++ (List.range 2).map (fun d => (0x0106 + d, 32)) ++ [(0x0108, 256), (0x0109, 256), (0x0200, 4)]
    ++ (List.range 3).map (fun i => (0x0201 + i, 49)) ++ [(0x0300, 8), (0x0301, 7663)]

/-- The Almanac after reset: no copy has been written. -/
def Almanac.reset : Almanac := { objs := [], stores := [], vals := [] }

end Sys2Proof.Machine
end

