-- ==== Sys2Proof/Machine/State.lean ====
section
/-! DEFINITION. The state of the block as plain data, the reasons a step can stop, and the state after reset. -/

namespace Sys2Proof.Machine

/-- One register value that differs from its field's reset value: the field, the instance and the value. -/
structure RegCell where
  fld : Fld
  inst : Nat
  val : Nat
  deriving DecidableEq, Repr

/-- A write in a cluster's shadow set (R12): the field, the instance, the value, the instant it arrived (R141), and whether the loader
placed it for a live swap (R468). -/
structure ShadowEntry where
  fld : Fld
  inst : Nat
  val : Nat
  at' : Nat
  swap : Bool
  deriving DecidableEq, Repr

/-- What the ephemeris in force says of an output's size, rate and array, as the data path uses it (R51, R108, R154, R169). -/
structure OutCfg where
  present : Bool
  w : Nat
  h : Nat
  period : Nat
  bands : Nat
  settle : Nat
  cache : Nat
  replay : Bool
  cmdlat : Nat
  model : Nat
  boards : List LampBoard
  deriving DecidableEq, Repr

/-- An output that no ephemeris describes. -/
def OutCfg.reset : OutCfg :=
  { present := false, w := 0, h := 0, period := 0, bands := 0, settle := 0, cache := 0, replay := false, cmdlat := 0,
    model := 0, boards := [] }

/-- The state. `pending` is the queue of commands; `now` counts CCLK since reset; `completion` and `out` are what the last
command returned to the bus and drove; `fresh` numbers the free values taken so far (the model's own field); `regs` is the
register file, `shadow` every cluster's shadow set, newest first (R12); `rdLatch` and `wrHold` hold the latched and the
held half of wide values by address (R10); `heldLive` the Live writes to blocks whose domain is off (R451); `insts` the
units the ephemeris instantiates among channels, slots and receivers (R449); `stopped` the cluster units that a class U event stopped until a commit
(R16); `retries` the bulk retries of the last millisecond at each die-to-die unit (R26); `hbm`, `plate` and `raw` are HBM, the plate
store and the Almanac's raw user area by byte address. -/
structure State where
  pending : List Instr
  now : Nat
  completion : Completion
  out : List Output
  fresh : Nat
  regs : List RegCell
  shadow : List ShadowEntry
  rdLatch : List (Nat × Nat)
  wrHold : List (Nat × Nat)
  heldLive : List RegCell
  insts : List (UType × Nat)
  dev : Device
  hbm : List Host.Cell
  plate : List Host.Cell
  raw : List Host.Cell
  cfg : Vector OutCfg 4
  pic : Vector Picture 4
  chr : Vector Chrono 4
  tri : Vector Trioc 4
  light : Vector Light 4
  hel : Vector Helio 4
  dp : Vector DpInput 4
  mem : MemSys
  trn : Training
  eph : Loader
  alm : Almanac
  log : Logbook
  arc : Archive
  pwr : Power
  host : HostIf
  chn : Chain
  par : Pair
  obs : Observer
  heldPermit : Vector Bool 4
  stopped : List (UType × Nat)
  retries : Vector (List Nat) 2
  deriving DecidableEq, Repr

/-- Why the block stops with a fault. -/
inductive Fault
  /-- An access to an address that the manual says does not exist: past the 34-bit HBM address space (R264), past the 128 MiB
  plate store (R292) or past the 64 MiB of BAR0 (R438). Raised by the bus accesses. Safe: the hardware's address bits cannot
  name such an address at all. -/
  | noSuchAddress (addr : Nat)
  deriving DecidableEq, Repr

/-- Why the block refuses a command. -/
inductive Refusal
  /-- A command without a meaning in the model. Raised by the dispatch alone. Safe: nothing is claimed of it. -/
  | notModelled (mnemonic : String)
  deriving DecidableEq, Repr

/-- The state right after reset: every register at its reset value, memories with nothing listed, every buffer empty. -/
def State.reset : State :=
  { pending := [], now := 0, completion := ⟨.ok, []⟩, out := [], fresh := 0, regs := [], shadow := [], rdLatch := [],
    wrHold := [], heldLive := [], insts := [], dev := Device.s4, hbm := [], plate := [], raw := [],
    cfg := Vector.replicate 4 OutCfg.reset, pic := Vector.replicate 4 Picture.reset,
    chr := Vector.replicate 4 Chrono.reset, tri := Vector.replicate 4 Trioc.reset,
    light := Vector.replicate 4 Light.reset, hel := Vector.replicate 4 Helio.reset,
    dp := Vector.replicate 4 DpInput.reset, mem := MemSys.reset, trn := Training.reset, eph := Loader.reset,
    alm := Almanac.reset, log := Logbook.reset, arc := Archive.reset, pwr := Power.reset, host := HostIf.reset,
    chn := Chain.reset, par := Pair.reset, obs := Observer.reset, heldPermit := Vector.replicate 4 false, stopped := [], retries := Vector.replicate 2 [] }

end Sys2Proof.Machine
end

