-- ==== Sys2Proof/Machine/Ops.lean ====
section
/-! DEFINITION. The shared operations over memory, registers, time, units, the error queue and the BAR0 bus. -/

namespace Sys2Proof.Machine

/-! ### Memory -/

/-- The byte at an address; an unlisted address reads 0 (log entry on unwritten memory). -/
def cellGet : List Host.Cell → Nat → Byte
  | [], _ => 0
  | c :: cs, a => if c.1 == a then c.2 else cellGet cs a

/-- Write one byte: the list stays sorted by address and lists no zero. -/
def cellSet : List Host.Cell → Nat → Byte → List Host.Cell
  | [], a, b => if b == 0 then [] else [(a, b)]
  | c :: cs, a, b =>
    if a < c.1 then (if b == 0 then c :: cs else (a, b) :: c :: cs)
    else if a == c.1 then (if b == 0 then cs else (a, b) :: cs)
    else c :: cellSet cs a b

/-- The canonical form: addresses strictly rising and no entry equal to what an unlisted address reads as. -/
def Memory.wf : List Host.Cell → Bool
  | [] => true
  | [c] => c.2 != 0
  | c :: d :: cs => c.2 != 0 && decide (c.1 < d.1) && Memory.wf (d :: cs)

/-- Write bytes from an address upward. -/
def cellStore (m : List Host.Cell) : Nat → List Nat → List Host.Cell
  | _, [] => m
  | a, b :: bs => cellSet (cellStore m (a + 1) bs) a (BitVec.ofNat 8 b)

/-- Read n bytes from an address upward. -/
def cellLoad (m : List Host.Cell) (a n : Nat) : List Nat := (List.range n).map fun i => (cellGet m (a + i)).toNat

/-- The n-byte little-endian value at an address. -/
def cellWord (m : List Host.Cell) (a n : Nat) : Nat := ofLe (cellLoad m a n)

/-- The HBM address space ends here (R264). -/
def hbmEnd : Nat := 2 ^ 34
/-- The plate store ends here (R292). -/
def plateEnd : Nat := 2 ^ 27
/-- BAR0 ends here (R438). -/
def bar0End : Nat := 2 ^ 26

/-! ### Registers -/

/-- The listed value of an instance of a field, if it differs from its reset value. -/
def regFind : List RegCell → Fld → Nat → Option Nat
  | [], _, _ => none
  | c :: cs, f, i => if c.fld = f ∧ c.inst = i then some c.val else regFind cs f i

/-- The file without an instance of a field. -/
def regErase (l : List RegCell) (f : Fld) (i : Nat) : List RegCell := l.filter fun c => !(c.fld = f ∧ c.inst = i)

/-- Insert a cell in the order of field code and instance. -/
def regInsert : List RegCell → RegCell → List RegCell
  | [], x => [x]
  | c :: cs, x =>
    if x.fld.code < c.fld.code ∨ (x.fld.code = c.fld.code ∧ x.inst < c.inst) then x :: c :: cs else c :: regInsert cs x

/-- The value a field holds at reset (R442): a constant, the matrix's diagonal, the identity look-up table (R469), the
default latency target (R271), and 0 for values that come from the ephemeris, the Almanac or calibration later. -/
def resetOf (f : Fld) (i : Nat) : Nat :=
  match f.info.rst with
  | .const n => n
  | .mtxDiag => if i % 9 % 4 == 0 then 0x10000 else 0
  | .lut => min (64 * (i % 1025)) 65535
  | .qos => ([20, 200, 80, 100, 500, 10000, 1000, 0] : List Nat).getD (i % 8) 0
  | _ => 0

namespace State

/-- The value of an instance of a register field (for a Meridian field, the value in force). -/
def rd (s : State) (f : Fld) (i : Nat) : Nat := (regFind s.regs f i).getD (resetOf f i)

/-- Set an instance of a register field to a value, held to the field's width. -/
def wr (s : State) (f : Fld) (i v : Nat) : State :=
  let w := v % 2 ^ f.info.width
  let l := regErase s.regs f i
  { s with regs := if w = resetOf f i then l else regInsert l ⟨f, i, w⟩ }

/-- A one-bit field as a Boolean. -/
def on (s : State) (f : Fld) (i : Nat) : Bool := s.rd f i == 1

/-- Set a one-bit field. -/
def wrb (s : State) (f : Fld) (i : Nat) (b : Bool) : State := s.wr f i (b2n b)

/-- Increase a counter by n; it saturates at the field's width. -/
def bumpBy (s : State) (f : Fld) (i n : Nat) : State := s.wr f i (satN f.info.width (s.rd f i + n))

/-- Increment a counter; it saturates at the field's width. -/
def bump (s : State) (f : Fld) (i : Nat) : State := s.bumpBy f i 1

/-- A field read as a signed number of its width. -/
def rdI (s : State) (f : Fld) (i : Nat) : Int := signed f.info.width (s.rd f i)

/-- Set a field to a signed number, held to the field's width by saturation. -/
def wrI (s : State) (f : Fld) (i : Nat) (v : Int) : State := s.wr f i (unsigned f.info.width (satI f.info.width v))

/-- Set several fields. -/
def wrs (s : State) (l : List Setting) : State := l.foldl (fun s x => s.wr x.fld x.inst x.val) s

/-! ### Parts of the state by cluster -/

/-- Change the picture path of a cluster. -/
def modPic (s : State) (c : Fin 4) (f : Picture → Picture) : State := { s with pic := s.pic.set c (f s.pic[c]) }
/-- Change the chronograph of a cluster. -/
def modChr (s : State) (c : Fin 4) (f : Chrono → Chrono) : State := { s with chr := s.chr.set c (f s.chr[c]) }
/-- Change the Trioc link of a cluster. -/
def modTri (s : State) (c : Fin 4) (f : Trioc → Trioc) : State := { s with tri := s.tri.set c (f s.tri[c]) }
/-- Change the light of a cluster. -/
def modLight (s : State) (c : Fin 4) (f : Light → Light) : State := { s with light := s.light.set c (f s.light[c]) }
/-- Change the Heliostat engine of a cluster. -/
def modHel (s : State) (c : Fin 4) (f : Helio → Helio) : State := { s with hel := s.hel.set c (f s.hel[c]) }
/-- Change a DisplayPort receiver. -/
def modDp (s : State) (i : Fin 4) (f : DpInput → DpInput) : State := { s with dp := s.dp.set i (f s.dp[i]) }
/-- Change a region of the memory system. -/
def modRegion (s : State) (r : Fin 2) (f : Region → Region) : State :=
  { s with mem := { s.mem with regions := s.mem.regions.set r (f s.mem.regions[r]) } }
/-- Change a layer fetcher. -/
def modLayer (s : State) (c : Fin 4) (l : Fin 8) (f : LayerSt → LayerSt) : State :=
  s.modPic c fun p => { p with layers := p.layers.set l (f p.layers[l]) }
/-- Change a laser channel. -/
def modChan (s : State) (c : Fin 4) (k : Fin 6) (f : LaserCh → LaserCh) : State :=
  s.modLight c fun p => { p with chans := p.chans.set k (f p.chans[k]) }
/-- Change a Heliostat slot. -/
def modSlot (s : State) (c : Fin 4) (i : Fin 16) (f : HelSlot → HelSlot) : State :=
  s.modHel c fun p => { p with slots := p.slots.set i (f p.slots[i]) }

/-- What a command drives or sends, in order. -/
def emit (s : State) (o : Output) : State := { s with out := s.out ++ [o] }

/-- The next free value, of up to w bits, and the state with it taken. -/
def freeBits (s : State) (w : Nat) : Nat × State :=
  ((Config.freeValue s.fresh).toNat % 2 ^ w, { s with fresh := s.fresh + 1 })

/-! ### Time -/

/-- A command reaches the block at instant t: time never runs back, and the last command's outputs are gone. -/
def advance (s : State) (t : Nat) : State := { s with now := max s.now t, out := [] }

/-- Wall time in 1/512 tick (R8, R399): 8 per CCLK, the module's offset, and as much of the pending error as a rate of
100 ppm has removed. -/
def wall512 (s : State) : Int :=
  let gone : Int := (s.now - s.chn.trimAt) * 8 / 10000
  (s.now * 8 : Nat) + s.chn.wallOff + clampI (-gone) gone s.chn.trim

/-- Wall time in ticks; before the module has it, ticks since the start condition (R328). -/
def wall (s : State) : Nat :=
  if s.on (.chn .wtStatValid) 0 then (s.wall512 / 512).toNat else (s.now - s.pwr.startAt) / 64

end State

/-- CCLK in a microsecond. -/
def usCclk (n : Nat) : Nat := 1600 * n
/-- CCLK in a millisecond. -/
def msCclk (n : Nat) : Nat := 1600000 * n

/-! ### Units -/

/-- Unit types owned by a cluster (R34, R35). -/
def UType.inCluster : UType → Bool
  | .comp | .layer | .geo | .geoCol | .pln | .chr | .lane | .lamp | .intlk | .tsen | .lsrCh | .cs | .pwm | .slot
  | .cluster => true
  | _ => false

/-- How many units of a type each owner has. -/
def UType.perOwner (u : UType) : Nat :=
  match u.statusPlace.2 with
  | [] => 1
  | _ :: ds => (ds.map Prod.fst).foldl (· * ·) 1

/-- The cluster that owns a unit. -/
def unitCluster (u : UType) (i : Nat) : Nat := if u.inCluster then i / u.perOwner else 0

/-- The die of a power domain (R357). -/
def domDie (d : Nat) : Nat := if d < 14 then 1 else 0

/-- DIE, REGION and INDEX of a unit's source path (R33 to R35). -/
def unitPlace (u : UType) (i : Nat) : Nat × Nat × Nat :=
  let c := unitCluster u i
  match u with
  | .lsrCh | .cs | .pwm | .tsen | .intlk | .lamp => (1, c / 2, i % u.perOwner)
  | .comp | .layer | .geo | .pln | .chr | .lane | .slot | .cluster => (0, c / 2, i % u.perOwner)
  | .geoCol => (0, c / 2, 0)
  | .region => (0, i, 0)
  | .hbm => (0, i, 0)
  | .pc | .bank => (0, i / 8, i)
  | .frsEng | .arc | .transit | .scrub => (0, 0, 0)
  | .die | .d2d | .trn => (i, 0, 0)
  | .dom => (domDie i, 0, i)
  | .pll => (if i < 5 then 0 else 1, 0, i)
  | .chn => (1, 0, 1)
  | .dpr | .port | .ls => (1, 0, i)
  | .pci | .nvme | .obs | .alm | .pkg | .par | .pwr | .eph | .log => (1, 0, 0)

/-- The source path of a unit without its ADDR field (R33). -/
def pathOf (u : UType) (i sub : Nat) : Nat :=
  let p := unitPlace u i
  p.1 * 2 ^ 25 + p.2.1 * 2 ^ 24 + (unitCluster u i % 4) * 2 ^ 22 + u.code * 2 ^ 16 + p.2.2 % 256 * 256 + sub % 256

/-- The power domain a unit stands in (R357). -/
def domOf (u : UType) (i : Nat) : Nat :=
  let c := unitCluster u i
  match u with
  | .comp | .layer => 26 + c
  | .geo | .geoCol => 30 + c
  | .pln => 34 + c
  | .chr | .slot => 38 + c
  | .lane => 42 + c
  | .lsrCh | .tsen | .intlk | .pwm => 9 + c
  | .lamp | .cs | .port | .chn | .par | .ls => 8
  | .hbm => 15 + i
  | .pc => 15 + i / 8
  | .bank => 18 + i / 2
  | .frsEng => 46
  | .arc => 47
  | .transit => 48
  | .scrub => 49
  | .trn => if i == 0 then 14 else 13
  | .d2d => if i == 0 then 14 else 13
  | .dpr => 4 + i
  | .pci => 2
  | .nvme => 3
  | .obs | .alm | .eph => 1
  | _ => 0

namespace State

/-- The full source path of a unit, with the module's chain address (R33, R396). -/
def srcPath (s : State) (u : UType) (i sub : Nat) : Nat :=
  pathOf u i sub + (s.rd (.chn .addrAddr) 0 - 1) % 64 * 2 ^ 26

/-- A cluster is not fused off (R3, GLB_FUSE). -/
def clusterOn (s : State) (c : Nat) : Bool := bit s.dev.clen c

/-- A power domain is on. -/
def domOn (s : State) (d : Nat) : Bool := bit (s.rd (.pwr .domOnOn) 0) d

/-- A region that issues no reads or writes: frozen, recovering or held in fallback (R282, R290). -/
def regionStopped (s : State) (r : Nat) : Bool :=
  let st := s.rd (.hbm .rgnStatState) r
  st == 1 || st == 2 || st == 4

/-- The module runs: start-up is complete and no resting state holds (R366). -/
def running (s : State) : Bool := s.rd (.pwr .stateState) 0 == 1

/-- ABSENT of a unit (R16, R448, R449). -/
def unitAbsent (s : State) (u : UType) (i : Nat) : Bool :=
  (u.inCluster && !s.clusterOn (unitCluster u i))
  || (s.eph.inForce.isSome
      && (((u == .lsrCh || u == .slot || u == .dpr) && !s.insts.contains (u, i))
          || (!([0, 1, 2, 8].contains (domOf u i)) && !bit (s.rd (.pwr .domPlanPlan) 0) (domOf u i))))

/-- EN of a unit: its enable field in force; a unit without one is enabled, and the composition, warp and colour units
follow the chronograph (R15, R16). -/
def unitEn (s : State) (u : UType) (i : Nat) : Bool :=
  !s.unitAbsent u i &&
  match u with
  | .layer => s.on (.pix .layerCfgEn) i
  | .chr => s.on (.chr .ctrlEn) i
  | .comp | .geo | .geoCol => s.on (.chr .ctrlEn) i
  | .pln => s.on (.pln .ctrlEn) i
  | .lane => s.on (.tri .ctrlEn) (unitCluster .lane i)
  | .lsrCh => s.on (.lsr .chCtrlEn) i
  | .slot => s.on (.hel .slotCtrlEn) i
  | .cs => s.on (.hel .csCfgEn) i
  | _ => true

/-- FATAL of a unit. -/
def unitFatal (s : State) (u : UType) (i : Nat) : Bool := s.on (.st u .fatal) i

/-- A unit stands stopped by a class U event: FATAL is set, or no commit has taken effect since it was cleared (R16, R18). -/
def halted (s : State) (u : UType) (i : Nat) : Bool := s.unitFatal u i || s.stopped.contains (u, i)

/-- RUN of a unit: powered, enabled and not stopped by a fault (R16). Units of a cluster run once start-up is complete. -/
def unitRun (s : State) (u : UType) (i : Nat) : Bool :=
  s.unitEn u i && !s.halted u i && s.domOn (domOf u i) && (!u.inCluster || s.rd (.pwr .stateStep) 0 == 9)

/-- A Heliostat slot runs feedforward-only: MODE is 1, or its channel has no ADC phase (R226, R310). -/
def feedforwardOnly (s : State) (i : Nat) : Bool :=
  s.rd (.hel .slotCtrlMode) i == 1
  || (s.rd (.hel .routeMtype) i == 1 && s.rd (.hel .routeMidx) i < 6 && s.on (.trn .adcNophase) (i / 16 * 6 + s.rd (.hel .routeMidx) i))

/-- DEGR of a unit (R16): what its own rules set, or a running slot in feedforward-only mode. -/
def unitDegr (s : State) (u : UType) (i : Nat) : Bool :=
  s.on (.st u .degr) i || (u == .slot && s.unitRun .slot i && s.feedforwardOnly i)

/-- The status word of a unit as it reads (R16, R448). -/
def statusWord (s : State) (u : UType) (i : Nat) : Nat :=
  if u.inCluster && !s.clusterOn (unitCluster u i) then 0x20 else
  b2n (s.unitEn u i) + 2 * b2n (s.unitRun u i) + 4 * s.rd (.st u .fatal) i + 8 * b2n (s.unitDegr u i)
    + 16 * s.rd (.st u .mark) i + 32 * b2n (s.unitAbsent u i) + 256 * s.rd (.st u .lastclass) i
    + 65536 * s.rd (.st u .errcnt) i

/-! ### Reports (R16, R18, R329 to R331, R470) -/

/-- Entries of the queue that are not class U (R330). -/
def sharedUsed (q : List Report) : Nat := (q.filter fun r => r.code / 4096 != 4).length

end State

/-- The DATA bytes of an event: each item at its width and place (R470). -/
def packItems : List (Nat × Nat) → List Nat → List Nat
  | [], acc => acc
  | (w, v) :: rest, acc =>
    let al := min w 4
    let pad := if al == 0 then 0 else (al - acc.length % al) % al
    packItems rest (acc ++ List.replicate pad 0 ++ leBytes w v)

/-- DATA of an event: at most 12 bytes, unused bytes 0 (R327, R470). -/
def packData (items : List (Nat × Nat)) : List Nat :=
  ((packItems items []) ++ List.replicate 12 0).take 12

/-- Add n to the count of a key in a list sorted by key; counts saturate at 32 bits. -/
def countUp (n : Nat) : List (Nat × Nat) → Nat → List (Nat × Nat)
  | [], k => [(k, n)]
  | x :: xs, k =>
    if x.1 == k then (k, satN 32 (x.2 + n)) :: xs else if k < x.1 then (k, n) :: x :: xs else x :: countUp n xs k

/-- The count of a key. -/
def countOf (l : List (Nat × Nat)) (k : Nat) : Nat := ((l.find? fun x => x.1 == k).map Prod.snd).getD 0

/-- Merge a report into a queued one of equal path and code (R329); none if there is none. -/
def coalesce (r : Report) : List Report → Option (List Report)
  | [] => none
  | q :: qs =>
    if q.path == r.path && q.code == r.code && !q.summary then
      some ({ q with count := min 255 (q.count + r.count), trigger := q.trigger || r.trigger } :: qs)
    else (coalesce r qs).map (q :: ·)

/-- Remove the youngest queued report of a class, other than a summary (R330); oldest first. -/
def dropYoungest (cls : Nat) (q : List Report) : Option (Report × List Report) :=
  match q.reverse.find? fun r => r.code / 4096 == cls && !r.summary with
  | none => none
  | some r =>
    let i := q.length - 1 - (q.reverse.findIdx fun x => x.code / 4096 == cls && !x.summary)
    some (r, q.eraseIdx i)

namespace State

/-- Change the Logbook. -/
def modLog (s : State) (f : Logbook → Logbook) : State := { s with log := f s.log }

/-- Reports of class A, D or M lost (R331): the lifetime counter and the pending count. -/
def lose (s : State) (cls n : Nat) : State :=
  match cls with
  | 1 => (s.bumpBy (.log .lostACount) 0 n).modLog fun l => { l with lostA := l.lostA + n }
  | 2 => (s.bumpBy (.log .lostDCount) 0 n).modLog fun l => { l with lostD := l.lostD + n }
  | 3 => (s.bumpBy (.log .lostMCount) 0 n).modLog fun l => { l with lostM := l.lostM + n }
  | _ => s

/-- The queue takes a new value; DEPTH follows and HIGH keeps the highest depth (LOG_QUEUE). -/
def setQueue (s : State) (q : List Report) : State :=
  let s := (s.modLog fun l => { l with queue := q }).wr (.log .queueDepth) 0 q.length
  if s.rd (.log .queueHigh) 0 < q.length then s.wr (.log .queueHigh) 0 q.length else s

/-- Place a summary record when a shared entry is free and reports have been lost (R331). -/
def placeSummary (s : State) : State :=
  if s.log.lostA + s.log.lostD + s.log.lostM = 0 || 240 ≤ sharedUsed s.log.queue || 256 ≤ s.log.queue.length then s else
  let r : Report :=
    { time := s.wall, code := 0x2B01, path := pathOf .log 0 0xFF,
      data := packData [(4, s.log.lostA), (4, s.log.lostD), (4, s.log.lostM)], count := 1, trigger := false,
      summary := true, loc := !s.on (.chn .wtStatValid) 0 }
  (s.setQueue (s.log.queue ++ [r])).modLog fun l => { l with lostA := 0, lostD := 0, lostM := 0 }

/-- A report enters the error queue or the X register (R329 to R331). -/
def enqueue (s : State) (r : Report) : State :=
  let cls := r.code / 4096
  if cls == 5 then
    s.modLog fun l =>
      if l.xreg.length < 4 then { l with xreg := l.xreg ++ [r] }
      else { l with xreg := l.xreg.dropLast ++ (l.xreg.getLast?.map fun x =>
        { x with count := min 255 (x.count + r.count), trigger := x.trigger || r.trigger }).toList }
  else match coalesce r s.log.queue with
  | some q => s.setQueue q
  | none =>
    if cls == 4 then
      if s.log.queue.length < 256 then s.setQueue (s.log.queue ++ [r])
      else match (dropYoungest 1 s.log.queue) <|> (dropYoungest 2 s.log.queue) <|> (dropYoungest 3 s.log.queue) with
      | some (v, q) => (s.lose (v.code / 4096) v.count).setQueue (q ++ [r])
      | none => s.modLog fun l => { l with upend := l.upend ++ [r] }
    else if sharedUsed s.log.queue < 240 && s.log.queue.length < 256 then s.setQueue (s.log.queue ++ [r])
    else s.lose cls r.count

/-- A Logbook freeze trigger of a cause (R333, R335): causes are 1 class X, 2 PFAIL, 3 chain, 4 host, and the lower wins. -/
def logTrigger (s : State) (cause : Nat) : State :=
  let s := s.modLog fun l => { l with triggers := l.triggers ++ [(cause, s.wall)] }
  if s.log.saving.isSome || s.on (.log .statFrozen) 0 then
    (s.modLog fun l => { l with pendCause := some (match l.pendCause with
      | some p => if p.1 ≤ cause then p else (cause, s.wall)
      | none => (cause, s.wall)) }).wr (.log .statPend) 0 1
  else match s.log.freeze with
  | some f => s.modLog fun l => { l with freeze := some (min f.1 cause, f.2) }
  | none => s.modLog fun l => { l with
      trigSeen := false
      freeze := some (cause, s.rd (.log .ctrlPost) 0, s.now + msCclk 10, s.wall) }

/-- A wake cause on a held output (R152): the first one is kept, with its instant. -/
def wakeHeld (s : State) (c : Fin 4) (cause : Nat) : State :=
  match s.chr[c].held with
  | some h =>
    if h.wake.isSome then s else
    (s.modChr c fun k => { k with held := some { h with wake := some (cause, s.now) } }).wr (.chr .heldWake) c cause
  | none => s

/-- SUB of a source path by its unit type (R35): band, emitter, board position or lane; 0xFF for the unit as a whole and for a type without
sub-units (R34). -/
def subOf (u : UType) (sub : Nat) : Nat :=
  let n := match u with
    | .pln => 64
    | .lsrCh => 32
    | .lamp => 16
    | .d2d => 0xFF
    | .transit | .pci => 8
    | .dpr | .nvme => 4
    | _ => 0
  if sub < n then sub else 0xFF

/-- The unit stands in a cluster that is fused off, whose path the module never emits (R34). -/
def fusedOff (s : State) (u : UType) (i : Nat) : Bool := u.inCluster && !s.clusterOn (unitCluster u i)

/-- A unit raises an event (R16 to R18): its status word, the lifetime count, the error queue; a class X event also
triggers a freeze and drives FAULT_OUT# (R372). `code` is the whole event code and `items` its DATA items (R470). -/
def reportSub (s : State) (u : UType) (i sub code : Nat) (items : List (Nat × Nat)) : State :=
  if s.fusedOff u i then s else
  let cls := code / 4096
  let r : Report :=
    { time := s.wall, code := code, path := pathOf u i (subOf u sub), data := packData items, count := 1,
      trigger := cls == 5, summary := false, loc := !s.on (.chn .wtStatValid) 0 || s.pwr.refLost }
  let s := (s.wr (.st u .lastclass) i cls).bump (.st u .errcnt) i
  let s := if cls == 4 && 6 ≤ u.code then
      let s := s.wr (.st u .fatal) i 1
      { s with stopped := if u.inCluster && !s.stopped.contains (u, i) then (u, i) :: s.stopped else s.stopped } else s
  let s := s.modLog fun l => { l with life := countUp 1 l.life (u.code * 5 + cls - 1) }
  let s := if cls == 4 then { s with pwr := { s.pwr with uEvents := satN 16 (s.pwr.uEvents + 1) } } else s
  let s := s.enqueue r
  let s := if u.inCluster && 2 ≤ cls then s.wakeHeld (Fin.ofNat 4 (unitCluster u i)) 6 else s
  if cls == 5 then
    (({ s with pwr := { s.pwr with xEvents := satN 16 (s.pwr.xEvents + 1), faultOut := true } }).emit
      (.faultOut true)).logTrigger 1
  else s

/-- A unit as a whole raises an event. -/
def report (s : State) (u : UType) (i code : Nat) (items : List (Nat × Nat)) : State := s.reportSub u i 0xFF code items

/-! ### Apply errors (R444, R445) -/

/-- Record an apply error: the first is kept, the last is replaced, the count saturates (R444). -/
def applyErr (s : State) (addr cause src : Nat) : State :=
  let s := if s.on (.glb .applyErrValid) 0 then s else
    ((((s.wr (.glb .applyErrAddr) 0 addr).wr (.glb .applyErrCause) 0 cause).wr (.glb .applyErrSrc) 0 src).wr
      (.glb .applyErrValid) 0 1)
  let s := ((s.wr (.glb .applyErrLastAddr) 0 addr).wr (.glb .applyErrLastCause) 0 cause).wr (.glb .applyErrLastSrc) 0 src
  let s := if s.rd (.glb .applyErrCntCount) 0 == 0xFFFF then s.wr (.glb .applyErrCntOvf) 0 1 else s
  s.bump (.glb .applyErrCntCount) 0

end State

/-! ### The BAR0 bus -/

/-- The cluster that a BAR0 address names, in a cluster range or in a per-cluster register of a global block (R439,
R448). -/
def addrCluster (a : Nat) : Option Nat :=
  if 0x1000000 ≤ a ∧ a < 0x2000000 then some ((a - 0x1000000) / 0x400000)
  else if 0x40 ≤ a ∧ a < 0x50 then some ((a - 0x40) / 4)
  else if 0x10050 ≤ a ∧ a < 0x10060 then some ((a - 0x10050) / 4)
  else if 0x3002000 ≤ a ∧ a < 0x3002400 then some ((a - 0x3002000) / 0x100)
  else if 0x2010040 ≤ a ∧ a < 0x2010080 then some ((a - 0x2010040) / 0x20)
  else if 0x2410040 ≤ a ∧ a < 0x2410080 then some (2 + (a - 0x2410040) / 0x20)
  else none

/-- A window of read-only words that is not a register of a table: the Logbook ring (R328), and the tile and CRC windows
of R237 and R257. -/
def roWindow (a : Nat) : Bool :=
  (0x50000 ≤ a && a < 0x70000)
  || (0x1000000 ≤ a && a < 0x2000000 && 0x240000 ≤ a % 0x400000 && a % 0x400000 < 0x300000)

/-- The bits of a register word that belong to a field: its shift within the word, the part of the value it carries and
that part's width. -/
def wordSlice (x : FieldInfo) (wd : Nat) : Nat × Nat × Nat :=
  let lo := max x.lo (32 * wd)
  let hi := min (x.lo + x.width) (32 * wd + 32)
  (lo - 32 * wd, lo - x.lo, hi - lo)

/-- An encoding that the manual reserves or treats as another when it is written, and that GLB_APPLY_ERR records with
CAUSE 2 (R67, R69, R70, R97, R146, R205, R212, R213, R217, R220, R226). -/
def reservedWrite (f : Fld) (v : Nat) : Bool :=
  match f with
  | .pix .layerCfgAlpha | .pix .layerCfgSrc | .chr .lockSrc | .lsr .policyPolicy | .hel .slotCtrlMode => v == 3
  | .pix .layerCfgFmt => 6 ≤ v
  | .geo .blendW0Left | .geo .blendW0Right | .geo .blendW1Top | .geo .blendW1Bottom => 1025 ≤ v
  | .hel .trigTsrc => 12 ≤ v
  | .hel .routeMtype => 5 ≤ v
  | .hel .routeD0type | .hel .routeD1type => 6 ≤ v
  | .hel .shift0Sff | .hel .shift0Sffl | .hel .shift0Sb0 | .hel .shift0Sb1 | .hel .shift0Sb2 | .hel .shift1Sa1
  | .hel .shift1Sa2 | .hel .shift1Ski => v == 63
  | _ => false

/-- What a written value becomes where the manual clamps it (PCI_EVR_CFG, OBS_WDOG, CHN_CC_CFG). -/
def clampWrite (f : Fld) (v : Nat) : Nat :=
  match f with
  | .pci .evrCfgLog2n => clampN 6 16 v
  | .obs .wdogTimeout => clampN 100 5000 v
  | .geo .meshDy => unsigned 16 (clampI (-16384) 16256 (signed 16 v))
  | _ => v

/-- The unit an enable field enables (R15, R449). -/
def enableOf (f : Fld) : Option UType :=
  match f with
  | .pix .layerCfgEn => some .layer
  | .chr .ctrlEn => some .chr
  | .pln .ctrlEn => some .pln
  | .lsr .chCtrlEn => some .lsrCh
  | .hel .slotCtrlEn => some .slot
  | .hel .csCfgEn => some .cs
  | _ => none

/-- A field of a training engine's registers (R297). -/
def engineField (f : Fld) : Bool :=
  match f with
  | .trn .engCtrlGo | .trn .engCtrlAbort | .trn .engCtrlTarget | .trn .engCtrlIdx | .trn .engCtrlCluster
  | .trn .engCtrlPattern | .trn .engRangeFirst | .trn .engRangeLast | .trn .engBurstLen | .trn .engBurstGap => true
  | _ => false

namespace State

/-- The unit that owns a Static field runs, so the field is locked (R11). -/
def staticLocked (s : State) (f : Fld) (i : Nat) : Bool :=
  match f with
  | .pci _ => s.on (.pci .evrCfgEn) 0
  | .obs _ => s.on (.obs .statusBusy) 0
  | .geo _ => s.unitRun .geoCol i
  | .pln _ => s.unitRun .pln i
  | .chr _ => s.unitRun .chr i
  | .tri _ => s.on (.tri .ctrlEn) i && s.rd (.pwr .stateStep) 0 == 9
  | .lsr _ => s.unitRun .lsrCh i
  | .hel g =>
    match g with
    | .csCfgDiv | .csCfgSpimode => s.unitRun .cs i
    | .csTxnDly | .csTxnCmdlen | .csTxnRdlen | .csTxnRdofs | .csCmdCmd => s.unitRun .cs (i / 3)
    | .pwmCfgFreq => s.unitRun .pwm (2 * i)
    | _ => s.unitRun .slot i
  | _ => false

/-- The shadow value of a field, if one is pending (R12). -/
def shadowFind (s : State) (f : Fld) (i : Nat) : Option Nat :=
  (s.shadow.find? fun e => e.fld = f ∧ e.inst = i).map (·.val)

/-- What a read of a field returns where the shadow counts: the shadow value of a Meridian field, else the value (R12). -/
def rdShadow (s : State) (f : Fld) (i : Nat) : Nat := (s.shadowFind f i).getD (s.rd f i)

/-- A write to a Meridian field enters the cluster's shadow set (R12). -/
def wrShadow (s : State) (f : Fld) (i v : Nat) : State :=
  { s with shadow := ⟨f, i, v % 2 ^ f.info.width, s.now, false⟩ :: s.shadow }

/-- The loader's write of a live swap to a Meridian field: it replaces what is pending there (R468). -/
def wrSwap (s : State) (f : Fld) (i v : Nat) : State :=
  { s with shadow := ⟨f, i, v % 2 ^ f.info.width, s.now, true⟩ :: s.shadow.filter fun e => !(e.fld = f ∧ e.inst = i) }

/-- A table word lies in the page in force (R95, R101, R120). The windows are indexed cluster first, page second. -/
def pageLocked (s : State) (f : Fld) (i : Nat) : Bool :=
  let hit := fun (n : Nat) (sel : Fld) => s.rd sel (i / n / 2) == i / n % 2
  match f with
  | .geo .meshDx | .geo .meshDy => hit 40960 (.geo .ctrlMeshPage)
  | .geo .ilutEntry | .geo .olutEntry => hit 3075 (.geo .ctrlLutPage)
  | .geo .blendGain => hit 256 (.geo .ctrlLutPage)
  | .geo .uniG => hit 9216 (.geo .ctrlUniPage)
  | .pln .schedWord => hit 3840 (.pln .ctrlSchedPage)
  | _ => false

/-- The table, page and word index of a window field, for its parity (R102). -/
def tableOf (f : Fld) (i : Nat) : Option (Nat × TableId × Nat × Nat) :=
  match f with
  | .geo .meshDx | .geo .meshDy => some (i / 81920, .mesh, i / 40960 % 2, i % 40960)
  | .geo .ilutEntry => some (i / 6150, .ilut, i / 3075 % 2, i % 3075)
  | .geo .olutEntry => some (i / 6150, .olut, i / 3075 % 2, i % 3075)
  | .geo .blendGain => some (i / 512, .blend, i / 256 % 2, i % 256)
  | .geo .uniG => some (i / 18432, .uni, i / 9216 % 2, i % 9216)
  | _ => none

/-- Store a Live value with what the manual ties to the store: parity is regenerated (R102), a clamped mesh DY is counted
(R94), a schedule page loses its VALID bit (R120). DESIGN CHOICE, log entry 116: a page that a failed load left incomplete stays so, however many of
its words are written, until a load completes (R96). -/
def storeLive (s : State) (f : Fld) (i v : Nat) : State :=
  let s1 := s.wr f i (clampWrite f v)
  let s2 := match tableOf f i with
    | some (c, tb, pg, ix) => s1.modPic (Fin.ofNat 4 c) fun p =>
        { p with badWords := p.badWords.filter fun b => !(b.table == tb && b.page == pg && b.index == ix) }
    | none => s1
  match f with
  | .geo .meshDy =>
    let c := Fin.ofNat 4 (i / 81920)
    let pg := i / 40960 % 2
    let s3 := s2.modPic c fun p =>
      { p with meshClamps := if clampWrite f v == v then p.meshClamps
                else p.meshClamps.set (Fin.ofNat 2 pg) (p.meshClamps[Fin.ofNat 2 pg] + 1) }
    s3.wr (.geo .meshStatClamped) c (satN 16 (s3.pic[c].meshClamps[Fin.ofNat 2 pg]))
  | .pln .schedWord =>
    let c := i / 7680
    let pg := i / 3840 % 2
    (s2.wr (if pg == 0 then .pln .schedChkValid0 else .pln .schedChkValid1) c 0).modPic (Fin.ofNat 4 c) fun p =>
      { p with schedFail := p.schedFail.set (Fin.ofNat 2 pg) (some (0xFF, 0xFFFF)) }
  | _ => s2

/-- The domain of a field's block that held picture switches off, if it is off in held picture now (R451). -/
def sleeping (s : State) (f : Fld) (i : Nat) : Bool :=
  let held := fun (c : Nat) => (s.chr.toList.getD c Chrono.reset).held.isSome
  let c := (addrCluster (f.addr i)).getD 0
  match f with
  | .pix _ => held c && !s.domOn (26 + c)
  | .geo _ => held c && !s.domOn (30 + c)
  | .pln _ => held c && !s.domOn (34 + c)
  | .frs _ => held c && !s.domOn 46
  | .arc _ => !s.domOn 47 && (List.range 4).any held
  | _ => false

/-- Write one field of an RW register (R11 to R13, R449), and why the write is recorded in GLB_APPLY_ERR (R445), 0 if it is not. A Static
field that keeps its value is neither refused nor recorded (R11). `pre` is the state before the write, which says whether the owning unit
runs (R11). -/
def writeField (s pre : State) (f : Fld) (i v : Nat) : State × Nat :=
  let x := f.info
  match enableOf f with
  | some u => if v == 1 && s.unitAbsent u i then (s, 7) else
      (match x.apply with | .meridian => s.wrShadow f i v | _ => s.storeLive f i v, 0)
  | none =>
    let cause := if reservedWrite f v then 2 else 0
    match x.apply with
    | .meridian => (s.wrShadow f i v, cause)
    | .static =>
      if clampWrite f v == s.rd f i then (s, 0)
      else if pre.staticLocked f i then (s, 1)
      else (s.wr f i (clampWrite f v), cause)
    | .live =>
      (if s.sleeping f i then { s with heldLive := ⟨f, i, v % 2 ^ f.info.width⟩ :: s.heldLive } else s.storeLive f i v, cause)

/-- A field written through one word of its register: the value it takes, none while only the low word of a wide value
has been written (R10). -/
def mergeWord (s : State) (f : Fld) (i wd data base : Nat) : Option Nat :=
  let x := f.info
  let sl := wordSlice x wd
  let part := bits data sl.1 sl.2.2
  if x.words ≤ 1 || x.lo + x.width ≤ 32 then some part
  else if wd == 0 then none
  else
    let held := ((s.wrHold.find? fun h => h.1 == base).map Prod.snd)
    let l := wordSlice x 0
    let low := match held with
      | some h => bits h l.1 l.2.2
      | none => bits (s.rdShadow f i) 0 l.2.2
    some (low + part * 2 ^ sl.2.1)

/-- A field whose write starts something beside its storing: a request of a set (R279), held picture's permission (R152), the event
ring's consumer (R381), the wall's sync source (R402), a reaffirmation (R245). -/
def actsOnWrite (f : Fld) : Bool :=
  match f with
  | .hbm .fcReqset | .hel .csRawData | .chr .heldAllow | .pci .evrConsCons | .chn .fsCfgSrc | .frs .reaffirmLayer => true
  | _ => false

/-- A writable field without an effect at an instance: the latency target of class 7 (R271). -/
def fixedField (f : Fld) (i : Nat) : Bool := match f with | .hbm .qosTarget => i % 8 == 7 | _ => false

/-- GLB_APPLY_ERR.VALID is cleared: the record, the last record and the count go (R444). -/
def applyErrClear (s : State) : State :=
  ([.glb .applyErrAddr, .glb .applyErrCause, .glb .applyErrSrc, .glb .applyErrValid, .glb .applyErrLastAddr, .glb .applyErrLastCause,
    .glb .applyErrLastSrc, .glb .applyErrCntCount, .glb .applyErrCntOvf] : List Fld).foldl (fun s f => s.wr f 0 0) s

/-- What an aligned write has done so far: the state, the triggers it pulls, and why it is recorded (R445), 0 if it is not. -/
structure WordWrite where
  s : State
  pulls : List (Fld × Nat)
  cause : Nat
  deriving DecidableEq, Repr

/-- A write is recorded once, whatever its fields. DESIGN CHOICE (log entry 103): with the lowest of their causes. -/
def joinCause (a b : Nat) : Nat := if a == 0 then b else if b == 0 then a else min a b

/-- The effect of the data on one field of the addressed word; a trigger that acts is added to the list (WO and W1S). A word of a table page
in force is refused whole, also the low word of a wide entry (R95, R101, R120). -/
def writeOne (pre : State) (a data : Nat) (acc : WordWrite) (x : Fld × Nat × Nat) : WordWrite :=
  let s := acc.s
  let f := x.1
  let i := x.2.1
  let part := bits data (wordSlice f.info x.2.2).1 (wordSlice f.info x.2.2).2.2
  let more := if actsOnWrite f then [(f, i)] else []
  let pull : WordWrite := if part == 1 then { acc with pulls := acc.pulls ++ [(f, i)] } else acc
  match f.info.acc with
  | .ro | .rc => acc
  | .w1c =>
    match f with
    | .glb .applyErrValid => if part == 1 then { acc with s := s.applyErrClear } else acc
    | _ => if part == 1 then { acc with s := s.wr f i 0 } else acc
  | .wo =>
    match f with
    | .frs _ => { acc with s := s.wr f i part, pulls := acc.pulls ++ more }
    | _ => pull
  | .w1s => pull
  | .rw =>
    if s.pageLocked f i then { acc with cause := joinCause acc.cause 3 } else
    match s.mergeWord f i x.2.2 data (a - 4 * x.2.2) with
    | some v =>
      if fixedField f i then acc else
      let r := s.writeField pre f i v
      { s := r.1, pulls := acc.pulls ++ more, cause := joinCause acc.cause r.2 }
    | none => acc

/-- An aligned 32-bit BAR0 write from a source (0 host, 1 firmware, 2 REGINIT or preset): every field of the word under
its access code and apply class; the answer names the triggers that the write pulls (R11 to R13, R440, R444 to R451). -/
def busWrite (s : State) (a data src : Nat) : State × List (Fld × Nat) :=
  match addrCluster a with
  | some c =>
    if !s.clusterOn c then (s.applyErr a 7 src, []) else go s
  | none => go s
where
  /-- The write to an address of a present cluster or of a global block. -/
  go (s : State) : State × List (Fld × Nat) :=
    match statusAt a with
    | some (u, i) =>
      (s, (if bit data 2 then [(Fld.st u .fatal, i)] else []) ++ (if bit data 7 then [(Fld.st u .errcnt, i)] else []))
    | none =>
      let fs := fieldsAt a
      if fs.isEmpty then (if roWindow a then (s, []) else (s.applyErr a 6 src, []))
      else if fs.any (fun x => engineField x.1) && src == 0 && !s.on (.trn .ctrlHost) 0 then (s.applyErr a 5 src, [])
      else
        let r := fs.foldl (writeOne s a data) ⟨s, [], 0⟩
        let pre := s
        let s := if r.cause == 0 then r.s else r.s.applyErr a r.cause src
        let wide := fs.any fun x => 1 < x.1.info.words && 32 < x.1.info.lo + x.1.info.width && !pre.pageLocked x.1 x.2.1
        let lowWord := fs.any fun x => x.2.2 == 0
        ({ s with wrHold :=
            if wide && lowWord then (a, data) :: s.wrHold.filter (fun h => h.1 != a)
            else if wide then s.wrHold.filter (fun h => h.1 != a - 4) else s.wrHold }, r.pulls)

end State

end Sys2Proof.Machine
end

