-- ==== Sys2Proof/Machine/ArcOps.lean ====
section
/-! DEFINITION. Shared operations of the plate archive: NVMe commands (R337), records and the staging buffer (R341, R351), digest
records (R346), and the ring's share of a flush (R350). -/

namespace Sys2Proof.Machine

/-- Bytes of the staging buffer (R351). -/
def stagingBytes : Nat := 4 * 2 ^ 20
/-- Bytes of the largest chunk written at once (R351). -/
def chunkBytes : Nat := 2 ^ 20
/-- Bytes of an extent (R340). -/
def extentBytes : Nat := 2 ^ 26

/-- The lengths of records together. -/
def recBytes (l : List ArcRec) : Nat := (l.map ArcRec.len).sum

/-- The records at the front that fit in so many bytes. -/
def takeChunk : Nat → List ArcRec → List ArcRec
  | _, [] => []
  | n, r :: rs => if r.len ≤ n then r :: takeChunk (n - r.len) rs else []

/-- A record fits in an extent of which so many bytes are used, and leaves no end too short for a PAD record (R341). -/
def fitsExtent (used len : Nat) : Bool := used + len == extentBytes || used + len + 32 ≤ extentBytes

/-- The newer valid superblock copy of a drive (R340). -/
def superOf (d : Drive) : Option Superblock :=
  match d.superA, d.superB with
  | some a, some b => if seqNewer b.sbseq a.sbseq then some b else some a
  | some a, none => some a
  | none, b => b

/-- One more record of a type. -/
def countType (l : List Nat) (t : Nat) : List Nat := (List.range 16).map fun i => l.getD i 0 + b2n (i == t)

namespace State

/-- Change the archive's state. -/
def modArc (s : State) (f : Archive → Archive) : State := { s with arc := f s.arc }

/-- Change the archive's state of an output. -/
def modOut (s : State) (c : Fin 4) (f : OutputArc → OutputArc) : State := s.modArc fun a => { a with outs := a.outs.set c (f a.outs[c]) }

/-- The archive records: STATE 3, with the encoder on. -/
def recording (s : State) : Bool := s.rd (.arc .stateState) 0 == 3 && !s.unitFatal .arc 0

/-- An NVMe command goes to the drive (R337): kind 0 read, 1 write, 2 Flush, 3 admin. `n` is how many bytes of staging it carries. -/
def sendNvme (s : State) (kind n : Nat) (data : List Nat) : State :=
  let cmd : NvmeCmd := { id := s.arc.nextCmd, kind := kind, tries := 0, wasReset := false, bytes := n, data := data }
  (s.modArc fun a => { a with cmds := a.cmds ++ [cmd], nextCmd := a.nextCmd + 1 }).emit (.nvme cmd.id kind data)

/-- The superblock is rewritten, its copies in turn (R340). -/
def writeSuper (s : State) (tail tailSeq : Nat) : State :=
  match s.arc.drive with
  | none => s
  | some d =>
    match superOf d with
    | none => s
    | some b =>
      let n : Superblock := { b with sbseq := (b.sbseq + 1) % 2 ^ 32, tail := tail, tailSeq := tailSeq }
      let d := if d.superA == some b then { d with superB := some n } else { d with superA := some n }
      ((s.modArc fun a => { a with drive := some d }).wr (.arc .tailTail) 0 tail).sendNvme 1 0 n.bytes

/-- The next extent is opened for a record (R341); the oldest is reclaimed first where the archive is full. -/
def openExtent (s : State) (r : ArcRec) : State :=
  match s.arc.drive with
  | none => s
  | some d =>
    let n := extentCount d.capacity
    let last := d.extents.getLast?
    let idx := match last with | some e => (e.index + 1) % max 1 n | none => 0
    let s := match d.extents with
      | o :: rest =>
        if o.index != idx then s else
        (s.modArc fun a => { a with drive := some { d with extents := rest } }).writeSuper ((idx + 1) % max 1 n)
          ((rest.head?.map fun (x : Extent) => x.extSeq).getD (o.extSeq + 1))
      | [] => s
    let e : Extent :=
      { index := idx, extSeq := ((last.map (·.extSeq)).getD 0) + 1, firstRseq := r.rseq, firstTime := r.time, pcycle := s.rd (.alm .pcyclesCount) 0,
        firstFrames := (List.range 4).map fun c => (((s.arc.outs.toList.getD c OutputArc.reset).latest.2).1), recs := [] }
    (s.modArc fun a => { a with drive := a.drive.map fun x => { x with extents := x.extents ++ [e] } }).wr (.arc .extHead) 0 idx

/-- A record takes its place on the drive (R341); the answer is the bytes written for it, the header of a new extent included. -/
def placeRec (s : State) (r : ArcRec) : List Nat × State :=
  let fresh := s.arc.opens.contains r.rseq || match s.arc.drive with | some d => d.extents.isEmpty | none => true
  let s := if fresh then (s.openExtent r).modArc fun a => { a with opens := a.opens.filter fun x => x != r.rseq } else s
  let head := match fresh, s.arc.drive.bind fun d => d.extents.getLast? with
    | true, some e => e.header s.arc.archiveId
    | _, _ => []
  let put := fun (l : List Extent) => match l.getLast? with
    | some e => l.dropLast ++ [{ e with recs := e.recs ++ [r] }]
    | none => []
  (head ++ r.bytes, s.modArc fun a => { a with drive := a.drive.map fun d => { d with extents := put d.extents } })

/-- The next chunk of the staging buffer is written, one write at a time (R351); with PD47 off the buffer is held (R347). -/
def issueWrite (s : State) : State :=
  if !s.recording || !s.domOn 47 || s.arc.staging.isEmpty || s.arc.cmds.any (fun x => x.kind == 1) then s else
  let l := takeChunk chunkBytes s.arc.staging
  let r := l.foldl (fun (x : List Nat × State) y => let p := x.2.placeRec y; (x.1 ++ p.1, p.2)) ([], s)
  r.2.sendNvme 1 (recBytes l) r.1

/-- A record goes into the staging buffer with the next RSEQ; a PAD record first fills an extent that it does not fit (R341). A record
that does not fit the buffer is discarded (R351). -/
def stageRec (s : State) (rtype rflags time src : Nat) (body : List Nat) : State :=
  if !s.recording then s else
  let r : ArcRec := { rtype := rtype, rflags := rflags, rseq := s.arc.nextRseq, time := time, src := src, body := body }
  if stagingBytes < recBytes s.arc.staging + r.len then
    ((s.modArc fun a => { a with overflowed := true, lifeDiscard := a.lifeDiscard + r.len }).bump (.arc .cntDiscard) 0).report .arc 0 0x2704 [(4, r.len)]
  else
    let used := s.arc.headUsed
    let s :=
      if fitsExtent used r.len then
        s.modArc fun a => { a with staging := a.staging ++ [r], nextRseq := a.nextRseq + 1, headUsed := used + r.len, recsByType := countType a.recsByType rtype }
      else
        let pad : ArcRec :=
          { rtype := 0x0F, rflags := 0, rseq := s.arc.nextRseq, time := time, src := s.srcPath .pkg 0 0xFF, body := List.replicate (extentBytes - used - 32) 0 }
        let pads := if used == extentBytes || used == 0 then [] else [pad]
        s.modArc fun a =>
          { a with
            staging := a.staging ++ pads ++ [{ r with rseq := a.nextRseq + pads.length }]
            nextRseq := a.nextRseq + pads.length + 1
            headUsed := 4096 + r.len
            opens := a.opens ++ [a.nextRseq + pads.length]
            recsByType := countType (if pads.isEmpty then a.recsByType else countType a.recsByType 0x0F) rtype }
    s.issueWrite

/-- A NOTE record (R341). -/
def stageNote (s : State) (kind : Nat) (data : List Nat) : State := s.stageRec 6 0 s.wall (s.srcPath .pkg 0 0xFF) (kind :: data)

/-- The digest records gathered for an output become one DIGEST record (R346); without a recording drive they are dropped (R339). -/
def gatherDigests (s : State) (c : Fin 4) : State :=
  let o := s.arc.outs[c]
  match o.digests with
  | [] => s
  | d :: _ =>
    let next := s.arc.nextRseq
    let s := s.stageRec 1 0 (ofLe ((d.drop 8).take 8)) (s.srcPath .cluster c 0xFF) o.digests.flatten
    s.modOut c fun o => { o with digests := [], marks := if s.arc.nextRseq == next then o.marks else o.marks ++ [(s.arc.nextRseq - 1, o.latest)] }

/-- The archive encoder receives a digest record with the chain digest after it (R261, R346). -/
def takeDigest (s : State) (c : Fin 4) (bytes d : List Nat) (frame mtime : Nat) : State :=
  let s := s.modOut c fun o => { o with digests := o.digests ++ [bytes], latest := (d, frame, mtime) }
  if 256 ≤ s.arc.outs[c].digests.length then s.gatherDigests c else s

/-- The region that holds the ring or its index is frozen, so that flushes carry no ring entries (R349). -/
def ringFrozen (s : State) : Bool :=
  ([0, 1] : List (Fin 2)).any fun r => (s.mem.regions[r].parts.any fun p => p.kind == 6 || p.kind == 7) && s.regionStopped r.val

/-- A ring entry that the flush under way still has to take, oldest first (R350). -/
def nextFlush (s : State) (f : ArcFlush) : Option RingEntry :=
  if s.ringFrozen then none else
  (s.arc.ring.reverse).find? fun e => !e.done && f.from' ≤ e.time && e.time ≤ f.upto

/-- The flush takes ring entries while the staging buffer holds less than a chunk, so that recording has priority (R350); an entry that
fails its detection code is lost. `fuel` bounds the entries taken. -/
def feedFlush : Nat → State → State
  | 0, s => s
  | fuel + 1, s =>
    match s.arc.flush with
    | none => s
    | some f =>
      if chunkBytes ≤ recBytes s.arc.staging || !s.recording then s else
      match s.nextFlush f with
      | none => s
      | some e =>
        let mark := fun (x : RingEntry) => if x.time == e.time && x.cluster == e.cluster then { x with done := true } else x
        let s := s.modArc fun a =>
          { a with
            ring := a.ring.map mark
            flush := some (if e.bad then { f with lost := f.lost + 1 } else { f with entries := f.entries + 1 }) }
        feedFlush fuel (if e.bad then s else s.stageRec e.sample.rtype e.sample.rflags e.sample.time e.sample.src e.sample.body)

/-- The flush takes what it can now. -/
def runFlush (s : State) : State := feedFlush (s.arc.ring.length + 1) s

/-- The ring is lost with its partitions (R291, R350): a flush under way counts what it had still to take as lost. -/
def loseRing (s : State) : State :=
  s.modArc fun a =>
    { a with
      ring := []
      flush := a.flush.map fun f =>
        { f with lost := f.lost + (a.ring.filter fun e => !e.done && f.from' ≤ e.time && e.time ≤ f.upto).length } }

/-- Ring sampling stops (R349): event 0x2705 and a NOTE of kind 6; cause 1 frozen, 2 detection error. -/
def ringStop (s : State) (cause : Nat) : State :=
  if !s.on (.arc .stateRingok) 0 then s else
  ((s.wr (.arc .stateRingok) 0 0).report .arc 0 0x2705 [(1, cause)]).stageNote 6 []

/-- A detection error on the archive's read of HBM (R270, R349): the ring entry that the flush reads next is lost, or an error in the index
stops ring sampling. -/
def ringError (s : State) (kind : Nat) : State :=
  if kind == 6 then s.ringStop 2
  else if kind != 7 then s
  else match s.arc.flush.bind s.nextFlush with
    | none => s
    | some e => s.modArc fun a =>
        { a with ring := a.ring.map fun x => if x.time == e.time && x.cluster == e.cluster then { x with bad := true } else x }

end State

end Sys2Proof.Machine
end

