-- ==== Sys2Proof/Machine/Leases.lean ====
section
/-! DEFINITION. Leases of host buffers (R82 to R84, R90): how a lease ends and is retired, with the static-layer cache (R294) and the vectors
(R380) that this touches. -/

namespace Sys2Proof.Machine

/-- Every cluster. -/
def allClusters : List (Fin 4) := [0, 1, 2, 3]
/-- Every channel of a cluster. -/
def allChans : List (Fin 6) := [0, 1, 2, 3, 4, 5]
/-- Every slot of a cluster. -/
def allSlots : List (Fin 16) := [0, 1, 2, 3, 4, 5, 6, 7, 8, 9, 10, 11, 12, 13, 14, 15]
/-- Every layer of a cluster. -/
def allLayers : List (Fin 8) := [0, 1, 2, 3, 4, 5, 6, 7]

/-- The region of a cluster. -/
def regionOf (c : Fin 4) : Fin 2 := Fin.ofNat 2 (c.val / 2)
/-- The flat instance of layer l of a cluster. -/
def layerInst (c : Fin 4) (l : Fin 8) : Nat := c.val * 8 + l.val
/-- Both regions. -/
def bothRegions : List (Fin 2) := [0, 1]

namespace State

/-- Do something for each cluster of a list. -/
def forClusters (s : State) (l : List (Fin 4)) (f : State → Fin 4 → State) : State := l.foldl f s

/-- Change the memory system. -/
def modMem (s : State) (f : MemSys → MemSys) : State := { s with mem := f s.mem }

/-- The register index of a cluster's fallback configuration. -/
def fbInst (c : Fin 4) : Nat := c.val / 2 * 2 + c.val % 2

/-- Width and height of the fallback rectangle. -/
def fbSize (s : State) (c : Fin 4) : Nat × Nat := (s.rd (.plt .fbWhW) (fbInst c), s.rd (.plt .fbWhH) (fbInst c))

/-- MSI-X vector n is signalled, or its Pending Bit set while it is masked; vectors of a fused-off cluster never are
(R380). -/
def signal (s : State) (n : Nat) : State :=
  if s.host.d3hot then s
  else if bit s.host.vecMask n then { s with host := { s.host with vecPend := putBit s.host.vecPend n true } }
  else s.emit (.vector n)

/-- A per-cluster vector under its enable (R380). -/
def signalCluster (s : State) (c : Fin 4) (base : Nat) (en : Fld) : State :=
  if s.clusterOn c && bit (s.rd en 0) c then s.signal (base + c) else s

/-- Where the plate copies and fallback buffers of a region lie in the plate store, as (start, end) (R103, R286, R292). -/
def plateSpans (s : State) (r : Fin 2) : List (Nat × Nat) :=
  (allClusters.filter fun c => regionOf c == r && s.cfg[c].present).flatMap fun (c : Fin 4) =>
    let p := r.val * 2 ^ 26 + s.rd (.geo .plateBaseBase) c * 64
    let b := r.val * 2 ^ 26 + s.rd (.plt .fbBaseBase) (fbInst c) * 64
    [(p, p + s.cfg[c].h * (s.rd (.geo .platePitchPitch) c * 64)), (b, b + (s.fbSize c).2 * (s.rd (.plt .fbPitchPitch) (fbInst c) * 64))]

/-- The 64 KiB blocks of a region's plate banks that hold no plate copy, fallback buffer, staging area or cached layer (R294), lowest first. -/
def freeBlocks (s : State) (r : Fin 2) : List Nat :=
  let spans := s.plateSpans r
  let taken := s.eph.stagedAt ++ s.mem.cache.flatMap (·.blocks)
  ((List.range 1024).map (· + 1024 * r.val)).filter fun b =>
    !taken.contains b && !spans.any fun x => x.1 < x.2 && x.1 < (b + 1) * 2 ^ 16 && b * 2 ^ 16 < x.2

/-- The space of a region's plate banks that nothing else uses, in 64 KiB units. -/
def cacheFree (s : State) (r : Fin 2) : Nat := (s.freeBlocks r).length

/-- PLT_CACHE shows the cache of a region. -/
def showCache (s : State) (r : Fin 2) : State :=
  (s.wr (.plt .cacheLayers) r (s.mem.cache.filter fun x => x.c / 2 == r.val).length).wr (.plt .cacheFree) r (s.cacheFree r)

/-- Copies that satisfy a test are dropped (R294). -/
def dropCopies (s : State) (f : CacheCopy → Bool) : State :=
  let gone := s.mem.cache.filter f
  if gone.isEmpty then s else
  let s := s.modMem fun m => { m with cache := m.cache.filter fun x => !f x }
  bothRegions.foldl (fun s (r : Fin 2) => (s.bumpBy (.plt .cacheDrops) r (gone.filter fun x => x.c / 2 == r.val).length).showCache r) s

/-- The staging area takes blocks for a patch of so many bytes (R294). DESIGN CHOICE (log entry 129): free ones first, the East region before the West, then
those of cached layers, whose copies are dropped. -/
def takeStaging (s : State) (length : Nat) : State :=
  let n := (length + 2 ^ 16 - 1) / 2 ^ 16
  let free := (s.freeBlocks 0 ++ s.freeBlocks 1).take n
  let s := if n ≤ free.length then s else s.dropCopies fun _ => true
  let got := if n ≤ free.length then free else (s.freeBlocks 0 ++ s.freeBlocks 1).take n
  let s := { s with eph := { s.eph with stagedAt := got } }
  bothRegions.foldl (fun s r => s.showCache r) (s.modMem fun m => { m with badPlate := m.badPlate.filter fun w => !got.contains (8 * w / 2 ^ 16) })

/-- Tile reaffirmations of a layer are dropped (R243). -/
def dropTileReaff (s : State) (c : Fin 4) (l : Nat) : State :=
  s.modPic c fun p => { p with tiles := p.tiles.map fun t => { t with reaff := t.reaff.filter fun r => r.layer != l } }

/-- A commit ends a layer's lease or gives it a new stamp (R243): every reaffirmation of the layer is discarded, those that wait for a meridian
among them. -/
def dropReaff (s : State) (c : Fin 4) (l : Fin 8) : State :=
  ((s.modLayer c l fun y => { y with reaff := 0, pendReaff := [] }).dropTileReaff c l).modPic c fun p =>
    { p with lists := p.lists.filter fun x => x.layer != l.val }

/-- Another layer holds a lease of the same range. -/
def sameRange (s : State) (le : Lease) : Bool :=
  allClusters.any fun c => allLayers.any fun l => match s.pic[c].layers[l].lease with
    | some x => x.first == le.first && x.last == le.last
    | none => false

/-- A retire is posted (R84): the queue of 16 entries, event 0x1201 and the retire vector. -/
def postRetire (s : State) (c : Fin 4) (l : Fin 8) (le : Lease) : State :=
  let s := s.modPic c fun p =>
    if p.retires.length < 16 then { p with retires := p.retires ++ [(l.val, le.lastRead)] } else { p with retireLost := true }
  (s.report .layer (layerInst c l) 0x1201 [(1, l.val), (4, le.addr / 4), (4, le.lastRead)]).signalCluster c 12 (.pci .vecEnRetire)

/-- Leases that have ended are retired (R84): those of one range together, once no layer holds that range any more, with the latest frame
that read the buffer; `ended` lists them all. DESIGN CHOICE (log entry 138): a lease that another of the same range replaces at once on its own layer
posts no retire either, since a lease of that range goes on. -/
def retireAll (s : State) (c : Fin 4) (ended : List (Fin 8 × Lease)) : List (Fin 8 × Lease) → State
  | [] => s
  | x :: rest =>
    let same := fun (e : Lease) => e.first == x.2.first && e.last == x.2.last
    if rest.any fun y => same y.2 then s.retireAll c ended rest else
    let le := { x.2 with lastRead := ((ended.filter fun y => same y.2).map fun y => y.2.lastRead).foldl max 0 }
    let keep := fun (e : Lease) => if same e then { e with lastRead := max e.lastRead le.lastRead } else e
    let s := if s.sameRange le then
        s.forClusters allClusters fun s d => s.modPic d fun p =>
          { p with layers := p.layers.map fun y => { y with lease := y.lease.map keep } }
      else s.postRetire c x.1 le
    s.retireAll c ended rest

/-- The leases of some layers of a cluster end, each replaced at once by the lease that the new values define (R83), and are retired
together (R84). -/
def endLeases (s : State) (c : Fin 4) (ls : List (Fin 8)) (new : Fin 8 → Option Lease) : State :=
  let ended := ls.filterMap fun l => s.pic[c].layers[l].lease.map fun e => (l, e)
  let s := ended.foldl (fun s x =>
    ((s.modLayer c x.1 fun y => { y with window := false }).dropReaff c x.1).dropCopies
      fun y => y.c == c.val && y.l == x.1.val) s
  let s := ls.foldl (fun s l => s.modLayer c l fun y => { y with lease := new l }) s
  s.retireAll c ended ended

end State

end Sys2Proof.Machine
end

