-- ==== Sys2Proof/Machine/Destinations.lean ====
section
/-! DEFINITION. What a Heliostat slot drives and what counts as open-loop (R217, R220, R221, R226, R227, R229), the T-only conditions
(R121, R122), the RANGE line (R137) and the strobes of the chronograph and the sensors (R139, R213), shared by the light and the slots. -/

namespace Sys2Proof.Machine

/-- The two channels of a primary. -/
def banksOf (p : Fin 3) : List (Fin 6) := [Fin.ofNat 6 (2 * p.val), Fin.ofNat 6 (2 * p.val + 1)]

/-- The primary of a channel. -/
def primOf (k : Fin 6) : Fin 3 := Fin.ofNat 3 (k.val / 2)

/-- Every primary. -/
def allPrims : List (Fin 3) := [0, 1, 2]

/-- The flat instance of channel k of a cluster. -/
def chanInst (c : Fin 4) (k : Fin 6) : Nat := c.val * 6 + k.val
/-- The flat instance of slot i of a cluster. -/
def slotInst (c : Fin 4) (i : Fin 16) : Nat := c.val * 16 + i.val

namespace State

/-- The role: 0 single, 1 prime, 2 second. -/
def role (s : State) : Nat := s.rd (.par .statRole) 0

/-- The module is prime or single, so that it drives the array and the light (R419). -/
def drives (s : State) : Bool := s.role == 0 || s.on (.par .statSelOwn) 0

/-- STATE of a channel: 0 ABSENT, 1 OFF, 2 STANDBY, 3 LIT, 4 SEARCH, 5 FAILED. -/
def chState (s : State) (c : Fin 4) (k : Fin 6) : Nat := s.rd (.lsr .chStateState) (chanInst c k)

/-! ### RANGE and strobes -/

/-- The RANGE line now: true is the high range (R137). -/
def rangeAt (s : State) (c : Fin 4) : Bool :=
  (((s.light[c].rangePend.filter fun x => x.1 ≤ s.now).getLast?).map Prod.snd).getD s.light[c].rangeHigh

/-- The chronograph sets RANGE at an instant to come (R137): changes that have come by now are taken into the line; the next valid command ends
the loss of one (R178). -/
def setRange (s : State) (c : Fin 4) (at' : Nat) (high : Bool) : State :=
  let base := s.rangeAt c
  (s.modLight c fun l =>
    { l with rangeHigh := base, rangePend := (l.rangePend.filter fun x => s.now < x.1) ++ [(at', high)], rangeLost := false }).emit
    (.rangeLine c (!high) at')

/-- A strobe is sent at an instant (R139, R213): one of the chronograph (0 to 4) reaches the slots 8 CCLK later, one of a sensor in its own
cycle. -/
def strobe (s : State) (c : Fin 4) (tsrc prim at' : Nat) : State :=
  let r := if tsrc ≤ 4 then at' + 8 else at'
  let i : Fin 12 := Fin.ofNat 12 tsrc
  (s.modHel c fun h => { h with strobes := h.strobes.set i ((r :: h.strobes[i]).take 2) }).emit (.strobe c tsrc prim at')

/-! ### Destinations -/

/-- The destinations of a slot: type and index (R220). -/
def slotDests (s : State) (j : Nat) : List (Nat × Nat) :=
  [(s.rd (.hel .routeD0type) j, s.rd (.hel .routeD0idx) j), (s.rd (.hel .routeD1type) j, s.rd (.hel .routeD1idx) j)]

/-- The channels whose LREF a slot drives. -/
def lrefsOf (s : State) (j : Nat) : List (Fin 6) :=
  ((s.slotDests j).filter fun d => d.1 == 1 && d.2 < 6).map fun d => Fin.ofNat 6 d.2

/-- The hold of LREF by a diagnostic pulse ends once its interval is over: the latest slot code takes effect (R221). -/
def releaseLref (s : State) (c : Fin 4) (k : Fin 6) : State :=
  match s.light[c].chans[k].lrefHeld with
  | some h =>
    if s.now < h.2 then s else
    let s := s.modChan c k fun x => { x with lrefHeld := none }
    if s.drives then s.emit (.lref c k s.light[c].chans[k].lref h.2) else s
  | none => s

/-- The front end takes an LREF code (R221), unless the code is lost on its isochronous lane (R178); while a diagnostic pulse holds LREF, the
latest slot code waits. -/
def takeLref (s : State) (c : Fin 4) (k : Fin 6) (code : Nat) : State :=
  let s := s.releaseLref c k
  let x := s.light[c].chans[k]
  if x.dacLost then s.modChan c k fun y => { y with dacLost := false } else
  let s := s.modChan c k fun y => { y with lref := code }
  let holds := match x.lrefHeld with | some h => decide (h.1 ≤ s.now) | none => false
  if s.drives && !holds then s.emit (.lref c k code s.now) else s

/-- An output reaches a destination (R220). Cascades are fetched by their targets, and matrix corrections at meridians. -/
def deliver (s : State) (c : Fin 4) (u : Int) (d : Nat × Nat) : State :=
  match d.1 with
  | 1 => if d.2 < 6 then s.takeLref c (Fin.ofNat 6 d.2) (helCode u) else s
  | 2 => if d.2 < 2 then s.modHel c fun h => { h with pwmNext := h.pwmNext.set (Fin.ofNat 2 d.2) (helCode u) } else s
  | _ => s

/-- A slot writes HEL_OUT and every destination (R212, R214); in held picture a type-5 output that strays from its entry value wakes
the output (R232). -/
def writeOut (s : State) (c : Fin 4) (i : Fin 16) (u : Int) : State :=
  let j := slotInst c i
  let was := s.rdI (.hel .outU) j
  let s := (s.wrI (.hel .outU) j u).modSlot c i fun x =>
    { x with due := none, outAt := s.now, outPrev := if x.outAt / 2 == s.now / 2 then x.outPrev else was }
  let s := (s.slotDests j).foldl (fun s d => s.deliver c u d) s
  let tol : Int := s.rd (.chr .heldTolTol) c * 2 ^ 15
  if (s.slotDests j).any (fun d => d.1 == 5) && s.chr[c].held.isSome && tol < |u - s.hel[c].slots[i].heldOut| then s.wakeHeld c 5 else s

/-- HEL_SAFE is written at once (R216, R228, R229). -/
def writeSafe (s : State) (c : Fin 4) (i : Fin 16) : State := s.writeOut c i (s.rdI (.hel .safeSafe) (slotInst c i))

/-! ### Open loop and T-only -/

/-- The slot's channel has no ADC phase (R310). -/
def noPhase (s : State) (c : Fin 4) (j : Nat) : Bool :=
  s.rd (.hel .routeMtype) j == 1 && s.rd (.hel .routeMidx) j < 6 && s.on (.trn .adcNophase) (chanInst c (Fin.ofNat 6 (s.rd (.hel .routeMidx) j)))

/-- MODE in force: 3 acts as 2 (R226), and a slot without an ADC phase acts as 1 (R310). -/
def slotMode (s : State) (c : Fin 4) (i : Fin 16) : Nat :=
  let j := slotInst c i
  if s.noPhase c j then 1 else min 2 (s.rd (.hel .slotCtrlMode) j)

/-- A slot counts as open-loop (R227). -/
def openLoop (s : State) (c : Fin 4) (i : Fin 16) : Bool :=
  let j := slotInst c i
  s.slotMode c i != 0 || s.hel[c].slots[i].stopped || s.halted .slot j || s.on (.hel .slotStatSafe) j

/-- The channel whose LREF a slot drives: of two, the one that is LIT, else the first (R220, R225, R228). -/
def lrefOf (s : State) (c : Fin 4) (j : Nat) : Option (Fin 6) :=
  let ks := s.lrefsOf j
  (ks.find? fun k => s.chState c k == 3) <|> ks.head?

/-- The enabled slot that drives LREF of a channel. -/
def slotOfLref (s : State) (c : Fin 4) (k : Fin 6) : Option (Fin 16) :=
  allSlots.find? fun i => s.unitEn .slot (slotInst c i) && (s.lrefsOf (slotInst c i)).contains k

/-- The T-only condition of an open-loop slot, or no slot, on a LIT channel (R121, R227). -/
def litOpenLoop (s : State) (c : Fin 4) : Bool :=
  allChans.any fun k => s.chState c k == 3 && match s.slotOfLref c k with | some i => s.openLoop c i | none => true

/-- The T-only conditions as PLN_STATE.TCAUSE, the fallback path apart (R121): open-loop slots, no ADC phase, FORCE_TONLY. -/
def tonlyCauses (s : State) (c : Fin 4) : Nat :=
  let unphased := allChans.any fun k => s.chState c k == 3 && s.on (.trn .adcNophase) (chanInst c k)
  b2n (s.litOpenLoop c) + 2 * b2n unphased + 4 * s.rd (.pln .ctrlForceTonly) c

/-- The condition for A-plane suppression is watched (R122): when a T-only condition arises, and that it has cleared. -/
def noteTonly (s : State) (c : Fin 4) : State :=
  let cause := s.tonlyCauses c
  let n := s.rd (.chr .frameFrame) c
  s.modChr c fun k =>
    { k with asupps :=
        if cause == 0 then k.asupps.map fun x => { x with on := false }
        else if k.asupps.any (·.on) then k.asupps
        else k.asupps ++ [{ since := s.now, causes := cause, upto := n, on := true }] }

/-- OPENLOOP follows its conditions (R227), and the T-only condition that hangs on it is watched (R122). -/
def showOpen (s : State) (c : Fin 4) (i : Fin 16) : State :=
  (s.wrb (.hel .slotStatOpenloop) (slotInst c i) (s.openLoop c i)).noteTonly c

/-- A slot stops on a class U event (R216, R229): HEL_SAFE at its destinations, nothing waiting to be written. -/
def stopSlot (s : State) (c : Fin 4) (i : Fin 16) : State := (s.writeSafe c i).showOpen c i

end State

end Sys2Proof.Machine
end

