-- ==== Sys2Proof/Machine/Contain.lean ====
section
/-! DEFINITION. Containment and escalation (R18 to R28, R36 to R39, R434, R435): darkening an output, stopping clusters,
switching domains off, and what a module-fatal event does. -/

namespace Sys2Proof.Machine

/-- How long a chopped LEN is high between two instants, with chop periods counted from f (R184), and the accumulator after it. -/
def chopHigh (minpw duty f from' to' acc : Nat) : Nat × Nat :=
  let i0 := (from' - f + 63) / 64
  let n := if to' ≤ f + 64 * i0 then 0 else (to' - (f + 64 * i0) + 63) / 64
  (List.range n).foldl (fun (x : Nat × Nat) j =>
    let r := chopStep minpw duty x.2
    (x.1 + min r.1 (to' - (f + 64 * (i0 + j))), r.2)) (0, acc)

namespace State

/-- The enabled clusters: not fused off, described by the ephemeris in force, and with their chronograph enabled. -/
def enabledClusters (s : State) : List (Fin 4) :=
  allClusters.filter fun c => s.clusterOn c && s.cfg[c].present && s.on (.chr .ctrlEn) c

/-- The number of a data lane or spare that works, lowest first (R154, R165). -/
def workingLanes (s : State) (c : Fin 4) : List Nat :=
  (List.range 17).filter fun i => bit (s.rd (.tri .stateWorking) c) i

/-- The array of a cluster is sent blocks and resets: its link is in data mode (R168, R175) and its output is not darkened. A DUMP
keeps the mirrors off until the next RESET (R165), so a darkened output (R20) sends none. DEDUCED (log entry 41). -/
def arrayFed (s : State) (c : Fin 4) : Bool :=
  let link := s.rd (.tri .stateLink) c
  !s.light[c].darkened && (link == 2 || link == 3 || link == 5)

/-- TRI_STATE.LINK now: the lanes that idled in held picture are back once they have sent TS1 for 20 µs after a wake (R165). -/
def linkNow (s : State) (c : Fin 4) : Nat :=
  let l := s.rd (.tri .stateLink) c
  match s.tri[c].resumeAt with
  | some r => if l == 3 && r ≤ s.now then (if s.role == 2 then 5 else 2) else l
  | none => l

/-- Send a command unit on every working data lane, in held picture on the lowest-numbered one (R165): CSEQ counts every command (R162). -/
def sendCommand (s : State) (c : Fin 4) (op : CmdOp) (first last place : Nat) (hold replay : Bool) (pid at' : Nat) :
    State :=
  let run := s.workingLanes c
  let lanes := if s.linkNow c == 3 then run.take 1 else run
  let cmd : TriocCmd :=
    { op := op, first := first, last := last, place := place, hold := hold, replay := replay, planeId := pid,
      cseq := s.tri[c].cseq, delay := cmdDelay (at' - s.rd (.tri .cmdAdvAdv) c) }
  let s := s.modTri c fun t => { t with cseq := (t.cseq + 1) % 65536 }
  if s.drives then s.emit (.command c lanes cmd cmd.unit at') else s

/-- DUMP: every staged command is dropped and all mirrors go off (R165). -/
def dumpNow (s : State) (c : Fin 4) : State := s.sendCommand c .dump 0 63 0xFF false false 0 s.now

/-- DUMP if the lanes still run (R20). -/
def sendDump (s : State) (c : Fin 4) : State := if (s.workingLanes c).isEmpty then s else s.dumpNow c

/-- Change a training engine. -/
def modEng (s : State) (e : Fin 6) (f : Engine → Engine) : State :=
  { s with trn := { s.trn with engines := s.trn.engines.set e (f s.trn.engines[e]) } }

/-- A latched precondition is violated (R304): every run in progress on such a target, index and cluster keeps the code. -/
def violate (s : State) (code : Nat) (hit : Nat → Nat → Nat → Bool) : State :=
  ([0, 1, 2, 3, 4, 5] : List (Fin 6)).foldl (fun s (e : Fin 6) =>
    let st := s.rd (.trn .engStatState) e
    if (st == 2 || st == 3) && hit (s.rd (.trn .engCtrlTarget) e) (s.rd (.trn .engCtrlIdx) e) (s.rd (.trn .engCtrlCluster) e) then
      s.modEng e fun g => { g with viol := g.viol <|> some code }
    else s) s

/-- A sweep of a helper that a row reports only as failed (R309): event 0x2A04 names the target; which bit was narrowest, and its width, the row does
not carry: free values (log entry 137). -/
def noTapEvent (s : State) (die key : Nat) : State :=
  let b := s.freeBits 7
  let w := b.2.freeBits 7
  w.2.report .trn die 0x2A04 [(4, key), (1, b.1), (1, w.1)]

/-- LEN of a channel has been high for so many CCLK (R209): the channel's hours and the counters of a pattern's emitters. -/
def addLit (s : State) (c : Fin 4) (k : Fin 6) (n pat : Nat) : State :=
  let i := chanInst c k
  let x := s.light[c].chans[k]
  let em := (List.range 32).map fun e => x.emitCclk.getD e 0 + (if bit pat e then n else 0)
  let s := s.wr (.lsr .hoursMs) i (s.rd (.lsr .hoursMs) i + (x.litCclk + n) / msCclk 1)
  let s := (em.zipIdx).foldl (fun s x =>
    if x.1 < msCclk 1000 then s else s.wr (.lsr .emitSec) (32 * i + x.2) (s.rd (.lsr .emitSec) (32 * i + x.2) + x.1 / msCclk 1000)) s
  s.modChan c k fun x => { x with litCclk := (x.litCclk + n) % msCclk 1, emitCclk := em.map fun v => v % msCclk 1000 }

/-- LEN of a channel has been high from an instant until another (R209), with the pattern in force; a chopped descriptor counts its pulses
alone. -/
def litUntil (s : State) (c : Fin 4) (k : Fin 6) (from' upto : Nat) : State :=
  let l := s.light[c]
  let dim := l.segDim[(Fin.ofNat 3 (k.val / 2))]
  let r := if 16384 ≤ dimD dim then (upto - from', l.chopAcc)
    else chopHigh (clampN 8 64 (s.rd (.lsr .chopMinpw) c)) (dimDuty dim) s.chr[c].lastF from' upto l.chopAcc
  (s.modLight c fun y => { y with chopAcc := r.2 }).addLit c k r.1 (s.rd (if s.rangeAt c then .lsr .patHPat else .lsr .patLPat) (chanInst c k))

/-- A LEN delay (R136). -/
def lenDly (s : State) (c : Fin 4) (k : Fin 6) : Int := s.rdI (.chr .lenDlyDly) (chanInst c k)

/-- Set LEN of a channel at an edge dly CCLK from now; a rise violates the precondition of the runs that need it low (R304, code 1). The gate takes back a
rise whose edge is still to come (R179). -/
def setLenAt (s : State) (c : Fin 4) (k : Fin 6) (v : Bool) (dly : Int) : State :=
  if s.light[c].chans[k].len == v then s else
  let s := if v then s.violate 1 fun t i q => (t == 3 || t == 4) && i == k.val && q == c.val else s
  let edge := ((s.now : Int) + dly).toNat
  let was := s.light[c].chans[k].lenSince
  let s := if v then s else s.litUntil c k was edge
  let s := s.modChan c k fun x => { x with len := v, lenSince := edge, lenRose := if v then edge else was }
  if !s.drives then s
  else if !v && edge ≤ was then s.emit (.lenCut c k s.now)
  else s.emit (.len c k v (dimDuty s.light[c].segDim[(Fin.ofNat 3 (k.val / 2))]) edge)

/-- Set LEN of a channel at once. -/
def setLen (s : State) (c : Fin 4) (k : Fin 6) (v : Bool) : State := s.setLenAt c k v 0

/-- The gate cuts a diagnostic pulse that has been placed and is not over (R179, R198): what had run of it counts as lit time, its windows are
judged no more, and LREF is held until 64 CCLK after the falling edge, not at all where LEN had not risen (R221). -/
def cutDiag (s : State) (c : Fin 4) (k : Fin 6) : State :=
  let x := s.light[c].chans[k]
  if !x.diagOn || x.diagRise + 1600 ≤ s.now then s else
  let s := s.addLit c k (s.now - x.diagRise) (s.rd (.lsr .patHPat) (chanInst c k))
  let upto := if s.now ≤ x.diagRise then s.now else s.now + 64
  let s := s.modChan c k fun y => { y with diagOn := false, lrefHeld := y.lrefHeld.map fun h => (h.1, upto) }
  if s.drives then s.emit (.lenCut c k s.now) else s

/-- Every content LEN of a cluster is forced low through the gate, which a LIGHTOFF of CAUSE 1 or 3 keeps open for diagnostic pulses (R179). -/
def contentLow (s : State) (c : Fin 4) : State := allChans.foldl (fun s k => s.setLen c k false) s

/-- Every LEN of a cluster is forced low through the gate (R179), diagnostic pulses too. -/
def lensLow (s : State) (c : Fin 4) : State := allChans.foldl (fun s k => (s.setLen c k false).cutDiag c k) s

/-- Every tile of an output is flagged marked (R20, R181). -/
def markAllTiles (s : State) (c : Fin 4) : State :=
  let s := s.modPic c fun p => { p with tiles := p.tiles.map fun t => { t with mark := true } }
  s.wr (.frs .markedCount) c s.pic[c].tiles.length

/-- A fade under way is abandoned, leaving DIMEFF at 0 (R185). -/
def abandonFade (s : State) (c : Fin 4) : State :=
  if s.light[c].fade.isNone then s else
  (((s.modLight c fun l => { l with fade := none, dimNum := 0, dimDen := 1 }).wr (.lsr .outFading) c 0).wr (.lsr .dimStatDimeff) c 0).wr
    (.lsr .dimStatDuty) c 0

/-- An output is darkened (R20): LEN low, DUMP, every tile marked on the account of the causing unit (R16), its leases end (R83), no block
waits any more, and event 0x4042 for a fault or 0x1041 for a host
disable, with the causing unit's path and, for a fault, its event code (R434). An output already dark stays as it is. -/
def darken (s : State) (c : Fin 4) (fault : Bool) (u : UType) (i code : Nat) : State :=
  if s.light[c].darkened then s else
  let s := (((s.lensLow c).sendDump c).markAllTiles c).wr (.st u .mark) i 1
  let s := (s.modLight c fun l => { l with darkened := true }).abandonFade c
  let s := (s.modTri c fun t => { t with blocks := [] }).endLeases c allLayers fun _ => none
  if fault then s.report .cluster c 0x4042 [(4, s.srcPath u i 0xFF), (2, code)]
  else s.report .cluster c 0x1041 [(4, s.srcPath u i 0xFF)]

/-- The frames of a cluster that have not been shown to their end are never shown, and a held interval ends (R144, R259). -/
def dropFrames (s : State) (c : Fin 4) : State :=
  let n := s.rd (.chr .frameFrame) c + 1
  let due := s.chr[c].held.bind fun h => if h.fresh.isSome then none else some h
  s.modPic c fun p =>
    { p with
      frames := p.frames.map fun f => if s.rd (.chr .showFrame) c ≤ f.num then { f with dark := true } else f
      heldDue := match due with | some h => some ⟨h, n, p.replay⟩ | none => p.heldDue
      replay := none }

/-- The chronograph of a cluster stops and nothing of its frames in flight is shown (R144, R53). -/
def stopCluster (s : State) (c : Fin 4) : State :=
  let s := ((s.lensLow c).sendDump c).dropFrames c
  let s := s.modChr c fun k => { k with running := false, held := none, coherentGo := none }
  let s := if s.pic[c].meshLoad.isSome then (s.wr (.geo .meshLoadBusy) c 0).wr (.geo .meshLoadErr) c 1 else s
  let s := s.modPic c fun p => { p with lists := [], meshLoad := none }
  let s := s.modTri c fun t => { t with blocks := [], bands := [], acks := [] }
  (s.wr (.chr .heldHeld) c 0).wr (.chr .heldPend) c 0

/-- Switch off every domain outside a mask (R358): a domain that is off drives nothing. HBM loses its contents with PD17 and
a plate bank with its domain; the PLLs whose domains are all off stop (R361). -/
def keepDomains (s : State) (mask : Nat) : State :=
  let on := (s.rd (.pwr .domOnOn) 0) &&& mask
  let s := s.wr (.pwr .domOnOn) 0 on
  let s := s.forClusters allClusters fun s c =>
    let s := if bit on (9 + c.val) then s else s.lensLow c
    if bit on (38 + c.val) then s else s.stopCluster c
  let s := if bit on 17 then s else { s with hbm := [], mem := { s.mem with poisoned := [] } }
  let s := { s with plate := s.plate.filter fun x => bit on (18 + x.1 / 2 ^ 24 % 8)
                    mem := { s.mem with badPlate := s.mem.badPlate.filter fun w => bit on (18 + w / 2 ^ 21 % 8) } }
  let need := fun (i : Nat) => match i with
    | 0 => (List.range 36).any fun d => bit on (14 + d)
    | 1 => bit on 15
    | 2 => bit on 16
    | 3 => bit on 42 || bit on 43
    | 4 => bit on 44 || bit on 45
    | 5 => bit on 1 || bit on 13
    | 6 => (List.range 4).any fun d => bit on (9 + d)
    | _ => bit on 3 || bit on 8
  s.wr (.pwr .pllLock) 0 (maskOf 8 fun i => need i && bit (s.rd (.pwr .pllLock) 0) i)

/-- Domains of a mask are switched on, as far as the plan permits (R358, R359); held Live writes to their blocks take effect
(R451). -/
def powerOn (s : State) (mask : Nat) : State :=
  let s := s.wr (.pwr .domOnOn) 0 (s.rd (.pwr .domOnOn) 0 ||| (mask &&& (s.rd (.pwr .domPlanPlan) 0 ||| 0x107)))
  let due := s.heldLive.filter fun x => !s.sleeping x.fld x.inst
  let s := { s with heldLive := s.heldLive.filter fun x => s.sleeping x.fld x.inst }
  due.reverse.foldl (fun s x => s.storeLive x.fld x.inst x.val) s

/-- Drive own SEL (R418). -/
def setSel (s : State) (v : Bool) : State :=
  if s.on (.par .statSelOwn) 0 == v then s else
  ({ s with par := { s.par with selAt := if v then some s.now else none } }.wrb (.par .statSelOwn) 0 v).emit (.sel v)

/-- The domains that stay on after a module-fatal event: PD00, PD01, PD02 and PD08 (R435). -/
def fatalDomains : Nat := 0x107

/-- A class U event stops the chronograph where it stands (R18, R38): frames and segments end, and frames not yet shown are never shown. -/
def haltChronograph (s : State) (c : Fin 4) : State :=
  let s := s.dropFrames c
  let s := s.modChr c fun k => { k with running := false, held := none, lastF := 0, seg := 0, faultAt := some (s.now / 2) }
  (s.wr (.chr .heldHeld) c 0).wr (.chr .heldPend) c 0

/-- A unit raises a class U event: it stops with FATAL set, and containment follows (R18, R20, R36). A fatal essential unit
of a cluster darkens its output; a fatal laser channel holds LEN low, and a fatal interlock input every LEN; a fatal slot writes HEL_SAFE
(R229); the freshness engine serves no cluster until that cluster's commit (R263). -/
def unitFault (s : State) (u : UType) (i sub code : Nat) (items : List (Nat × Nat)) : State :=
  if s.fusedOff u i then s else
  let s := s.reportSub u i sub code items
  let c : Fin 4 := Fin.ofNat 4 (unitCluster u i)
  match u with
  | .comp | .geo | .geoCol | .pln => s.darken c true u i code
  | .chr => (s.darken c true u i code).haltChronograph c
  | .lane => if i % 18 == 17 then s.darken c true u i code else s
  | .lsrCh => (s.setLen c (Fin.ofNat 6 (i % 6)) false).cutDiag c (Fin.ofNat 6 (i % 6))
  | .slot => s.stopSlot c (Fin.ofNat 16 (i % 16))
  | .intlk => s.lensLow c
  | .frsEng => s.forClusters allClusters fun s c => s.modPic c fun p => { p with engineOff := true }
  | _ => s

/-- What a module-fatal event does once it has been reported (R28, R435). -/
def moduleFatal (s : State) (code : Nat) : State :=
  let s := s.forClusters allClusters fun s c => (s.lensLow c).sendDump c
  let s := if s.rd (.par .statRole) 0 == 1 then
      let s := s.setSel false
      if s.par.linkUp && !s.halted .transit 0 then s.emit (.transit 8 [code]) else s
    else s
  (s.keepDomains fatalDomains).wr (.pwr .stateState) 0 5

/-- A class X event and its module-fatal outcome. -/
def fatalEvent (s : State) (u : UType) (i code : Nat) (items : List (Nat × Nat)) : State :=
  (s.report u i code items).moduleFatal code

/-- The Observer is online. -/
def obsOnline (s : State) : Bool := s.domOn 1 && !s.on (.obs .statusOffline) 0

/-- The Observer performs the duty that is shed from a level on (R423, R425). -/
def duty (s : State) (level : Nat) : Bool := s.obsOnline && s.rd (.obs .loadShed) 0 < level

end State

end Sys2Proof.Machine
end

