-- ==== Sys2Proof/Machine/Mailbox.lean ====
section
/-! DEFINITION. The Observer mailbox's common course (R383 to R385, R427), MSI-X and the event ring (R380 to R382). -/

namespace Sys2Proof.Machine

/-- What a mailbox command answers: STATUS, DETAIL, the reply page and the bytes it writes by DMA (R383, R385). -/
structure Reply where
  status : Nat
  detail : Nat
  page : List Nat
  dma : Option (List Nat)
  deriving DecidableEq, Repr

/-- OK without data. -/
def Reply.ok : Reply := ⟨0, 0, [], none⟩
/-- A refusal with its DETAIL. -/
def Reply.fail (status detail : Nat) : Reply := ⟨status, detail, [], none⟩

/-- Words of a page of bytes. -/
def pageWords : Nat → List Nat → List Nat
  | 0, _ => []
  | fuel + 1, bs => if bs.isEmpty then [] else ofLe (bs.take 4) :: pageWords fuel (bs.drop 4)

namespace State

/-- Write bytes into a page window, word by word. -/
def writePage (s : State) (f : Fld) (bs : List Nat) : State :=
  ((pageWords 1024 bs).zipIdx).foldl (fun s x => s.wr f x.2 x.1) s

/-- OBS_RETRY (R427): milliseconds until the level could fall below 4, at least 10 and at most 10,000 (R384). -/
def retryMs (s : State) : Nat :=
  let level := s.rd (.obs .loadShed) 0
  let due := s.obs.lastChange + (level - 3) * msCclk 1000
  clampN 10 10000 ((due - s.now + msCclk 1 - 1) / msCclk 1)

/-- The reply is written, BUSY falls, DONE sets and vector 1 is signalled (R383). -/
def mailReply (s : State) (tag : Nat) (r : Reply) : State :=
  let s := ((s.wr (.obs .replyStatus) 0 r.status).wr (.obs .replyTag) 0 tag).wr (.obs .detailDetail) 0 r.detail
  let s := (s.writePage (.obs .reppageWord) r.page).wr (.obs .replyLenLen) 0 r.page.length
  ((s.wr (.obs .statusBusy) 0 0).wr (.obs .statusDone) 0 1).signal 1

/-- A RING while BUSY: ignored, COLLIDE sets, event 0x18C1 with the CMD in progress (R383). -/
def mailCollide (s : State) : State :=
  (s.wr (.obs .statusCollide) 0 1).report .obs 0 0x18C1 [(2, s.rd (.obs .cmdCmd) 0)]

/-- A RING that the Observer cannot take: OFFLINE by hardware, whose DETAIL 0 says that nothing was started (R384, R430), or BUSY while mailbox
service is shed (R427). -/
def mailTurnedAway (s : State) (tag : Nat) : Option State :=
  if s.on (.obs .statusOffline) 0 then some (s.mailReply tag (.fail 2 0))
  else if 4 ≤ s.rd (.obs .loadShed) 0 then
    some (((s.wr (.obs .retryMs) 0 s.retryMs).bump (.obs .shedCntBusyreplies) 0).mailReply tag (.fail 1 0))
  else none

/-- A mailbox request: it stands in the request registers and the RING is judged; none where it has been turned away. While another command is in
progress the RING collides; a RING already accepted through OBS_DOORBELL goes on (R383). In D3hot the host's accesses end in Unsupported Request
(R379). -/
def mailTake (s : State) (code : Nat) (m : MailReq) (args page : List Nat) : State × Option State :=
  if s.host.d3hot then ({ s with completion := ⟨.ur, []⟩ }, none) else
  let busy := s.on (.obs .statusBusy) 0
  let mine := s.rd (.obs .cmdCmd) 0 == code && s.rd (.obs .cmdTag) 0 == m.tag % 65536
  if busy && !mine then (s.mailCollide, none) else
  let s := ((s.wr (.obs .cmdCmd) 0 code).wr (.obs .cmdTag) 0 m.tag)
  let s := (args.zipIdx).foldl (fun s x => s.wr (.obs .argArg) x.2 x.1) s
  let s := ((s.wr (.obs .haddrAddr) 0 (m.haddr / 64)).wr (.obs .hlenLen) 0 m.hlen).writePage (.obs .reqpageWord) page
  match if busy then none else s.mailTurnedAway (m.tag % 65536) with
  | some s' => (s', none)
  | none => (s, some s)

/-- A mailbox command whose reply is still to come: BUSY stands (R383). -/
def mailWait (s : State) (code : Nat) (m : MailReq) (args page : List Nat) : State :=
  match s.mailTake code m args page with
  | (s', none) => s'
  | (_, some s') => s'.wr (.obs .statusBusy) 0 1

/-- A mailbox command: the request is taken, the command runs, and its reply is written (R383). `dma` says that the command writes host memory (R385). -/
def mailbox (s : State) (code : Nat) (m : MailReq) (args page : List Nat) (dma : Bool)
    (f : State → State × Reply) : State :=
  let tag := m.tag % 65536
  match s.mailTake code m args page with
  | (s', none) => s'
  | (_, some s) =>
    if dma && (!s.host.busMaster || m.haddr % 64 != 0) then s.mailReply tag (.fail 8 0) else
    let r := f s
    match r.2.dma with
    | none => r.1.mailReply tag r.2
    | some bs =>
      let sent := bs.take m.hlen
      (r.1.emit (.dma m.haddr sent)).mailReply tag { r.2 with page := if r.2.page.isEmpty then leBytes 4 sent.length else r.2.page }

/-! ### The event ring -/

/-- The class bit of CLASSMASK (PCI_EVR_CFG): bit 0 class A to bit 4 class X. -/
def evrWants (s : State) (cls : Nat) : Bool := bit (s.rd (.pci .evrCfgClassmask) 0) (cls - 1)

/-- Vector 0 and a fresh count of unsignalled entries (R381). -/
def evrSignal (s : State) : State :=
  { s.signal 0 with host := { (s.signal 0).host with unsignalled := 0, firstUnsig := none } }

/-- A drained record is offered to the event ring (R381, R382). -/
def evrOffer (s : State) (r : LogRec) : State :=
  let cls := r.code / 4096
  if !s.evrWants cls then s
  else if !s.on (.pci .evrCfgEn) 0 || !s.host.busMaster || s.host.d3hot then s.bump (.pci .evrStatLost) 0
  else
    let n := 2 ^ s.rd (.pci .evrCfgLog2n) 0
    let prod := s.rd (.pci .evrProdProd) 0 % n
    let cons := s.rd (.pci .evrConsCons) 0 % n
    if (prod + 1) % n == cons then
      let s := (s.bump (.pci .evrStatLost) 0).wr (.pci .evrStatFull) 0 1
      if r.code == 0x1845 then s else s.report .pci 0 0x1845 [(4, s.rd (.pci .evrStatLost) 0)]
    else
      let s := s.emit (.dma (s.rd (.pci .evrBaseAddr) 0 * 4096 + prod * 32) r.bytes)
      let s := (s.wr (.pci .evrProdProd) 0 ((prod + 1) % n)).wrb (.pci .evrStatFull) 0 ((prod + 2) % n == cons)
      let s := { s with host := { s.host with unsignalled := s.host.unsignalled + 1,
                                              firstUnsig := s.host.firstUnsig <|> some s.now } }
      if 4 ≤ cls || max 1 (s.rd (.pci .evrCfgThresh) 0) ≤ s.host.unsignalled then s.evrSignal else s

/-! ### The Logbook ring (R327, R329, R333) -/

/-- A report written as the next record of the ring: ADDR joins its path, SEQ advances (R327, R396). -/
def writeRecord (s : State) (r : Report) : State × LogRec :=
  let addr := s.rd (.chn .addrAddr) 0
  let rec' : LogRec :=
    { time := r.time, code := r.code,
      flags := r.count % 256 + 256 * b2n r.trigger + 512 * b2n r.summary + 1024 * b2n r.loc + 2048 * b2n (addr == 0),
      path := r.path + (addr - 1) % 64 * 2 ^ 26, data := r.data, seq := s.rd (.log .seqSeq) 0 }
  let s := s.modLog fun l => { l with ring := (rec' :: l.ring).take 4096 }
  (s.wr (.log .seqSeq) 0 ((s.rd (.log .seqSeq) 0 + 1) % 2 ^ 32), rec')

/-- The record of a freeze's trigger has not been written yet (R333); a trigger merged into the freeze keeps nothing waiting (R335). -/
def triggerWaits (s : State) : Bool := !s.log.trigSeen && (s.log.xreg.any (·.trigger) || s.log.queue.any (·.trigger))

/-- Whether the ring accepts a record now (R333). -/
def ringAccepts (s : State) : Bool :=
  !s.on (.log .statFrozen) 0 &&
    match s.log.freeze with
    | some f => 0 < f.2.1 || s.triggerWaits
    | none => true

/-- Waiting class U reports of units take freed entries, and then a summary (R330, R331). -/
def refill (s : State) : State :=
  let s := match s.log.upend with
    | [] => s
    | r :: rest => if s.log.queue.length < 256 then
        (s.setQueue (s.log.queue ++ [r])).modLog fun l => { l with upend := rest } else s
  s.placeSummary

/-- One record drains: the X register first, then the queue (R329, R330); the Observer prints it on the debug UART unless that duty
is shed (R392, R423). A record written after the trigger's own uses up one of POST, that of a merged trigger among them (R333, R335). -/
def drainOne (s : State) : State :=
  if !s.ringAccepts then s else
  let pick : Option (Report × State) :=
    match s.log.xreg with
    | r :: rest => some (r, s.modLog fun l => { l with xreg := rest })
    | [] =>
      match s.log.queue with
      | r :: rest => some (r, s.setQueue rest)
      | [] => none
  match pick with
  | none => s
  | some (r, s1) =>
    let used := s1.log.trigSeen || (!r.trigger && !s1.triggerWaits)
    let s2 := s1.modLog fun l =>
      { l with freeze := l.freeze.map fun f => if used then (f.1, f.2.1 - 1, f.2.2) else f
               trigSeen := l.trigSeen || (r.trigger && l.freeze.isSome) }
    let w := s2.writeRecord r
    let s3 := (w.1.evrOffer w.2).emit (.observer r.code)
    (if s3.duty 3 then s3.emit (.console w.2.bytes) else s3).refill

/-- Mark the queued report of a trigger (R333). -/
def markTrigger (s : State) (path code : Nat) : State :=
  s.modLog fun l => { l with queue := l.queue.map fun r =>
    if r.path == path && r.code == code then { r with trigger := true } else r }

end State

end Sys2Proof.Machine
end

