-- ==== Sys2Proof/Machine/AlmObjects.lean ====
section
/-! DEFINITION. Dual-copy objects of the Almanac (R316 to R319), the shadow image (R323 to R325), Logbook saves (R333 to
R335), and what an object's recovered value means to the registers. -/

namespace Sys2Proof.Machine

/-- The bytes of an object copy (R316): header, payload, SEAL. -/
def copyBytes (oid seq : Nat) (payload : List Nat) (mark : Nat) : List Nat :=
  let h := leBytes 2 oid ++ leBytes 2 1 ++ leBytes 4 seq ++ leBytes 4 payload.length
  h ++ leBytes 4 (crc32 (h ++ payload)) ++ payload ++ [mark % 256]

/-- The payload of a copy. -/
def copyPayload (len : Nat) (b : List Nat) : List Nat := (b.drop 16).take len
/-- SEQ as a copy reads. -/
def copySeq (b : List Nat) : Nat := ofLe ((b.drop 4).take 4)
/-- The length of an object's payload: that of the table, or for the archive index the one a copy declares (R351). -/
def copyLen (oid len : Nat) (b : List Nat) : Nat := if oid == 0x0405 then ofLe ((b.drop 8).take 4) else len

/-- A copy is valid: OID and LEN match and the CRC matches (R318). -/
def copyValid (oid len : Nat) (b : List Nat) : Bool :=
  let n := copyLen oid len b
  ofLe (b.take 2) == oid && ofLe ((b.drop 8).take 4) == n && b.length == 17 + n
  && ofLe ((b.drop 12).take 4) == crc32 (b.take 12 ++ copyPayload n b)

/-- Whether copy A is the newest valid copy; none when neither is valid (R318). -/
def AlmObj.newestA (o : AlmObj) : Option Bool :=
  match copyValid o.oid o.len o.a, copyValid o.oid o.len o.b with
  | true, true => some (!seqNewer (copySeq o.b) (copySeq o.a))
  | true, false => some true
  | false, true => some false
  | false, false => none

/-- A store of a payload, complete: into the copy that is not the newest valid one, SEQ one more (R316, R317). -/
def AlmObj.store (o : AlmObj) (payload : List Nat) : AlmObj :=
  match o.newestA with
  | some true => { o with b := copyBytes o.oid ((copySeq o.a + 1) % 2 ^ 32) payload 0x5A }
  | some false => { o with a := copyBytes o.oid ((copySeq o.b + 1) % 2 ^ 32) payload 0x5A }
  | none => { o with a := copyBytes o.oid 1 payload 0x5A }

/-- The bytes of a copy while a store is interrupted after `n` bytes of it: SEAL 0 first, then header and payload in order
(R316, R321). -/
def tornCopy (old new : List Nat) (n : Nat) : List Nat :=
  let cleared := (old ++ List.replicate (new.length - old.length) 0).take (new.length - 1) ++ [0]
  if n == 0 then old else if new.length + 1 ≤ n then new else (new.take (n - 1)) ++ cleared.drop (n - 1)

/-- A store interrupted after `n` bytes: the SEAL byte first, then header, payload and SEAL (R316, R321). -/
def AlmObj.tear (o : AlmObj) (payload : List Nat) (n : Nat) : AlmObj :=
  let whole := o.store payload
  { o with a := if whole.a == o.a then o.a else tornCopy o.a whole.a n,
           b := if whole.b == o.b then o.b else tornCopy o.b whole.b n }

/-- What the recovery of one object finds (R318): its payload, the object afterwards, whether a store was completed, and
the SEQ of a store that was rolled back. -/
structure Recovered where
  payload : Option (List Nat)
  obj : AlmObj
  sealedSeq : Option Nat
  rolledBack : Option Nat
  deriving DecidableEq, Repr

/-- Recover one object (R318, steps 1 to 5). -/
def AlmObj.recover (o : AlmObj) : Recovered :=
  match o.newestA with
  | none => { payload := none, obj := o, sealedSeq := none, rolledBack := none }
  | some isA =>
    let chosen := if isA then o.a else o.b
    let other := if isA then o.b else o.a
    let n := copyLen o.oid o.len chosen
    let unsealed := chosen.getD (16 + n) 0 != 0x5A
    let fixed := chosen.take (16 + n) ++ [0x5A]
    let rolled := !copyValid o.oid o.len other && ofLe (other.take 2) == o.oid && seqNewer (copySeq other) (copySeq chosen)
    { payload := some (copyPayload n chosen), obj := if isA then { o with a := fixed } else { o with b := fixed },
      sealedSeq := if unsealed then some (copySeq chosen) else none,
      rolledBack := if rolled then some (copySeq other) else none }

/-- Replace or add an object. -/
def putObj (l : List AlmObj) (o : AlmObj) : List AlmObj :=
  if l.any (fun x => x.oid == o.oid) then l.map fun x => if x.oid == o.oid then o else x else l ++ [o]

/-- Set the value of a key in an association list. -/
def putVal {α : Type} (l : List (Nat × α)) (k : Nat) (v : α) : List (Nat × α) :=
  (k, v) :: l.filter fun x => x.1 != k

/-- The length the objects table gives an OID (R316), or that of an archive checkpoint object (R351). -/
def almLen (oid : Nat) : Nat :=
  match almTable.find? fun x => x.1 == oid with
  | some x => x.2
  | none => if oid == 0x0404 then 44 else if 0x0400 ≤ oid && oid < 0x0404 then 48 else 0

/-- The byte addresses of a raw write: within one page, wrapping to its start (R320). -/
def rawAddrs (addr n : Nat) : List Nat := (List.range n).map fun i => addr / 256 * 256 + (addr % 256 + i) % 256

/-- The raw user area holds every byte of a range (R314, R315). -/
def inRawArea (addr len : Nat) : Bool := AlmPart.raw.holds addr len

namespace State

/-- Change the Almanac. -/
def modAlm (s : State) (f : Almanac → Almanac) : State := { s with alm := f s.alm }

/-- An object as the Almanac holds it; one never written has empty copies. -/
def almObj (s : State) (oid : Nat) : AlmObj :=
  (s.alm.objs.find? fun o => o.oid == oid).getD ⟨oid, almLen oid, [], []⟩

/-- The value in force of an object. -/
def almVal (s : State) (oid : Nat) : Option (List Nat) := (s.alm.vals.find? fun x => x.1 == oid).map Prod.snd

/-- An object takes a value: the value in force, without a store. -/
def setVal (s : State) (oid : Nat) (v : List Nat) : State := s.modAlm fun a => { a with vals := putVal a.vals oid v }

/-- Write an object at once (R316), and count it; the latest content replaces a store of the object that still waits (R317). -/
def almWrite (s : State) (oid : Nat) (payload : List Nat) : State :=
  let s := s.modAlm fun a =>
    { a with objs := putObj a.objs ((s.almObj oid).store payload), vals := putVal a.vals oid payload
             stores := a.stores.filter fun x => x.oid != oid }
  (s.bump (.alm .cntObjwr) 0).wr (.alm .busQueued) 0 s.alm.stores.length

/-- Ask for a store: a waiting store of the same object is replaced (R317). -/
def almRequest (s : State) (oid : Nat) (payload : List Nat) : State :=
  let st := s.alm.stores.filter fun x => x.oid != oid
  let s := s.modAlm fun a => { a with stores := st ++ [⟨oid, payload⟩], vals := putVal a.vals oid payload }
  s.wr (.alm .busQueued) 0 s.alm.stores.length

/-- The LOGSAVE object's payload: the two entries (R334). -/
def logsavePayload (s : State) : List Nat := (s.log.saves[0]).bytes ++ (s.log.saves[1]).bytes

/-! ### The shadow image (R323 to R325) -/

/-- The archive pointers of the shadow image: lifetime bytes written, records by type, deferred samples and discarded
bytes (R351); their layout within the 512 bytes is the model's. -/
def arcPointers (s : State) : List Nat :=
  leBytes 8 s.arc.bytesWritten ++ ((s.arc.recsByType ++ List.replicate 16 0).take 16).flatMap (leBytes 8)
    ++ leBytes 8 s.arc.lifeDeferred ++ leBytes 8 s.arc.lifeDiscard

/-- The payload of the shadow image (R323). -/
def shadowPayload (s : State) (kind : Nat) : List Nat :=
  (List.range 24).flatMap (fun i => leBytes 8 (s.rd (.lsr .hoursMs) i))
  ++ (List.range 768).flatMap (fun i => leBytes 4 (s.rd (.lsr .emitSec) i))
  ++ (List.range 320).flatMap (fun i => leBytes 4 (countOf s.log.life i))
  ++ leBytes 4 (s.rd (.log .lostACount) 0) ++ leBytes 4 (s.rd (.log .lostDCount) 0) ++ leBytes 4 (s.rd (.log .lostMCount) 0)
  ++ leBytes 4 (s.rd (.log .seqSeq) 0) ++ leBytes 8 s.wall ++ [kind] ++ List.replicate 23 0
  ++ (s.arcPointers ++ List.replicate 512 0).take 512 ++ List.replicate 2559 0

/-- Write the shadow image (R324). -/
def saveShadow (s : State) (kind : Nat) : State :=
  let s := s.almWrite 0x0301 (s.shadowPayload kind)
  if kind == 1 then (s.wr (.alm .ckptTimeTime) 0 s.wall).wr (.alm .ckptBusy) 0 0 else s

/-- A checkpoint: at once, or as soon as the save in progress ends (R324). -/
def checkpoint (s : State) : State :=
  if s.log.saving.isSome then s.wr (.alm .ckptBusy) 0 1 else s.saveShadow 1

/-- The power-cycle counter has been stored (R319): ALM_PCYCLES shows it, and a start-up that was still at step 3 has completed it (R366). -/
def countStored (s : State) (oid : Nat) : State :=
  if oid != 0x0300 || s.rd (.pwr .stateStep) 0 != 2 then s else
  (s.wr (.alm .pcyclesCount) 0 (ofLe ((s.almVal 0x0300).getD []))).wr (.pwr .stateStep) 0 3

/-- Load the shadow image (R325). -/
def loadShadow (s : State) (p : List Nat) : State :=
  let f := fun o n => ofLe ((p.drop (o - 16)).take n)
  let s := (List.range 24).foldl (fun s i => s.wr (.lsr .hoursMs) i (f (16 + 8 * i) 8)) s
  let s := (List.range 768).foldl (fun s i => s.wr (.lsr .emitSec) i (f (208 + 4 * i) 4)) s
  let life := (List.range 320).filterMap fun i => if f (3280 + 4 * i) 4 == 0 then none else some (i, f (3280 + 4 * i) 4)
  let s := s.modLog fun l => { l with life := life }
  let s := ((s.wr (.log .lostACount) 0 (f 4560 4)).wr (.log .lostDCount) 0 (f 4564 4)).wr (.log .lostMCount) 0 (f 4568 4)
  let slotSeq := fun (i : Fin 2) => match (s.log.slots[i]).getLast? with
    | some r => if s.on (if i == 0 then .log .statValid0 else .log .statValid1) 0 then r.seq + 1 else 0
    | none => 0
  let base := f 4572 4 + (if f 4584 1 == 1 then 65536 else 0)
  let s := s.wr (.log .seqSeq) 0 (max base (max (slotSeq 0) (slotSeq 1)) % 2 ^ 32)
  let arc := fun o => f (4608 + o) 8
  let s := { s with arc :=
    { s.arc with bytesWritten := arc 0, recsByType := (List.range 16).map fun i => arc (8 + 8 * i),
                 lifeDeferred := arc 136, lifeDiscard := arc 144 } }
  if f 4584 1 == 1 then (s.wr (.alm .ckptFromckpt) 0 1).report .alm 0 0x1905 [(8, f 4576 8)] else s

/-! ### Logbook saves (R333 to R335) -/

/-- VALID and KEEP of the saved slots, and which of them is the newest save, as the registers show them (R334). -/
def showSaves (s : State) : State :=
  let newer1 := (s.log.saves[1]).valid && (!(s.log.saves[0]).valid || (s.log.saves[0]).saveSeq < (s.log.saves[1]).saveSeq)
  let s := if (s.log.saves[0]).valid || (s.log.saves[1]).valid then s.wrb (.log .statLast) 0 newer1 else s
  let ok := fun (i : Fin 2) => (s.log.saves[i]).valid
  ((((s.wrb (.log .statValid0) 0 (ok 0)).wrb (.log .statValid1) 0 (ok 1)).wrb (.log .statKeep0) 0 (s.log.saves[0]).keep).wrb
    (.log .statKeep1) 0 (s.log.saves[1]).keep)

/-- The bytes of a saved slot: its records, oldest first, and zeros after them (R334). -/
def slotBytes (recs : List LogRec) : List Nat :=
  ((recs.flatMap LogRec.bytes) ++ List.replicate AlmPart.slot0.size 0).take AlmPart.slot0.size

/-- The slot a save goes into; none when both are KEEP (R334). -/
def saveTarget (s : State) : Option (Fin 2) :=
  match (s.log.saves[0]).keep, (s.log.saves[1]).keep with
  | true, true => none
  | true, false => some 1
  | false, true => some 0
  | false, false =>
    let newest0 := (s.log.saves[0]).valid && (!(s.log.saves[1]).valid || (s.log.saves[1]).saveSeq ≤ (s.log.saves[0]).saveSeq)
    some (if newest0 then 1 else 0)

/-- A save of the ring into a slot, whole (R334): contents, LOGSAVE entry and registers. -/
def saveRing (s : State) (slot : Fin 2) (cause time : Nat) : State :=
  let recs := s.log.ring.reverse
  let entry : SaveEntry :=
    { saveSeq := max (s.log.saves[0]).saveSeq (s.log.saves[1]).saveSeq + 1, firstSeq := (recs.head?.map (·.seq)).getD 0,
      time := time, crc := crc32 (slotBytes recs), cause := cause, keep := cause == 1, valid := true }
  let s := s.modLog fun l => { l with slots := l.slots.set slot recs, saves := l.saves.set slot entry }
  let s := s.almWrite 0x0028 s.logsavePayload
  (((s.showSaves).wr (.log .statLast) 0 slot.val).wr (.log .slotFirstFirstseq) slot.val entry.firstSeq)

/-- The ring resumes (R333): not frozen, no save, and a further freeze follows for a waiting trigger (R335). -/
def resumeRing (s : State) : State :=
  let s := s.modLog fun l =>
    { l with saving := none, pendCause := none, trigSeen := false
             freeze := l.pendCause.map fun p => (p.1, s.rd (.log .ctrlPost) 0, s.now + msCclk 10, p.2) }
  let s := (((s.wr (.log .statFrozen) 0 0).wr (.log .statSaving) 0 0).wr (.log .statPend) 0 0).wr (.alm .busOwner) 0 0
  if s.on (.alm .ckptBusy) 0 then s.saveShadow 1 else s

/-- TRIG in both directions, or away from the side it came from, and event 0x1149 (R410). Ports: 0 upstream, 1
downstream. -/
def sendTrig (s : State) (ports : List Nat) (origin cause : Nat) : State :=
  let body := [0x0B, 0, s.rd (.chn .addrAddr) 0, 0] ++ ([origin % 256, cause % 256] ++ List.replicate 10 0)
  let msg := body ++ leBytes 2 (crc16 body)
  let s := ports.foldl (fun s p => s.emit (.chain p msg)) s
  s.report .chn 0 0x1149 [(1, origin), (1, cause)]

/-- TRIGMASK lets a freeze of this cause send TRIG: bit 0 class X, bit 1 PFAIL, bit 2 host (R410). -/
def trigMasked (s : State) (cause : Nat) : Bool :=
  match cause with
  | 1 => bit (s.rd (.chn .ctrlTrigmask) 0) 0
  | 2 => bit (s.rd (.chn .ctrlTrigmask) 0) 1
  | 4 => bit (s.rd (.chn .ctrlTrigmask) 0) 2
  | _ => false

/-- The pre-trigger flush starts or is extended, and a TRIGGER record is written (R350): from 10 s before the trigger to POSTS seconds
after it. The counts and frames of the TRIGGER record are those of the ring as it stands. -/
def startFlush (s : State) (cause time : Nat) : State :=
  if cause == 2 || !s.recording then s else
  let upto := time + 25000000 * s.rd (.arc .cfgPosts) 0
  let from' := time - 250000000
  let s := if s.arc.flush.isSome then s else
    s.modArc fun a => { a with ring := a.ring.map fun e => { e with done := false } }
  let fl : ArcFlush := match s.arc.flush with
    | some f => { f with upto := max f.upto upto, from' := min f.from' from' }
    | none => { cause := cause, from' := from', upto := upto, entries := 0, lost := 0 }
  let window := s.arc.ring.filter fun e => from' ≤ e.time && e.time ≤ upto
  let lost := (window.filter (·.bad)).length
  let frames := (List.range 4).flatMap fun c =>
    let fr := (window.filter fun e => e.cluster == c).map (·.frame)
    leBytes 8 (fr.getLast?.getD 0) ++ leBytes 8 (fr.head?.getD 0)
  let body := [cause % 256] ++ List.replicate 7 0 ++ leBytes 8 time ++ leBytes 4 (window.length - lost) ++ leBytes 4 lost ++ frames
  let s := (s.modArc fun a => { a with flush := some fl }).wr (.arc .stateFlushing) 0 1
  (s.stageRec 4 0 time (s.srcPath .pkg 0 0xFF) body).runFlush

/-- Every trigger that has not started its flush does (R350). -/
def takeTriggers (s : State) : State :=
  let l := s.log.triggers
  l.foldl (fun s x => s.startFlush x.1 x.2) (s.modLog fun l => { l with triggers := [] })

/-- The ring freezes and its save starts, or is skipped when both slots are KEEP (R333, R334). -/
def freezeRing (s : State) (cause time : Nat) : State :=
  let s := (s.modLog fun l => { l with freeze := none }).wr (.log .statCause) 0 cause
  let s := if s.trigMasked cause then s.sendTrig [0, 1] (s.rd (.chn .addrAddr) 0) cause else s
  let s := s.takeTriggers
  match s.saveTarget with
  | none => ((s.bump (.log .statSkipped) 0).report .log 0 0x2B04 [(1, cause)]).resumeRing
  | some slot =>
    ((s.modLog fun l => { l with saving := some (cause, slot.val, time) }).wr (.log .statFrozen) 0 1).wr (.log .statSaving) 0 1
      |>.wr (.alm .busOwner) 0 3

end State

end Sys2Proof.Machine
end

