-- ==== Sys2Proof/Machine/AlmanacLog.lean ====
section
/-! DEFINITION. Almanac and Logbook commands (R314 to R336). -/

namespace Sys2Proof.Machine

/-- The outcome of every command of this block is a next state, but for accesses that name no address. -/
abbrev Result := Host.Outcome State Fault Refusal

/-- A raw access (R315, R322): while a Logbook save holds the bus it is taken and waits, for the command to come again once the bus is free. -/
def State.rawAccess (s : State) (code : Nat) (m : MailReq) (args page : List Nat) (f : State → State × Reply) : State :=
  if s.log.saving.isSome then s.mailWait code m args page else s.mailbox code m args page false f

/-- ALM_RAW_READ (R315): 1 to 4,096 bytes of the raw user area. -/
def execAlmRawRead (t : Nat) (m : MailReq) (addr len : Nat) (s : State) : Result :=
  .next ((s.advance t).rawAccess 0x0301 m [addr, len] [] fun s =>
    if len < 1 || 4096 < len then (s, .fail 4 0)
    else if !inRawArea addr len then (s, .fail 6 3)
    else (s, { Reply.ok with page := cellLoad s.raw addr len }))

/-- ALM_RAW_WRITE (R315, R320): 1 to 256 bytes within one page of the raw user area; DETAIL [0] says that it wrapped. -/
def execAlmRawWrite (t : Nat) (m : MailReq) (addr : Nat) (data : List Byte) (s : State) : Result :=
  .next ((s.advance t).rawAccess 0x0302 m [addr, data.length] (data.map BitVec.toNat) fun s =>
    if data.length < 1 || 256 < data.length then (s, .fail 4 0)
    else if !inRawArea addr 1 then (s, .fail 6 3)
    else
      let raw := ((rawAddrs addr data.length).zip data).foldl (fun r x => cellSet r x.1 x.2) s.raw
      (({ s with raw := raw }).bump (.alm .cntRawwr) 0,
        { Reply.ok with detail := b2n (256 < addr % 256 + data.length) }))

/-- OBJECT_STORE (R316, R317): the waiting store of an object is written into its older copy; with none waiting, or while a Logbook save
holds the bus (R322), nothing happens. The power-cycle counter's store ends start-up step 3 (R319, R366). -/
def execObjectStore (t oid : Nat) (s : State) : Result :=
  let s := s.advance t
  match s.alm.stores.find? fun x => x.oid == oid with
  | none => .next s
  | some st =>
    if (oid ≤ 0x1B && !s.duty 6) || s.log.saving.isSome then .next s else
    .next ((s.almWrite oid st.payload).countStored oid)

/-- CHECKPOINT (R324): the interval has passed; ALM_CKPT.MIN = 0 disables it, and the Almanac interface must be on. -/
def execCheckpoint (t : Nat) (s : State) : Result :=
  let s := s.advance t
  .next (if s.rd (.alm .ckptMin) 0 == 0 || !s.domOn 1 then s else s.checkpoint)

/-- CHECKPOINT_NOW (R324): ALM_CKPT.NOW is written. -/
def execCheckpointNow (t : Nat) (s : State) : Result := .next (s.advance t).checkpoint

/-- QUEUE_DRAIN (R329): one entry drains while the ring accepts records; the record of a debug unlock is copied to the archive as a NOTE
(R62, R348). -/
def execQueueDrain (t : Nat) (s : State) : Result :=
  let s := s.advance t
  let d := s.drainOne
  .next (match d.log.ring with
    | r :: _ => if r.code == 0x1A45 && d.rd (.log .seqSeq) 0 != s.rd (.log .seqSeq) 0 then d.stageNote 3 r.bytes else d
    | [] => d)

/-- LOG_TRIGGER_HOST (R333): event 0x1B06, and a freeze with cause 4. -/
def execLogTriggerHost (t : Nat) (s : State) : Result :=
  let s := (s.advance t).report .log 0 0x1B06 []
  .next ((s.markTrigger (pathOf .log 0 0xFF) 0x1B06).logTrigger 4).takeTriggers

/-- LOG_FREEZE (R333): the trigger's record and POST further ones have been taken, or 10 ms have passed since the trigger. -/
def execLogFreeze (t : Nat) (s : State) : Result :=
  let s := s.advance t
  match s.log.freeze with
  | some (cause, left, due, time) => .next (if (left == 0 && !s.triggerWaits) || due ≤ s.now then s.freezeRing cause time else s)
  | none => .next s

/-- LOGBOOK_SAVE_DONE (R334): the save in progress ends, LOGSAVE is stored, the ring resumes, event 0x1B02. -/
def execLogbookSaveDone (t : Nat) (s : State) : Result :=
  let s := s.advance t
  match s.log.saving with
  | none => .next s
  | some (cause, slot, time) =>
    let slot : Fin 2 := Fin.ofNat 2 slot
    let s := (s.saveRing slot cause time).resumeRing
    .next (s.report .log 0 0x1B02 [(1, slot.val), (1, cause), (4, (s.log.saves[slot]).firstSeq)])

/-- LOG_RELEASE (R334): KEEP of a slot clears, by a store of LOGSAVE. -/
def execLogRelease (t : Nat) (slot : Fin 2) (s : State) : Result :=
  let s := (s.advance t).modLog fun l => { l with saves := l.saves.set slot { l.saves[slot] with keep := false } }
  .next (s.showSaves.almRequest 0x0028 s.logsavePayload)

/-- LOG_SLOT_READ (R334, R385): the LOGSAVE entry of a slot and its records by DMA. -/
def execLogSlotRead (t : Nat) (m : MailReq) (slot : Nat) (s : State) : Result :=
  .next ((s.advance t).mailbox 0x0401 m [slot] [] true fun s =>
    if 2 ≤ slot then (s, .fail 4 0)
    else
      let i : Fin 2 := Fin.ofNat 2 slot
      if !s.on (if slot == 0 then .log .statValid0 else .log .statValid1) 0 then (s, .fail 7 0)
      else (s, { Reply.ok with dma := some ((s.log.saves[i]).bytes ++ State.slotBytes s.log.slots[i]) }))

end Sys2Proof.Machine
end

