-- ==== Sys2Proof/Machine/ChronoOps.lean ====
section
/-! DEFINITION. Shared operations of the chronographs: the guard, commit requests and cancels (R140 to R144), the pair's PEND
messages (R412, R414), output locking (R146 to R148), and wall-time stamps (R401). -/

namespace Sys2Proof.Machine

/-- An instant lies inside the guard of the meridian at m: the 64 PCLK cycles that end with the meridian's own (R140). -/
def inGuard (m at' : Nat) : Bool := m ≤ at' + 126

namespace State

/-- A cluster is held and its picture path does not run yet (R149 to R152). -/
def inHeld (s : State) (c : Fin 4) : Bool := match s.chr[c].held with | some h => h.fresh.isNone | none => false

/-- The entries of a cluster's shadow set, newest first (R12). -/
def shadowOf (s : State) (c : Fin 4) : List ShadowEntry :=
  s.shadow.filter fun e => addrCluster (e.fld.addr e.inst) == some c.val

/-- The CRC-32 over a cluster's shadow set (R412). -/
def shadowCrcOf (s : State) (c : Fin 4) : Nat :=
  (Config.shadowCrc ((s.shadowOf c).map fun e => (e.fld.addr e.inst, e.val))).toNat

/-- In a pair, PEND follows every REQ and CANCEL (R412, R414), and the meridians that the prime waits count anew. -/
def sendPend (s : State) (c : Fin 4) : State :=
  if s.rd (.par .statRole) 0 == 0 then s else
  let p : Pend := { req := s.on (.chr .commitReq) c, crc := s.shadowCrcOf c, sentAt := s.now }
  let waited := if s.rd (.par .statRole) 0 == 2 then s.par.waited else s.par.waited.set c 0
  let s := { s with par := { s.par with ownPend := s.par.ownPend.set c (some p), waited := waited } }
  if s.par.linkUp && !s.halted .transit 0 then s.emit (.transit 3 [c, b2n p.req, p.crc, p.sentAt]) else s

/-- REQ is set (R140, R142, R152): while a commit is pending it has no further effect. -/
def requestCommit (s : State) (c : Fin 4) : State :=
  if s.on (.chr .commitReq) c then s else
  let s := (s.wr (.chr .commitReq) c 1).modChr c fun k => { k with reqAt := s.now, reqFrame := none, late := false, waited := false, coherentGo := none }
  (s.wakeHeld c 2).sendPend c

/-- Every domain of the plan that a held cluster's pixel path needs is on again (R152). -/
def pathPowered (s : State) (c : Fin 4) : Bool :=
  ([26 + c.val, 30 + c.val, 34 + c.val, 46] : List Nat).all fun d => s.domOn d || !bit (s.rd (.pwr .domPlanPlan) 0) d

/-- The pixel path runs at the next meridian: the cluster is not held, or it has woken and its domains are powered (R143, R152). -/
def pathNext (s : State) (c : Fin 4) : Bool :=
  match s.chr[c].held with
  | some h => h.fresh.isSome || (h.wake.isSome && s.pathPowered c)
  | none => true

/-- The entries of a cluster's shadow set that a commit at the meridian takes (R141, R144): at the first meridian of a stopped
chronograph all of them, else those that arrived before the guard. -/
def dueEntries (s : State) (c : Fin 4) (first : Bool) : List ShadowEntry := (s.shadowOf c).filter fun e => first || !inGuard s.now e.at'

/-- The value that landing entries, newest first, give a field; else the value in force. -/
def landingVal (s : State) (l : List ShadowEntry) (f : Fld) (i : Nat) : Nat :=
  ((l.find? fun e => e.fld = f ∧ e.inst = i).map (·.val)).getD (s.rd f i)

/-- A mesh load is busy on the page that the landing MESH_PAGE selects (R95). -/
def meshWaits (s : State) (c : Fin 4) (first : Bool) : Bool :=
  match s.pic[c].meshLoad with
  | some m => m.page == s.landingVal (s.dueEntries c first) (.geo .ctrlMeshPage) c
  | none => false

/-- The pair's PEND messages of a cluster match for the meridian at m (R414): sent at least 2 µs before, with equal CRCs. -/
def pendMatch (s : State) (c : Fin 4) (m : Nat) : Bool :=
  match s.par.ownPend[c], s.par.peerPend[c] with
  | some a, some b => a.req && b.req && a.crc == b.crc && a.sentAt + usCclk 2 ≤ m && b.sentAt + usCclk 2 ≤ m
  | _, _ => false

/-- The pair lets a cluster's pending commit land at m (R414): it is matched, or the prime has waited long enough to land alone. A single module, or one
without its peer, is not held back. -/
def pairLets (s : State) (c : Fin 4) (m : Nat) : Bool :=
  let r := s.rd (.par .statRole) 0
  r == 0 || !s.par.linkUp || s.pendMatch c m || (r != 2 && max 1 (s.rd (.par .cfgCwait) 0) ≤ s.par.waited[c])

/-- The meridian at which the pending commit would take effect comes next and its guard has begun (R142, R143): not while the pixel path does
not run there, nor while a mesh load is busy on the page it selects, nor while the pair still waits (R414). -/
def cancelTooLate (s : State) (c : Fin 4) : Bool :=
  let k := s.chr[c]
  k.running && inGuard k.nextM s.now && !inGuard k.nextM k.reqAt && s.pathNext c && !s.meshWaits c false && s.pairLets c k.nextM
  && (!s.on (.chr .commitMode) c || match k.coherentGo with | some e => e ≤ k.nextM | none => false)

/-- A pending commit is withdrawn (R142): REQ clears, the shadow set stays pending, event 0x1342. -/
def withdrawCommit (s : State) (c : Fin 4) : State :=
  let s := ((s.wr (.chr .commitReq) c 0).wr (.chr .commitFlagsCancelled) c 1).modChr c fun k => { k with coherentGo := none }
  (s.report .chr c 0x1342 [(4, s.rd (.chr .frameFrame) c)]).sendPend c

/-- The armed set of the module (R403): CHR_COMMIT.ARMED of each cluster and CHN_CC.ARMED. -/
def setArmed (s : State) (l : List Nat) : State :=
  let s := { s with chn := { s.chn with armed := l, goFrame := none } }
  (allClusters.foldl (fun s c => s.wrb (.chr .commitArmed) c (l.contains c.val)) s).wrb (.chn .ccArmed) 0 (!l.isEmpty)

/-- CANCEL (R142, R405): a cancel before the guard withdraws the pending commit; in an armed cluster it also disarms the
module. -/
def cancelCommit (s : State) (c : Fin 4) : State :=
  if !s.on (.chr .commitReq) c || s.cancelTooLate c then s else
  let s := s.withdrawCommit c
  if s.chn.armed.contains c.val then s.setArmed [] else s

/-! ### Output locking -/

/-- The lock source in force: 3 is treated as 0 (R146). -/
def lockSrc (s : State) (c : Fin 4) : Nat := let v := s.rd (.chr .lockSrc) c; if v == 3 then 0 else v

/-- RATIO: 0 is treated as 1 (CHR_LOCK). -/
def lockRatio (s : State) (c : Fin 4) : Nat := max 1 (s.rd (.chr .lockRatio) c)

/-- The input a cluster locks to is in PSR: no frames and so no reference (R148). -/
def lockInPsr (s : State) (c : Fin 4) : Bool :=
  s.lockSrc c == 1 && s.rd (.dpr .linkPsr) (s.rd (.chr .lockDpin) c) != 0

/-- The CCLK of a wall instant given in 1/64 tick. -/
def wallCclk (s : State) (w : Nat) : Int := s.now + ((w : Int) * 8 - s.wall512) / 8

/-- The target instant that the reference gives for a meridian, if there is a reference (R146, R402). -/
def lockTarget (s : State) (c : Fin 4) : Option Int :=
  match s.lockSrc c with
  | 1 =>
    let i : Fin 4 := Fin.ofNat 4 (s.rd (.chr .lockDpin) c)
    if !s.on (.dpr .linkUp) i then none else
    (s.dp[i].frames.head?).map fun f => (f.done : Int) + max 32 (s.rd (.chr .lockPhasePhase) c)
  | 2 => s.chn.fsync.map fun f => s.wallCclk f.sync
  | _ => none

/-- The instant of the latest reference event. -/
def refAt (s : State) (c : Fin 4) : Nat :=
  match s.lockSrc c with
  | 1 => ((s.dp[(Fin.ofNat 4 (s.rd (.chr .lockDpin) c) : Fin 4)].frames.head?).map (·.done)).getD 0
  | _ => s.chn.fsyncAt

/-- After a loss the output runs free until the next reference event (R148). -/
def runsFree (s : State) (c : Fin 4) : Bool := match s.chr[c].lostAt with | some t => decide (s.refAt c ≤ t) | none => false

/-- The reference's own period in CCLK (R146, R402): the input's measured frame period, or RATIO frame periods of the output. -/
def refPeriod (s : State) (c : Fin 4) : Nat :=
  let own := s.rd (.dpr .periodPeriod) (s.rd (.chr .lockDpin) c % 4) * 64
  if s.lockSrc c == 1 && own != 0 then own else s.lockRatio c * s.cfg[c].period

/-- The phase error of the last meridian against the reference (R146, R148): RATIO meridians stand evenly on each period of the reference, one of
them on the target. -/
def phaseError (s : State) (c : Fin 4) : Option Int :=
  (s.lockTarget c).map fun tgt =>
    let p : Int := max 1 (s.refPeriod c)
    let r : Int := s.lockRatio c
    let d := (((s.chr[c].lastM : Int) - tgt) * r) % p
    (if p < 2 * d then d - p else d) / r

/-- A lock is lost (R148): LOCKED falls, the output runs free, event 0x2344, and a held output wakes with cause 7. An output that has not acquired has no
lock to lose, and begins its count of frames anew. -/
def lockLost (s : State) (c : Fin 4) (cause : Nat) : State :=
  let s := s.modChr c fun k => { k with inWindow := 0, outWindow := 0 }
  if !s.on (.chr .lockLocked) c then s else
  (((s.wakeHeld c 7).modChr c fun k => { k with lostAt := some s.now }).wr (.chr .lockLocked) c 0).report .chr c 0x2344 [(1, cause), (4, s.rd (.chr .frameFrame) c)]

/-- The pull limit: 2,000 ppm of PERIOD (R147). -/
def pullLimit (s : State) (c : Fin 4) : Nat := s.cfg[c].period * 2000 / 1000000

/-- adj(n), decided at F(n) (R147, R148). Without a reference, and after a loss until the next reference event, it returns to 0 at the slew limit;
in PSR it holds; the second of a pair takes away its skew to the prime, whatever its own SRC holds (R146). With a reference the manual gives the bounds of adj and not
its value, which is a free value within them. The bounds of the pull limit and the tail hold in every case. -/
def nextAdj (s : State) (c : Fin 4) (tail : Nat) : Int × State :=
  let a := s.chr[c].adj
  let slew : Int := s.rd (.chr .lockCfgSlew) c
  let pull : Int := s.pullLimit c
  let bound := fun (v : Int) => clampI (max (-pull) (-(tail : Int))) pull v
  let back := (bound (a + clampI (-slew) slew (-a)), s)
  if s.role == 2 && s.on (.chr .lockPeer) c then (bound (clampI (a - slew) (a + slew) (a - s.par.skews[c] / 8)), s)
  else if s.lockInPsr c then (bound a, s)
  else if s.runsFree c then back
  else match s.lockTarget c with
  | none => back
  | some _ =>
    let f := s.freeBits 32
    (bound (clampI (a - slew) (a + slew) (signed 32 f.1)), f.2)

/-- One frame's judgement of the lock (R148): acquire after 8 frames in the window; lose after 4 outside it at the pull
limit, or when the chain reference has been silent for two wall frames. -/
def lockUpdate (s : State) (c : Fin 4) : State :=
  if s.lockInPsr c || s.runsFree c then s
  else if s.lockSrc c == 2 && 2 * s.lockRatio c * s.cfg[c].period < s.now - s.chn.fsyncAt then s.lockLost c 2
  else match s.phaseError c with
  | none => s
  | some e =>
    let s := s.wr (.chr .lockErrErr) c (unsigned 32 e)
    let k := s.chr[c]
    if |e| ≤ (s.rd (.chr .lockCfgWin) c : Int) then
      let s := s.modChr c fun k => { k with inWindow := k.inWindow + 1, outWindow := 0 }
      if 8 ≤ k.inWindow + 1 && !s.on (.chr .lockLocked) c then
        (s.wr (.chr .lockLocked) c 1).report .chr c 0x1343 [(1, s.lockSrc c), (4, s.rd (.chr .frameFrame) c)]
      else s
    else
      let n := if |k.adj| == (s.pullLimit c : Int) then k.outWindow + 1 else 0
      let s := s.modChr c fun k => { k with inWindow := 0, outWindow := n }
      if 4 ≤ n then s.lockLost c 1 else s

/-! ### Wall-time steps -/

/-- A stamp moved by a step of d ticks; 0 means that there is none. -/
def shiftStamp (d : Int) (v : Nat) : Nat := if v == 0 then 0 else ((v : Int) + d).toNat

/-- Every production, reaffirmation and completion stamp moves with a step (R401), so that no tile's age changes. -/
def shiftStamps (s : State) (d : Int) : State :=
  let f := shiftStamp d
  let s := s.forClusters allClusters fun s c => s.modPic c fun p =>
    { p with
      layers := p.layers.map fun l =>
        { l with stamp := l.stamp.map f, stampPrev := l.stampPrev.map f, reaff := f l.reaff, kept := l.kept.map fun x => (x.1, f x.2), keptPrev := l.keptPrev.map fun x => (x.1, f x.2), pendReaff := l.pendReaff.map fun r => { r with time := f r.time } }
      tiles := p.tiles.map fun t =>
        { t with stamp := f t.stamp
                 reaff := t.reaff.map fun r => { r with stamp := ((r.stamp : Int) + d / 256).toNat } }
      lists := p.lists.map fun l => { l with time := f l.time } }
  { s with dp := s.dp.map fun i =>
      { i with lastDone := f i.lastDone, frames := i.frames.map fun x => { x with stamp := f x.stamp } } }

/-- The part of the error that the rate trim has removed joins the offset (R399). -/
def foldTrim (s : State) : State :=
  let gone : Int := (s.now - s.chn.trimAt) * 8 / 10000
  let part := clampI (-gone) gone s.chn.trim
  { s with chn := { s.chn with wallOff := s.chn.wallOff + part, trim := s.chn.trim - part, trimAt := s.now } }

/-- Wall time is stepped by d of 1/512 tick (R401): stamps move, STEPS counts, event 0x1145. -/
def stepWall (s : State) (d : Int) : State :=
  let s := s.foldTrim
  let before := s.wall512 / 512
  let s := { s with chn := { s.chn with wallOff := s.chn.wallOff + d, trim := 0 } }
  let ticks := s.wall512 / 512 - before
  ((s.shiftStamps ticks).bump (.chn .wtStatSteps) 0).report .chn 0 0x1145 [(8, unsigned 64 ticks)]

end State

end Sys2Proof.Machine
end

