-- ==== Sys2Proof/Machine/ChainRows.lean ====
section
/-! DEFINITION. Chain commands (R393 to R411): enumeration, hop latency, wall time, frame sync, coherent commit, triggers and
lane changes. Port 0 is CHAIN_IN, upstream; port 1 is CHAIN_OUT, downstream. -/

namespace Sys2Proof.Machine

/-- A chain message's bytes 0 to 15 (R394). -/
def chainBody (type dest src flags : Nat) (payload : List Nat) : List Nat :=
  [type % 256, dest % 256, src % 256, flags % 256] ++ (payload ++ List.replicate 12 0).take 12

/-- A message with its CRC-16 (R394). -/
def withCrc (body : List Nat) : List Nat := body ++ leBytes 2 (crc16 body)

/-- A message with bytes replaced in flight from an offset, its CRC computed again (R394). -/
def rewriteMsg (m : List Nat) (o : Nat) (bs : List Nat) : List Nat :=
  withCrc ((m.take o ++ bs ++ m.drop (o + bs.length)).take 16)

namespace State

/-- Change the chain's state. -/
def modChn (s : State) (f : Chain → Chain) : State := { s with chn := f s.chn }

/-- The module's chain address. -/
def chnAddr (s : State) : Nat := s.rd (.chn .addrAddr) 0

/-- The module is head. -/
def isHead (s : State) : Bool := s.on (.chn .addrHead) 0

/-- Send a message of one's own on a port. -/
def sendChain (s : State) (port type dest flags : Nat) (payload : List Nat) : State :=
  s.emit (.chain port (withCrc (chainBody type dest s.chnAddr flags payload)))

/-- Between D(f) and D(f) + 25 µs a module starts no message of its own but TRIG (R394, R407), so that the next tick sends what is due. -/
def quietCut (s : State) : Bool :=
  match s.chn.fsync with
  | some x =>
    let d := s.wallCclk x.sync - usCclk (s.rd (.chn .ccCfgCut) 0)
    decide (d ≤ s.now) && decide ((s.now : Int) < d + usCclk 25)
  | none => false

/-- A message arrives while PD08 is on: one that fails its CRC is discarded and counted (R394), one of another TYPE is
another row's. -/
def chainRecv (s : State) (type : Nat) (m : List Nat) (f : State → State) : State :=
  if !s.domOn 8 then s
  else if !msgOk 18 m then s.bump (.chn .cntCrcerr) 0
  else if m.getD 0 0 != type then s
  else f s

/-- A message that goes down the chain (R394): it is forwarded, with the bytes that the module rewrites, and it has its effect where its DEST names
every module, the neighbour or this module. -/
def chainDown (s : State) (type : Nat) (m : List Nat) (onward : State → List Nat) (f : State → State) : State :=
  s.chainRecv type m fun s =>
    let dest := msgField m 1 1
    (if dest == 0 || dest == 0xFF || dest == s.chnAddr then f s else s).emit (.chain 1 (onward s))

/-! ### Coherent commit (R403 to R409) -/

/-- Replace or add what the head knows of a module. -/
def putArm (l : List ArmInfo) (a : ArmInfo) : List ArmInfo := a :: l.filter fun x => x.addr != a.addr

/-- The members the head counts on: CHN_CC_MEMBERS, or 1 to N (R406). -/
def ccMembers (s : State) : List Nat :=
  let mask := s.rd (.chn .ccMembersMask) 0
  if mask == 0 then (List.range (s.rd (.chn .addrN) 0)).map (· + 1)
  else ((List.range 64).filter (bit mask)).map (· + 1)

/-- The expected set: the members less those whose latest ARM reports excluded (R406). -/
def ccExpected (s : State) : List Nat :=
  s.ccMembers.filter fun a => !s.chn.arms.any fun x => x.addr == a && x.state == 2

/-- A module is armed with the head's ID. -/
def ccArmedAt (s : State) (a : Nat) : Bool :=
  s.chn.arms.any fun x => x.addr == a && x.state == 1 && x.id == s.rd (.chn .ccId) 0

/-- A coherent commit is open at the head (R406). -/
def ccOpen (s : State) : Bool := s.ccExpected.any s.ccArmedAt

/-- CHN_CC_ARMED at the head: the modules armed with the ID. -/
def showArms (s : State) : State :=
  if s.isHead then s.wr (.chn .ccArmedMask) 0 (maskOf 64 fun i => s.ccArmedAt (i + 1)) else s

/-- The module's own ARM state (R404, R57, R435): 0 disarmed, 1 armed, 2 excluded. -/
def ownArmState (s : State) : Nat :=
  let st := s.rd (.eph .statusState) 0
  if st == 3 || st == 4 || s.chnAddr == 0 || s.rd (.pwr .stateState) 0 == 5 || (s.eph.inForce.isSome && s.eph.landed.isEmpty)
      || s.chn.armed.any fun c => s.inHeld (Fin.ofNat 4 c) then 2
  else if s.chn.armed.isEmpty then 0 else 1

/-- The armed clusters as a mask. -/
def armedMask (s : State) : Nat := maskOf 4 fun c => s.chn.armed.contains c

/-- Report one's own ARM state: upstream, outside the quiet window (R394), or at the head into its own table (R403). -/
def sendArm (s : State) : State :=
  if s.isHead then
    (s.modChn fun k => { k with arms := putArm k.arms ⟨1, s.chn.armId, s.ownArmState, s.armedMask⟩ }).showArms
  else if s.quietCut then s
  else s.sendChain 0 0x07 1 0 [s.chn.armId, s.ownArmState, s.armedMask]

/-- The module disarms; its armed clusters' commits are withdrawn as under R142, OUTCOME is recorded and event 0x2148
raised (R409). -/
def abortCoherent (s : State) (id f outcome : Nat) : State :=
  let armed := s.chn.armed
  let s := (allClusters.filter fun c => armed.contains c.val).foldl withdrawCommit s
  let s := (s.setArmed []).wr (.chn .ccOutcome) 0 outcome
  s.report .chn 0 0x2148 [(1, id), (4, f), (1, b2n !armed.isEmpty), (1, outcome)]

/-- A change of address or of the chain's length (R409): what the head knew of the modules is known by other addresses now, and a commit that is
open, which its first DEFER shows (R406, R407), ends with OUTCOME 3 in every module, armed or not. -/
def enumAbort (s : State) : State :=
  let s := (s.modChn fun k => { k with arms := [] }).showArms
  if s.rd (.chn .ccDefers) 0 == 0 then s else
  (s.abortCoherent (if s.chn.armed.isEmpty then s.rd (.chn .ccId) 0 else s.chn.armId) (s.rd (.chn .wframeF) 0) 3).wr (.chn .ccDefers) 0 0

/-- The armed clusters land at the first meridian at or after an instant S(f) − 64 PCLK (R408). -/
def landFrom (s : State) (sync : Nat) : State :=
  (allClusters.filter fun c => s.chn.armed.contains c.val).foldl (fun s c => s.modChr c fun k => { k with coherentGo := some sync }) s

/-- S(f) − 64 PCLK in CCLK of an announced wall frame. -/
def landingOf (s : State) (x : Fsync) : Nat := (s.wallCclk x.sync - 128).toNat

/-- A GO reaches the module (R408): armed with its ID, each armed cluster lands at its first meridian at or after S(f) − 64 PCLK. With CUT above
200 µs the GO comes before the FSYNC that announces S(f), and the module waits for it (R402, R407). -/
def takeGo (s : State) (id f : Nat) : State :=
  if s.chn.armed.isEmpty || s.chn.armId != id then s else
  let s := (allClusters.filter fun c => s.chn.armed.contains c.val).foldl (fun s c => s.modChr c fun k => { k with waited := true }) s
  let known := s.chn.fsync.filter fun x => f ≤ x.frame
  (match known with
    | some x => s.landFrom (s.landingOf x)
    | none => s.modChn fun k => { k with goFrame := some f }).wr (.chn .ccFrameF) 0 f

/-- After a GO the head knows no module armed with its ID any more; after an ABORT none at all. An exclusion lasts until the module's next ARM
(R406, R409). -/
def forgetArmed (s : State) (all : Bool) : State :=
  (s.modChn fun k => { k with arms := k.arms.filter fun x => x.state != 1 || (!all && x.id != s.rd (.chn .ccId) 0) }).showArms

/-- A DEFER reaches the module (R409). -/
def takeDefer (s : State) (count : Nat) : State := s.wr (.chn .ccDefers) 0 count

/-- The wall frame whose low 32 bits a message carries: the next one at or after the last known. -/
def wallFrameOf (s : State) (low : Nat) : Nat :=
  let w := s.rd (.chn .wframeF) 0
  let f := w / 2 ^ 32 * 2 ^ 32 + low
  if f < w then f + 2 ^ 32 else f

/-! ### Enumeration (R395 to R397) -/

/-- The module takes an address (R397): a change raises event 0x1141, counts, and ends an open commit. -/
def setAddr (s : State) (a gen : Nat) : State :=
  let old := s.chnAddr
  let s := s.wr (.chn .addrGen) 0 gen
  if old == a then s else
  ((((s.wr (.chn .addrAddr) 0 a).bump (.chn .cntReenums) 0).report .chn 0 0x1141 [(1, old), (1, a), (1, gen)])).enumAbort

/-- ENUM downstream, with one's own address (R395). -/
def sendEnum (s : State) : State := s.sendChain 1 0x03 0xFF 0 [s.chnAddr, s.rd (.chn .addrGen) 0]

/-- The head enumerates the chain (R395) and sends the wall tag that it keeps to every module (R30). DESIGN CHOICE (log entry 118): a head whose Almanac
holds no wall tag sends none. -/
def enumerate (s : State) : State :=
  let s := s.sendEnum
  match s.almVal 0x0109 with
  | some tag => s.emit (.wallTag ((tag ++ List.replicate 256 0).take 256))
  | none => s

/-- The head takes the chain length (R395): a change of N increments GEN, sends ENUM and ends an open commit (R409). -/
def takeLength (s : State) (n : Nat) (past : Bool) : State :=
  let old := s.rd (.chn .addrN) 0
  let s := (s.wr (.chn .addrN) 0 n).wrb (.chn .addrOver) 0 past
  if old == n then s else ((s.wr (.chn .addrGen) 0 ((s.rd (.chn .addrGen) 0 + 1) % 256)).enumerate).enumAbort

/-- A wall sync instant is announced (R402); a GO that came before it has its landing instant now (R408). -/
def takeFsync (s : State) (f sync : Nat) : State :=
  let s := ((s.wr (.chn .wframeF) 0 f).wr (.chn .wsyncS) 0 sync).modChn fun k => { k with fsync := some ⟨f, sync⟩, fsyncAt := s.now }
  match s.chn.goFrame with
  | some g => if g ≤ f then (s.landFrom (s.landingOf ⟨f, sync⟩)).modChn fun k => { k with goFrame := none } else s
  | none => s

/-- The wall frame that D(f) decides (R407): the one last announced, or the next one where D(f) = S(f) − CUT comes before its announcement 200 µs
ahead of S(f) (R402). -/
def decisionFrame (s : State) : Nat :=
  let w := s.rd (.chn .wframeF) 0
  if 200 < s.rd (.chn .ccCfgCut) 0 then (w + 1) % 2 ^ 64 else w

end State

/-- HEAD_ELECTION (R395, R397): with no valid character on CHAIN_IN the module takes address 1 and becomes head. -/
def execHeadElection (t : Nat) (s : State) : Result :=
  let s := s.advance t
  if !s.domOn 8 || s.chn.rx[0] || s.isHead then .next s else
  .next (((s.setAddr 1 (s.rd (.chn .addrGen) 0)).wr (.chn .addrHead) 0 1).report .chn 0 0x1142 [(1, 1)])

/-- ENUM_TICK (R30, R395): the head sends ENUM and the wall tag; a head whose CHAIN_OUT receive lane is down is the whole chain. -/
def execEnumTick (t : Nat) (s : State) : Result :=
  let s := s.advance t
  if !s.isHead || s.quietCut then .next s else
  let s := s.enumerate
  .next (if s.chn.rx[1] then s else s.takeLength 1 false)

/-- ENUM (R30, R395 to R397): the address becomes the sender's plus 1, the head role is given up, ENUM goes on downstream, and
the last module answers with ENUMDONE; past address 64 the address is 0. -/
def execEnum (t : Nat) (m : EnumMsg) (s : State) : Result :=
  let tag := m.tag
  let m := m.bytes.map BitVec.toNat
  .next ((s.advance t).chainRecv 0x03 m fun s =>
    let from' := msgField m 4 1
    let gen := msgField m 5 1
    let a := if from' == 0 || 64 ≤ from' then 0 else from' + 1
    let s := if s.isHead then
        ((s.wr (.chn .addrHead) 0 0).wr (.chn .addrOver) 0 0).report .chn 0 0x1142 [(1, 0)] else s
    let s := match tag with
      | some b => s.modChn fun k => { k with wallTag := b.map BitVec.toNat }
      | none => s
    let s := s.setAddr a gen
    let first := from' == 64
    let s := if first && !s.chn.beyond then s.report .chn 0 0x2143 [] else s
    let s := s.modChn fun k => { k with beyond := first }
    let s := s.sendEnum
    if a == 0 then s
    else if !s.chn.rx[1] then s.sendChain 0 0x04 1 0 [a, gen, 0]
    else if a == 64 then s.sendChain 0 0x04 1 0 [64, gen, 1] else s)

/-- ENUMDONE (R395, R396): the head takes N and OVER; any other module forwards it upstream. -/
def execEnumdone (t : Nat) (m : List Byte) (s : State) : Result :=
  let m := m.map BitVec.toNat
  .next ((s.advance t).chainRecv 0x04 m fun s =>
    if s.isHead then s.takeLength (msgField m 4 1) (bit (msgField m 6 1) 0) else s.emit (.chain 0 m))

/-- PING_TICK (R398): PING upstream. -/
def execPingTick (t : Nat) (s : State) : Result :=
  let s := s.advance t
  if !s.domOn 8 || s.quietCut then .next s else
  let s := s.modChn fun k => { k with pingSeq := (k.pingSeq + 1) % 2 ^ 32, pingAt := s.now }
  .next (s.sendChain 0 0x05 0xFF 0 (leBytes 4 s.chn.pingSeq))

/-- PING (R398): PONG with the turnaround, in 1/512 tick from the PING's SOF to the PONG's. -/
def execPing (t : Nat) (m : List Byte) (turn : Nat) (s : State) : Result :=
  let m := m.map BitVec.toNat
  .next ((s.advance t).chainRecv 0x05 m fun s =>
    s.sendChain 1 0x06 0xFF 0 ((m.drop 4).take 4 ++ leBytes 4 turn))

/-- PONG (R398): one measurement of the hop latency; CHN_HOP is the mean of the last 16. `sub` is the arrival within the
CCLK, in 1/512 tick. -/
def execPong (t : Nat) (m : List Byte) (sub : Fin 8) (s : State) : Result :=
  let m := m.map BitVec.toNat
  .next ((s.advance t).chainRecv 0x06 m fun s =>
    if msgField m 4 4 != s.chn.pingSeq then s else
    let trip := (s.now - s.chn.pingAt) * 8 + sub.val
    let hops := (((trip - msgField m 8 4) / 2) :: s.chn.hops).take 16
    (s.modChn fun k => { k with hops := hops }).wr (.chn .hopLat) 0 (hops.sum / hops.length))

/-- TIME_TICK (R399, R400): the head sends TIME, VALID once its wall time has been set. -/
def execTimeTick (t : Nat) (s : State) : Result :=
  let s := s.advance t
  if !s.isHead || s.quietCut then .next s else
  .next (s.sendChain 1 0x01 0 (s.rd (.chn .wtStatValid) 0) (leBytes 8 (s.wall512 / 8).toNat ++ leBytes 4 0))

/-- TIME (R399 to R401): the wall time at the SOF's arrival is T0 + CORR + L; an error above 1 µs is a step, a smaller one
is trimmed away; the message goes on with CORR increased by L and the forwarding delay `fwd`. `sub` is the arrival within
the CCLK; both are in 1/512 tick. -/
def execTime (t : Nat) (m : List Byte) (sub : Fin 8) (fwd : Nat) (s : State) : Result :=
  let m := m.map BitVec.toNat
  let out := fun (s : State) => rewriteMsg m 12 (leBytes 4 (msgField m 12 4 + s.rd (.chn .hopLat) 0 + fwd))
  .next ((s.advance t).chainDown 0x01 m out fun s =>
    let lat := s.rd (.chn .hopLat) 0
    let corr := msgField m 12 4 + lat
    let err : Int := (msgField m 4 8 * 8 + corr : Nat) - (s.wall512 + sub.val)
    let s := (s.wr (.chn .wtErrErr) 0 (unsigned 32 err)).wr (.chn .corrCorr) 0 corr
    let s := s.modChn fun k => { k with lastTime := some s.now, timeLost := false }
    let s := if 12800 < |err| then s.stepWall err else
      let s := s.foldTrim
      s.modChn fun k => { k with trim := err }
    if bit (msgField m 3 1) 0 then { s.wr (.chn .wtStatValid) 0 1 with pwr := { s.pwr with refLost := false } } else s)

/-- TIME_TIMEOUT (R400): no TIME for 10 ms; the module keeps counting, event 0x214A once. -/
def execTimeTimeout (t : Nat) (s : State) : Result :=
  let s := s.advance t
  match s.chn.lastTime with
  | some l =>
    .next (if s.isHead || s.chn.timeLost || s.now < l + msCclk 10 then s else
      (s.modChn fun k => { k with timeLost := true }).report .chn 0 0x214A [])
  | none => .next s

/-- WALL_TIME_SET (R400, R401): CHN_CTRL.WTSET at the head steps it to CHN_WT_SET and sets VALID. -/
def execWallTimeSet (t : Nat) (s : State) : Result :=
  let s := s.advance t
  if !s.isHead then .next s else
  let d : Int := (s.rd (.chn .wtSetTime) 0 * 512 : Nat) - s.wall512
  .next ((s.stepWall d).wr (.chn .wtStatValid) 0 1)

/-- The next wall sync instant of the head's free period, in 1/64 tick (R402): a period after the last one; from now where none stands or the last
one lies out of reach, as after a step of the wall time. -/
def State.freeSync (s : State) : Int :=
  let lead : Int := s.wall512 / 8 + (usCclk 200 : Nat)
  let per : Int := s.rd (.chn .fsPeriodPeriod) 0
  match s.chn.fsync with
  | none => lead
  | some x => if (x.sync : Int) + per < s.wall512 / 8 || lead + per < x.sync + per then lead else x.sync + per

/-- FSYNC_TICK (R402): the head announces S(f) 200 µs ahead, and not before: an instant of its free period, or its own cluster's next meridian under
SRC = 1. -/
def execFsyncTick (t : Nat) (s : State) : Result :=
  let s := s.advance t
  if !s.isHead || !s.on (.chn .fsCfgEn) 0 then .next s else
  let c : Fin 4 := Fin.ofNat 4 (s.rd (.chn .fsCfgClus) 0)
  let own := s.on (.chn .fsCfgSrc) 0 && s.lockSrc c != 2 && s.chr[c].running
  let sync := (if own then (s.wall512 / 8) + (s.chr[c].nextM - s.now : Nat) else s.freeSync).toNat
  let early := decide (s.wall512 / 8 + (usCclk 200 : Nat) < sync) || (own && s.chn.fsync.any fun x => x.sync == sync)
  if early then .next s else
  let f := (s.rd (.chn .wframeF) 0 + 1) % 2 ^ 64
  .next ((s.takeFsync f sync).sendChain 1 0x02 0 0 (leBytes 4 f ++ leBytes 8 sync))

/-- FSYNC (R402): S(f) is announced for chain-locked clusters, and forwarded. -/
def execFsync (t : Nat) (m : List Byte) (s : State) : Result :=
  let m := m.map BitVec.toNat
  .next ((s.advance t).chainDown 0x02 m (fun _ => m) fun s =>
    s.takeFsync (s.wallFrameOf (msgField m 4 4)) (msgField m 8 8))

/-- CHAIN_LANE_CHANGE (R393, R395): a port's receive lane comes up or goes down; a downstream change reaches the head's
GEN at once. The event's direction code is not in the manual. -/
def execChainLaneChange (t : Nat) (port : Fin 2) (up : Bool) (s : State) : Result :=
  let s := s.advance t
  if !s.domOn 8 || s.chn.rx[port] == up then .next s else
  let s := s.modChn fun k => { k with rx := k.rx.set port up }
  let d := s.freeBits 8
  let s := d.2.report .port port (if up then 0x1981 else 0x2982) [(1, port), (1, d.1)]
  .next (if port == 1 && s.isHead then
      let s := (s.wr (.chn .addrGen) 0 ((s.rd (.chn .addrGen) 0 + 1) % 256)).enumerate
      if up then s else s.takeLength 1 false
    else s)

/-- COHERENT_ARM (R403, R404): CHN_CC.ARM freezes the armed set; with no cluster, or at address 0 (R396), it is ignored and
ERR reads 1. -/
def execCoherentArm (t : Nat) (s : State) : Result :=
  let s := s.advance t
  let set : List Nat := (allClusters.filter fun (c : Fin 4) =>
    s.clusterOn c && s.on (.chr .commitReq) c && s.on (.chr .commitMode) c).map Fin.val
  if set.isEmpty || s.chnAddr == 0 then .next (s.wr (.chn .ccErr) 0 1) else
  let s := ((s.wr (.chn .ccErr) 0 0).setArmed set).modChn fun k => { k with armId := s.rd (.chn .ccId) 0 }
  .next s.sendArm

/-- ARM_RESEND (R403, R404): an armed module sends ARM again, and so does one that reports itself excluded. -/
def execArmResend (t : Nat) (s : State) : Result :=
  let s := s.advance t
  .next (if !s.domOn 8 || s.ownArmState == 0 || s.quietCut then s else s.sendArm)

/-- ARM (R403, R406): the head updates what it knows of the sender; any other module relays the message. -/
def execArm (t : Nat) (m : List Byte) (s : State) : Result :=
  let m := m.map BitVec.toNat
  .next ((s.advance t).chainRecv 0x07 m fun s =>
    if s.isHead then
      (s.modChn fun k => { k with arms := State.putArm k.arms ⟨msgField m 2 1, msgField m 4 1, msgField m 5 1, msgField m 6 1⟩ }).showArms
    else s.emit (.chain 0 m))

/-- COMMIT_DECISION (R407 to R409): at D(f) the head sends GO, DEFER or ABORT by the armed set, and takes part itself. -/
def execCommitDecision (t : Nat) (s : State) : Result :=
  let s := s.advance t
  if !s.isHead then .next s else
  let id := s.rd (.chn .ccId) 0
  let f := s.decisionFrame
  let n := s.rd (.chn .ccDefers) 0
  let missing := s.ccExpected.filter fun a => !s.ccArmedAt a
  if !s.ccOpen then .next (s.wr (.chn .ccDefers) 0 0)
  else if missing.isEmpty then
    let s := ((s.sendChain 1 0x08 0 0 (id :: leBytes 4 f)).takeGo id f).wr (.chn .ccDefers) 0 0
    .next (s.forgetArmed false)
  else if n < 8 then
    let s := (s.sendChain 1 0x09 0 0 (id :: leBytes 4 f ++ [n + 1, missing.length])).takeDefer (n + 1)
    .next (if n == 0 then
      s.report .chn 0 0x2147 [(1, id), (4, f), (1, missing.length), (1, missing.head?.getD 0)] else s)
  else
    let s := (s.sendChain 1 0x0A 0 0 (id :: leBytes 4 f)).abortCoherent id f 2
    .next ((s.wr (.chn .ccDefers) 0 0).forgetArmed true)

/-- GO (R408): forwarded, and taken when the module is armed with its ID; no defer stands any more. -/
def execGo (t : Nat) (m : List Byte) (s : State) : Result :=
  let m := m.map BitVec.toNat
  .next ((s.advance t).chainDown 0x08 m (fun _ => m) fun s =>
    (s.takeGo (msgField m 4 1) (s.wallFrameOf (msgField m 5 4))).wr (.chn .ccDefers) 0 0)

/-- DEFER (R409): forwarded; DEFERS shows the count. -/
def execDefer (t : Nat) (m : List Byte) (s : State) : Result :=
  let m := m.map BitVec.toNat
  .next ((s.advance t).chainDown 0x09 m (fun _ => m) fun s => s.takeDefer (msgField m 9 1))

/-- ABORT (R409): forwarded; every module records OUTCOME 2 and disarms, whatever its ID. -/
def execAbort (t : Nat) (m : List Byte) (s : State) : Result :=
  let m := m.map BitVec.toNat
  .next ((s.advance t).chainDown 0x0A m (fun _ => m) fun s =>
    (s.abortCoherent (msgField m 4 1) (s.wallFrameOf (msgField m 5 4)) 2).wr (.chn .ccDefers) 0 0)

/-- TRIG (R410): forwarded away from the side of its arrival, event 0x1149, and the ring freezes with cause 3. -/
def execTrig (t : Nat) (m : List Byte) (port : Fin 2) (s : State) : Result :=
  let m := m.map BitVec.toNat
  .next ((s.advance t).chainRecv 0x0B m fun s =>
    let s := (s.emit (.chain (1 - port.val) m)).report .chn 0 0x1149 [(1, msgField m 4 1), (1, msgField m 5 1)]
    ((s.markTrigger (pathOf .chn 0 0xFF) 0x1149).logTrigger 3).takeTriggers)

/-- CHAIN_WAKE_SEND (R411): CHN_CTRL.WAKE sends WAKE to WAKE_ADDR, or to every module when it is 0, both ways. -/
def execChainWakeSend (t : Nat) (s : State) : Result :=
  let s := s.advance t
  let a := s.rd (.chn .ctrlWakeAddr) 0
  .next (([0, 1] : List Nat).foldl (fun s p => s.sendChain p 0x0C (if a == 0 then 0 else a) 0 [a]) s)

end Sys2Proof.Machine
end

