-- ==== Sys2Proof/Machine/Layers.lean ====
section
/-! DEFINITION. Layers and tiles: a layer's fields in force (R64 to R70), its lease range (R82), the tile grid (R236), and
which output tiles a composed rectangle or a byte range of a buffer reaches (R85, R238). -/

namespace Sys2Proof.Machine

/-- A layer's fields in force. -/
structure LayerCfg where
  en : Bool
  src : Nat
  dpin : Fin 4
  fmt : Nat
  mode : Nat
  cls : Nat
  calpha : Nat
  addr : Nat
  stride : Nat
  x : Int
  y : Int
  cx : Nat
  cy : Nat
  w : Nat
  h : Nat
  fill : Nat
  stamp : Nat
  deriving DecidableEq, Repr

/-- A rectangle of pixels by its first and last column and row, inclusive. -/
structure Rect where
  x0 : Int
  y0 : Int
  x1 : Int
  y1 : Int
  deriving DecidableEq, Repr

/-- Two rectangles share a pixel. -/
def Rect.meets (a b : Rect) : Bool := a.x0 ≤ b.x1 && b.x0 ≤ a.x1 && a.y0 ≤ b.y1 && b.y0 ≤ a.y1 && a.x0 ≤ a.x1 && b.x0 ≤ b.x1
  && a.y0 ≤ a.y1 && b.y0 ≤ b.y1

/-- A rectangle lies inside another. -/
def Rect.within (a b : Rect) : Bool := b.x0 ≤ a.x0 && a.x1 ≤ b.x1 && b.y0 ≤ a.y0 && a.y1 ≤ b.y1

/-- The part of a rectangle inside another. -/
def Rect.clip (a b : Rect) : Rect := ⟨max a.x0 b.x0, max a.y0 b.y0, min a.x1 b.x1, min a.y1 b.y1⟩

/-- Tile width and height of a TSIZE code (R236). -/
def tileSize : Nat → Nat × Nat
  | 0 => (16, 16)
  | 1 => (32, 16)
  | _ => (32, 32)

/-- Add tile numbers to a list without repeats. -/
def addTiles (l new : List Nat) : List Nat := l ++ (new.eraseDups.filter fun t => !l.contains t)

/-- A commit that changes one of these fields ends a layer's lease (R83). -/
def LayerCfg.sameLease (a b : LayerCfg) : Bool :=
  a.addr == b.addr && a.stride == b.stride && a.fmt == b.fmt && a.cx == b.cx && a.cy == b.cy && a.w == b.w && a.h == b.h
  && a.src == b.src && a.en == b.en

/-- The first and last byte of the lease that a layer's fields define (R82). -/
def LayerCfg.leaseRange (k : LayerCfg) : Nat × Nat := (k.addr + k.cy * k.stride, k.addr + (k.cy + k.h) * k.stride - 1)

/-- A layer holds a lease while its SRC is 0 and EN is 1 (R82); a crop without pixels disables it. -/
def LayerCfg.leases (k : LayerCfg) : Bool := k.en && k.src == 0 && 0 < k.w && 0 < k.h

namespace State

/-- The fields of layer l of a cluster in force. SRC 3 and a crop without pixels count as disabled (R69, PIX_LAYER_CROP_WH). -/
def layerCfg (s : State) (c : Fin 4) (l : Fin 8) : LayerCfg :=
  let i := layerInst c l
  let src := s.rd (.pix .layerCfgSrc) i
  let w := s.rd (.pix .layerCropWhW) i
  let h := s.rd (.pix .layerCropWhH) i
  { en := s.on (.pix .layerCfgEn) i && src != 3 && 0 < w && 0 < h, src := src, dpin := Fin.ofNat 4 (s.rd (.pix .layerCfgDpin) i),
    fmt := s.rd (.pix .layerCfgFmt) i, mode := s.rd (.pix .layerCfgAlpha) i, cls := s.rd (.pix .layerCfgClass) i,
    calpha := s.rd (.pix .layerCfgCalpha) i, addr := s.rd (.pix .layerAddrAddr) i * 256,
    stride := s.rd (.pix .layerStrideStride) i * 64, x := s.rdI (.pix .layerPosX) i, y := s.rdI (.pix .layerPosY) i,
    cx := s.rd (.pix .layerCropXyCx) i, cy := s.rd (.pix .layerCropXyCy) i, w := w, h := h,
    fill := s.rd (.pix .layerFillFill) i, stamp := s.rd (.pix .layerStampStamp) i }

/-- The output's pixels. -/
def outRect (s : State) (c : Fin 4) : Rect := ⟨0, 0, (s.cfg[c].w : Int) - 1, (s.cfg[c].h : Int) - 1⟩

/-- A layer's displayed rectangle, clipped to the output (R65). -/
def layerRect (s : State) (c : Fin 4) (k : LayerCfg) : Rect :=
  (Rect.mk k.x k.y (k.x + k.w - 1) (k.y + k.h - 1)).clip (s.outRect c)

/-- A layer has pixels inside the output (R64). -/
def layerShows (s : State) (c : Fin 4) (k : LayerCfg) : Bool :=
  let r := s.layerRect c k
  r.x0 ≤ r.x1 && r.y0 ≤ r.y1

/-- Tile columns of an output (R41). -/
def tileCols (s : State) (c : Fin 4) : Nat :=
  let tw := (tileSize (s.rd (.frs .tileTsize) c)).1
  (s.cfg[c].w + tw - 1) / tw

/-- Tile rows of an output (R41). -/
def tileRows (s : State) (c : Fin 4) : Nat :=
  let th := (tileSize (s.rd (.frs .tileTsize) c)).2
  (s.cfg[c].h + th - 1) / th

/-- The tiles of an output. -/
def tileCount (s : State) (c : Fin 4) : Nat := s.tileCols c * s.tileRows c

/-- The output pixels of a tile (R236). -/
def tileRect (s : State) (c : Fin 4) (t : Nat) : Rect :=
  let ts := tileSize (s.rd (.frs .tileTsize) c)
  let cols := max 1 (s.tileCols c)
  let x := t % cols * ts.1
  let y := t / cols * ts.2
  (Rect.mk x y (x + ts.1 - 1 : Nat) (y + ts.2 - 1 : Nat)).clip (s.outRect c)

/-- The tiles that output pixels of a rectangle lie in. -/
def tilesOf (s : State) (c : Fin 4) (r : Rect) : List Nat := (List.range (s.tileCount c)).filter fun t => (s.tileRect c t).meets r

/-- The tiles of the rows y0 to y0 + n − 1. -/
def tilesOfRows (s : State) (c : Fin 4) (y0 n : Nat) : List Nat :=
  s.tilesOf c ⟨0, y0, (s.cfg[c].w : Int) - 1, (y0 + n : Nat) - 1⟩

/-- Schedule k of a page of a cluster (R116). -/
def schedOf (s : State) (c : Fin 4) (page k : Nat) : Schedule :=
  readSchedule fun i => s.rd (.pln .schedWord) (c.val * 7680 + page * 3840 + k * 1280 + i)

/-- The three schedules of a page of a cluster. -/
def pageScheds (s : State) (c : Fin 4) (page : Nat) : List Schedule := (List.range 3).map (s.schedOf c page)

/-- Every tile of an output. -/
def allTiles (s : State) (c : Fin 4) : List Nat := List.range (s.tileCount c)

/-- A control point's displacement in force, in 1/128 pixel: axis 0 is DX, 1 is DY (R93). -/
def meshPoint (s : State) (c : Fin 4) (axis i : Nat) : Int :=
  let inst := c.val * 81920 + s.rd (.geo .ctrlMeshPage) c * 40960 + i
  s.rdI (if axis == 0 then .geo .meshDx else .geo .meshDy) inst

/-- Where output pixel (x, y) samples the composed picture, in 1/128 pixel (R92). -/
def warpPos (s : State) (c : Fin 4) (x y : Nat) : Int × Int :=
  if s.on (.geo .ctrlWarpEn) c then
    ((x * 128 : Nat) + meshDisp (s.meshPoint c 0) s.cfg[c].w x y, (y * 128 : Nat) + meshDisp (s.meshPoint c 1) s.cfg[c].w x y)
  else ((x * 128 : Nat), (y * 128 : Nat))

/-- The bounding rectangle of the composed positions that a tile's pixels sample, the filter included (R238). -/
def tileSample (s : State) (c : Fin 4) (t : Nat) : Rect :=
  let r := s.tileRect c t
  if !s.on (.geo .ctrlWarpEn) c then r else
  let xs := (List.range (r.x1 - r.x0 + 1).toNat).map fun i => r.x0.toNat + i
  let ys := (List.range (r.y1 - r.y0 + 1).toNat).map fun i => r.y0.toNat + i
  let pts := ys.flatMap fun y => xs.map fun x => s.warpPos c x y
  match pts with
  | [] => r
  | p :: ps =>
    ps.foldl (fun a q => ⟨min a.x0 (q.1 / 128), min a.y0 (q.2 / 128), max a.x1 (q.1 / 128 + 1), max a.y1 (q.2 / 128 + 1)⟩)
      ⟨p.1 / 128, p.2 / 128, p.1 / 128 + 1, p.2 / 128 + 1⟩

/-- The output tiles that a composed rectangle reaches (R238). -/
def tilesReached (s : State) (c : Fin 4) (r : Rect) : List Nat :=
  (List.range (s.tileCount c)).filter fun t => (s.tileSample c t).meets r

/-- The composed rectangles that bytes `first` to `last` of a host layer's buffer map to, through crop and position (R66, R85): in each row
that the crop reads, the pixels whose bytes meet them. Rows overlap where CX + W exceeds STRIDE. -/
def bytesRects (s : State) (c : Fin 4) (k : LayerCfg) (first last : Nat) : List Rect :=
  let bpp := fmtBytes k.fmt
  (List.range k.h).filterMap fun j =>
    let b0 := k.addr + (k.cy + j) * k.stride + k.cx * bpp
    let b1 := b0 + k.w * bpp - 1
    if last < b0 || b1 < first then none else
    some ((Rect.mk (k.x + ((max first b0 - b0) / bpp : Nat)) (k.y + j) (k.x + ((min last b1 - b0) / bpp : Nat)) (k.y + j)).clip (s.outRect c))

/-- The output tiles that bytes of a host layer's buffer map to (R85, R88). -/
def tilesOfBytes (s : State) (c : Fin 4) (k : LayerCfg) (first last : Nat) : List Nat :=
  let rs := s.bytesRects c k first last
  (List.range (s.tileCount c)).filter fun t => let q := s.tileSample c t; rs.any fun r => q.meets r

end State

end Sys2Proof.Machine
end

