-- ==== Sys2Proof/Machine/Flags.lean ====
section
/-! DEFINITION. Every flag computation of the tiles: which frame a flag belongs to (R248, R255), and the common sources of
torn, reticle-fail and recomputed flags. -/

namespace Sys2Proof.Machine

/-- The kinds of tile flags (R248). -/
inductive TileFlag | torn | rfail | rcmp
  deriving DecidableEq, Repr

/-- Raise a flag on tiles. -/
def TileFlags.raise (f : TileFlags) (k : TileFlag) (tiles : List Nat) : TileFlags :=
  match k with
  | .torn => { f with torn := addTiles f.torn tiles }
  | .rfail => { f with rfail := addTiles f.rfail tiles }
  | .rcmp => { f with rcmp := addTiles f.rcmp tiles }

namespace State

/-- Raise a flag on tiles of a frame that has not closed; during held picture the flag waits for the wake (R248, R255). -/
def flagTiles (s : State) (c : Fin 4) (num : Nat) (k : TileFlag) (tiles : List Nat) : State :=
  s.modPic c fun p =>
    if p.frames.any (fun f => f.num == num) then
      { p with frames := p.frames.map fun f => if f.num == num then { f with flags := f.flags.raise k tiles } else f }
    else if s.chr[c].held.isSome then { p with heldFlags := p.heldFlags.raise k tiles }
    else p

/-- Tiles that a unit's fault flagged join those it is to blame for (R16). -/
def blameUnit (s : State) (c : Fin 4) (num : Nat) (tiles : List Nat) (u : UType) (i : Nat) : State :=
  if tiles.isEmpty then s else
  s.modPic c fun p =>
    let mine := p.blame.filter fun b => b.unit == u && b.inst == i
    { p with blame := ⟨u, i, num, mine.foldl (fun l b => addTiles l b.tiles) tiles⟩ :: p.blame.filter fun b => !(b.unit == u && b.inst == i) }

/-- A unit's fault raises a flag on tiles of a frame (R16, R248). -/
def flagBy (s : State) (c : Fin 4) (num : Nat) (k : TileFlag) (tiles : List Nat) (u : UType) (i : Nat) : State :=
  (s.flagTiles c num k tiles).blameUnit c num tiles u i

/-- The frame of the last meridian. -/
def lastFrame (s : State) (c : Fin 4) : Nat := s.rd (.chr .frameFrame) c

/-- The frame whose dump window or planes are on the array (R135). -/
def shownFrame (s : State) (c : Fin 4) : Nat := s.rd (.chr .showFrame) c

/-- The record of a frame that has not closed. -/
def frameRec (s : State) (c : Fin 4) (num : Nat) : Option FrameRec := s.pic[c].frames.find? fun f => f.num == num

/-- The record of the frame on the array; in held picture, of the frame it replays. -/
def shownRec (s : State) (c : Fin 4) : Option FrameRec :=
  match s.frameRec c (s.shownFrame c) with
  | some f => some f
  | none =>
    let dims := match s.chr[c].held with | some h => h.dims | none => []
    (s.pic[c].replay.map fun f => { f with dim := ((dims.find? fun x => x.1 ≤ s.shownFrame c).map Prod.snd).getD f.dim }) <|> s.pic[c].frames.getLast?

/-- Change the record of a frame. -/
def modFrame (s : State) (c : Fin 4) (num : Nat) (f : FrameRec → FrameRec) : State :=
  s.modPic c fun p => { p with frames := p.frames.map fun x => if x.num == num then f x else x }

end State

end Sys2Proof.Machine
end

