-- ==== Sys2Proof/Machine/Status.lean ====
section
/-! DEFINITION. Summary status (R443), the SMBus status window (R389), and tags (R31, R32, R388, R447). -/

namespace Sys2Proof.Machine

/-- What a tag's source path selects (R388). -/
inductive TagKind | object (oid len : Nat) | die (d : Fin 2) | unit (key : Nat)
  deriving DecidableEq, Repr

namespace State

/-- A cluster's region counts as frozen for it: states 1, 2 and 4, and state 3 until its commit lands (R290). -/
def countsFrozen (s : State) (c : Fin 4) : Bool :=
  let st := s.rd (.hbm .rgnStatState) (regionOf c)
  st == 1 || st == 2 || st == 4 || (st == 3 && s.mem.fallback[c])

/-- A region counts as frozen (GLB_STATUS.FROZEN). -/
def regionFrozen (s : State) (r : Fin 2) : Bool :=
  let st := s.rd (.hbm .rgnStatState) r
  st == 1 || st == 2 || st == 4 || (st == 3 && allClusters.any fun c => regionOf c == r && s.mem.fallback[c])

/-- Any unit of a cluster has DEGR = 1. -/
def clusterDegr (s : State) (c : Fin 4) : Bool :=
  (s.regs.any fun x => match x.fld with
    | .st u .degr => u.inCluster && unitCluster u x.inst == c.val && x.val == 1
    | _ => false)
  || (List.range 16).any fun i => s.unitDegr .slot (16 * c.val + i)

/-- A cluster's output state: 0 dark or absent, 1 normal, 2 degraded, 3 fallback path (R37, R443). -/
def outState (s : State) (c : Fin 4) : Nat :=
  if !s.clusterOn c || s.light[c].darkened || !s.chr[c].running then 0
  else if s.countsFrozen c then 3
  else if s.clusterDegr c || s.rd (.pln .stateKind) c == 1 || s.rd (.pln .stateKind) c == 2 then 2
  else 1

/-- Light is on at an output (R443). -/
def lightOn (s : State) (c : Fin 4) : Bool :=
  s.clusterOn c && s.domOn (9 + c.val) && !s.on (.lsr .outLightoff) c && 0 < s.rd (.lsr .dimStatDimeff) c

/-- Tiles are marked at an output. -/
def anyMarked (s : State) (c : Fin 4) : Bool := s.clusterOn c && (s.domOn 46 || s.running) && 0 < s.rd (.frs .markedCount) c

/-- A field per cluster, cluster 0 lowest. -/
def perCluster (f : Fin 4 → Nat) (w : Nat) : Nat := (allClusters.map fun c => f c * 2 ^ (w * c.val)).sum

/-- FAULT_OUT# is driven low (R372). -/
def faultLow (s : State) : Bool :=
  s.pwr.faultOut || s.rd (.pwr .stateState) 0 == 4 || s.rd (.pwr .stateState) 0 == 5

/-- The module is prime or single (GLB_STATUS.PRIME). -/
def isPrime (s : State) : Bool := s.rd (.par .statRole) 0 != 2

/-- The SMBus status window (R389). Fields of domains that are off read 0. -/
def smbWindow (s : State) : List Nat :=
  let pd1 := fun v => if s.domOn 1 then v else 0
  let flags := b2n s.faultLow + 2 * s.rd (.pwr .thermAlarm) 0 + 4 * pd1 (b2n (s.rd (.eph .statusState) 0 == 4))
    + 8 * b2n s.isPrime + 16 * s.rd (.pwr .stateRefclkOk) 0 + 32 * b2n (s.domOn 3 && s.rd (.arc .stateState) 0 == 3)
    + 64 * b2n s.obsOnline
  [s.rd (.pwr .stateState) 0, s.rd (.pwr .stateStep) 0, s.rd (.chn .addrAddr) 0, flags]
    ++ leBytes 2 (s.rd (.pwr .vinVin) 0) ++ leBytes 2 (s.rd (.pwr .powerPin) 0) ++ leBytes 2 (s.rd (.pwr .tempCompute) 0)
    ++ leBytes 2 (s.rd (.pwr .tempIo) 0) ++ leBytes 2 (s.rd (.pwr .temp2Hbm) 0)
    ++ [perCluster s.outState 2, perCluster (fun c => b2n (s.lightOn c)) 1 + 16 * perCluster (fun c => b2n (s.anyMarked c)) 1]
    ++ leBytes 4 (s.rd (.log .seqSeq) 0) ++ leBytes 2 s.pwr.uEvents ++ leBytes 2 s.pwr.xEvents ++ leBytes 8 s.dev.serial

/-! ### Tags -/

/-- The factory half of a die tag (R28). -/
def dieFactory (s : State) (d : Fin 2) : List Nat :=
  let b := leBytes 8 s.dev.dieSerial[d] ++ leBytes 8 s.dev.serial ++ leBytes 8 s.dev.partner ++ leBytes 2 s.dev.clen
    ++ leBytes 2 (if d == 0 then s.dev.revCompute else s.dev.revIo)
  b ++ leBytes 4 (crc32 b)

/-- The bytes of an object's value, zeros where it has none. -/
def valOr0 (s : State) (oid n : Nat) : List Nat := (((s.almVal oid).getD []) ++ List.replicate n 0).take n

/-- The unit a source path names, if it names one (R33 to R35). -/
def unitAt (path : Nat) : Option (UType × Nat) :=
  UType.all.findSome? fun u =>
    if u.code != path / 2 ^ 16 % 64 then none else
    let n := (u.statusPlace.2.map Prod.fst).foldl (· * ·) 1
    ((List.range n).find? fun i => pathOf u i 0xFF / 256 == path % 2 ^ 26 / 256).map fun i => (u, i)

/-- The tag a source path selects; none when it names no tag, or an absent cluster (R447). -/
def tagKind (s : State) (path : Nat) : Option TagKind :=
  let c := path / 2 ^ 22 % 4
  match path / 2 ^ 16 % 64 with
  | 0x01 => if s.clusterOn c then some (.object (0x0100 + c) 64) else none
  | 0x02 => some (.object (0x0104 + path / 2 ^ 24 % 2) 64)
  | 0x03 => some (.die (Fin.ofNat 2 (path / 2 ^ 25)))
  | 0x04 => some (.object 0x0108 256)
  | 0x05 => if path / 256 % 256 == 1 then some (.object 0x0109 256) else none
  | _ => match unitAt path with
    | some (u, i) => if u.inCluster && !s.clusterOn (unitCluster u i) then none else some (.unit (pathOf u i 0xFF))
    | none => none

/-- The bytes of a tag (R388). A module that is not head returns the wall tag that the head has sent it (R30). -/
def tagBytes (s : State) : TagKind → List Nat
  | .object oid n =>
    if oid == 0x0109 && !s.on (.chn .addrHead) 0 && !s.chn.wallTag.isEmpty then (s.chn.wallTag ++ List.replicate n 0).take n else s.valOr0 oid n
  | .die d => s.dieFactory d ++ s.valOr0 (0x0106 + d.val) 32
  | .unit k =>
    let own : List Nat := ((s.host.unitTags.find? fun x => x.1 == k).map Prod.snd).getD []
    (own ++ List.replicate 32 0).take 32

/-- A tag write (R30 to R32, R388): the state afterwards and the answer. The head sends a new wall tag to every module (R30). -/
def writeTag (s : State) (path : Nat) (bytes : List Nat) : State × Reply :=
  match s.tagKind path with
  | none => (s, .fail 7 0)
  | some (.object oid n) =>
    if bytes.length != n then (s, .fail 4 0)
    else if oid == 0x0109 && !s.on (.chn .addrHead) 0 then (s, .fail 6 1)
    else
      let s := s.almRequest oid bytes
      (if oid == 0x0108 then { s with host := { s.host with smbTag := bytes } }
        else if oid == 0x0109 then s.emit (.wallTag bytes) else s, .ok)
  | some (.die d) =>
    if bytes.length == 64 then (s, .fail 6 2)
    else if bytes.length != 32 then (s, .fail 4 0)
    else (s.almRequest (0x0106 + d.val) bytes, .ok)
  | some (.unit k) =>
    if bytes.length != 32 then (s, .fail 4 0)
    else ({ s with host := { s.host with unitTags := putVal s.host.unitTags k bytes } }, .ok)

end State

end Sys2Proof.Machine
end

