-- ==== Sys2Proof/Machine/Compose.lean ====
section
/-! DEFINITION. Composition: what the layer fetchers read (R66 to R70, R77, R88, R285), the composed picture (R64 to R69, R287),
warp and colour (R91 to R101), the plate copy (R103, R104), tile CRCs (R257) and plane data (R105, R123, R125). -/

namespace Sys2Proof.Machine
namespace State

/-- The region of an HBM address (R264). -/
def addrRegion (a : Nat) : Nat := a / 2 ^ 33 % 2

/-! ### Layer content -/

/-- A pixel at an HBM address; none where the region issues no reads. -/
def hbmPixel (s : State) (fmt bpp a : Nat) : Option LPx :=
  if s.regionStopped (addrRegion a) then none else some (decodePixel fmt (cellWord s.hbm (a % hbmEnd) bpp))

/-- The copy from which a static layer is read (R294): complete, and not on the fallback path. -/
def cachedCopy (s : State) (c : Fin 4) (l : Fin 8) : Option CacheCopy :=
  if s.mem.fallback[c] then none else s.mem.cache.find? fun x => x.c == c.val && x.l == l.val && x.since < s.lastFrame c

/-- PIX_BG, expanded. -/
def background (s : State) (c : Fin 4) : Px :=
  ⟨expand16 10 (s.rd (.pix .bgRed) c), expand16 10 (s.rd (.pix .bgGreen) c), expand16 10 (s.rd (.pix .bgBlue) c)⟩

/-- An opaque layer pixel. -/
def opaquePx (x : Px) : LPx := ⟨x.r, x.g, x.b, 65535⟩

/-- The first byte of the receiver's buffer that holds a frame (R71). DESIGN CHOICE: the three buffers stand a third of the DPIN partition
apart (log entry 104). -/
def dpBuffer (s : State) (i : Fin 4) (f : DpFrame) : Nat := s.dp[i].base + f.buf * s.dp[i].slot

/-- Pixel (i, j) of a layer's crop (R66, R69, R75), of a static layer from its copy if it has one (R294); none of a DisplayPort buffer in a region
that issues no reads (R285). -/
def cropPixel (s : State) (c : Fin 4) (k : LayerCfg) (copy : Option CacheCopy) (frame : Option DpFrame) (i j : Nat) : Option LPx :=
  match k.src with
  | 2 => some (opaquePx (colour30 k.fill))
  | 1 =>
    if s.regionStopped (addrRegion s.dp[k.dpin].base) then none else
    match frame with
    | none => some (opaquePx (s.background c))
    | some f =>
      if f.w ≤ k.cx + i ∨ f.h ≤ k.cy + j then some (opaquePx (s.background c))
      else s.hbmPixel 5 4 (s.dpBuffer k.dpin f + ((k.cy + j) * f.w + k.cx + i) * 4)
  | _ =>
    let a := k.addr + (k.cy + j) * k.stride + (k.cx + i) * fmtBytes k.fmt
    match copy with
    | some x => some (decodePixel k.fmt (cellWord x.cells (a % hbmEnd) (fmtBytes k.fmt)))
    | none => s.hbmPixel k.fmt (fmtBytes k.fmt) a

/-- A layer's content as composition takes it; none for a layer that is disabled or whose fetcher has stopped (R64). -/
def fetchLayer (s : State) (c : Fin 4) (l : Fin 8) (frame : Option DpFrame) : Option Plane2d :=
  let k := s.layerCfg c l
  if !k.en || s.halted .layer (layerInst c l) then none else
  some { x := k.x, y := k.y, w := k.w, h := k.h,
         img := (List.range k.h).flatMap fun j => (List.range k.w).map fun i => s.cropPixel c k (s.cachedCopy c l) frame i j,
         mode := k.mode, calpha := k.calpha }

/-- The frame of an input that a meridian at m takes: the newest that completed 16 PCLK or more before it (R77). -/
def dpFrameAt (s : State) (i : Fin 4) (m : Nat) : Option DpFrame := s.dp[i].frames.find? fun f => f.done + 32 ≤ m

/-- The pixel of a fetched layer at composed (x, y). -/
def planePixelAt (p : Option Plane2d) (x y : Int) : Option LPx :=
  p.bind fun p =>
    if x < p.x ∨ y < p.y ∨ p.x + p.w ≤ x ∨ p.y + p.h ≤ y then none
    else p.img.getD ((y - p.y).toNat * p.w + (x - p.x).toNat) none

/-- A layer's content with the pixels inside some rectangles replaced by those of the frame before (R88). -/
def keepPrevious (rects : List Rect) (prev : Option Plane2d) (p : Plane2d) : Plane2d :=
  { p with img := (p.img.zipIdx).map fun q =>
      let x := p.x + (q.2 % max 1 p.w : Nat)
      let y := p.y + (q.2 / max 1 p.w : Nat)
      if rects.any fun r => r.x0 ≤ x && x ≤ r.x1 && r.y0 ≤ y && y ≤ r.y1 then planePixelAt prev x y else q.1 }

/-- A layer's content without its pixels from composed line y0 through y1 (R89). -/
def dropLines (y0 y1 : Int) (p : Plane2d) : Plane2d :=
  { p with img := (p.img.zipIdx).map fun q =>
      let y := p.y + (q.2 / max 1 p.w : Nat)
      if y0 ≤ y && y ≤ y1 then none else q.1 }

/-! ### The fallback source (R286, R287) -/

/-- The designated layer (R286). -/
def fbLayer (s : State) (c : Fin 4) : Fin 8 := Fin.ofNat 8 (s.rd (.plt .fbCfgLayer) (fbInst c))

/-- The bytes per pixel of a fallback buffer. -/
def fbBpp (s : State) (c : Fin 4) : Nat := if s.on (.plt .fbCfgFmt) (fbInst c) then 3 else 2

/-- The plate-store address of pixel (i, j) of a fallback buffer. -/
def fbAddr (s : State) (c : Fin 4) (i j : Nat) : Nat :=
  c.val / 2 * 2 ^ 26 + s.rd (.plt .fbBaseBase) (fbInst c) * 64 + j * (s.rd (.plt .fbPitchPitch) (fbInst c) * 64) + i * s.fbBpp c

/-- The fallback source as composition-lite places it: at the POS of before the path was entered, opaque (R90, R287). -/
def fbPlane (s : State) (c : Fin 4) : Plane2d :=
  let k := s.mem.fbHold[c]
  let wh := s.fbSize c
  { x := k.x, y := k.y, w := wh.1, h := wh.2,
    img := (List.range wh.2).flatMap fun j => (List.range wh.1).map fun i =>
      some (decodePixel (b2n (s.on (.plt .fbCfgFmt) (fbInst c))) (cellWord s.plate (s.fbAddr c i j) (s.fbBpp c))),
    mode := 0, calpha := 0xFFFF }

/-! ### The colour path -/

/-- The clone source of a cluster, if it clones one (R80). -/
def cloneSrc (s : State) (c : Fin 4) : Option (Fin 4) :=
  if s.on (.pix .cloneEn) c then some (Fin.ofNat 4 (s.rd (.pix .cloneSrc) c)) else none

/-- A clone source gives black (R22): it is darkened, or its composition has stopped. A held source keeps its picture. -/
def cloneBlack (s : State) (q : Fin 4) : Bool := s.light[q].darkened || (!s.unitRun .comp q && s.chr[q].held.isNone)

/-- An entry of the LUT page in force. -/
def lutEntry (s : State) (c : Fin 4) (out : Bool) (p i : Nat) : Nat :=
  let inst := c.val * 6150 + s.rd (.geo .ctrlLutPage) c * 3075 + p * 1025 + i
  s.rd (if out then .geo .olutEntry else .geo .ilutEntry) inst

/-- Stage 2 or 5 on one pixel (R98). -/
def lutPx (s : State) (c : Fin 4) (out : Bool) (v : Px) : Px :=
  if s.on (if out then .geo .ctrlOlutEn else .geo .ctrlIlutEn) c then
    ⟨lut1d (s.lutEntry c out 0) v.r, lut1d (s.lutEntry c out 1) v.g, lut1d (s.lutEntry c out 2) v.b⟩
  else v

/-- Coefficient (p, j) of the matrix after loop correction, and whether it saturated (R99). -/
def mtxAt (s : State) (c : Fin 4) (p j : Nat) : Int × Bool :=
  let i := c.val * 9 + 3 * p + j
  mtxCoef (s.on (.geo .ctrlCorrEn) c) (s.rdI (.geo .mtxCoef) i) (s.rdI (.geo .mtxDirCoef) i)
    (s.rdI (.geo .mtxCorrCorr) (c.val * 3 + p))

/-- Stage 3 on one pixel, and how many components it clamped (R99). -/
def mtxPx (s : State) (c : Fin 4) (v : Px) : Px × Nat :=
  if s.on (.geo .ctrlMtxEn) c then
    let row := fun p => mtxRow (s.mtxAt c p 0).1 (s.mtxAt c p 1).1 (s.mtxAt c p 2).1 v
    (⟨(row 0).1, (row 1).1, (row 2).1⟩, b2n (row 0).2 + b2n (row 1).2 + b2n (row 2).2)
  else (v, 0)

/-- The blend gain of an output pixel (R97). -/
def blendAt (s : State) (c : Fin 4) (x y : Nat) : Nat :=
  if !s.on (.geo .ctrlBlendEn) c then 65536 else
  let tab := fun e i => s.rd (.geo .blendGain) (c.val * 512 + s.rd (.geo .ctrlLutPage) c * 256 + e * 64 + i)
  let wd := fun f => min 1024 (s.rd f c)
  blendGain [edgeGain (tab 0) (wd (.geo .blendW0Left)) x, edgeGain (tab 1) (wd (.geo .blendW0Right)) (s.cfg[c].w - 1 - x),
    edgeGain (tab 2) (wd (.geo .blendW1Top)) y, edgeGain (tab 3) (wd (.geo .blendW1Bottom)) (s.cfg[c].h - 1 - y)]

/-- The uniformity gain of primary p at an output pixel (R101). -/
def uniAt (s : State) (c : Fin 4) (p x y : Nat) : Nat :=
  if !s.on (.geo .ctrlUniEn) c then 0x8000 else
  uniGain (fun i => bits (s.rd (.geo .uniG) (c.val * 18432 + s.rd (.geo .ctrlUniPage) c * 9216 + i)) (16 * p) 16) s.cfg[c].w x y

/-- Stage 4 on one pixel (R101). -/
def gainPx (s : State) (c : Fin 4) (x y : Nat) (v : Px) : Px :=
  let b := s.blendAt c x y
  ⟨gainStage v.r (s.uniAt c 0 x y) b, gainStage v.g (s.uniAt c 1 x y) b, gainStage v.b (s.uniAt c 2 x y) b⟩

/-- Stage 1 at an output pixel (R92). -/
def warpPx (s : State) (c : Fin 4) (comp : List Px) (x y : Nat) : Px :=
  let edge := colour30 (s.rd (.geo .edgeColour) c)
  let pos := s.warpPos c x y
  if s.on (.geo .ctrlWarpEn) c then warpPixel (pictureAt s.cfg[c].w s.cfg[c].h comp edge) pos.1 pos.2
  else pictureAt s.cfg[c].w s.cfg[c].h comp edge x y

/-- Stages 1 to 5 at an output pixel, and how many components stage 3 clamped (R91). -/
def stage5Px (s : State) (c : Fin 4) (comp : List Px) (x y : Nat) : Px × Nat :=
  let m := s.mtxPx c (s.lutPx c false (s.warpPx c comp x y))
  (s.lutPx c true (s.gainPx c x y m.1), m.2)

/-- The whole stage-5 picture with the count of clamped components. -/
def stage5 (s : State) (c : Fin 4) (comp : List Px) : List Px × Nat :=
  let r := (List.range s.cfg[c].h).flatMap fun y => (List.range s.cfg[c].w).map fun x => s.stage5Px c comp x y
  (r.map Prod.fst, (r.map Prod.snd).sum)

/-- The table words that an output pixel used, by table and index (R102); where an input falls on an entry, the next one is not used (R98). -/
def wordsUsed (s : State) (c : Fin 4) (comp : List Px) (x y : Nat) : List (TableId × Nat) :=
  let lut := fun (p v : Nat) => (1025 * p + v / 64) :: (if v % 64 == 0 then [] else [1025 * p + v / 64 + 1])
  let luts := fun (v : Px) => lut 0 v.r ++ lut 1 v.g ++ lut 2 v.b
  let w := s.warpPx c comp x y
  let m := (s.mtxPx c (s.lutPx c false w)).1
  let g := s.gainPx c x y m
  let edge := fun (e wd d : Nat) => if d < wd then [64 * e + d * 63 / wd, 64 * e + d * 63 / wd + 1] else []
  let wd := fun f => min 1024 (s.rd f c)
  (if s.on (.geo .ctrlWarpEn) c then (meshTaps s.cfg[c].w x y).map fun t => (TableId.mesh, t.1) else [])
  ++ (if s.on (.geo .ctrlIlutEn) c then (luts w).map fun i => (TableId.ilut, i) else [])
  ++ (if s.on (.geo .ctrlUniEn) c then (uniTaps s.cfg[c].w x y).map fun t => (TableId.uni, t.1) else [])
  ++ (if s.on (.geo .ctrlBlendEn) c then
        (edge 0 (wd (.geo .blendW0Left)) x ++ edge 1 (wd (.geo .blendW0Right)) (s.cfg[c].w - 1 - x)
          ++ edge 2 (wd (.geo .blendW1Top)) y ++ edge 3 (wd (.geo .blendW1Bottom)) (s.cfg[c].h - 1 - y)).map
          fun i => (TableId.blend, i)
      else [])
  ++ (if s.on (.geo .ctrlOlutEn) c then (luts g).map fun i => (TableId.olut, i) else [])

/-- The output pixels of a tile, row by row (R257). -/
def tilePixels (s : State) (c : Fin 4) (t : Nat) : List (Nat × Nat) :=
  let r := s.tileRect c t
  (List.range (r.y1 - r.y0 + 1).toNat).flatMap fun j => (List.range (r.x1 - r.x0 + 1).toNat).map fun i =>
    (r.x0.toNat + i, r.y0.toNat + j)

/-- The tiles that used a table word in the frame of the last meridian (R102). -/
def tilesUsing (s : State) (c : Fin 4) (b : BadWord) : List Nat :=
  (s.allTiles c).filter fun t =>
    (s.tilePixels c t).any fun q => (s.wordsUsed c s.pic[c].comp q.1 q.2).contains (b.table, b.index)

/-- The page of a table in force. -/
def pageInForce (s : State) (c : Fin 4) (t : TableId) : Nat :=
  match t with
  | .mesh => s.rd (.geo .ctrlMeshPage) c
  | .uni => s.rd (.geo .ctrlUniPage) c
  | _ => s.rd (.geo .ctrlLutPage) c

/-- The code of a table in the events of R102. -/
def tableCode : TableId → Nat
  | .mesh => 0
  | .ilut => 1
  | .olut => 2
  | .blend => 3
  | .uni => 4

/-- The outcome of a bad word used in the frame of the last meridian (R102): the count and the event once a frame, torn tiles whenever the
frame is formed anew with it. DESIGN CHOICE (log entry 130): the event's index counts on across the components of a LUT (1025 each) and the edges
of the blend tables (64 each). -/
def badWordUsed (s : State) (c : Fin 4) (b : BadWord) : State :=
  let ts := s.tilesUsing c b
  if ts.isEmpty then s else
  let s := if b.table == .mesh then s.flagBy c (s.lastFrame c) .torn ts .geo c else s.flagBy c (s.lastFrame c) .torn ts .geoCol c
  if s.pic[c].wordsHit.contains b then s else
  let s := s.modPic c fun p => { p with wordsHit := b :: p.wordsHit }
  if b.table == .mesh then (s.bump (.geo .meshStatParity) c).report .geo c 0x2284 [(1, b.page), (2, b.index)]
  else s.report .geoCol c 0x22C3 [(1, tableCode b.table), (1, b.page), (2, b.index)]

/-! ### Output pixels, plate copy and CRCs -/

/-- The output pixel of a stage-5 picture. -/
def outPx (s : State) (c : Fin 4) (pic : List Px) (x y : Nat) : Px := pic.getD (y * s.cfg[c].w + x) ⟨0, 0, 0⟩

/-- The CRC-64 of a tile (R257). -/
def tileCrc (s : State) (c : Fin 4) (pic : List Px) (t : Nat) : Nat :=
  crc64 ((s.tilePixels c t).flatMap fun q => plateBytes (s.outPx c pic q.1 q.2))

/-- How long a composed line takes, in CCLK: 4 pixels per PCLK. -/
def lineCclk (s : State) (c : Fin 4) : Nat := 2 * ((s.cfg[c].w + 3) / 4)

/-- How many lines of the latest composed frame the plate copy holds now (R94, R104). -/
def plateLines (s : State) (c : Fin 4) : Nat :=
  let d := s.now - s.pic[c].composedAt
  let l := max 1 (s.lineCclk c)
  if d < 128 * l then 0 else min s.cfg[c].h (d / l - 128)

/-- The frame number and the stage-5 picture that a row of the plate copy holds (R104). -/
def plateRow (s : State) (c : Fin 4) (y : Nat) : Nat × List Px :=
  let p := s.pic[c]
  if y < s.plateLines c then (p.composedNum, p.composed) else (p.composedPrevNum, p.composedPrev)

/-- Where a plate-store address lies in the plate copy of a cluster: the byte there (R103). -/
def plateCopyByte (s : State) (a : Nat) : Option Nat :=
  allClusters.findSome? fun (c : Fin 4) =>
    let base := c.val / 2 * 2 ^ 26 + s.rd (.geo .plateBaseBase) c * 64
    let pitch := s.rd (.geo .platePitchPitch) c * 64
    if !s.cfg[c].present || pitch == 0 || a < base then none else
    let y := (a - base) / pitch
    let o := (a - base) % pitch
    if s.cfg[c].h ≤ y || 3 * s.cfg[c].w ≤ o then none
    else (plateBytes (s.outPx c (s.plateRow c y).2 (o / 3) y))[o % 3]?

/-- A byte of a block that holds a staged patch or a cached layer (R58, R294). -/
def spareByte (s : State) (a : Nat) : Option Nat :=
  let bytes := match s.eph.staged, s.host.ephUp with
    | some im, _ => im.bytes
    | none, some u => u.bytes
    | none, none => []
  let place := fun (l : List Nat) => (l.findIdx? fun b => b == a / 2 ^ 16).map fun i => i * 2 ^ 16 + a % 2 ^ 16
  ((place s.eph.stagedAt).bind fun o => bytes[o]?)
  <|> s.mem.cache.findSome? fun x => (place x.blocks).map fun o => (cellGet x.cells ((x.first + o) % hbmEnd)).toNat

/-- A byte of the plate store: plate copies, the staging area and cached layers are views of what they hold (R103, R104, R294). -/
def plateByte (s : State) (a : Nat) : Nat := ((s.plateCopyByte a) <|> s.spareByte a).getD (cellGet s.plate a).toNat

/-! ### Planes -/

/-- The occulter's colours A and B in force (R252). -/
def occColours (s : State) (c : Fin 4) : Px × Px :=
  (⟨s.rd (.frs .occA0Red) c, s.rd (.frs .occA0Green) c, s.rd (.frs .occA1Blue) c⟩,
   ⟨s.rd (.frs .occB0Red) c, s.rd (.frs .occB0Green) c, s.rd (.frs .occB1Blue) c⟩)

/-- The tile of an output pixel (R236). -/
def tileAt (s : State) (c : Fin 4) (x y : Nat) : Nat :=
  let ts := tileSize (s.rd (.frs .tileTsize) c)
  y / ts.2 * s.tileCols c + x / ts.1

/-- The value the plane generator extracts at an output pixel: stage-5 content or, on a marked tile, the occulter (R105). -/
def genPx (s : State) (c : Fin 4) (marked : List Nat) (pic : List Px) (x y : Nat) : Px :=
  planePixel (marked.contains (s.tileAt c x y)) (s.occColours c).1 (s.occColours c).2 x y (s.outPx c pic x y)

/-- The HBM address of row y of plane j of primary p of frame n (R125). -/
def planeAddr (s : State) (c : Fin 4) (n p j y : Nat) : Nat :=
  (s.rd (.pln .pbufBaseAddr) c + n % 3 * s.rd (.pln .pbufStrideStride) c + (16 * p + j) * s.rd (.pln .planeSizeSize) c) * 4096
    + y * (s.cfg[c].w / 8)

/-- The planes that a schedule uses (R105, R123). -/
def planesOf (h : SchedHeader) : List Nat := if h.tform then (List.range 12).map (· + 4) else List.range 16

/-- The bytes of plane j of primary p of a frame, rows in order. -/
def planeBytes (s : State) (c : Fin 4) (tForm : Bool) (marked : List Nat) (pic : List Px) (p j : Nat) : List Nat :=
  (List.range s.cfg[c].h).flatMap fun y =>
    rowBytes s.cfg[c].w fun x => planeBit tForm j ((s.genPx c marked pic x y).comp p)

end State
end Sys2Proof.Machine
end

