-- ==== Sys2Proof/Machine/HbmOps.lean ====
section
/-! DEFINITION. HBM addresses and requests: bursts, partitions and pseudo-channels (R264, R265, R268), what a request wakes (R277, R278), and the
latency counters of the ports (R271, R273). -/

namespace Sys2Proof.Machine

/-- The set bits of a mask of w bits, lowest first. -/
def setBits (w m : Nat) : List Nat := (List.range w).filter (bit m)

/-- The numbers of the 32-byte bursts that n bytes from an address touch (R268). -/
def burstsOf (a n : Nat) : List Nat := if n == 0 then [] else (List.range ((a + n - 1) / 32 + 1 - a / 32)).map (· + a / 32)

namespace State

/-- The region index of an HBM address. -/
def regionAt (a : Nat) : Fin 2 := Fin.ofNat 2 (addrRegion a)

/-- The partition that holds an HBM address (R265). -/
def partOf (s : State) (a : Nat) : Option Partition :=
  (s.mem.regions[regionAt a]).parts.find? fun p => p.base ≤ a && a < p.base + p.size

/-- The pseudo-channel, 0 to 15, that holds an HBM address (R265). -/
def pcOf (s : State) (a : Nat) : Nat :=
  match s.partOf a with
  | none => 8 * addrRegion a
  | some p =>
    let set := setBits 8 p.pcmask
    8 * addrRegion a + set.getD ((a - p.base) / 256 % max 1 set.length) 0

/-- KIND of the partition that holds an address; 2 (LAYER) where there is none. -/
def kindAt (s : State) (a : Nat) : Nat := match s.partOf a with | some p => p.kind | none => 2

/-- Requests on a pseudo-channel bring it out of power-down and of self-refresh (R277, R278); a channel that leaves
self-refresh takes a frequency set that waits for it, and event 0x1604 says so (R280, R281). How long that took is a free value. -/
def wakePc (s : State) (p : Nat) : State :=
  let s := s.modMem fun m => { m with lastReq := m.lastReq.set (Fin.ofNat 16 p) s.now }
  if s.rd (.hbm .pcStatePwr) p == 1 then s.wr (.hbm .pcStatePwr) p 0
  else if s.rd (.hbm .pcStatePwr) p == 2 then
    let ch := p / 2
    let s := (s.wr (.hbm .pcStatePwr) (2 * ch) 0).wr (.hbm .pcStatePwr) (2 * ch + 1) 0
    match s.mem.fcNext.find? fun x => x.1 == ch with
    | none => s
    | some x =>
      let s := s.modMem fun m => { m with fcNext := m.fcNext.filter fun y => y.1 != ch }
      let s := (((s.wr (.hbm .fcCur) ch x.2).wr (.hbm .pcStateSet) (2 * ch) x.2).wr (.hbm .pcStateSet) (2 * ch + 1) x.2).bump (.hbm .fcCount) ch
      let us := s.freeBits 32
      us.2.report .hbm (ch / 4) 0x1604 [(1, ch), (1, x.2), (4, us.1)]
  else s

/-- The pseudo-channels that bytes of an access lie on: those of its 256-byte granules, of which the partition's interleave repeats the pseudo-channels
(R265). -/
def pcsOf (s : State) (a n : Nat) : List Nat :=
  if n == 0 then [] else
  let k := (a + n - 1) / 256 + 1 - a / 256
  (((List.range (min k 64)).map fun i => s.pcOf ((a / 256 + i) * 256)) ++ [s.pcOf (a + n - 1)]).eraseDups

/-- A request of bytes reaches the controller: its pseudo-channels are awake and have had a request (R277, R278). A region that is stopped takes none
(R283). -/
def request (s : State) (a n : Nat) : State := if s.regionStopped (addrRegion a) then s else (s.pcsOf a n).foldl wakePc s

/-- A request of port q of a region completes after so many units of 100 ns (R271, R273). The scrubber's port is best effort. -/
def served (s : State) (r : Fin 2) (q lat : Nat) : State :=
  let i := 8 * r.val + q
  let s := s.wr (.hbm .qosStatMaxlat) i (satN 16 (max (s.rd (.hbm .qosStatMaxlat) i) lat))
  if q != 7 && s.rd (.hbm .qosTarget) i ≤ lat then s.bump (.hbm .qosStatMiss) i else s

end State

end Sys2Proof.Machine
end

