-- ==== Sys2Proof/Machine/Tiles.lean ====
section
/-! DEFINITION. The freshness engine: contributors (R68, R238), stamps and age (R239 to R242), marking (R249, R250), the tile
table and the stale map (R237, R251), deadlines (R153, R255). -/

namespace Sys2Proof.Machine

/-- A layer, or the fallback source, as the freshness engine sees it: its clipped rectangle, whether it ages, whether it
lacks content (R250), whether it covers what lies below (R68), its production stamp and latest reaffirmation, the tiles
that keep older content with that content's stamp (R88), and whether it sets no deadline (R255). -/
structure Source where
  l : Nat
  rect : Rect
  aging : Bool
  lacking : Bool
  covers : Bool
  stamp : Option Nat
  reaff : Nat
  kept : List (Nat × Nat)
  noDeadline : Bool
  maxage : Nat
  deriving DecidableEq, Repr

/-- Ticks in a millisecond (R8). -/
def msTicks (n : Nat) : Nat := 25000 * n

/-- The effective stamp of a source at a tile (R239, R244); none while it has no production stamp. -/
def Source.effective (e : Source) (t : Nat) (tr : Option TileReaffirm) : Option Nat :=
  e.stamp.map fun p =>
    let content := ((e.kept.find? fun x => x.1 == t).map Prod.snd).getD p
    let tile := match tr with | some r => if r.layer == e.l then r.stamp * 256 else 0 | none => 0
    max content (max e.reaff tile)

/-- The contributors of a tile whose sample rectangle is q (R68), bottom first. -/
def contributors (out : Rect) (q : Rect) : List Source → List Source
  | [] => []
  | e :: es =>
    if e.rect.meets q && !(es.any fun h => h.covers && (q.clip out).within h.rect) then e :: contributors out q es
    else contributors out q es

/-- The deciding contributor (R241): the aging one of least margin, the higher layer on a tie; as (margin, source, stamp,
age in ticks). -/
def deciding (tm : Nat) (t : Nat) (tr : Option TileReaffirm) (cs : List Source) : Option (Int × Source × Nat × Nat) :=
  cs.foldl (fun best e =>
    if !e.aging then best else
    match e.effective t tr with
    | none => best
    | some st =>
      let age := tm - st
      let mg : Int := (msTicks e.maxage : Int) - age
      match best with
      | none => some (mg, e, st, age)
      | some b => if mg ≤ b.1 then some (mg, e, st, age) else best) none

/-- The contributors through which a tile is stale (R240). -/
def staleSources (tm : Nat) (t : Nat) (tr : Option TileReaffirm) (cs : List Source) : List Source :=
  cs.filter fun e => e.aging && match e.effective t tr with | some st => decide (msTicks e.maxage < tm - st) | none => false

namespace State

/-- The input of a layer is in PSR or PSR2 with its link up (R246). -/
def inputInPsr (s : State) (i : Nat) : Bool := s.rd (.dpr .linkPsr) i != 0 && s.on (.dpr .linkUp) i && !s.halted .dpr i

/-- The class of a layer ages it: not static and not a fill (R68). -/
def layerAges (k : LayerCfg) : Bool := k.src != 2 && k.cls != 2

/-- A layer's buffer lies in a region that issues no reads (R285), and no copy of it is at hand (R294). -/
def layerFrozen (s : State) (c : Fin 4) (l : Fin 8) : Bool :=
  let k := s.layerCfg c l
  match k.src with
  | 0 => (s.cachedCopy c l).isNone && ( s.regionStopped (addrRegion k.leaseRange.1) || s.regionStopped (addrRegion k.leaseRange.2))
  | 1 => s.regionStopped (addrRegion (s.dp[k.dpin].base))
  | _ => false

/-- MAXAGE in force, in ms; 0 acts as 1 (R256). -/
def maxAge (s : State) (c : Fin 4) (l : Nat) : Nat := max 1 (s.rd (.frs .maxageMaxage) (c.val * 8 + l))

/-- A layer's fetcher has stopped on a fault (R21). -/
def fetcherDown (s : State) (c : Fin 4) (l : Fin 8) : Bool :=
  s.halted .layer (layerInst c l)

/-- A layer as a source on the normal path. -/
def layerSource (s : State) (c : Fin 4) (l : Fin 8) : Source :=
  let k := s.layerCfg c l
  let y := s.pic[c].layers[l]
  let down := s.fetcherDown c l
  { l := l.val, rect := s.layerRect c k, aging := layerAges k, lacking := down || (k.src == 1 && y.dpTaken.isNone),
    covers := (k.mode == 0 || k.mode == 3 || (k.mode == 2 && k.calpha == 0xFFFF)) && !down && !s.layerFrozen c l,
    stamp := y.stamp, reaff := y.reaff, kept := y.kept, noDeadline := k.src == 1 && s.inputInPsr k.dpin, maxage := s.maxAge c l }

/-- The fallback source (R286 to R288); position, class and MAXAGE are those of before the path was entered (R90, R145). -/
def fbSource (s : State) (c : Fin 4) : Source :=
  let l := s.fbLayer c
  let k := s.mem.fbHold[c]
  let y := s.pic[c].layers[l]
  let wh := s.fbSize c
  let host := s.on (.plt .fbCfgKind) (fbInst c)
  let i : Fin 4 := Fin.ofNat 4 (s.rd (.plt .fbCfgDpin) (fbInst c))
  let fr := (s.dp[i].fbFrames.find? fun f => f.2 + 32 ≤ s.chr[c].lastM).map Prod.fst
  { l := l.val, rect := (Rect.mk k.x k.y (k.x + wh.1 - 1) (k.y + wh.2 - 1)).clip (s.outRect c), aging := k.cls != 2,
    lacking := if host then !s.mem.fbWritten[c] else fr.isNone, covers := true,
    stamp := if host then y.stamp else fr, reaff := y.reaff, kept := [],
    noDeadline := !host && s.inputInPsr i, maxage := k.maxage }

/-- The sources of a cluster's picture in index order. -/
def sources (s : State) (c : Fin 4) : List Source :=
  if s.mem.fallback[c] then [s.fbSource c]
  else allLayers.filterMap fun l => if (s.layerCfg c l).en then some (s.layerSource c l) else none

/-- A tile's own entry under R237, R240 and R241, from its contributors; flags and marks are left as they stand. -/
def ageTile (tm : Nat) (t : Nat) (cs : List Source) (x : Tile) : Tile :=
  let x := { x with bg := cs.isEmpty, stale := !(staleSources tm t x.reaff cs).isEmpty }
  match deciding tm t x.reaff cs with
  | some b => { x with stamp := b.2.2.1, age := min 0xFFFF (b.2.2.2 / 25000), layer := b.2.1.l }
  | none => { x with stamp := 0, age := 0, layer := ((cs.getLast?).map (·.l)).getD 0 }

/-- Tile indices lie in the forced rectangle (R250). -/
def forced (s : State) (c : Fin 4) (t : Nat) : Bool :=
  let cols := max 1 (s.tileCols c)
  let x := t % cols
  let y := t / cols
  let c0 := s.rd (.frs .force0Col0) c
  let r0 := s.rd (.frs .force0Row0) c
  s.on (.frs .ctrlForceEn) c && c0 ≤ x && x < c0 + s.rd (.frs .force1Ncols) c && r0 ≤ y && y < r0 + s.rd (.frs .force1Nrows) c

/-- The engine serves a cluster (R263). -/
def engineUp (s : State) (c : Fin 4) : Bool :=
  s.domOn 46 && !s.unitFatal .frsEng 0 && !s.pic[c].engineOff

/-- The causes that mark every tile of an output (R250), as FRS_MARKED.CAUSES bits. -/
def wholeCauses (s : State) (c : Fin 4) : Nat :=
  let lo := s.rd (.lsr .outCause) c
  let cloneLost := match s.cloneSrc c with
    | some q => s.cloneBlack q
    | none => false
  4 * b2n s.pic[c].noContentStart + 8 * b2n s.light[c].darkened + 16 * b2n (s.on (.lsr .outLightoff) c && (lo == 1 || lo == 2))
    + 32 * b2n cloneLost + 128 * b2n (!s.engineUp c)

/-- The causes that mark one tile of a cluster by its own entry, the whole-output causes apart (R250). -/
def ownCauses (s : State) (c : Fin 4) (t : Nat) (cs : List Source) (x : Tile) : Nat :=
  b2n x.stale + 2 * b2n (decide (s.rd (.frs .ctrlGrace) c < x.persist)) + 4 * b2n (cs.any (·.lacking)) + 64 * b2n (s.forced c t)

/-- The causes that mark one tile, the whole-output causes apart (R250). A clone target adds its source's entries (R254); DESIGN CHOICE (log entry
120): they show as the causes by which the source's tile is marked. -/
def tileCauses (s : State) (c : Fin 4) (t : Nat) (cs : List Source) (x : Tile) : Nat :=
  let src := match s.cloneSrc c with
    | some q => match s.pic[q].tiles[t]? with | some y => s.ownCauses q t cs y | none => 0
    | none => 0
  s.ownCauses c t cs x ||| src

/-- The contributors of a tile of a cluster; a clone target takes those of its source (R81). -/
def tileSources (s : State) (c : Fin 4) (t : Nat) : List Source :=
  let q := (s.cloneSrc c).getD c
  contributors (s.outRect q) (s.tileSample q t) (s.sources q)

/-- A tile that failed parity is rebuilt (R262). -/
def rebuilt (x : Tile) : Tile := if x.bad then { x with bad := false, persist := 0, reaff := none } else x

/-- A tile reaffirmation older than 65,536 ms is discarded (R244). -/
def expireReaff (tm : Nat) (x : Tile) : Tile :=
  { x with reaff := x.reaff.filter fun r => decide (tm ≤ r.stamp * 256 + msTicks 65536) }

/-- Every cause over the tiles of an output. -/
def orCauses (l : List Nat) : Nat := l.foldl (fun a b => a ||| b) 0

/-- A host-buffer layer of an aging class counts as reaffirmed at wall time tm (R247): its stamp or its reaffirmation is not older than half
of MAXAGE. -/
def layerReaffirmed (s : State) (c : Fin 4) (l : Fin 8) (tm : Nat) : Bool :=
  let k := s.layerCfg c l
  let y := s.pic[c].layers[l]
  let half : Int := (tm : Int) - msTicks (s.maxAge c l) / 2
  k.en && k.src == 0 && layerAges k && match y.stamp with
    | some p => decide (half < (max p y.reaff : Nat))
    | none => false

/-- FRS_LAYER_AGE of a layer, events 0x36C3 and 0x16C4, and MARK of its fetcher (R240, R241, R247, R250). -/
def layerAges' (s : State) (c : Fin 4) (tm : Nat) (per : List (Nat × List Source × Tile)) (l : Fin 8) : State :=
  let i := layerInst c l
  let mine := per.filterMap fun x => (x.2.1.find? fun e => e.l == l.val).map fun e => (x.1, e, x.2.2)
  let ages := mine.map fun x => if x.2.1.aging then ((x.2.1.effective x.1 x.2.2.reaff).map fun st => tm - st).getD 0 else 0
  let age := min 0xFFFF (ages.foldl max 0 / 25000)
  let stale := mine.any fun x => !(staleSources tm x.1 x.2.2.reaff [x.2.1]).isEmpty
  let was := s.on (.frs .layerAgeStale) i
  let lack := mine.any fun x => x.2.1.lacking
  let reaff := s.layerReaffirmed c l tm
  let s := (((s.wr (.frs .layerAgeAge) i age).wrb (.frs .layerAgeStale) i stale).wrb (.frs .layerAgeReaff) i reaff).wrb (.frs .layerAgeNocontent) i lack
  let s := s.wrb (.st .layer .mark) i (stale || lack)
  if (stale && !was) = true then s.report .frsEng 0 0x36C3 [(1, c.val), (1, l.val), (2, age), (2, s.maxAge c l)]
  else if was && !stale then s.report .frsEng 0 0x16C4 [(1, c.val), (1, l.val), (4, s.lastFrame c)]
  else s

/-- Marking began or ended for age, flags or content (R251). -/
def markEvents (s : State) (c : Fin 4) (causes tiles : Nat) : State :=
  let m3 := causes % 8
  let was := s.pic[c].m3
  let s := s.modPic c fun p => { p with m3 := m3 != 0 }
  if m3 != 0 && !was then s.report .frsEng 0 0x36C1 [(1, c.val), (1, m3), (4, tiles), (4, s.lastFrame c)]
  else if m3 == 0 && was then s.report .frsEng 0 0x16C2 [(1, c.val), (4, s.lastFrame c)]
  else s

/-- The earliest deadline of a cluster (R255): over aging contributors, not in PSR, of tiles not already stale. -/
def deadline (s : State) (c : Fin 4) (tm : Nat) : Option Nat :=
  let ds := (s.pic[c].tiles.zipIdx).flatMap fun x =>
    let cs := s.tileSources c x.2
    if !(staleSources tm x.2 x.1.reaff cs).isEmpty then [] else
    cs.filterMap fun e => if e.aging && !e.noDeadline then (e.effective x.2 x.1.reaff).map (· + msTicks e.maxage) else none
  ds.foldl (fun a d => match a with | none => some d | some b => some (min b d)) none

/-- FRS_NEXT_STALE shows the deadline; all ones when there is none. -/
def showDeadline (s : State) (c : Fin 4) (d : Option Nat) : State := s.wr (.frs .nextStaleTime) c (d.getD (2 ^ 64 - 1))

/-- The flags that a unit raised on tiles of a cluster mark one of them now (R16, R249, R250). -/
def blames (s : State) (c : Fin 4) (u : UType) (i : Nat) : Bool :=
  s.pic[c].blame.any fun b => b.unit == u && b.inst == i && b.tiles.any fun t => match s.pic[c].tiles[t]? with
    | some x => decide (s.rd (.frs .ctrlGrace) c < x.persist)
    | none => false

/-- MARK of the units whose flags mark tiles, beside what else sets it (R16); a unit whose tiles have all closed without a flag is to blame no
more. -/
def showBlame (s : State) (c : Fin 4) : State :=
  let other := fun (u : UType) => ([.comp, .geo, .geoCol, .pln, .chr, .lane, .lsrCh, .intlk, .layer] : List UType).contains u
  let s := s.pic[c].blame.foldl (fun s b =>
    s.wrb (.st b.unit .mark) b.inst ((other b.unit && s.on (.st b.unit .mark) b.inst) || allClusters.any fun d => s.blames d b.unit b.inst)) s
  s.modPic c fun p => { p with blame := p.blame.filter fun b => !b.tiles.isEmpty }

/-- MARK of the units that mark whole outputs (R16, R250): an essential unit that keeps the output dark, a channel whose failure put the light
off by policy, the interlock, and the freshness engine. A layer's MARK is set with its age, and that of every unit whose flags mark tiles at the end. -/
def showMarks (s : State) (c : Fin 4) : State :=
  let dark := fun (u : UType) (i : Nat) =>
    s.light[c].darkened && (s.halted u i || !s.unitEn u i)
  let s := ([.comp, .geo, .geoCol, .pln, .chr] : List UType).foldl (fun s u => s.wrb (.st u .mark) c (dark u c)) s
  let s := (List.range 18).foldl (fun s i => s.wrb (.st .lane .mark) (18 * c.val + i) (dark .lane (18 * c.val + i))) s
  let off := fun (n : Nat) => s.on (.lsr .outLightoff) c && s.rd (.lsr .outCause) c == n
  let s := (List.range 6).foldl (fun s k =>
    let i := 6 * c.val + k
    s.wrb (.st .lsrCh .mark) i (off 1 && (s.rd (.lsr .chStateState) i == 4 || s.rd (.lsr .chStateState) i == 5))) s
  let s := s.wrb (.st .intlk .mark) c (off 2)
  (s.wrb (.st .frsEng .mark) 0 (allClusters.any fun d => bit (s.rd (.frs .markedCauses) d) 7)).showBlame c

/-- A tile with the reaffirmation that counts for it: a clone target's tiles carry those of its source (R81). -/
def sourceReaff (s : State) (c : Fin 4) (t : Nat) (x : Tile) : Tile :=
  match s.cloneSrc c with
  | some q => { x with reaff := (s.pic[q].tiles[t]?).bind fun y => y.reaff }
  | none => x

/-- At a meridian the engine evaluates every tile and delivers the stale map (R251): the marked tiles, the stale tiles and the
state. While the engine is down every tile is marked and nothing is evaluated (R263). -/
def evaluateTiles (s : State) (c : Fin 4) : List Nat × List Nat × State :=
  let tm := s.rd (.chr .mTimeTime) c
  let whole := s.wholeCauses c
  if !s.engineUp c then
    let all := s.allTiles c
    (all, [], (((s.wr (.frs .markedCount) c all.length).wr (.frs .markedCauses) c whole).modPic c fun p =>
      { p with tiles := p.tiles.map fun t => { t with mark := true } }).showMarks c)
  else
    let per := (s.pic[c].tiles.zipIdx).map fun x =>
      let cs := s.tileSources c x.2
      (x.2, cs, { ageTile tm x.2 cs (expireReaff tm (s.sourceReaff c x.2 (rebuilt x.1))) with held := false })
    let judged := per.map fun x =>
      let z := s.tileCauses c x.1 x.2.1 x.2.2 ||| whole
      (z, { x.2.2 with mark := z != 0 })
    let marked := (List.range judged.length).filter fun t => match judged[t]? with | some z => z.1 != 0 | none => false
    let stale := (List.range judged.length).filter fun t => match judged[t]? with | some z => z.2.stale | none => false
    let causes := orCauses (judged.map Prod.fst)
    let s := s.modPic c fun p => { p with tiles := judged.map Prod.snd }
    let s := (s.wr (.frs .markedCount) c marked.length).wr (.frs .markedCauses) c causes
    let s := allLayers.foldl (fun s l => s.layerAges' c tm per l) s
    let s := s.showMarks c
    let s := (s.markEvents c causes marked.length).showDeadline c (s.deadline c tm)
    (marked, stale, s)

/-- A cluster and the clusters that clone it (R80, R81). -/
def withClones (s : State) (c : Fin 4) : List (Fin 4) := c :: allClusters.filter fun d => d != c && s.cloneSrc d == some c

/-- Tiles that keep older content after a read error age again, without a new stamp (R88), and with them those of the clone targets
(R81). -/
def reAge (s : State) (c : Fin 4) (ts : List Nat) : State :=
  s.forClusters (s.withClones c) fun s d =>
    let tm := s.rd (.chr .mTimeTime) d
    s.modPic d fun p =>
      { p with tiles := (p.tiles.zipIdx).map fun x =>
          if ts.contains x.2 then ageTile tm x.2 (s.tileSources d x.2) (s.sourceReaff d x.2 x.1) else x.1 }

/-! ### The frame of the last meridian -/

/-- The plane writer stores a plane (R125): bursts that it overwrites whole are good again (R268). -/
def writePlane (s : State) (a : Nat) (bs : List Nat) : State :=
  let s := s.request a bs.length
  { s with
    hbm := cellStore s.hbm a bs
    mem := { s.mem with poisoned := s.mem.poisoned.filter fun b => !(a ≤ 32 * b && 32 * b + 32 ≤ a + bs.length) } }

/-- The output pixels of the frame of the last meridian are formed anew from its layers: the picture, its tile CRCs with CHG
(R237, R257), GEO_COL_CLIP, and its planes in HBM (R125); the plane writes of a stopped region are discarded (R283). -/
def recompose (s : State) (c : Fin 4) (prevCrcs : List Nat) : State :=
  let w := s.cfg[c].w
  let h := s.cfg[c].h
  let comp := match s.cloneSrc c with
    | some q => if s.cloneBlack q then List.replicate (w * h) ⟨0, 0, 0⟩ else s.pic[q].comp
    | none =>
      composePicture w h (s.background c)
        (if s.mem.fallback[c] then [s.fbPlane c] else allLayers.filterMap fun l => s.pic[c].layers[l].img)
  let out := s.stage5 c comp
  let crcs := (s.allTiles c).map (s.tileCrc c out.1)
  let s := s.modPic c fun p =>
    { p with
      comp := comp
      composed := out.1
      tiles := (p.tiles.zipIdx).map fun x =>
        let v := crcs.getD x.2 0
        { x.1 with crcs := v :: x.1.crcs.drop 1, chg := prevCrcs.getD x.2 v != v }
      frames := p.frames.map fun f => if f.num == p.composedNum then { f with crcs := crcs } else f }
  let s := s.wr (.geo .colClipClip) c (satN 24 out.2)
  if s.mem.fallback[c] || s.regionStopped (c.val / 2) then s else
  match s.frameRec c s.pic[c].composedNum with
  | none => s
  | some f =>
    (planesOf f.sched.hdr).foldl (fun s j => ([0, 1, 2] : List Nat).foldl (fun s p =>
      s.writePlane (s.planeAddr c f.num p j 0 % hbmEnd) (s.planeBytes c f.sched.hdr.tform f.marked s.pic[c].composed p j)) s) s

/-- The CRCs of the frame before the last composed one. -/
def prevCrcs (s : State) (c : Fin 4) : List Nat := s.pic[c].tiles.map fun t => (t.crcs.getD 1 (t.crcs.getD 0 0))

/-- Composition of the frame of the last meridian is what its picture shows. -/
def composing (s : State) (c : Fin 4) : Bool := s.pic[c].composedNum == s.lastFrame c && (s.frameRec c (s.lastFrame c)).isSome

/-- The bad words of the pages in force that the frame of the last meridian uses (R102). -/
def judgeWords (s : State) (c : Fin 4) : State :=
  (s.pic[c].badWords.filter fun b => b.page == s.pageInForce c b.table).foldl (fun s b => s.badWordUsed c b) s

/-- The frame of the last meridian is formed anew in a cluster and in the clusters that take its composed picture (R80). -/
def recomposeAll (s : State) (c : Fin 4) : State :=
  s.forClusters (s.withClones c) fun s d => if s.composing d then (s.recompose d (s.prevCrcs d)).judgeWords d else s

end State
end Sys2Proof.Machine
end

