-- ==== Sys2Proof/Machine/MemOps.lean ====
section
/-! DEFINITION. Shared operations of the memory system: partitions and pseudo-channels (R264, R265), bursts and their detection
code (R268 to R270), freezes (R282, R283), HBM writes with leases and the static-layer cache (R85 to R87, R294), and plate
words (R292, R295). -/

namespace Sys2Proof.Machine

/-- A control structure's partition kind (R265). -/
def controlKind (k : Nat) : Bool := k == 4 || k == 5 || k == 6

namespace State

/-! ### Freeze (R282 to R284) -/

/-- Every pseudo-channel of a region enters a power state. -/
def setPcs (s : State) (r : Fin 2) (pwr : Nat) : State :=
  (List.range 8).foldl (fun s i => s.wr (.hbm .pcStatePwr) (8 * r.val + i) pwr) s

/-- The HBM_FRZ registers capture the condition (R283). The commands of the model are served whole, so no queue of the controller stands in State: the
depths that it shows are free values (log entry 132). -/
def captureFreeze (s : State) (r : Fin 2) (pc a kind port path : Nat) : State :=
  let rq := s.freeBits 8
  let wq := rq.2.freeBits 8
  let s := ((wq.2.wr (.hbm .frzInfoPc) r pc).wr (.hbm .frzInfoKind) r kind).wr (.hbm .frzInfoPort) r port
  let s := (s.wr (.hbm .frzInfoRdq) r rq.1).wr (.hbm .frzInfoWrq) r wq.1
  (((s.wr (.hbm .frzAddrAddr) r a).wr (.hbm .frzSrcPath) r path).wr (.hbm .frzTimeTime) r s.wall).wr (.hbm .rgnStatSnap) r 0

/-- A failed recovery (R290): the third one leaves the region in FALLBACK. Its pseudo-channels are frozen again. -/
def recoveryFailed (s : State) (r : Fin 2) : State :=
  let n := s.rd (.hbm .rgnStatTries) r + 1
  let s := (s.wr (.hbm .rgnStatTries) r n).setPcs r 3
  if 3 ≤ n then (s.wr (.hbm .rgnStatState) r 4).report .hbm r 0x2603 [(1, 1)]
  else s.wr (.hbm .rgnStatState) r 1

/-- Lines y0 to y1 of a layer come too late for the frame being composed (R89): they show the result below, torn. -/
def lateLines (s : State) (c : Fin 4) (l : Fin 8) (y0 y1 : Nat) : State :=
  let r := (s.layerRect c (s.layerCfg c l)).clip ⟨0, y0, s.cfg[c].w, y1⟩
  let s := s.modLayer c l fun y => { y with img := y.img.map (dropLines y0 y1) }
  let s := (s.recomposeAll c).flagBy c (s.lastFrame c) .torn (s.tilesReached c r) .layer (layerInst c l)
  (s.bump (.pix .layerErrLate) (layerInst c l)).report .layer (layerInst c l) 0x2205 [(4, s.lastFrame c), (2, y0)]

/-- The fetches that a freeze cuts short are late data (R284): of each layer of the region's clusters whose buffer lies in the region, the lines that
composition has not reached. -/
def lateFetches (s : State) (r : Fin 2) : State :=
  s.forClusters (allClusters.filter fun c => regionOf c == r) fun s c =>
    if !s.composing c || s.mem.fallback[c] then s else
    allLayers.foldl (fun s l =>
      let rect := s.layerRect c (s.layerCfg c l)
      let line : Int := max rect.y0 (((s.now - s.chr[c].lastM) / max 1 (s.lineCclk c) : Nat) : Int)
      if s.pic[c].layers[l].window && s.layerFrozen c l && line ≤ rect.y1 then s.lateLines c l line.toNat rect.y1.toNat else s) s

/-- A freeze condition of a region (R282, R290): the region freezes, or a recovery under way fails. Held outputs of the region
wake with cause 6 (R284). The schedules in force are kept for the fallback path (R60, R129); copies of static layers still under way from the region are dropped
(R294). -/
def freeze (s : State) (r : Fin 2) (cause pc a kind port path : Nat) : State :=
  let st := s.rd (.hbm .rgnStatState) r
  let s := s.wr (.hbm .rgnCtrlFreeze) r 0
  if st == 1 || st == 4 then s else
  let s := (s.captureFreeze r pc a kind port path).wr (.hbm .rgnStatCause) r cause
  if st == 2 then s.recoveryFailed r else
  let s := ((s.wr (.hbm .rgnStatState) r 1).wr (.hbm .rgnStatTries) r 0).setPcs r 3
  let s := s.modRegion r fun g => { g with freezeAt := some s.now }
  let s := (allClusters.filter fun c => regionOf c == r).foldl (fun s c => s.modMem fun m =>
    { m with fbHold := m.fbHold.set c { m.fbHold[c] with page := s.rd (.pln .ctrlSchedPage) c, scheds := s.pageScheds c (s.rd (.pln .ctrlSchedPage) c) } }) s
  let s := s.dropCopies fun x => addrRegion x.first == r.val && s.lastFrame (Fin.ofNat 4 x.c) ≤ x.since
  let s := s.violate 3 fun t i _ => t ≤ 1 && i / 8 == r.val
  let s := (s.report .hbm r 0x2601 [(1, cause), (1, pc), (4, a / 4)]).lateFetches r
  s.forClusters (allClusters.filter fun c => regionOf c == r) fun s c => s.wakeHeld c 6

/-! ### The detection code -/

/-- The detection code of burst b (R268): the CRC-8 of its 32 bytes in address order and of burst address bits [33:5]. -/
def burstCode (s : State) (b : Nat) : Nat := crc8 (cellLoad s.hbm (32 * b) 32 ++ leBytes 4 b)

/-- The code that stands in the sideband of burst b (R268): a write generates it, and a poisoned burst is stored with this code XOR 0x55. -/
def storedCode (s : State) (b : Nat) : Nat := if s.mem.poisoned.contains b then s.burstCode b ^^^ 0x55 else s.burstCode b

/-- Burst b passes its check as it is read (R268). -/
def burstOk (s : State) (b : Nat) : Bool := s.storedCode b == s.burstCode b

/-- A detection error recorded by a pseudo-channel: 16 within one second degrade it (R269). -/
def countDetErr (s : State) (pc : Nat) : State :=
  let r : Fin 2 := Fin.ofNat 2 (pc / 8)
  let s := s.bump (.hbm .pcCntDeterr) pc
  let l := (pc, s.now) :: (s.mem.regions[r].deterr.filter fun x => s.now < x.2 + msCclk 1000)
  let n := (l.filter fun x => x.1 == pc).length
  if 16 ≤ n then
    let s := s.modRegion r fun g => { g with deterr := l.filter fun x => x.1 != pc }
    (s.wr (.st .pc .degr) pc 1).report .pc pc 0x2643 [(4, n)]
  else s.modRegion r fun g => { g with deterr := l }

/-- A burst is poisoned (R268, R269): it fails every read until it is overwritten whole. -/
def poisonBurst (s : State) (b : Nat) : State :=
  let s := s.bump (.hbm .pcCntPoison) (s.pcOf (32 * b))
  if s.mem.poisoned.contains b then s else s.modMem fun m => { m with poisoned := b :: m.poisoned }

/-- The first poisoned burst that a read touches. -/
def badBurst (s : State) (a n : Nat) : Option Nat := (burstsOf a n).find? fun b => !s.burstOk b

/-- Bytes stored in the stack (R268): a burst overwritten whole is good again; the read of a read-modify-write that fails
leaves the burst poisoned. -/
def hbmStore (s : State) (a : Nat) (bs : List Nat) : State :=
  let touched := (burstsOf a bs.length).filter fun b => s.mem.poisoned.contains b
  let whole := touched.filter fun b => a ≤ 32 * b && 32 * b + 32 ≤ a + bs.length
  let s := { s with hbm := cellStore s.hbm a bs }
  let s := s.modMem fun m => { m with poisoned := m.poisoned.filter fun b => !whole.contains b }
  (touched.filter fun b => !whole.contains b).foldl (fun s b => (s.countDetErr (s.pcOf (32 * b))).poisonBurst b) s

/-- The read of a read-modify-write fails its check now (R268), at an offset of a write of n bytes: the burst that it covers in part is poisoned. -/
def rmwFails (s : State) (a n : Nat) (bad : Option Nat) : State :=
  match bad with
  | none => s
  | some o =>
    let b := (a + o) / 32
    if n ≤ o || (a ≤ 32 * b && 32 * b + 32 ≤ a + n) || s.mem.poisoned.contains b then s
    else (s.countDetErr (s.pcOf (32 * b))).poisonBurst b

/-! ### Host writes -/

/-- A host write meets the leases of a cluster (R85 to R87, R90): a held output wakes; inside a read window it is a
violation. -/
def leaseWrite (s : State) (c : Fin 4) (a n : Nat) : State :=
  allLayers.foldl (fun s l =>
    match s.pic[c].layers[l].lease with
    | none => s
    | some le =>
      if n == 0 || le.last < a || a + n ≤ le.first then s
      else if s.inHeld c then s.wakeHeld c 3
      else if !s.pic[c].layers[l].window || s.mem.fallback[c] then s
      else
        let k := s.layerCfg c l
        let f := s.lastFrame c
        let s := s.flagBy c f .torn (s.tilesOfBytes c k (max a le.first) (min (a + n - 1) le.last)) .layer (layerInst c l)
        (s.bump (.pix .layerErrLeaseviol) (layerInst c l)).report .layer (layerInst c l) 0x2202
          [(4, a / 4), (2, min n 0xFFFF), (4, f)]) s

/-- An input's buffers lie where a memory map places them (R71, R265); it holds no frame there yet. -/
def placeInput (s : State) (i : Fin 4) (parts : List Partition) : State :=
  let part := parts.find? fun x => x.kind == 1 && x.dpin == i.val
  s.modDp i fun d =>
    { d with base := (part.map fun x => x.base).getD 0, slot := (part.map fun x => x.size).getD 0 / 3, frames := [] }

/-- The tables that MESH partitions hold, as the image gives them (R290); `r` limits them to one region. -/
def storeMeshes (s : State) (p : Plan) (r : Option (Fin 2)) : State :=
  (p.meshes.filter fun x => match r with | some r => addrRegion x.1 == r.val | none => true).foldl (fun s x =>
    { s with hbm := cellStore s.hbm (x.1 % hbmEnd) x.2 }) s

/-- A BAR2 write that lies in one region reaches the controller (R85, R267, R268, R278, R283, R294); `bad` is an offset in it whose
read-modify-write read fails now. -/
def hostWritePart (s : State) (a : Nat) (bs : List Nat) (bad : Option Nat) (lat : Nat) : State :=
  if bs.isEmpty then s else
  let r := regionAt a
  match s.partOf a with
  | none => (s.bump (.hbm .unmappedWrites) r).report .hbm r 0x1607 [(4, a / 4), (1, 1)]
  | some _ =>
    if s.regionStopped r then
      let s := s.bump (.hbm .dropwrCount) r
      let s := s.modMem fun m => { m with dropped := true }
      s.report .hbm r 0x2606 [(4, s.rd (.hbm .dropwrCount) r), (4, a / 4)]
    else
      let s := ((((s.request a bs.length).hbmStore a bs).rmwFails a bs.length bad).served r 4 lat).dropCopies fun x => !(x.last < a || a + bs.length ≤ x.first)
      s.forClusters allClusters fun s c => s.leaseWrite c a bs.length
end State
end Sys2Proof.Machine
end

