-- ==== Sys2Proof/Machine/MemRows.lean ====
section
/-! DEFINITION. Memory system commands: host accesses to HBM and the plate store, detection and parity errors, fences, freezes
and recovery, frequency changes, power states, refresh and scrubbing (R264 to R296, R377, R378). -/

namespace Sys2Proof.Machine
namespace State

/-- A bus access completes. -/
def complete (s : State) (st : BusStatus) (bs : List Nat) : State := { s with completion := ⟨st, bs⟩ }

/-- The HBM address of a BAR2 offset (R377); none past the window. -/
def bar2Addr (s : State) (off : Nat) : Option Nat :=
  let n := s.host.bar2Log
  if 2 ^ n ≤ off then none
  else if 34 ≤ n then some off
  else some ((s.rd (.pci .bar2BaseAddr) 0 * 2 ^ 28 / 2 ^ n * 2 ^ n + off) % hbmEnd)

/-- The event of a detection error without a consumer event (R270); that of a control structure is the freeze's own. -/
def report2641 (s : State) (a port : Nat) : State :=
  if controlKind (s.kindAt a) then s else s.report .pc (s.pcOf a) 0x2641 [(4, a / 4), (1, s.kindAt a), (1, port)]

/-- The fallback buffer of a cluster as a layer's crop would show it, at the POS of before the path was entered (R85, R90, R288). -/
def fbCfg (s : State) (c : Fin 4) : LayerCfg :=
  { s.layerCfg c (s.fbLayer c) with
    addr := s.fbAddr c 0 0, stride := s.rd (.plt .fbPitchPitch) (fbInst c) * 64, fmt := b2n (s.on (.plt .fbCfgFmt) (fbInst c)),
    x := s.mem.fbHold[c].x, y := s.mem.fbHold[c].y, cx := 0, cy := 0, w := (s.fbSize c).1, h := (s.fbSize c).2 }

/-- Composition-lite reads the buffer, from the meridian until it has read the last line (R287, R288). DEDUCED (log entry 121): a line is read
when composition reaches its place. -/
def fbReading (s : State) (c : Fin 4) : Bool :=
  s.mem.fallback[c] && s.composing c
    && decide ((s.now : Int) < s.chr[c].lastM + (s.mem.fbHold[c].y + (s.fbSize c).2) * s.lineCclk c)

/-- The controller's part of a detection error (R268 to R270, R282): the count, and a freeze for a control structure or under
DIAG_FREEZE. A plane read (port 0) never freezes the region (R126). DESIGN CHOICE (log entry 133): the partition's KIND alone decides, also for a
mesh load whose source lies outside a MESH partition, although R96 calls every mesh source a control structure. -/
def detectionError (s : State) (a port path : Nat) : State :=
  let r := regionAt a
  let pc := s.pcOf a
  let kind := s.kindAt a
  let s := s.countDetErr pc
  if controlKind kind && port != 0 then s.freeze r 2 pc a kind port path
  else if s.on (.hbm .rgnCtrlDiagFreeze) r && kind != 0 && port != 0 then s.freeze r 3 pc a kind port path
  else s

/-- A DisplayPort layer with the input frame of its previous frame (R88), under the fields in force now: read again from its buffer while that still
holds it, else as it was fetched then; the background where it had none. -/
def previousImg (s : State) (c : Fin 4) (l : Fin 8) : Option Plane2d :=
  let k := s.layerCfg c l
  let y := s.pic[c].layers[l]
  match y.dpPrev with
  | none => s.fetchLayer c l none
  | some n => match s.dp[k.dpin].frames.find? fun f => f.serial == n with
    | some f => s.fetchLayer c l (some f)
    | none => y.imgPrev.map fun p => { p with x := k.x, y := k.y, mode := k.mode, calpha := k.calpha }

/-- The effects of a layer read error on the layer's picture (R88). -/
def layerReadError (s : State) (c : Fin 4) (l : Fin 8) (a : Nat) : State :=
  let k := s.layerCfg c l
  let i := layerInst c l
  let f := s.lastFrame c
  let s := s.bump (.pix .layerErrDataerr) i
  if k.src == 1 then
    let y := s.pic[c].layers[l]
    let s := if y.dpPrev.isSome && y.dpTaken != y.dpPrev then s.bump (.pix .layerCntRepeat) i else s
    let img := s.previousImg c l
    let s := s.modLayer c l fun y =>
      { y with img := img, stamp := if y.dpPrev.isSome then y.stampPrev else none, dpTaken := y.dpPrev, kept := y.keptPrev }
    ((s.reAge c (s.allTiles c)).recomposeAll c).report .layer i 0x2204 [(1, k.dpin.val), (4, f)]
  else
    let ts := s.tilesOfBytes c k (a / 32 * 32) (a / 32 * 32 + 31)
    let rects := ts.map (s.tileSample c)
    let s := s.modLayer c l fun y =>
      { y with
        img := y.img.map (keepPrevious rects y.imgPrev)
        kept := (ts.filterMap fun t =>
          (((y.keptPrev.find? fun x => x.1 == t).map Prod.snd) <|> y.stampPrev).map fun st => (t, st)) ++ y.kept }
    ((s.reAge c ts).recomposeAll c).report .layer i 0x2203 [(4, a / 4), (4, f)]

/-- A mesh load ends on a detection error (R96). DESIGN CHOICE (log entry 134): a load that an error stops has stored none of its entries, and CLAMPED
stands as it was. -/
def meshLoadError (s : State) (c : Fin 4) (a : Nat) : State :=
  match s.pic[c].meshLoad with
  | none => s
  | some _ =>
    let s := (s.modPic c fun p => { p with meshLoad := none }).wr (.geo .meshLoadBusy) c 0
    (s.wr (.geo .meshLoadErr) c 1).report .geo c 0x2283 [(4, a / 4)]

/-! ### Recovery -/

/-- A training engine gathers on a channel (R280, R307). -/
def gathering (s : State) (ch : Nat) : Bool :=
  (List.range 4).any fun e => s.rd (.trn .engStatState) e == 2 && s.rd (.trn .engCtrlTarget) e ≤ 1 && s.rd (.trn .engCtrlIdx) e / 2 == ch

/-- Clusters of a region that are enabled. -/
def regionClusters (s : State) (r : Fin 2) : List (Fin 4) := s.enabledClusters.filter fun c => regionOf c == r

/-- RECOVER in state FROZEN with SNAP = 1 starts recovery (R290): the held queues are discarded. -/
def startRecovery (s : State) (r : Fin 2) : State :=
  let s := s.wr (.hbm .rgnCtrlRecover) r 0
  if s.rd (.hbm .rgnStatState) r == 1 && s.on (.hbm .rgnStatSnap) r then
    let s := (s.wr (.hbm .rgnStatState) r 2).setPcs r 2
    s.forClusters allClusters fun s c =>
      match s.pic[c].meshLoad with
      | some m => if regionAt m.src == r then
          ((s.modPic c fun p => { p with meshLoad := none }).wr (.geo .meshLoadBusy) c 0).wr (.geo .meshLoadErr) c 1 else s
      | none => s
  else s

/-- The region's memory serves again at F0 (R290): READY, or NORMAL at once without an enabled cluster. -/
def regionReady (s : State) (r : Fin 2) : State :=
  let s := (s.setPcs r 0).modRegion r fun g => { g with freezeAt := none }
  let s := (List.range 4).foldl (fun s i => s.wr (.hbm .fcCur) (4 * r.val + i) 0) s
  let s := (List.range 8).foldl (fun s i => s.wr (.hbm .pcStateSet) (8 * r.val + i) 0) s
  let cs := s.regionClusters r
  if cs.isEmpty then s.wr (.hbm .rgnStatState) r 0
  else { s.wr (.hbm .rgnStatState) r 3 with
         mem := { s.mem with fallback := cs.foldl (fun v (c : Fin 4) => v.set c true) s.mem.fallback } }

/-- The contents of a region's HBM are lost. -/
def loseRegion (s : State) (r : Fin 2) : State :=
  { s with hbm := s.hbm.filter fun x => addrRegion x.1 != r.val
           mem := { s.mem with poisoned := s.mem.poisoned.filter fun b => addrRegion (32 * b) != r.val } }

/-- A section of the image in force, read again from its slot, no longer matches its HASH (R44, R49): EPH_REJECT and event 0x1A41 with reason 0x0A. -/
def reject44 (s : State) (sec : Nat) : State :=
  let slot := s.rd (.eph .statusSlot) 0
  let s := ((s.wr (.eph .rejectReason) 0 0x0A).wr (.eph .rejectSource) 0 slot).wr (.eph .rejectSection) 0 sec
  (s.wr (.eph .rejectIdxIdx) 0 0).report .eph 0 0x1A41 [(1, 0x0A), (1, slot), (2, sec), (4, 0)]

/-- A degraded profile is applied (R291): its map replaces the partitions, which are treated as lost. MESH tables are loaded again from the image
in force, and an input's buffers refill from its next complete frame. `meshBad` says that the section that holds the tables no longer matches its
HASH: it is not used, and the image is rejected (R44). -/
def applyProfile (s : State) (r : Fin 2) (num : Nat) (pf : Profile) (meshBad : Bool) : State :=
  let pc := 8 * r.val + pf.failed
  let old := s.mem.regions[r].parts
  let lost := maskOf 32 fun i => match old[i]? with | some p => p.kind == 2 || p.kind == 3 | none => false
  let s := (s.modRegion r fun g => { g with parts := pf.parts }).loseRegion r
  let s := if old.any fun p => p.kind == 6 || p.kind == 7 then s.loseRing else s
  let s := if meshBad then s.reject44 2 else match s.eph.inForce with | some im => s.storeMeshes im.plan (some r) | none => s
  let s := ([0, 1, 2, 3] : List (Fin 4)).foldl (fun s i =>
    if (old ++ pf.parts).any fun x => x.kind == 1 && x.dpin == i.val then s.placeInput i pf.parts else s) s
  let s := (((s.wr (.hbm .profileNum) r num).wr (.hbm .profileFailed) r (2 ^ pf.failed)).wr (.hbm .pcStateRemapped) pc 1).wr (.hbm .pcStateFailed) pc 1
  (s.wr (.st .pc .degr) pc 1).report .pc pc 0x2642 [(1, num), (4, lost)]

/-- Training of a whole region has ended (R290, R291, R309): every pseudo-channel passes, or a profile names the single failed
one, or the region stays on the fallback path. -/
def regionTrained (s : State) (r : Fin 2) (failed : Nat) (meshBad : Bool) : Bool × State :=
  let bad := setBits 8 failed
  let s := s.wr (.hbm .profileFailed) r failed
  let s := bad.foldl (fun s i =>
    (s.wr (.hbm .pcStateFailed) (8 * r.val + i) 1).noTapEvent 0 ((8 * r.val + i) * 256)) s
  match bad with
  | [] => (true, s)
  | [i] =>
    match (s.mem.regions[r].profiles.zipIdx).find? fun x => x.1.failed == i with
    | some x => (true, s.applyProfile r (x.2 + 1) x.1 meshBad)
    | none => (false, (s.wr (.hbm .rgnStatState) r 4).report .hbm r 0x2603 [(1, 2)])
  | _ => (false, (s.wr (.hbm .rgnStatState) r 4).report .hbm r 0x2603 [(1, 2)])

/-! ### Frequency changes -/

/-- A layer of a LAYER partition on a channel keeps a frequency change from its step 3 (R280): its fetch for the current frame is not finished, or a
meridian of its cluster is too near. A change that is done by now began its step 3, of at most 20 µs, at least 30 µs before every such
meridian. -/
def fcBlocked (s : State) (ch : Nat) : Bool :=
  let on := fun (a : Nat) => match s.partOf a with
    | some p => p.kind == 2 && (setBits 8 p.pcmask).any fun i => 4 * addrRegion a + i / 2 == ch
    | none => false
  allClusters.any fun c => allLayers.any fun l =>
    match s.pic[c].layers[l].lease with
    | some le => (on le.first || on le.last) && (s.pic[c].layers[l].window || (s.chr[c].running && s.now ≤ s.chr[c].nextM && s.chr[c].nextM < s.now + usCclk 10))
    | none => false

/-- A frequency change starts, or waits while a helper gathers on the channel (R280); a channel of a stopped region obeys the freeze, and the set is
given up (R281). -/
def startFc (s : State) (ch set : Nat) : State :=
  if s.regionStopped (ch / 4) then (s.modMem fun m => { m with fcWait := m.fcWait.filter fun x => x.1 != ch }).wr (.hbm .fcFcPending) ch 0
  else if s.gathering ch then
    (s.modMem fun m => { m with fcWait := (ch, set) :: m.fcWait.filter fun x => x.1 != ch }).wr (.hbm .fcFcPending) ch 1
  else
    let s := s.modMem fun m =>
      { m with
        fcWait := m.fcWait.filter fun x => x.1 != ch
        fcBusy := (ch, set, s.now) :: m.fcBusy.filter fun x => x.1 != ch }
    (s.wr (.hbm .fcFcPending) ch 0).wr (.hbm .fcBusy) ch 1

/-- REQSET written (R279 to R281). -/
def requestSet (s : State) (ch : Fin 8) (set : Nat) : State :=
  let s := (s.wr (.hbm .fcReqset) ch set).wr (.hbm .fcRefused) ch 0
  let st := s.rd (.hbm .rgnStatState) (ch.val / 4)
  if !s.on (.hbm .fcElastic) ch || 3 ≤ set || s.rd (.hbm .fcMinset) ch < set || st == 1 || st == 2 || st == 4 then
    (s.wr (.hbm .fcRefused) ch 1).report .hbm (ch.val / 4) 0x1605 [(1, ch.val), (1, set)]
  else if s.on (.hbm .fcBusy) ch || s.rd (.hbm .pcStatePwr) (2 * ch.val) == 2 then
    s.modMem fun m => { m with fcNext := (ch.val, set) :: m.fcNext.filter fun x => x.1 != ch.val }
  else s.startFc ch set

/-! ### Plate words -/

/-- A plate word fails parity as a reader finds it (R295): the bank counts it, and it stays bad until it is rewritten. The plane generator's event is
its own (0x2305). -/
def plateFails (s : State) (a : Nat) : State :=
  let s := s.bump (.plt .parCntParity) (a / 2 ^ 23 % 16)
  s.modMem fun m => { m with badPlate := if m.badPlate.contains (a / 8) then m.badPlate else a / 8 :: m.badPlate }

/-- A plate word fails parity at a reader whose event is the bank's (R295); the manual gives the readers no codes, so that in the event is a free
value. -/
def plateError (s : State) (a : Nat) : State :=
  let code := s.freeBits 8
  (code.2.plateFails a).report .bank (a / 2 ^ 23 % 16) 0x2681 [(4, a / 4), (1, code.1)]

/-- The read of a read-modify-write in the plate store fails parity now (R292), at an offset of a write of n bytes: the word is poisoned. -/
def plateRmwFails (s : State) (a n : Nat) (bad : Option Nat) : State :=
  match bad with
  | none => s
  | some o =>
    let w := (a + o) / 8
    if n ≤ o || (a ≤ 8 * w && 8 * w + 8 ≤ a + n) || s.mem.badPlate.contains w then s
    else (s.modMem fun m => { m with badPlate := w :: m.badPlate }).bump (.plt .parCntPoison) (8 * w / 2 ^ 23 % 16)

/-- Bytes written to the plate store (R292): a word written whole is good again; a bad word in a read-modify-write is poisoned. -/
def plateStore (s : State) (a : Nat) (bs : List Nat) : State :=
  let touched := s.mem.badPlate.filter fun w => a < 8 * w + 8 && 8 * w < a + bs.length
  let whole := touched.filter fun w => a ≤ 8 * w && 8 * w + 8 ≤ a + bs.length
  let s := { s with plate := cellStore s.plate a bs }
  let s := s.modMem fun m => { m with badPlate := m.badPlate.filter fun w => !whole.contains w }
  (touched.filter fun w => !whole.contains w).foldl (fun s w => s.bump (.plt .parCntPoison) (8 * w / 2 ^ 23 % 16)) s

/-- An address lies in a cluster's host-plane fallback buffer (R286, R293). -/
def inHostPlane (s : State) (c : Fin 4) (a : Nat) : Bool :=
  let pitch := s.rd (.plt .fbPitchPitch) (fbInst c) * 64
  let base := s.fbAddr c 0 0
  let wh := s.fbSize c
  s.cfg[c].present && s.on (.plt .fbCfgKind) (fbInst c) && 0 < pitch && base ≤ a
    && (a - base) / pitch < wh.2 && (a - base) % pitch < wh.1 * s.fbBpp c

/-- A BAR4 write inside a buffer during composition-lite's read window tears the tiles it maps to (R288). -/
def hostPlaneWrite (s : State) (c : Fin 4) (a n : Nat) : State :=
  let s := s.modMem fun m => { m with fbWritten := m.fbWritten.set c true }
  let l := s.fbLayer c
  if !s.fbReading c then s else
  let f := s.lastFrame c
  let s := (s.flagBy c f .torn (s.tilesOfBytes c (s.fbCfg c) a (a + n - 1)) .layer (layerInst c l)).bump (.plt .fbStatViol) (fbInst c)
  s.report .layer (layerInst c l) 0x2202 [(4, a / 4), (2, min n 0xFFFF), (4, f)]

end State

/-- HOST_HBM_WRITE (R85, R86, R267, R268, R273, R283, R378): split at the region boundary. -/
def execHostHbmWrite (t off : Nat) (data : HbmBytes) (s : State) : Result :=
  let s := s.advance t
  let bad := data.bad
  if s.host.d3hot then .next (s.complete .ur []) else
  match s.bar2Addr off with
  | none => .fault (.noSuchAddress off)
  | some a =>
    let bs := data.bytes.map BitVec.toNat
    if hbmEnd < a + bs.length then .fault (.noSuchAddress (a + bs.length - 1)) else
    let n := if a < 2 ^ 33 then min bs.length (2 ^ 33 - a) else bs.length
    .next (((s.hostWritePart a (bs.take n) (bad.filter (· < n)) data.lat).hostWritePart (a + n) (bs.drop n)
      ((bad.filter (n ≤ ·)).map (· - n)) data.lat).complete .ok [])

/-- HOST_HBM_READ (R267, R270, R283): all ones where no partition is, Completer Abort in a frozen region, poisoned on a
detection error, `check` naming the offset within the access whose burst fails it now. -/
def execHostHbmRead (t off len : Nat) (check : ReadCheck) (s : State) : Result :=
  let s := s.advance t
  if s.host.d3hot then .next (s.complete .ur []) else
  match s.bar2Addr off with
  | none => .fault (.noSuchAddress off)
  | some a =>
    if hbmEnd < a + len then .fault (.noSuchAddress (a + len - 1)) else
    let parts := if a < 2 ^ 33 && 2 ^ 33 < a + len then [(a, 2 ^ 33 - a), (2 ^ 33, a + len - 2 ^ 33)] else [(a, len)]
    .next (parts.foldl (fun s x =>
      let r := State.regionAt x.1
      let old := s.completion.bytes
      let worse := fun (st : BusStatus) => if s.completion.status == .ok then st else s.completion.status
      match s.partOf x.1 with
      | none =>
        ((s.bump (.hbm .unmappedReads) r).report .hbm r 0x1607 [(4, x.1 / 4), (1, 0)]).complete (worse .ok)
          (old ++ List.replicate x.2 0xFF)
      | some _ =>
        if s.regionStopped r then (s.bump (.pci .errCa) 0).complete (worse .ca) old
        else
          let hit := (check.bad.bind fun o => if x.1 ≤ a + o && a + o < x.1 + x.2 then some (a + o) else none)
            <|> (s.badBurst x.1 x.2).map (32 * ·)
          let bytes := old ++ cellLoad s.hbm x.1 x.2
          let s := (s.request x.1 x.2).served r 4 check.lat
          match hit with
          | none => s.complete (worse .ok) bytes
          | some e =>
            let s := (s.detectionError e 4 (s.srcPath .pci 0 0xFF)).report2641 e 4
            (s.bump (.pci .errPoisoned) 0).complete (worse .poisoned) bytes) (s.complete .ok []))

/-- Consecutive bytes gathered into runs, each its first address and its bytes. -/
def runs : List (Nat × Nat) → List (Nat × List Nat)
  | [] => []
  | x :: xs =>
    match runs xs with
    | r :: rs => if r.1 == x.1 + 1 then (x.1, x.2 :: r.2) :: rs else (x.1, [x.2]) :: r :: rs
    | [] => [(x.1, [x.2])]

/-- BAR4_WRITE (R292, R293): accepted only into host-plane fallback buffers. -/
def execBar4Write (t off : Nat) (data : PlateBytes) (s : State) : Result :=
  let s := s.advance t
  if s.host.d3hot then .next (s.complete .ur []) else
  let n := data.bytes.length
  if plateEnd < off + n then .fault (.noSuchAddress (off + n - 1)) else
  let bytes := (data.bytes.map BitVec.toNat).zipIdx.map fun x => (off + x.2, x.1)
  let ok := fun a => allClusters.any fun c => s.inHostPlane c a
  let s1 := (runs (bytes.filter fun x => ok x.1)).foldl (fun s x =>
    (s.plateStore x.1 x.2).plateRmwFails x.1 x.2.length (data.bad.bind fun o => if x.1 ≤ off + o then some (off + o - x.1) else none)) s
  let s1 := s1.forClusters allClusters fun s c =>
    if bytes.any fun x => s.inHostPlane c x.1 then s.hostPlaneWrite c off n else s
  match bytes.find? fun x => !ok x.1 with
  | none => .next (s1.complete .ok [])
  | some x =>
    let r := x.1 / 2 ^ 26
    .next (((s1.bump (.plt .winerrCount) r).report .bank (x.1 / 2 ^ 23) 0x1682 [(4, x.1 / 4)]).complete .ok [])

/-- BAR4_READ (R292, R293, R295): anywhere in the plate store; a bad word poisons the completion. `bad` is an offset within
the access whose word fails parity now. -/
def execBar4Read (t off len : Nat) (bad : Option Nat) (s : State) : Result :=
  let s := s.advance t
  if s.host.d3hot then .next (s.complete .ur []) else
  if plateEnd < off + len then .fault (.noSuchAddress (off + len - 1)) else
  let bytes := (List.range len).map fun i => s.plateByte (off + i)
  let known := s.mem.badPlate.find? fun w => off < 8 * w + 8 && 8 * w < off + len
  match (bad.bind fun o => if o < len then some (off + o) else none) <|> known.map (8 * ·) with
  | none => .next (s.complete .ok bytes)
  | some a => .next (((s.plateError a).bump (.pci .errPoisoned) 0).complete .poisoned bytes)

/-- HBM_WRITE_PARITY_ERROR (R269): counted; `again` says that the re-issue failed too, which poisons the burst. -/
def execHbmWriteParityError (t addr : Nat) (again : Bool) (s : State) : Result :=
  let a := addr % hbmEnd
  let s := (s.advance t).bump (.hbm .pcCntWpar) (s.pcOf a)
  .next (if again then (s.bump (.hbm .pcCntWpar) (s.pcOf a)).poisonBurst (a / 32) else s)

/-- LAYER_READ_ERROR (R88, R270): a layer's read fails while its window is open. -/
def execLayerReadError (t : Nat) (c : Fin 4) (l : Fin 8) (addr : Nat) (s : State) : Result :=
  let s := s.advance t
  let a := addr % hbmEnd
  if !s.pic[c].layers[l].window || !s.composing c || s.mem.fallback[c] then .next s else
  .next ((s.detectionError a 2 (s.srcPath .layer (layerInst c l) 0xFF)).layerReadError c l a)

/-- FETCH_LATE (R89, R273): the layer's composed lines y0 to y1 are missing; they show the result below, torn. -/
def execFetchLate (t : Nat) (c : Fin 4) (l : Fin 8) (y0 : Nat) (y1 : LateTo) (s : State) : Result :=
  let s := s.advance t
  let k := s.layerCfg c l
  if !s.pic[c].layers[l].window || !s.composing c || s.mem.fallback[c] then .next s else
  .next ((s.served (State.regionAt k.leaseRange.1) 2 y1.lat).lateLines c l y0 y1.line)

/-- FENCE_GO (R276). -/
def execFenceGo (t : Nat) (s : State) : Result :=
  let s := ((s.advance t).wr (.hbm .fenceBusy) 0 1).wr (.hbm .fenceDone) 0 0
  .next (s.modMem fun m => { m with covered := m.covered || m.dropped, dropped := false })

/-- FENCE_DONE (R276, R380): DONE, LOST and vector 2. -/
def execFenceDone (t : Nat) (s : State) : Result :=
  let s := s.advance t
  if !s.on (.hbm .fenceBusy) 0 then .next s else
  let s := ((s.wr (.hbm .fenceBusy) 0 0).wr (.hbm .fenceDone) 0 1).wrb (.hbm .fenceLost) 0 s.mem.covered
  .next ((s.modMem fun m => { m with covered := false }).signal 2)

/-- REGION_FREEZE (R282, R283): the controller takes a FREEZE written before, CAUSE 4, or freezes on a command/address parity
error, CAUSE 1. -/
def execRegionFreeze (t : Nat) (r : Fin 2) (pc : Fin 8) (addr port path : Nat) (s : State) : Result :=
  let s := s.advance t
  let cause := if s.on (.hbm .rgnCtrlFreeze) r then 4 else 1
  .next (s.freeze r cause (8 * r.val + pc.val) (addr % hbmEnd) (s.kindAt (addr % hbmEnd)) port path)

/-- FREEZE_REQUEST (R282): FREEZE reads 1 until the freeze has been taken. -/
def execFreezeRequest (t : Nat) (r : Fin 2) (s : State) : Result := .next ((s.advance t).wr (.hbm .rgnCtrlFreeze) r 1)

/-- What the firmware copies of a freeze (R283): HBM_FRZ_INFO's fields, the address, the source path, the wall time and the cause. -/
def State.freezeRegs (s : State) (r : Fin 2) : List Nat :=
  ([.frzInfoPc, .frzInfoKind, .frzInfoPort, .frzInfoRdq, .frzInfoWrq, .frzAddrAddr, .frzSrcPath, .frzTimeTime, .rgnStatCause] : List HbmF).map
    fun f => s.rd (.hbm f) r

/-- FREEZE_SNAPSHOT_DONE (R283, R290): the copy, which stands beside the ring since the manual gives it no record format (log entry 132), and SNAP; with
AUTORECOVER the firmware writes RECOVER. -/
def execFreezeSnapshotDone (t : Nat) (r : Fin 2) (s : State) : Result :=
  let s := s.advance t
  if s.rd (.hbm .rgnStatState) r != 1 || !s.duty 5 then .next s else
  let s := (s.modRegion r fun g => { g with snap := s.freezeRegs r }).wr (.hbm .rgnStatSnap) r 1
  .next (if s.on (.hbm .rgnCtrlAutorecover) r then s.startRecovery r else s)

/-- RECOVER (R290): starts recovery in FROZEN with SNAP = 1, and is ignored otherwise. -/
def execRecover (t : Nat) (r : Fin 2) (s : State) : Result := .next ((s.advance t).startRecovery r)

namespace State

/-- The taps object of a region's timing set (R311). -/
def hbmTapsPayload (s : State) (r set : Nat) : List Nat :=
  ((List.range 8).flatMap fun i => (List.range 72).flatMap fun b =>
    let j := (8 * r + i) * 216 + set * 72 + b
    [s.rd (.trn .hbmTapRd) j, s.rd (.trn .hbmTapWr) j])
  ++ (List.range 8).map fun i => s.rd (.hbm .pcStateFailed) (8 * r + i)

end State

/-- The taps that training leaves in a region, as (index, read, write), are in force, and each set that changed is stored (R311). -/
def State.keepTaps (s : State) (r : Fin 2) (taps : List (Nat × Nat × Nat)) : State :=
  let mine := taps.filter fun x => x.1 / 216 / 8 == r.val
  let s := mine.foldl (fun s x => (s.wr (.trn .hbmTapRd) x.1 x.2.1).wr (.trn .hbmTapWr) x.1 x.2.2) s
  (List.range 3).foldl (fun s set =>
    if mine.any fun x => x.1 % 216 / 72 == set then s.almRequest (1 + 3 * r.val + set) (s.hbmTapsPayload r.val set) else s) s

/-- RECOVERY_DONE (R290, R291, R307, R311); a recovery relocks the region's PLL (R362). A failed one captures the condition that ended it. -/
def execRecoveryDone (t : Nat) (r : Fin 2) (e : RecoveryEnd) (s : State) : Result :=
  let s := s.advance t
  if s.rd (.hbm .rgnStatState) r != 2 then .next s else
  match e with
  | .failed cause pc addr port path =>
    let a := addr % hbmEnd
    .next (((s.captureFreeze r (8 * r.val + pc.val) a (s.kindAt a) port path).wr (.hbm .rgnStatCause) r cause.val).recoveryFailed r)
  | .trained failed ms taps meshBad =>
    let x := s.regionTrained r failed meshBad
    let x := (x.1, x.2.keepTaps r taps)
    if x.1 then
      let s := x.2.regionReady r
      let s := s.wr (.pwr .pllLock) 0 (putBit (s.rd (.pwr .pllLock) 0) (1 + r.val) true)
      .next (s.report .hbm r 0x1602 [(4, ms), (1, s.rd (.hbm .profileNum) r)])
    else .next x.2

/-- FREQ_CHANGE_REQUEST (R279 to R281). -/
def execFreqChangeRequest (t : Nat) (ch : Fin 8) (set : Fin 4) (s : State) : Result := .next ((s.advance t).requestSet ch set.val)

/-- FREQ_CHANGE_DONE (R280, R281): CUR, COUNT and event 0x1604; a set requested meanwhile is taken next. A change that a layer's fetch holds up is not
done. -/
def execFreqChangeDone (t : Nat) (ch : Fin 8) (s : State) : Result :=
  let s := s.advance t
  match s.mem.fcBusy.find? fun x => x.1 == ch.val with
  | none => .next s
  | some x =>
    if s.fcBlocked ch then .next s else
    let next := s.mem.fcNext.find? fun y => y.1 == ch.val
    let s := s.modMem fun m =>
      { m with
        fcBusy := m.fcBusy.filter fun y => y.1 != ch.val
        fcNext := m.fcNext.filter fun y => y.1 != ch.val }
    let s := ((s.wr (.hbm .fcCur) ch x.2.1).bump (.hbm .fcCount) ch).wr (.hbm .fcBusy) ch 0
    let s := (s.wr (.hbm .pcStateSet) (2 * ch.val) x.2.1).wr (.hbm .pcStateSet) (2 * ch.val + 1) x.2.1
    let s := s.report .hbm (ch.val / 4) 0x1604 [(1, ch.val), (1, x.2.1), (4, (s.now - x.2.2) / 1600)]
    .next (match next with | some y => s.startFc ch y.2 | none => s)

/-- The slack of a cluster's plane reader (R277): the time until the next band read must be issued under PLN_RDLEAD (R126), before the next reset of the
frame on display and of one more frame under its schedule; none while no frame is shown. -/
def State.planeSlack (s : State) (c : Fin 4) : Option Nat :=
  match s.frameRec c (s.shownFrame c) with
  | none => none
  | some f =>
    let lead := s.rd (.tri .cmdAdvAdv) c + s.rd (.tri .sendWinWin) c + max 25600 (s.rd (.pln .rdleadLead) c)
    let base := s.chr[c].lastF
    ((frameResets f.sched).flatMap fun o => [base + o, base + s.cfg[c].period + o]).filterMap (fun r =>
      if s.now + lead < r then some (r - lead - s.now) else none) |>.min?

/-- Every plane reader with a PLANE partition on a pseudo-channel states a slack of at least PDX (R277). -/
def State.slackOk (s : State) (p : Nat) : Bool :=
  let r : Fin 2 := Fin.ofNat 2 (p / 8)
  !((s.mem.regions[r]).parts.any fun x => x.kind == 0 && bit x.pcmask (p % 8))
  || (s.regionClusters r).all fun c => match s.planeSlack c with
    | some n => decide (160 * s.rd (.hbm .pwrPdx) r ≤ n)
    | none => true

/-- PC_POWER_DOWN (R277): after IDLE without a request and with enough slack, never in a region that is frozen or while a burst gathers there, and only
from the active state. -/
def execPcPowerDown (t : Nat) (p : Fin 16) (s : State) : Result :=
  let s := s.advance t
  let idle := s.mem.lastReq[p] + 16 * s.rd (.hbm .pwrIdle) (p.val / 8) ≤ s.now
  .next (if s.rd (.hbm .pcStatePwr) p == 0 && idle && s.slackOk p && !s.regionStopped (p.val / 8) && !s.gathering (p.val / 2) then
      s.wr (.hbm .pcStatePwr) p 1 else s)

/-- PC_POWER_DOWN_EXIT (R277). -/
def execPcPowerDownExit (t : Nat) (p : Fin 16) (s : State) : Result :=
  let s := s.advance t
  .next (if s.rd (.hbm .pcStatePwr) p == 1 then s.wr (.hbm .pcStatePwr) p 0 else s)

/-- SELF_REFRESH_ENTRY (R278): when every enabled cluster of the region is held, the channel has had no request for SRIDLE and no burst gathers on
it. -/
def execSelfRefreshEntry (t : Nat) (ch : Fin 8) (s : State) : Result :=
  let s := s.advance t
  let r : Fin 2 := Fin.ofNat 2 (ch.val / 4)
  let since := max (s.mem.lastReq[(Fin.ofNat 16 (2 * ch.val) : Fin 16)]) (s.mem.lastReq[(Fin.ofNat 16 (2 * ch.val + 1) : Fin 16)])
  if (s.regionClusters r).all (fun c => s.on (.chr .heldHeld) c) && since + usCclk (s.rd (.hbm .pwrSridle) r) ≤ s.now && !s.regionStopped r && !s.gathering ch then
    .next ((s.wr (.hbm .pcStatePwr) (2 * ch.val) 2).wr (.hbm .pcStatePwr) (2 * ch.val + 1) 2)
  else .next s

/-- The code of a scrubbed store (the order of R296's table). -/
def ScrubStore.code : ScrubStore → Nat
  | .hbm => 0
  | .plate => 1
  | .almanac => 2

/-- A scrub lap ends (R296): event 0x17C1 with the store, its errors and its duration; LATE when it overran its cycle. -/
def State.lapDone (s : State) (st : ScrubStore) (cycle : Nat) : State :=
  let i : Fin 3 := Fin.ofNat 3 st.code
  let lap := s.mem.laps[i]
  let start := lap.start.getD s.now
  let secs := (s.now - start) / msCclk 1000
  let late := s.rd (.hbm .scrubStatLate) 0
  let s := s.wr (.hbm .scrubStatLate) 0 (putBit late i.val (decide (cycle * msCclk 1000 < s.now - start)))
  (s.modMem fun m => { m with laps := m.laps.set i ⟨some s.now, 0, 0⟩ }).report .scrub 0 0x17C1 [(1, st.code), (4, lap.errs), (4, secs)]

/-- The scrubber finds an error in the Almanac (R326): in copy B or A of an object, or in a saved Logbook slot, whose place is
0x10000 + slot; what the slot held is lost, so that a later recovery finds it invalid too. -/
def State.almScrubError (s : State) (place : Nat) (copyB : Bool) : State :=
  if 0x10000 ≤ place then
    let i : Fin 2 := Fin.ofNat 2 (place - 0x10000)
    let s := s.modLog fun l => { l with saves := l.saves.set i { l.saves[i] with valid := false }, slots := l.slots.set i [] }
    s.showSaves.report .log 0 0x2B05 [(1, i.val)]
  else
    let o := s.almObj place
    let v := s.valOr0 place o.len
    let s := s.modAlm fun a => { a with objs := putObj a.objs (if copyB then { o with b := [] } else { o with a := [] }) }
    (s.almWrite place v).report .alm 0 0x1904 [(2, place), (1, b2n copyB)]

/-- SCRUB_READ (R296, R322, R326): the next unit of a store; `place` is its address, or its object or slot; `err` says that the read
fails its check, in copy B of an object where `copyB`; `last` that the lap ends. -/
def execScrubRead (t : Nat) (st : ScrubStore) (place : Nat) (err copyB last : Bool) (s : State) : Result :=
  let s := s.advance t
  let i : Fin 3 := Fin.ofNat 3 st.code
  let cycle := match st with
    | .hbm => s.rd (.hbm .scrubCfgHbmh) 0 * 3600
    | .plate => s.rd (.hbm .scrubCfgPltm) 0 * 60
    | .almanac => s.rd (.hbm .scrubCfgAlmh) 0 * 3600
  let a := place % hbmEnd
  let blocked := match st with
    | .hbm => s.rd (.hbm .pcStatePwr) (s.pcOf a) != 0 || (match s.partOf a with | some p => p.kind == 0 | none => true)
    | _ => false
  if st == .almanac && s.log.saving.isSome then .next s else
  if cycle == 0 || !s.domOn 49 || s.halted .scrub 0 || !s.duty 2 || 1 ≤ s.rd (.pwr .limitAct) 0 || blocked then .next s else
  let s := s.modMem fun m => { m with laps := m.laps.set i { m.laps[i] with start := m.laps[i].start <|> some s.now, unit := m.laps[i].unit + 1 } }
  let copy := if copyB then (s.almObj place).b else (s.almObj place).a
  let bad := err || match st with
    | .hbm => s.mem.poisoned.contains (a / 32)
    | .plate => s.mem.badPlate.contains (place / 8)
    | .almanac =>
      if 0x10000 ≤ place then
        let i : Fin 2 := Fin.ofNat 2 (place - 0x10000)
        (s.log.saves[i]).valid && (s.log.saves[i]).crc != crc32 (State.slotBytes s.log.slots[i])
      else s.alm.objs.any (fun o => o.oid == place) && !copyValid place (s.almObj place).len copy
  let s := if !bad then s else
    let s := s.modMem fun m => { m with laps := m.laps.set i { m.laps[i] with errs := m.laps[i].errs + 1 } }
    match st with
    | .hbm =>
      let pc := s.pcOf a
      let s := (s.bump (.hbm .pcCntScrub) pc).bump (.hbm .scrubStatHbmerr) 0
      s.report .pc pc (if controlKind (s.kindAt a) then 0x2645 else 0x1644) [(4, a / 4), (1, s.kindAt a)]
    | .plate => (s.plateError (place % plateEnd)).bump (.hbm .scrubStatPlterr) 0
    | .almanac => (s.almScrubError place copyB).bump (.hbm .scrubStatAlmerr) 0
  .next (if last then s.lapDone st cycle else s)

end Sys2Proof.Machine
end

