-- ==== Sys2Proof/Machine/TableRows.lean ====
section
/-! DEFINITION. Table pages and schedules: window writes, mesh loads, parity and validation (R93 to R96, R102, R116 to R120). -/

namespace Sys2Proof.Machine
namespace State

/-- What a cluster's schedules must agree with (R118). -/
def schedEnv (s : State) (c : Fin 4) : SchedEnv :=
  let g := s.cfg[c]
  { w := g.w, h := g.h, period := g.period, bands := g.bands, settle := g.settle, cache := g.cache }

/-- The VALID field of a page. -/
def validFld (page : Nat) : Fld := if page == 0 then .pln .schedChkValid0 else .pln .schedChkValid1

/-- A page is validated (R118): VALID, REASON and ENTRY, and the outcome that a refusal at a commit repeats (R120). -/
def validatePage (s : State) (c : Fin 4) (page : Nat) : State :=
  let f := pageFault (s.schedEnv c) (s.schedOf c page)
  let s := s.wrb (validFld page) c f.isNone
  let s := (s.wr (.pln .schedChkReason) c ((f.map Prod.fst).getD 0)).wr (.pln .schedChkEntry) c ((f.map Prod.snd).getD 0)
  s.modPic c fun p => { p with schedFail := p.schedFail.set (Fin.ofNat 2 page) f }

/-- The entry count of a cluster's mesh (R93). -/
def meshCount (s : State) (c : Fin 4) : Nat := meshCols s.cfg[c].w * meshRows s.cfg[c].h

/-- A complete mesh load: entries copied, DY clamped and counted, parity regenerated (R94, R95, R102). -/
def copyMesh (s : State) (c : Fin 4) (m : MeshLoad) : State :=
  let pg : Fin 2 := Fin.ofNat 2 m.page
  let word := fun i => cellWord s.hbm ((m.src + 4 * i) % hbmEnd) 4
  let clamped := ((List.range m.count).filter fun i => clampWrite (.geo .meshDy) (bits (word i) 16 16) != bits (word i) 16 16).length
  let s1 := (List.range m.count).foldl (fun s i =>
    let inst := c.val * 81920 + m.page * 40960 + i
    (s.wr (.geo .meshDx) inst (bits (word i) 0 16)).wr (.geo .meshDy) inst (clampWrite (.geo .meshDy) (bits (word i) 16 16))) s
  (s1.modPic c fun p =>
    { p with
      meshClamps := p.meshClamps.set pg clamped
      meshBad := p.meshBad.set pg false
      meshLoad := none
      badWords := p.badWords.filter fun b => !(b.table == .mesh && b.page == m.page && decide (b.index < m.count)) }).wr
    (.geo .meshStatClamped) c (satN 16 clamped)

end State

/-- TABLE_WINDOW_WRITE (R94, R95, R101, R102): a write to a mesh, LUT, blend or uniformity window. -/
def execTableWindowWrite (t addr : Nat) (data : Word) (s : State) : Result :=
  let s := s.advance t
  let a := addr % bar0End / 4 * 4
  if s.host.d3hot then .next (s.complete .ur []) else
  .next (if (fieldsAt a).any (fun x => (State.tableOf x.1 x.2.1).isSome) then (s.busWrite a data.toNat 0).1 else s)

/-- SCHED_WINDOW_WRITE (R120): ignored on the page in force; on the other page it clears VALID. -/
def execSchedWindowWrite (t addr : Nat) (data : Word) (s : State) : Result :=
  let s := s.advance t
  let a := addr % bar0End / 4 * 4
  if s.host.d3hot then .next (s.complete .ur []) else
  .next (if (fieldsAt a).any (fun x => x.1 == .pln .schedWord) then (s.busWrite a data.toNat 0).1 else s)

/-- MESH_LOAD_GO (R95): a load of the page in force does not start. DESIGN CHOICE: while a load is BUSY a further GO has no effect and leaves
ERR as it stands (log entry 105). -/
def execMeshLoadGo (t : Nat) (c : Fin 4) (s : State) : Result :=
  let s := s.advance t
  let pg := s.rd (.geo .meshLoadPage) c
  if s.pic[c].meshLoad.isSome then .next s else
  let s := s.wr (.geo .meshLoadErr) c 0
  if pg == s.rd (.geo .ctrlMeshPage) c then
    .next ((s.wr (.geo .meshLoadErr) c 1).applyErr (Fld.addr (.geo .meshLoadGo) c) 3 0)
  else
    let m : MeshLoad := { page := pg, src := s.rd (.geo .meshSrcAddr) c * 256, count := s.meshCount c }
    .next ((s.modPic c fun p => { p with meshLoad := some m, meshBad := p.meshBad.set (Fin.ofNat 2 pg) true }).wr (.geo .meshLoadBusy) c 1)

/-- MESH_LOAD_COMPLETE (R94 to R96): the load ends whole, or on a detection error at an address or at a poisoned burst. -/
def execMeshLoadComplete (t : Nat) (c : Fin 4) (err : Option Nat) (s : State) : Result :=
  let s := s.advance t
  match s.pic[c].meshLoad with
  | none => .next s
  | some m =>
    if s.regionStopped (State.addrRegion m.src) then .next s else
    match err <|> (s.badBurst m.src (4 * m.count)).map (32 * ·) with
    | some a => .next ((s.detectionError (a % hbmEnd) 2 (s.srcPath .geo c 0xFF)).meshLoadError c (a % hbmEnd))
    | none => .next ((s.copyMesh c m).wr (.geo .meshLoadBusy) c 0)

/-- TABLE_PARITY_ERROR (R102): a word of the page in force fails parity and is used as read, which is `word`. A word
already bad has been counted at the frame's composition: once per frame (R102). -/
def execTableParityError (t : Nat) (c : Fin 4) (table : TableId) (index word : Nat) (s : State) : Result :=
  let s := s.advance t
  let pg := s.pageInForce c table
  let b : BadWord := { table := table, page := pg, index := index }
  let s := match table with
    | .mesh =>
      let i := c.val * 81920 + pg * 40960 + index % 40960
      (s.wr (.geo .meshDx) i (bits word 0 16)).wr (.geo .meshDy) i (bits word 16 16)
    | .ilut => s.wr (.geo .ilutEntry) (c.val * 6150 + pg * 3075 + index % 3075) word
    | .olut => s.wr (.geo .olutEntry) (c.val * 6150 + pg * 3075 + index % 3075) word
    | .blend => s.wr (.geo .blendGain) (c.val * 512 + pg * 256 + index % 256) word
    | .uni => s.wr (.geo .uniG) (c.val * 18432 + pg * 9216 + index % 9216) word
  let known := s.pic[c].badWords.contains b
  let s := s.modPic c fun p => { p with badWords := if known then p.badWords else b :: p.badWords }
  .next (if !s.composing c then s else if known then s.recompose c (s.prevCrcs c) else (s.recompose c (s.prevCrcs c)).badWordUsed c b)

/-- SCHED_CHECK_GO (R118): validation of the page not in force. -/
def execSchedCheckGo (t : Nat) (c : Fin 4) (s : State) : Result :=
  let s := s.advance t
  if s.on (.pln .schedChkBusy) c then .next s else
  .next ((s.modPic c fun p => { p with schedBusy := some (1 - s.rd (.pln .ctrlSchedPage) c) }).wr (.pln .schedChkBusy) c 1)

/-- SCHED_CHECK_DONE (R118). -/
def execSchedCheckDone (t : Nat) (c : Fin 4) (s : State) : Result :=
  let s := s.advance t
  match s.pic[c].schedBusy with
  | none => .next s
  | some pg => .next (((s.validatePage c pg).modPic c fun p => { p with schedBusy := none }).wr (.pln .schedChkBusy) c 0)

end Sys2Proof.Machine
end

