-- ==== Sys2Proof/Machine/DisplayRows.lean ====
section
/-! DEFINITION. DisplayPort receivers: training, frames, loss, self-refresh and AUX (R71 to R78, R148, R152, R283, R286, R288). -/

namespace Sys2Proof.Machine
namespace State

/-- The clusters to which an input is routed: those whose picture has a layer on it, enabled or not; a clone target's is its source's (R72,
R80, R149). -/
def inputClusters (s : State) (i : Fin 4) : List (Fin 4) :=
  allClusters.filter fun c => s.chr[c].running && allLayers.any fun l =>
    let k := s.layerCfg ((s.cloneSrc c).getD c) l
    k.src == 1 && k.dpin == i

/-- Held outputs fed by an input wake with cause 1 (R152). -/
def wakeInput (s : State) (i : Fin 4) : State := s.forClusters (s.inputClusters i) fun s c => s.wakeHeld c 1

/-- DEGR of an input (R66): its link is up and the crop of a layer on it exceeds the active size. -/
def showCover (s : State) (i : Fin 4) : State :=
  let w := s.rd (.dpr .timingW) i
  let h := s.rd (.dpr .timingH) i
  s.wrb (.st .dpr .degr) i (s.on (.dpr .linkUp) i && allClusters.any fun c => s.cfg[c].present && allLayers.any fun l =>
    let k := s.layerCfg ((s.cloneSrc c).getD c) l
    k.en && k.src == 1 && k.dpin == i && (w < k.cx + k.w || h < k.cy + k.h))

/-- An input is lost (R75, R148). -/
def loseInput (s : State) (i : Fin 4) (cause : Nat) : State :=
  let s := ((s.wr (.dpr .linkUp) i 0).wr (.dpr .linkPsr) i 0).wr (.dpr .linkLostcause) i cause
  let s := ((s.report .dpr i 0x2801 [(1, cause)]).wakeInput i).showCover i
  s.forClusters allClusters fun s c =>
    if s.lockSrc c == 1 && s.rd (.chr .lockDpin) c == i.val then s.lockLost c 2 else s

/-- A frame is discarded (R73): the manual gives no codes for its cause, which is a free value. -/
def discardFrame (s : State) (i : Fin 4) : State :=
  let f := s.freeBits 8
  (f.2.bump (.dpr .frameDiscard) i).report .dpr i 0x2805 [(1, f.1)]

/-- A buffer of an input that a new frame may take: not locked by any layer, and not the latest complete frame (R78). DESIGN CHOICE: of
several the lowest-numbered (log entry 106). -/
def freeBuffer (s : State) (i : Fin 4) : Option Nat :=
  let locked := allClusters.flatMap fun (c : Fin 4) => allLayers.filterMap fun l => s.pic[c].layers[l].lock
  let latest := (s.dp[i].frames.head?).map (·.buf)
  (List.range 3).find? fun b => !locked.contains (i.val, b) && latest != some b

/-- A 10-bit component rounded to w bits (R286). -/
def round10 (w v : Nat) : Nat := min (2 ^ w - 1) ((v + 2 ^ (9 - w)) / 2 ^ (10 - w))

/-- A stored pixel in a fallback buffer's format. -/
def fbBytes (wide : Bool) (px : Nat) : List Nat :=
  let r := bits px 20 10
  let g := bits px 10 10
  let b := bits px 0 10
  if wide then [round10 8 b, round10 8 g, round10 8 r] else leBytes 2 (round10 5 r * 2048 + round10 6 g * 32 + round10 5 b)

/-- The receiver copies its frame's rectangle into the fallback buffer of a cluster (R286). -/
def fillFallback (s : State) (c : Fin 4) (w h : Nat) (px : Nat → Nat) : State :=
  let j := fbInst c
  let cx := s.rd (.plt .fbXyCx) j
  let cy := s.rd (.plt .fbXyCy) j
  let wh := s.fbSize c
  (List.range wh.2).foldl (fun s y =>
    if h ≤ cy + y then s else
    s.plateStore (s.fbAddr c 0 y) ((List.range (min wh.1 (w - cx))).flatMap fun x =>
      fbBytes (s.on (.plt .fbCfgFmt) j) (px ((cy + y) * w + cx + x)))) s

/-- The line of the fallback rectangle at which composition-lite's read for the frame of a meridian at m passes the receiver's write position, if it
does (R288): the read takes line y at m + (Y + y) lines, the write has line y in hand from h − y incoming lines before its end. -/
def tornLine (s : State) (c : Fin 4) (line m : Nat) : Option Nat :=
  let y0 := s.mem.fbHold[c].y
  let n := (s.fbSize c).2
  (List.range n).find? fun y =>
    let rd : Int := m + (y0 + y) * s.lineCclk c
    let from' : Int := (s.now : Int) - ((n - y) * line : Nat)
    from' ≤ rd && rd < from' + line

/-- A receiver has written while composition-lite read: in each fallback frame not yet closed, the tile row that both met in is torn (R288). -/
def tearFallback (s : State) (c : Fin 4) (line : Nat) : State :=
  (s.pic[c].frames.filter fun f => f.kind == .fallback).foldl (fun s f =>
    match s.tornLine c line f.mclk with
    | none => s
    | some y =>
      let row := s.mem.fbHold[c].y + y
      let ts := s.tilesReached c ⟨0, row, (s.cfg[c].w : Int) - 1, row⟩
      (s.flagBy c f.num .torn ts .dpr (s.rd (.plt .fbCfgDpin) (fbInst c))).bump (.plt .fbStatTorn) (fbInst c)) s

/-- The receiver writes its frame into the fallback buffers that name it, at all times (R286), and the frame's completion stamps them (R288). -/
def feedFallback (s : State) (i : Fin 4) (w h line : Nat) (px : Nat → Nat) : State :=
  (s.forClusters allClusters fun s c =>
    if s.cfg[c].present && !s.on (.plt .fbCfgKind) (fbInst c) && s.rd (.plt .fbCfgDpin) (fbInst c) == i.val then
      (s.fillFallback c w h px).tearFallback c line
    else s).modDp i fun d => { d with fbFrames := ((s.wall, s.now) :: d.fbFrames).take 3 }

/-- A frame of an input becomes complete (R71, R73, R74, R78, R283, R286): `px` are its pixels in PF_32_2101010, stored with alpha
0b11 (R71). DESIGN CHOICE: the receiver looks for its free buffer at this instant (log entry 106), and a frame larger than a third of the partition
runs on into the place of the next buffer (log entry 104). -/
def completeFrame (s : State) (i : Fin 4) (w h line : Nat) (px : Nat → Nat) : State :=
  let s := s.feedFallback i w h line px
  if s.regionStopped (addrRegion s.dp[i].base) then s.discardFrame i else
  match s.freeBuffer i with
  | none => (s.bump (.dpr .frameNobuf) i).report .dpr i 0x1803 [(8, s.wall)]
  | some b =>
    let f : DpFrame := { serial := s.dp[i].serial, stamp := s.wall, done := s.now, w := w, h := h, buf := b }
    let s := (s.request (s.dpBuffer i f % hbmEnd) (4 * w * h)).hbmStore (s.dpBuffer i f % hbmEnd) ((List.range (w * h)).flatMap fun k => leBytes 4 (px k % 2 ^ 30 + 3 * 2 ^ 30))
    let per := s.wall - s.dp[i].lastDone
    let s := s.modDp i fun d =>
      { d with frames := (f :: d.frames.filter fun x => x.buf != b).take 3, serial := d.serial + 1, lastDone := f.stamp }
    ((s.wr (.dpr .frameDone) i (s.rd (.dpr .frameDone) i + 1)).wr (.dpr .periodPeriod) i per).wakeInput i

end State

/-- A link or timing outside the feature table (R75): lanes other than 1, 2 or 4, or an active size that is empty or above 4096 × 2160. -/
def unsupported (lanes w h : Nat) : Bool := !([1, 2, 4] : List Nat).contains lanes || w == 0 || h == 0 || 4096 < w || 2160 < h

/-- DP_LINK_TRAINING (R75): `fit` says that the trained rate meets the incoming timing; otherwise the input is lost with cause 1. A timing
outside the feature table loses it with cause 4. -/
def execDpLinkTraining (t : Nat) (i : Fin 4) (fit : Bool) (rate : Fin 4) (lanes w h : Nat) (dsc : Bool) (s : State) : Result :=
  let s := s.advance t
  if !s.on (.dpr .linkHpd) i || !s.domOn (4 + i.val) || s.halted .dpr i then .next s
  else if !fit then .next (s.loseInput i 1)
  else if unsupported lanes w h then .next (s.loseInput i 4)
  else
    let was := !s.on (.dpr .linkUp) i && s.rd (.dpr .linkLostcause) i != 0
    let s := (((s.wr (.dpr .linkUp) i 1).wr (.dpr .linkRate) i rate.val).wr (.dpr .linkLanes) i lanes).wrb (.dpr .linkDsc) i dsc
    let s := ((s.wr (.dpr .timingW) i w).wr (.dpr .timingH) i h).showCover i
    let s := if rate.val < 3 then s.report .dpr i 0x1802 [(1, rate.val), (1, lanes)] else s
    .next (if was then s.report .dpr i 0x1806 [(1, rate.val), (1, lanes), (2, w), (2, h)] else s)

/-- DP_FRAME_COMPLETE (R73, R74, R76, R78): in self-refresh, and where it stands stopped (R18), the receiver writes nothing; it
converts the pixels (R71), missing ones 0 (log entry 107). `line` is the incoming line time in CCLK. -/
def execDpFrameComplete (t : Nat) (i : Fin 4) (w h line : Nat) (data : DpPixels) (s : State) : Result :=
  let s := s.advance t
  if !s.on (.dpr .linkUp) i || s.rd (.dpr .linkPsr) i != 0 || s.halted .dpr i then .next s else
  .next ((s.served (State.regionAt s.dp[i].base) 3 data.lat).completeFrame i w h line fun k => data.enc.toRgb (data.px.getD k 0))

/-- DP_FRAME_DISCARD (R73). -/
def execDpFrameDiscard (t : Nat) (i : Fin 4) (s : State) : Result := .next ((s.advance t).discardFrame i)

/-- DP_INPUT_LOST (R75): cause 1 training, 2 lock, 3 HPD, 4 unsupported. -/
def execDpInputLost (t : Nat) (i : Fin 4) (cause : Fin 5) (s : State) : Result :=
  let s := s.advance t
  if s.rd (.dpr .linkUp) i == 0 then .next s else .next (s.loseInput i cause.val)

/-- DP_PSR_CHANGE (R76, R152): 0 off, 1 PSR, 2 PSR2; leaving self-refresh wakes held outputs. -/
def execDpPsrChange (t : Nat) (i : Fin 4) (psr : Fin 3) (s : State) : Result :=
  let s := s.advance t
  if !s.on (.dpr .linkUp) i then .next s else
  let was := s.rd (.dpr .linkPsr) i
  let s := s.wr (.dpr .linkPsr) i psr.val
  .next (if was != 0 && psr.val == 0 then s.wakeInput i else s)

/-- DP_PSR2_UPDATE (R76): the latest complete frame copied, then lines y0 onward of the update written over it; a copy that meets
a detection error discards the frame (R270). -/
def execDpPsr2Update (t : Nat) (i : Fin 4) (y0 line : Nat) (data : DpPixels) (bad : Option Nat) (s : State) : Result :=
  let s := s.advance t
  match s.dp[i].frames.head? with
  | none => .next s
  | some f =>
    if !s.on (.dpr .linkUp) i || s.rd (.dpr .linkPsr) i != 2 || s.halted .dpr i then .next s else
    let s := s.served (State.regionAt s.dp[i].base) 3 data.lat
    let base := s.dpBuffer i f
    match (bad.map fun o => base + o) <|> (s.badBurst base (4 * f.w * f.h)).map (32 * ·) with
    | some a => .next ((s.detectionError (a % hbmEnd) 3 (s.srcPath .dpr i 0xFF)).discardFrame i)
    | none =>
      let old := s.hbm
      let first := y0 / 4 * 4 * f.w
      .next (s.completeFrame i f.w f.h line fun k =>
        if first ≤ k ∧ k < first + data.px.length then data.enc.toRgb (data.px.getD (k - first) 0) else cellWord old (base + 4 * k) 4)

/-- The bits of a DPCD capability byte that the feature table fixes, and their values (R72): DisplayPort 1.4, HBR3, four lanes with TPS3, TPS4, no
Adaptive-Sync, no MST; DSC 1.2 decode with 1 to 8 slices a line, block prediction, up to 24 bits a pixel in steps of 1/16, RGB and YCbCr 4:4:4 only, 8 and 10 bpc;
PSR2 with selective update at a y granularity of 4 lines; no HDCP. The addresses and codes are PRESUMED, those of DisplayPort (log entry 114). -/
def dpcdCap (a : Nat) : Nat × Nat :=
  match a with
  | 0x00 => (0xFF, 0x14)
  | 0x01 => (0xFF, 0x1E)
  | 0x02 => (0x5F, 0x44)
  | 0x03 => (0x80, 0x80)
  | 0x21 => (0x01, 0x00)
  | 0x07 => (0x40, 0x00)
  | 0x60 => (0x01, 0x01)
  | 0x61 => (0xFF, 0x21)
  | 0x64 => (0xFF, 0x3B)
  | 0x66 => (0x01, 0x01)
  | 0x67 => (0xFF, 0x80)
  | 0x68 => (0x03, 0x01)
  | 0x69 => (0x1F, 0x03)
  | 0x6A => (0x0E, 0x06)
  | 0x6F => (0x07, 0x00)
  | 0x70 => (0xFE, 0x02)
  | 0x71 => (0x20, 0x20)
  | 0x74 => (0xFF, 0x04)
  | 0x68028 => (0x01, 0x00)
  | 0x6921F => (0x02, 0x00)
  | _ => (0, 0)

/-- DP_AUX_TRANSACTION (R72): EDID reads are answered from the ephemeris EDID, and DPCD reads with the capabilities of the feature table; the bits that
it does not fix are free values. -/
def execDpAuxTransaction (t : Nat) (i : Fin 4) (edid : Bool) (off len : Nat) (s : State) : Result :=
  let s := s.advance t
  if !s.on (.dpr .linkHpd) i then .next s
  else if edid then .next (s.emit (.aux i ((List.range len).map fun k => s.dp[i].edid.getD (off + k) 0)))
  else
    let r := (List.range len).foldl (fun (acc : List Nat × State) k =>
      let f := acc.2.freeBits 8
      let cap := dpcdCap (off + k)
      (acc.1 ++ [(f.1 &&& (0xFF ^^^ cap.1)) ||| cap.2], f.2)) ([], s)
    .next (r.2.emit (.aux i r.1))

end Sys2Proof.Machine
end

