-- ==== Sys2Proof/Machine/PairOps.lean ====
section
/-! DEFINITION. Shared operations of the redundant pair: READY and lockstep (R413, R415), verdicts (R416), takeover (R417,
R421), SEL and the roles (R418 to R420), and the pair commit (R414). -/

namespace Sys2Proof.Machine

namespace State

/-- Change the pair's state. -/
def modPar (s : State) (f : Pair → Pair) : State := { s with par := f s.par }

/-- A Transit message, while the link is up (R412). -/
def sendTransit (s : State) (kind : Nat) (fields : List Nat) : State :=
  if s.par.linkUp && !s.halted .transit 0 then s.emit (.transit kind fields) else s

/-- Lockstep ends (R415): event 0x2151; the manual gives no cause codes. -/
def endLockstep (s : State) : State :=
  if !s.on (.par .statLockstep) 0 then s else
  let f := (s.wr (.par .statLockstep) 0 0).freeBits 8
  ((f.2.modPar fun p => { p with matched := Vector.replicate 4 false, agreed := Vector.replicate 4 0 })).report .par 0 0x2151
    [(1, f.1)]

/-- The two IMAGE_IDs are compared (R55): with unequal ones a class D event is raised, and the module neither shadows nor takes over. -/
def compareIds (s : State) : State :=
  match s.par.peerId with
  | none => s
  | some id =>
    let own : List Nat := (s.eph.inForce.map fun i => i.hdr.imageId).getD []
    let eq := own == id && !own.isEmpty
    let s := s.wrb (.par .statIdmatch) 0 eq
    if eq then s else
    (s.report .eph 0 0x2A44 (((own.take 6 ++ List.replicate 6 0).take 6 ++ (id ++ List.replicate 6 0).take 6).map fun b => (1, b))).endLockstep

/-- READY and what shows it (R413): the second with the link up, equal IDs and MARK alignment in every enabled cluster;
while READY CHR_LOCK.PEER reads 1 and TRI_STATE.LINK reads SHADOW. -/
def updateReady (s : State) : State :=
  let ok := s.role == 2 && s.par.linkUp && s.on (.par .statIdmatch) 0 && !s.par.yielded
    && s.enabledClusters.all fun c => s.par.markOk[c]
  let was := s.on (.par .statReady) 0
  let s := s.wrb (.par .statReady) 0 ok
  if was == ok then s else
  s.forClusters s.enabledClusters fun s c =>
    let s := s.wrb (.chr .lockPeer) c ok
    if ok then s.wr (.tri .stateLink) c 5 else if s.rd (.tri .stateLink) c == 5 then s.wr (.tri .stateLink) c 2 else s

/-- Lockstep begins once a matched pair commit has landed in every enabled cluster and a whole frame of each has agreed
(R415); an image without PAIR never enters it (R55). -/
def checkLockstep (s : State) : State :=
  if s.on (.par .statReady) 0 && !s.on (.par .statLockstep) 0 && (s.eph.inForce.map fun i => bit i.hdr.flags 1).getD false
      && !s.enabledClusters.isEmpty && s.enabledClusters.all fun c => s.par.matched[c] && 1 ≤ s.par.agreed[c] then
    ((s.wr (.par .statLockstep) 0 1).modPar fun p => { p with planes := [] }).report .par 0 0x1150 []
  else s

/-- The instant X of a cluster (R421): R − TRI_CMD_ADV − 0.5 µs for the first reset R with X at least 0.25 µs away. A
cluster without a frame switches at once. -/
def switchInstant (s : State) (c : Fin 4) : Nat :=
  let lead := s.rd (.tri .cmdAdvAdv) c + 800
  let base := s.chr[c].lastF
  match s.shownRec c with
  | some f =>
    let rs := frameResets f.sched
    let len := f.sched.hdr.period
    let all := rs.map (· + base) ++ rs.map fun r => (r + base + len)
    match (all.filter fun r => s.now + 400 + lead ≤ r).min? with
    | some r => r - lead
    | none => s.now + 400
  | none => s.now + 400

/-- A READY second with ALLOW = 1 takes over (R417): the trigger and X of each cluster; under triggers 2 to 4 it first
sends TAKE (R421). -/
def takeOver (s : State) (trigger : Nat) : State :=
  if s.role != 2 || !s.on (.par .statReady) 0 || !s.on (.par .ctrlAllow) 0 || s.par.takeover.isSome then s else
  let xs := allClusters.map fun c => s.switchInstant c
  let s := s.modPar fun p => { p with takeover := some (trigger, xs) }
  if trigger == 1 then s else s.sendTransit 7 (trigger :: xs)

/-- A start-up role is settled (R419, R420): event 0x115B. -/
def settleRole (s : State) (r cause : Nat) : State :=
  let s := s.wr (.par .statRole) 0 r
  (s.report .par 0 0x115B [(1, r), (1, s.rd (.pwr .strapPairRole) 0), (1, cause), (4, s.par.collisions)]).updateReady

/-- A prime without SEL raises it when the peer's is deasserted, after its step 8 (R418, R419). -/
def mayRaiseSel (s : State) : State :=
  if s.role == 1 && s.par.step8At.isSome && !s.on (.par .statSelPeer) 0 && s.par.retryAt.isNone then s.setSel true else s

/-- The cause code of event 0x115B for roles that straps or serial numbers settle. -/
def strapCause (s : State) : Nat := if s.par.peerStrap == some (s.rd (.pwr .strapPairRole) 0) then 2 else 1

/-- The wait after a start collision (R420): by strap, or by the serial number when the straps are equal; each further
collision doubles it, up to 1 s, and adds a random 0 to 1,023 µs. -/
def collisionWait (s : State) : Nat × State :=
  let strap := s.rd (.pwr .strapPairRole) 0
  let base := if s.par.peerStrap == some strap then usCclk 1 + 160 * (s.dev.serial % 1024)
    else if strap == 2 then usCclk 100 else usCclk 1
  let n := s.par.collisions
  if n ≤ 1 then (base, s) else
  let f := s.freeBits 10
  (min (base * 2 ^ (n - 1)) (msCclk 1000) + usCclk f.1, f.2)

/-- A verdict other than agreement on a block of a frame (R415). -/
def differs (s : State) (c : Fin 4) (seq : Nat) : State :=
  match s.tri[c].blocks.find? fun b => b.hdr.seq == seq with
  | some b => s.modPar fun p => { p with differ := p.differ.set c (max p.differ[c] (b.frame + 1)) }
  | none => s

/-- The pair's verdict on a block send of the second (R416): E2 its own BCRC, Pp the prime's pad BCRC, Ea the echoed one. -/
def pairVerdict (s : State) (c : Fin 4) (seq e2 pp ea : Nat) : State :=
  if e2 == pp then
    if ea == pp then s else
    let s := s.differs c seq
    s.modTri c fun t => { t with blocks := t.blocks.map fun b => if b.hdr.seq == seq then { b with pathFault := true } else b }
  else
    let s := s.differs c seq
    if ea == pp then ((s.bump (.par .cntSecwrong) 0).report .par 0 0x2155 [(1, c), (2, seq)]).endLockstep
    else if ea == e2 then (s.bump (.par .cntSampler) 0).report .par 0 0x1156 [(1, c), (2, seq)]
    else s.bump (.par .cntUndec) 0

/-- The verdict is taken when both the prime's CRCREP and the echo of a block are known (R416). -/
def tryVerdict (s : State) (c : Fin 4) (seq : Nat) : State :=
  if s.role != 2 then s else
  match s.par.reps.find? fun r => r.cluster == c.val && r.seq == seq, s.tri[c].blocks.find? fun b => b.hdr.seq == seq with
  | some r, some b =>
    match b.echoCrc with
    | some ea =>
      (s.modPar fun p => { p with reps := p.reps.filter fun x => !(x.cluster == c.val && x.seq == seq) }).pairVerdict c seq
        (blockCrc b.hdr b.payload) r.pad ea
    | none => s
  | _, _ => s

/-- A plane's reset passes at the second (R417, trigger 2): more than K consecutive planes of an output that each contain a path-fault
block whose final send was unconfirmed start a takeover. -/
def countPathPlane (s : State) (c : Fin 4) (key : Nat) (bad : Bool) : State :=
  if s.role != 2 || !s.on (.par .statLockstep) 0 then s else
  let l := s.par.planes
  let l := if l.any fun x => x.1 == c.val && x.2.1 == key then l.map fun x => if x.1 == c.val && x.2.1 == key then (x.1, x.2.1, x.2.2 || bad) else x
    else ((c.val, key, bad) :: l).take 4096
  let s := s.modPar fun p => { p with planes := l }
  let run := (l.filter fun x => x.1 == c.val).foldl (fun (a : Nat × Nat) x => let n := if x.2.2 then a.1 + 1 else 0; (n, max a.2 n)) (0, 0)
  if max 1 (s.rd (.par .cfgK) 0) < run.2 then s.takeOver 2 else s

/-- The second in lockstep marks exactly the tiles that the prime's MAP marks (R415); MAPDIFF counts where its own table differs. -/
def applyMap (s : State) (c : Fin 4) (frame : Nat) : State :=
  match s.par.maps[c] with
  | none => s
  | some m =>
    if s.role != 2 || !s.on (.par .statLockstep) 0 || m.1 != frame || s.lastFrame c != frame then s else
    let diff := (s.allTiles c).filter fun i => m.2.contains i != ((s.pic[c].tiles.getD i Tile.reset).mark)
    let s := (s.bumpBy (.par .cnt2Mapdiff) 0 diff.length).modPar fun p => { p with maps := p.maps.set c none }
    let s := s.modPic c fun p => { p with tiles := p.tiles.zipIdx.map fun x => { x.1 with mark := m.2.contains x.2 } }
    (s.modFrame c frame fun f => { f with marked := m.2 }).wr (.frs .markedCount) c m.2.length

/-- The second counts the meridians that the prime's commit has been pending without a match, as the prime does (R414): once the prime lands it
alone, the second leaves lockstep (R415). The prime's REQ is what its last PEND says; a coherent commit waits for its GO first (R408). -/
def secondWaits (s : State) (c : Fin 4) (m : Nat) : State :=
  let asked := match s.par.peerPend[c] with | some p => p.req && !inGuard m p.sentAt | none => false
  let goes := !s.on (.chr .commitMode) c || match s.chr[c].coherentGo with | some e => decide (e ≤ m) | none => false
  if s.role != 2 || !s.par.linkUp || !asked || !goes || s.pendMatch c m then s
  else if max 1 (s.rd (.par .cfgCwait) 0) ≤ s.par.waited[c] then
    (s.modPar fun p => { p with waited := p.waited.set c 0, matched := p.matched.set c false, peerPend := p.peerPend.set c none }).endLockstep
  else s.modPar fun p => { p with waited := p.waited.set c (p.waited[c] + 1) }

/-- Whether the pair lets a cluster's commit land at m (R414), and the state with the meridians waited counted: matched,
waiting, or landing at the prime alone. A single module, or one without its peer, is not held back. -/
def pairAllows (s : State) (c : Fin 4) (m : Nat) : Bool × State :=
  if s.role == 0 || !s.par.linkUp then (true, s)
  else if s.pendMatch c m then
    (true, (s.modPar fun p => { p with matched := p.matched.set c true, waited := p.waited.set c 0, ownPend := p.ownPend.set c none,
                                       peerPend := p.peerPend.set c none }).checkLockstep)
  else if s.role == 2 then (false, s)
  else if max 1 (s.rd (.par .cfgCwait) 0) ≤ s.par.waited[c] then
    let s := s.modPar fun p => { p with waited := p.waited.set c 0, matched := p.matched.set c false }
    (true, (s.report .par 0 0x2157 [(1, c), (4, s.lastFrame c)]).endLockstep)
  else (false, s.modPar fun p => { p with waited := p.waited.set c (p.waited[c] + 1) })

/-- The Transit link is down, or the prime's heartbeat is lost (R412, R417): takeover by a READY second under trigger 1,
event 0x2159 at one that is not READY. -/
def heartbeatLost (s : State) : State :=
  if !s.on (.par .statHbOk) 0 then s else
  let s := s.wr (.par .statHbOk) 0 0
  if s.role != 2 then s
  else if s.on (.par .statReady) 0 then s.takeOver 1
  else s.report .par 0 0x2159 []

end State

end Sys2Proof.Machine
end

