-- ==== Sys2Proof/Machine/TriocOps.lean ====
section
/-! DEFINITION. Shared operations of the Trioc link: working lanes and retirement (R154, R174, R175), cache places (R161), block
sends, resends and mismatches (R160, R169 to R171), identity and taps (R168, R308). -/

namespace Sys2Proof.Machine

/-- The flat instance of lane i of a cluster; lane 17 is the return lane. -/
def laneInst (c : Fin 4) (i : Nat) : Nat := c.val * 18 + i

/-- The flat instance of data lane i of a cluster in the TRI windows. -/
def dataInst (c : Fin 4) (i : Nat) : Nat := c.val * 17 + i

/-- A send is confirmed by both comparisons (R169). -/
def sendConfirmed (b : SentBlock) : Bool := b.padOk == some true && b.echoOk == some true

/-- The mask of a list of lanes. -/
def laneMask (l : List Nat) : Nat := maskOf 17 fun i => l.contains i

namespace State

/-- The working lanes as TRI_STATE shows them. -/
def setWorking (s : State) (c : Fin 4) (l : List Nat) : State :=
  (s.wr (.tri .stateWorking) c (laneMask l)).wr (.tri .stateNwork) c (l.filter fun i => i < 17).length

/-- The active set, and SPARE_USED while lane 16 is in it (R154). -/
def setActive (s : State) (c : Fin 4) (l : List Nat) : State :=
  let s := s.violate 3 fun t i q => t == 2 && l.contains i && q == c.val
  (s.modTri c fun t => { t with active := l }).wrb (.tri .stateSpareUsed) c (l.contains 16)

/-- The reduced-rate schedule of the page in force, if there is one (R116). -/
def reducedSched (s : State) (c : Fin 4) : Option Schedule :=
  let k := s.schedOf c (s.rd (.pln .ctrlSchedPage) c) 2
  if k.hdr.nent == 0 then none else some k

/-- How many working data lanes a cluster needs (R20). -/
def lanesNeeded (s : State) (c : Fin 4) : Nat := ((s.reducedSched c).map fun k => k.hdr.minlanes).getD 16

/-- Fewer than 16 data lanes of a link that is in use work, so that a reduced-rate schedule is required (R121, R175). -/
def lanesShort (s : State) (c : Fin 4) : Bool :=
  let k := s.rd (.tri .stateLink) c
  (k == 2 || k == 3 || k == 5) && (s.workingLanes c).length < 16

/-- When a lane is free to start a block. -/
def laneAt (s : State) (c : Fin 4) (i : Nat) : Nat := max s.now (s.tri[c].laneFree.toList.getD i 0)

/-- The lane a new block goes on and when it starts (R160): the active lane that is free first, the lowest on a tie. -/
def firstFree (s : State) (c : Fin 4) : Option (Nat × Nat) :=
  ((List.range 17).filter fun i => s.tri[c].active.contains i).foldl (fun best i =>
    match best with
    | none => some (i, s.laneAt c i)
    | some b => if s.laneAt c i < b.2 then some (i, s.laneAt c i) else some b) none

/-- The lane on which a resend goes and when it starts (R171): the lowest free active lane other than the one that failed, else that one; where that one
has been retired (R174), the active lane that is free first. -/
def resendLane (s : State) (c : Fin 4) (failed : Nat) : Option (Nat × Nat) :=
  match (List.range 17).find? fun i => i != failed && s.tri[c].active.contains i && s.laneAt c i == s.now with
  | some i => some (i, s.now)
  | none => if s.tri[c].active.contains failed then some (failed, s.laneAt c failed) else s.firstFree c

/-- A block's bytes leave on a lane, scrambled, as data units: the lane is busy for them and its scrambler keeps its state (R155, R156, R158). -/
def occupyLane (s : State) (c : Fin 4) (lane start : Nat) (h : BlockHeader) (payload : List Nat) : State :=
  let n := blockUnits payload.length
  let r := scramble (s.tri[c].lfsr.toList.getD lane 0) (blockBytes h payload)
  let s := s.modTri c fun t =>
    { t with
      laneFree := t.laneFree.set! lane (start + unitTime n)
      lfsr := t.lfsr.set! lane r.2 }
  if s.drives then s.emit (.block c lane (dataUnits n r.1)) else s

/-- A block is resent if its transmission and the echo timeout end before the command leaves (R171); the answer says so. -/
def resend (s : State) (c : Fin 4) (b : SentBlock) : Bool × State :=
  match s.resendLane c b.lane with
  | none => (false, s)
  | some r =>
  let ends := r.2 + unitTime (blockUnits b.payload.length)
  if b.resetAt ≤ ends + s.rd (.tri .echoTmoTmo) c + s.rd (.tri .cmdAdvAdv) c then (false, s) else
  let h := { b.hdr with resend := true }
  let s := (s.occupyLane c r.1 r.2 h b.payload).bump (.tri .cntResend) c
  (true, s.modTri c fun t =>
    { t with blocks := t.blocks.map fun x =>
        if x.hdr.seq == b.hdr.seq then
          { x with hdr := h, lane := r.1, trailerAt := ends, padOk := none, echoOk := none, echoCrc := none }
        else x })

/-- A mismatch on a lane (R174): its counter and the last millisecond's record. -/
def mismatch (s : State) (c : Fin 4) (lane : Nat) (pad : Bool) : State :=
  let s := s.bump (if pad then .tri .laneErrPadmis else .tri .laneErrEchomis) (dataInst c lane)
  s.modTri c fun t => { t with mism := (lane, s.now) :: t.mism.filter fun x => s.now < x.2 + msCclk 1 }

/-- The mismatches of a lane within the last millisecond. -/
def mismatches (s : State) (c : Fin 4) (lane : Nat) : Nat :=
  (s.tri[c].mism.filter fun x => x.1 == lane && s.now < x.2 + msCclk 1).length

/-- A send that fails is resent, with event 0x1381 after a pad mismatch and 0x1382 after an echo mismatch (R171). -/
def resendAfter (s : State) (c : Fin 4) (b : SentBlock) (pad : Bool) (estat : Nat) : State :=
  let r := s.resend c b
  if !r.1 then r.2
  else if pad then r.2.report .lane (laneInst c b.lane) 0x1381 [(2, b.hdr.seq), (4, b.frame)]
  else r.2.report .lane (laneInst c b.lane) 0x1382 [(2, b.hdr.seq), (1, estat), (4, b.frame)]

/-- The outcome of a retirement (R175), from the working lanes after it. -/
def retireOutcome (s : State) (c : Fin 4) (lane : Nat) : State :=
  let l := s.workingLanes c
  let n := l.length
  if 16 ≤ n then
    if !s.tri[c].active.contains lane then s else
    match l.find? fun i => !s.tri[c].active.contains i with
    | some sp => (s.setActive c (sp :: s.tri[c].active.filter fun i => i != lane)).wr (.st .lane .degr) (laneInst c sp) 1
    | none => s.setActive c (s.tri[c].active.filter fun i => i != lane)
  else
    let s := s.setActive c (s.tri[c].active.filter fun i => i != lane)
    if (s.reducedSched c).isSome && s.lanesNeeded c ≤ n then
      (s.wr (.tri .stateRreq) c 1).report .lane (laneInst c lane) 0x2385 [(4, n)]
    else
      let s := if (s.reducedSched c).isNone then s.wr (.pln .stateNored) c 1 else s
      let s := s.report .cluster c 0x4046 [(4, n), (4, s.lanesNeeded c)]
      let gone := ((List.range 17).filter fun i => !l.contains i).map (laneInst c)
      let s := gone.foldl (fun s i => s.wr (.st .lane .fatal) i 1) s
      let s := { s with stopped := s.stopped ++ (gone.map fun i => (UType.lane, i)).filter fun u => !s.stopped.contains u }
      s.darken c true .lane (laneInst c lane) 0x4046

/-- A data lane is retired (R174): cause 1 errors, 2 lock, 3 training. Its blocks in flight are resent (R171). -/
def retireLane (s : State) (c : Fin 4) (lane cause : Nat) : State :=
  let l := s.workingLanes c
  if !l.contains lane then s else
  let s := s.setWorking c (l.filter fun i => i != lane)
  let s := s.report .lane (laneInst c lane) 0x2384 [(1, lane), (1, cause)]
  let s := s.retireOutcome c lane
  (s.tri[c].blocks.filter fun b => b.lane == lane && !sendConfirmed b).foldl (fun s b => (s.resend c b).2) s

/-- RDLEAD in force (R126): a value below 25,600 CCLK acts as 25,600. -/
def rdLead (s : State) (c : Fin 4) : Nat := max 25600 (s.rd (.pln .rdleadLead) c)

/-- LEAD in force (R134). -/
def leadEff (s : State) (c : Fin 4) : Nat := max (s.rd (.chr .leadLead) c) (leadMin s.cfg[c].w (s.rdLead c))

/-! ### Cache places (R161) -/

/-- The place of a plane of a frame, if the cache holds a whole frame. -/
def fixedPlace (s : State) (c : Fin 4) (h : SchedHeader) (prim bitn : Nat) : Option Nat :=
  let n := if h.tform then 12 else 16
  let j0 := if h.tform then 4 else 0
  if planeCount h ≤ s.cfg[c].cache then some (n * prim + (bitn - j0)) else none

/-- A plane of a frame's segment: the frame, the segment's index, the primary, the bit and the piece. -/
def placeKey (frame seg prim bitn piece : Nat) : Nat := ((frame % 65536 * 16 + seg) * 4 + prim) * 64 + bitn * 4 + piece

/-- The planes of a schedule's entries in order, each a segment, a bit and a piece, with how many places are taken before that of its
send: a TPC entry with SEND = 1 and an APL entry take the next place, one with SEND = 0 uses that of the latest send of its plane in the
segment (R161). -/
def placeRanks : List SchedEntry → Nat → Nat → List ((Nat × Nat × Nat) × Nat) → List ((Nat × Nat × Nat) × Nat)
  | [], _, _, acc => acc
  | e :: es, seg, k, acc =>
    if e.op == 1 then placeRanks es (seg + 1) k acc
    else if e.op == 4 || (e.op == 2 && e.send) then placeRanks es seg (k + 1) (((seg - 1, e.bitn, e.piece), k) :: acc)
    else if e.op == 2 then
      placeRanks es seg k (((seg - 1, e.bitn, e.piece),
        ((acc.find? fun x => x.1.1 + 1 == seg && x.1.2.1 == e.bitn).map Prod.snd).getD 0) :: acc)
    else placeRanks es seg k acc

/-- How many places a frame under a schedule takes (R161). -/
def placesTaken (sch : Schedule) : Nat := (sch.ents.filter fun e => e.op == 4 || (e.op == 2 && e.send)).length

/-- The place of a plane of a frame's segment, for its send and for its resets (R161): a wrap piece uses that of its plane's last send in
the segment. `base` is where the frame's places begin. -/
def placeOf (s : State) (c : Fin 4) (sch : Schedule) (base seg prim bitn piece : Nat) (wrap : Bool) : Nat :=
  match s.fixedPlace c sch.hdr prim bitn with
  | some p => p
  | none =>
    let l := placeRanks sch.ents 0 0 []
    let latest := l.find? fun x => x.1.1 == seg && x.1.2.1 == bitn
    let r := if wrap then latest else (l.find? fun x => x.1 == (seg, bitn, piece)) <|> latest
    (base + (r.map Prod.snd).getD 0) % max 1 s.cfg[c].cache

/-- The instants, from G of a segment, at which a band resets into a plane that it shows from one place (R109, R111, R161). -/
def bandShows (s : State) (c : Fin 4) (sch : Schedule) (base seg band prim bitn place : Nat) : List Nat :=
  match (segmentsOf sch.ents)[seg]? with
  | none => []
  | some g =>
    let h := sch.hdr
    let resets := bandResets h g.2 0 band
    (resets.zipIdx.filterMap fun x =>
      match x.1.2.bind fun i => (tpcs g.2)[i]? with
      | some e => if e.bitn == bitn && s.placeOf c sch base seg prim bitn e.piece (x.2 != 0 && x.2 + 1 == resets.length) == place then some x.1.1 else none
      | none => none)
    ++ ((aResets h (tPortion h g.2)).zip (g.2.filter fun e => e.op == 4)).filterMap fun x =>
      if x.2.bitn == bitn && s.placeOf c sch base seg prim bitn x.2.piece false == place then some x.1 else none

/-- The instant, from G of its segment, of the reset that a send of a band serves; none where the schedule sends no such
piece to the band (R109, R111, R115). -/
def sendReset (sch : Schedule) (seg band prim bitn piece : Nat) (wrap : Bool) : Option Nat :=
  match (segmentsOf sch.ents)[seg]? with
  | none => none
  | some g =>
    let h := sch.hdr
    if g.1 != prim then none else
    let resets := bandResets h g.2 0 band
    let t := (resets.zipIdx.find? fun x =>
      (wrap == (x.2 != 0 && x.2 + 1 == resets.length)) &&
        match x.1.2.bind fun i => (tpcs g.2)[i]? with | some e => e.bitn == bitn && e.piece == piece && (e.send || wrap) | none => false).map fun x => x.1.1
    let a := (((aResets h (tPortion h g.2)).zip (g.2.filter fun e => e.op == 4)).find? fun x => !wrap && x.2.bitn == bitn && x.2.piece == piece).map Prod.fst
    t <|> a

/-- A place is free for a band at an instant (R161, R170): no other plane is still to be shown from it by that band. -/
def placeFree (s : State) (c : Fin 4) (place band frame prim bitn at' : Nat) : Bool :=
  s.tri[c].shows.all fun u => u.place != place || u.band != band || (u.frame == frame && u.prim == prim && u.bitn == bitn) || u.last ≤ at'

/-! ### Identity and taps -/

/-- The first field of IDENT0 that leaves its range or differs from the ARRAY section (R168): 1 W, 2 H, 3 B, 4 P, 5 settle,
6 CMDLAT. -/
def identFault (s : State) (c : Fin 4) (w h b p settle lat : Nat) : Option Nat :=
  let g := s.cfg[c]
  if w != g.w || w < 512 || 4096 < w || w % 128 != 0 then some 1
  else if h != g.h || h < 256 || 2160 < h then some 2
  else if b != g.bands || b < 8 || 64 < b then some 3
  else if p != g.cache || p < 2 || 64 < p then some 4
  else if settle * 16 != g.settle || settle < 100 || 2000 < settle then some 5
  else if lat * 16 != g.cmdlat || lat < 10 || 200 < lat then some 6
  else none

/-- IDENT0 (R167, R168): the array's parameters are shown; a mismatch sends DUMP and is fatal on the return lane. -/
def takeIdent0 (s : State) (c : Fin 4) (m : List Nat) : State :=
  let w := msgField m 1 1 * 128
  let h := msgField m 2 2
  let b := msgField m 4 1
  let p := msgField m 5 1
  let settle := msgField m 6 2
  let lat := msgField m 8 1
  let s := ((s.wr (.tri .arrayGeomW) c w).wr (.tri .arrayGeomH) c h).wr (.tri .arrayCfgBands) c b
  let s := (s.wr (.tri .arrayCfgP) c p).wr (.tri .arrayCfgSettle) c settle
  match s.identFault c w h b p settle lat with
  | none => s
  | some f =>
    let s := (s.dumpNow c).wr (.tri .stateLink) c 4
    s.unitFault .lane (laneInst c 17) 0xFF 0x4389 [(1, f)]

/-- IDENT1 (R167): model code and REPLAY; the revision is held nowhere. -/
def takeIdent1 (s : State) (c : Fin 4) (m : List Nat) : State :=
  (s.wr (.tri .arrayIdModel) c (msgField m 1 4)).wr (.tri .arrayCfgReplay) c (msgField m 7 1 % 2)

/-- The Trioc taps object of a cluster (R311): TRI_LANE_TAP of 17 lanes and the array model code. -/
def triocTapsPayload (s : State) (c : Fin 4) : List Nat :=
  ((List.range 17).flatMap fun i =>
    let j := dataInst c i
    leBytes 4 (s.rd (.tri .laneTapDeskew) j + s.rd (.tri .laneTapFine) j * 2 ^ 8 + s.rd (.tri .laneTapPre) j * 2 ^ 12
      + s.rd (.tri .laneTapPost) j * 2 ^ 16 + s.rd (.tri .laneTapRx) j * 2 ^ 24))
  ++ leBytes 4 (s.rd (.tri .arrayIdModel) c)

/-- The POST tap stored for a lane, if the object holds one for the same array model code (R308). -/
def storedPost (s : State) (c : Fin 4) (lane : Nat) : Option Nat :=
  match s.almVal (0x0010 + c.val) with
  | some p =>
    if ofLe ((p.drop 68).take 4) == s.rd (.tri .arrayIdModel) c then some (bits (ofLe ((p.drop (4 * lane)).take 4)) 16 6)
    else none
  | none => none

/-- A lane's chosen taps come into force. -/
def setTaps (s : State) (c : Fin 4) (lane pre post : Nat) : State :=
  (s.wr (.tri .laneTapPre) (dataInst c lane) pre).wr (.tri .laneTapPost) (dataInst c lane) post

/-- After bring-up (R308): event 0x1A06 where a lane's chosen POST tap lies more than 8 from the stored one. -/
def comparePost (s : State) (c : Fin 4) (lane post : Nat) : State :=
  match s.storedPost c lane with
  | some p => if 8 < max p post - min p post then s.report .trn 0 0x1A06 [(1, lane), (1, p), (1, post)] else s
  | none => s

/-- A darkening return-lane condition (R176): the return lane is fatal. -/
def returnLaneFault (s : State) (c : Fin 4) (code : Nat) (items : List (Nat × Nat)) : State :=
  let s := s.violate 5 fun t _ q => t == 2 && q == c.val
  (s.wr (.tri .stateLink) c 4).unitFault .lane (laneInst c 17) 0xFF code items

/-- The bands of a reset are flagged reticle-fail in a frame (R173). -/
def failBands (s : State) (c : Fin 4) (frame first last : Nat) : State :=
  let b := s.cfg[c].bands
  let y0 := bandFirst s.cfg[c].h b first
  let y1 := bandFirst s.cfg[c].h b (last + 1)
  s.flagBy c frame .rfail (s.tilesOfRows c y0 (y1 - y0)) .lane (laneInst c 17)

/-- A reset unacknowledged or failed (R173). -/
def resetFailed (s : State) (c : Fin 4) (a : PendingAck) (rstat : Nat) : State :=
  let s := s.modTri c fun t => { t with acks := t.acks.filter fun x => x.cseq != a.cseq }
  let s := if a.place == 0xFF then s else (s.failBands c a.frame a.first a.last).bump (.tri .cnt2Rackmiss) c
  s.report .lane (laneInst c 17) 0x2387 [(2, a.cseq), (1, rstat)]

end State

end Sys2Proof.Machine
end

