-- ==== Sys2Proof/Machine/EphOps.lean ====
section
/-! DEFINITION. What the landing of an image's commits does: the anti-rollback counter (R50), key enrolment (R47), and a live swap
(R59). -/

namespace Sys2Proof.Machine

/-- The payload of a trusted key slot's object (R46): 0 empty, 1 a key, 2 revoked, then the hash. -/
def keyPayload : KeySlot → List Nat
  | .empty => List.replicate 49 0
  | .key h => 1 :: leBytes 48 h
  | .revoked h => 2 :: leBytes 48 h

/-- A key slot from its object. -/
def keyOfPayload (p : List Nat) : KeySlot :=
  match p.headD 0 with
  | 1 => .key (ofLe (p.drop 1))
  | 2 => .revoked (ofLe (p.drop 1))
  | _ => .empty

/-- An image holds a section of a type. -/
def Image.has (im : Image) (t : Nat) : Bool := im.secs.any fun x => x.type == t

/-- The fields that HELCOEF gives: the Meridian fields of a slot (R234, R468). -/
def helcoefField (f : Fld) : Bool :=
  match f with
  | .hel .coefC | .hel .shift0Sff | .hel .shift0Sffl | .hel .shift0Sb0 | .hel .shift0Sb1 | .hel .shift0Sb2 | .hel .shift1Sa1 | .hel .shift1Sa2
  | .hel .shift1Ski | .hel .uminUmin | .hel .umaxUmax | .hel .safeSafe | .hel .openOpen | .hel .initInit | .hel .slewSlew | .hel .limitSatlim
  | .hel .limitOvrlim | .hel .spSp | .hel .slotCtrlEn | .hel .slotCtrlSatact | .hel .slotCtrlIload => true
  | _ => false

/-- The fields that COLOUR gives: LUTs, uniformity map, matrices, and the set-points of the outer colour slots. -/
def colourField (f : Fld) : Bool :=
  match f with
  | .geo .ilutEntry | .geo .olutEntry | .geo .uniG | .geo .mtxCoef | .geo .mtxDirCoef => true
  | _ => false

/-- The plan in force with a patch's sections in place of the old ones (R58, R468). -/
def patchedPlan (old : Plan) (im : Image) : Plan :=
  let keep := old.settings.filter fun x => !((im.has 7 && helcoefField x.fld) || (im.has 8 && colourField x.fld))
  { old with schedules := if im.has 3 then im.plan.schedules else old.schedules,
             settings := keep ++ im.plan.settings.filter fun x => (im.has 7 && helcoefField x.fld) || (im.has 8 && colourField x.fld) }

namespace State

/-- Change the loader's state. -/
def modEph (s : State) (f : Loader → Loader) : State := { s with eph := f s.eph }

/-- An image's KEYENROL entry takes effect (R47). -/
def enrolKey (s : State) (e : KeyEntry) : State :=
  if e.slot == 0 || 4 ≤ e.slot then s else
  let i : Fin 4 := Fin.ofNat 4 e.slot
  let k : KeySlot := match e.revoke, s.eph.keys[i] with
    | true, .key h => .revoked h
    | true, x => (match x with | .revoked h => .revoked h | _ => .revoked 0)
    | false, .empty => .key e.hash
    | false, x => x
  (s.modEph fun l => { l with keys := l.keys.set i k }).almRequest (0x0200 + e.slot) (keyPayload k)

/-- The first commit of the image has landed in every enabled cluster (R47, R50): the stored counter rises to its ARB, and its KEYENROL
sections take effect. -/
def imageLanded (s : State) : State :=
  match s.eph.inForce with
  | none => s
  | some im =>
    let s := if s.rd (.eph .arbStoredArb) 0 < im.hdr.arb then
        (s.wr (.eph .arbStoredArb) 0 im.hdr.arb).almRequest 0x0200 (leBytes 4 im.hdr.arb)
      else s
    im.plan.keys.foldl enrolKey (s.wr (.eph .statusArbdone) 0 1)

/-- A commit of the cluster has landed since the load (R50). DESIGN CHOICE (log entry 97): "every enabled cluster" are those that are not
fused off, that the image describes, and whose CHR_CTRL.EN is 1 in the shadow set. -/
def firstLanding (s : State) (c : Fin 4) : State :=
  if s.eph.landed.contains c.val then s else
  let s := s.modEph fun l => { l with landed := c.val :: l.landed }
  let due := allClusters.filter fun (x : Fin 4) => s.clusterOn x.val && s.cfg[x].present && s.rdShadow (.chr .ctrlEn) x == 1
  let s := if s.eph.landed.length == 1 && s.chnAddr != 0 then s.sendArm else s
  if due.all fun (x : Fin 4) => s.eph.landed.contains x.val then s.imageLanded else s

/-- A live swap lands with the cluster's commit (R59), unless its entries came inside the guard and wait for the next (R141). -/
def swapLanded (s : State) (c : Fin 4) (n : Nat) : State :=
  match s.eph.swap with
  | none => s
  | some w =>
    if !w.waiting.contains c.val || (s.shadowOf c).any (·.swap) then s else
    let s := (s.wr (.eph .swapStatFrame) c (n % 2 ^ 31)).wr (.eph .swapStatCancel) c 0
    let left := w.waiting.filter fun x => x != c.val
    if left.isEmpty then
      let s := s.modEph fun l => { l with swap := none, inForce := l.inForce.map fun im => { im with plan := patchedPlan im.plan w.patch } }
      (s.wr (.eph .statusState) 0 2).wr (.eph .statusPatched) 0 1
    else s.modEph fun l => { l with swap := some { w with waiting := left } }

end State

end Sys2Proof.Machine
end

