-- ==== Sys2Proof/Machine/FreshRows.lean ====
section
/-! DEFINITION. Freshness commands: reaffirmations (R243 to R245), a parity error in the tile table (R262), the freshness deadline
(R153), and the end of a layer's fetch (R78, R85). -/

namespace Sys2Proof.Machine
namespace State

/-- A reaffirm request is refused (R245): RESULT and event 0x16C5. -/
def refuseReaffirm (s : State) (c : Fin 4) (l result : Nat) : State :=
  (s.wr (.frs .reaffirmStatResult) c result).report .frsEng 0 0x16C5 [(1, c.val), (1, l), (1, result)]

/-- A reaffirm request has been applied (R245). -/
def reaffirmed (s : State) (c : Fin 4) : State :=
  (s.wr (.frs .reaffirmStatResult) c 0).wr (.frs .reaffirmStatDone) c (s.rd (.frs .reaffirmStatDone) c + 1)

/-- The reaffirmation time (R242, R243): FRS_REAFFIRM_STAMP if it is not zero, and never later than the arrival. -/
def reaffirmTime (s : State) (c : Fin 4) : Nat :=
  let v := s.rd (.frs .reaffirmStampStamp) c
  if v == 0 then s.wall else min v s.wall

/-- A whole-layer reaffirmation takes effect (R243). DESIGN CHOICE (log entry 120): of several the one applied last is the layer's latest. -/
def applyLayerReaff (s : State) (c : Fin 4) (l : Fin 8) (time : Nat) : State :=
  ((s.modLayer c l fun y => { y with reaff := time }).dropTileReaff c l).reaffirmed c

/-- A tile list takes effect (R244), in units of 10.24 µs. -/
def applyTileList (s : State) (c : Fin 4) (x : TileList) : State :=
  let ts := x.tiles.getD []
  let mark := fun (t : Tile × Nat) => if ts.contains t.2 then { t.1 with reaff := some ⟨x.layer, x.time / 256⟩ } else t.1
  (s.modPic c fun p => { p with tiles := (p.tiles.zipIdx).map mark }).reaffirmed c

/-- Wall time in ticks as an instant in CCLK. -/
def tickCclk (s : State) (w : Nat) : Nat := ((s.now : Int) + ((w : Int) - s.wall) * 64).toNat

/-- The freshness deadline of a held cluster, recomputed (R153, R255). -/
def heldDeadline (s : State) (c : Fin 4) : State :=
  match s.chr[c].held with
  | none => s
  | some h =>
    let d := s.deadline c s.wall
    (s.modChr c fun k => { k with held := some { h with deadline := d.map s.tickCclk } }).showDeadline c d

/-- A layer may be reaffirmed: a host buffer with a lease, live or heartbeat as a whole, heartbeat by tiles (R243, R244). CLASS 3 is treated as live. -/
def mayReaffirm (s : State) (c : Fin 4) (l : Fin 8) (list : Bool) : Bool :=
  let k := s.layerCfg c l
  k.src == 0 && s.pic[c].layers[l].lease.isSome && (if list then k.cls == 1 else k.cls != 2)

/-- The read of a reaffirm list fails its check (R245, R270): the list is given up, RESULT 3. -/
def listFailed (s : State) (c : Fin 4) : State :=
  match s.pic[c].lists.find? fun x => x.tiles.isNone with
  | none => s
  | some x =>
    ((s.modPic c fun p => { p with lists := p.lists.filter fun y => y.tiles.isSome }).wr (.frs .reaffirmStatBusy) c 0).refuseReaffirm c x.layer 3

end State

/-- REAFFIRM_LAYER (R243, R245, R255): FRS_REAFFIRM with LIST = 0. -/
def execReaffirmLayer (t : Nat) (c : Fin 4) (l : Fin 8) (s : State) : Result :=
  let s := s.advance t
  if !s.mayReaffirm c l false then .next (s.refuseReaffirm c l 1)
  else if s.on (.frs .reaffirmStatBusy) c then .next (s.refuseReaffirm c l 4)
  else
    let time := s.reaffirmTime c
    if s.inHeld c then .next ((s.applyLayerReaff c l time).heldDeadline c)
    else .next (s.modLayer c l fun y => { y with pendReaff := y.pendReaff ++ [{ time := time, arrived := s.now }] })

/-- REAFFIRM_TILE_LIST (R244, R245, R255): FRS_REAFFIRM with LIST = 1; the read of the list begins. -/
def execReaffirmTileList (t : Nat) (c : Fin 4) (l : Fin 8) (count : Nat) (s : State) : Result :=
  let s := s.advance t
  if !s.mayReaffirm c l true then .next (s.refuseReaffirm c l 1)
  else if count == 0 || 4096 < count then .next (s.refuseReaffirm c l 2)
  else if s.on (.frs .reaffirmStatBusy) c then .next (s.refuseReaffirm c l 4)
  else if s.on (.frs .reaffirmStatQueued) c then .next (s.refuseReaffirm c l 5)
  else
    let x : TileList :=
      { layer := l.val, time := s.reaffirmTime c, count := count, addr := 4 * s.rd (.frs .reaffirmAddrAddr) c, tiles := none, readAt := s.now }
    .next ((s.modPic c fun p => { p with lists := p.lists ++ [x] }).wr (.frs .reaffirmStatBusy) c 1)

/-- REAFFIRM_LIST_READ_DONE (R244, R245, R255): the list has been read; `err` says that a burst of it failed its detection code. A list whose layer
has lost its reaffirmations meanwhile is dropped (R243). -/
def execReaffirmListReadDone (t : Nat) (c : Fin 4) (err : Bool) (s : State) : Result :=
  let s := s.advance t
  let s := s.wr (.frs .reaffirmStatBusy) c 0
  match s.pic[c].lists.find? fun x => x.tiles.isNone with
  | none => .next s
  | some x =>
    let rest := s.pic[c].lists.filter fun y => y.tiles.isSome
    let gone := s.modPic c fun p => { p with lists := rest }
    let old := s.badBurst x.addr (4 * x.count)
    let tiles := (List.range x.count).map fun i => cellWord s.hbm (x.addr + 4 * i) 4
    if s.regionStopped (State.regionAt x.addr).val || err then .next (gone.refuseReaffirm c x.layer 3)
    else match old with
    | some b => .next ((gone.detectionError (32 * b) 6 (s.srcPath .frsEng 0 0xFF)).refuseReaffirm c x.layer 3)
    | none =>
      if tiles.any fun i => s.pic[c].tiles.length ≤ i then .next (gone.refuseReaffirm c x.layer 2)
      else
        let s := s.modPic c fun p => { p with lists := rest ++ [{ x with tiles := some tiles, readAt := s.now }] }
        .next (if s.inHeld c then s.wr (.frs .reaffirmStatQueued) c 1 else s)

/-- TILE_TABLE_PARITY_ERROR (R262): the tile is marked in this frame and rebuilt at the next meridian. -/
def execTileTableParityError (t : Nat) (c : Fin 4) (tile : Nat) (s : State) : Result :=
  let s := s.advance t
  match s.pic[c].tiles[tile]? with
  | none => .next s
  | some x =>
    let n := s.lastFrame c
    let s := s.modPic c fun p => { p with tiles := p.tiles.set tile { x with bad := true, mark := true, reaff := none, persist := 0 } }
    let s := if x.mark then s else s.wr (.frs .markedCount) c (s.rd (.frs .markedCount) c + 1)
    let s := s.wr (.frs .markedCauses) c (s.rd (.frs .markedCauses) c ||| 128)
    let s := s.modFrame c n fun f => { f with marked := if f.marked.contains tile then f.marked else f.marked ++ [tile] }
    let s := if s.composing c then s.recompose c (s.prevCrcs c) else s
    .next (s.report .frsEng 0 0x26C9 [(1, c.val), (4, tile)])

/-- FRESHNESS_DEADLINE_WAKE (R153): wake cause 4 at D − 0.3 ms. -/
def execFreshnessDeadlineWake (t : Nat) (c : Fin 4) (s : State) : Result :=
  let s := s.advance t
  .next (match s.chr[c].held.bind fun h => h.deadline with
    | some d => if d ≤ s.now + 480000 then s.wakeHeld c 4 else s
    | none => s)

/-- LAYER_FETCH_DONE (R78, R85): the layer's read for the frame ends, and with it the lease's read window and the buffer lock. -/
def execLayerFetchDone (t : Nat) (c : Fin 4) (l : Fin 8) (s : State) : Result :=
  let s := s.advance t
  if !s.pic[c].layers[l].window then .next s else
  let n := s.lastFrame c
  .next (s.modLayer c l fun y => { y with window := false, lock := none, lease := y.lease.map fun e => { e with lastRead := n } })

end Sys2Proof.Machine
end

