-- ==== Sys2Proof/Machine/LightOps.lean ====
section
/-! DEFINITION. Shared operations of the laser channels: the LEN gate (R179), light off (R180, R181, R186, R201), fades (R185),
patterns and the lamp line (R182, R191 to R195, R210), banks (R200 to R206), searches (R203, R204), and derating and the ceiling
(R187 to R189). -/

namespace Sys2Proof.Machine

/-- The emitters of a mask, lowest first. -/
def emittersOf (m : Nat) : List Nat := (List.range 32).filter (bit m)

/-- The smallest n with 2^n at least a number: the frames a search takes (R203). -/
def ceilLog2 (n : Nat) : Nat := ((List.range 7).find? fun k => n ≤ 2 ^ k).getD 7

/-- A quotient rounded to the nearest whole number, half up. -/
def roundQ (a b : Nat) : Nat := if b == 0 then 0 else (2 * a + b) / (2 * b)

/-- The LSR_LIT field of a primary. -/
def litFld : Fin 3 → Fld
  | 0 => .lsr .litRed
  | 1 => .lsr .litGreen
  | 2 => .lsr .litBlue

namespace State

/-- The prime sends each change of channel states and LSR_LIT to the second (R412). -/
def sendChState (s : State) (c : Fin 4) : State :=
  if s.role != 1 then s else
  s.sendTransit 6 (c.val :: (allChans.map fun k => s.chState c k) ++ allPrims.map fun p => s.rd (litFld p) c)

/-- The firmware is to calibrate a channel from an instant on (the table of R305): target 3 ADC phase, 5 VSTR, 6 PD expectation. -/
def askRun (s : State) (target : Nat) (c : Fin 4) (k : Fin 6) (at' : Nat) : State :=
  let key := target + k.val * 2 ^ 8 + c.val * 2 ^ 16
  { s with trn := { s.trn with asked := (key, at') :: s.trn.asked.filter fun x => x.1 != key } }

/-- Set STATE of a channel; the T-only conditions that hang on the LIT channels are watched (R122). -/
def setChState (s : State) (c : Fin 4) (k : Fin 6) (st : Nat) : State :=
  if s.chState c k == st then s else ((s.wr (.lsr .chStateState) (chanInst c k) st).sendChState c).noteTonly c

/-- Set STATE and CAUSE of a channel. -/
def setCh (s : State) (c : Fin 4) (k : Fin 6) (st cause : Nat) : State :=
  (s.setChState c k st).wr (.lsr .chStateCause) (chanInst c k) cause

/-- The policy in force: 3 is treated as 0 (R201). -/
def policy (s : State) (c : Fin 4) : Nat := let v := s.rd (.lsr .policyPolicy) c; if v == 3 then 0 else v

/-- The bank of a primary that is LIT. -/
def litBank (s : State) (c : Fin 4) (p : Fin 3) : Option (Fin 6) := (banksOf p).find? fun k => s.chState c k == 3

/-- A healthy standby (R200). -/
def healthyStandby (s : State) (c : Fin 4) (k : Fin 6) : Bool :=
  s.chState c k == 2 && (s.light[c].chans[k].diagPassed || s.on (.lsr .diagNocover) c)

/-- The healthy standby of a primary. -/
def standbyOf (s : State) (c : Fin 4) (p : Fin 3) : Option (Fin 6) := (banksOf p).find? fun k => s.healthyStandby c k

/-! ### Patterns (R182) -/

/-- The high-range pattern of a bank: every emitter of the string that is not known bad. -/
def healthyPattern (s : State) (c : Fin 4) (k : Fin 6) : Nat :=
  let i := chanInst c k
  let n := min 32 (s.rd (.lsr .bankNemit) i)
  maskOf 32 fun e => e < n && !bit (s.rd (.lsr .badMask) i) e

/-- The n emitters of a list with the smallest counters, lowest index first on a tie. -/
def leastWorn (s : State) (i : Nat) : Nat → List Nat → List Nat
  | 0, _ => []
  | n + 1, l =>
    let sec := fun e => s.rd (.lsr .emitSec) (32 * i + e)
    match l.find? fun e => l.all fun f => sec e < sec f || (sec e == sec f && e ≤ f) with
    | some e => e :: leastWorn s i n (l.filter fun f => f != e)
    | none => []

/-- The low-range pattern of a bank: NLOW of the high range's emitters, the least worn. -/
def lowPattern (s : State) (c : Fin 4) (k : Fin 6) : Nat :=
  let i := chanInst c k
  let l := s.leastWorn i (s.rd (.lsr .bankNlow) i) (emittersOf (s.healthyPattern c k))
  maskOf 32 fun e => l.contains e

/-- The pattern for a range without the emitters in LSR_BAD (R204, R205): the low one stays as chosen unless it lights one of them (R182). -/
def bypassBad (s : State) (c : Fin 4) (k : Fin 6) : Nat × Nat :=
  let lo := s.light[c].chans[k].wantL
  let hi := s.healthyPattern c k
  (hi, if (emittersOf lo).all (bit hi) then lo else s.lowPattern c k)

/-- LSR_LAMP.PEND: a change waits for a frame. -/
def showPend (s : State) (c : Fin 4) : State := s.wrb (.lsr .lampPend) c (s.light[c].load.isSome && (s.light[c].pendHigh || s.light[c].pendLow))

/-- A bank's wanted patterns change and wait for frames of their ranges (R194). -/
def wantPatterns (s : State) (c : Fin 4) (k : Fin 6) (hi lo : Nat) : State :=
  let x := s.light[c].chans[k]
  let s := s.modLight c fun l => { l with pendHigh := l.pendHigh || x.wantH != hi, pendLow := l.pendLow || x.wantL != lo }
  (s.modChan c k fun x => { x with wantH := hi, wantL := lo }).showPend c

/-- The patterns of a bank are chosen anew (R182). -/
def choosePatterns (s : State) (c : Fin 4) (k : Fin 6) : State := s.wantPatterns c k (s.healthyPattern c k) (s.lowPattern c k)

/-! ### Light off -/

/-- LIGHTOFF and CAUSE: the interlock, then the policy, then a stop (R206). -/
def showOut (s : State) (c : Fin 4) : State :=
  let cause := if s.on (.lsr .intlkTripped) c then 2 else if s.light[c].policyOff then 1 else if s.on (.lsr .outStopped) c then 3 else 0
  (s.wrb (.lsr .outLightoff) c (cause != 0)).wr (.lsr .outCause) c cause


/-- The search of a channel is given up (R203): the channel is FAILED with EMKNOWN = 0. A re-arm that waits has its pattern loaded (R205). -/
def dropSearch (s : State) (c : Fin 4) (k : Fin 6) : State :=
  if s.light[c].chans[k].search.isNone then s else
  let s := ((s.modChan c k fun x => { x with search := none, wantH := s.rd (.lsr .patHPat) (chanInst c k) }).setChState c k 5).wr
    (.lsr .chStateEmknown) (chanInst c k) 0
  let w := s.bypassBad c k
  if s.light[c].chans[k].rearm then s.wantPatterns c k w.1 w.2 else s

/-- Searches of a cluster are abandoned (R203). -/
def abandonSearches (s : State) (c : Fin 4) : State := allChans.foldl (fun s k => s.dropSearch c k) s

/-- The light of an output goes off through the gate (R179, R185, R203): content LEN falls, under an interlock trip every LEN; a fade and searches are
abandoned. -/
def lightGoesOff (s : State) (c : Fin 4) (trip : Bool) : State :=
  let s := s.violate 9 fun t _ q => (t == 5 || t == 6) && q == c.val
  let s := if trip then s.lensLow c else s.contentLow c
  ((s.abandonFade c).abandonSearches c).showOut c

/-- A stop fade has reached 0 (R186): the output is stopped, its light goes off, searches are abandoned (R203), and DUMP is sent (R165); calibrations that need
light lose their precondition (R304, code 9). -/
def outputStopped (s : State) (c : Fin 4) : State :=
  let s := s.violate 9 fun t _ q => (t == 5 || t == 6) && q == c.val
  ((((s.wr (.lsr .outStopped) c 1).contentLow c).abandonSearches c).showOut c).sendDump c

/-- Light off by policy (R201): event 0x33C5. -/
def policyLightOff (s : State) (c : Fin 4) (k : Fin 6) (cause : Nat) : State :=
  if s.light[c].policyOff then s else
  ((s.modLight c fun l => { l with policyOff := true }).lightGoesOff c false).report .lsrCh (chanInst c k) 0x33C5 [(1, cause), (1, s.policy c)]

/-- The gate lets a channel's LEN rise for a displayed plane (R178, R179). -/
def gateOpen (s : State) (c : Fin 4) (k : Fin 6) : Bool :=
  !s.on (.lsr .intlkTripped) c && !s.light[c].darkened && !s.on (.lsr .outLightoff) c && s.chState c k == 3
    && s.rd (.eph .statusState) 0 != 4 && s.rd (.pwr .stateState) 0 != 3 && !s.halted .lsrCh (chanInst c k) && !s.halted .intlk c
    && !s.light[c].rangeLost && !s.light[c].gated && s.domOn (9 + c.val) && bit (s.rd (.pwr .pllLock) 0) 6

/-- The gate lets diagnostic pulses pass (R179, R198); none while the interlock unit stands stopped (R18). -/
def diagAllowed (s : State) (c : Fin 4) : Bool :=
  !s.on (.lsr .intlkTripped) c && !s.halted .intlk c && !s.light[c].darkened && s.rd (.eph .statusState) 0 != 4 && s.rd (.pwr .stateState) 0 != 3
    && (!s.on (.lsr .outLightoff) c || s.rd (.lsr .outCause) c != 2) && s.domOn (9 + c.val) && bit (s.rd (.pwr .pllLock) 0) 6
    && !s.light[c].rangeLost

/-! ### Fades (R185) -/

/-- DIMEFF rounded half up, as R183 uses it. -/
def dimEff (s : State) (c : Fin 4) : Nat := min 65535 (roundQ s.light[c].dimNum s.light[c].dimDen)

/-- LSR_DIM_STAT shows DIMEFF and the duty. -/
def showDim (s : State) (c : Fin 4) : State :=
  let d := s.dimEff c
  (s.wr (.lsr .dimStatDimeff) c d).wr (.lsr .dimStatDuty) c (min 0xFFFF (4 * dimDuty d))

/-- A fade begins from the present DIMEFF, or from 0 for a start fade, which frames before its first step show unlit (R185). -/
def startFade (s : State) (c : Fin 4) (kind : FadeKind) : State :=
  let l := s.light[c]
  let n := match kind with | .start => 0 | _ => l.dimNum
  let d := match kind with | .start => 1 | _ => l.dimDen
  let dur := match kind with
    | .brightness => msCclk (10 * min 6000 (s.rd (.lsr .fadeFadeT) c))
    | .start => msCclk (10 * min 200 (s.rd (.lsr .fadeStartT) c))
    | .stop => msCclk (10 * min 200 (s.rd (.lsr .fadeStopT) c))
  let target := match kind with | .stop => 0 | _ => s.rd (.lsr .dimDim) c
  let s := (s.modLight c fun l =>
    { l with dimNum := n, dimDen := d, fade := some { kind := kind, startNum := n, startDen := d, target := target, acc := 0, dur := dur } }).wr
    (.lsr .outFading) c 1
  match kind with
  | .start =>
    (s.modPic c fun p =>
      { p with frames := p.frames.map fun f => { f with dim := 0 }
               replay := p.replay.map fun f => { f with dim := 0 } }).modChr c fun q =>
      { q with held := q.held.map fun h => { h with dims := h.dims.map fun x => (x.1, 0) } }
  | _ => s

/-- OUTPUT_STOP and a full reload begin a stop fade (R185): a duration of 0 stops the output at once. -/
def beginStop (s : State) (c : Fin 4) : State :=
  if s.rd (.lsr .fadeStopT) c != 0 then s.startFade c .stop else
  ((((s.modLight c fun l => { l with fade := none, dimNum := 0, dimDen := 1 }).wr (.lsr .outFading) c 0).showDim c)).outputStopped c

/-- The exact value of a fade at so much of its duration. -/
def fadeAt (f : Fade) (acc : Nat) : Nat × Nat :=
  if f.dur ≤ acc then (f.target, 1) else
  let n := f.startNum * (f.dur - acc) + f.target * f.startDen * acc
  let d := f.startDen * f.dur
  let g := max 1 (Nat.gcd n d)
  (n / g, d / g)

/-- The step of a meridian (R185); a stop fade that reaches 0 stops the output (R186), and lets a standby or a reload go on. -/
def fadeStep (s : State) (c : Fin 4) : State :=
  match s.light[c].fade with
  | none => s.showDim c
  | some f =>
    let acc := f.acc + s.cfg[c].period
    let v := fadeAt f acc
    let fin := f.dur ≤ acc
    let s := (s.modLight c fun l =>
      { l with dimNum := v.1, dimDen := v.2, fade := if fin then none else some { f with acc := acc } }).wrb (.lsr .outFading) c (!fin)
    let s := s.showDim c
    if fin && f.kind == .stop then s.outputStopped c else s

/-- A commit changed DIM (R185): a new target starts a fade anew; a stop fade and a stopped output are left as they are. -/
def dimChanged (s : State) (c : Fin 4) : State :=
  match s.light[c].fade with
  | some f => if f.kind == .stop then s else if f.kind == .start then
      let l := s.light[c]
      (s.modLight c fun y => { y with fade := some { f with startNum := l.dimNum, startDen := l.dimDen, target := s.rd (.lsr .dimDim) c, acc := 0 } })
    else s.startFade c .brightness
  | none => if s.on (.lsr .outStopped) c then s else s.startFade c .brightness

/-! ### The lamp line (R190 to R195) -/

/-- The bits of one lamp frame (R191): a share per board, nearest first; a board's switches take its channel's emitters after those
of the nearer boards of the same channel. -/
def lampBits (s : State) (c : Fin 4) (pat : Nat → Nat) (seq : Nat) : List Bool :=
  let bs := s.light[c].boards
  (bs.zipIdx).flatMap fun x =>
    let before := (((bs.take x.2).filter fun b => b.chan == x.1.chan).map (·.switches)).sum
    share false seq x.1.switches (bits (pat x.1.chan) before x.1.switches)

/-- The bits a frame of a cluster's boards takes. -/
def lampLength (s : State) (c : Fin 4) : Nat := (s.light[c].boards.map fun b => 16 + b.switches).sum

/-- How long a bit of the lamp line is high and then low, in CCLK (R190). -/
def lampPulse (b : Bool) : Nat × Nat := if b then (300, 100) else (100, 300)

/-- The pattern check of a channel in a range is due, expecting so many emitters (R195). -/
def armCheck (x : LaserCh) (r : LampRange) (pat : Nat) : LaserCh :=
  { x with checkDue := (r, popCount 32 pat) :: x.checkDue.filter fun y => y.1 != r }

/-- The pattern that a load gives a channel is the one of its latest load in the range (R195). -/
def noteTried (x : LaserCh) (r : LampRange) (pat : Nat) : LaserCh :=
  match r with
  | .high => { x with triedH := pat }
  | .low => { x with triedL := pat }

/-- A load holds the pattern whose check failed (R195): it is the second load of it. -/
def isRetry (x : LaserCh) (r : LampRange) (pat : Nat) : Bool :=
  x.retried.contains r && (match r with | .high => x.triedH | .low => x.triedL) == pat

/-- The LATCH of a load is lost on its lane (R178): the latches stay as they are; the check of R195 is armed for each lit channel whose pattern was to
change, or to be loaded again. A change that only channels not lit would have taken waits for a frame again (DESIGN CHOICE, log entry 111). -/
def loseLatch (s : State) (c : Fin 4) (ld : LampLoad) : State :=
  let hi := ld.range == .high
  let cur := fun (k : Nat) => s.rd (if hi then .lsr .patHPat else .lsr .patLPat) (chanInst c (Fin.ofNat 6 k))
  let moved := ld.pats.filter fun x => cur x.1 != x.2 || isRetry s.light[c].chans[(Fin.ofNat 6 x.1 : Fin 6)] ld.range x.2
  let lit := moved.filter fun x => s.chState c (Fin.ofNat 6 x.1) == 3
  let s := lit.foldl (fun s x => s.modChan c (Fin.ofNat 6 x.1) fun y => noteTried (armCheck y ld.range x.2) ld.range x.2) s
  let again := lit.isEmpty && !moved.isEmpty
  (s.modLight c fun l =>
    { l with load := none, latchLost := false, pendHigh := l.pendHigh || (again && hi), pendLow := l.pendLow || (again && !hi) }).wr (.lsr .lampBusy) c 0

/-- A latch load takes effect with the LATCH at an instant to come (R194, R195): patterns in force, NLIT, and a check for each lit channel whose pattern changed or
was loaded again. -/
def latchLoad (s : State) (c : Fin 4) (ld : LampLoad) (at' : Nat) : State :=
  let hi := ld.range == .high
  let before := ld.pats.map fun x => (x.1, s.rd (if hi then .lsr .patHPat else .lsr .patLPat) (chanInst c (Fin.ofNat 6 x.1)))
  let s := s.violate 6 fun t _ q => (t == 5 || t == 6) && q == c.val
  let s := ld.pats.foldl (fun s x =>
    let k : Fin 6 := Fin.ofNat 6 x.1
    let i := chanInst c k
    let old := s.rd (if hi then .lsr .patHPat else .lsr .patLPat) i
    let s := (s.wr (if hi then .lsr .patHPat else .lsr .patLPat) i x.2).wr (if hi then .lsr .chStateNlitH else .lsr .chStateNlitL) i (popCount 32 x.2)
    let again := isRetry s.light[c].chans[k] ld.range x.2
    s.modChan c k fun y =>
      let y := if (old != x.2 || again) && s.chState c k == 3 then armCheck y ld.range x.2 else y
      let y := noteTried (if again then y else { y with retried := y.retried.filter fun r => r != ld.range }) ld.range x.2
      if !hi && y.wear then { y with wear := false, wearDone := true } else y) s
  (s.modLight c fun l => { l with load := none, latched := some (ld, before), latchAt := at' }).wr (.lsr .lampBusy) c 0

/-- The LATCH command of an interval whose row has passed is lost before its LATCH rises (R178): the patterns are those of before; else the next LATCH is
lost. -/
def undoLatch (s : State) (c : Fin 4) : State :=
  match s.light[c].latched with
  | none => s.modLight c fun l => { l with latchLost := true }
  | some x =>
    if s.light[c].latchAt < s.now then s.modLight c fun l => { l with latchLost := true } else
    let hi := x.1.range == .high
    let s := x.2.foldl (fun s y =>
      let i := chanInst c (Fin.ofNat 6 y.1)
      (s.wr (if hi then .lsr .patHPat else .lsr .patLPat) i y.2).wr (if hi then .lsr .chStateNlitH else .lsr .chStateNlitL) i (popCount 32 y.2)) s
    let s := allChans.foldl (fun s k => s.modChan c k fun y =>
      { y with checkDue := y.checkDue.filter fun z => z.1 != x.1.range, wear := y.wear || (y.wearDone && !hi), wearDone := y.wearDone && hi
               diagTaken := y.wantH == s.rd (.lsr .patHPat) (chanInst c k) }) s
    let s := (s.modLight c fun l => { l with latched := none, latchAt := s.now }).loseLatch c x.1
    if s.drives then s.emit (.latchCut c s.now) else s

/-- Wear rotations whose LATCH has come are reported (R210). -/
def noteWear (s : State) (c : Fin 4) : State :=
  allChans.foldl (fun s k =>
    if !s.light[c].chans[k].wearDone then s else
    (s.modChan c k fun y => { y with wearDone := false }).report .lsrCh (chanInst c k) 0x13CB [(4, s.rd (.lsr .patLPat) (chanInst c k))]) s

/-- The load whose LATCH falls in the interval that begins now, if there is one (R194, R210); none while the lamp line stands stopped (R18). -/
def loadAt (s : State) (c : Fin 4) (dump : Bool) : Option LampLoad :=
  s.light[c].load.filter fun ld => ld.endAt + latchWait s.light[c].boards.length ≤ s.now && (dump || !ld.dumpOnly) && !s.halted .lamp c

/-- A quiet settle, dump window or tail that begins now, with its events counted from r (R137, R138, R194): where a load waits, RANGE selects its latch and LATCH pulses, and RANGE is
then set for the coming dwell; without one RANGE is set for the dwell alone, where it changes or its last command was lost (R178). -/
def quietInterval (s : State) (c : Fin 4) (r : Nat) (dump high : Bool) : State :=
  match s.loadAt c dump with
  | some ld =>
    let s := s.setRange c (r + 160) (ld.range == .high)
    let s := if s.light[c].latchLost then s.loseLatch c ld else ((s.emit (.latch c (r + 320))).latchLoad c ld (r + 320))
    (s.showPend c).setRange c (r + 560) high
  | none => if s.rangeAt c == high && !s.light[c].rangeLost then s else s.setRange c (r + 560) high

/-! ### Ceiling (R187 to R189) -/

/-- The running mean of a thermistor over its last second, in 1/16 °C. -/
def tsenMean (s : State) (c : Fin 4) (i : Fin 4) : Int :=
  let l := s.light[c].tsen[i]
  if l.isEmpty then 0 else roundDiv l.sum l.length

/-- The derate factor of a bank (R187, R189). -/
def derOf (s : State) (c : Fin 4) (k : Fin 6) : Nat :=
  let i := chanInst c k
  let j : Fin 4 := Fin.ofNat 4 (s.rd (.lsr .bankTsen) i)
  if s.light[c].tsenBad[j] then 0x8000
  else if s.light[c].tsen[j].isEmpty then 0xFFFF
  else derate (s.rd (.lsr .slopeSlope) i) (s.tsenMean c j) (s.rd (.lsr .thermTknee) i)

/-- The capacity factor of a bank (R188). -/
def capOf (s : State) (c : Fin 4) (k : Fin 6) : Nat :=
  let i := chanInst c k
  capacity (s.rd (.lsr .chStateNlitH) i) (s.rd (.lsr .bankNfull) i)

/-- The output ceiling (R188): the least factor of the lit channels, with LIMIT and CH; a fall is taken at once, for the next G, and
a rise of at most 1 % of full per second. -/
def updateCeiling (s : State) (c : Fin 4) : State :=
  let s := allChans.foldl (fun s k => s.wr (.lsr .slopeDer) (chanInst c k) (s.derOf c k)) s
  let terms := (allChans.filter fun k => s.chState c k == 3).flatMap fun k =>
    let bad := s.light[c].tsenBad[(Fin.ofNat 4 (s.rd (.lsr .bankTsen) (chanInst c k)) : Fin 4)]
    [(s.derOf c k, (if bad then 3 else 1), k.val), (s.capOf c k, 2, k.val)]
  let best := terms.foldl (fun (a : Nat × Nat × Nat) x => if x.1 < a.1 then x else a) (0xFFFF, 0, 0)
  let s := (s.wr (.lsr .ceilLimit) c best.2.1).wr (.lsr .ceilCh) c best.2.2
  let cur := s.rd (.lsr .ceilCeil) c
  if best.1 ≤ cur then (s.wr (.lsr .ceilCeil) c best.1).modLight c fun l => { l with ceilAt := s.now }
  else
    let inc := (s.now - s.light[c].ceilAt) * 65535 / (100 * msCclk 1000)
    if inc == 0 then s else
    (s.wr (.lsr .ceilCeil) c (min best.1 (cur + inc))).modLight c fun l => { l with ceilAt := s.now }

/-- A channel's diagnostic pulse is over (R209, R221): its 1 µs counts, and the hold of LREF ends once its interval is over. -/
def endDiag (s : State) (c : Fin 4) (k : Fin 6) : State :=
  let s := if s.light[c].chans[k].diagOn then
      (s.addLit c k 1600 (s.rd (.lsr .patHPat) (chanInst c k))).modChan c k fun x => { x with diagOn := false }
    else s
  s.releaseLref c k

/-- The front end takes new calibration values at a plane boundary, for each channel whose LEN is low (R197). -/
def takeCalibration (s : State) (c : Fin 4) : State :=
  allChans.foldl (fun s k =>
    let i := chanInst c k
    if s.light[c].chans[k].len then s else
    s.modChan c k fun x =>
      { x with front := { vstep := s.rd (.lsr .vstrCfgVstep) i, vofs := s.rd (.lsr .vstrOfsVofs) i, vcomp := s.rd (.lsr .vstrCfgVcomp) i,
                          dark := s.rd (.lsr .pdCfgDark) i, missfrac := s.rd (.lsr .pdCfgMissfrac) i } }) s

/-! ### Channel faults (R200 to R206) -/

/-- The front-end object's known bad emitters (R316): LSR_BAD of the six channels. -/
def storeBad (s : State) (c : Fin 4) : State :=
  s.almRequest (0x0020 + c.val) (allChans.flatMap fun k => leBytes 4 (s.rd (.lsr .badMask) (chanInst c k)))

/-- The pattern of a search step waits for the high latch (R203): half of the candidates are bypassed. -/
def searchStep (s : State) (c : Fin 4) (k : Fin 6) : State :=
  match s.light[c].chans[k].search with
  | none => s
  | some sr =>
    if !sr.bypassed.isEmpty then s else
    let half := sr.cands.take ((sr.cands.length + 1) / 2)
    let s := s.modChan c k fun x => { x with search := some { sr with bypassed := half } }
    let full := s.rd (.lsr .badMask) (chanInst c k)
    let n := min 32 (s.rd (.lsr .bankNemit) (chanInst c k))
    s.wantPatterns c k (maskOf 32 fun e => e < n && !bit full e && !half.contains e) s.light[c].chans[k].wantL

/-- An emitter search begins (R203). -/
def startSearch (s : State) (c : Fin 4) (k : Fin 6) (short : Bool) : State :=
  let cands := emittersOf (s.rd (.lsr .patHPat) (chanInst c k))
  let s := s.modChan c k fun x => { x with search := some { short := short, cands := cands, bypassed := [], frames := 0, nlit := cands.length } }
  (s.wr (.lsr .chStateEmknown) (chanInst c k) 0).searchStep c k

/-- A healthy standby of a primary will light at the next G (R201). -/
def selectStandby (s : State) (c : Fin 4) (p : Fin 3) (k : Fin 6) : State :=
  s.modLight c fun l => { l with nextLit := l.nextLit.set p (some k.val), litFrom := l.litFrom.set p 0, failover := l.failover.set p false }

/-- The event of a decided fault and its counter (R197); thermal and SATFAULT have events of their own. -/
def faultCounter (s : State) (c : Fin 4) (k : Fin 6) (cause : Nat) : State :=
  let i := chanInst c k
  match cause with
  | 1 => s.bump (.lsr .detCntOpen) i
  | 2 => s.bump (.lsr .detCntShort) i
  | 3 => s.bump (.lsr .detCntMissing) i
  | _ => s

/-- A fault of a channel is decided (R197, R201 to R207): cause 1 open, 2 short, 3 missing light, 4 thermal, 5 pattern, 6 SATFAULT. The second of a
pair keeps its verdict until the prime's shows (R207). A bank that is searched or waits for a re-arm is shut down by its temperature too (R187). A light-off that stood before, of CAUSE 1 or 3, leaves the search to run in diagnostic pulses
(R198, R201). -/
def channelFault (s : State) (c : Fin 4) (k : Fin 6) (cause : Nat) : State :=
  let st := s.chState c k
  let i := chanInst c k
  let hot := cause == 4 && (st == 4 || (st == 5 && (s.light[c].chans[k].search.isSome || s.light[c].chans[k].rearm)))
  if st != 2 && st != 3 && !hot then s
  else if s.role == 2 then s.modChan c k fun x => { x with verdict := some cause }
  else
  let off := s.on (.lsr .outLightoff) c
  let p := primOf k
  let s := s.violate 8 fun t j q => (t == 5 || t == 6) && j == k.val && q == c.val
  let s := (s.faultCounter c k cause).modChan c k fun x =>
    { x with diagPassed := false, shorts := 0, missing := 0, pattern := 0, checkDue := [], retried := [], thermal := x.thermal || cause == 4 }
  let s := if hot then (s.modChan c k fun x => { x with rearm := false, waitDiag := false }).dropSearch c k else s
  let search := cause == 1 || cause == 2
  let tol := s.policy c == 2 && search
  let s := s.setCh c k (if tol then 4 else 5) cause
  let s := (s.setLen c k false).cutDiag c k
  let s := if st == 3 then s.flagBy c (s.shownFrame c) .torn (s.allTiles c) .lsrCh (chanInst c k) else s
  let pend := s.light[c].nextLit[p] == some k.val
  let s := if pend then s.modLight c fun l => { l with nextLit := l.nextLit.set p none } else s
  let s := if s.policy c == 1 then s.policyLightOff c k cause
    else if st == 3 || ((pend || st == 4) && (s.litBank c p).isNone && s.light[c].nextLit[p].isNone) then
      match s.standbyOf c p with
      | some n => (s.selectStandby c p n).modLight c fun l => { l with failover := l.failover.set p true }
      | none => if tol then s else s.policyLightOff c k cause
    else s
  let s := if search && !s.on (.lsr .intlkTripped) c && (off || !s.on (.lsr .outLightoff) c) then s.startSearch c k (cause == 2) else s
  s.updateCeiling c

/-- A search names its emitter (R203): under TOLERANT both patterns are chosen anew (R204); otherwise the bank keeps its choice without that emitter. -/
def searchDone (s : State) (c : Fin 4) (k : Fin 6) (sr : Search) (em : Nat) : State :=
  let i := chanInst c k
  let s := s.modChan c k fun x => { x with search := none }
  let s := ((s.wr (.lsr .chStateEmitter) i em).wr (.lsr .chStateEmknown) i 1).wr (.lsr .badMask) i (putBit (s.rd (.lsr .badMask) i) em true)
  let s := (s.storeBad c).reportSub .lsrCh i em 0x13C7 [(4, sr.frames)]
  if s.chState c k != 4 then let w := s.bypassBad c k; s.wantPatterns c k w.1 w.2 else
  let s := s.choosePatterns c k
  if popCount 32 (s.healthyPattern c k) < s.rd (.lsr .bankNmin) i then s.setChState c k 5
  else s.modChan c k fun x => { x with waitDiag := true }

/-- What a search step's diagnostic pulse shows (R203): the faulty emitter is among the bypassed ones or not. The pulse's later windows judge no further
step: there is one step per frame. -/
def searchJudge (s : State) (c : Fin 4) (k : Fin 6) (sr : Search) (pd vstr : Nat) : State :=
  let s := s.modChan c k fun x => { x with diagDone := true }
  let f := s.light[c].chans[k].front
  let among := if sr.short then
      2 * ((sr.nlit - sr.bypassed.length) * f.vstep + f.vofs) ≤ 2 * vstr + f.vstep
    else !(f.vcomp ≤ vstr && pd < f.dark)
  let left := if among then sr.bypassed else sr.cands.filter fun e => !sr.bypassed.contains e
  let sr := { sr with cands := left, bypassed := [], frames := sr.frames + 1 }
  if ceilLog2 sr.nlit ≤ sr.frames then s.searchDone c k sr (left.headD 0)
  else (s.modChan c k fun x => { x with search := some sr }).searchStep c k

/-- A channel's diagnostic pulse passed every check (R200, R204, R205). For a rebalanced or re-armed bank it counts only where it showed the pattern
wanted. -/
def diagPass (s : State) (c : Fin 4) (k : Fin 6) : State :=
  let i := chanInst c k
  let x := s.light[c].chans[k]
  let shown := x.diagTaken || (!x.waitDiag && !x.rearm)
  if !shown then s else
  let s := s.modChan c k fun y => { y with diagPassed := true, rearm := false, diagNow := false, waitDiag := false }
  let p := primOf k
  let s := if x.waitDiag then
      let s := (s.setCh c k 2 0).askRun 5 c k s.now
      s.report .lsrCh i 0x23C6 [(1, s.rd (.lsr .chStateEmitter) i), (4, s.rd (.lsr .chStateNlitH) i), (2, s.capOf c k)]
    else if x.rearm && s.chState c k == 5 then
      (((s.setCh c k 2 0).modChan c k fun y => { y with thermal := false }).askRun 6 c k s.now).report .lsrCh i 0x13CF [(4, s.rd (.lsr .chStateNlitH) i)]
    else s
  if x.waitDiag && (s.litBank c p).isNone && s.light[c].nextLit[p].isNone && !s.light[c].policyOff then s.selectStandby c p k else s

/-- At a G, the selected banks light (R200 to R202, R206); a standby that is no longer healthy does not. `frame` is the frame of the
G. Event 0x23C4 is a failover's alone (R201): a bank that a re-arm of the output lights raises none. -/
def lightBanks (s : State) (c : Fin 4) (frame : Nat) : State :=
  allPrims.foldl (fun s p =>
    match s.light[c].nextLit[p] with
    | none => s
    | some n =>
      if frame < s.light[c].litFrom[p] then s else
      let k : Fin 6 := Fin.ofNat 6 n
      let old := s.litBank c p
      let moved := s.light[c].failover[p]
      let s := s.modLight c fun l => { l with nextLit := l.nextLit.set p none, failover := l.failover.set p false }
      if s.chState c k != 2 then s else
      let failed := (banksOf p).find? fun j => j != k && (s.chState c j == 4 || s.chState c j == 5)
      let s := match old with | some j => s.setChState c j 2 | none => s
      let s := (((s.setChState c k 3).wr (litFld p) c (k.val % 2)).sendChState c).askRun 5 c k (s.now + msCclk 10000)
      let s := s.violate 3 fun t i q => t == 3 && i == k.val && q == c.val
      match old, failed with
      | none, some j =>
        let s := s.flagBy c frame .torn (s.allTiles c) .lsrCh (chanInst c j)
        if moved then s.report .lsrCh (chanInst c j) 0x23C4 [(1, j.val), (1, k.val), (4, frame)] else s
      | _, _ => s) s

/-- Frames in which a primary has no lit bank after a fault are torn (R204), on the account of its searched or failed banks. -/
def tearUnlit (s : State) (c : Fin 4) (frame : Nat) : State :=
  if s.on (.lsr .outLightoff) c then s else
  (allChans.filter fun k => (s.litBank c (primOf k)).isNone && (s.chState c k == 4 || s.chState c k == 5 || s.light[c].chans[k].waitDiag)).foldl
    (fun s k => s.flagBy c frame .torn (s.allTiles c) .lsrCh (chanInst c k)) s

/-- Every primary has a LIT or a healthy STANDBY bank (R205). -/
def everyPrimary (s : State) (c : Fin 4) : Bool := allPrims.all fun p => (s.litBank c p).isSome || (s.standbyOf c p).isSome

/-- Primaries without a lit bank take a healthy standby at the next G. -/
def fillPrimaries (s : State) (c : Fin 4) : State :=
  allPrims.foldl (fun s p =>
    if (s.litBank c p).isSome then s else
    match s.standbyOf c p with | some k => s.selectStandby c p k | none => s) s

end State

end Sys2Proof.Machine
end

