-- ==== Sys2Proof/Machine/HelOps.lean ====
section
/-! DEFINITION. Shared operations of the Heliostat slots: destinations (R220, R221, R229), cascades (R222 to R224), lit and dark
samples (R218), modes (R226, R227), strobes (R224), and the safe value (R216, R219, R228). -/

namespace Sys2Proof.Machine

/-- How long a chopped LEN has been high at `now` without a break, none when it is low (R184, R218): chop periods counted from f, the
accumulator as it was when LEN rose at from'. -/
def chopHighSince (minpw duty f from' now acc : Nat) : Option Nat :=
  let i0 := (from' - f + 63) / 64
  let n := if now < f + 64 * i0 then 0 else (now - (f + 64 * i0)) / 64 + 1
  ((List.range n).foldl (fun (x : Nat × Option Nat) j =>
    let r := chopStep minpw duty x.1
    let p := f + 64 * (i0 + j)
    let rise := match x.2 with | some b => if b ≤ p then b else p | none => p
    let fall := p + r.1
    (r.2, if p + 64 ≤ now then (if r.1 == 64 then some rise else none) else if now < fall then some rise else none)) (acc, none)).2.map
    fun b => now - b

namespace State

/-- The output that waited for its phase is written once its instant has come (R214). -/
def flushOut (s : State) (c : Fin 4) (i : Fin 16) : State :=
  match s.hel[c].slots[i].due with
  | some (a, u) => if a ≤ s.now then s.writeOut c i u else s
  | none => s

/-- The slot whose cascade names a slot (R220, R222): directly, or through the LIT channel of a primary. -/
def cascadeSource (s : State) (c : Fin 4) (i : Fin 16) : Option (Fin 16) :=
  let mine := ((s.lrefsOf (slotInst c i)).filter fun k => s.chState c k == 3).map fun k => (primOf k).val
  allSlots.find? fun o => (s.slotDests (slotInst c o)).any fun d => (d.1 == 3 && d.2 == i.val) || (d.1 == 4 && mine.contains d.2)

/-- A delivery of the outer output register as it stands at the start of the cycle, scaled where SCALE says so (R223). -/
def cascadeValue (s : State) (c : Fin 4) (i o : Fin 16) : Int :=
  let j := slotInst c i
  let u := if s.hel[c].slots[o].outAt == s.now then s.hel[c].slots[o].outPrev else s.rdI (.hel .outU) (slotInst c o)
  if !s.on (.hel .cascadeScale) j then u else
  let p := match s.lrefOf c j with | some k => primOf k | none => Fin.ofNat 3 s.light[c].segPrim
  cascadeScale u (dimA16 s.hel[c].scaleDim[p]) (ceilC16 s.hel[c].scaleCeil[p]) s.hel[c].slots[i].j

/-- A SEG or AST strobe is sent at an instant: it reaches the slots 8 CCLK later (R139, R224). A SEG takes the scale that the segment's G has fixed
for its primary (R223). -/
def cascadeStrobe (s : State) (c : Fin 4) (at' j : Nat) (scale : Option (Nat × Nat × Nat)) : State :=
  s.modHel c fun h => { h with coming := h.coming ++ [{ at' := at' + 8, j := j, scale := scale }] }

/-- The SEG and AST strobes that have reached the slots by now set j and the scale, and force a delivery (R224). -/
def arriveStrobes (s : State) (c : Fin 4) : State :=
  (s.hel[c].coming.filter fun x => x.at' ≤ s.now).foldl (fun s x =>
    s.modHel c fun h =>
      { h with
        slots := h.slots.map fun y => { y with j := x.j, forced := true }
        scaleDim := match x.scale with | some v => h.scaleDim.set (Fin.ofNat 3 v.1) v.2.1 | none => h.scaleDim
        scaleCeil := match x.scale with | some v => h.scaleCeil.set (Fin.ofNat 3 v.1) v.2.2 | none => h.scaleCeil })
    (s.modHel c fun h => { h with coming := h.coming.filter fun x => s.now < x.at' })

/-- The nominal instants of the open segment at which content LEN falls, and those at which it rises (R136, R139). -/
def lenTurns (s : State) (c : Fin 4) : List Nat × List Nat :=
  match s.shownRec c with
  | none => ([], [])
  | some f =>
    match (segmentsOf f.sched.ents)[s.chr[c].seg - 1]? with
    | none => ([], [])
    | some g =>
      let h := f.sched.hdr
      let g0 := s.chr[c].lastG
      let a := aResets h (g0 + tPortion h g.2)
      ((g0 + tPortion h g.2) :: a ++ [g0 + segLen h g.2], (g0 + h.settle) :: a.map (· + h.settle))

/-- Since when the content LEN of a channel has been high, none while it is low (R136, R218): its edges stand CHR_LEN_DLY away from the instants of the
chronograph, on either side. -/
def lenHighSince (s : State) (c : Fin 4) (k : Fin 6) : Option Nat :=
  let x := s.light[c].chans[k]
  let d := s.lenDly c k
  let came := fun (e : Nat) => decide (s.now < e) && decide ((e : Int) + d ≤ s.now)
  if x.diagOn then none
  else if x.len then
    if s.now < x.lenSince || (s.lenTurns c).1.any came then none else some x.lenSince
  else if s.now < x.lenSince then (if x.lenRose ≤ s.now then some x.lenRose else none)
  else
    let rises := s.chr[c].seg != 0 && s.gateOpen c k && primOf k == Fin.ofNat 3 s.light[c].segPrim && s.light[c].segDim[primOf k] != 0 && !x.lostPulse
      && !(s.light[c].awin && (s.light[c].hold || s.on (.pln .stateAsupp) c))
    if !rises then none else ((s.lenTurns c).2.find? came).map fun e => ((e : Int) + d).toNat

/-- A gated sample is lit (R218): the content LEN of the destination channel has been high for BLANK; diagnostic pulses and chop
pulses shorter than BLANK never are. A slot with two LREF destinations samples light where one of their channels gives it. -/
def sampleLit (s : State) (c : Fin 4) (j : Nat) : Bool :=
  let ks := s.lrefsOf j
  if ks.isEmpty || !s.on (.hel .routeGate) j then true else
  let blank := s.rd (.hel .inBlank) j
  ks.any fun k =>
    let dim := s.light[c].segDim[primOf k]
    match s.lenHighSince c k with
    | none => false
    | some r =>
      if 16384 ≤ dimD dim then blank ≤ s.now - r
      else match chopHighSince (clampN 8 64 (s.rd (.lsr .chopMinpw) c)) (dimDuty dim) s.chr[c].lastF r s.now s.light[c].chopAcc with
        | some n => blank ≤ n
        | none => false

/-- The coefficients of a slot in force (R212). -/
def slotCoef (s : State) (j : Nat) : HelCoef :=
  let g := fun (n : Nat) => s.rdI (.hel .coefC) (8 * j + n)
  { ff := g 0, ffl := g 1, b0 := g 2, b1 := g 3, b2 := g 4, a1 := g 5, a2 := g 6, ki := g 7,
    sff := s.rd (.hel .shift0Sff) j, sffl := s.rd (.hel .shift0Sffl) j, sb0 := s.rd (.hel .shift0Sb0) j,
    sb1 := s.rd (.hel .shift0Sb1) j, sb2 := s.rd (.hel .shift0Sb2) j, sa1 := s.rd (.hel .shift1Sa1) j,
    sa2 := s.rd (.hel .shift1Sa2) j, ski := s.rd (.hel .shift1Ski) j,
    umin := s.rdI (.hel .uminUmin) j, umax := s.rdI (.hel .umaxUmax) j }

/-- The measurement that a sample takes, none where its source gives none (R217, R219). `code` is the PD code at the strobe. -/
def slotMeas (s : State) (c : Fin 4) (j code : Nat) : Option Int :=
  let ofs := s.rdI (.hel .inOfs) j
  let ix := s.rd (.hel .routeMidx) j
  match s.rd (.hel .routeMtype) j with
  | 1 => some (if ix < 6 then measPd (code % 2 ^ 14 : Nat) ofs else 0)
  | 2 => some (if ix < 4 then measTsen (s.rdI (.lsr .tsenTemp) (c.val * 4 + ix)) ofs else 0)
  | 3 => if ix < 3 then (s.hel[c].csMeas[(Fin.ofNat 3 ix : Fin 3)]).map fun (m : Nat) => sat32 ((m : Int) - ofs * 2 ^ 15) else some 0
  | 4 => some (s.rdI (.hel .outU) (slotInst c (Fin.ofNat 16 ix)))
  | _ => some 0

/-- The thermistor a slot measures reads invalid (R189, R219). -/
def slotInvalid (s : State) (c : Fin 4) (j : Nat) : Bool :=
  s.rd (.hel .routeMtype) j == 2 && s.rd (.hel .routeMidx) j < 4 && s.light[c].tsenBad[(Fin.ofNat 4 (s.rd (.hel .routeMidx) j) : Fin 4)]

/-- The law's state is loaded: I = INIT and a cleared history (R225, R228, R234). -/
def loadInit (s : State) (c : Fin 4) (i : Fin 16) : State :=
  let v := s.rdI (.hel .initInit) (slotInst c i)
  (s.modSlot c i fun x => { x with hist := ⟨v, 0, 0, 0, 0⟩, loadAt := none }).wrI (.hel .integI) (slotInst c i) v

/-- SATFAULT clears (R228): the slot restarts with I = INIT, and event 0x1402 is raised. -/
def clearSatfault (s : State) (c : Fin 4) (i : Fin 16) : State :=
  let j := slotInst c i
  if !s.on (.hel .slotStatSatfault) j then s else
  let s := ((s.wr (.hel .slotStatSatfault) j 0).modSlot c i fun x => { x with stopped := false, satCount := 0 }).loadInit c i
  (s.report .slot j 0x1402 [(4, s.lastFrame c)]).showOpen c i

/-- A slot's enable lands (R213, R222, R229): its counters and its periodic grid start, INIT stands at its destinations, and r takes HEL_SP
(DESIGN CHOICE, log entry 119: the rule gives r no value at the enable). A slot that is FATAL keeps SAFE there (R229), and one that stands in SATFAULT stays
stopped, with its destinations as they are, until that is cleared (R228). -/
def enableSlot (s : State) (c : Fin 4) (i : Fin 16) : State :=
  let j := slotInst c i
  let s := (s.arriveStrobes c).modSlot c i fun x =>
    { x with gridAt := s.now, sampled := false, lastTrig := none, due := none, dropped := false, cascCount := 0, request := none, forced := false, satCount := 0, lost := 0, invalid := false }
  let s := ((s.wr (.hel .slotStatOvrrun) j 0).wr (.hel .slotStatSafe) j 0).wrI (.hel .spwR) j (s.rdI (.hel .spSp) j)
  let s := s.loadInit c i
  (if s.halted .slot j || s.hel[c].slots[i].stopped then s else s.writeOut c i (s.rdI (.hel .initInit) j)).showOpen c i

/-- A trigger comes before the last accepted sample's output, or less than 32 CCLK after it (R215). -/
def tooSoon (s : State) (c : Fin 4) (i : Fin 16) : Bool :=
  match s.hel[c].slots[i].lastTrig with
  | some l => s.now < l + max 32 (max 8 (s.rd (.hel .phasePhase) (slotInst c i)))
  | none => false

/-- A trigger that comes too soon is dropped (R215); at the limit the slot stops with HEL_SAFE at its destinations (R216). -/
def overrun (s : State) (c : Fin 4) (i : Fin 16) : State :=
  let j := slotInst c i
  let first := s.rd (.hel .slotStatOvrrun) j == 0
  let s := (s.bump (.hel .cntOverrunCnt) j).bump (.hel .slotStatOvrrun) j
  let s := s.modSlot c i fun x => { x with dropped := true }
  let s := if first then
      s.report .slot j 0x1403 [(4, max 8 (s.rd (.hel .phasePhase) j)), (4, max 32 (s.rd (.hel .trigPeriod) j)), (4, s.lastFrame c)]
    else s
  let n := s.rd (.hel .slotStatOvrrun) j
  if n < max 1 (s.rd (.hel .limitOvrlim) j) then s else
  s.unitFault .slot j 0xFF 0x4404 [(4, n), (4, s.lastFrame c)]

/-- SATFAULT is raised with the slot's action (R228). -/
def satFault (s : State) (c : Fin 4) (i : Fin 16) (u : Int) : State :=
  let j := slotInst c i
  let act := match s.rd (.hel .slotCtrlSatact) j with | 3 => 1 | a => a
  let s := (s.wr (.hel .slotStatSatfault) j 1).modSlot c i fun x => { x with stopped := true, satCount := 0, due := none }
  let s := s.report .slot j 0x2401 [(1, act), (4, unsigned 32 u), (4, s.lastFrame c)]
  let s := if act != 2 then s else
    ((s.lrefsOf j).filter fun k => s.chState c k == 3).foldl (fun s k => s.channelFault c k 6) s
  (if act == 0 then s else s.writeSafe c i).showOpen c i

/-- What an accepted sample does with the working set-point (R222, R223): cascade delivery and ramp. -/
def moveSetpoint (s : State) (c : Fin 4) (i : Fin 16) : State :=
  let j := slotInst c i
  let x := s.hel[c].slots[i]
  let src := s.cascadeSource c i
  let req := match src with
    | some o => if x.forced || x.cascCount % (s.rd (.hel .cascadeN) j + 1) == 0 then some (s.cascadeValue c i o) else x.request
    | none => x.request
  let s := s.modSlot c i fun y => { y with request := req, forced := false, cascCount := y.cascCount + 1 }
  let want := match src, req with
    | some _, some v => v
    | _, _ => s.rdI (.hel .spSp) j
  let r := helRamp (s.rd (.hel .slewSlew) j) (s.rdI (.hel .spwR) j) want
  (s.wrI (.hel .spwR) j r.1).wrb (.hel .slotStatLimited) j r.2

/-- What a mode computes at an accepted sample (R212, R218, R226): the output, the history after it and SAT, with the measurement
taken, if any. -/
def evaluateSlot (s : State) (c : Fin 4) (i : Fin 16) (m : Option Int) : Int × HelHist × Bool :=
  let j := slotInst c i
  let k := s.slotCoef j
  let h := s.hel[c].slots[i].hist
  let sp := s.rdI (.hel .spwR) j
  let low := !(s.lrefsOf j).isEmpty && !s.rangeAt c
  let sat := fun (v : Int) => k.umax < v || v < k.umin
  match s.slotMode c i, m with
  | 0, some m => helLaw k low h sp m
  | 0, none => let r := helDark k low h sp; (r.1, r.2, s.on (.hel .slotStatSat) j)
  | 1, _ => (helFeedforward k low sp, h, sat (sat32 (if low then helTerm k.ffl k.sffl sp else helTerm k.ff k.sff sp)))
  | _, _ => let v := s.rdI (.hel .openOpen) j; (helClamp k v, h, sat v)

/-- MLOST counts samples without a PD word: event 0x2405 after 16 of them, and after each further 65,536 (R219). -/
def pdLost (s : State) (c : Fin 4) (i : Fin 16) : State :=
  let j := slotInst c i
  let n := s.hel[c].slots[i].lost + 1
  let s := (s.modSlot c i fun x => { x with lost := n }).bump (.hel .cntMlost) j
  if 16 ≤ n && (n - 16) % 65536 == 0 then s.report .slot j 0x2405 [(4, s.rd (.hel .cntMlost) j)] else s

/-- An accepted sample (R212 to R228). `code` is the PD code at the strobe, none where its word was discarded (R219). -/
def acceptSample (s : State) (c : Fin 4) (i : Fin 16) (code : Option Nat) : State :=
  let j := slotInst c i
  let x := s.hel[c].slots[i]
  let s := if x.dropped || x.lastTrig.isNone then s else s.wr (.hel .slotStatOvrrun) j 0
  let s := s.modSlot c i fun y => { y with dropped := false, lastTrig := some s.now, sampled := true }
  let s := match x.loadAt with | some g => if g ≤ s.now then s.loadInit c i else s | none => s
  let s := s.moveSetpoint c i
  let wr := s.now + max 8 (s.rd (.hel .phasePhase) j)
  if s.slotInvalid c j then
    let s := if x.invalid then s else s.report .slot j 0x2406 [(1, s.rd (.hel .routeMidx) j)]
    let s := (s.wr (.hel .slotStatSafe) j 1).modSlot c i fun y => { y with invalid := true, due := some (wr, s.rdI (.hel .safeSafe) j) }
    s.showOpen c i
  else
    let s := if !x.invalid then s else
      ((s.modSlot c i fun y => { y with invalid := false }).wr (.hel .slotStatSafe) j 0).report .slot j 0x1407 [(1, s.rd (.hel .routeMidx) j)]
    let lit := s.sampleLit c j
    let pd := s.rd (.hel .routeMtype) j == 1 && s.rd (.hel .routeMidx) j < 6
    let gone := lit && pd && code.isNone
    let s := if gone then s.pdLost c i else if lit && pd then s.modSlot c i fun y => { y with lost := 0 } else s
    let dark := !lit || gone
    let m := if dark then none else s.slotMeas c j (code.getD 0)
    let r := s.evaluateSlot c i m
    let s := match m with | some v => s.wrI (.hel .measM) j v | none => s
    let s := (s.modSlot c i fun y => { y with hist := r.2.1, due := some (wr, r.1) }).wrI (.hel .integI) j r.2.1.i
    let s := (s.wrb (.hel .slotStatDark) j dark).showOpen c i
    if dark then s else
    let n := if r.2.2 then s.hel[c].slots[i].satCount + 1 else 0
    let s := (s.wrb (.hel .slotStatSat) j r.2.2).modSlot c i fun y => { y with satCount := n }
    if max 1 (s.rd (.hel .limitSatlim) j) < n then s.satFault c i r.1 else s

/-- The instants at which the strobe that TSRC selects has reached the slots, since the slot's enable landed (R213). -/
def tsrcStrobes (s : State) (c : Fin 4) (i : Fin 16) : List Nat :=
  let t := s.rd (.hel .trigTsrc) (slotInst c i)
  if t < 12 then s.hel[c].strobes[(Fin.ofNat 12 t : Fin 12)].filter fun r => s.hel[c].slots[i].gridAt ≤ r && r ≤ s.now else []

/-- A trigger of the slot falls at this instant (R213): a tick of its periodic grid, which TMODE 3 restarts at each TSRC strobe, or that strobe
itself. A slot with a reserved TSRC never samples. A tick and a restart in one cycle, and a command that repeats the instant of the last accepted trigger, are one trigger. -/
def slotTriggers (s : State) (c : Fin 4) (i : Fin 16) : Bool :=
  let j := slotInst c i
  let x := s.hel[c].slots[i]
  let tick := fun (g : Nat) => g ≤ s.now && (s.now - g) % max 32 (s.rd (.hel .trigPeriod) j) == 0
  x.lastTrig != some s.now && s.rd (.hel .trigTsrc) j < 12 && match s.rd (.hel .trigTmode) j with
    | 0 => false
    | 1 => tick x.gridAt
    | 2 => (s.tsrcStrobes c i).contains s.now
    | _ => tick (((s.tsrcStrobes c i).head?).getD x.gridAt)

end State

end Sys2Proof.Machine
end

