-- ==== Sys2Proof/Machine/CommitOps.lean ====
section
/-! DEFINITION. The landing of a commit (R12, R140 to R145): which writes land, which fields are refused (R96, R120, R200, R253), and
what the landing changes in the cluster's units. -/

namespace Sys2Proof.Machine

/-- A field of an instance has an entry. -/
def hasEntry (l : List ShadowEntry) (f : Fld) (i : Nat) : Bool := l.any fun e => e.fld = f ∧ e.inst = i

/-- Entries without those of some fields of an instance. -/
def dropEntries (l : List ShadowEntry) (fs : List Fld) (i : Nat) : List ShadowEntry := l.filter fun e => !(fs.contains e.fld && e.inst == i)

/-- The six fields of the occulter's colours, A before B. -/
def occFlds : List Fld := [.frs .occA0Red, .frs .occA0Green, .frs .occA1Blue, .frs .occB0Red, .frs .occB0Green, .frs .occB1Blue]

/-- How far two values lie apart. -/
def apart (a b : Nat) : Nat := max a b - min a b

/-- The unit types of a cluster with their counts. -/
def clusterUnits : List (UType × Nat) :=
  [(.comp, 1), (.layer, 8), (.geo, 1), (.geoCol, 1), (.pln, 1), (.chr, 1), (.lane, 18), (.lamp, 1), (.intlk, 1), (.tsen, 4), (.lsrCh, 6),
    (.cs, 1), (.pwm, 2), (.slot, 16)]

namespace State

/-! ### Refused fields (R444, R446: ascending addresses) -/

/-- LSR_LIT (R200): a channel that is neither a healthy standby nor LIT is refused for its primary. -/
def refuseLit (s : State) (c : Fin 4) (l : List ShadowEntry) (p : Fin 3) : List ShadowEntry × State :=
  let k : Fin 6 := Fin.ofNat 6 (2 * p.val + s.landingVal l (litFld p) c)
  if !hasEntry l (litFld p) c || s.chState c k == 3 || s.healthyStandby c k then (l, s)
  else (dropEntries l [litFld p] c, s.applyErr (Fld.addr (litFld p) c) 4 3)

/-- SCHED_PAGE (R120): a page that is not valid is refused, with event 0x2308. -/
def refuseSched (s : State) (c : Fin 4) (l : List ShadowEntry) : List ShadowEntry × State :=
  let pg := s.landingVal l (.pln .ctrlSchedPage) c
  if pg == s.rd (.pln .ctrlSchedPage) c || s.on (validFld pg) c then (l, s) else
  let why := (s.pic[c].schedFail[(Fin.ofNat 2 pg : Fin 2)]).getD (0xFF, 0xFFFF)
  (dropEntries l [.pln .ctrlSchedPage] c,
    (s.applyErr (Fld.addr (.pln .ctrlSchedPage) c) 4 3).report .pln c 0x2308 [(1, pg), (1, why.1), (2, why.2)])

/-- MESH_PAGE (R96): an incomplete page is refused. -/
def refuseMesh (s : State) (c : Fin 4) (l : List ShadowEntry) : List ShadowEntry × State :=
  let pg := s.landingVal l (.geo .ctrlMeshPage) c
  if pg == s.rd (.geo .ctrlMeshPage) c || !s.pic[c].meshBad[(Fin.ofNat 2 pg : Fin 2)] then (l, s)
  else (dropEntries l [.geo .ctrlMeshPage] c, s.applyErr (Fld.addr (.geo .ctrlMeshPage) c) 4 3)

/-- The occulter's colours (R253): colours that would differ by less than 0x4000 in every primary are refused. -/
def refuseOcc (s : State) (c : Fin 4) (l : List ShadowEntry) : List ShadowEntry × State :=
  let v := occFlds.map fun f => s.landingVal l f c
  let near := (List.range 3).all fun p => decide (apart (v.getD p 0) (v.getD (p + 3) 0) < 0x4000)
  if near && occFlds.any (fun f => hasEntry l f c) then
    (dropEntries l occFlds c, s.applyErr (Fld.addr (.frs .occA0Red) c) 4 3)
  else (l, s)

/-- The entries that land, and the state with the refusals recorded. -/
def refusals (s : State) (c : Fin 4) (l : List ShadowEntry) : List ShadowEntry × State :=
  let r := allPrims.foldl (fun (x : List ShadowEntry × State) p => x.2.refuseLit c x.1 p) (l, s)
  let r := r.2.refuseSched c r.1
  let r := r.2.refuseMesh c r.1
  r.2.refuseOcc c r.1

/-! ### Leases and stamps (R79, R82 to R84, R242) -/

/-- The lease that a layer's fields define; a clone target holds none (R80). -/
def leaseOf (s : State) (c : Fin 4) (k : LayerCfg) (n : Nat) : Option Lease :=
  if k.leases && (s.cloneSrc c).isNone then some { first := k.leaseRange.1, last := k.leaseRange.2, addr := k.addr, lastRead := n - 1 } else none

/-- A commit publishes a host buffer (R79, R242): its production stamp. -/
def publish (s : State) (c : Fin 4) (l : Fin 8) (stamp : Nat) : State :=
  let m := s.rd (.chr .mTimeTime) c
  let s := (s.modLayer c l fun y => { y with stamp := some (if stamp == 0 then m else min stamp m), kept := [] }).dropReaff c l
  if m < stamp then s.report .frsEng 0 0x16C6 [(1, c.val), (1, l.val), (4, satN 32 ((stamp - m) / 25))] else s

/-- A commit ends or replaces a layer's lease (R82, R83): a field of it changed, or the layer leases and holds none, or it holds one that was kept over a
load and its fields define none. -/
def leaseMoves (s : State) (c : Fin 4) (l : Fin 8) (old : LayerCfg) : Bool :=
  let k := s.layerCfg c l
  !(old.sameLease k && s.pic[c].layers[l].lease.isSome == (k.leases && (s.cloneSrc c).isNone))

/-- What a commit of frame n does to the layers (R75, R77, R79, R82 to R84): all leases that end are replaced together, and a layer that comes to another
input has taken no frame of it. `old` gives the fields in force before. -/
def landLayers (s : State) (c : Fin 4) (n : Nat) (old : Fin 8 → LayerCfg) : State :=
  let moved := allLayers.filter fun l => s.leaseMoves c l (old l)
  let s1 := s.endLeases c moved fun l => s.leaseOf c (s.layerCfg c l) n
  let s2 := moved.foldl (fun s l =>
    let k := s.layerCfg c l
    s.modLayer c l fun y =>
      { y with
        stamp := if k.src == 0 then y.stamp else none }) s1
  let s2 := allLayers.foldl (fun s l =>
    let k := s.layerCfg c l
    if k.src != 1 || ((old l).src == 1 && (old l).en && (old l).dpin == k.dpin) then s else
    s.modLayer c l fun y => { y with stamp := none, dpTaken := none, dpPrev := none, dpCounted := 0, lock := none }) s2
  allLayers.foldl (fun s l =>
    let k := s.layerCfg c l
    if s.pic[c].layers[l].lease.isSome && (moved.contains l || (old l).stamp != k.stamp) then s.publish c l k.stamp else s) s2

/-! ### Freshness, light, loops and locking -/

/-- Changes of class, MAXAGE, GRACE and FORCE_EN are recorded (R256), unless this is the first commit after a load; the PIX_LAYER fields of a clone target
have no effect (R81). -/
def landFresh (s old : State) (c : Fin 4) : State :=
  if !s.eph.landed.contains c.val then s else
  let s := allLayers.foldl (fun s l =>
    let i := layerInst c l
    let note := fun (s : State) (f : Fld) =>
      if old.rd f i == s.rd f i then s else s.report .frsEng 0 0x16C7 [(1, c.val), (1, l.val), (2, old.rd f i), (2, s.rd f i)]
    note (if (s.cloneSrc c).isSome then s else note s (.pix .layerCfgClass)) (.frs .maxageMaxage)) s
  let g := fun (x : State) => x.rd (.frs .ctrlGrace) c
  let s := if g old == g s then s else s.report .frsEng 0 0x16C7 [(1, c.val), (1, 0xFF), (2, g old), (2, g s)]
  if old.on (.frs .ctrlForceEn) c == s.on (.frs .ctrlForceEn) c then s else
  s.report .frsEng 0 0x16C8 [(1, c.val), (2, s.rd (.frs .force0Col0) c), (2, s.rd (.frs .force0Row0) c), (2, s.rd (.frs .force1Ncols) c),
    (2, s.rd (.frs .force1Nrows) c), (1, s.rd (.frs .ctrlForceEn) c)]

/-- A channel's enable lands (R200): STANDBY, or OFF, with the patterns of R182 again where a search had others under test. -/
def landChannel (s old : State) (c : Fin 4) (k : Fin 6) : State :=
  let i := chanInst c k
  let was := old.on (.lsr .chCtrlEn) i
  let is := s.on (.lsr .chCtrlEn) i
  if was == is then s
  else if is then (s.setCh c k 2 0).modChan c k fun x => { x with diagPassed := true }
  else
    let s := s.violate 8 fun t j q => (t == 5 || t == 6) && j == k.val && q == c.val
    let searched := s.light[c].chans[k].search.isSome
    let s := (s.setLen c k false).modChan c k fun x => { x with search := none, waitDiag := false }
    let w := s.bypassBad c k
    let s := if searched then s.wantPatterns c k w.1 w.2 else s
    let p := primOf k
    let s := if s.light[c].nextLit[p] == some k.val then s.modLight c fun l => { l with nextLit := l.nextLit.set p none } else s
    s.setCh c k 1 0

/-- A changed LSR_LIT selects its bank from the first G of frame n (R200). -/
def landLit (s old : State) (c : Fin 4) (n : Nat) (p : Fin 3) : State :=
  let k : Fin 6 := Fin.ofNat 6 (2 * p.val + s.rd (litFld p) c)
  if old.rd (litFld p) c == s.rd (litFld p) c || s.chState c k == 3 then s else
  s.modLight c fun l => { l with nextLit := l.nextLit.set p (some k.val), litFrom := l.litFrom.set p n, failover := l.failover.set p false }

/-- A slot's enable, INIT, SAFE and ILOAD land (R225, R229): the value that stands at the destinations, INIT before the first accepted sample and SAFE of
a disabled or FATAL slot, follows its register. -/
def landSlot (s old : State) (c : Fin 4) (i : Fin 16) : State :=
  let j := slotInst c i
  let was := old.on (.hel .slotCtrlEn) j
  let is := s.on (.hel .slotCtrlEn) j
  let s := if is && !was then s.enableSlot c i
    else if was && !is then s.writeSafe c i
    else if is && !s.unitFatal .slot j then
      if s.hel[c].slots[i].sampled || old.rd (.hel .initInit) j == s.rd (.hel .initInit) j then s else s.writeOut c i (s.rdI (.hel .initInit) j)
    else if old.rd (.hel .safeSafe) j == s.rd (.hel .safeSafe) j then s else s.writeSafe c i
  if !s.on (.hel .slotCtrlIload) j then s else
  ((s.wr (.hel .slotCtrlIload) j 0).loadInit c i).clearSatfault c i

/-- A changed lock source (R146, R148): the lock is lost with cause 3, and locking to the new reference starts at the next frame. -/
def landLock (s old : State) (c : Fin 4) : State :=
  let same := fun (f : Fld) => old.rd f c == s.rd f c
  if same (.chr .lockSrc) && same (.chr .lockDpin) then s else
  ((s.lockLost c 3).wakeHeld c 7).modChr c fun k => { k with lostAt := none }

/-! ### Units (R15, R16, R20, R39, R144, R263) -/

/-- Stopped units whose FATAL is clear restart with the commit (R16). -/
def restartUnits (s : State) (c : Fin 4) : State :=
  { s with stopped := s.stopped.filter fun u => !(unitCluster u.1 u.2 == c.val && !s.unitFatal u.1 u.2) }

/-- A unit of a cluster has FATAL = 1. -/
def anyFatal (s : State) (c : Fin 4) : Bool :=
  clusterUnits.any fun u => (List.range u.2).any fun i => s.unitFatal u.1 (c.val * u.2 + i)

/-- The freshness engine serves the cluster again from its commit (R263); its chain restarts (R261). -/
def restartEngine (s : State) (c : Fin 4) : State :=
  if s.pic[c].engineOff && !s.unitFatal .frsEng 0 then s.modPic c fun p => { p with engineOff := false, genesis := true } else s

/-- A darkened output restarts black with a start fade (R39, R185). -/
def restartOutput (s : State) (c : Fin 4) (n : Nat) : State :=
  if !s.light[c].darkened || s.anyFatal c || !s.on (.pln .ctrlEn) c || !s.on (.chr .ctrlEn) c || !s.on (.tri .ctrlEn) c
      || (s.workingLanes c).length < s.lanesNeeded c || !bit (s.rd (.pwr .pllLock) 0) (3 + c.val / 2) then s else
  let s := (s.modLight c fun l => { l with darkened := false }).modPic c fun p => { p with noContentStart := true }
  (s.startFade c .start).report .cluster c 0x1043 [(4, n)]

/-! ### The landing -/

/-- The register writes that made a list of shadow entries: a write makes one entry for each Meridian field of its register, of which
the lowest is counted (R141). -/
def writesOf (l : List ShadowEntry) : Nat :=
  l.countP fun e => l.all fun x => x.fld.addr x.inst != e.fld.addr e.inst || e.fld.info.lo ≤ x.fld.info.lo

/-- Writes that arrived in the guard stay for the next commit (R141). -/
def lateWrites (s : State) (c : Fin 4) (n : Nat) (late : List ShadowEntry) : State :=
  let s := s.wrb (.chr .commitFlagsLatewr) c (!late.isEmpty)
  match late.getLast? with
  | none => s
  | some e => (s.bumpBy (.chr .commitFlagsLatewrCnt) c (writesOf late)).report .chr c 0x1341 [(4, e.fld.addr e.inst), (4, n)]

/-- The armed set of a coherent commit loses a cluster that has landed; the last one completes it (R408). -/
def coherentLanded (s : State) (c : Fin 4) : State :=
  if !s.chn.armed.contains c.val || s.chr[c].coherentGo.isNone then s else
  let left := s.chn.armed.filter fun x => x != c.val
  let s := s.setArmed left
  if left.isEmpty then (s.wr (.chn .ccOutcome) 0 1).report .chn 0 0x1146 [(1, s.chn.armId), (4, s.rd (.chn .ccFrameF) 0)] else s

/-- What CHR_COMMIT_STAT, the flags and the events say of a landing in frame n (R140, R143). -/
def recordLanding (s : State) (c : Fin 4) (n : Nat) : State :=
  let k := s.chr[c]
  let s := ((s.wr (.chr .commitReq) c 0).wr (.chr .commitStatFrame) c n).wr (.chr .commitTimeTime) c (s.rd (.chr .mTimeTime) c)
  let s := ((s.wrb (.chr .commitFlagsLate) c k.late).wrb (.chr .commitFlagsWaited) c k.waited).wr (.chr .commitFlagsCancelled) c 0
  let s := match k.reqFrame with
    | some f => s.report .geo c 0x1282 [(4, f), (4, n)]
    | none => s
  let s := if s.on (.chr .commitNotify) c then s.report .chr c 0x1347 [(4, n), (1, b2n k.late), (1, b2n k.waited)] else s
  (s.signalCluster c 8 (.pci .vecEnCommit)).modChr c fun k => { k with coherentGo := none, reqFrame := none, late := false, waited := false }

/-- A mesh page with clamped entries comes into use (R94). -/
def meshTaken (s old : State) (c : Fin 4) : State :=
  let pg := s.rd (.geo .ctrlMeshPage) c
  let n := s.pic[c].meshClamps[(Fin.ofNat 2 pg : Fin 2)]
  if pg == old.rd (.geo .ctrlMeshPage) c || n == 0 then s else s.report .geo c 0x1281 [(1, pg), (4, n)]

/-- Inputs routed to the cluster see HPD high from the first commit after the load (R72). -/
def raiseHpd (s : State) (c : Fin 4) : State :=
  if s.eph.landed.contains c.val then s else
  ([0, 1, 2, 3] : List (Fin 4)).foldl (fun s (i : Fin 4) =>
    if s.dp[i].routed && !s.on (.dpr .linkHpd) i then (s.wr (.dpr .linkHpd) i 1).emit (.hpd i true) else s) s

/-- A commit of a cluster takes effect in frame n at the present instant (R12, R140). `first` says that the chronograph starts with it
(R144). -/
def landCommit (s : State) (c : Fin 4) (n : Nat) (first : Bool) : State :=
  let due := s.dueEntries c first
  let late := if first then [] else (s.shadowOf c).filter fun e => inGuard s.now e.at'
  let old := s
  let r := s.refusals c due
  let s := r.2
  let s := { s with shadow := s.shadow.filter fun e => !(addrCluster (e.fld.addr e.inst) == some c.val) || (!first && inGuard s.now e.at') }
  let s := r.1.reverse.foldl (fun s e => s.wr e.fld e.inst e.val) s
  let s := s.lateWrites c n late
  let s := (s.restartUnits c).restartEngine c
  let s := s.landLayers c n fun l => old.layerCfg c l
  let s := ([0, 1, 2, 3] : List (Fin 4)).foldl (fun s i => s.showCover i) s
  let s := s.landFresh old c
  let s := allChans.foldl (fun s k => s.landChannel old c k) s
  let s := allPrims.foldl (fun s p => s.landLit old c n p) s
  let s := if old.rd (.lsr .dimDim) c == s.rd (.lsr .dimDim) c then s else s.dimChanged c
  let s := allSlots.foldl (fun s i => s.landSlot old c i) s
  let s := (s.landLock old c).meshTaken old c
  let s := ((s.coherentLanded c).recordLanding c n).swapLanded c n
  let s := (s.raiseHpd c).firstLanding c
  let s := s.restartOutput c n
  let s := if old.on (.pln .ctrlEn) c && !s.on (.pln .ctrlEn) c then s.darken c false .pln c 0 else s
  if old.on (.tri .ctrlEn) c && !s.on (.tri .ctrlEn) c then s.darken c false .lane (18 * c.val + 17) 0 else s

/-- Whether the pending commit of a cluster lands at this meridian (R140, R143, R414), and the state with what that notes. -/
def commitLands (s : State) (c : Fin 4) (n : Nat) : Bool × State :=
  let k := s.chr[c]
  if !s.on (.chr .commitReq) c then (false, s)
  else if inGuard s.now k.reqAt && !k.late then (false, s.modChr c fun k => { k with late := true })
  else if s.on (.chr .commitMode) c && !(match k.coherentGo with | some e => decide (e ≤ s.now) | none => false) then
    (false, s.modChr c fun k => { k with waited := true })
  else
    if s.meshWaits c false then (false, s.modChr c fun k => { k with waited := true, reqFrame := k.reqFrame <|> some n })
    else s.pairAllows c s.now

end State

end Sys2Proof.Machine
end

