-- ==== Sys2Proof/Machine/MeridianOps.lean ====
section
/-! DEFINITION. The meridian (R133 to R135): fallback entry (R284, R290), the schedule of the frame (R121), layers taking their frames
(R77, R243, R246), composition, and the conditions of held picture (R149). -/

namespace Sys2Proof.Machine
namespace State

/-! ### Frame numbers and time (R135) -/

/-- What the wall time in ticks, as M_TIME takes it, is so many CCLK from now (R135). -/
def wallAfter (s : State) (d : Int) : Nat :=
  if s.on (.chn .wtStatValid) 0 then ((s.wall512 + 8 * d) / 512).toNat else (((s.now : Int) - s.pwr.startAt + d) / 64).toNat

/-- The next meridian is expected at an instant in CCLK (R133, R135). -/
def expectMeridian (s : State) (c : Fin 4) (m : Nat) : State :=
  (s.modChr c fun k => { k with nextM := m }).wr (.chr .nextMTime) c (s.wallAfter ((m : Int) - s.now))

/-- The meridian's own marks: FRAME, M_TIME, NEXT_M, the MRD strobe and its vector (R135, R139, R380). -/
def countMeridian (s : State) (c : Fin 4) : State :=
  let s := (s.wr (.chr .frameFrame) c (s.rd (.chr .frameFrame) c + 1)).wr (.chr .mTimeTime) c s.wall
  let s := s.modChr c fun k => { k with lastM := s.now, meridians := k.meridians + 1 }
  let s := s.expectMeridian c (((s.now + s.cfg[c].period : Nat) : Int) + s.chr[c].adj).toNat
  (s.strobe c 0 0 s.now).signalCluster c 4 (.pci .vecEnMrd)

/-! ### The fallback path (R284, R290) -/

/-- The first meridian at least 64 PCLK after a freeze takes the cluster onto the fallback path, with the designated layer's position, class and
MAXAGE in force there (R90, R145, R286). A region that start-up left in FALLBACK has no instant of a freeze: its clusters are on the path from
their first meridian, with the schedule page in force there (R291). -/
def enterFallback (s : State) (c : Fin 4) : State :=
  let frz := s.mem.regions[regionOf c].freezeAt
  let due := match frz with | some a => decide (a + 128 ≤ s.now) | none => true
  if s.mem.fallback[c] || !s.regionStopped (regionOf c).val || !due then s else
  let l := s.fbLayer c
  let k := s.layerCfg c l
  s.modMem fun m =>
    { m with
      fallback := m.fallback.set c true
      fbHold := m.fbHold.set c
        { page := if frz.isSome then m.fbHold[c].page else s.rd (.pln .ctrlSchedPage) c
          scheds := if frz.isSome then m.fbHold[c].scheds else s.pageScheds c (s.rd (.pln .ctrlSchedPage) c)
          x := k.x, y := k.y, cls := k.cls, maxage := s.maxAge c l } }

/-- A commit lands in a READY region: the cluster leaves the fallback path, and with the last enabled one STATE reads NORMAL. -/
def leaveFallback (s : State) (c : Fin 4) : State :=
  let r := regionOf c
  if !s.mem.fallback[c] || s.rd (.hbm .rgnStatState) r != 3 then s else
  let s := s.modMem fun m => { m with fallback := m.fallback.set c false }
  if (s.regionClusters r).any fun (x : Fin 4) => s.mem.fallback[x] then s else s.wr (.hbm .rgnStatState) r 0

/-! ### The schedule of a frame (R120 to R124) -/

/-- The record of the frame before the one that begins. -/
def priorRec (s : State) (c : Fin 4) : Option FrameRec := s.pic[c].frames.getLast? <|> s.pic[c].replay

/-- Schedule selection for the frame that begins (R121): KIND, the schedule and its page, and TCAUSE. The fallback path keeps the schedules of before
the freeze, whatever a swap writes over them meanwhile (R60). -/
def chooseSchedule (s : State) (c : Fin 4) : Nat × Schedule × Nat × Nat :=
  let fb := s.mem.fallback[c]
  let tc := s.tonlyCauses c
  let pg := if fb then s.mem.fbHold[c].page else s.rd (.pln .ctrlSchedPage) c
  let sch := fun (k : Nat) => if fb then s.mem.fbHold[c].scheds.getD k (s.schedOf c pg k) else s.schedOf c pg k
  let red := s.on (.tri .stateRreq) c || s.on (.pln .ctrlForceReduced) c
  let kind := if fb then 3 else if red && (sch 2).hdr.nent != 0 then 2 else if tc != 0 then 1 else 0
  (kind, sch (if kind == 3 then 1 else kind), pg, tc + 8 * b2n fb)

/-- What selection shows and reports (R121, R122, R124) in frame n: kind 1 is left, and reduced rate has ended, at the first meridian at which no condition
for it holds, by whatever path the schedule left that kind. -/
def showSchedule (s : State) (c : Fin 4) (n kind : Nat) (sch : Schedule) (pg tcause : Nat) : State :=
  let was := ((s.priorRec c).map (·.skind)).getD 0
  let red := s.on (.tri .stateRreq) c || s.on (.pln .ctrlForceReduced) c
  let s := (s.wr (.pln .stateTcause) c tcause).wr (.pln .stateRreq) c (s.rd (.tri .stateRreq) c)
  let s := (s.wrb (.pln .stateNored) c ((red || s.lanesShort c) && (s.schedOf c pg 2).hdr.nent == 0)).wr (.pln .frameFrame) c n
  let s := if kind == 1 then s.bump (.pln .modeCntTonly) c else s
  let s := if kind == 1 && was != 1 then s.report .pln c 0x2301 [(1, tcause), (4, n)] else s
  let s := if kind == 1 then s.modChr c fun k => { k with tonly := true }
    else if s.chr[c].tonly && tcause % 8 == 0 then (s.modChr c fun k => { k with tonly := false }).report .pln c 0x1302 [(4, n)]
    else s
  if kind == 2 && !s.chr[c].reduced then
    (s.modChr c fun k => { k with reduced := true }).report .pln c 0x2306 [(4, sch.hdr.minlanes), (4, n)]
  else if !red && s.chr[c].reduced then
    (s.modChr c fun k => { k with reduced := false }).report .pln c 0x1307 [(4, n)]
  else s

/-! ### Layers -/

/-- A DisplayPort layer takes its input's frame (R77, R78): REPEAT, DROP, the stamp and the buffer lock. Serial numbers
are consecutive, so those between are the frames that the layer never took; a layer wholly outside the output reads nothing (R64). -/
def takeDpFrame (s : State) (c : Fin 4) (l : Fin 8) (i : Fin 4) (f : DpFrame) : State :=
  let j := layerInst c l
  let s := match s.pic[c].layers[l].dpTaken with
    | some x => if x == f.serial then s.bump (.pix .layerCntRepeat) j
        else s.bumpBy (.pix .layerCntDrop) j (f.serial - 1 - max x s.pic[c].layers[l].dpCounted)
    | none => s
  s.modLayer c l fun y =>
    { y with
      dpTaken := some f.serial
      dpCounted := max y.dpCounted (f.serial - 1)
      stamp := some f.stamp
      lock := if s.layerShows c (s.layerCfg c l) then some (i.val, f.buf) else none }

/-- An aging layer whose input is in PSR with its link up counts as reaffirmed at this meridian (R246). DESIGN CHOICE (log entry 131): not while its
buffer lies in a region that issues no reads, since R24 has such a layer's tiles age. -/
def psrReaffirm (s : State) (c : Fin 4) (l : Fin 8) (i : Nat) : State :=
  if s.inputInPsr i && (s.mem.fallback[c] || !s.layerFrozen c l) then s.modLayer c l fun y => { y with reaff := s.rd (.chr .mTimeTime) c } else s

/-- What the layers showed in the frame before is kept, before a commit lands (R88). -/
def rememberLayers (s : State) (c : Fin 4) : State :=
  allLayers.foldl (fun s l => s.modLayer c l fun y =>
    { y with imgPrev := y.img, stampPrev := y.stamp, keptPrev := y.kept, dpPrev := y.dpTaken }) s

/-- A layer begins its fetch for frame n (R64, R66, R77, R82, R85). A DisplayPort buffer in a region that issues no reads is not taken (R24,
R285). -/
def beginLayer (s : State) (c : Fin 4) (l : Fin 8) (n : Nat) : State :=
  let k := s.layerCfg c l
  let s := s.modLayer c l fun y => { y with kept := [] }
  let up := k.en && !s.fetcherDown c l
  let fr := if k.src == 1 && !s.layerFrozen c l then s.dpFrameAt k.dpin s.now else none
  let s := match fr with
    | some f => if up then s.takeDpFrame c l k.dpin f else s
    | none => s
  let s := if k.src == 1 && k.en then s.psrReaffirm c l k.dpin.val else s
  let reads := up && k.src != 2 && s.layerShows c k
  let s := if !reads || s.layerFrozen c l || (s.cachedCopy c l).isSome then s
    else match k.src, fr with
      | 0, _ => s.request k.leaseRange.1 (k.leaseRange.2 + 1 - k.leaseRange.1)
      | _, some f => s.request (s.dpBuffer k.dpin f) (4 * f.w * f.h)
      | _, none => s
  let img := s.fetchLayer c l fr
  s.modLayer c l fun y =>
    { y with img := img, window := reads, lease := if up then y.lease.map fun e => { e with lastRead := max e.lastRead n } else y.lease }

/-- A static layer that fits spare plate space is copied there by its fetcher in the frame that it reads (R294); a layer that fetches nothing (R64) or
whose range holds a poisoned burst is not copied. DESIGN CHOICE (log entry 129): the copy takes the lowest free blocks of the cluster's region. -/
def fillCache (s : State) (c : Fin 4) (l : Fin 8) : State :=
  let k := s.layerCfg c l
  match s.pic[c].layers[l].lease with
  | none => s
  | some le =>
    let r := regionOf c
    let n := (le.last + 1 - le.first + 2 ^ 16 - 1) / 2 ^ 16
    if k.cls != 2 || !s.pic[c].layers[l].window || s.mem.cache.any (fun x => x.c == c.val && x.l == l.val) || s.layerFrozen c l
        || s.mem.poisoned.any (fun b => le.first < 32 * b + 32 && 32 * b ≤ le.last) then s
    else
      let free := s.freeBlocks r
      if free.length < n then s else
      let copy : CacheCopy :=
        { c := c.val, l := l.val, first := le.first, last := le.last, blocks := free.take n, since := s.lastFrame c,
          cells := s.hbm.filter fun x => le.first ≤ x.1 && x.1 ≤ le.last }
      (s.modMem fun m =>
        { m with cache := m.cache ++ [copy], badPlate := m.badPlate.filter fun w => !copy.blocks.contains (8 * w / 2 ^ 16) }).showCache r

/-- A word of a copy that fails parity as the layer reads it drops the copy, and the layer is read from HBM in this frame (R295). -/
def checkCopy (s : State) (c : Fin 4) (l : Fin 8) : State :=
  match s.cachedCopy c l with
  | none => s
  | some x =>
    let bad := s.mem.badPlate.filter fun w => x.blocks.contains (8 * w / 2 ^ 16)
    if bad.isEmpty then s else
    (bad.foldl (fun s w => s.plateError (8 * w)) s).dropCopies fun y => y.c == x.c && y.l == x.l

/-- Pending whole-layer reaffirmations that arrived 64 PCLK or more before the meridian take effect (R243). -/
def applyPending (s : State) (c : Fin 4) : State :=
  let due := fun (p : PendingReaffirm) => decide (p.arrived + 128 ≤ s.now)
  allLayers.foldl (fun s l =>
    let ps := s.pic[c].layers[l].pendReaff
    (ps.filter due).foldl (fun s p => s.applyLayerReaff c l p.time) (s.modLayer c l fun y => { y with pendReaff := ps.filter fun p => !due p })) s

/-- DisplayPort layers whose input is in PSR are reaffirmed at a meridian at which no frame is composed (R246). -/
def psrLayers (s : State) (c : Fin 4) : State :=
  if (s.cloneSrc c).isSome || s.mem.fallback[c] then s else
  allLayers.foldl (fun s l => let k := s.layerCfg c l; if k.src == 1 && k.en then s.psrReaffirm c l k.dpin.val else s) s

/-- The reaffirmations of a meridian (R243, R244), and a list queued in held picture at the wake whenever it was read (R255). -/
def applyReaffirms (s : State) (c : Fin 4) : State :=
  let s := s.applyPending c
  let queued := s.on (.frs .reaffirmStatQueued) c
  let ripe := fun (x : TileList) => x.tiles.isSome && (queued || decide (x.readAt + 128 ≤ s.now))
  let ls := s.pic[c].lists
  let s := s.modPic c fun p => { p with lists := ls.filter fun x => !ripe x }
  ((ls.filter ripe).foldl (fun s x => s.applyTileList c x) s).wr (.frs .reaffirmStatQueued) c 0

/-- Layers take their frames for frame n; on the fallback path only the designated layer's input counts as reaffirmed (R90, R246,
R287). -/
def beginLayers (s : State) (c : Fin 4) (n : Nat) : State :=
  if (s.cloneSrc c).isSome then s
  else if s.mem.fallback[c] then
    let s := allLayers.foldl (fun s l => s.modLayer c l fun y => { y with window := false, lock := none }) s
    if s.on (.plt .fbCfgKind) (fbInst c) then s else s.psrReaffirm c (s.fbLayer c) (s.rd (.plt .fbCfgDpin) (fbInst c))
  else allLayers.foldl (fun s l => ((s.checkCopy c l).beginLayer c l n).fillCache c l) s

/-- Bursts that a layer's fetch reads, within the part of its crop that the output shows (R64, R65), and that are poisoned: they fail their check
(R268, R270). Of a DisplayPort buffer the first one ends the read, since the layer repeats its previous frame (R88). -/
def layerBursts (s : State) (c : Fin 4) (l : Fin 8) : List Nat :=
  let k := s.layerCfg c l
  let r := s.layerRect c k
  let x0 := k.cx + (r.x0 - k.x).toNat
  let y0 := k.cy + (r.y0 - k.y).toNat
  let n := (r.x1 + 1 - r.x0).toNat
  let rows := (List.range (r.y1 + 1 - r.y0).toNat).map (· + y0)
  if !k.en || s.fetcherDown c l || !s.layerShows c k || s.layerFrozen c l || (s.cachedCopy c l).isSome then [] else
  match k.src, s.pic[c].layers[l].dpTaken.bind fun t => s.dp[k.dpin].frames.find? fun f => f.serial == t with
  | 0, _ => (rows.flatMap fun y => burstsOf (k.addr + y * k.stride + x0 * fmtBytes k.fmt) (n * fmtBytes k.fmt)).eraseDups.filter
      s.mem.poisoned.contains
  | 1, some f =>
    ((rows.filter fun y => y < f.h).flatMap fun y => burstsOf (s.dpBuffer k.dpin f + (y * f.w + x0) * 4) (4 * min n (f.w - x0))).eraseDups.filter
      s.mem.poisoned.contains |>.take 1
  | _, _ => []

/-- The reads of the frame that meet poisoned bursts (R88). -/
def poisonedReads (s : State) (c : Fin 4) : State :=
  if s.mem.fallback[c] || (s.cloneSrc c).isSome || s.mem.poisoned.isEmpty then s else
  allLayers.foldl (fun s l => (s.layerBursts c l).foldl (fun s b =>
    (s.detectionError (32 * b) 2 (s.srcPath .layer (layerInst c l) 0xFF)).layerReadError c l (32 * b)) s) s

/-! ### Colour (R99, R100) -/

/-- The outputs of the slots routed to the primaries at a meridian, before its commit lands (R100): a slot write in the meridian's PCLK cycle or
later counts for the next one. -/
def corrAt (s : State) (c : Fin 4) : List Nat :=
  allPrims.map fun p =>
    match allSlots.find? fun i => !s.unitAbsent .slot (slotInst c i) && (s.slotDests (slotInst c i)).contains (5, p.val) with
    | some i => if s.hel[c].slots[i].outAt / 2 == s.now / 2 then unsigned 32 s.hel[c].slots[i].outPrev else s.rd (.hel .outU) (slotInst c i)
    | none => 0

/-- GEO_MTX_CORR latches the values of a meridian (R100). -/
def latchCorr (s : State) (c : Fin 4) (vs : List Nat) : State :=
  allPrims.foldl (fun s p => s.wr (.geo .mtxCorrCorr) (c.val * 3 + p.val) (vs.getD p.val 0)) s

/-- Saturated coefficients of the frame (R99). -/
def countSaturated (s : State) (c : Fin 4) (n : Nat) : State :=
  if !s.on (.geo .ctrlMtxEn) c then s.wr (.geo .colClipSat) c 0 else
  let sat := (List.range 9).filter fun i => (s.mtxAt c (i / 3) (i % 3)).2
  let s := s.wr (.geo .colClipSat) c sat.length
  sat.foldl (fun s i => s.report .geoCol c 0x12C1 [(1, i / 3), (1, i % 3), (4, n)]) s

/-! ### Composition -/

/-- The tile table has an entry per tile. -/
def ensureTiles (s : State) (c : Fin 4) : State :=
  if s.pic[c].tiles.length == s.tileCount c then s
  else s.modPic c fun p => { p with tiles := List.replicate (s.tileCount c) Tile.reset }

/-- The units of the pixel path run; a clone target composes nothing itself (R80). -/
def pathRuns (s : State) (c : Fin 4) : Bool :=
  ((s.cloneSrc c).isSome || s.unitRun .comp c) && s.unitRun .geo c && s.unitRun .geoCol c && s.unitRun .pln c

/-- The rows of a frame's plate copy are written anew, so that bad words there do not persist (R295). -/
def rewritePlate (s : State) (c : Fin 4) : State :=
  let base := c.val / 2 * 2 ^ 26 + s.rd (.geo .plateBaseBase) c * 64
  let pitch := s.rd (.geo .platePitchPitch) c * 64
  let mine := fun (w : Nat) => (List.range s.cfg[c].h).any fun y => base + y * pitch ≤ 8 * w && 8 * w < base + y * pitch + 3 * s.cfg[c].w
  if s.mem.badPlate.isEmpty then s else s.modMem fun m => { m with badPlate := m.badPlate.filter fun w => !mine w }

/-- Composition-lite meets bad words of its buffer (R295): the pixels stand as read, and the tiles that show them are torn. -/
def fbBadWords (s : State) (c : Fin 4) : State :=
  if !s.mem.fallback[c] || (s.cloneSrc c).isSome then s else
  let wh := s.fbSize c
  let bad := s.mem.badPlate.filter fun w => (List.range wh.2).any fun y =>
    s.fbAddr c 0 y < 8 * w + 8 && 8 * w < s.fbAddr c 0 y + wh.1 * s.fbBpp c
  bad.foldl (fun s w => (s.plateError (8 * w)).flagBy c (s.lastFrame c) .torn (s.tilesOfBytes c (s.fbCfg c) (8 * w) (8 * w + 7)) .bank (8 * w / 2 ^ 23)) s

/-- Frame n is composed (R64, R91, R105, R257). -/
def composeFrame (s : State) (c : Fin 4) (n : Nat) : State :=
  if !s.pathRuns c then s else
  let s := (s.rewritePlate c).fbBadWords c
  let s := s.modPic c fun p =>
    { p with composedPrev := p.composed, composedPrevNum := p.composedNum, composedNum := n, composedAt := s.now, wordsHit := [],
             tiles := p.tiles.map fun t => { t with crcs := t.crcs.headD 0 :: t.crcs.take 2 } }
  ((s.recompose c (s.prevCrcs c)).poisonedReads c).judgeWords c

/-- An enabled layer, or the fallback source, has content (R144, R250). -/
def hasContent (s : State) (c : Fin 4) : Bool := (s.sources ((s.cloneSrc c).getD c)).any fun e => !e.lacking

/-- The record of the frame that begins (R248, R258). -/
def newRec (s : State) (c : Fin 4) (n kind : Nat) (sch : Schedule) (page tcause : Nat) : FrameRec :=
  { num := n, mtime := s.rd (.chr .mTimeTime) c, mclk := s.now, kind := if s.mem.fallback[c] then .fallback else .composed, skind := kind,
    sched := sch, page := page, marked := [], stale := [], crcs := [], flags := ⟨[], [], []⟩, forced := s.on (.frs .ctrlForceEn) c,
    lightoff := s.on (.lsr .outLightoff) c, asupp := false, dark := s.light[c].darkened, cleared := tcause % 8 == 0, dim := 0, badBands := [],
    placeBase := s.tri[c].nextPlace }

/-- Frame n of a running pixel path from its meridian (R121, R133, R251), with the loop outputs that the meridian latched: schedule, layers, matrix correction, tiles and composition. -/
def runFrame (s : State) (c : Fin 4) (n : Nat) (corr : List Nat) : State :=
  let x := s.chooseSchedule c
  let s := (s.showSchedule c n x.1 x.2.1 x.2.2.1 x.2.2.2).ensureTiles c
  let s := ((s.beginLayers c n).latchCorr c corr).countSaturated c n
  let s := s.modPic c fun p => { p with frames := p.frames ++ [s.newRec c n x.1 x.2.1 x.2.2.1 x.2.2.2] }
  let s := s.modTri c fun t => { t with nextPlace := t.nextPlace + placesTaken x.2.1 }
  let s := if s.pic[c].noContentStart && s.hasContent c then s.modPic c fun p => { p with noContentStart := false } else s
  let e := s.evaluateTiles c
  let s := e.2.2.modFrame c n fun f => { f with marked := e.1, stale := e.2.1 }
  let s := s.applyMap c n
  let s := if s.role == 1 then s.sendTransit 5 (c.val :: n :: ((s.frameRec c n).map (·.marked)).getD []) else s
  let s := (s.composeFrame c n).fadeStep c
  s.modFrame c n fun f => { f with dim := s.dimEff c }

/-! ### Held picture (R149 to R152) -/

/-- Every host-buffer layer of an aging class counts as reaffirmed at this meridian (R149, R247). -/
def hostReaffirmed (s : State) (c : Fin 4) : Bool :=
  let q := (s.cloneSrc c).getD c
  allLayers.all fun l =>
    let k := s.layerCfg q l
    !k.en || k.src != 0 || k.cls == 2 || s.layerReaffirmed q l (s.rd (.chr .mTimeTime) q)

/-- Every DisplayPort input routed to the cluster is in PSR or PSR2. -/
def inputsQuiet (s : State) (c : Fin 4) : Bool :=
  allLayers.all fun l => let k := s.layerCfg ((s.cloneSrc c).getD c) l; k.src != 1 || s.rd (.dpr .linkPsr) k.dpin != 0

/-- No tile becomes stale within the wake time of 0.3 ms (R149, R153). -/
def noDeadlineNear (s : State) (c : Fin 4) : Bool :=
  match s.deadline c s.wall with
  | some d => decide (s.wall + 7500 < d)
  | none => true

/-- The conditions of R149 at M(n), once no commit has landed there and the reaffirmations due have taken effect. R168 adds that IDENT1 of the array
says REPLAY. DESIGN CHOICE: an output that is darkened, whose pixel path does not run, or whose frame before is not a composed one does not
enter (log entry 108). -/
def mayHold (s : State) (c : Fin 4) (n : Nat) : Bool :=
  match s.priorRec c with
  | none => false
  | some f =>
    s.on (.chr .heldAllow) c && s.heldPermit[c] && s.cfg[c].replay && s.on (.tri .arrayCfgReplay) c && planeCount f.sched.hdr ≤ s.cfg[c].cache && f.skind ≤ 1
    && !s.mem.fallback[c] && !s.on (.pln .stateAsupp) c && !s.on (.chr .commitReq) c && s.rd (.chr .commitStatFrame) c + 1 < n
    && s.inputsQuiet c && s.hostReaffirmed c && s.light[c].fade.isNone && (s.lockSrc c == 0 || s.on (.chr .lockLocked) c || s.runsFree c)
    && s.noDeadlineNear c && !s.light[c].darkened && s.pathRuns c && f.kind == .composed

/-- The chronograph enters held picture at M(m) (R150): frame m is not composed, and PD26 + c and PD30 + c go off. -/
def enterHeld (s : State) (c : Fin 4) (m : Nat) : State :=
  let s := s.psrLayers c
  let d := s.deadline c s.wall
  let h : HeldState := { entry := m, mtime := s.rd (.chr .mTimeTime) c, deadline := d.map s.tickCclk, wake := none, fresh := none, dims := [] }
  let s := (s.modChr c fun k => { k with held := some h }).modPic c fun p => { p with replay := p.frames.getLast?, heldFlags := ⟨[], [], []⟩ }
  let s := (((s.wr (.chr .heldPend) c 1).wr (.chr .heldWake) c 0).bump (.chr .heldCntEntries) c).showDeadline c d
  let s := s.modHel c fun h => { h with slots := Vector.ofFn fun (i : Fin 16) => { h.slots[i] with heldOut := s.rdI (.hel .outU) (slotInst c i) } }
  s.keepDomains (2 ^ 64 - 1 - 2 ^ (26 + c.val) - 2 ^ (30 + c.val))

/-- Flags that arose in replay take effect before the first fresh meridian (R255): PERSIST, and TORN and RFAIL of the tiles. -/
def applyHeldFlags (s : State) (c : Fin 4) : State :=
  let f := s.pic[c].heldFlags
  s.modPic c fun p =>
    { p with
      heldFlags := ⟨[], [], []⟩
      tiles := (p.tiles.zipIdx).map fun x =>
        if f.torn.contains x.2 || f.rfail.contains x.2 then
          { x.1 with persist := min 16 (x.1.persist + 1), torn := f.torn.contains x.2, rfail := f.rfail.contains x.2 }
        else x.1 }

end State

end Sys2Proof.Machine
end

