-- ==== Sys2Proof/Machine/SampleOps.lean ====
section
/-! DEFINITION. Samples of the plate archive: what the encoder takes of a frame (R342 to R347, R349), and the records that it becomes
when the frame closes. -/

namespace Sys2Proof.Machine

/-- Entries gathered into parts of at most so many bytes. -/
def partsOf (cap : Nat) : List (List Nat) → List (List Nat) → Nat → List (List (List Nat))
  | [], cur, _ => [cur.reverse]
  | e :: es, cur, n =>
    if cur.isEmpty || n + e.length ≤ cap then partsOf cap es (e :: cur) (n + e.length) else cur.reverse :: partsOf cap es [e] e.length

/-- The entries at the front that fit in so many bytes. -/
def fitEntries : Nat → List (Nat × List Nat) → List (Nat × List Nat)
  | _, [] => []
  | n, e :: es => if e.2.length ≤ n then e :: fitEntries (n - e.2.length) es else []

namespace State

/-- The bytes of a tile as they enter its CRC (R257, R343). -/
def tileBytes (s : State) (c : Fin 4) (t : Nat) : List Nat :=
  (s.tilePixels c t).flatMap fun p => plateBytes (s.outPx c s.pic[c].composed p.1 p.2)

/-- A tile's coded entry (R342, R343); the Rice parameters are the encoder's free choice. -/
def codedTile (s : State) (c : Fin 4) (t : Nat) : List Nat :=
  let px := s.tilePixels c t
  let w := (px.map Prod.fst).eraseDups.length
  let h := (px.map Prod.snd).eraseDups.length
  tileEntry (fun i => (Config.riceChoice (s.fresh + t) i).toNat) w h t ((s.pic[c].tiles.getD t Tile.reset).crcs.headD 0) (s.tileBytes c t)

/-- The frame that the encoder samples now: composed and not yet closed (R344, R347). -/
def sampleFrame (s : State) (c : Fin 4) : Option FrameRec :=
  match s.frameRec c s.pic[c].composedNum with
  | some f => if f.dark || s.light[c].darkened || s.chr[c].held.isSome then none else some f
  | none => none

/-- A sample's records when its frame closes (R342, R346, R349): the flag runs stand in the first part, and a keyframe's tile section in a
last part of its own. -/
def sampleRecs (s : State) (c : Fin 4) (x : PendingSample) (flags : List Nat) (tileSec : List Nat) : List (Nat × Nat × List Nat) :=
  let tsize := s.rd (.frs .tileTsize) c
  let runs := if x.key then [] else flagRuns ((flags.zipIdx.filter fun y => y.1 != 0).map fun y => (y.2, y.1))
  let parts := partsOf (2 ^ 20 - 64 - 8 * runs.length) x.entries [] 0
  let n := parts.length + b2n x.key
  let rflags := b2n x.ring + 2 * b2n x.complete
  (parts.zipIdx.map fun y =>
    (if x.key then 3 else 2, rflags, tilesBody x.frame x.base tsize y.2 n (if y.2 == 0 then runs else []) y.1))
  ++ (if x.key then [(3, rflags, tilesBody x.frame x.base tsize (n - 1) n [] [] ++ tileSec)] else [])

/-- Ring bytes of a partition in force, 2 GiB where the map gives none (R349). -/
def ringBytes (s : State) : Nat :=
  let l := (bothRegions.flatMap fun r => s.mem.regions[r].parts).filter fun p => p.kind == 7
  if l.isEmpty then 2 ^ 31 else (l.map (·.size)).sum

/-- ARC_RING shows the time covered and what awaits a flush. -/
def showRing (s : State) : State :=
  let l := s.arc.ring
  let newest := (l.head?.map (·.time)).getD 0
  let oldest := (l.getLast?.map (·.time)).getD 0
  let pend := match s.arc.flush with
    | some f => recBytes ((l.filter fun e => !e.done && f.from' ≤ e.time && e.time ≤ f.upto).map (·.sample))
    | none => 0
  (s.wr (.arc .ringDepth) 0 (satN 16 ((newest - oldest) / 2500000))).wr (.arc .ringPend) 0 ((pend + 2 ^ 20 - 1) / 2 ^ 20)

/-- Old entries leave the ring until a new one fits; none where an entry that awaits a flush would have to go (R349). `fuel` bounds the
entries dropped. -/
def makeRoom (s : State) (n : Nat) : Nat → List RingEntry → Option (List RingEntry)
  | 0, l => some l
  | fuel + 1, l =>
    if recBytes (l.map (·.sample)) + n ≤ s.ringBytes then some l else
    match l.getLast? with
    | none => some l
    | some e =>
      let waits := match s.arc.flush with | some f => !e.done && f.from' ≤ e.time && e.time ≤ f.upto | none => false
      if waits then none else makeRoom s n fuel l.dropLast

/-- Ring sampling pauses while an entry that awaits a flush would have to go (R349). -/
def ringBlocked (s : State) : State :=
  if s.on (.arc .stateBlocked) 0 then s else ((s.wr (.arc .stateBlocked) 0 1).report .arc 0 0x2705 [(1, 3)]).stageNote 6 []

/-- A ring sample is written to ARCRING, or sampling is blocked (R349). -/
def ringWrite (s : State) (c : Fin 4) (x : PendingSample) (r : ArcRec) : State :=
  match s.makeRoom r.len s.arc.ring.length s.arc.ring with
  | none => s.ringBlocked
  | some l =>
    let e : RingEntry := { time := x.time, cluster := c.val, frame := x.frame, sample := r, bad := false, done := false }
    ((s.modArc fun a => { a with ring := e :: l }).wr (.arc .stateBlocked) 0 0).showRing

/-- A sample is stored once its frame has closed (R342, R344, R349). -/
def finishSample (s : State) (c : Fin 4) (x : PendingSample) (flags tileSec : List Nat) : State :=
  let src := s.srcPath .cluster c 0xFF
  (s.sampleRecs c x flags tileSec).foldl (fun s p =>
    if x.ring then s.ringWrite c x { rtype := p.1, rflags := p.2.1, rseq := 0, time := x.time, src := src, body := p.2.2 }
    else s.stageRec p.1 p.2.1 x.time src p.2.2) s

/-- The samples of a frame that closes are stored. -/
def finishSamples (s : State) (c : Fin 4) (num : Nat) (flags tileSec : List Nat) : State :=
  let mine := s.arc.outs[c].samples.filter fun x => x.frame == num
  let s := s.modOut c fun o => { o with samples := o.samples.filter fun x => x.frame != num }
  mine.foldl (fun s x => s.finishSample c x flags tileSec) s

/-- An anchor record (R341, R346): D, FRAME and MTIME of each cluster's latest digest record. -/
def stageAnchor (s : State) : State :=
  s.stageRec 7 0 s.wall (s.srcPath .pkg 0 0xFF) (allClusters.flatMap fun c =>
    let o := s.arc.outs[c].latest
    (o.1 ++ List.replicate 32 0).take 32 ++ leBytes 8 o.2.1 ++ leBytes 8 o.2.2)

/-- The plate address of a pixel of the plate copy (R103). -/
def plateAddr (s : State) (c : Fin 4) (p : Nat × Nat) : Nat :=
  c.val / 2 * 2 ^ 26 + s.rd (.geo .plateBaseBase) c * 64 + p.2 * (s.rd (.geo .platePitchPitch) c * 64) + 3 * p.1

/-- The encoder meets bad plate words (R295, R345): `found` names tiles whose read fails parity now; a tile that shows a word already bad
fails too. The answer is the tiles that fail, each bad word reported. -/
def badTiles (s : State) (c : Fin 4) (want found : List Nat) : List Nat × State :=
  let shows := fun (t w : Nat) => (s.tilePixels c t).any fun p => s.plateAddr c p / 8 == w || (s.plateAddr c p + 2) / 8 == w
  let known := s.mem.badPlate.filter fun w => want.any fun t => shows t w
  let fresh := (want.filter found.contains).map fun t => s.plateAddr c ((s.tilePixels c t).headD (0, 0)) / 8
  let words := known ++ fresh.filter fun w => !known.contains w
  (want.filter fun t => found.contains t || known.any (shows t), words.foldl (fun s w => s.plateError (8 * w)) s)

/-- A sample of an output (R344 to R346): the tiles to take, without those whose rows were overwritten before they were read (`late`) or
whose plate words fail parity (`found`, and those already bad); what cannot be taken keeps CHG. -/
def takeSample (s : State) (c : Fin 4) (f : FrameRec) (late found : List Nat) : State :=
  let o := s.arc.outs[c]
  let every := 60 * 25000000 * max 1 (s.rd (.arc .cfgKeymin) 0)
  let key := match o.keyAt with | some k => decide (k + every ≤ f.mtime) | none => true
  let want := if key then s.allTiles c else (s.allTiles c).filter fun t => (s.pic[c].tiles.getD t Tile.reset).chg
  let read := s.badTiles c (want.filter fun t => !late.contains t) found
  let bad := read.1
  let s := read.2
  let ok := (want.filter fun t => !late.contains t && !bad.contains t).map fun t => (t, s.codedTile c t)
  let got := fitEntries (stagingBytes - recBytes s.arc.staging - 64) ok
  let done := got.map Prod.fst
  let lost := want.filter fun t => !done.contains t
  let cause := if got.length < ok.length then 3 else if lost.any bad.contains then 2 else 1
  let x : PendingSample :=
    { frame := f.num, base := if key then 0 else o.base.getD 0, time := f.mtime, key := key, ring := false, complete := lost.isEmpty, entries := got.map Prod.snd }
  let s := s.modOut c fun o => { o with base := some f.num, keyAt := if key then some f.mtime else o.keyAt, samples := o.samples ++ [x] }
  let s := { s with fresh := s.fresh + s.tileCount c }
  let s := s.modPic c fun p => { p with tiles := p.tiles.zipIdx.map fun y => if done.contains y.2 then { y.1 with chg := false } else y.1 }
  let s := if key && c == 0 then s.stageAnchor else s
  if lost.isEmpty then s else
  (((s.bump (.arc .cntDeferred) 0).modArc fun a => { a with lifeDeferred := a.lifeDeferred + 1 }).report .arc 0 0x2703
    [(1, c.val), (4, lost.length), (1, cause)]).stageNote 4 []

/-- A ring sample of an output (R349): the tiles whose CRC differs from the encoder's copy, and the rolling refresh; none is taken while the
ring has no room for it. -/
def takeRing (s : State) (c : Fin 4) (f : FrameRec) : State :=
  let o := s.arc.outs[c]
  let crc := fun (t : Nat) => (s.pic[c].tiles.getD t Tile.reset).crcs.headD 0
  let want := (s.allTiles c).filter fun t => o.ringCrcs[t]? != some (crc t) || t % 100 == o.ringNo % 100
  let x : PendingSample :=
    { frame := f.num, base := o.ringBase, time := f.mtime, key := false, ring := true, complete := true, entries := want.map fun t => s.codedTile c t }
  if (s.makeRoom (64 + x.entries.flatten.length) s.arc.ring.length s.arc.ring).isNone then s.ringBlocked else
  let s := s.modOut c fun o =>
    { o with ringNo := o.ringNo + 1, ringBase := f.num, ringCrcs := (s.allTiles c).map crc, samples := o.samples ++ [x] }
  { s with fresh := s.fresh + s.tileCount c }

end State

end Sys2Proof.Machine
end

