-- ==== Sys2Proof/Machine/ArchiveRows.lean ====
section
/-! DEFINITION. Plate archive commands (R337 to R353, R387). -/

namespace Sys2Proof.Machine

/-- How many index steps halve the archive's extents down to 2,048 (R351). -/
def indexStep (n : Nat) : Nat := ((List.range 32).find? fun k => (n + 2 ^ k - 1) / 2 ^ k ≤ 2048).getD 31

namespace State

/-! ### The drive -/

/-- Recording starts (R341, R346, R352): the power cycle is noted, an ANCHOR record, and event 0x1701. -/
def startRecording (s : State) (note : Nat) (data : List Nat) (adopted : Nat) : State :=
  let s := s.wr (.arc .stateState) 0 3
  let s := s.modArc fun a =>
    { a with drive := a.drive.map fun d => { d with cycles := d.cycles ++ [(a.nextRseq, s.rd (.alm .pcyclesCount) 0)] } }
  let s := (s.stageNote note data).stageAnchor
  s.report .arc 0 0x1701 [(4, s.rd (.arc .extHead) 0), (4, adopted)]

/-- The archive of the attached drive is initialised (R340): a new ARCHIVE_ID, superblock copy A, and no records. -/
def initArchive (s : State) : State :=
  match s.arc.drive with
  | none => s
  | some d =>
    let lo := s.freeBits 64
    let hi := lo.2.freeBits 64
    let id := lo.1 + 2 ^ 64 * hi.1
    let sb : Superblock :=
      { lbab := d.lbab, extents := extentCount d.capacity, capacity := d.capacity, archiveId := id, serial := s.dev.serial, initTime := s.wall,
        sbseq := 1, tail := 0, tailSeq := 1 }
    let s := hi.2.modArc fun a =>
      { a with drive := some { d with superA := some sb, superB := none, extents := [], cycles := [] }
               archiveId := id, staging := [], nextRseq := 1, written := 0, flushUpto := 0, headUsed := 4096, opens := [], flush := none }
    let s := ((s.wr (.arc .extHead) 0 0).wr (.arc .tailTail) 0 0).wr (.arc .headRseq) 0 0
    let s := (s.sendNvme 1 0 sb.bytes).report .arc 0 0x1707 [(4, sb.extents)]
    s.startRecording 1 [] 0

/-- The first requirement of R338 that a drive misses. -/
def driveFault (d : Drive) : Option Nat :=
  if d.capacity < 256000000000 || 8000000000000 < d.capacity then some 1
  else if d.metadata || (d.lbab != 9 && d.lbab != 12) then some 2
  else if d.mdts < 128 * 1024 then some 3
  else if !d.queue64 then some 4
  else none

/-- The drive fails or is gone (R339): recording stops, and so does a flush under way. -/
def driveFailed (s : State) (cause : Nat) : State :=
  let st := s.rd (.arc .stateState) 0
  if st == 0 || st == 1 || st == 5 then s else
  let s := s.modArc fun a => { a with cmds := [], staging := [], opens := [], flush := none, rates := [] }
  (((s.wr (.arc .stateState) 0 5).wr (.arc .stateFlushing) 0 0).wr (.arc .rateBps) 0 0).report .nvme 0 0x2882 [(1, cause)]

/-- A try of a command failed (R339): an abort and another try, then one controller reset and a repeat, then FAILED. -/
def commandFailed (s : State) (x : NvmeCmd) (cause : Nat) : State :=
  let n := x.tries + 1
  if x.wasReset then s.driveFailed cause
  else
    let y : NvmeCmd := if n < 3 then { x with tries := n } else { x with tries := n, wasReset := true }
    let s := s.modArc fun a => { a with cmds := a.cmds.map fun z => if z.id == x.id then y else z }
    (s.emit (.nvme x.id 3 [])).emit (.nvme x.id x.kind x.data)

/-- ARC_RATE: the mean over 10 s of the bytes written (ARC_RATE). -/
def showRate (s : State) (n : Nat) : State :=
  let l := ((s.now, n) :: s.arc.rates).filter fun x => s.now < x.1 + msCclk 10000
  (s.modArc fun a => { a with rates := l }).wr (.arc .rateBps) 0 ((l.map Prod.snd).sum / 10)

/-- A write has completed (R351): its staging space is free. -/
def writeDone (s : State) (x : NvmeCmd) : State :=
  let l := takeChunk x.bytes s.arc.staging
  let s := s.modArc fun a =>
    { a with staging := a.staging.drop l.length
             written := match l.getLast? with | some r => r.rseq | none => a.written
             bytesWritten := a.bytesWritten + x.data.length }
  let s := s.showRate x.data.length
  let s := if s.arc.overflowed then (s.modArc fun a => { a with overflowed := false }).stageNote 5 [] else s
  s.runFlush.issueWrite

/-! ### Flushes and checkpoint objects (R351) -/

/-- The objects 0x0400 to 0x0403: D, FRAME and MTIME of each cluster's latest flushed digest record. -/
def storeDigests (s : State) : State :=
  allClusters.foldl (fun s (c : Fin 4) =>
    let o := s.arc.outs[c].flushed
    if !s.clusterOn c then s else
    s.almRequest (0x0400 + c.val) ((o.1 ++ List.replicate 32 0).take 32 ++ leBytes 8 o.2.1 ++ leBytes 8 o.2.2)) s

/-- Object 0x0404. -/
def storeHead (s : State) : State :=
  match s.arc.drive with
  | none => s
  | some d =>
    let e := d.extents.getLast?
    s.almRequest 0x0404 (leBytes 16 s.arc.archiveId ++ leBytes 4 ((e.map (·.index)).getD 0) ++ leBytes 4 ((e.map Extent.used).getD 0)
      ++ leBytes 8 ((e.map (·.extSeq)).getD 0) ++ leBytes 8 s.arc.flushUpto ++ leBytes 4 (s.rd (.arc .tailTail) 0))

/-- Object 0x0405, the time index. -/
def storeIndex (s : State) : State :=
  match s.arc.drive with
  | none => s
  | some d =>
    let k := indexStep (extentCount d.capacity)
    s.almRequest 0x0405 ((d.extents.filter fun e => e.index % 2 ^ k == 0).flatMap fun e => leBytes 4 e.index ++ leBytes 8 e.firstTime)

/-- The digest records that a Flush has made safe (R351). -/
def flushMarks (s : State) : State :=
  let n := s.arc.flushUpto
  allClusters.foldl (fun s c => s.modOut c fun o =>
    let l := o.marks.filter fun x => x.1 ≤ n
    { o with marks := o.marks.filter fun x => n < x.1
             flushed := match l.getLast? with | some x => x.2 | none => o.flushed }) s

/-- A Flush completes (R351): the firmware stores the objects, the index unless that duty is shed; an Observer that is offline stores none
(R423, R425). -/
def flushed (s : State) : State :=
  let s := (s.wr (.arc .headRseq) 0 s.arc.flushUpto).flushMarks
  if !s.obsOnline then s else
  let s := s.storeDigests.storeHead
  if s.duty 1 then s.storeIndex else s

/-- The pre-trigger flush has taken everything in its window (R350). -/
def flushEnds (s : State) (f : ArcFlush) : Bool := f.upto < s.wall && (s.nextFlush f).isNone

/-! ### Retrieval (R353, R387) -/

/-- The whole records on the drive, in RSEQ order. -/
def driveRecs (s : State) : List ArcRec :=
  match s.arc.drive with
  | none => []
  | some d => (d.extents.flatMap (·.recs)).filter fun r => r.rseq ≤ s.arc.written

/-- The frames that a record covers (R341, R342). -/
def recFrames (r : ArcRec) : List Nat :=
  match r.rtype with
  | 1 => (List.range (r.body.length / 64)).map fun i => ofLe ((r.body.drop (64 * i)).take 8)
  | 2 => [ofLe (r.body.take 8)]
  | 3 => [ofLe (r.body.take 8)]
  | _ => []

/-- The power cycle that recorded a record, as the low word of ALM_PCYCLES. -/
def recCycle (s : State) (r : ArcRec) : Nat :=
  match s.arc.drive with
  | some d => (((d.cycles.filter fun x => x.1 ≤ r.rseq).getLast?).map fun x => x.2 % 2 ^ 32).getD 0
  | none => 0

/-- A record belongs to what ARC_READ asks for (R387). -/
def recWanted (s : State) (args : List Nat) (r : ArcRec) : Bool :=
  let a := fun (i : Nat) => args.getD i 0 % 2 ^ 32
  let lo := a 1 + 2 ^ 32 * a 2
  let hi := a 3 + 2 ^ 32 * a 4
  let cl := r.rtype == 1 || r.rtype == 2 || r.rtype == 3
  (!cl || bit (a 0) (bits r.src 22 2)) && 1 ≤ r.rtype && r.rtype ≤ 7 && bit (a 0) (7 + r.rtype)
    && match bits (a 0) 16 2 with
      | 0 => lo ≤ r.time && r.time ≤ hi
      | 1 => s.recCycle r == a 5 && (recFrames r).any fun f => lo ≤ f && f ≤ hi
      | 2 => lo ≤ r.rseq
      | _ => false

/-- Records at the front whose bytes fit. -/
def recsThatFit : Nat → List ArcRec → List ArcRec
  | _, [] => []
  | n, r :: rs => if r.len ≤ n then r :: recsThatFit (n - r.len) rs else []

end State

/-- DRIVE_ATTACH (R338, R340): a drive links up with what Identify reports and what it holds. -/
def execDriveAttach (t : Nat) (d : Drive) (s : State) : Result :=
  let s := s.advance t
  let s := if s.running then s.powerOn 8 else s
  if !s.domOn 3 then .next s else
  let s := s.modArc fun a => { a with drive := none, cmds := [], staging := [], opens := [], flush := none }
  match State.driveFault d with
  | some r => .next ((s.wr (.arc .stateState) 0 1).report .nvme 0 0x2884 [(1, r)])
  | none =>
    let gb := d.capacity / 1000000000
    let s := (s.wr (.arc .driveCapgb) 0 (satN 16 gb)).report .nvme 0 0x1881 [(4, gb), (1, d.rate), (1, d.lanes)]
    let s := s.modArc fun a => { a with drive := some d }
    match superOf d with
    | none => .next (if s.on (.arc .cfgAutoinit) 0 then s.initArchive else s.wr (.arc .stateState) 0 2)
    | some b =>
      if b.serial != s.dev.serial then .next ((s.wr (.arc .stateState) 0 4).report .arc 0 0x2708 [(8, b.serial)])
      else .next (((s.modArc fun a => { a with archiveId := b.archiveId }).wr (.arc .tailTail) 0 b.tail).wr (.arc .stateState) 0 2)

/-- NVME_COMMAND_TIMEOUT (R339): a command has not completed within 2 s. -/
def execNvmeCommandTimeout (t : Nat) (id : Nat) (s : State) : Result :=
  let s := s.advance t
  match s.arc.cmds.find? fun x => x.id == id with
  | some x => .next (s.commandFailed x 1)
  | none => .next s

/-- NVME_LINK_DOWN (R339). -/
def execNvmeLinkDown (t : Nat) (s : State) : Result :=
  let s := (s.advance t).driveFailed 3
  .next (s.modArc fun a => { a with drive := none })

/-- NVME_COMMAND_COMPLETE (R339, R351): a command completes, or reports an error status. A Flush has a row of its own. -/
def execNvmeCommandComplete (t : Nat) (id : Nat) (ok : Bool) (s : State) : Result :=
  let s := s.advance t
  match s.arc.cmds.find? fun x => x.id == id with
  | none => .next s
  | some x =>
    if !ok then .next (s.commandFailed x 2)
    else if x.kind == 2 then .next s
    else
      let s := s.modArc fun a => { a with cmds := a.cmds.filter fun y => y.id != id }
      .next (if x.kind == 1 then s.writeDone x else s)

/-- SMART_POLL (R339): every 60 s. -/
def execSmartPoll (t : Nat) (m : Smart) (s : State) : Result :=
  let s := s.advance t
  if s.arc.drive.isNone || !s.duty 1 then .next s else
  let s := (s.wr (.arc .driveTemp) 0 m.temp).wr (.arc .driveCritwarn) 0 m.critWarn
  let s := if m.tempWarn then s.report .nvme 0 0x1883 [(2, m.temp)] else s
  .next (if bit m.critWarn 0 || bit m.critWarn 2 || bit m.critWarn 3 then s.driveFailed 4 else s)

/-- ARCHIVE_SAMPLE_TICK (R344 to R347): the encoder takes the sample frame of an output, once. -/
def execArchiveSampleTick (t : Nat) (c : Fin 4) (late bad : List Nat) (s : State) : Result :=
  let s := s.advance t
  match s.sampleFrame c with
  | some f => .next (if s.recording && s.domOn 47 && !(s.arc.outs[c].samples.any fun x => x.frame == f.num && !x.ring) then s.takeSample c f late bad else s)
  | none => .next s

/-- RING_SAMPLE (R349). -/
def execRingSample (t : Nat) (c : Fin 4) (s : State) : Result :=
  let s := s.advance t
  match s.sampleFrame c with
  | none => .next s
  | some f =>
    if !s.on (.arc .cfgRingen) 0 || !s.domOn 47 || s.unitFatal .arc 0 then .next (s.wr (.arc .stateRingok) 0 0)
    else if s.ringFrozen then .next (s.ringStop 1)
    else .next ((s.wr (.arc .stateRingok) 0 1).takeRing c f)

/-- RING_FLUSH_DONE (R350). -/
def execRingFlushDone (t : Nat) (s : State) : Result :=
  let s := (s.advance t).takeTriggers.runFlush
  match s.arc.flush with
  | none => .next s
  | some f =>
    if !s.flushEnds f then .next s else
    let s := (s.modArc fun a => { a with flush := none }).wr (.arc .stateFlushing) 0 0
    .next ((s.showRing).report .arc 0 0x1702 [(1, f.cause), (4, f.entries), (4, f.lost)])

/-- ARCHIVE_FLUSH_TICK (R346, R351): every FLUSHS seconds; without a recording drive the digests' anchors are still stored. While held picture
keeps PD47 off the encoder's buffer is held (R347). -/
def execArchiveFlushTick (t : Nat) (s : State) : Result :=
  let s := s.advance t
  if !s.domOn 1 || (s.recording && !s.domOn 47) then .next s else
  let s := allClusters.foldl (fun s c => s.gatherDigests c) s
  if !s.recording then
    let s := allClusters.foldl (fun s c => s.modOut c fun o => { o with flushed := o.latest, digests := [] }) s
    .next (if s.obsOnline then s.storeDigests else s)
  else
    let s := s.issueWrite
    if s.arc.cmds.any fun x => x.kind == 2 then .next s
    else .next ((s.modArc fun a => { a with flushUpto := a.written }).sendNvme 2 0 [])

/-- ARCHIVE_FLUSH_DONE (R351). -/
def execArchiveFlushDone (t : Nat) (s : State) : Result :=
  let s := s.advance t
  match s.arc.cmds.find? fun x => x.kind == 2 with
  | none => .next s
  | some x => .next ((s.modArc fun a => { a with cmds := a.cmds.filter fun y => y.id != x.id }).flushed)

/-- LOGBOOK_ARCHIVE_COPY (R348): the save with this SAVESEQ, in a slot, becomes a LOGBOOK record, unless the slot has changed. -/
def execLogbookArchiveCopy (t : Nat) (slot : Fin 2) (saveSeq : Nat) (s : State) : Result :=
  let s := s.advance t
  if !s.recording || !s.domOn 47 || !s.duty 5 then .next s
  else if (s.log.saves[slot]).saveSeq != saveSeq || !(s.log.saves[slot]).valid then .next (s.stageNote 7 [])
  else if saveSeq == 0 || s.arc.logCopied.contains saveSeq then .next s
  else
    let body := (s.log.saves[slot]).bytes ++ State.slotBytes s.log.slots[slot]
    .next ((s.modArc fun a => { a with logCopied := saveSeq :: a.logCopied }).stageRec 5 0 (s.log.saves[slot]).time (s.srcPath .pkg 0 0xFF) body)

/-- ARCHIVE_RESUME (R352): the drive is checked against object 0x0404, the records after the last flushed one are adopted while their RSEQ
follows on, and recording resumes at the next 4,096-byte boundary. -/
def execArchiveResume (t : Nat) (s : State) : Result :=
  let s := s.advance t
  match s.arc.drive with
  | none => .next s
  | some d =>
    if s.rd (.arc .stateState) 0 != 2 || (superOf d).isNone then .next s else
    let obj := (s.almVal 0x0404).getD []
    let mine := obj.length == 44 && ofLe (obj.take 16) == s.arc.archiveId
    let recs := d.extents.flatMap (·.recs)
    let first := (recs.head?.map (·.rseq)).getD 1
    let flushed := if mine then ofLe ((obj.drop 32).take 8) else first - 1
    let last := recs.foldl (fun (n : Nat) r => if r.rseq == n + 1 then n + 1 else n) flushed
    let keep := fun (e : Extent) => { e with recs := e.recs.filter fun r => r.rseq ≤ last }
    let d := { d with extents := (d.extents.map keep).filter fun e => e.firstRseq ≤ last }
    let used := match d.extents.getLast? with | some e => min extentBytes ((e.used + 4095) / 4096 * 4096) | none => 4096
    let lastTime := ((recs.filter fun r => r.rseq == last).head?.map (·.time)).getD 0
    let s := s.modArc fun a =>
      { a with drive := some d, nextRseq := last + 1, written := last, flushUpto := last, headUsed := used, opens := [] }
    let s := (s.wr (.arc .extHead) 0 ((d.extents.getLast?.map (·.index)).getD 0)).wr (.arc .headRseq) 0 last
    .next (s.startRecording 2 (leBytes 8 (last - flushed) ++ leBytes 8 lastTime ++ leBytes 8 s.wall) (last - flushed))

/-- ARC_QUERY (R353, R385): ARC_STATE, head, tail, oldest and newest TIME. -/
def execArcQuery (t : Nat) (m : MailReq) (s : State) : Result :=
  .next ((s.advance t).mailbox 0x0501 m [] [] false fun s =>
    let recs := s.driveRecs
    let word := s.rd (.arc .stateState) 0 + 8 * s.rd (.arc .stateRingok) 0 + 16 * s.rd (.arc .stateFlushing) 0 + 32 * s.rd (.arc .stateBlocked) 0
    let body := leBytes 4 word ++ leBytes 4 (s.rd (.arc .extHead) 0) ++ leBytes 4 (s.rd (.arc .tailTail) 0)
      ++ leBytes 8 ((recs.head?.map (·.time)).getD 0) ++ leBytes 8 ((recs.getLast?.map (·.time)).getD 0)
    (s, { Reply.ok with page := body }))

/-- ARC_READ (R353, R387): whole records of a range by DMA; NOTFOUND where nothing lies in the range (R383). -/
def execArcRead (t : Nat) (m : MailReq) (args : Vector Word 6) (s : State) : Result :=
  .next ((s.advance t).mailbox 0x0502 m (args.toList.map BitVec.toNat) [] true fun s =>
    let st := s.rd (.arc .stateState) 0
    if st != 3 then (s, .fail 5 st)
    else if bits (args[(0 : Fin 6)]).toNat 16 2 == 3 then (s, .fail 4 0)
    else
      let want := s.driveRecs.filter (s.recWanted (args.toList.map BitVec.toNat))
      if want.isEmpty then (s, .fail 7 0) else
      let got := State.recsThatFit m.hlen want
      let more := got.length < want.length
      let next := match want.drop got.length with
        | r :: _ => r.rseq
        | [] => (got.getLast?.map fun r => r.rseq + 1).getD 0
      let body := leBytes 4 got.length ++ leBytes 4 (recBytes got) ++ leBytes 8 next ++ leBytes 4 (b2n more)
      (s, { Reply.ok with
                page := body
                dma := some (got.flatMap ArcRec.bytes) }))

/-- ARC_ANCHOR (R353): objects 0x0400 to 0x0404 and FRS_DIGEST of each cluster. -/
def execArcAnchor (t : Nat) (m : MailReq) (s : State) : Result :=
  .next ((s.advance t).mailbox 0x0503 m [] [] false fun s =>
    let obj := fun (oid n : Nat) => (((s.almVal oid).getD []) ++ List.replicate n 0).take n
    let body := (List.range 4).flatMap (fun c => obj (0x0400 + c) 48) ++ obj 0x0404 44
      ++ (List.range 32).flatMap fun i => leBytes 4 (s.rd (.frs .digestD) i)
    (s, { Reply.ok with page := body }))

/-- ARC_INIT (R340, R353, R387): only with the module's serial. -/
def execArcInit (t : Nat) (m : MailReq) (serial : Nat) (s : State) : Result :=
  .next ((s.advance t).mailbox 0x0504 m [serial % 2 ^ 32, serial / 2 ^ 32 % 2 ^ 32] [] false fun s =>
    if serial != s.dev.serial then (s, .fail 6 6)
    else if s.arc.drive.isNone || s.rd (.arc .stateState) 0 == 5 then (s, .fail 5 (s.rd (.arc .stateState) 0))
    else (s.initArchive, .ok))

end Sys2Proof.Machine
end

