-- ==== Sys2Proof/Machine/FrameOps.lean ====
section
/-! DEFINITION. Shared operations of a frame on the array: digest records and closes (R248, R255 to R261), the frame on display (R131,
R151), resets into planes and off (R109, R111, R165, R172, R173), diagnostic pulses (R198), and A-plane suppression (R122). -/

namespace Sys2Proof.Machine
namespace State

/-! ### Digests and closes -/

/-- The FLAGS of a digest record (R258). -/
def digestFlags (s : State) (c : Fin 4) (torn rfail rcmp forced lightoff asupp : Bool) : Nat :=
  b2n s.pic[c].genesis + 2 * b2n torn + 4 * b2n rfail + 8 * b2n rcmp + 16 * b2n forced + 32 * b2n lightoff + 64 * b2n asupp
    + 128 * b2n (s.rd (.chn .addrAddr) 0 == 0)

/-- A digest record's 64 bytes (R258). -/
def digestBytes (s : State) (c : Fin 4) (frame mtime kind skind flags marked aux : Nat) (csum : List Nat) : List Nat :=
  leBytes 8 frame ++ leBytes 8 mtime ++ leBytes 4 (s.srcPath .cluster c 0xFF) ++ [kind, skind] ++ leBytes 2 flags ++ leBytes 4 marked
    ++ leBytes 4 aux ++ csum

/-- A digest record is produced (R260, R261): D, FRS_DIGEST, and the archive encoder's copy. -/
def produceDigest (s : State) (c : Fin 4) (frame mtime : Nat) (rec' : List Nat) : State :=
  let d := sha256 (rec' ++ (if s.pic[c].genesis then List.replicate 32 0 else s.pic[c].digest))
  let s := s.modPic c fun p => { p with digest := d, genesis := false }
  let s := (List.range 8).foldl (fun s i => s.wr (.frs .digestD) (8 * c.val + i) (ofLe ((d.drop (4 * i)).take 4))) s
  (s.wr (.frs .digestFrameFrame) c frame).takeDigest c rec' d frame mtime

/-- The flag byte of a tile of a frame (R259). -/
def flagByte (f : FrameRec) (fl : TileFlags) (t : Nat) : Nat :=
  b2n (fl.torn.contains t) + 2 * b2n (fl.rfail.contains t) + 4 * b2n (fl.rcmp.contains t) + 8 * b2n (f.marked.contains t)
    + 16 * b2n (f.stale.contains t)

/-- The tile section of a frame (R259). -/
def tileSection (f : FrameRec) (fl : TileFlags) (n : Nat) : List Nat :=
  (List.range n).flatMap fun t => leBytes 8 (f.crcs.getD t 0) ++ [flagByte f fl t]

/-- The digest record of a frame that closes (R258, R259); none while the engine is down (R263). -/
def closeDigest (s : State) (c : Fin 4) (f : FrameRec) (fl : TileFlags) : State :=
  if !s.engineUp c then s else
  let n := s.tileCount c
  let flags := s.digestFlags c (!fl.torn.isEmpty) (!fl.rfail.isEmpty) (!fl.rcmp.isEmpty) f.forced f.lightoff f.asupp
  let aux := (addTiles fl.torn fl.rfail).length
  s.produceDigest c f.num f.mtime
    (if f.dark then s.digestBytes c f.num f.mtime 3 0xFF flags n aux (List.replicate 32 0)
     else s.digestBytes c f.num f.mtime f.kind.code f.skind flags f.marked.length aux (sha256 (tileSection f fl n)))

/-- The HELD record of an interval that has ended with frame w (R259). -/
def heldDigest (s : State) (c : Fin 4) (h : HeldState) (w : Nat) (f : Option FrameRec) : State :=
  if !s.engineUp c then s else
  let fl := s.pic[c].heldFlags
  let flags := s.digestFlags c (!fl.torn.isEmpty) (!fl.rfail.isEmpty) (!fl.rcmp.isEmpty) ((f.map (·.forced)).getD false)
    (s.on (.lsr .outLightoff) c) false
  s.produceDigest c h.entry h.mtime
    (s.digestBytes c h.entry h.mtime 2 ((f.map (·.skind)).getD 0) flags ((f.map (·.marked.length)).getD 0) (w - h.entry)
      (List.replicate 32 0))

/-- A held interval ends with frame w (R259): its record is to come. -/
def endInterval (s : State) (c : Fin 4) (h : HeldState) (w : Nat) : State :=
  s.modPic c fun p => { p with heldDue := some ⟨h, w, p.replay⟩ }

/-- The record of a held interval whose first frame is not after `upto` is produced, so that records come in frame order (R260). -/
def heldRecord (s : State) (c : Fin 4) (upto : Nat) : State :=
  match s.pic[c].heldDue with
  | none => s
  | some e => if upto < e.held.entry then s else (s.modPic c fun p => { p with heldDue := none }).heldDigest c e.held e.upto e.frame

/-- The flags a clone target takes from its source's frame of the same number (R81). -/
def sourceFlags (s : State) (c : Fin 4) (num : Nat) : TileFlags :=
  match s.cloneSrc c with
  | none => ⟨[], [], []⟩
  | some q =>
    match s.frameRec q num with
    | some f => f.flags
    | none =>
      let pick := fun (g : Tile → Bool) => ((s.pic[q].tiles.zipIdx).filter fun x => g x.1).map Prod.snd
      ⟨pick (·.torn), pick (·.rfail), pick (·.rcmp)⟩

/-- A tile at a close (R248, R249). -/
def closeTile (fl : TileFlags) (t : Nat) (x : Tile) : Tile :=
  let torn := fl.torn.contains t
  let rfail := fl.rfail.contains t
  { x with torn := torn, rfail := rfail, rcmp := fl.rcmp.contains t, persist := if torn || rfail then min 16 (x.persist + 1) else 0 }

/-- A whole frame of a cluster has passed the pair's comparison without a disagreement (R415). -/
def pairFrame (s : State) (c : Fin 4) (num : Nat) : State :=
  if s.role != 2 || !s.par.matched[c] || num < s.rd (.chr .commitStatFrame) c || num < s.par.differ[c] then s else
  (s.modPar fun p => { p with agreed := p.agreed.set c (p.agreed[c] + 1) }).checkLockstep

/-- A cluster stays in held picture: no wake has come, no frame of it waits for its digest record, and the encoder has completed its record
(R150). -/
def restsHeld (s : State) (c : Fin 4) : Bool :=
  s.on (.chr .heldHeld) c && (match s.chr[c].held with | some h => h.wake.isNone | none => false) && s.pic[c].frames.isEmpty
    && s.arc.outs[c].samples.isEmpty

/-- Every enabled cluster is in held picture and has made its records: PD46 and PD47 go off, and PD49 with them (R150, R357). -/
def allHeldOff (s : State) : State :=
  if s.enabledClusters.all fun x => s.restsHeld x then s.keepDomains (2 ^ 64 - 1 - 2 ^ 46 - 2 ^ 47 - 2 ^ 49) else s

/-- A frame closes (R248, R249, R255, R258). The tiles read HELD until the first fresh meridian, which may come before the close. -/
def closeFrame (s : State) (c : Fin 4) (f : FrameRec) : State :=
  let src := s.sourceFlags c f.num
  let fl : TileFlags := ⟨addTiles f.flags.torn src.torn, addTiles f.flags.rfail src.rfail, addTiles f.flags.rcmp src.rcmp⟩
  let s := s.modPic c fun p =>
    { p with frames := p.frames.filter fun x => x.num != f.num
             closedCrcs := f.crcs
             tiles := p.tiles.zipIdx.map fun x => closeTile fl x.2 x.1
             blame := p.blame.map fun b =>
               if b.frame ≤ f.num then { b with tiles := b.tiles.filter fun t => fl.torn.contains t || fl.rfail.contains t } else b }
  let s := (s.wr (.frs .flaggedCount) c (addTiles fl.torn fl.rfail).length).wrb (.pln .stateRcmp) c (!fl.rcmp.isEmpty)
  let s := ((((s.heldRecord c f.num).closeDigest c f fl).heldRecord c (f.num + 1))).pairFrame c f.num
  let s := s.finishSamples c f.num ((List.range (s.tileCount c)).map (flagByte f fl)) (tileSection f fl (s.tileCount c))
  match s.chr[c].held with
  | some h =>
    if f.num + 1 != h.entry || h.fresh.isSome then s else
    (s.modPic c fun p => { p with tiles := p.tiles.map fun x => { x with held := true } }).allHeldOff
  | none => s

/-- Every frame of a stopped chronograph closes, in order, and a held interval gets its record (R144, R259, R260). -/
def closeAll (s : State) (c : Fin 4) : State := (s.pic[c].frames.foldl (fun s f => s.closeFrame c f) s).heldRecord c (s.lastFrame c + 1)

/-! ### The frame on display -/

/-- The frame whose F comes next: in held picture the next number, else the next frame with a meridian (R135, R150). -/
def nextShown (s : State) (c : Fin 4) : Option Nat :=
  let n := s.shownFrame c
  let recs := ((s.pic[c].frames.filter fun f => n < f.num).map (·.num)).min?
  match s.chr[c].held with
  | some h => if h.entry ≤ n + 1 then some (n + 1) else recs
  | none => recs

/-- The array replays its planes in the frame on display (R151). -/
def replaying (s : State) (c : Fin 4) : Bool := s.chr[c].held.isSome && (s.frameRec c (s.shownFrame c)).isNone

/-- The prime's MARK at each F and each reset (R412). -/
def sendMark (s : State) (c : Fin 4) : State := if s.role == 1 then s.sendTransit 1 [c, s.now] else s

/-- A reset of bands into a place at the present instant (R162 to R165), whose acknowledgement is awaited (R173). -/
def resetBands (s : State) (c : Fin 4) (first last place : Nat) (hold : Bool) (pid : Nat) : State :=
  if !s.arrayFed c then s else
  let rep := s.replaying c
  let q := s.tri[c].cseq
  let s := s.sendCommand c .reset first last place hold rep pid s.now
  if !s.drives then s else
  s.modTri c fun t =>
    { t with acks := t.acks ++ [{ cseq := q, first := first, last := last, place := place, frame := s.shownFrame c, replay := rep,
                                  settleAt := s.now + s.cfg[c].settle }] }

/-- All bands go off (R165). -/
def resetOff (s : State) (c : Fin 4) : State := s.resetBands c 0 (s.cfg[c].bands - 1) 0xFF false 0

/-- When the command of a reset at the present instant has left the pins (R164). -/
def commandAt (s : State) (c : Fin 4) : Nat :=
  let adv := s.rd (.tri .cmdAdvAdv) c
  s.now - adv - cmdDelay (s.now - adv)

/-- A reset into a plane ends the wait of its blocks: those that were not confirmed when the reset command was sent are flagged reticle-fail
(R172). The answer says whether a block was unconfirmed, or some row of the bands was in no block of the plane (R113). -/
def settleBlocks (s : State) (c : Fin 4) (pid first last key : Nat) : Bool × State :=
  let at' := s.commandAt c
  let mine := fun (b : SentBlock) => b.hdr.planeId == pid && first ≤ b.hdr.band && b.hdr.band ≤ last && b.resetAt ≤ s.now
  let all := s.tri[c].blocks.filter mine
  let bad := all.filter fun b => !(sendConfirmed b && b.trailerAt ≤ at' && b.echoAt ≤ at')
  let path := bad.any (·.pathFault)
  let g := s.cfg[c]
  let rows := bandFirst g.h g.bands (last + 1) - bandFirst g.h g.bands first
  let s := (s.modTri c fun t => { t with blocks := t.blocks.filter fun b => !mine b }).countPathPlane c key path
  (!bad.isEmpty || (all.map fun b => b.hdr.nrows).sum < rows, bad.foldl (fun s b =>
    ((s.flagBy c b.frame .rfail (s.tilesOfRows c b.hdr.row0 b.hdr.nrows) .lane (laneInst c b.lane)).bump (.tri .cntUnconf) c).report .lane (laneInst c b.lane) 0x2383
      [(4, b.frame), (2, b.hdr.planeId), (2, b.hdr.row0), (2, b.hdr.nrows)]) s)

/-- The entry that a band shows first in a segment, as its bit and piece (R109). -/
def firstEnt (f : FrameRec) (body : List SchedEntry) (b : Nat) : Option (Nat × Nat) :=
  match (bandPieces f.sched.hdr body b).head? with
  | some (some i, _) => ((tpcs body)[i]?).map fun (e : SchedEntry) => (e.bitn, e.piece)
  | _ => none

/-- The segments of the schedule on display. -/
def shownSegs (f : FrameRec) : List (Nat × List SchedEntry) := segmentsOf f.sched.ents

/-- A reset into the plane a band showed first in the open segment is that of its wrap piece (R109). -/
def isWrap (s : State) (c : Fin 4) (f : FrameRec) (b : Nat) (e : Nat × Nat) : Bool :=
  !s.light[c].awin && s.now != s.chr[c].lastG
    && (match (shownSegs f)[s.chr[c].seg - 1]? with | some g => firstEnt f g.2 b == some e | none => false)

/-- A reset of bands into a plane of the open segment; `ent` is the plane's bit and piece, none for the off slot (R109, R111). The answer
says whether a block of it was unconfirmed. -/
def resetPlane (s : State) (c : Fin 4) (f : FrameRec) (first last : Nat) (hold : Bool) (ent : Option (Nat × Nat)) : Bool × State :=
  match ent with
  | none => (false, s.resetBands c first last 0xFF hold 0)
  | some e =>
    let p := s.light[c].segPrim
    let pid := planeId p e.1 e.2 f.num
    let seg := s.chr[c].seg - 1
    let s := s.resetBands c first last (s.placeOf c f.sched f.placeBase seg p e.1 e.2 (s.isWrap c f first e)) hold pid
    if s.replaying c || !s.arrayFed c then (false, s) else s.settleBlocks c pid first last (placeKey f.num seg p e.1 e.2)

/-- LEN of the lit channels of a primary falls at the present instant with its delay (R136, R137). -/
def lensFall (s : State) (c : Fin 4) : State := allChans.foldl (fun s k => s.setLenAt c k false (s.lenDly c k)) s

/-- LEN of the lit channel of the segment's primary rises with its delay, unless the gate, an unlit frame or a lost descriptor keeps it low
(R136, R178, R179, R183). -/
def lensRise (s : State) (c : Fin 4) : State :=
  let p : Fin 3 := Fin.ofNat 3 s.light[c].segPrim
  (banksOf p).foldl (fun s k =>
    if s.light[c].chans[k].lostPulse then s.modChan c k fun x => { x with lostPulse := false }
    else if s.gateOpen c k && s.light[c].segDim[p] != 0 then s.setLenAt c k true (s.lenDly c k) else s) s

/-! ### Diagnostic pulses (R198, R203 to R205) -/

/-- A channel pulses in the dump window of frame n (R198): N counts up to 256; a channel that stands stopped gets none (R16, R18). -/
def diagDue (s : State) (c : Fin 4) (k : Fin 6) (n dim : Nat) : Bool :=
  let x := s.light[c].chans[k]
  let st := s.chState c k
  let taken := x.wantH == s.rd (.lsr .patHPat) (chanInst c k)
  let search := match x.search with | some sr => !sr.bypassed.isEmpty | none => false
  let turn := n % clampN 1 256 (s.rd (.lsr .diagN) c) == 0
  2 ≤ st && !s.halted .lsrCh (chanInst c k) && ((turn && (st == 2 || (st == 3 && dimD dim < 16384))) || ((search || x.waitDiag || x.rearm) && taken) || x.diagNow)

/-- A channel's diagnostic pulse is placed from F + 1,600 CCLK for 1,600 CCLK; LREF is held at CODE from F + 800 until 64 CCLK after the falling edge
(R138, R198, R221). -/
def placeDiag (s : State) (c : Fin 4) (k : Fin 6) : State :=
  let i := chanInst c k
  let code := s.rd (.lsr .diagCfgCode) i
  let at' := fun (d : Nat) => ((s.now : Int) + d + s.lenDly c k).toNat
  let taken := s.light[c].chans[k].wantH == s.rd (.lsr .patHPat) i
  let s := s.violate 1 fun t j q => (t == 3 || t == 4) && j == k.val && q == c.val
  let s := s.modChan c k fun x =>
    { x with diagOn := true, diagRise := at' 1600, diagDone := false, diagTaken := taken, diagNow := false
             lrefHeld := some (s.now + 800, at' 3200 + 64) }
  if !s.drives then s else
  ((s.emit (.lref c k code (s.now + 800))).emit (.len c k true 16384 (at' 1600))).emit (.len c k false 16384 (at' 3200))

/-- The dump window of frame n: coverage by diagnostic pulses, and the pulses due (R138, R198). -/
def dumpDiags (s : State) (c : Fin 4) (n : Nat) (f : FrameRec) : State :=
  let short := f.sched.hdr.dump < 4800
  let was := s.on (.lsr .diagNocover) c
  let s := s.wrb (.lsr .diagNocover) c short
  let s := if short == was then s else
    match allChans.find? fun k => s.chState c k != 0 with
    | some k => s.report .lsrCh (chanInst c k) 0x13CD [(1, b2n short), (4, f.sched.hdr.dump)]
    | none => s
  if short || !s.diagAllowed c then s else
  (allChans.filter fun k => s.diagDue c k n f.dim).foldl (fun s k => s.placeDiag c k) s

/-! ### A-plane suppression (R122) -/

/-- A frame still carries A-planes of before a T-only condition, or of while it held (R122). -/
def asuppCovers (f : FrameRec) (x : AsuppRun) : Bool := f.num ≤ x.upto || !f.cleared

/-- ASUPP falls at F of a frame without A-planes, or of one generated after the condition cleared, with which a condition that is over is
forgotten. -/
def endAsupp (s : State) (c : Fin 4) (f : FrameRec) : State :=
  let s := s.modChr c fun k => { k with asupps := k.asupps.filter fun x => x.on || asuppCovers f x }
  if s.on (.pln .stateAsupp) c && (f.sched.hdr.tform || !s.chr[c].asupps.any (asuppCovers f)) then s.wr (.pln .stateAsupp) c 0 else s

/-- At an A-window, suppression begins, for a condition that arose 1 µs before or earlier and by which the frame on display was generated, or goes on. -/
def suppress (s : State) (c : Fin 4) (f : FrameRec) : State :=
  let n := s.shownFrame c
  let s := match s.chr[c].asupps.find? fun x => asuppCovers f x && x.since + 1600 ≤ s.now with
    | some x => if s.on (.pln .stateAsupp) c then s else (s.wr (.pln .stateAsupp) c 1).report .pln c 0x2303 [(1, x.causes), (4, n)]
    | none => s
  if !s.on (.pln .stateAsupp) c || f.asupp then s else
  (s.bump (.pln .modeCntAsupp) c).modFrame c n fun g => { g with asupp := true }

/-! ### Frame start and segments -/

/-- The timing of the frame that starts: its measured predecessor, its tail, and when the next meridian is expected, by the DUMP of the frame whose first G it
precedes (R133, R147). -/
def frameTiming (s : State) (c : Fin 4) (f : FrameRec) : State :=
  let k := s.chr[c]
  let s := if k.lastF == 0 then s else s.wr (.chr .periodMeasPeriod) c (s.now - k.lastF)
  let r := s.nextAdj c (tailOf f.sched).toNat
  let s := (r.2.modChr c fun k => { k with lastF := r.2.now, adj := r.1, seg := 0 }).wrI (.chr .lockAdjAdj) c r.1
  let next := (s.frameRec c (s.shownFrame c + 1)).getD f
  let g : Int := (s.now : Int) + f.sched.hdr.dump - s.leadEff c
  s.expectMeridian c (if (s.now : Int) ≤ g then g else (s.now : Int) + s.cfg[c].period + r.1 + next.sched.hdr.dump - s.leadEff c).toNat

/-- In held picture only the lowest-numbered working data lane runs; the others go to electrical idle (R151, R165). The second of a pair drives
none. -/
def idleLanes (s : State) (c : Fin 4) : State :=
  if s.linkNow c != 2 && s.linkNow c != 5 then s else
  let s := (s.modTri c fun t => { t with resumeAt := none }).wr (.tri .stateLink) c 3
  if !s.drives then s else ((s.workingLanes c).drop 1).foldl (fun s i => s.emit (.laneIdle c i)) s

/-- Held picture begins at F of its first replayed frame (R150). -/
def heldAtF (s : State) (c : Fin 4) (n : Nat) : State :=
  match s.chr[c].held with
  | none => s
  | some h =>
    if n != h.entry then s else
    let s := (((s.wr (.chr .heldHeld) c 1).wr (.chr .heldPend) c 0).wr (.chr .heldFrameFrame) c (n - 1)).idleLanes c
    let s := s.report .chr c 0x1345 [(4, n - 1)]
    if s.inHeld c && h.wake.isNone then s.keepDomains (2 ^ 64 - 1 - 2 ^ (34 + c.val)) else s

/-- The second of a pair compares the verdicts that the prime's channel states have not borne out by its next F (R207; DESIGN CHOICE, log entry
112: the rule names no instant). -/
def compareVerdicts (s : State) (c : Fin 4) : State :=
  if s.role != 2 then s else
  allChans.foldl (fun s k =>
    match s.light[c].chans[k].verdict with
    | none => s
    | some v => (s.modChan c k fun x => { x with verdict := none }).report .lsrCh (chanInst c k) 0x13CE [(1, v)]) s

/-- F of frame n (R131, R137 to R139, R165). -/
def frameStart (s : State) (c : Fin 4) (n : Nat) : State :=
  let s := s.wr (.chr .showFrame) c n
  match s.shownRec c with
  | none => s
  | some f =>
    let s := ((s.frameTiming c f).heldAtF c n).sendMark c
    let s := ((s.lensFall c).takeCalibration c).modLight c fun l => { l with chopAcc := 0, awin := false, hold := false }
    let s := (s.resetOff c).endAsupp c f
    let s := ((s.wr (.pln .stateKind) c f.skind).wr (.pln .schedLoadSplitq) c f.sched.hdr.splitq).wr (.pln .schedTailTail) c (tailOf f.sched).toNat
    let s := s.quietInterval c (s.now + 160) true true
    ((s.dumpDiags c n f).compareVerdicts c).strobe c 1 0 s.now

/-- A named bank that is a healthy standby lights where its primary has none, unless the light is off by policy (R200, R201). -/
def nameBanks (s : State) (c : Fin 4) : State :=
  if s.light[c].policyOff then s else
  allPrims.foldl (fun s p =>
    let k : Fin 6 := Fin.ofNat 6 (2 * p.val + s.rd (litFld p) c)
    if (s.litBank c p).isNone && s.light[c].nextLit[p].isNone && s.healthyStandby c k then s.selectStandby c p k else s) s

/-- The first fresh frame after held picture is on display (R152). -/
def leaveHeld (s : State) (c : Fin 4) (n : Nat) : State :=
  match s.chr[c].held with
  | none => s
  | some h =>
    if h.fresh != some n then s else
    let s := (s.modChr c fun k => { k with held := none }).modPic c fun p => { p with replay := none }
    let s := (s.wr (.chr .heldHeld) c 0).applyHeldFlags c
    let w := h.wake.getD (0, s.now)
    let s := s.report .chr c 0x1346 [(1, w.1), (4, n)]
    if s.now ≤ w.2 + 480000 + 2 * s.cfg[c].period + s.leadEff c then s else
    (s.bump (.chr .heldCntLatewake) c).report .chr c 0x2347 [(1, w.1), (4, (s.now - w.2) / 1600)]

/-- First picture (R366): the first G of a frame with content. -/
def notePicture (s : State) (c : Fin 4) : State :=
  if s.pwr.firstPicture || s.pic[c].noContentStart then s else
  { s with pwr := { s.pwr with firstPicture := true } }.wr (.pwr .startMs) 0 (satN 16 ((s.now - s.pwr.startAt) / msCclk 1))

/-- The banks of a G (R200, R202, R204, R225). -/
def segmentBanks (s : State) (c : Fin 4) (n : Nat) : State :=
  let was := allChans.filter fun k => s.chState c k == 3
  let s := ((s.nameBanks c).lightBanks c n).tearUnlit c n
  let s := (allChans.filter fun k => s.chState c k == 3 && !was.contains k).foldl (fun s k =>
    match s.slotOfLref c k with
    | some i => s.modSlot c i fun x => { x with loadAt := some s.now }
    | none => s) s
  s.updateCeiling c

/-- A segment ends at the next G or at the tail (R230): after the last segment of its primary in the frame, that primary's colour-sensor transaction falls
due, with the light fraction of the segment (R231). -/
def endSegment (s : State) (c : Fin 4) (f : FrameRec) : State :=
  if s.chr[c].seg == 0 then s else
  let p : Fin 3 := Fin.ofNat 3 s.light[c].segPrim
  if ((shownSegs f).drop s.chr[c].seg).any fun g => g.1 == p.val then s else
  let frac := dimD16 s.light[c].segDim[p] * ceilC16 s.light[c].segCeil[p]
  let at' := s.now + 64 * s.rd (.hel .csTxnDly) (c.val * 3 + p.val)
  s.modHel c fun h => { h with csDue := h.csDue.set p (some at'), csFrac := h.csFrac.set p frac }

/-- G of the next segment of the frame on display (R110, R137, R139, R163, R183, R224). -/
def segmentStart (s : State) (c : Fin 4) (f : FrameRec) (prim : Nat) (body : List SchedEntry) : State :=
  let n := s.shownFrame c
  let s := (allChans.foldl (fun s k => s.endDiag c k) s).endSegment c f
  let s := if s.chr[c].seg == 0 then ((s.leaveHeld c n).notePicture c).noteWear c else s
  let s := ((s.lensFall c).takeCalibration c).modChr c fun k => { k with lastG := s.now, seg := k.seg + 1 }
  let p : Fin 3 := Fin.ofNat 3 prim
  let locked := bit (s.rd (.pwr .pllLock) 0) 6
  let s := (s.modLight c fun l => { l with awin := false, hold := false, segPrim := p.val, gated := l.gated && !locked }).segmentBanks c n
  let s := s.modLight c fun l =>
    { l with segDim := l.segDim.set p f.dim
             segCeil := l.segCeil.set p (s.rd (.lsr .ceilCeil) c) }
  let b := s.cfg[c].bands
  let s := (List.range b).foldl (fun (s : State) x => (s.resetPlane c f x x (x + 1 != b) (firstEnt f body x)).2) s
  let l := s.light[c]
  let s := ((s.sendMark c).quietInterval c s.now false true).cascadeStrobe c s.now 6 (some (p.val, l.segDim[p], l.segCeil[p]))
  (s.noteTonly c).strobe c 2 p.val s.now

end State

end Sys2Proof.Machine
end

