-- ==== Sys2Proof/Machine/ChronoRows.lean ====
section
/-! DEFINITION. Chronograph commands: meridians, commits, the instants of a frame, closes and wakes (R131 to R153). -/

namespace Sys2Proof.Machine
namespace State

/-- A commit with EN = 0 stops the chronograph at M(n) (R144): frames n − 1 and n are never shown, and the output is darkened. -/
def stopAt (s : State) (c : Fin 4) (n : Nat) : State :=
  let x := s.chooseSchedule c
  let gone : FrameRec := { s.newRec c n x.1 x.2.1 x.2.2.1 x.2.2.2 with kind := .dark, dark := true }
  let s := s.modPic c fun p => { p with frames := (p.frames.map fun f => if n ≤ f.num + 1 then { f with dark := true } else f) ++ [gone] }
  let s := s.modChr c fun k => { k with running := false, held := none, lastF := 0, seg := 0 }
  let s := (((s.wr (.chr .heldHeld) c 0).wr (.chr .heldPend) c 0).modPic c fun p => { p with replay := none }).lensLow c
  s.darken c false .chr c 0

/-- The pending commit lands at M(n) if it may (R140, R143); a second also counts the prime's (R414). -/
def landIf (s : State) (c : Fin 4) (n : Nat) : State :=
  let r := (s.secondWaits c s.now).commitLands c n
  if r.1 then (r.2.landCommit c n false).leaveFallback c else r.2

/-- The light of the frame that a held meridian begins takes a step of a fade (R183, R185). -/
def heldFade (s : State) (c : Fin 4) : State :=
  let s := s.fadeStep c
  let n := s.lastFrame c
  let d := s.dimEff c
  s.modChr c fun k => { k with held := k.held.map fun h => { h with dims := ((n, d) :: h.dims).take 3 } }

/-- A meridian in held picture while the pixel path does not run (R143, R151 to R153): a pending commit waits; one requested inside this
meridian's guard is late (R140). Reaffirmations count here (R243, R246), and fades step (R185). -/
def heldMeridian (s : State) (c : Fin 4) : State :=
  let s := (((((s.countMeridian c).lockUpdate c).applyPending c).psrLayers c).heldDeadline c).heldFade c
  if !s.on (.chr .commitReq) c then s else
  s.modChr c fun k => if inGuard s.now k.reqAt && !k.late then { k with late := true } else { k with waited := true }

/-- The first meridian at which a woken output's pixel path runs again (R152, R255): held flags and the HELD record. -/
def freshMeridian (s : State) (c : Fin 4) (n : Nat) : State :=
  match s.chr[c].held with
  | none => s
  | some h =>
    if h.fresh.isSome then s else
    let s := ((s.endInterval c h n).heldRecord c (if s.pic[c].frames.any fun f => f.num + 1 == h.entry then 0 else n)).applyHeldFlags c
    s.modChr c fun k => { k with held := some { h with fresh := some n } }

/-- A meridian of a running chronograph (R133, R143, R149). The lock is judged before the commit: a new reference counts from the next frame
(R146). -/
def runMeridian (s : State) (c : Fin 4) : State :=
  let awake := match s.chr[c].held with | some h => h.wake.isSome | none => true
  if s.inHeld c && !(awake && s.pathPowered c) then s.heldMeridian c else
  let corr := s.corrAt c
  let s := (s.countMeridian c).lockUpdate c
  let n := s.lastFrame c
  let s := (((s.freshMeridian c n).rememberLayers c).enterFallback c).landIf c n
  if !s.on (.chr .ctrlEn) c then (s.latchCorr c corr).stopAt c n else
  let s := (s.applyReaffirms c).noteTonly c
  if s.chr[c].held.isNone && s.mayHold c n then s.enterHeld c n else s.runFrame c n corr

/-- The first meridian of a stopped chronograph whose EN is 1 and whose REQ is set (R144). -/
def firstMeridian (s : State) (c : Fin 4) : State :=
  let s := s.modChr c fun k => { k with running := true, held := none, adj := 0, lastF := 0, inWindow := 0, outWindow := 0 }
  let corr := s.corrAt c
  let s := s.countMeridian c
  let n := s.lastFrame c
  let s := ((s.rememberLayers c).enterFallback c).landCommit c n true
  let s := (s.leaveFallback c).modPic c fun p => { p with noContentStart := true }
  let s := if s.light[c].darkened then s else s.startFade c .start
  ((s.applyReaffirms c).noteTonly c).runFrame c n corr

/-- The meridian at whose own instant a class U event stopped the chronograph (R38): it counts and its commit lands, with the output dark. -/
def lastMeridian (s : State) (c : Fin 4) : State :=
  let corr := s.corrAt c
  let s := s.countMeridian c
  ((s.landIf c (s.lastFrame c)).latchCorr c corr).modChr c fun k => { k with faultAt := none }

/-- The clone target's meridian at its source's (R80, R135): its number equals the source's while its chronograph runs or starts with it. -/
def takesNumber (s : State) (c : Fin 4) : State :=
  match s.cloneSrc c with
  | some q => if s.chr[q].running then s.wr (.chr .frameFrame) c (max (s.lastFrame c) (s.lastFrame q - 1)) else s
  | none => s

/-- A meridian of a cluster (R133, R144): the first one of a stopped chronograph starts it, once no mesh load is busy on the page that its commit
selects (R95). One stopped by a fault has none until FATAL is clear and a commit is pending (R16, R39), but for the meridian that
falls with the fault (R38). -/
def meridianOf (s : State) (c : Fin 4) : State :=
  if s.unitFatal .chr c && s.chr[c].faultAt == some (s.now / 2) then (s.takesNumber c).lastMeridian c
  else if s.unitFatal .chr c || (s.stopped.contains (.chr, c.val) && !s.on (.chr .commitReq) c) then s
  else if s.chr[c].running then (s.takesNumber c).runMeridian c
  else if s.on (.chr .commitReq) c && s.rdShadow (.chr .ctrlEn) c == 1 then
    if s.meshWaits c true then s.modChr c fun k => { k with waited := true, reqFrame := k.reqFrame <|> some (s.lastFrame c + 1) }
    else (s.takesNumber c).firstMeridian c
  else s

/-- A clone target takes its meridian from its source (R80, R135). -/
def followMeridian (s : State) (c d : Fin 4) : State :=
  if d == c || !s.clusterOn d || !s.cfg[d].present || s.cloneSrc d != some c then s else
  s.meridianOf d

/-- A plane's reset in the A-window (R111, R113, R122, R137): the amplitude steps at R + 640 CCLK. -/
def aPlaneReset (s : State) (c : Fin 4) (f : FrameRec) (first last : Nat) (e : Nat × Nat) : State :=
  let s := (s.lensFall c).takeCalibration c
  let r := s.resetPlane c f first last false (some e)
  let s := r.2.modLight c fun l => { l with hold := r.1 }
  let n := s.shownFrame c
  let s := if !r.1 then s else
    (s.flagBy c n .torn (s.allTiles c) .pln c).report .pln c 0x2309 [(4, n), (1, s.light[c].segPrim), (1, e.1)]
  ((s.quietInterval c s.now false false).cascadeStrobe c (s.now + 640) e.1 none).strobe c 4 s.light[c].segPrim (s.now + 640)

/-- A reset of bands falls at this instant in the open segment (R109, R111): in the T-portion each band of it resets into the entry then, or into its
off slot; in the A-window all bands reset into the entry of that settle. The common reset of G is not among them. -/
def resetDue (s : State) (c : Fin 4) (f : FrameRec) (at' first last : Nat) (ent : Option (Nat × Nat)) : Bool :=
  match (shownSegs f)[s.chr[c].seg - 1]? with
  | none => false
  | some g =>
    let h := f.sched.hdr
    let g0 := s.chr[c].lastG
    let key := fun (e : SchedEntry) => (e.bitn, e.piece)
    if s.light[c].awin then
      first == 0 && last + 1 == s.cfg[c].bands && ((aResets h (g0 + tPortion h g.2)).zip (g.2.filter fun e => e.op == 4)).any fun x =>
        x.1 == at' && some (key x.2) == ent
    else
      (List.range (last + 1 - first)).all fun d => ((bandResets h g.2 g0 (first + d)).drop 1).any fun x =>
        x.1 == at' && (x.2.bind fun i => (tpcs g.2)[i]?).map key == ent

/-- The entry of the open segment that band 0 shows is sampled (R139). -/
def sampled (s : State) (c : Fin 4) (f : FrameRec) (e : Nat × Nat) : Bool :=
  match (shownSegs f)[s.chr[c].seg - 1]? with
  | some g => g.2.any fun x => (x.op == 2 || x.op == 4) && x.bitn == e.1 && x.piece == e.2 && x.smpl
  | none => false

/-- On a wake the idle lanes send TS1 for 20 µs and then resume (R165). -/
def resumeLanes (s : State) (c : Fin 4) : State :=
  if s.linkNow c != 3 || s.tri[c].resumeAt.isSome then s else
  let s := s.modTri c fun t => { t with resumeAt := some (s.now + usCclk 20) }
  if !s.drives then s else
  ((s.workingLanes c).drop 1).foldl (fun s i => s.emit (.orderedSets c i (trainingSet false i false) s.now (s.now + usCclk 20))) s

end State

/-- MERIDIAN (R133 to R135, R140 to R149). A clone target has its source's meridians, and its own while the source's chronograph does not run: it
keeps its lasers, loops and links running there (R22). -/
def execMeridian (t : Nat) (c : Fin 4) (s : State) : Result :=
  let s := s.advance t
  let follows := match s.cloneSrc c with | some q => s.chr[q].running | none => false
  if !s.clusterOn c || !s.cfg[c].present || s.rd (.pwr .stateStep) 0 != 9 || !s.domOn (38 + c.val) || follows then .next s
  else
    let n := s.chr[c].meridians
    let s := s.meridianOf c
    .next (if s.chr[c].meridians == n then s else allClusters.foldl (fun s d => s.followMeridian c d) s)

/-- COMMIT_REQUEST (R140, R142, R152): CHR_COMMIT.REQ. -/
def execCommitRequest (t : Nat) (c : Fin 4) (s : State) : Result :=
  let s := s.advance t
  .next (if s.clusterOn c then s.requestCommit c else s)

/-- COMMIT_CANCEL (R142): CHR_COMMIT.CANCEL. -/
def execCommitCancel (t : Nat) (c : Fin 4) (s : State) : Result :=
  let s := s.advance t
  .next (if s.clusterOn c then s.cancelCommit c else s)

/-- FRAME_START (R131, R147, R165). -/
def execFrameStart (t : Nat) (c : Fin 4) (s : State) : Result :=
  let s := s.advance t
  match s.nextShown c with
  | some n => .next (if s.chr[c].running then s.frameStart c n else s)
  | none => .next s

/-- SEGMENT_START (R110, R163). -/
def execSegmentStart (t : Nat) (c : Fin 4) (s : State) : Result :=
  let s := s.advance t
  match s.shownRec c with
  | none => .next s
  | some f =>
    match (State.shownSegs f)[s.chr[c].seg]? with
    | some g => .next (if s.chr[c].running then s.segmentStart c f g.1 g.2 else s)
    | none => .next s

/-- PLANE_RESET (R109, R111, R172): bands first to last into a plane of the open segment, given by its bit and piece, or into the off
slot, where the schedule places it. -/
def execPlaneReset (t : Nat) (c : Fin 4) (first last : Nat) (ent : Option (Nat × Nat)) (s : State) : Result :=
  let s := s.advance t
  match s.shownRec c with
  | none => .next s
  | some f =>
    if !s.chr[c].running || s.chr[c].seg == 0 || last < first || s.cfg[c].bands ≤ last || !s.resetDue c f s.now first last ent then .next s else
    let s := s.sendMark c
    match s.light[c].awin, ent with
    | true, some e => .next (s.aPlaneReset c f first last e)
    | _, _ => .next ((s.resetPlane c f first last false ent).2.takeCalibration c)

/-- SETTLE_COMPLETE (R136, R139, R173): S, a settle after a reset of bands from `first` into a plane that the schedule places there. LEN rises at the S of a G and of an A-plane. -/
def execSettleComplete (t : Nat) (c : Fin 4) (first : Nat) (ent : Option (Nat × Nat)) (s : State) : Result :=
  let s := s.advance t
  match s.shownRec c with
  | none => .next s
  | some f =>
    if !s.chr[c].running || s.chr[c].seg == 0 then .next s else
    let a := s.light[c].awin
    let r := s.now - f.sched.hdr.settle
    let due := r == s.chr[c].lastG && !a || s.resetDue c f r first (if a then s.cfg[c].bands - 1 else first) ent
    if s.now < f.sched.hdr.settle || !due then .next s else
    let lit := if a then !s.light[c].hold && !s.on (.pln .stateAsupp) c else s.now == s.chr[c].lastG + f.sched.hdr.settle
    let s := if lit then s.lensRise c else s
    match ent with
    | some e => .next (if first == 0 && s.sampled c f e then s.strobe c 3 s.light[c].segPrim s.now else s)
    | none => .next s

/-- A_WINDOW_START (R111, R122). -/
def execAWindowStart (t : Nat) (c : Fin 4) (s : State) : Result :=
  let s := s.advance t
  match s.shownRec c with
  | none => .next s
  | some f =>
    if !s.chr[c].running || s.chr[c].seg == 0 || f.sched.hdr.tform then .next s else
    let s := ((s.lensFall c).modLight c fun l => { l with awin := true }).noteTonly c
    .next (s.suppress c f)

/-- TAIL_START (R119, R138, R165). -/
def execTailStart (t : Nat) (c : Fin 4) (s : State) : Result :=
  let s := s.advance t
  if !s.chr[c].running || s.chr[c].seg == 0 then .next s else
  let s := match s.shownRec c with | some f => s.endSegment c f | none => s
  let s := ((s.lensFall c).takeCalibration c).modLight c fun l => { l with awin := false, hold := false }
  .next (((s.sendMark c).resetOff c).quietInterval c s.now false true)

/-- FRAME_CLOSE (R144, R248, R255, R260): the oldest frame that is no longer on display closes; with none left, a held interval that a stop has ended gets its
record. -/
def execFrameClose (t : Nat) (c : Fin 4) (s : State) : Result :=
  let s := s.advance t
  match s.pic[c].frames with
  | [] => .next (if s.chr[c].running then s else s.heldRecord c (s.lastFrame c + 1))
  | f :: _ =>
    .next (if !s.chr[c].running || (f.num < s.shownFrame c && s.chr[c].lastF + usCclk 2 ≤ s.now) then s.closeFrame c f else s)

/-- HELD_WAKE (R152, R165): a woken output's domains are powered, its region's HBM leaves self-refresh, and its idle lanes resume.
PD49 comes back with the first of them, unless a shedding step keeps it off (R357, R374). -/
def execHeldWake (t : Nat) (c : Fin 4) (s : State) : Result :=
  let s := s.advance t
  match s.chr[c].held.bind fun h => h.wake with
  | none => .next s
  | some _ =>
    let scrub := if s.rd (.pwr .limitAct) 0 == 0 then 2 ^ 49 else 0
    let s := (s.powerOn (2 ^ (26 + c.val) + 2 ^ (30 + c.val) + 2 ^ (34 + c.val) + 2 ^ 46 + 2 ^ 47 + scrub)).resumeLanes c
    .next ((List.range 8).foldl (fun s i => s.wakePc (8 * (regionOf c).val + i)) s)

end Sys2Proof.Machine
end

