-- ==== Sys2Proof/Machine/TriocRows.lean ====
section
/-! DEFINITION. Plane reads and the Trioc link's commands (R125 to R129, R154 to R176, R289). -/

namespace Sys2Proof.Machine
namespace State

/-! ### Plane bands (R126 to R129, R289) -/

/-- The rows of a band as the plane reader reads them from HBM (R125). -/
def bandFromHbm (s : State) (c : Fin 4) (n p j b : Nat) : List (List Nat) :=
  (bandRows s.cfg[c].h s.cfg[c].bands b).map fun y => cellLoad s.hbm (s.planeAddr c n p j y % hbmEnd) (s.cfg[c].w / 8)

/-- The first poisoned burst under a band's rows. -/
def bandPoison (s : State) (c : Fin 4) (n p j b : Nat) : Option Nat :=
  (bandRows s.cfg[c].h s.cfg[c].bands b).findSome? fun y => s.badBurst (s.planeAddr c n p j y % hbmEnd) (s.cfg[c].w / 8)

/-- A row of a plane rebuilt from the high byte of the plate copy, the occulter substituted (R127, R129). -/
def rebuildRow (s : State) (c : Fin 4) (marked : List Nat) (pic : List Px) (p j y : Nat) : List Nat :=
  rowBytes s.cfg[c].w fun x => 8 ≤ j && bit ((s.genPx c marked pic x y).comp p) j

/-- A band of mirrors all off. -/
def bandOff (s : State) (c : Fin 4) (b : Nat) : List (List Nat) :=
  (bandRows s.cfg[c].h s.cfg[c].bands b).map fun _ => List.replicate (s.cfg[c].w / 8) 0

/-- The tiles that a band's rows lie in. -/
def bandTiles (s : State) (c : Fin 4) (b : Nat) : List Nat :=
  let r := bandRows s.cfg[c].h s.cfg[c].bands b
  s.tilesOfRows c (r.headD 0) r.length

/-- A band is ready for sending. -/
def readyBand (s : State) (c : Fin 4) (d : BandData) : State :=
  s.modTri c fun t => { t with bands := d :: t.bands.filter fun x =>
    !(x.frame == d.frame && x.prim == d.prim && x.bitn == d.bitn && x.piece == d.piece && x.band == d.band) }

/-- A band read failed: it is rebuilt from the plate copy (R127, R128). `plateBad` says that the plate read fails parity. DESIGN CHOICE, log entry 117:
the plate rows count for a plane j < 8 too, although its bits are 0 whatever they hold. -/
def recomputeBand (s : State) (c : Fin 4) (f : FrameRec) (p j b : Nat) (plateBad : Bool) : List (List Nat) × State :=
  let rows := bandRows s.cfg[c].h s.cfg[c].bands b
  let nums := rows.map fun y => (s.plateRow c y).1
  let other := nums.any fun m => m != f.num && m != f.num + 1
  let s1 := (s.flagTiles c f.num .rcmp (s.bandTiles c b)).bump (.pln .rcmpCntBands) c
  if plateBad || other then
    let s2 := (s1.flagBy c f.num .torn (s.bandTiles c b) .pln c).bump (.pln .rcmpCntZero) c
    (s.bandOff c b, s2.reportSub .pln c b 0x2305 [(4, f.num), (1, p), (1, j), (1, if plateBad then 1 else 2)])
  else
    let s2 := if nums.any fun m => m != f.num then s1.flagBy c f.num .torn (s.bandTiles c b) .pln c else s1
    (rows.map fun y => s.rebuildRow c f.marked (s.plateRow c y).2 p j y, s2.reportSub .pln c b 0x2304 [(4, f.num), (1, p), (1, j)])

/-- A word of the plate copy under a band's rows that is known bad. -/
def bandPlateBad (s : State) (c : Fin 4) (b : Nat) : Option Nat :=
  let base := c.val / 2 * 2 ^ 26 + s.rd (.geo .plateBaseBase) c * 64
  let pitch := s.rd (.geo .platePitchPitch) c * 64
  s.mem.badPlate.find? fun w => (bandRows s.cfg[c].h s.cfg[c].bands b).any fun y =>
    base + y * pitch < 8 * w + 8 && 8 * w < base + y * pitch + 3 * s.cfg[c].w

/-- The stale map of the frame whose content a plate row holds (R289). -/
def rowMarks (s : State) (c : Fin 4) (f : FrameRec) (y : Nat) : List Nat :=
  ((s.frameRec c (s.plateRow c y).1).map (·.marked)).getD f.marked

/-! ### Blocks (R160, R169 to R173) -/

/-- The outstanding block of a sequence number. -/
def blockOf (s : State) (c : Fin 4) (seq : Nat) : Option SentBlock := s.tri[c].blocks.find? fun b => b.hdr.seq == seq

/-- Change an outstanding block. -/
def modBlock (s : State) (c : Fin 4) (seq : Nat) (f : SentBlock → SentBlock) : State :=
  s.modTri c fun t => { t with blocks := t.blocks.map fun b => if b.hdr.seq == seq then f b else b }

/-- A return-lane message is taken when it passes its check and has the type; one that fails counts in ERRCNT (R167). -/
def returnMsg (s : State) (c : Fin 4) (type : Nat) (m : List Nat) (f : State → State) : State :=
  if !s.domOn (42 + c.val) then s
  else if !msgOk 12 m then s.bump (.st .lane .errcnt) (laneInst c 17)
  else if msgField m 0 1 != type then s
  else f s

/-- Lanes that idle in held picture, or that the array has still to relock within 100 µs of a wake, are not judged by STATUS (R165). -/
def lanesIdle (s : State) (c : Fin 4) : Bool :=
  s.linkNow c == 3 || match s.tri[c].resumeAt with | some r => decide (s.now < r + usCclk 80) | none => false

/-- A STATUS message (R167, R174, R176). -/
def takeStatus (s : State) (c : Fin 4) (m : List Nat) : State :=
  let st := msgField m 1 1
  let locks := msgField m 2 3 % 2 ^ 17
  let s := (s.modTri c fun t => { t with statusAt := s.now }).wr (.tri .stateRetlock) c 1
  let watched := if s.lanesIdle c then (s.workingLanes c).take 1 else s.workingLanes c
  let bad := watched.filter fun i => !bit locks i
  let again := bad.filter fun i => s.tri[c].unlocked.contains i
  let s := s.modTri c fun t => { t with unlocked := bad, lockMap := locks }
  let s := s.violate 5 fun t i q => t == 2 && q == c.val && !bit locks i
  let s := again.foldl (fun s i => s.retireLane c i 2) s
  if st == 4 && s.chr[c].running && s.rd (.tri .stateLink) c != 4 then s.returnLaneFault c 0x438B [(2, st)] else s

/-- The lanes of a link come up with their taps (R154, "Bring-up"): active lanes, spare, seeds, DUMP and the outcome of lanes without
a passing tap. -/
def linkUp (s : State) (c : Fin 4) (r : BringUp) : State :=
  let pass := fun (i : Nat) => bit r.locks i && (r.taps.getD i none).isSome
  let s := (List.range 17).foldl (fun s i =>
    let j := dataInst c i
    let s := s.wr (.tri .laneTapRx) j (r.rx.getD i 0)
    let s := (s.wr (.tri .laneTapDeskew) j (r.skew.getD i (0, 0)).1).wr (.tri .laneTapFine) j (r.skew.getD i (0, 0)).2
    match r.taps.getD i none with
    | some t => s.setTaps c i t.1 t.2
    | none => s) s
  let lanes := List.range 17
  let s := (s.setWorking c lanes).setActive c (List.range 16)
  let s := s.modTri c fun t =>
    { t with
      seq := 0, cseq := 0, blocks := [], bands := [], acks := [], nextPlace := 0, mism := [], unlocked := [], lockMap := r.locks, retrain := none, shows := [], resumeAt := none
      laneFree := Vector.replicate 17 s.now
      lfsr := Vector.ofFn fun i => laneSeed i.val
      statusAt := s.now }
  let s := (s.wr (.tri .stateRreq) c 0).wr (.tri .stateRetlock) c 1
  let s := s.sendDump c
  let s := if r.state8 == 2 then
      (s.wr (.tri .stateLink) c (if s.role == 2 then 5 else 2)).report .lane (laneInst c 17) 0x138D
        [(4, (lanes.filter pass).length), (4, r.ms)]
    else s.returnLaneFault c 0x4388 [(1, 3)]
  let s := (lanes.filter fun i => !pass i).foldl (fun s i =>
    (s.noTapEvent 0 (2 + i * 256 + c.val * 65536)).retireLane c i 3) s
  let s := (lanes.zip r.taps).foldl (fun s x => match x.2 with | some t => s.comparePost c x.1 t.2 | none => s) s
  s.almRequest (0x0010 + c.val) (s.triocTapsPayload c)

/-- F of a frame: that of the frame on display, or the predicted one of the frame after it (R131, R133). -/
def frameF (s : State) (c : Fin 4) (f : FrameRec) : Option Nat :=
  let k := s.chr[c]
  if !k.running then none
  else if f.num == s.shownFrame c && k.lastF != 0 then some k.lastF
  else if f.num == s.shownFrame c + 1 then
    some (if k.lastF == 0 then k.lastM + s.leadEff c + s.cfg[c].period - f.sched.hdr.dump else ((k.lastF + s.cfg[c].period : Nat) + k.adj).toNat)
  else none

/-- The resets still to come of a band of a frame into a plane (R114, R161): the piece's own and that of a wrap piece. -/
def resetsAhead (s : State) (c : Fin 4) (f : FrameRec) (p j piece band : Nat) : List Nat :=
  match s.frameF c f with
  | none => []
  | some f0 =>
    ((segTimes f.sched.hdr f.sched.hdr.dump (segmentsOf f.sched.ents)).zipIdx.flatMap fun g =>
      ([false, true].filterMap fun w => sendReset f.sched g.2 band p j piece w).map fun off => f0 + g.1.1 + off).filter fun r => s.now < r

/-- The send deadline of a band for a reset (R170). -/
def sendDeadline (s : State) (c : Fin 4) (r : Nat) : Int := (r : Int) - (s.rd (.tri .cmdAdvAdv) c + s.rd (.tri .sendWinWin) c : Nat)

/-- A band read completes less than 12,800 CCLK before the send deadline of the next reset that it serves (R170, R273): it counts as failed. -/
def bandLate (s : State) (c : Fin 4) (f : FrameRec) (p j piece band : Nat) : Bool :=
  match (s.resetsAhead c f p j piece band).min? with
  | some r => decide (r < s.now + s.rd (.tri .cmdAdvAdv) c + s.rd (.tri .sendWinWin) c + 12800)
  | none => false

/-- The read of a band has failed: it is recomputed and made ready (R126 to R128); `plateBad` is a plate-store address whose word fails parity now. -/
def failBand (s : State) (c : Fin 4) (f : FrameRec) (prim bitn piece band : Nat) (plateBad : Option Nat) : State :=
  let pb := plateBad <|> (s.bandPlateBad c band).map (8 * ·)
  let s := match pb with | some a => s.plateFails a | none => s
  let r := s.recomputeBand c f prim bitn band pb.isSome
  r.2.readyBand c { frame := f.num, prim := prim, bitn := bitn, piece := piece, band := band, rows := r.1 }

end State

/-- PLANE_BAND_READ (R126 to R128, R273, R284): the read of a band of a plane of a frame, from HBM, completes; `bad` is an offset in the band's
first row whose burst fails its check now, `plate` a plate-store address whose word fails parity now, if the band is recomputed, and the
latency of the read. In a stopped region every band is recomputed. -/
def execPlaneBandRead (t : Nat) (c : Fin 4) (frame prim bitn piece band : Nat) (bad : Option Nat) (plate : ReadCheck) (s : State) : Result :=
  let s := s.advance t
  match s.frameRec c frame with
  | none => .next s
  | some f =>
    if f.kind != .composed || !s.domOn (34 + c.val) || 3 ≤ prim || 16 ≤ bitn || s.cfg[c].bands ≤ band then .next s else
    let stopped := s.regionStopped (c.val / 2)
    let first := s.planeAddr c frame prim bitn (bandFirst s.cfg[c].h s.cfg[c].bands band)
    let err := if stopped then none else (bad.map fun o => (first + o) % hbmEnd) <|> (s.bandPoison c frame prim bitn band).map (32 * ·)
    let s := if stopped then s
      else (s.request (first % hbmEnd) ((bandRows s.cfg[c].h s.cfg[c].bands band).length * (s.cfg[c].w / 8))).served (regionOf c) 0 plate.lat
    let s := match err with | some a => s.detectionError a 0 (s.srcPath .pln c band) | none => s
    if !stopped && err.isNone && !s.bandLate c f prim bitn piece band then
      .next (s.readyBand c { frame := frame, prim := prim, bitn := bitn, piece := piece, band := band, rows := s.bandFromHbm c frame prim bitn band })
    else .next (s.failBand c f prim bitn piece band plate.bad)

/-- FALLBACK_EXTRACTION (R129, R170, R289): a band of a plane from the plate copy at its send deadline; planes 15 to 8 from the primary's byte, planes 7 to 4 all
off. `plateBad` is a plate-store address whose word fails parity now. -/
def execFallbackExtraction (t : Nat) (c : Fin 4) (frame prim bitn piece band : Nat) (plateBad : Option Nat) (s : State) : Result :=
  let s := s.advance t
  match s.frameRec c frame with
  | none => .next s
  | some f =>
    let due := (s.resetsAhead c f prim bitn piece band).any fun r => s.sendDeadline c r == s.now
    if f.kind != .fallback || !s.domOn (34 + c.val) || 3 ≤ prim || 16 ≤ bitn || s.cfg[c].bands ≤ band || !due then .next s else
    let data := fun (rows : List (List Nat)) =>
      ({ frame := frame, prim := prim, bitn := bitn, piece := piece, band := band, rows := rows } : BandData)
    let known := f.badBands.contains band
    let err := if known || bitn < 8 then none else plateBad <|> (s.bandPlateBad c band).map (8 * ·)
    match err with
    | some a =>
      let s := s.plateFails a
      let s := s.modFrame c frame fun g => { g with badBands := band :: g.badBands }
      let s := (s.flagBy c frame .torn (s.bandTiles c band) .pln c).bump (.pln .rcmpCntZero) c
      let s := s.reportSub .pln c band 0x2305 [(4, frame), (1, prim), (1, bitn), (1, 1)]
      .next (s.readyBand c (data (s.bandOff c band)))
    | none =>
      let rows := if known && 8 ≤ bitn then s.bandOff c band
        else (bandRows s.cfg[c].h s.cfg[c].bands band).map fun y =>
          s.rebuildRow c (s.rowMarks c f y) (s.plateRow c y).2 prim bitn y
      .next (s.readyBand c (data rows))

/-- A block may start at an instant (R113, R161, R170): it serves a reset that the schedule places at `resetAt`, the first block of its band meets the send
deadline, the place is free for the band, and the same rows are not under way for the same reset. -/
def State.maySend (s : State) (c : Fin 4) (f : FrameRec) (seg prim bitn piece : Nat) (wrap : Bool) (band blk row0 place start resetAt : Nat) : Bool :=
  match sendReset f.sched seg band prim bitn piece wrap, (segTimes f.sched.hdr f.sched.hdr.dump (segmentsOf f.sched.ents))[seg]? with
  | some off, some g =>
    (f.num != s.shownFrame c || resetAt == s.chr[c].lastF + g.1 + off)
    && (blk != 0 || start + s.rd (.tri .cmdAdvAdv) c + s.rd (.tri .sendWinWin) c ≤ resetAt)
    && s.placeFree c place band f.num prim bitn start
    && s.tri[c].blocks.all fun b => b.hdr.planeId != planeId prim bitn piece f.num || b.hdr.row0 != row0 || b.resetAt != resetAt
  | _, _ => false

/-- A band is to be shown from a place until its last reset into the plane there (R161). -/
def State.usePlace (s : State) (c : Fin 4) (f : FrameRec) (seg prim bitn piece : Nat) (wrap : Bool) (band place resetAt : Nat) : State :=
  let off := (sendReset f.sched seg band prim bitn piece wrap).getD 0
  let last := resetAt + ((s.bandShows c f.sched f.placeBase seg band prim bitn place).foldl max off - off)
  s.modTri c fun t =>
    { t with shows := { place := place, band := band, frame := f.num, prim := prim, bitn := bitn, last := last } ::
        t.shows.filter fun u => s.now < u.last && !(u.place == place && u.band == band) }

/-- BLOCK_SEND (R155 to R161, R170): block `blk` of a ready band, for the reset of its band at `resetAt`; `wrap` says that the send
is the wrap piece's. -/
def execBlockSend (t : Nat) (c : Fin 4) (frame seg prim bitn piece : Nat) (wrap : Bool) (band blk resetAt : Nat) (s : State) : Result :=
  let s := s.advance t
  let rb := s.cfg[c].w / 8
  let r0 := bandFirst s.cfg[c].h s.cfg[c].bands band
  let cuts := cutBand (blockRows rb) (s.cfg[c].h + 1) r0 (bandRows s.cfg[c].h s.cfg[c].bands band).length
  match s.tri[c].bands.find? fun x => x.frame == frame && x.prim == prim && x.bitn == bitn && x.piece == piece && x.band == band,
      s.frameRec c frame, cuts[blk]?, s.firstFree c with
  | some d, some f, some cut, some lane =>
    let place := s.placeOf c f.sched f.placeBase seg prim bitn piece wrap
    if !s.arrayFed c || s.linkNow c == 3 || !s.maySend c f seg prim bitn piece wrap band blk cut.1 place lane.2 resetAt then .next s else
    let last := blk + 1 == cuts.length
    let h : BlockHeader :=
      { resend := false, last := last, seq := s.tri[c].seq, planeId := planeId prim bitn piece frame,
        place := place, band := band,
        row0 := cut.1, nrows := cut.2, rowbytes := rb }
    let payload := ((d.rows.drop (cut.1 - r0)).take cut.2).flatten
    let b : SentBlock :=
      { hdr := h, payload := payload, frame := frame, prim := prim, bitn := bitn, lane := lane.1,
        trailerAt := lane.2 + unitTime (blockUnits payload.length), padOk := none, echoOk := none, echoAt := 0, echoCrc := none, pathFault := false,
        resetAt := resetAt }
    let s := ((s.usePlace c f seg prim bitn piece wrap band place resetAt).occupyLane c lane.1 lane.2 h payload).modTri c fun t =>
      { t with
        seq := (t.seq + 1) % 65536
        blocks := b :: t.blocks
        bands := if last then t.bands.filter fun x => !(x.frame == frame && x.prim == prim && x.bitn == bitn && x.piece == piece && x.band == band)
          else t.bands }
    .next s
  | _, _, _, _ => .next s

/-- BLOCK_TRAILER_SENT (R169, R171, R416): the BCRC the pad sampler computed over a block as it left the pins. -/
def execBlockTrailerSent (t : Nat) (c : Fin 4) (seq bcrc : Nat) (s : State) : Result :=
  let s := s.advance t
  match s.blockOf c seq with
  | none => .next s
  | some b =>
    if b.padOk.isSome || s.now < b.trailerAt then .next s else
    let own := blockCrc b.hdr b.payload
    let s := if s.role == 1 then s.sendTransit 4 [c.val, seq, own, bcrc] else s
    if bcrc == own then .next (s.modBlock c seq fun x => { x with padOk := some true })
    else
      let s := (s.modBlock c seq fun x => { x with padOk := some false }).mismatch c b.lane true
      .next (if s.drives then s.resendAfter c b true 0 else s)

/-- ECHO (R167, R169, R171, R416): one that comes before the trailer of the latest send of its block, or that bears the BCRC of its first send after a resend, is of
an earlier send: it confirms nothing, and is no mismatch where it agrees with its own send. -/
def execEcho (t : Nat) (c : Fin 4) (m : List Byte) (s : State) : Result :=
  let m := m.map BitVec.toNat
  .next ((s.advance t).returnMsg c 1 m fun s =>
    let lane := msgField m 1 1 % 32
    let estat := msgField m 1 1 / 32
    let seq := msgField m 2 2
    let crc := msgField m 4 4
    match s.blockOf c seq with
    | none => s
    | some b =>
      let ok := estat == 0 && crc == blockCrc b.hdr b.payload
      let first := estat == 0 && crc == blockCrc { b.hdr with resend := false } b.payload
      if b.lane != lane || s.now < b.trailerAt || b.trailerAt + s.rd (.tri .echoTmoTmo) c < s.now || b.echoOk.isSome then
        if ok || first then s else s.mismatch c lane false
      else if first && !ok then s
      else if ok then (s.modBlock c seq fun x => { x with echoOk := some true, echoAt := s.now, echoCrc := some crc }).tryVerdict c seq
      else
        let s := (s.modBlock c seq fun x => { x with echoOk := some false, echoAt := s.now, echoCrc := some crc }).mismatch c lane false
        let s := s.tryVerdict c seq
        if s.drives then s.resendAfter c b false estat else s)

/-- ECHO_TIMEOUT (R169, R171): no echo within TRI_ECHO_TMO of the trailer. -/
def execEchoTimeout (t : Nat) (c : Fin 4) (seq : Nat) (s : State) : Result :=
  let s := s.advance t
  match s.blockOf c seq with
  | none => .next s
  | some b =>
    if b.echoOk.isSome || s.now < b.trailerAt + s.rd (.tri .echoTmoTmo) c then .next s else
    let s := (s.modBlock c seq fun x => { x with echoOk := some false }).mismatch c b.lane false
    .next (if s.drives then s.resendAfter c b false 0xFF else s)

/-- RSACK (R167, R173). -/
def execRsack (t : Nat) (c : Fin 4) (m : List Byte) (s : State) : Result :=
  let m := m.map BitVec.toNat
  .next ((s.advance t).returnMsg c 2 m fun s =>
    let rstat := msgField m 8 1
    match s.tri[c].acks.find? fun a => a.cseq == msgField m 4 2 with
    | none => s
    | some a =>
      if rstat == 2 || rstat == 3 || (rstat == 1 && !a.replay) then s.resetFailed c a rstat
      else s.modTri c fun t => { t with acks := t.acks.filter fun x => x.cseq != a.cseq })

/-- RSACK_TIMEOUT (R173): no RSACK within 1 µs of S. -/
def execRsackTimeout (t : Nat) (c : Fin 4) (cseq : Nat) (s : State) : Result :=
  let s := s.advance t
  match s.tri[c].acks.find? fun a => a.cseq == cseq with
  | none => .next s
  | some a => .next (if s.now < a.settleAt + usCclk 1 then s else s.resetFailed c a 0xFF)

/-- STATUS (R167, R174, R176). -/
def execStatus (t : Nat) (c : Fin 4) (m : List Byte) (s : State) : Result :=
  let m := m.map BitVec.toNat
  .next ((s.advance t).returnMsg c 3 m fun s => s.takeStatus c m)

/-- TEMP (R167, R176). -/
def execTemp (t : Nat) (c : Fin 4) (m : List Byte) (s : State) : Result :=
  let m := m.map BitVec.toNat
  .next ((s.advance t).returnMsg c 4 m fun s =>
    (s.wr (.tri .tempTemp) c (msgField m 1 2)).modTri c fun t => { t with tempAt := some s.now })

/-- ALARM (R167, R176). -/
def execAlarm (t : Nat) (c : Fin 4) (m : List Byte) (s : State) : Result :=
  let m := m.map BitVec.toNat
  .next ((s.advance t).returnMsg c 5 m fun s =>
    let s := s.bump (.tri .cnt2Alarms) c
    let code := msgField m 2 2
    match msgField m 1 1 with
    | 1 => s.report .lane (laneInst c 17) 0x138A [(2, code)]
    | 2 => s.returnLaneFault c 0x438B [(2, code)]
    | _ => s)

/-- IDENT0 (R167, R168). -/
def execIdent0 (t : Nat) (c : Fin 4) (m : List Byte) (s : State) : Result :=
  let m := m.map BitVec.toNat
  .next ((s.advance t).returnMsg c 6 m fun s => s.takeIdent0 c m)

/-- IDENT1 (R167, R168). -/
def execIdent1 (t : Nat) (c : Fin 4) (m : List Byte) (s : State) : Result :=
  let m := m.map BitVec.toNat
  .next ((s.advance t).returnMsg c 7 m fun s => s.takeIdent1 c m)

/-- TRAIN (R167, R299): kind 1 gives a lane's receiver index, kind 2 its arrival offset, kind 3 the bit errors that a sweep of the
lane counts. The manual gives no unit for the offset: DESKEW and FINE are free values. -/
def execTrain (t : Nat) (c : Fin 4) (m : List Byte) (s : State) : Result :=
  let m := m.map BitVec.toNat
  .next ((s.advance t).returnMsg c 8 m fun s =>
    let lane := msgField m 1 1
    let v := msgField m 3 4
    if 17 ≤ lane then s else
    match msgField m 2 1 with
    | 1 => s.wr (.tri .laneTapRx) (dataInst c lane) v
    | 2 =>
      let d := s.freeBits 7
      let f := d.2.freeBits 4
      (f.2.wr (.tri .laneTapDeskew) (dataInst c lane) d.1).wr (.tri .laneTapFine) (dataInst c lane) f.1
    | 3 =>
      (List.range 4).foldl (fun s e =>
        if s.rd (.trn .engStatState) e == 2 && s.rd (.trn .engCtrlTarget) e == 2 && s.rd (.trn .engCtrlIdx) e == lane
            && s.rd (.trn .engCtrlCluster) e == c.val then
          (s.bumpBy (.trn .biterrCount) (72 * e) v).modEng (Fin.ofNat 6 e) fun g => { g with heard := g.heard + v }
        else s) s
    | _ => s)

/-- RETURN_LANE_LOCK_LOSS (R176): lock lost for more than 10 µs. -/
def execReturnLaneLockLoss (t : Nat) (c : Fin 4) (s : State) : Result :=
  let s := s.advance t
  .next (if !s.domOn (42 + c.val) || s.rd (.tri .stateLink) c == 0 then s
    else (s.wr (.tri .stateRetlock) c 0).returnLaneFault c 0x4388 [(1, 1)])

/-- STATUS_TIMEOUT (R176): no valid STATUS for 250 µs. -/
def execStatusTimeout (t : Nat) (c : Fin 4) (s : State) : Result :=
  let s := s.advance t
  let link := s.rd (.tri .stateLink) c
  .next (if (link != 2 && link != 3 && link != 5) || s.now < s.tri[c].statusAt + usCclk 250 then s
    else s.returnLaneFault c 0x4388 [(1, 2)])

/-- LANE_RETIRE (R174, R175): a lane's pad and echo mismatches exceed ERRLIM within 1 ms. -/
def execLaneRetire (t : Nat) (c : Fin 4) (lane : Fin 17) (s : State) : Result :=
  let s := s.advance t
  .next (if s.mismatches c lane ≤ s.rd (.tri .laneCfgErrlim) c then s else s.retireLane c lane 1)

/-- LANE_RETRAIN (R175, R301): lane RLANE is retrained alone; a working lane is never swept. -/
def execLaneRetrain (t : Nat) (c : Fin 4) (s : State) : Result :=
  let s := s.advance t
  let i := s.rd (.tri .ctrlRlane) c
  .next (if 17 ≤ i || (s.workingLanes c).contains i then s else s.modTri c fun t => { t with retrain := some i })

/-- The tail of the frame on display has begun (R119). -/
def State.inTail (s : State) (c : Fin 4) : Bool :=
  match s.shownRec c with
  | none => false
  | some f => s.chr[c].seg != 0 &&
      s.chr[c].lastF + f.sched.hdr.dump + ((segmentsOf f.sched.ents).map fun g => segLen f.sched.hdr g.2).sum ≤ s.now

/-- All bands of an array are off (R302): in a dump window, or without one in a tail of at least 2 µs. -/
def State.bandsOffNow (s : State) (c : Fin 4) : Bool :=
  !s.chr[c].running || match s.shownRec c with
    | none => true
    | some f => if f.sched.hdr.dump == 0 then s.inTail c && 3200 ≤ f.sched.hdr.tail else s.chr[c].seg == 0

/-- LANE_RETRAIN_DONE (R175, R309): the retrained lane's chosen (PRE, POST), which apply at a Trioc boundary and not before it (R302), or none where
no tap passes. -/
def execLaneRetrainDone (t : Nat) (c : Fin 4) (taps : Option (Nat × Nat)) (s : State) : Result :=
  let s := s.advance t
  match s.tri[c].retrain with
  | none => .next s
  | some i =>
    if taps.isSome && !s.bandsOffNow c then .next s else
    let s := s.modTri c fun t => { t with retrain := none }
    match taps with
    | none => .next (s.noTapEvent 0 (2 + i * 256 + c.val * 65536))
    | some x =>
      let s := s.setTaps c i x.1 x.2
      let l := s.workingLanes c ++ [i]
      let s := s.setWorking c l
      let s := s.modTri c fun t => { t with mism := t.mism.filter fun y => y.1 != i, laneFree := t.laneFree.set! i s.now, lfsr := t.lfsr.set! i (laneSeed i) }
      let s := if s.tri[c].active.length < 16 then s.setActive c (s.tri[c].active ++ [i]) else s
      let s := if 16 ≤ l.length then s.wr (.tri .stateRreq) c 0 else s
      let s := s.report .lane (laneInst c i) 0x138C [(1, i)]
      .next (s.almRequest (0x0010 + c.val) (s.triocTapsPayload c))

/-- The bring-up of a cluster's link, from power to data mode. -/
def State.bringUp (s : State) (c : Fin 4) (r : BringUp) : State :=
  if !s.clusterOn c || !s.cfg[c].present then s else
  let s := (s.powerOn (2 ^ (42 + c.val))).wr (.tri .stateLink) c 1
  if !r.retlock || r.state2 != 1 then s.returnLaneFault c 0x4388 [(1, 3)] else
  let s := ((s.wr (.tri .stateRetlock) c 1).setWorking c ((List.range 17).filter (bit r.locks))).takeIdent0 c r.ident0
  if s.rd (.tri .stateLink) c == 4 then s else (s.takeIdent1 c r.ident1).linkUp c r

/-- TRIOC_BRINGUP ("Bring-up", R154 to R156, R165, R168, R174, R175, R308). -/
def execTriocBringup (t : Nat) (c : Fin 4) (r : BringUp) (s : State) : Result := .next ((s.advance t).bringUp c r)

end Sys2Proof.Machine
end

