-- ==== Sys2Proof/Machine/DetectRows.lean ====
section
/-! DEFINITION. HBM_DETECTION_ERROR with the outcome at each reader (R268 to R270). -/

namespace Sys2Proof.Machine

/-- HBM_DETECTION_ERROR (R96, R268 to R270, R282): a read burst fails its check, by the partition read and its reader. A plane read's band is recomputed,
a PSR2 copy's frame discarded and a reaffirm list refused, each with its own event. -/
def execHbmDetectionError (t addr : Nat) (reader : HbmReader) (s : State) : Result :=
  let s := s.advance t
  let a := addr % hbmEnd
  .next <| match reader with
    | .plane c frame prim bitn piece band =>
      let s := s.detectionError a 0 (s.srcPath .pln c band)
      match s.frameRec c frame with
      | some f =>
        if f.kind != .composed || 3 ≤ prim || 16 ≤ bitn || s.cfg[c].bands ≤ band then s else s.failBand c f prim bitn piece band none
      | none => s
    | .layer c l => (s.detectionError a 2 (s.srcPath .layer (layerInst c l) 0xFF)).layerReadError c l a
    | .copy i => (s.detectionError a 3 (s.srcPath .dpr i 0xFF)).discardFrame i
    | .bar2 => (s.detectionError a 4 (s.srcPath .pci 0 0xFF)).report2641 a 4
    | .list c => (s.detectionError a 6 (s.srcPath .frsEng 0 0xFF)).listFailed c
    | .mesh c => (s.detectionError a 2 (s.srcPath .geo c 0xFF)).meshLoadError c a
    | .archive => ((s.detectionError a 5 (s.srcPath .arc 0 0xFF)).ringError (s.kindAt a)).report2641 a 5
    | .observer => (s.detectionError a 6 (s.srcPath .obs 0 0xFF)).report2641 a 6

end Sys2Proof.Machine
end

