-- ==== Sys2Proof/Machine/HelRows.lean ====
section
/-! DEFINITION. Heliostat commands: samples, outputs, the colour sensor and cooling (R212 to R233). -/

namespace Sys2Proof.Machine
namespace State

/-- A transaction's command bytes go out, one bit per SCLK; its result is there once its last bit has come (R230). -/
def sendSpi (s : State) (c : Fin 4) (p : Fin 3) : State :=
  let i := c.val * 3 + p.val
  let div := 2 * (s.rd (.hel .csCfgDiv) c + 1)
  let n := min 4 (s.rd (.hel .csTxnCmdlen) i) + clampN 2 8 (s.rd (.hel .csTxnRdlen) i)
  let s := s.modHel c fun h => { h with csReadyAt := s.now + 8 * n * div * 64 }
  s.emit (.spi c (s.rd (.hel .csCfgSpimode) c) div ((leBytes 4 (s.rd (.hel .csCmdCmd) i)).take (min 4 (s.rd (.hel .csTxnCmdlen) i))) (clampN 2 8 (s.rd (.hel .csTxnRdlen) i)))

/-- A primary's transaction leaves the port, and the next that waits starts (R230). -/
def endSpi (s : State) (c : Fin 4) (p : Fin 3) : State :=
  let was := s.hel[c].csBusy
  let now := was.filter fun q => q != p.val
  let s := s.modHel c fun h => { h with csBusy := now }
  match was, now with
  | w :: _, n :: _ => if w == p.val then s.sendSpi c (Fin.ofNat 3 n) else s
  | _, _ => s

/-- HEL_CS_RAW is written while the port is off (R230): a byte goes over the port, and DATA holds the byte that came back, which is the sensor's (free).
DESIGN CHOICE, log entry 113: one byte, DATA[7:0], per write. While EN = 1 nothing is sent. -/
def rawSpi (s : State) (c : Fin 4) : State :=
  if s.on (.hel .csCfgEn) c then s else
  let s := s.emit (.spi c (s.rd (.hel .csCfgSpimode) c) (2 * (s.rd (.hel .csCfgDiv) c + 1)) [s.rd (.hel .csRawData) c % 256] 1)
  let f := s.freeBits 8
  f.2.wr (.hel .csRawData) c f.1

/-- The valid bit of a primary and the longest run of invalid frames. -/
def showCs (s : State) (c : Fin 4) (p : Fin 3) (ok : Bool) : State :=
  let s := s.wr (.hel .csStatValid) c (putBit (s.rd (.hel .csStatValid) c) p.val ok)
  s.wr (.hel .csStatRun) c (satN 8 ((s.hel[c].csRun.toList).foldl max 0))

/-- A colour result is invalid (R231): cause 1 timeout, 2 too little light. -/
def csInvalid (s : State) (c : Fin 4) (p : Fin 3) (cause : Nat) : State :=
  let n := s.hel[c].csRun[p] + 1
  let s := (s.modHel c fun h => { h with csRun := h.csRun.set p n, csMeas := h.csMeas.set p none }).showCs c p false
  if n != 16 then s else
  let s := s.modHel c fun h => { h with csDegr := true }
  let mask := maskOf 3 fun q => 16 ≤ s.hel[c].csRun.toList.getD q 0
  (s.report .cs c 0x2441 [(1, mask), (1, cause)]).wr (.st .cs .degr) c 1

/-- A transaction starts or waits its turn (R230): one of the same primary that has not completed is abandoned, and its result is invalid. The light
fraction is that of the primary's last segment (R231). -/
def startTxn (s : State) (c : Fin 4) (p : Fin 3) : State :=
  let s := if s.hel[c].csBusy.contains p.val then ((s.endSpi c p).bump (.hel .csStatMisscnt) c).csInvalid c p 1 else s
  let idle := s.hel[c].csBusy.isEmpty
  let s := s.modHel c fun h =>
    { h with csBusy := h.csBusy ++ [p.val], csDue := h.csDue.set p none, csTxnFrac := h.csTxnFrac.set p h.csFrac[p] }
  if idle then s.sendSpi c p else s

/-- A colour result is valid (R231), and strobe CSRp fires. -/
def csValid (s : State) (c : Fin 4) (p : Fin 3) (m : Nat) : State :=
  let s := (s.modHel c fun h => { h with csRun := h.csRun.set p 0, csMeas := h.csMeas.set p (some m) }).showCs c p true
  let s := s.strobe c (5 + p.val) p.val s.now
  if !s.hel[c].csDegr then s else
  let s := (s.modHel c fun h => { h with csDegr := false }).wr (.st .cs .degr) c 0
  s.report .cs c 0x1442 [(4, s.lastFrame c)]

end State

/-- HELIOSTAT_SAMPLE (R212 to R228): a trigger of a slot, at an instant at which R213 gives it one; `code` is the PD code that has reached the slot,
none where its word was discarded. A stopped slot neither evaluates nor counts an overrun; an invalid colour result gives no sample. -/
def execHeliostatSample (t : Nat) (c : Fin 4) (i : Fin 16) (code : Option Nat) (s : State) : Result :=
  let s := (s.advance t).arriveStrobes c
  let j := slotInst c i
  if !s.unitRun .slot j || s.hel[c].slots[i].stopped || !s.slotTriggers c i then .next s else
  let s := s.flushOut c i
  if s.tooSoon c i then .next (s.overrun c i)
  else if (s.slotMeas c j 0).isNone then .next s
  else .next (s.acceptSample c i code)

/-- SLOT_OUTPUT_WRITE (R214): the output of the last accepted sample is written at strobe + PHASE. -/
def execSlotOutputWrite (t : Nat) (c : Fin 4) (i : Fin 16) (s : State) : Result :=
  let s := s.advance t
  .next (s.flushOut c i)

/-- SATFAULT_CLEAR (R228): SATCLR is written. -/
def execSatfaultClear (t : Nat) (c : Fin 4) (i : Fin 16) (s : State) : Result :=
  let s := s.advance t
  .next (s.clearSatfault c i)

/-- COLOUR_SENSOR_TXN (R230): a primary's transaction falls due, DLY × 64 CCLK after the end of its last segment of the frame. Those that fall due at
one instant start together, in primary order. -/
def execColourSensorTxn (t : Nat) (c : Fin 4) (p : Fin 3) (s : State) : Result :=
  let s := s.advance t
  if !s.unitRun .cs c || s.hel[c].csDue[p] != some s.now then .next s else
  .next ((allPrims.filter fun q => s.hel[c].csDue[q] == some s.now).foldl (fun s q => s.startTxn c q) s)

/-- COLOUR_RESULT_READY (R230, R231): the read bytes of the transaction in progress, once its last bit has come. -/
def execColourResultReady (t : Nat) (c : Fin 4) (p : Fin 3) (data : List Byte) (s : State) : Result :=
  let s := s.advance t
  if s.hel[c].csBusy.head? != some p.val || s.now < s.hel[c].csReadyAt then .next s else
  let i := c.val * 3 + p.val
  let o := s.rd (.hel .csTxnRdofs) i
  let b := data.map BitVec.toNat
  let word := 256 * b.getD o 0 + b.getD (o + 1) 0
  let s := (s.endSpi c p).wr (.hel .csResWord) i word
  let f := s.hel[c].csTxnFrac[p]
  let lit := s.dimEff c != 0 && !s.on (.lsr .outLightoff) c
  .next (match (if lit then csNormalise word f else none) with
    | some m => s.csValid c p m
    | none => s.csInvalid c p 2)

/-- A period of a cooling output in CCLK (R233): FREQ kHz, held to 10 to 50. -/
def pwmPeriod (freq : Nat) : Nat := 1600000 / clampN 10 50 freq

/-- PWM_PERIOD (R233): a period starts, once the last one is over, and the latest duty takes effect; without a slot that drives the output, or with one FATAL or
stopped in SATFAULT, the output is forced to full duty. -/
def execPwmPeriod (t : Nat) (c : Fin 4) (i : Fin 2) (s : State) : Result :=
  let s := s.advance t
  let j := c.val * 2 + i.val
  let freq := clampN 10 50 (s.rd (.hel .pwmCfgFreq) c)
  if (match s.hel[c].pwmAt[i] with | some p => decide (s.now < p + pwmPeriod freq) | none => false) then .next s else
  let s := s.modHel c fun h => { h with pwmAt := h.pwmAt.set i (some s.now) }
  let drv := allSlots.find? fun n => s.unitEn .slot (slotInst c n) && (s.slotDests (slotInst c n)).contains (2, i.val)
  let full := !s.domOn (9 + c.val) || s.halted .pwm j || match drv with
    | none => true
    | some n => s.halted .slot (slotInst c n) || s.hel[c].slots[n].stopped
  let duty := if full then 0xFFFF else s.hel[c].pwmNext[i]
  let was := s.on (.hel .pwmFull) j
  let s := (s.wr (.hel .pwmDuty) j duty).wrb (.hel .pwmFull) j full
  let s := if was == full then s else
    let f := s.freeBits 8
    f.2.report .pwm j 0x1481 [(1, b2n full), (1, f.1)]
  .next (if s.drives then s.emit (.pwm c i freq duty) else s)

end Sys2Proof.Machine
end

