-- ==== Sys2Proof/Machine/HostRows.lean ====
section
/-! DEFINITION. Host interface commands: PCI Express, event ring, firmware, tags, telemetry, SMBus reads, debug UART (R375 to
R392). -/

namespace Sys2Proof.Machine

namespace State

/-- Set instances 0 to n − 1 of fields back to their reset values. -/
def resetFlds (s : State) (l : List (Fld × Nat)) : State :=
  l.foldl (fun s x => (List.range x.2).foldl (fun s i => s.wr x.1 i (resetOf x.1 i)) s) s

/-- The registers that an endpoint reset returns to their tables' values (R442). -/
def endpointFlds : List (Fld × Nat) :=
  [(Fld.pci .evrBaseAddr, 1), (Fld.pci .evrCfgEn, 1), (Fld.pci .evrCfgLog2n, 1), (Fld.pci .evrCfgClassmask, 1),
   (Fld.pci .evrCfgThresh, 1), (Fld.pci .evrCfgMod, 1), (Fld.pci .evrProdProd, 1), (Fld.pci .evrConsCons, 1),
   (Fld.pci .vecEnMrd, 1), (Fld.pci .vecEnCommit, 1), (Fld.pci .vecEnRetire, 1), (Fld.obs .cmdCmd, 1)]
  ++ [(Fld.obs .cmdTag, 1), (Fld.obs .argArg, 6), (Fld.obs .haddrAddr, 1), (Fld.obs .hlenLen, 1), (Fld.obs .statusBusy, 1),
   (Fld.obs .statusDone, 1), (Fld.obs .statusCollide, 1), (Fld.obs .replyStatus, 1), (Fld.obs .replyTag, 1),
   (Fld.obs .replyLenLen, 1), (Fld.obs .retryMs, 1), (Fld.obs .detailDetail, 1)]

/-- The endpoint's own state is reset: configuration space, MSI-X, event-ring configuration and mailbox registers; a reply
in preparation and open upload sessions are lost (R56, R379). -/
def endpointReset (s : State) : State :=
  { s.resetFlds endpointFlds with
    host := { s.host with d3hot := false, busMaster := false, vecMask := 0, vecPend := 0, unsignalled := 0,
                          firstUnsig := none, fwUp := none, ephUp := none, bar2Log := 34 } }

/-- A refused upload: EPH_REJECT records the reason with SOURCE 2, and the mailbox answers REFUSED (R386). -/
def uploadRefused (s : State) (reason : Nat) : State × Reply :=
  ((((s.wr (.eph .rejectReason) 0 reason).wr (.eph .rejectSource) 0 2).wr (.eph .rejectSection) 0 0).wr (.eph .rejectIdxIdx) 0 0,
    .fail 5 reason)

/-- One page of an upload session (R386): BUSY until the erase has passed it; ascending order, a repeat of the last page
with identical bytes being answered OK; a failed program is reason 0x24. -/
def uploadPage (s : State) (u : Upload) (off : Nat) (data : List Nat) (progOk : Bool) : Option (Upload × State × Reply) :=
  if !u.erased then some (u, (s.wr (.obs .retryMs) 0 s.retryMs), .fail 1 0)
  else if 0 < u.next && off + 4096 == u.next && data == u.lastPage then some (u, s, .ok)
  else if off != u.next || u.length ≤ off then none
  else if !progOk then
    let r := s.uploadRefused 0x24
    some (u, r.1, r.2)
  else
    some ({ u with next := off + 4096, lastPage := data, bytes := u.bytes ++ data.take (u.length - off) }, s, .ok)

end State

/-- The kind code of an endpoint reset in event 0x1843. -/
def PciReset.code : PciReset → Nat
  | .flr => 0
  | .hot => 1
  | .perst => 2

/-- PCIE_RESET (R379): only the endpoint's own state resets; event 0x1843. -/
def execPcieReset (t : Nat) (kind : PciReset) (s : State) : Result :=
  .next ((s.advance t).endpointReset.report .pci 0 0x1843 [(1, kind.code)])

/-- PCIE_LINK_LOSS (R379): a link that is up goes down, the endpoint resets, event 0x2842 with the last rate and width. -/
def execPcieLinkLoss (t : Nat) (s : State) : Result :=
  let s := s.advance t
  if !s.on (.pci .linkUp) 0 then .next s else
  let items := [(1, s.rd (.pci .linkSpeed) 0), (1, s.rd (.pci .linkWidth) 0)]
  .next ((s.endpointReset.wr (.pci .linkUp) 0 0).report .pci 0 0x2842 items)

/-- PCIE_LINK_UP (R376): with PD02 on, the link is up at one of the rates and widths that the endpoint supports; event 0x1841. -/
def execPcieLinkUp (t : Nat) (speed : Fin 5) (width : Nat) (s : State) : Result :=
  let s := s.advance t
  if !s.domOn 2 || speed.val == 0 || !([1, 2, 4, 8] : List Nat).contains width then .next s else
  let s := ((s.wr (.pci .linkSpeed) 0 speed.val).wr (.pci .linkWidth) 0 width).wr (.pci .linkUp) 0 1
  .next (s.report .pci 0 0x1841 [(1, speed.val), (1, width)])

/-- PCIE_CONFIG_WRITE (R379, R380): D-state, Bus Master Enable or the MSI-X Function Mask; unmasked pending vectors are
signalled. -/
def execPcieConfigWrite (t : Nat) (w : PciConfig) (s : State) : Result :=
  let s := s.advance t
  match w with
  | .d3hot v => .next { s with host := { s.host with d3hot := v } }
  | .busMaster v => .next { s with host := { s.host with busMaster := v } }
  | .bar2Size n => .next { s with host := { s.host with bar2Log := 28 + n.val } }
  | .functionMask true => .next { s with host := { s.host with vecMask := 2 ^ 64 - 1 } }
  | .functionMask false =>
    let pend := s.host.vecPend
    let s := { s with host := { s.host with vecMask := 0, vecPend := 0 } }
    .next ((List.range 64).foldl (fun s n => if bit pend n then s.signal n else s) s)

/-- EVR_MODERATION_TIMEOUT (R381): MOD × 10 µs after the first unsignalled entry. -/
def execEvrModerationTimeout (t : Nat) (s : State) : Result :=
  let s := s.advance t
  match s.host.firstUnsig with
  | some f => .next (if f + usCclk (10 * s.rd (.pci .evrCfgMod) 0) ≤ s.now then s.evrSignal else s)
  | none => .next s

/-- VERSION (R385): firmware version, build and capability bits; the manual does not state the bits, which are a free
value. -/
def execVersion (t : Nat) (m : MailReq) (s : State) : Result :=
  .next ((s.advance t).mailbox 0x0001 m [] [] false fun s =>
    let fw := s.host.fw[Fin.ofNat 2 s.host.fwRun]
    let cap := s.freeBits 32
    (cap.2, { Reply.ok with page := leBytes 2 fw.version ++ leBytes 4 fw.build ++ leBytes 4 cap.1 }))

/-- FW_UPDATE_BEGIN (R386, R391): an upload to the copy that is not running; its erase starts. -/
def execFwUpdateBegin (t : Nat) (m : MailReq) (length : Nat) (s : State) : Result :=
  .next ((s.advance t).mailbox 0x0121 m [length] [] false fun s =>
    if length == 0 || 0x800000 < length then (s, .fail 4 0)
    else
      let i : Fin 2 := Fin.ofNat 2 (1 - s.host.fwRun)
      ({ s with host := { s.host with fw := s.host.fw.set i ⟨0, 0, false⟩,
                                      fwUp := some ⟨.firmware, length, 0, [], [], false⟩ } }, .ok))

/-- FW_UPDATE_PAGE (R386): one page in ascending order; `progOk` says whether the flash program succeeded. -/
def execFwUpdatePage (t : Nat) (m : MailReq) (off : Nat) (data : List Byte) (progOk : Bool) (s : State) : Result :=
  .next ((s.advance t).mailbox 0x0122 m [off] (data.map BitVec.toNat) false fun s =>
    match s.host.fwUp with
    | none => s.uploadRefused 0x25
    | some u => match s.uploadPage u off (data.map BitVec.toNat) progOk with
      | some (u', s', r) => ({ s' with host := { s'.host with fwUp := some u' } }, r)
      | none => s.uploadRefused 0x25)

/-- FW_UPDATE_END (R391): a complete upload becomes the copy; what its content is (version, build, whether it
authenticates) comes with the command. It takes effect at the next start; event 0x18C2. -/
def execFwUpdateEnd (t : Nat) (m : MailReq) (copy : FwCopy) (s : State) : Result :=
  .next ((s.advance t).mailbox 0x0123 m [] [] false fun s =>
    match s.host.fwUp with
    | none => s.uploadRefused 0x25
    | some u =>
      if u.next < u.length then s.uploadRefused 0x25
      else
        let i : Fin 2 := Fin.ofNat 2 (1 - s.host.fwRun)
        let s := { s with host := { s.host with fw := s.host.fw.set i copy, fwUp := none } }
        (s.report .obs 0 0x18C2 [(1, i.val), (2, copy.version)], { Reply.ok with detail := i.val }))

/-- FLASH_ERASE_DONE (R386): the erase that an upload's BEGIN started completes. -/
def execFlashEraseDone (t : Nat) (firmware : Bool) (s : State) : Result :=
  let s := s.advance t
  let done := fun (u : Upload) => { u with erased := true }
  .next { s with host := if firmware then { s.host with fwUp := s.host.fwUp.map done }
                         else { s.host with ephUp := s.host.ephUp.map done } }

/-- TAG_READ (R388): the tag a source path selects. -/
def execTagRead (t : Nat) (m : MailReq) (path : Nat) (s : State) : Result :=
  .next ((s.advance t).mailbox 0x0201 m [path] [] false fun s =>
    match s.tagKind path with
    | some k => (s, { Reply.ok with page := s.tagBytes k })
    | none => (s, .fail 7 0))

/-- TAG_WRITE (R30 to R32, R388). -/
def execTagWrite (t : Nat) (m : MailReq) (path : Nat) (data : List Byte) (s : State) : Result :=
  .next ((s.advance t).mailbox 0x0202 m [path, data.length] (data.map BitVec.toNat) false fun s =>
    s.writeTag path (data.map BitVec.toNat))

/-- TELEMETRY (R385): temperatures, VIN, power, domain and PLL state, each register whole; BUSY while telemetry is shed (R423, R425). DESIGN
CHOICE (log entry 122). -/
def execTelemetry (t : Nat) (m : MailReq) (s : State) : Result :=
  .next ((s.advance t).mailbox 0x0601 m [] [] false fun s =>
    if !s.duty 3 then (s.wr (.obs .retryMs) 0 s.retryMs, .fail 1 0) else
    let page :=
      leBytes 2 (s.rd (.pwr .tempCompute) 0) ++ leBytes 2 (s.rd (.pwr .tempIo) 0) ++ leBytes 2 (s.rd (.pwr .temp2Hbm) 0)
        ++ leBytes 2 (s.rd (.pwr .temp2Max) 0) ++ leBytes 2 (s.rd (.pwr .vinVin) 0) ++ leBytes 2 (s.rd (.pwr .vinIin) 0)
        ++ leBytes 2 (s.rd (.pwr .powerPin) 0) ++ leBytes 2 (s.rd (.pwr .powerPmax) 0) ++ leBytes 8 (s.rd (.pwr .domOnOn) 0)
        ++ [s.rd (.pwr .pllLock) 0, s.rd (.pwr .pllUnlocks) 0]
    (s, { Reply.ok with page := page }))

/-- An SMBus write that the target ignores: event 0x19C1 with the command and the cause, 1 PEC, 2 unknown, 3 key
(R389). -/
def State.smbIgnored (s : State) (cmd cause : Nat) : State := s.report .ls 0 0x19C1 [(2, cmd), (1, cause)]

/-- SMBUS_STATUS_READ (R389): command 0x10 as a block read returns the status window; as a write it is unknown. -/
def execSmbusStatusRead (t : Nat) (write : Bool) (s : State) : Result :=
  let s := s.advance t
  if s.rd (.pwr .stateState) 0 == 3 then .next s else
  .next (if write then s.smbIgnored 0x10 2 else s.emit (.smbus s.smbWindow))

/-- SMBUS_TAG_READ (R389): commands 0x20 to 0x27 return 32 bytes of the package tag's copy; as a write they are unknown. -/
def execSmbusTagRead (t : Nat) (i : Fin 8) (write : Bool) (s : State) : Result :=
  let s := s.advance t
  if s.rd (.pwr .stateState) 0 == 3 then .next s else
  .next (if write then s.smbIgnored (0x20 + i.val) 2
    else s.emit (.smbus ((s.host.smbTag.drop (32 * i.val)).take 32)))

/-- UART_RECEIVE (R392): a byte is accepted only while the debug port is open for a scope, and discarded otherwise. -/
def execUartReceive (t : Nat) (byte : Byte) (s : State) : Result :=
  let s := s.advance t
  .next (if s.on (.eph .dbgOpen) 0 && s.rd (.eph .dbgScope) 0 != 0 then s.emit (.uart byte.toNat) else s)

end Sys2Proof.Machine
end

