-- ==== Sys2Proof/Machine/LightRows.lean ====
section
/-! DEFINITION. Laser channel, lamp line, interlock and thermistor commands (R177 to R210). -/

namespace Sys2Proof.Machine
namespace State

/-- The set-point of the slot that measures a channel, in PD counts (R196). -/
def setPointPd (s : State) (c : Fin 4) (k : Fin 6) : Option Nat :=
  (allSlots.find? fun i =>
    let j := slotInst c i
    s.on (.hel .slotCtrlEn) j && s.rd (.hel .routeMtype) j == 1 && s.rd (.hel .routeMidx) j == k.val).map fun i =>
      let j := slotInst c i
      let r := s.rdI (.hel .spwR) j
      let ofs := s.rdI (.hel .inOfs) j
      (if r < 0 then ofs else ofs + (r + 65536) / 2 ^ 17).toNat

/-- The string voltage expected of a count of emitters (R196). -/
def vExp (s : State) (c : Fin 4) (k : Fin 6) (nlit : Nat) : Nat :=
  nlit * s.light[c].chans[k].front.vstep + s.light[c].chans[k].front.vofs

/-- The board of a channel on the lamp line. -/
def boardOf (s : State) (c : Fin 4) (k : Fin 6) : Nat := s.light[c].boards.findIdx fun b => b.chan == k.val

/-- A pattern is loaded again, or after the second load was not taken the channel fails (R195, R197). -/
def patternBad (s : State) (c : Fin 4) (k : Fin 6) (rng : LampRange) : State :=
  let code := match rng with | .high => 0 | .low => 1
  if s.light[c].chans[k].retried.contains rng then
    let s := (s.bump (.lsr .lampNottaken) c).reportSub .lamp c (s.boardOf c k) 0x2541 [(1, code)]
    s.channelFault c k 5
  else
    let s := s.modChan c k fun x => { x with retried := rng :: x.retried, checkDue := x.checkDue.filter fun y => y.1 != rng, pattern := 0 }
    let s := s.modLight c fun l => match rng with
      | .high => { l with pendHigh := true }
      | .low => { l with pendLow := true }
    ((s.showPend c).bump (.lsr .lampReloads) c).report .lamp c 0x1542 [(1, code)]

/-- The criteria of R197 on one window: the fault decided, if any, and the state with the consecutive windows counted. `miss` is the
missing-light criterion. A pattern that is to be loaded again is not judged until it is (R195). -/
def windowFault (s : State) (c : Fin 4) (k : Fin 6) (pd vstr ve : Nat) (miss : Bool) (rng : LampRange) : Option Nat × State :=
  let x := s.light[c].chans[k]
  let step := x.front.vstep
  let comp := x.front.vcomp
  let sh := if 2 * vstr + step < 2 * ve then x.shorts + 1 else 0
  let mi := if miss && vstr < comp then x.missing + 1 else 0
  let again := x.retried.contains rng && !x.checkDue.any fun y => y.1 == rng
  let pa := if !again && vstr < comp && 2 * ve + step < 2 * vstr then x.pattern + 1 else 0
  let s := s.modChan c k fun y => { y with shorts := sh, missing := mi, pattern := pa }
  (if comp ≤ vstr && pd < x.front.dark then some 1 else if 3 ≤ sh then some 2 else if 3 ≤ mi then some 3
    else if 3 ≤ pa then some 5 else none, s)

/-- The event of a decided fault (R197). -/
def faultEvent (s : State) (c : Fin 4) (k : Fin 6) (cause pd expd vstr ve : Nat) (diag : Bool) : State :=
  let i := chanInst c k
  let f := s.shownFrame c
  match cause with
  | 1 => s.report .lsrCh i 0x23C1 [(4, f), (1, if diag then 2 else 1)]
  | 2 => s.report .lsrCh i 0x23C2 [(4, roundQ (ve - vstr) s.light[c].chans[k].front.vstep), (4, f)]
  | 3 => s.report .lsrCh i 0x23C3 [(2, pd), (2, expd)]
  | _ => s

/-- A window of a lit pulse or of a diagnostic pulse is judged (R195 to R205). -/
def judgeWindow (s : State) (c : Fin 4) (k : Fin 6) (pd vstr : Nat) (last : Bool) : State :=
  let i := chanInst c k
  let x := s.light[c].chans[k]
  let diag := x.diagOn
  let s := s.wr (.lsr .vstrOfsVstr) i vstr
  match x.search with
  | some sr =>
    if !diag || x.diagDone || !x.diagTaken || sr.bypassed.isEmpty || (sr.short && !last) then s else s.searchJudge c k sr pd vstr
  | none =>
    if diag && x.diagDone then s else
    let hi := diag || s.rangeAt c
    let expd := if diag then some (s.rd (.lsr .diagCfgPdexp) i) else s.setPointPd c k
    let miss := match expd with | some e => decide (pd * 256 < e * x.front.missfrac) | none => false
    let rng := if hi then LampRange.high else LampRange.low
    let check := x.checkDue.find? fun y => y.1 == rng
    let due := check.isSome
    let ve := s.vExp c k ((check.map Prod.snd).getD (s.rd (if hi then .lsr .chStateNlitH else .lsr .chStateNlitL) i))
    let off := x.front.vstep ≤ 2 * (max ve vstr - min ve vstr)
    if due && off then s.patternBad c k rng
    else
      let s := if due then s.modChan c k fun y => { y with checkDue := y.checkDue.filter fun z => z.1 != rng, retried := y.retried.filter fun r => r != rng } else s
      let v := s.windowFault c k pd vstr ve miss rng
      match v.1 with
      | none => if diag && last then v.2.diagPass c k else v.2
      | some cause =>
        let st := s.chState c k
        let s := (v.2.modChan c k fun y => { y with diagDone := true }).cutDiag c k
        if st == 5 then s.modChan c k fun y => { y with rearm := false, diagNow := false }
        else if st == 4 then s.modChan c k fun y => { y with diagNow := false }
        else if cause == 5 then s.patternBad c k rng
        else (s.faultEvent c k cause pd (expd.getD 0) vstr ve diag).channelFault c k cause

/-- A thermistor reading outside its range, or back inside it (R189). -/
def tsenValidity (s : State) (c : Fin 4) (i : Fin 4) (raw : Nat) (ok : Bool) : State :=
  let was := !s.light[c].tsenBad[i]
  let s := (s.modLight c fun l => { l with tsenBad := l.tsenBad.set i (!ok) }).wrb (.lsr .tsenValid) (c.val * 4 + i.val) ok
  if was && !ok then s.report .tsen (c.val * 4 + i.val) 0x24C1 [(2, raw)] else s

/-- What a bank's temperature does to it (R187). -/
def bankTemp (s : State) (c : Fin 4) (k : Fin 6) (t : Int) : State :=
  let i := chanInst c k
  let knee : Int := s.rd (.lsr .thermTknee) i
  let cut : Int := s.rd (.lsr .thermTcut) i
  let s := if knee < t && !s.light[c].chans[k].derated then
      (s.modChan c k fun x => { x with derated := true }).report .lsrCh i 0x23C8 [(2, unsigned 16 t), (2, s.derOf c k)]
    else if t < knee - 32 && s.light[c].chans[k].derated then
      (s.modChan c k fun x => { x with derated := false }).report .lsrCh i 0x13C9 [(2, unsigned 16 t)]
    else s
  let x := s.light[c].chans[k]
  let st := s.chState c k
  if cut ≤ t && (st == 2 || st == 3 || st == 4 || (st == 5 && !x.thermal && (x.search.isSome || x.rearm))) then
    (s.report .lsrCh i 0x23CA [(2, unsigned 16 t)]).channelFault c k 4
  else s

end State

/-- INTERLOCK_TRIP (R180): a falling edge on INTLK. -/
def execInterlockTrip (t : Nat) (c : Fin 4) (s : State) : Result :=
  let s := s.advance t
  let s := (s.modLight c fun l => { l with intlkSince := none }).wr (.lsr .intlkIn) c 0
  if !s.clusterOn c then .next s else
  let was := s.on (.lsr .intlkTripped) c
  let s := (s.wr (.lsr .intlkTripped) c 1).lightGoesOff c true
  .next (if was then s else (s.bump (.lsr .intlkTrips) c).report .intlk c 0x2501 [(4, s.shownFrame c)])

/-- INTERLOCK_REARM (R180): `high` is how long INTLK has been high without a break, in CCLK. -/
def execInterlockRearm (t : Nat) (c : Fin 4) (high : Nat) (s : State) : Result :=
  let s := s.advance t
  let s := (s.modLight c fun l => { l with intlkSince := if high == 0 then none else some (s.now - high) }).wrb (.lsr .intlkIn) c (high != 0)
  if high < msCclk 100 || !s.on (.lsr .intlkTripped) c then .next s else
  let s := (s.wr (.lsr .intlkTripped) c 0).showOut c
  let s := if s.on (.lsr .outLightoff) c then s else s.startFade c .start
  .next (s.report .intlk c 0x1502 [(4, high / msCclk 1)])

/-- OUTPUT_STOP (R185, R186): a stop fade to 0. -/
def execOutputStop (t : Nat) (c : Fin 4) (s : State) : Result :=
  let s := s.advance t
  .next (if s.on (.lsr .outStopped) c then s else s.beginStop c)

/-- OUTPUT_REARM (R186, R205): clears a stop, and a light-off by policy when every primary has a usable bank. -/
def execOutputRearm (t : Nat) (c : Fin 4) (s : State) : Result :=
  let s := s.advance t
  let stopped := s.on (.lsr .outStopped) c
  let policy := s.light[c].policyOff
  if (!stopped && !policy) || (policy && !s.everyPrimary c) then .next s else
  let s := ((s.modLight c fun l => { l with policyOff := false }).wr (.lsr .outStopped) c 0).fillPrimaries c
  let s := s.showOut c
  .next (if s.on (.lsr .outLightoff) c then s else s.startFade c .start)

/-- CHANNEL_REARM (R187, R205): a FAILED channel queues a diagnostic pulse with its bad emitters bypassed, unless its bank is still too hot. DESIGN CHOICE (log
entry 136): a re-arm while the channel's search runs waits for the end of the search, whose patterns it leaves as they are. -/
def execChannelRearm (t : Nat) (c : Fin 4) (k : Fin 6) (s : State) : Result :=
  let s := s.advance t
  let i := chanInst c k
  let j : Fin 4 := Fin.ofNat 4 (s.rd (.lsr .bankTsen) i)
  let hot := s.light[c].chans[k].thermal && (s.rd (.lsr .thermTcut) i : Int) - 80 ≤ s.tsenMean c j
  let w := s.bypassBad c k
  .next (if s.chState c k != 5 || hot then s else
    let s := (s.modChan c k fun x => { x with rearm := true }).askRun 3 c k s.now
    if s.light[c].chans[k].search.isSome then s else s.wantPatterns c k w.1 w.2)

/-- DIAGNOW (R198): a diagnostic pulse in the next dump window. -/
def execDiagnow (t : Nat) (c : Fin 4) (k : Fin 6) (s : State) : Result :=
  .next ((s.advance t).modChan c k fun x => { x with diagNow := true })

/-- THERMISTOR_SAMPLE (R187 to R189, R213): the raw code and the temperature in 1/16 °C; strobe TSR of the thermistor fires. -/
def execThermistorSample (t : Nat) (c i : Fin 4) (raw : Nat) (temp : Int) (s : State) : Result :=
  let s := s.advance t
  if !s.domOn (9 + c.val) || s.halted .tsen (c.val * 4 + i.val) then .next s else
  let ok := -320 ≤ temp && temp ≤ 2400
  let s := (s.wrI (.lsr .tsenTemp) (c.val * 4 + i.val) temp).tsenValidity c i raw ok
  let s := if ok then s.modLight c fun l => { l with tsen := l.tsen.set i ((temp :: l.tsen[i]).take 1000) } else s
  let mine := allChans.filter fun k => s.rd (.lsr .bankTsen) (chanInst c k) == i.val && s.chState c k != 0
  let s := s.strobe c (8 + i.val) 0 s.now
  let s := if ok then mine.foldl (fun s k => s.bankTemp c k (s.tsenMean c i)) s else s
  .next (s.updateCeiling c)

/-- LAMP_FRAME_SEND (R190, R191, R194): the frame of one range, once the previous load has been latched and the line has been low for 10 µs. -/
def execLampFrameSend (t : Nat) (c : Fin 4) (high : Bool) (s : State) : Result :=
  let s := s.advance t
  let l := s.light[c]
  if l.load.isSome || s.now < l.latchAt || s.now < l.lampEnd + usCclk 10 || !(if high then l.pendHigh else l.pendLow) || !s.domOn (9 + c.val) || !s.domOn 8 || s.halted .lamp c then .next s else
  let pat := fun (k : Nat) => let x := l.chans[(Fin.ofNat 6 k : Fin 6)]; if high then x.wantH else x.wantL
  let seq := (s.rd (.lsr .lampSeq) c + 1) % 8
  let only := !high && allChans.any fun k => l.chans[k].wear
  let ld : LampLoad :=
    { range := if high then .high else .low, pats := allChans.map fun k => (k.val, pat k.val), endAt := s.now + lampTime (s.lampLength c),
      dumpOnly := only }
  let s := s.violate 6 fun t _ q => (t == 5 || t == 6) && q == c.val
  let s := s.modLight c fun y => { y with load := some ld, lampEnd := ld.endAt, pendHigh := y.pendHigh && !high, pendLow := y.pendLow && high }
  let s := ((s.wr (.lsr .lampBusy) c 1).wr (.lsr .lampSeq) c seq).showPend c
  .next (if s.drives then s.emit (.lampFrame c (s.lampBits c pat seq) ((s.lampBits c pat seq).map State.lampPulse)) else s)

/-- FAULT_WINDOW (R195 to R207): the PD and VSTR means of a 200 ns window of a channel's pulse; `last` is the last window of the
pulse. Windows of a chopped or omitted pulse are never evaluated. -/
def execFaultWindow (t : Nat) (c : Fin 4) (k : Fin 6) (pd vstr : Nat) (last : Bool) (s : State) : Result :=
  let s := s.advance t
  let x := s.light[c].chans[k]
  let chopped := dimD (s.light[c].segDim[(primOf k)]) < 16384
  if !s.domOn (9 + c.val) || !(x.diagOn || (x.len && !chopped)) then .next s else
  let s := s.judgeWindow c k (pd % 2 ^ 14) (vstr % 2 ^ 12) last
  .next (if last && x.diagOn then s.endDiag c k else s)

/-- WEAR_ROTATION (R210): due every INTERVAL minutes; deferred while a search or a load runs or the light is off. The low pattern is loaded whether or not the
choice has changed. -/
def execWearRotation (t : Nat) (c : Fin 4) (s : State) : Result :=
  let s := s.advance t
  let n := s.rd (.lsr .wearInterval) c
  if n == 0 || (s.now < s.light[c].wearAt + n * msCclk 60000 && !s.on (.lsr .wearDue) c) then .next s else
  let busy := s.light[c].load.isSome || s.now < s.light[c].latchAt || s.light[c].pendHigh || s.light[c].pendLow || allChans.any fun k => s.light[c].chans[k].search.isSome
  let s := s.modLight c fun l => { l with wearAt := s.now }
  if busy || s.on (.lsr .outLightoff) c then .next ((s.wr (.lsr .wearDue) c 1).bump (.lsr .wearDefers) c) else
  let s := s.wr (.lsr .wearDue) c 0
  .next (allChans.foldl (fun s k =>
    let i := chanInst c k
    if s.chState c k == 0 || s.rd (.lsr .chStateNlitH) i ≤ s.rd (.lsr .bankNlow) i then s else
    let lo := s.lowPattern c k
    let s := (s.modChan c k fun x => { x with wear := true }).modLight c fun l => { l with pendLow := true }
    s.wantPatterns c k s.light[c].chans[k].wantH lo) s)

end Sys2Proof.Machine
end

