-- ==== Sys2Proof/Machine/ImageCheck.lean ====
section
/-! DEFINITION. The checks of an ephemeris image (R45 to R48, R51, R52, R58) and their reason codes. -/

namespace Sys2Proof.Machine

/-- Why an image is rejected (R51): REASON, the section type (0 for the header) and the index. -/
structure Rejection where
  reason : Nat
  sec : Nat
  idx : Nat
  deriving DecidableEq, Repr

/-- The first rejection of a list of (condition, rejection). -/
def firstOf (l : List (Bool × Rejection)) : Option Rejection := (l.find? Prod.fst).map Prod.snd

/-- The section types of the table (R44). -/
def knownSection (t : Nat) : Bool := 1 ≤ t && t ≤ 0x11
/-- The types whose LIVE bit is 1: SCHEDULE, HELCOEF and COLOUR (R44). -/
def liveSection (t : Nat) : Bool := t == 3 || t == 7 || t == 8
/-- The types that a full image must hold (R44). -/
def requiredSections : List Nat := [1, 2, 3, 4, 5, 6, 7, 8, 9, 10, 11]
/-- The sections that are read for the first time at step 7: uniformity maps and EDIDs (R44, R366). -/
def lateSection (t : Nat) : Bool := t == 8 || t == 0xD

/-- MAGIC of an image (R42). -/
def imageMagic : Nat := 0x4D485045

/-- The value a plan gives an instance of a field, else its reset value. -/
def Plan.val (p : Plan) (f : Fld) (i : Nat) : Nat := ((p.settings.find? fun x => x.fld = f ∧ x.inst = i).map (·.val)).getD (resetOf f i)

/-- The inputs that a plan routes to layers (R72). -/
def Plan.routed (p : Plan) : List Nat := ((p.layers.filter fun x => x.src == 2).map (·.dpin)).eraseDups

/-- Tiles of an output (R41, R236). -/
def OutputPlan.tiles (o : OutputPlan) : Nat :=
  let t := tileSize o.tsize
  ((o.w + t.1 - 1) / t.1) * ((o.h + t.2 - 1) / t.2)

/-- The section and index of the first entry of a plan that names a fused-off cluster (R5). -/
def Plan.absent (p : Plan) (on : Nat → Bool) : Option (Nat × Nat) :=
  let l := (p.layers.map fun x => (1, x.c)) ++ (p.clones.flatMap fun x => [(1, x.1), (1, x.2)]) ++ (p.outputs.map fun x => (2, x.c))
    ++ (p.schedules.map fun x => (3, x.1)) ++ (p.arrays.map fun x => (4, x.c)) ++ (p.banks.map fun x => (5, x.c))
    ++ (p.boards.map fun x => (5, x.1)) ++ (p.slots.map fun x => (6, x.c))
  l.find? fun x => !on x.2

/-! ### Section table (R42, R45) -/

/-- The faults of one entry of the section table against those before it. -/
def sectionFault (n length : Nat) (before : List Section) (x : Section) : Bool :=
  before.any (fun y => y.type == x.type || (y.offset < x.offset + x.slen && x.offset < y.offset + y.slen))
  || (knownSection x.type && (bit x.sflags 1 != liveSection x.type))
  || 4 ≤ x.sflags || x.rsvd != 0 || x.offset % 4096 != 0 || x.offset < 192 + 64 * n || length < x.offset + x.slen

/-- The first entry of the section table that breaks R42 or R45, by index. -/
def tableFault (n length : Nat) : List Section → List Section → Nat → Option (Nat × Nat)
  | _, [], _ => none
  | before, x :: xs, i => if sectionFault n length before x then some (x.type, i) else tableFault n length (x :: before) xs (i + 1)

/-- A KEYENROL entry breaks R47. -/
def keyFault (keys : Vector KeySlot 4) (signer : Nat) (e : KeyEntry) : Bool :=
  e.slot == 0 || 4 ≤ e.slot
  || (if e.revoke then e.slot == signer else match keys.toList.getD e.slot .empty with | .empty => false | _ => true)

/-! ### Heliostat slots (R211, R216, R220, R224) -/

/-- The flat instances of a cluster's described slots. -/
def Plan.slotsOf (p : Plan) (c : Nat) : List Nat := (p.slots.filter fun x => x.c == c && x.s < 16).map fun x => 16 * c + x.s

/-- The destinations of a slot as (type, index) (R220). -/
def Plan.dests (p : Plan) (i : Nat) : List (Nat × Nat) :=
  [(p.val (.hel .routeD0type) i, p.val (.hel .routeD0idx) i), (p.val (.hel .routeD1type) i, p.val (.hel .routeD1idx) i)]

/-- The slots whose LREF destination is a channel. -/
def Plan.innerOf (p : Plan) (c k : Nat) : List Nat := (p.slotsOf c).filter fun i => (p.dests i).contains (1, k)

/-- The slots that a slot's cascades deliver to (R220). -/
def Plan.cascades (p : Plan) (c i : Nat) : List Nat :=
  (p.dests i).flatMap fun d =>
    if d.1 == 3 then [16 * c + d.2]
    else if d.1 == 4 then p.innerOf c (2 * d.2) ++ p.innerOf c (2 * d.2 + 1)
    else []

/-- What cascades reach from a set of slots within so many steps. -/
def Plan.reach (p : Plan) (c : Nat) : Nat → List Nat → List Nat
  | 0, l => l
  | fuel + 1, l => p.reach c fuel (l ++ l.flatMap (p.cascades c)).eraseDups

/-- The HELSLOT section of a cluster breaks R216, R220 or R224. -/
def Plan.slotFault (p : Plan) (c : Nat) : Bool :=
  let sl := p.slotsOf c
  let single := (sl.flatMap fun i => (p.dests i).eraseDups).filter fun d => d.1 == 1 || d.1 == 2 || d.1 == 5
  let targets := sl.flatMap fun i => (p.cascades c i).eraseDups
  let per := fun i => max 32 (p.val (.hel .trigPeriod) i)
  let ph := fun i => max 8 (p.val (.hel .phasePhase) i)
  single.eraseDups.length != single.length || targets.eraseDups.length != targets.length
  || sl.any (fun i => (p.val (.hel .trigTmode) i == 1 || p.val (.hel .trigTmode) i == 3) && per i < ph i)
  || sl.any (fun i => (p.reach c 16 (p.cascades c i)).contains i)
  || sl.any (fun i => (p.dests i).any fun d =>
      d.1 == 4 && !((p.innerOf c (2 * d.2)).length == 1 && (p.innerOf c (2 * d.2 + 1)).length == 1))
  || targets.any (fun i => p.val (.hel .routeGate) i == 1 && 800 < per i + ph i)

/-! ### The HBM map (R265, R266) and the plate store (R286) -/

/-- The pseudo-channels of the module that a partition lies in, with its extent there. -/
def partSpans (r : Nat) (x : Partition) : List (Nat × Nat × Nat) :=
  let b := (List.range 8).filter (bit x.pcmask)
  let per := if b.isEmpty then 0 else (x.size + 256 * b.length - 1) / (256 * b.length) * 256
  b.map fun j => (8 * r + j, x.pcbase, x.pcbase + per)

/-- KINDs that may lie on elastic channels (R265). -/
def elasticKind (k : Nat) : Bool := k == 2 || k == 3 || k == 4 || k == 6 || k == 7 || k == 8

/-- One partition breaks R265 or R266 by itself. -/
def partFault (elastic : List Nat) (r : Nat) (x : Partition) : Bool :=
  let sp := partSpans r x
  let el := fun (y : Nat × Nat × Nat) => elastic.contains (y.1 / 2)
  x.size == 0 || x.base % 2 ^ 21 != 0 || x.size % 2 ^ 21 != 0 || x.base / 2 ^ 33 != r || (x.base + x.size - 1) / 2 ^ 33 != r
  || sp.isEmpty || sp.any (fun y => 2 ^ 30 < y.2.2) || (sp.any el && !(sp.all el && elasticKind x.kind)) || 8 < x.kind

/-- Two partitions overlap in addresses or in pseudo-channel space (R265). -/
def partsMeet (a b : Nat × Partition) : Bool :=
  (a.2.base < b.2.base + b.2.size && b.2.base < a.2.base + a.2.size)
  || (partSpans a.1 a.2).any fun x => (partSpans b.1 b.2).any fun y => x.1 == y.1 && x.2.1 < y.2.2 && y.2.1 < x.2.2

/-- The index of the first partition that breaks R265 or R266. -/
def mapFault (elastic : List Nat) : List (Nat × Partition) → List (Nat × Partition) → Nat → Option Nat
  | _, [], _ => none
  | before, x :: xs, i =>
    if partFault elastic x.1 x.2 || before.any (partsMeet x)
        || (x.2.kind == 1 && before.any fun y => y.2.kind == 1 && y.2.dpin == x.2.dpin) || 32 ≤ (before.filter fun y => y.1 == x.1).length
    then some i else mapFault elastic (x :: before) xs (i + 1)

/-- The degraded profiles of a region break R291, R265 or R266: more than 8, or a replacement map that is not a map. The index is that of the profile. -/
def Plan.profileFault (p : Plan) (el : List Nat) (r : Nat) : Option Rejection :=
  let mine := p.profiles.zipIdx.filter fun x => x.1.1 == r
  match mine.drop 8 with
  | x :: _ => some ⟨0x19, 0xA, x.2⟩
  | [] => (mine.find? fun x => (mapFault el [] (x.1.2.parts.map fun q => (r, q)) 0).isSome).map fun x => ⟨0x19, 0xA, x.2⟩

/-- A cluster's fallback buffer in its region's plate banks as (start, end) (R286); empty when it is not described. -/
def Plan.fallback (p : Plan) (c : Nat) : Nat × Nat :=
  let b := 64 * p.val (.plt .fbBaseBase) c
  (b, b + 64 * p.val (.plt .fbPitchPitch) c * p.val (.plt .fbWhH) c)

/-- Where a cluster's plate copy lies in its region's plate banks, as (start, end): by the plan's own words and by the registers that place it
(R103, R292). -/
def Plan.plateSpans (p : Plan) (o : OutputPlan) : List (Nat × Nat) :=
  let b := 64 * p.val (.geo .plateBaseBase) o.c
  [(o.plateBase, o.plateBase + o.plateLen), (b, b + 64 * p.val (.geo .platePitchPitch) o.c * o.h)]

/-- Two spans of bytes meet. -/
def spansMeet (a b : Nat × Nat) : Bool := a.1 < a.2 && b.1 < b.2 && a.1 < b.2 && b.1 < a.2

/-- Two clusters of a region name one fallback buffer (R286): the same input and base. -/
def Plan.sharesFallback (p : Plan) (c d : Nat) : Bool :=
  p.val (.plt .fbCfgKind) c == 0 && p.val (.plt .fbCfgKind) d == 0 && p.val (.plt .fbCfgDpin) c == p.val (.plt .fbCfgDpin) d
  && p.val (.plt .fbBaseBase) c == p.val (.plt .fbBaseBase) d

/-- A cluster's fallback buffer leaves the region's plate banks, or meets a plate copy or another fallback buffer of the region that it does not share
(R286). The staging area is placed clear of them when a patch is uploaded. -/
def Plan.fallbackFault (p : Plan) (c : Nat) : Bool :=
  let f := p.fallback c
  f.1 < f.2 && (2 ^ 26 < f.2
    || (p.outputs.any fun o => o.c / 2 == c / 2 && (p.plateSpans o).any (spansMeet f))
    || p.outputs.any fun o => o.c != c && o.c / 2 == c / 2 && !p.sharesFallback c o.c && spansMeet f (p.fallback o.c))

/-! ### Schedules (R118, R134) -/

/-- What an output's schedules must agree with under a plan. -/
def Plan.env (p : Plan) (o : OutputPlan) : SchedEnv :=
  match p.arrays.find? fun a => a.c == o.c with
  | some a => { w := o.w, h := o.h, period := o.period, bands := a.bands, settle := a.settle, cache := a.cache }
  | none => { w := o.w, h := o.h, period := o.period, bands := 0, settle := 0, cache := 0 }

/-- A schedule of a plan; an absent one has NENT = 0 (R468). -/
def Plan.sched (p : Plan) (c k : Nat) : Schedule :=
  let ws := ((p.schedules.find? fun x => x.1 == c && x.2.1 == k).map fun x => x.2.2).getD []
  readSchedule fun i => ws.getD i 0

/-- The schedule faults of an output, as (REASON, ENTRY): the first of each kind (R118), and the fit check (R134). Each reason has its place in the
order of R51, so all of them count. -/
def Plan.schedFaults (p : Plan) (o : OutputPlan) : List (Nat × Nat) :=
  ((List.range 3).filterMap fun k => schedFault (p.env o) k (p.sched o.c k))
  ++ if (List.range 3).all fun k =>
        (p.sched o.c k).hdr.nent == 0
        || fitOk o.w o.h (max 25600 (p.val (.pln .rdleadLead) o.c)) (p.val (.chr .leadLead) o.c) (p.sched o.c k).hdr
    then [] else [(0x17, 0xFFFF)]

/-! ### Structural checks (R51) -/

/-- The array parameters lie in the supported ranges and agree with GEOMETRY (R168). -/
def Plan.arrayOk (p : Plan) (a : ArrayPlan) : Bool :=
  512 ≤ a.w && a.w ≤ 4096 && a.w % 128 == 0 && 256 ≤ a.h && a.h ≤ 2160 && 8 ≤ a.bands && a.bands ≤ 64 && 2 ≤ a.cache && a.cache ≤ 64
  && 1600 ≤ a.settle && a.settle ≤ 32000 && 160 ≤ a.cmdlat && a.cmdlat ≤ 3200
  && p.outputs.all fun o => o.c != a.c || (o.w == a.w && o.h == a.h)

/-- A clone breaks R80. -/
def Plan.cloneFault (p : Plan) (x : Nat × Nat) : Bool :=
  let o := fun (c : Nat) => (p.outputs.find? fun y => y.c == c).map fun y => (y.w, y.h, y.period, y.tsize)
  x.1 == x.2 || p.clones.any (fun y => y.1 == x.2) || o x.1 != o x.2

/-- A bank breaks R51 or R182, or its boards have fewer switches than it has emitters (R191). -/
def Plan.bankFault (p : Plan) (bad : Nat → Nat) (b : BankPlan) : Bool :=
  let n := ((p.boards.filter fun x => x.1 == b.c && x.2.chan == b.k).map fun x => x.2.switches).sum
  let i := 6 * b.c + b.k
  let high := (emittersOf (2 ^ b.nemit - 1)).filter fun e => !bit (bad i) e
  5 < b.k || b.nemit == 0 || 32 < b.nemit || n < b.nemit || high.length < p.val (.lsr .bankNlow) i

/-- A lamp line breaks R191. -/
def Plan.boardFault (p : Plan) (c : Nat) : Bool :=
  let l := p.boards.filter fun x => x.1 == c
  16 < l.length || l.any fun x => x.2.switches == 0 || 64 < x.2.switches || 5 < x.2.chan

/-! ### The HBM load (R40, R51) -/

/-- The bytes that a cluster moves in HBM for each frame ("The sums"): its layers read whole at 4 bytes a pixel, 48 planes written, and
the planes of its fullest schedule read. -/
def Plan.frameBytes (p : Plan) (o : OutputPlan) : Nat :=
  let pe := ((List.range 3).map fun k => planeEquivalents (p.sched o.c k)).foldl max 0
  let n := (p.layers.filter fun x => x.c == o.c && (x.src == 1 || x.src == 2)).length
  o.w * o.h * (32 * n + 48 + pe) / 8

/-- The planned HBM traffic of a region in bytes a second: its clusters, each routed input at the limit of its pixel rate where its
partition lies, and half of the host's writes and of the miscellaneous traffic. DESIGN CHOICE (log entry 99): how the sums are shared
between the regions. -/
def Plan.regionLoad (p : Plan) (r : Nat) : Nat :=
  ((p.outputs.filter fun o => o.c / 2 == r).map fun o => if o.period == 0 then 0 else p.frameBytes o * 1600000000 / o.period).sum
  + 3981312000 * (p.routed.filter fun i => p.parts.any fun x => x.1 == r && x.2.kind == 1 && x.2.dpin == i).length
  + 12875000000

/-- 90 % of a region's usable rate in bytes a second: 46.08 GB/s for each of its channels at F0, with every elastic channel at its MINSET
(R40, R279). -/
def Plan.regionLimit (p : Plan) (r : Nat) : Nat :=
  ((List.range 4).map fun i =>
    let set := ((p.elastic.find? fun x => x.1 == 4 * r + i).map Prod.snd).getD 0
    41472000000 * (3 - min 2 set) / 3).sum

/-- The cluster whose plane data lie in the other region (R23). -/
def Plan.planesAway (p : Plan) (o : OutputPlan) : Bool := 
  let a := p.val (.pln .pbufBaseAddr) o.c * 4096
  let e := a + max 1 ((2 * p.val (.pln .pbufStrideStride) o.c + 48 * p.val (.pln .planeSizeSize) o.c) * 4096)
  a / 2 ^ 33 != o.c / 2 || (e - 1) / 2 ^ 33 != o.c / 2

/-- A cluster's plate copy does not fit its own region's plate banks (R23, R292). -/
def Plan.plateAway (p : Plan) (o : OutputPlan) : Bool :=
  o.plateRegion != o.c / 2 || (p.plateSpans o).any fun x => 2 ^ 26 < x.2

/-- A PLANE, MESH or RING partition lies in another region than its owner (R23). -/
def partAway (x : Partition) : Bool :=
  match x.owner with
  | some c => (x.kind == 0 || x.kind == 4 || x.kind == 5) && x.base / 2 ^ 33 != c / 2
  | none => false

/-- The domains that a cluster needs (R357, R359). -/
def clusterNeeds (c : Nat) : List Nat :=
  let r := c / 2
  [0, 1, 8, 13, 14, 15 + r, 17, 46, 9 + c, 26 + c, 30 + c, 34 + c, 38 + c, 42 + c] ++ (List.range 4).map fun j => 18 + 4 * r + j

/-- The register that an entry of REGINIT or of a preset addresses: the offset as BAR0 decodes it, on its word. -/
def entryAddr (a : Nat) : Nat := a % bar0End / 4 * 4

/-- The header's zero bytes are zero (R42): FLAGS[7:2], the reserved byte and, in a full image, BASE_ID. -/
def ImageHeader.zeros (h : ImageHeader) : Bool := h.flags / 4 == 0 && h.rsvd == 0 && (bit h.flags 0 || h.baseId.all (· == 0))

/-- REGINIT must not address EPH, the security fields, OBS, GLB_APPLY_ERR or an absent cluster (R52). The manual does not list the security
fields. DESIGN CHOICE (log entry 98): they are the keys, the rollback counter and the debug port, which all lie in EPH. -/
def reginitForbidden (on : Nat → Bool) (off : Nat) : Bool :=
  let a := entryAddr off
  (0x10000 ≤ a && a < 0x20000) || (0x3800000 ≤ a && a < 0x3810000) || a == 0x30
  || (match addrCluster a with | some c => !on c | none => false)

namespace State

/-- The checks of R51 from 0x10 on, in the order of the table. -/
def structFault (s : State) (p : Plan) : Option Rejection :=
  let outs := p.outputs
  let el := p.elastic.map Prod.fst
  let scheds := outs.flatMap p.schedFaults
  let find := fun {α : Type} (l : List α) (f : α → Bool) (k : α → Rejection) => (l.find? f).map k
  (find p.parts.zipIdx (fun x => partAway x.1.2) fun x => ⟨0x10, 0xA, x.2⟩)
  <|> (find p.profiles.zipIdx (fun x => x.1.2.parts.any partAway) fun x => ⟨0x10, 0xA, x.2⟩)
  <|> (find outs (fun o => p.plateAway o || p.planesAway o) fun o => ⟨0x10, 2, o.c⟩)
  <|> (if 122880 < (outs.map OutputPlan.tiles).sum then some ⟨0x11, 9, 0⟩ else none)
  <|> (find outs (fun o => 3 ≤ o.tsize) fun o => ⟨0x12, 9, o.c⟩)
  <|> (find p.slots (fun x => 16 ≤ x.s || x.across) fun x => ⟨0x13, 6, x.s⟩)
  <|> (find p.layers (fun x => 8 ≤ x.l || x.src == 0 || 4 ≤ x.src || (x.src == 2 && 4 ≤ x.dpin)) fun x => ⟨0x14, 1, x.l⟩)
  <|> (find p.clones p.cloneFault fun x => ⟨0x15, 1, x.1⟩)
  <|> (find p.arrays (fun a => !p.arrayOk a) fun a => ⟨0x16, 4, a.c⟩)
  <|> (find scheds (fun f => f.1 == 0x17) fun f => ⟨0x17, 3, f.2⟩)
  <|> (find p.banks (p.bankFault fun i => s.rd (.lsr .badMask) i) fun b => ⟨0x18, 5, b.k⟩)
  <|> (find outs (fun o => p.boardFault o.c) fun o => ⟨0x18, 5, o.c⟩)
  <|> (if 4 < p.elastic.length then some ⟨0x19, 0xA, 0⟩ else none)
  <|> ((mapFault el [] p.parts 0).map fun i => ⟨0x19, 0xA, i⟩)
  <|> ((List.range 2).findSome? fun r => p.profileFault el r)
  <|> (find p.routed (fun i => !p.parts.any fun x => x.2.kind == 1 && x.2.dpin == i) fun i => ⟨0x19, 0xA, i⟩)
  <|> (find outs (fun o => p.fallbackFault o.c) fun o => ⟨0x19, 1, o.c⟩)
  <|> (find (outs.flatMap (fun o => clusterNeeds o.c) ++ p.routed.map (· + 4)) (fun d => !bit p.power d) fun d => ⟨0x1A, 0xB, d⟩)
  <|> (find p.reginit.zipIdx (fun x => reginitForbidden s.clusterOn x.1.1) fun x => ⟨0x1B, 0xC, x.2⟩)
  <|> (find outs (fun o => 240 * o.period < 1600000000 || 1600000000 < 24 * o.period || 2 * o.period < o.w * o.h) fun o => ⟨0x1C, 2, o.c⟩)
  <|> (find (List.range 2) (fun r => p.regionLimit r < p.regionLoad r) fun r => ⟨0x1D, 0xA, r⟩)
  <|> (find p.hbmLoad.zipIdx (fun x => 1660 < x.1) fun x => ⟨0x1D, 0xA, x.2⟩)
  <|> (find scheds (fun f => f.1 == 0x1D) fun f => ⟨0x1D, 3, f.2⟩)

/-- The checks of the header and the signature (R48, R51). `limit` is the longest the image may be where it lies. DESIGN CHOICE (log entries
96 and 100): a header whose zero bytes are not zero is rejected with reason 0x02, CLMASK[7:4] with 0x04; a patch is not held against the
stored rollback counter, which it never raises (R50). -/
def headerFault (s : State) (patch : Bool) (limit : Nat) (im : Image) : Option Rejection :=
  let h := im.hdr
  let strap := s.rd (.pwr .strapPairRole) 0
  let keyHash := match s.eph.keys.toList.getD h.keyslot .empty with | .key k => some k | _ => none
  let trusted := keyHash.isSome
  let clusters := (List.range 4).all fun c => !bit h.clmask c || s.clusterOn c
  firstOf
    [(h.magic != imageMagic, ⟨1, 0, 0⟩), (h.fmt != 1 || !h.zeros, ⟨2, 0, 0⟩),
     (h.part != 0x4800 || bit h.flags 1 != (strap == 1 || strap == 2) || bit h.flags 0 != patch, ⟨3, 0, 0⟩),
     (!clusters || 16 ≤ h.clmask, ⟨4, 0, 0⟩), (limit < h.length || (if patch then 2 ^ 24 else 2 ^ 25) < h.length, ⟨5, 0, 0⟩),
     (!trusted, ⟨7, 0, 0⟩), (!(keyHash.map im.signed).getD false, ⟨8, 0, 0⟩), (!patch && h.arb < s.rd (.eph .arbStoredArb) 0, ⟨9, 0, 0⟩)]

/-- The HASH of the sections read (R44). -/
def hashFault (im : Image) (read : Section → Bool) : Option Rejection :=
  (im.secs.find? fun x => read x && !im.matches x).map fun x => ⟨0x0A, x.type, 0⟩

/-- The checks of the section table and of the sections' form (R44, R45, R47), of a full image or of a patch. -/
def formFault (s : State) (patch : Bool) (im : Image) (read : Nat → Bool) : Option Rejection :=
  let p := im.plan
  let n := im.secs.length
  ((p.absent s.clusterOn).map fun x => ⟨4, x.1, x.2⟩)
  <|> (if patch then none else (requiredSections.find? fun t => !im.has t).map fun t => ⟨0x0B, t, 0⟩)
  <|> (if !patch && !p.routed.isEmpty && !im.has 0xD then some ⟨0x0B, 0xD, 0⟩ else none)
  <|> ((im.secs.find? fun x => !knownSection x.type && bit x.sflags 0).map fun x => ⟨0x0C, x.type, 0⟩)
  <|> (if n == 0 || 64 < n || n != im.hdr.seccount then some ⟨0x0D, 0, 0⟩ else none)
  <|> ((tableFault n im.hdr.length [] im.secs 0).map fun x => ⟨0x0D, x.1, x.2⟩)
  <|> ((p.formFaults.find? fun x => read x.1).map fun x => ⟨0x0D, x.1, x.2⟩)
  <|> ((p.keys.zipIdx.find? fun x => keyFault s.eph.keys im.hdr.keyslot x.1).map fun x => ⟨0x0D, 0x10, x.2⟩)
  <|> (if 16384 < p.reginit.length then some ⟨0x0D, 0xC, 16384⟩ else none)
  <|> (if patch then none else (p.outputs.find? fun o => p.slotFault o.c).map fun o => ⟨0x0D, 6, o.c⟩)
  <|> ((p.settings.find? fun x => decide (x.fld = .geo .meshDy) && clampWrite x.fld x.val != x.val).map fun x => ⟨0x0D, 2, x.inst⟩)
  <|> (if patch then none else
        (p.outputs.find? fun o => p.outputs.any fun q => q.c < o.c
          && p.val (.frs .tbaseBase) o.c < p.val (.frs .tbaseBase) q.c + q.tiles
          && p.val (.frs .tbaseBase) q.c < p.val (.frs .tbaseBase) o.c + o.tiles).map fun o => ⟨0x0D, 9, o.c⟩)

/-- Every check of R48 and R51 on a full image that needs no reload (R57, R467): `late` adds the sections first read at step 7. -/
def imageFault (s : State) (limit : Nat) (late : Bool) (im : Image) : Option Rejection :=
  s.headerFault false limit im <|> hashFault im (fun x => late || !lateSection x.type)
    <|> s.formFault false im (fun t => late || !lateSection t) <|> s.structFault im.plan

/-- Every check on the image of a slot at start-up or in a reload: at step 4 those that need no reload, then at step 7 the sections
fetched then; `fetchBad` lists the types whose bytes do not match their HASH when they are fetched (R44, R54). -/
def slotFault (s : State) (fetchBad : List Nat) (im : Image) : Option Rejection :=
  s.imageFault (2 ^ 25) false im
    <|> hashFault (im.readBad fetchBad) (fun _ => true)
    <|> ((im.plan.formFaults.find? fun x => lateSection x.1).map fun x => ⟨0x0D, x.1, x.2⟩)

/-- The checks of R467 on a staged patch: authentication and its header. -/
def stagedFault (s : State) (limit : Nat) (im : Image) : Option Rejection := s.headerFault true limit im <|> hashFault im (fun _ => true)

/-- The checks of EPH_SWAP, in order (R58). -/
def swapFault (s : State) (im : Image) : Option Rejection :=
  match s.eph.inForce with
  | none => s.stagedFault (2 ^ 24) im <|> some ⟨0x20, 0, 0⟩
  | some cur =>
    s.stagedFault (2 ^ 24) im
    <|> (if im.hdr.baseId != cur.hdr.imageId then some ⟨0x20, 0, 0⟩ else none)
    <|> ((im.secs.zipIdx.find? fun x => !bit x.1.sflags 1).map fun x => ⟨0x21, x.1.type, x.2⟩)
    <|> s.formFault true im (fun _ => true) <|> s.structFault (patchedPlan cur.plan im)

/-- An image is rejected (R49, R51): EPH_REJECT and event 0x1A41. SOURCE: 0 slot A, 1 slot B, 2 upload, 3 swap. -/
def reject (s : State) (r : Rejection) (source : Nat) : State :=
  let s := ((s.wr (.eph .rejectReason) 0 r.reason).wr (.eph .rejectSource) 0 source).wr (.eph .rejectSection) 0 r.sec
  (s.wr (.eph .rejectIdxIdx) 0 r.idx).report .eph 0 0x1A41 [(1, r.reason), (1, source), (2, r.sec), (4, r.idx)]

end State

end Sys2Proof.Machine
end

