-- ==== Sys2Proof/Machine/PairRows.lean ====
section
/-! DEFINITION. Pair commands (R412 to R421): Transit messages that passed their CRC, the link, SEL and takeover. -/

namespace Sys2Proof.Machine

namespace State

/-- A Transit message arrives while the link is up and the link's unit runs (R18). -/
def transitRecv (s : State) (f : State → State) : State := if s.par.linkUp && !s.halted .transit 0 then f s else s

/-- A module that finds the peer's SEL asserted with HB present at link-up starts as second, whatever its strap (R413). -/
def yieldAtStart (s : State) : State :=
  if s.role == 1 && s.on (.par .statSelPeer) 0 && s.on (.par .statHbOk) 0 && !s.on (.par .statSelOwn) 0 then
    (s.wr (.par .statRole) 0 2).updateReady
  else s

/-- The link goes down when all four lanes of a direction are down (R412): event 0x2783, and lockstep ends (R415). -/
def transitDown (s : State) : State :=
  let s := s.modPar fun p => { p with linkUp := false, reps := [], markOk := Vector.replicate 4 false }
  (((s.report .transit 0 0x2783 []).heartbeatLost).endLockstep).updateReady

end State

/-- HB (R412, R413, R417): the peer's role and READY are kept (SEL_PEER follows the SEL land, R418); class X in the prime's HB is trigger 3, and a
planned takeover that the prime passes on is trigger 4. -/
def execHb (t : Nat) (role : Fin 3) (sel lockstep ready classX handover : Bool) (s : State) : Result :=
  .next ((s.advance t).transitRecv fun s =>
    let _ := (sel, lockstep)
    let s := s.modPar fun p => { p with lastHb := some s.now, peerRole := role.val, peerReady := ready, peerX := classX }
    let s := (s.wr (.par .statHbOk) 0 1).yieldAtStart
    if classX then s.takeOver 3
    else if handover && s.on (.par .statLockstep) 0 then s.takeOver 4
    else s)

/-- HB_SEND (R412): every 10 µs. -/
def execHbSend (t : Nat) (s : State) : Result :=
  let s := s.advance t
  .next (s.sendTransit 0 [s.role, s.rd (.par .statSelOwn) 0, s.rd (.par .statLockstep) 0, s.rd (.par .statReady) 0,
    b2n (s.rd (.pwr .stateState) 0 == 5)])

/-- HEARTBEAT_LOSS (R417): no valid HB for 35 µs. -/
def execHeartbeatLoss (t : Nat) (s : State) : Result :=
  let s := s.advance t
  match s.par.lastHb with
  | some h =>
    .next (if s.on (.par .statHbOk) 0 && h + usCclk 35 ≤ s.now then
      (s.bumpBy (.par .cnt2Hbmiss) 0 ((s.now - h) / usCclk 10)).heartbeatLost else s)
  | none => .next s

/-- MARK (R412, R413): the second aligns its chronograph and Trioc units; `skew` is the measured offset to the prime in 1/8
CCLK, positive where the second is late. -/
def execMark (t : Nat) (c : Fin 4) (skew : Int) (s : State) : Result :=
  .next ((s.advance t).transitRecv fun s =>
    if s.role != 2 then s else
    let s := (s.wr (.par .skewSkew) 0 (unsigned 16 (satI 16 skew))).modPar fun p =>
      { p with markOk := p.markOk.set c (decide (|skew| ≤ 8)), skews := p.skews.set c skew }
    s.updateReady)

/-- ID (R6, R55, R413, R419): the peer's IMAGE_ID, which must equal the own one for READY, and a partner that is not the matched
module; equal straps of 1 or 2 are settled by the module serial numbers. -/
def execId (t : Nat) (imageId : List Byte) (serial strap : Nat) (s : State) : Result :=
  .next ((s.advance t).transitRecv fun s =>
    let s := (s.modPar fun p =>
      { p with peerId := some (imageId.map BitVec.toNat), peerSerial := serial, peerStrap := some strap }).compareIds
    let s := if s.dev.partner == serial then s else s.report .par 0 0x115A [(8, serial)]
    let mine := s.rd (.pwr .strapPairRole) 0
    let s := if mine == strap && (mine == 1 || mine == 2) && !s.on (.par .statSelOwn) 0 && !s.on (.par .statSelPeer) 0 then
        (s.settleRole (if s.dev.serial < serial then 1 else 2) 2).mayRaiseSel
      else s
    s.updateReady)

/-- PEND (R412, R414): the peer's request state, shadow CRC and send instant for a cluster; the second counts the prime's wait from
it. -/
def execPend (t : Nat) (c : Fin 4) (req : Bool) (crc sentAt : Nat) (s : State) : Result :=
  .next ((s.advance t).transitRecv fun s =>
    s.modPar fun p => { p with peerPend := p.peerPend.set c (some { req := req, crc := crc, sentAt := sentAt })
                               waited := if s.role == 2 then p.waited.set c 0 else p.waited })

/-- CRCREP (R416): the prime's generator and pad BCRC of a block send. -/
def execCrcrep (t : Nat) (c : Fin 4) (seq gen pad : Nat) (s : State) : Result :=
  .next ((s.advance t).transitRecv fun s =>
    if s.role != 2 then s else
    (s.modPar fun p => { p with reps := ⟨c, seq, gen, pad⟩ :: p.reps.filter fun r => !(r.cluster == c.val && r.seq == seq) }).tryVerdict
      c seq)

/-- MAP (R415): the prime's stale-map marks of a frame; in lockstep the second marks exactly those tiles, and MAPDIFF counts
the tiles where its own table disagrees. -/
def execMap (t : Nat) (c : Fin 4) (frame : Nat) (marked : List Nat) (s : State) : Result :=
  .next ((s.advance t).transitRecv fun s =>
    if s.role != 2 then s else
    (s.modPar fun p => { p with maps := p.maps.set c (some (frame, marked)) }).applyMap c frame)

/-- The second takes a channel's state from the prime (R207, R225): a failure that it has not decided itself is a verdict that differs, event 0x13CE
(DESIGN CHOICE, log entry 112: fault kind 0, since CHSTATE names none); a slot whose channel becomes LIT loads INIT. -/
def State.followChannel (s : State) (c : Fin 4) (k : Fin 6) (st : Nat) : State :=
  let was := s.chState c k
  let s := (s.wr (.lsr .chStateState) (chanInst c k) st).noteTonly c
  let s := if st == 3 && was != 3 then
      match s.slotOfLref c k with | some i => s.modSlot c i fun x => { x with loadAt := some s.chr[c].lastG } | none => s
    else s
  if (was != 2 && was != 3) || (st != 4 && st != 5) then s
  else if s.light[c].chans[k].verdict.isSome then s.modChan c k fun x => { x with verdict := none }
  else s.report .lsrCh (chanInst c k) 0x13CE [(1, 0)]

/-- CHSTATE (R207, R412): the second follows the prime's channel states and LIT banks. -/
def execChstate (t : Nat) (c : Fin 4) (states lit : List Nat) (s : State) : Result :=
  .next ((s.advance t).transitRecv fun s =>
    if s.role != 2 then s else
    let s := (states.take 6).zipIdx.foldl (fun s x => s.followChannel c (Fin.ofNat 6 x.2) x.1) s
    (([Fld.lsr .litRed, Fld.lsr .litGreen, Fld.lsr .litBlue] : List Fld).zip lit).foldl (fun s x => s.wr x.1 c x.2) s)

/-- TAKE (R421): the prime drops SEL at the switch instant. -/
def execTake (t : Nat) (trigger : Nat) (xs : List Nat) (s : State) : Result :=
  .next ((s.advance t).transitRecv fun s =>
    if s.role != 1 then s else s.modPar fun p => { p with takeover := some (trigger, xs) })

/-- XFATAL (R417): trigger 3 at the second. -/
def execXfatal (t : Nat) (code : Nat) (s : State) : Result :=
  .next ((s.advance t).transitRecv fun s =>
    let _ := code
    (s.modPar fun p => { p with peerX := true }).takeOver 3)

/-- TRANSIT_LANE_DROP (R412): more than 8 CRC failures in 1 ms drop a lane that runs, event 0x2782; with no lane left in a direction
the link is down. -/
def execTransitLaneDrop (t : Nat) (lane : Fin 4) (rx : Bool) (s : State) : Result :=
  .next ((s.advance t).transitRecv fun s =>
    if !bit (if rx then s.par.rxLanes else s.par.txLanes) lane then s else
    let s := if rx then s.modPar fun p => { p with rxLanes := putBit p.rxLanes lane false }
             else s.modPar fun p => { p with txLanes := putBit p.txLanes lane false }
    let s := (s.wr (.par .statLanes) 0 s.par.rxLanes).reportSub .transit 0 (if rx then 4 + lane.val else lane.val) 0x2782 []
    if s.par.rxLanes == 0 || s.par.txLanes == 0 then s.transitDown else s)

/-- TRANSIT_LINK_UP (R412, R413): event 0x1781, and ID is sent. -/
def execTransitLinkUp (t : Nat) (tx rx : Fin 16) (s : State) : Result :=
  let s := s.advance t
  let strap := s.rd (.pwr .strapPairRole) 0
  if s.role == 0 && strap != 1 && strap != 2 then .next s
  else if tx.val == 0 || rx.val == 0 then .next s else
  let s := (s.modPar fun p => { p with linkUp := true, txLanes := tx, rxLanes := rx }).wr (.par .statLanes) 0 rx
  let s := s.report .transit 0 0x1781 [(1, rx.val)]
  let id : List Nat := (s.eph.inForce.map fun i => i.hdr.imageId).getD []
  .next ((s.sendTransit 2 (id ++ [s.dev.serial, s.rd (.pwr .strapPairRole) 0])).yieldAtStart)

/-- HANDOVER (R417): at the prime, PAR_CTRL.HANDOVER starts a planned takeover by a second in lockstep, which hears of it
with the next HB; the second itself, to which the host driver writes too, takes over. -/
def execHandover (t : Nat) (s : State) : Result :=
  let s := s.advance t
  .next (if s.role == 1 then
      s.sendTransit 0 [s.role, s.rd (.par .statSelOwn) 0, s.rd (.par .statLockstep) 0, s.rd (.par .statReady) 0, 0, 1]
    else if s.on (.par .statLockstep) 0 then s.takeOver 4 else s)

/-- TAKEOVER_SWITCH (R421): at X the second raises SEL and becomes prime, every tile of the frames on display is flagged
torn, and event 0x2153 names them; a prime that took TAKE drops SEL. R418 lets SEL rise against the peer's only under
trigger 1. -/
def execTakeoverSwitch (t : Nat) (s : State) : Result :=
  let s := s.advance t
  match s.par.takeover with
  | none => .next s
  | some (trigger, xs) =>
    if s.now < xs.min?.getD 0 then .next s
    else if s.role == 1 then
      .next ((((s.modPar fun p => { p with takeover := none }).setSel false).wr (.par .statRole) 0 2).updateReady)
    else if trigger != 1 && s.on (.par .statSelPeer) 0 then .next s
    else
      let s := (s.modPar fun p => { p with takeover := none }).setSel true
      let s := ((s.wr (.par .statRole) 0 1).wr (.par .statLasttrig) 0 trigger).bump (.par .cntTakeovers) 0
      let s := s.wr (.par .tkTimeTime) 0 s.wall
      let s := s.forClusters s.enabledClusters fun s c => s.flagBy c (s.shownFrame c) .torn (s.allTiles c) .par 0
      let frames := allClusters.flatMap fun (c : Fin 4) =>
        let f := if s.clusterOn c then s.shownFrame c % 65536 else 0
        [(1, f % 256), (1, f / 256)]
      .next (((s.report .par 0 0x2153 ((1, trigger) :: frames)).endLockstep).updateReady)

/-- SEL_PEER_CHANGE (R418, R420): a holder that sees the peer's SEL asserted drops its own: for good, unless neither had held
SEL for more than 1 µs, a start collision. A prime that waits raises SEL when the peer's falls. -/
def execSelPeerChange (t : Nat) (high : Bool) (s : State) : Result :=
  let s := (s.advance t).wrb (.par .statSelPeer) 0 high
  if !high then .next s.mayRaiseSel
  else if !s.on (.par .statSelOwn) 0 then .next s.yieldAtStart
  else
    let fresh : Bool := match s.par.selAt with
      | some a => decide (s.now ≤ a + usCclk 1)
      | none => false
    let s := s.setSel false
    if fresh then
      let s := s.modPar fun p => { p with collisions := p.collisions + 1 }
      let w := s.collisionWait
      .next (w.2.modPar fun p => { p with retryAt := some (w.2.now + w.1) })
    else
      let s := ((s.modPar fun p => { p with yielded := true }).wr (.par .statRole) 0 2).wr (.par .statLasttrig) 0 5
      .next ((s.report .par 0 0x2154 []).updateReady)

/-- ROLE_TIMEOUT (R419): a second whose Transit link has not come up 1 s after its step 8, the peer's SEL deasserted, takes
the prime role. -/
def execRoleTimeout (t : Nat) (s : State) : Result :=
  let s := s.advance t
  match s.par.step8At with
  | some a =>
    .next (if s.role == 2 && a + msCclk 1000 ≤ s.now && !s.par.linkUp && !s.on (.par .statSelPeer) 0 && !s.par.yielded then
      (s.settleRole 1 3).mayRaiseSel else s)
  | none => .next s

/-- SEL_RETRY_TIMEOUT (R420): the wait is over; SEL rises again if the peer's is deasserted, and otherwise the module stays
second with LASTTRIG 5. Event 0x115B counts the start collisions. -/
def execSelRetryTimeout (t : Nat) (s : State) : Result :=
  let s := s.advance t
  match s.par.retryAt with
  | some r =>
    if s.now < r then .next s else
    let s := s.modPar fun p => { p with retryAt := none }
    .next (if s.on (.par .statSelPeer) 0 then (s.wr (.par .statLasttrig) 0 5).settleRole 2 s.strapCause
      else (s.setSel true).settleRole 1 s.strapCause)
  | none => .next s

end Sys2Proof.Machine
end

