-- ==== Sys2Proof/Machine/TrainOps.lean ====
section
/-! DEFINITION. Shared operations of the training engines (R297 to R311): targets, preconditions, pass maps, results, staging and
stored calibration. -/

namespace Sys2Proof.Machine

/-- The widest run of set bits of a mask over taps lo to hi, the lowest start on a tie (R300): its start and width. -/
def widestRun (mask lo hi : Nat) : Nat × Nat :=
  ((List.range (hi + 1 - lo)).foldl (fun (x : (Nat × Nat) × Nat) k =>
    let t := lo + k
    if bit mask t then
      let n := x.2 + 1
      (if x.1.2 < n then (t + 1 - n, n) else x.1, n)
    else (x.1, 0)) ((0, 0), 0)).1

/-- A quotient of integers rounded to the nearest, half up. -/
def roundI (a b : Int) : Int := if b == 0 then 0 else (2 * a + b) / (2 * b)

/-- The engine's result over the pass maps of its bits (R300): the bit with the narrowest run, its run and the runs of all bits. -/
def sweepRuns (maps : List Nat) (lo hi : Nat) : List (Nat × Nat) := maps.map fun m => widestRun m lo hi

/-- The index of the narrowest run, the lowest on a tie. -/
def narrowest (rs : List (Nat × Nat)) : Nat :=
  ((rs.zipIdx).foldl (fun (x : Nat × Nat) y => if y.1.2 < x.2 then (y.2, y.1.2) else x) (0, 2 ^ 32)).1

/-- The chosen tap of a run (R300). -/
def chosenTap (r : Nat × Nat) : Nat := r.1 + (r.2 - 1) / 2

namespace State

/-- TARGET of an engine. -/
def engTarget (s : State) (e : Fin 6) : Nat := s.rd (.trn .engCtrlTarget) e
/-- IDX of an engine. -/
def engIdx (s : State) (e : Fin 6) : Nat := s.rd (.trn .engCtrlIdx) e
/-- CLUSTER of an engine. -/
def engCluster (s : State) (e : Fin 6) : Fin 4 := Fin.ofNat 4 (s.rd (.trn .engCtrlCluster) e)

/-- A training target as events carry it (R470). -/
def targetWord (s : State) (e : Fin 6) : Nat := s.engTarget e + s.engIdx e * 2 ^ 8 + (s.engCluster e).val * 2 ^ 16

/-- The die whose helper holds an engine (R297). -/
def engDie (e : Fin 6) : Nat := if e.val < 4 then 0 else 1

/-- The engine serves the target (R297). -/
def engServes (s : State) (e : Fin 6) : Bool := if e.val < 4 then s.engTarget e ≤ 2 else 3 ≤ s.engTarget e && s.engTarget e ≤ 6

/-- LEN of the engine's burst in CCLK (R299). -/
def burstLen (s : State) (e : Fin 6) : Nat := usCclk (clampN 1 64 (s.rd (.trn .engBurstLen) e))

/-- A precondition that does not hold now (R304), of those that a target must meet at its start, throughout and at its end. A lane that works without
being active is no target either, since only a retired lane may be swept (R301): code 3. -/
def brokenPrecond (s : State) (e : Fin 6) : Option Nat :=
  let c := s.engCluster e
  let i := s.engIdx e
  let k : Fin 6 := Fin.ofNat 6 i
  let frozen := fun (r : Nat) => s.rd (.hbm .rgnStatState) r == 1 || s.rd (.hbm .rgnStatState) r == 4
  match s.engTarget e with
  | 0 | 1 => if 16 ≤ i || frozen (i / 8) then some 3 else none
  | 2 =>
    if 17 ≤ i || s.tri[c].active.contains i || (s.workingLanes c).contains i then some 3
    else if !bit s.tri[c].lockMap i || !s.on (.tri .stateRetlock) c then some 5 else none
  | 3 => if 6 ≤ i || s.chState c k == 3 then some 3 else if s.light[c].chans[k].len then some 1 else none
  | 4 => if 6 ≤ i || s.light[c].chans[k].len then some 1 else none
  | _ =>
    if s.on (.lsr .lampBusy) c then some 6
    else if 6 ≤ i || (s.chState c k != 2 && s.chState c k != 3) then some 8
    else if s.on (.lsr .intlkTripped) c || s.on (.lsr .outLightoff) c then some 9 else none

/-- The channel of an engine's HBM target is in self-refresh; recovery training runs in it (R290, R307). -/
def targetSleeps (s : State) (e : Fin 6) : Bool :=
  s.rd (.hbm .pcStatePwr) (s.engIdx e) == 2 && s.rd (.hbm .rgnStatState) (s.engIdx e / 8) != 2

/-- An HBM burst must wait (R307): a frequency change is under way, or the channel is in self-refresh. -/
def burstWaits (s : State) (e : Fin 6) : Bool :=
  2 > s.engTarget e && (s.on (.hbm .fcBusy) (s.engIdx e / 2) || s.targetSleeps e)

/-- The test-step source leaves a channel's PD input at the end of a burst (R301). -/
def stepOff (s : State) (e : Fin 6) : State :=
  if s.engTarget e == 3 && s.rd (.trn .engStatState) e == 2 then s.emit (.testStep (s.engCluster e) (s.engIdx e) false) else s

/-- A run ends (R300): STATE DONE. -/
def endRun (s : State) (e : Fin 6) (pass : Bool) : State :=
  ((s.wr (.trn .engStatState) e 5).wr (.trn .engStatDone) e 1).wrb (.trn .engStatPass) e pass

/-- A run that is not refused breaks the row of refusals of its target (R305). -/
def notRefused (s : State) (e : Fin 6) : State :=
  let key := s.targetWord e
  { s with trn := { s.trn with refusals := s.trn.refusals.filter fun x => x.1 != key } }

/-- The waiting frequency change of an engine's channel starts once no burst gathers there (R280, R307). -/
def releaseFc (s : State) (e : Fin 6) : State :=
  if 2 ≤ s.engTarget e then s else
  match s.mem.fcWait.find? fun x => x.1 == s.engIdx e / 2 with
  | some x => s.startFc x.1 x.2
  | none => s

/-- A precondition fails (R304, R305): nothing is staged; the third consecutive refusal of a target is reported, and bars it until its next scheduled
run. -/
def precondFail (s : State) (e : Fin 6) (code at' : Nat) : State :=
  let s := ((s.endRun e false).wr (.trn .engStatPrecond) e code).wr (.trn .engStatAt) e at'
  let key := s.targetWord e
  let s := s.report .trn (engDie e) 0x1A01 [(4, key), (1, code), (1, at')]
  let n := countOf s.trn.refusals key + 1
  let rest := s.trn.refusals.filter fun x => x.1 != key
  if 3 ≤ n then
    ({ s with trn := { s.trn with refusals := rest, barred := key :: s.trn.barred } }).report .trn (engDie e) 0x2A07 [(4, key), (1, code)]
  else { s with trn := { s.trn with refusals := (key, n) :: rest } }

/-- The pattern that an engine's burst sends (R298); PATTERN above 3 acts as PRBS15, its reset value (DESIGN CHOICE, log entry 110). -/
def engPattern (s : State) (e : Fin 6) : Pattern :=
  match s.rd (.trn .engCtrlPattern) e with
  | 0 => .prbs7
  | 2 => .prbs31
  | 3 => .user ((List.range 256).map fun i => bit (s.rd (.trn .userpatPat) (i / 32)) (i % 32))
  | _ => .prbs15

/-- The tap under test (R301): an HBM target's trial tap, or that of the engine. DESIGN CHOICE (log entry 140): a trial tap that nothing has stepped
reads 0. -/
def testTap (s : State) (e : Fin 6) : Nat :=
  if s.engTarget e ≤ 1 then
    match s.trn.trials.find? fun x => x.target == s.engTarget e && x.pc == s.engIdx e && x.set == s.trn.engines[e].bound with
    | some x => x.tap
    | none => 0
  else s.trn.engines[e].tap

/-- The stimulus of a burst (R298, R300, R301): the trial tap takes the engine's tap, and the pattern is sent; an ADC phase burst drives the test step in
place of the channel's PD input. -/
def stimulate (s : State) (e : Fin 6) : State :=
  let g := s.trn.engines[e]
  let n : TrialTap := ⟨s.engTarget e, s.engIdx e, g.bound, g.tap⟩
  let s := if s.engTarget e ≤ 1 then
      { s with trn := { s.trn with trials := n :: s.trn.trials.filter fun x => !(x.target == n.target && x.pc == n.pc && x.set == n.set) } }
    else s
  match s.engTarget e with
  | 0 | 1 | 2 => s.emit (.pattern e (s.engTarget e) (s.engIdx e) (s.engPattern e) (laneDelays (s.engTarget e)) (s.testTap e))
  | 3 => s.emit (.testStep (s.engCluster e) (s.engIdx e) true)
  | _ => s

/-- A burst or sample run starts, waits or is refused (R304, R307). `temp` is the target's temperature and `pd` the PD mean of the
first 32 samples. What a run must meet throughout is looked at before each of its bursts. -/
def startBurst (s : State) (e : Fin 6) (temp : Int) (pd : Nat) : State :=
  let first := s.rd (.trn .engStatBursts) e == 0
  let ch := s.engIdx e / 2
  let broken := if first then
      s.brokenPrecond e <|> (if s.engTarget e == 4 && s.rd (.trn .pdcalDarkmax) 0 ≤ pd then some 2 else none)
    else s.trn.engines[e].viol <|> s.brokenPrecond e
  match broken with
  | some code => s.precondFail e code (if first then 0 else 1)
  | none =>
    if s.burstWaits e then
      match s.trn.engines[e].waitSince with
      | none => (s.modEng e fun g => { g with waitSince := some s.now }).wr (.trn .engStatState) e 1
      | some w =>
        if msCclk 1000 < s.now - w && s.targetSleeps e then s.precondFail e 3 (if first then 0 else 1)
        else s.wr (.trn .engStatState) e 1
    else
      let cur := s.rd (.hbm .fcCur) ch
      if !first && s.engTarget e ≤ 1 && cur != s.trn.engines[e].bound then
        let s := ((s.endRun e false).notRefused e).wr (.trn .engStatStale) e 1
        s.report .trn (engDie e) 0x1A02 [(4, s.targetWord e), (1, s.trn.engines[e].bound), (1, cur)]
      else
        let s := s.modEng e fun g =>
          { g with
            waitSince := none
            burstAt := s.now
            heard := 0
            bound := if first then cur else g.bound
            temp0 := if first then temp else g.temp0
            viol := if first then none else g.viol }
        ((s.stimulate e).bump (.trn .engStatBursts) e).wr (.trn .engStatState) e 2

/-- GO (R300): a run begins in an engine that is idle or done. -/
def goEngine (s : State) (e : Fin 6) (temp : Int) (pd : Nat) : State :=
  let st := s.rd (.trn .engStatState) e
  if (st != 0 && st != 5) || !s.engServes e then s else
  let s := s.wrs
    [⟨.trn .engStatDone, e, 0⟩, ⟨.trn .engStatPass, e, 0⟩, ⟨.trn .engStatStale, e, 0⟩, ⟨.trn .engStatExpired, e, 0⟩,
     ⟨.trn .engStatPrecond, e, 0⟩, ⟨.trn .engStatAt, e, 0⟩, ⟨.trn .engStatBursts, e, 0⟩]
  let s := s.modEng e fun _ => { Engine.reset with tap := s.rd (.trn .engRangeFirst) e }
  s.startBurst e temp pd

/-- The first and last tap of the sweep an engine runs: FIRST to LAST, or PRE 0 to 15 after POST (R300, the interface table). -/
def sweepRange (s : State) (e : Fin 6) : Nat × Nat :=
  if s.trn.engines[e].wrap then (0, 15) else (s.rd (.trn .engRangeFirst) e, s.rd (.trn .engRangeLast) e)

/-- MINW of a target (R300). -/
def minWidth (s : State) (e : Fin 6) : Nat :=
  max 1 (match s.engTarget e with | 0 | 1 => s.rd (.trn .cfgMinwHbm) 0 | 2 => s.rd (.trn .cfgMinwTri) 0 | _ => s.rd (.trn .cfgMinwAdc) 0)

/-- RESULT and MAP of an engine (R300). -/
def showResult (s : State) (e : Fin 6) (maps : List Nat) (rs : List (Nat × Nat)) : State :=
  let b := narrowest rs
  let r := rs.getD b (0, 0)
  let s := s.wrs [⟨.trn .engResultStart, e, r.1⟩, ⟨.trn .engResultWidth, e, min 127 r.2⟩, ⟨.trn .engResultChosen, e, chosenTap r⟩, ⟨.trn .engResultBit, e, b⟩]
  (List.range 4).foldl (fun s w => s.wr (.trn .engMapMap) (4 * e + w) (bits (maps.getD b 0) (32 * w) 32)) s

/-! ### Stored calibration (R311, R313) -/

/-- The slots that measure a channel's photodiode. -/
def pdSlots (s : State) (c : Fin 4) (k : Fin 6) : List (Fin 16) :=
  allSlots.filter fun i => s.rd (.hel .routeMtype) (slotInst c i) == 1 && s.rd (.hel .routeMidx) (slotInst c i) == k.val

/-- OFS of a photodiode reaches HEL_IN of every slot that measures it (R302, R306). -/
def setOfs (s : State) (c : Fin 4) (k : Fin 6) (ofs : Nat) : State := (s.pdSlots c k).foldl (fun s n => s.wr (.hel .inOfs) (slotInst c n) ofs) s

/-- The front-end object of a cluster (R311). -/
def frontEndPayload (s : State) (c : Fin 4) : List Nat :=
  allChans.flatMap fun k =>
    let i := chanInst c k
    let ofs := match s.pdSlots c k with | n :: _ => s.rd (.hel .inOfs) (slotInst c n) | [] => 0
    ([s.rd (.trn .adcPhase) i, ofs, s.rd (.lsr .pdCfgDark) i, s.rd (.lsr .vstrCfgVstep) i, s.rd (.lsr .vstrOfsVofs) i,
      s.rd (.lsr .diagCfgPdexp) i, s.rd (.trn .adcNophase) i, 0]).flatMap (leBytes 2)

/-- A channel has a valid stored ADC phase (R310). -/
def storedPhase (s : State) (c : Fin 4) (k : Fin 6) : Option Nat :=
  (s.almVal (0x0018 + c.val)).bind fun p =>
    if ofLe ((p.drop (16 * k.val + 12)).take 2) == 0 then some (ofLe ((p.drop (16 * k.val)).take 2)) else none

/-- Values loaded from a stored front-end object (R313). -/
def loadFrontEnd (s : State) (c : Fin 4) (p : List Nat) : State :=
  allChans.foldl (fun s k =>
    let i := chanInst c k
    let f := fun (n : Nat) => ofLe ((p.drop (16 * k.val + 2 * n)).take 2)
    (s.wrs [⟨.trn .adcPhase, i, f 0⟩, ⟨.lsr .pdCfgDark, i, f 2⟩, ⟨.lsr .vstrCfgVstep, i, f 3⟩, ⟨.lsr .vstrOfsVofs, i, f 4⟩, ⟨.lsr .diagCfgPdexp, i, f 5⟩,
      ⟨.trn .adcNophase, i, f 6⟩]).setOfs c k (f 1)) s

/-- Values loaded from a stored taps object (R313). -/
def loadHbmTaps (s : State) (r set : Nat) (p : List Nat) : State :=
  (List.range 576).foldl (fun s n =>
    let j := (8 * r + n / 72) * 216 + set * 72 + n % 72
    (s.wr (.trn .hbmTapRd) j (p.getD (2 * n) 0)).wr (.trn .hbmTapWr) j (p.getD (2 * n + 1) 0)) s

/-- A passing phase sweep leaves a channel with its setting (R310): NOPHASE clears, with event 0x13D1 where it was 1. -/
def setPhase (s : State) (c : Fin 4) (k : Fin 6) (p : Nat) : State :=
  let i := chanInst c k
  let was := s.on (.trn .adcNophase) i
  let s := (s.wr (.trn .adcPhase) i p).wr (.trn .adcNophase) i 0
  let s := if was then s.report .lsrCh i 0x13D1 [(1, p)] else s
  allSlots.foldl (fun s n => s.showOpen c n) s

/-- What a staged or measured result writes, and the object stored after it (R302, R306, R311). -/
def applyResult (s : State) (r : Staged) : State :=
  let c : Fin 4 := Fin.ofNat 4 r.cluster
  let k : Fin 6 := Fin.ofNat 6 r.idx
  let i := chanInst c k
  let v := fun (n : Nat) => r.vals.getD n 0
  let fe := fun (s : State) => s.almRequest (0x0018 + c.val) (s.frontEndPayload c)
  match r.target with
  | 0 | 1 =>
    let f : Fld := if r.target == 0 then .trn .hbmTapRd else .trn .hbmTapWr
    let s := (r.vals.zipIdx).foldl (fun s x => s.wr f (r.idx * 216 + r.set * 72 + x.2) x.1) s
    s.almRequest (1 + r.idx / 8 * 3 + r.set) (s.hbmTapsPayload (r.idx / 8) r.set)
  | 2 => let s := s.setTaps c r.idx (v 0) (v 1); s.almRequest (0x0010 + c.val) (s.triocTapsPayload c)
  | 3 => fe ((s.wr (.trn .adcStaged) i 0).setPhase c k (v 0))
  | 4 => fe ((s.wr (.lsr .pdCfgDark) i (v 1)).setOfs c k (v 0))
  | 5 => fe ((s.wr (.lsr .vstrCfgVstep) i (v 0)).wr (.lsr .vstrOfsVofs) i (v 1))
  | _ => fe (s.wr (.lsr .diagCfgPdexp) i (v 0))

/-- A result is staged (R302); under recovery its target is out of service and it applies at once (R307); while the Observer sheds
load it is held back (R303). -/
def stageResult (s : State) (e : Fin 6) (vals : List Nat) : State :=
  let r : Staged :=
    { target := s.engTarget e, idx := s.engIdx e, cluster := s.engCluster e, set := s.trn.engines[e].bound, vals := vals, at' := s.now }
  let s := ((s.notRefused e).wr (.trn .engStatDone) e 1).wr (.trn .engStatPass) e 1
  if r.target ≤ 1 && s.rd (.hbm .rgnStatState) (r.idx / 8) == 2 then (s.applyResult r).wr (.trn .engStatState) e 5
  else if s.on (.obs .loadShedding) 0 then (s.modEng e fun g => { g with held := some r }).wr (.trn .engStatState) e 3
  else
    let s := if r.target == 3 then s.wr (.trn .adcStaged) (chanInst (Fin.ofNat 4 r.cluster) (Fin.ofNat 6 r.idx)) 1 else s
    (s.modEng e fun g => { g with staged := some r }).wr (.trn .engStatState) e 4

/-- A sweep finds no working setting (R309, R310). -/
def noTap (s : State) (e : Fin 6) (b w : Nat) : State :=
  let s := ((s.endRun e false).notRefused e).report .trn (engDie e) 0x2A04 [(4, s.targetWord e), (1, b), (1, w)]
  let i := s.engIdx e
  let c := s.engCluster e
  match s.engTarget e with
  | 0 | 1 => (s.wr (.hbm .pcStateFailed) i 1).wr (.st .pc .degr) i 1
  | 2 => s.retireLane c i 3
  | _ =>
    let k : Fin 6 := Fin.ofNat 6 i
    match s.storedPhase c k with
    | some p => s.wr (.trn .adcPhase) (chanInst c k) p
    | none =>
      let was := s.on (.trn .adcNophase) (chanInst c k)
      let s := allSlots.foldl (fun s n => s.showOpen c n) (s.wr (.trn .adcNophase) (chanInst c k) 1)
      if was then s else s.report .lsrCh (chanInst c k) 0x23D0 [(1, 1)]

/-- The values of a calibration without a sweep (R306). -/
def measuredVals (s : State) (e : Fin 6) (g : Gathered) : List Nat :=
  let i := chanInst (s.engCluster e) (Fin.ofNat 6 (s.engIdx e))
  match s.engTarget e with
  | 4 => let m := roundQ g.total 256; [m, m + s.rd (.trn .pdcalDarkmarg) 0]
  | 5 =>
    let nh : Int := s.rd (.lsr .chStateNlitH) i
    let nl : Int := s.rd (.lsr .chStateNlitL) i
    let step : Int := if nh == nl then s.rd (.lsr .vstrCfgVstep) i else roundI ((g.sumH : Int) - g.sumL) (64 * (nh - nl))
    [unsigned 12 step, unsigned 12 (roundI ((g.sumH : Int) - 64 * nh * step) 64)]
  | _ => [roundQ g.total 8]

/-- The checks at the end of a run's last burst or sample (R304). -/
def endBroken (s : State) (e : Fin 6) (g : Gathered) : Option Nat :=
  let t := s.engTarget e
  let c := s.engCluster e
  (s.brokenPrecond e) <|>
    (if (t ≤ 1 || t == 3) && 80 < |g.temp - s.trn.engines[e].temp0| then some 4
     else if t == 4 && s.rd (.trn .pdcalDarkmax) 0 ≤ g.pdLast then some 2
     else if t == 5 && (s.dimEff c < 16384 || g.numH < 64 || g.numL < 64) then some 7 else none)

/-- A burst's pass bits join the maps of an engine (R300). -/
def recordTap (s : State) (e : Fin 6) (errs : List Nat) : State :=
  let t := s.trn.engines[e].tap
  let old := s.trn.engines[e].maps
  let maps := (errs.zipIdx).map fun x => putBit (old.getD x.2 0) t (x.1 == 0)
  s.modEng e fun g => { g with maps := maps }

/-- The error counters of an engine (R299). -/
def countErrs (s : State) (e : Fin 6) (errs : List Nat) : State :=
  (errs.zipIdx).foldl (fun s x => if x.2 < 72 then s.bumpBy (.trn .biterrCount) (72 * e + x.2) x.1 else s) s

/-- The end of a sweep's last tap (R300): the result is staged, or PRE is swept after POST, or no tap passes. -/
def endSweep (s : State) (e : Fin 6) : State :=
  let g := s.trn.engines[e]
  let rng := s.sweepRange e
  let rs := sweepRuns g.maps rng.1 rng.2
  let s := s.showResult e g.maps rs
  let b := narrowest rs
  if rs.isEmpty || rs.any fun r => r.2 < s.minWidth e then s.noTap e b (rs.getD b (0, 0)).2
  else if s.engTarget e == 2 && !g.wrap then
    (s.modEng e fun x => { x with wrap := true, tap := 0, maps := [], taken := rs.map chosenTap }).wr (.trn .engStatState) e 3
  else s.stageResult e (if s.engTarget e == 2 then rs.map chosenTap ++ g.taken else rs.map chosenTap)

/-- A burst or sample run ends (R299 to R307). On Trioc the errors are those that the array's TRAIN messages counted during it. -/
def endBurst (s : State) (e : Fin 6) (g : Gathered) : State :=
  let sweep := s.engTarget e ≤ 3
  let errs := match s.engTarget e with
    | 0 | 1 => (g.errs ++ List.replicate 72 0).take 72
    | 2 => [s.trn.engines[e].heard]
    | _ => (g.errs ++ [0]).take 1
  let s := (s.stepOff e).wr (.trn .engStatState) e 3
  let s := s.releaseFc e
  let s := if sweep then (if s.engTarget e == 2 then s else s.countErrs e errs).recordTap e errs else s
  let last := !sweep || (s.sweepRange e).2 ≤ s.trn.engines[e].tap
  match s.trn.engines[e].viol with
  | some code => s.precondFail e code 1
  | none =>
    if !last then s.modEng e fun x => { x with tap := x.tap + 1 }
    else
      let fin := !(s.engTarget e == 2 && !s.trn.engines[e].wrap)
      match (if fin then s.endBroken e g else none) with
      | some code => s.precondFail e code 2
      | none => if sweep then s.endSweep e else s.stageResult e (s.measuredVals e g)

/-- A quiet settle, a dump window or a tail of a cluster (R137, R302): the settle at G, and each settle of the A-window. -/
def quietNow (s : State) (c : Fin 4) : Bool :=
  !s.chr[c].running || s.chr[c].seg == 0 || s.inTail c
    || match s.shownRec c with
      | some f =>
        let h := f.sched.hdr
        let a := match (segmentsOf f.sched.ents)[s.chr[c].seg - 1]? with | some g => aResets h (s.chr[c].lastG + tPortion h g.2) | none => []
        (s.chr[c].lastG :: a).any fun r => r ≤ s.now && s.now < r + h.settle
      | none => true

/-- An HBM pseudo-channel has no read or write in flight and leaves 64 ns idle, or its stack is in self-refresh (R302): the commands of the model are served
whole. A region that is stopped has no boundary. -/
def pcIdle (s : State) (p : Nat) : Bool :=
  !s.regionStopped (p / 8) && (s.rd (.hbm .pcStatePwr) p == 2 || s.mem.lastReq[(Fin.ofNat 16 p)] + 103 ≤ s.now)

/-- The boundary permits a staged result now (R302), as far as the target's own state shows it. -/
def atBoundary (s : State) (r : Staged) : Bool :=
  let c : Fin 4 := Fin.ofNat 4 r.cluster
  let x := s.light[c].chans[(Fin.ofNat 6 r.idx : Fin 6)]
  match r.target with
  | 0 | 1 => s.pcIdle r.idx
  | 2 => s.bandsOffNow c
  | _ => !x.diagOn && (s.chState c (Fin.ofNat 6 r.idx) != 3 || (s.quietNow c && !x.len && 160 ≤ s.now - x.lenSince))

/-- A staged result comes into force (R302): its engine is done. -/
def applyStaged (s : State) (e : Fin 6) (r : Staged) : State :=
  ((s.modEng e fun g => { g with staged := none }).applyResult r).wr (.trn .engStatState) e 5

/-- A staged result is discarded after APPLYTMO (R302). -/
def expireResult (s : State) (e : Fin 6) (r : Staged) : State :=
  let s := s.modEng e fun g => { g with staged := none, held := none }
  let s := if r.target == 3 then s.wr (.trn .adcStaged) (chanInst (Fin.ofNat 4 r.cluster) (Fin.ofNat 6 r.idx)) 0 else s
  let s := (s.wr (.trn .engStatState) e 5).wr (.trn .engStatExpired) e 1
  s.report .trn (engDie e) 0x1A03 [(4, s.targetWord e), (4, (s.now - r.at') / msCclk 1)]

/-- Results held back while load was shed are staged (R303). -/
def releaseHeld (s : State) : State :=
  ([0, 1, 2, 3, 4, 5] : List (Fin 6)).foldl (fun s (e : Fin 6) =>
    match s.trn.engines[e].held with
    | none => s
    | some r =>
      let s := if r.target == 3 then s.wr (.trn .adcStaged) (chanInst (Fin.ofNat 4 r.cluster) (Fin.ofNat 6 r.idx)) 1 else s
      (s.modEng e fun g => { g with staged := some { r with at' := s.now }, held := none }).wr (.trn .engStatState) e 4) s

end State

end Sys2Proof.Machine
end

