-- ==== Sys2Proof/Machine/TrainRows.lean ====
section
/-! DEFINITION. Training and calibration commands (R297 to R310). -/

namespace Sys2Proof.Machine
namespace State

/-- The engines obey the host alone while HOST = 1, and the firmware alone otherwise; a host's other attempt is an apply error. -/
def engOwner (s : State) (host : Bool) : Bool := s.on (.trn .ctrlHost) 0 == host

/-- A run of a target is due (R305, the interface table): by time in CCLK since its last run, by the stack's drift, on DEGR, because an event asked
for it, or as the retry of a run that was refused. A target refused three times waits for a scheduled run: DEGR alone makes none (R305). -/
def runDue (s : State) (target idx : Nat) (key : Nat) (temp : Int) : Bool :=
  let gone := match s.trn.lastRun.find? fun x => x.1 == key with | some x => s.now - x.2 | none => s.now
  let min' := fun (f : Fld) => s.rd f 0 != 0 && msCclk 60000 * s.rd f 0 ≤ gone
  s.trn.asked.any (fun x => x.1 == key && x.2 ≤ s.now) || countOf s.trn.refusals key != 0 ||
  match target with
  | 0 | 1 => min' (.trn .schedRetrainMin) || (16 * s.rd (.trn .cfgTdrift) 0 : Nat) ≤ |temp - s.trn.lastTemp| || (s.on (.st .pc .degr) idx && !s.trn.barred.contains key)
  | 3 => min' (.trn .schedRetrainMin) && s.rd (.lsr .chStateState) (6 * (key / 2 ^ 16) + idx) == 2
  | 4 => min' (.trn .schedDarkmin)
  | 5 | 6 => msCclk 3600000 ≤ gone
  | _ => false

end State

/-- TRAINING_GO (R300, R304): GO of an engine, written by the host or by the firmware. -/
def execTrainingGo (t : Nat) (e : Fin 6) (host : Bool) (temp : Int) (pd : Nat) (s : State) : Result :=
  let s := s.advance t
  if !s.engOwner host then .next (if host then s.applyErr (0x3000100 + 0x40 * e.val) 5 0 else s) else
  .next (s.goEngine e temp pd)

/-- TRAINING_ABORT (R300): the run is discarded and the engine idles. -/
def execTrainingAbort (t : Nat) (e : Fin 6) (host : Bool) (s : State) : Result :=
  let s := s.advance t
  if !s.engOwner host then .next (if host then s.applyErr (0x3000100 + 0x40 * e.val) 5 0 else s) else
  let s := match s.trn.engines[e].staged with
    | some r => if r.target == 3 then s.wr (.trn .adcStaged) (chanInst (Fin.ofNat 4 r.cluster) (Fin.ofNat 6 r.idx)) 0 else s
    | none => s
  let s := ((s.stepOff e).modEng e fun g => { g with staged := none, held := none, viol := none, maps := [] }).wr (.trn .engStatState) e 0
  .next (s.releaseFc e)

/-- GATHER_BURST_START (R299, R307): the next burst falls due GAP after the last, or the target that the engine waits for is looked at
again. -/
def execGatherBurstStart (t : Nat) (e : Fin 6) (temp : Int) (pd : Nat) (s : State) : Result :=
  let s := s.advance t
  let st := s.rd (.trn .engStatState) e
  let due := s.trn.engines[e].burstAt + s.burstLen e + usCclk (s.rd (.trn .engBurstGap) e)
  .next (if s.trn.engines[e].held.isNone && (st == 1 || (st == 3 && due ≤ s.now)) then s.startBurst e temp pd else s)

/-- GATHER_BURST_END (R299 to R307): what the burst or the sample run gathered. A dark run takes 256 samples once LEN has been low for 200 ns
(R306). -/
def execGatherBurstEnd (t : Nat) (e : Fin 6) (g : Gathered) (s : State) : Result :=
  let s := s.advance t
  let from' := s.trn.engines[e].burstAt
  let low := s.light[s.engCluster e].chans[(Fin.ofNat 6 (s.engIdx e) : Fin 6)].lenSince
  let whole := match s.engTarget e with
    | 5 | 6 => true
    | 4 => max from' (low + 320) + 1024 ≤ s.now
    | _ => from' + s.burstLen e ≤ s.now
  .next (if s.rd (.trn .engStatState) e == 2 && whole then s.endBurst e g else s)

/-- STAGED_RESULT_APPLY (R302): a boundary of the staged result's interface has come. -/
def execStagedResultApply (t : Nat) (e : Fin 6) (s : State) : Result :=
  let s := s.advance t
  .next (match s.trn.engines[e].staged with
    | some r => if s.atBoundary r then s.applyStaged e r else s
    | none => s)

/-- HBM_REFRESH (R274): issued, with those postponed before it, or postponed behind an urgency-3 request up to 8 intervals; in self-refresh the stack
refreshes itself. A refresh that is issued is a boundary of its pseudo-channel's staged results (R302). -/
def execHbmRefresh (t : Nat) (p : Fin 16) (urgent : Bool) (s : State) : Result :=
  let s := s.advance t
  if s.rd (.hbm .pcStatePwr) p == 2 then .next s else
  let n := s.mem.postponed[p]
  if urgent && n < 8 then .next (s.modMem fun m => { m with postponed := m.postponed.set p (n + 1) }) else
  let s := s.modMem fun m => { m with postponed := m.postponed.set p 0 }
  .next (([0, 1, 2, 3] : List (Fin 6)).foldl (fun s (e : Fin 6) =>
    match s.trn.engines[e].staged with
    | some r => if r.target ≤ 1 && r.idx == p.val && !s.regionStopped (p.val / 8) then s.applyStaged e r else s
    | none => s) s)

/-- STAGED_RESULT_EXPIRY (R302): a result staged for longer than APPLYTMO. -/
def execStagedResultExpiry (t : Nat) (e : Fin 6) (s : State) : Result :=
  let s := s.advance t
  .next (match s.trn.engines[e].staged with
    | some r => if msCclk (s.rd (.trn .schedApplytmo) 0) ≤ s.now - r.at' then s.expireResult e r else s
    | none => s)

/-- SCHEDULED_TRAINING (R305, the interface table): the firmware starts a run that has fallen due on an idle engine. -/
def execScheduledTraining (t : Nat) (e : Fin 6) (target : Fin 7) (idx : Nat) (c : Fin 4) (temp : Int) (pd : Nat) (s : State) : Result :=
  let s := s.advance t
  let st := s.rd (.trn .engStatState) e
  let key := target.val + idx % 256 * 2 ^ 8 + c.val * 2 ^ 16
  let up := s.running && s.duty 6 && s.rd (.pwr .limitAct) 0 < 2
  if s.on (.trn .ctrlHost) 0 || !up || (st != 0 && st != 5) || !s.runDue target.val idx key temp then .next s else
  let s := s.wrs [⟨.trn .engCtrlTarget, e, target.val⟩, ⟨.trn .engCtrlIdx, e, idx⟩, ⟨.trn .engCtrlCluster, e, c.val⟩,
    ⟨.trn .engCtrlPattern, e, if target == 2 then 2 else 1⟩, ⟨.trn .engRangeFirst, e, 0⟩,
    ⟨.trn .engRangeLast, e, match target.val with | 2 | 3 => 63 | _ => 127⟩]
  let s := { s with trn := { s.trn with
    barred := s.trn.barred.filter fun x => x != key
    lastRun := (key, s.now) :: s.trn.lastRun.filter fun x => x.1 != key
    asked := s.trn.asked.filter fun x => x.1 != key
    lastTemp := if target.val ≤ 1 then temp else s.trn.lastTemp } }
  .next (s.goEngine e temp pd)

end Sys2Proof.Machine
end

