-- ==== Sys2Proof/Machine/PowerOps.lean ====
section
/-! DEFINITION. Observer resets and the shedding level (R425 to R430), deep standby (R365), the power-fail sequence (R336, R369, R370),
supply and clock faults (R356, R358, R362, R363), shedding steps (R374). -/

namespace Sys2Proof.Machine
namespace State

/-! ### The Observer -/

/-- Change the Observer. -/
def modObs (s : State) (f : Observer → Observer) : State := { s with obs := f s.obs }
/-- Change power and clocks. -/
def modPwr (s : State) (f : Power → Power) : State := { s with pwr := f s.pwr }

/-- The shedding level changes (R425): 0x28C3 at the first rise, 0x18C5 at the return to 0, 0x18C4 otherwise; results held while
shedding are released at its end (R426). -/
def setShed (s : State) (new : Nat) : State :=
  let old := s.rd (.obs .loadShed) 0
  let mean := s.rd (.obs .loadMean) 0
  if new == old then s else
  let since := s.obs.shedSince
  let s := (s.wr (.obs .loadShed) 0 new).wrb (.obs .loadShedding) 0 (new != 0)
  let s := s.modObs fun o => { o with lastChange := s.now, shedSince := if old == 0 then s.now else o.shedSince }
  if old == 0 then (s.bump (.obs .shedCntEntries) 0).report .obs 0 0x28C3 [(1, new), (1, mean)]
  else if new == 0 then (s.report .obs 0 0x18C5 [(4, (s.now - since) / msCclk 1)]).releaseHeld
  else s.report .obs 0 0x18C4 [(1, old), (1, new), (1, mean)]

/-- A run in progress is discarded and its engine idles (R300, R429). -/
def dropRun (s : State) (e : Fin 6) : State :=
  let st := s.rd (.trn .engStatState) e
  if st == 1 || st == 2 || st == 3 then
    (((s.stepOff e).modEng e fun g => { g with held := none, viol := none, maps := [] }).wr (.trn .engStatState) e 0).releaseFc e
  else s

/-- The Observer is reset (R429, R430, R384): OFFLINE, a command in progress answered OFFLINE, upload sessions abandoned, firmware's
training runs dropped, the level 0. `boots` says that it boots again. -/
def observerDown (s : State) (boots : Bool) : State :=
  let s := if s.on (.obs .statusBusy) 0 then s.mailReply (s.rd (.obs .cmdTag) 0) (.fail 2 1) else s
  let s := { s with host := { s.host with ephUp := none, fwUp := none } }
  let s := if s.on (.trn .ctrlHost) 0 then s else ([0, 1, 2, 3, 4, 5] : List (Fin 6)).foldl dropRun s
  let s := (s.setShed 0).wr (.obs .statusOffline) 0 1
  s.modObs fun o => { o with bootingSince := if boots then some s.now else none, windows := [] }

/-- The Observer boots again (R429): OFFLINE clears. -/
def observerUp (s : State) : State :=
  match s.obs.bootingSince with
  | none => s
  | some b =>
    let s := (s.modObs fun o => { o with bootingSince := none }).wr (.obs .statusOffline) 0 0
    s.report .obs 0 0x18C7 [(4, (s.now - b) / msCclk 1), (1, s.rd (.obs .fwCopy) 0)]

/-! ### Stop fades of the module itself (R53, R365) -/

/-- Every output that is not stopped starts its stop fade. -/
def beginStops (s : State) : State :=
  s.forClusters allClusters fun s c =>
    if !s.clusterOn c || !s.cfg[c].present || s.on (.lsr .outStopped) c then s else
    (s.beginStop c).modEph fun l => { l with stopped := c.val :: l.stopped }

/-- No stop fade runs any more; an output without meridians is dark already. -/
def stopsEnded (s : State) : Bool :=
  allClusters.all fun c => !s.chr[c].running || (match s.light[c].fade with | some f => f.kind != .stop | none => true)

/-- The outputs that the module stopped itself are no longer stopped: they restart with the start fade. -/
def clearStops (s : State) : State :=
  let l := s.eph.stopped
  let s := s.forClusters (allClusters.filter fun c => l.contains c.val) fun s c => ((s.wr (.lsr .outStopped) c 0).abandonFade c).showOut c
  s.modEph fun e => { e with stopped := [] }

/-! ### Domains going down -/

/-- Inputs hold HPD low and their links are down (R72): one that was up is lost with cause 3 (R75). -/
def inputsDown (s : State) : State :=
  ([0, 1, 2, 3] : List (Fin 4)).foldl (fun s (i : Fin 4) =>
    let s := if s.dp[i].routed then s.emit (.hpd i false) else s
    let s := if !s.on (.dpr .linkUp) i then s else ((s.wr (.dpr .linkPsr) i 0).wr (.dpr .linkLostcause) i 3).report .dpr i 0x2801 [(1, 3)]
    ((s.wr (.dpr .linkUp) i 0).wr (.dpr .linkHpd) i 0).modDp i fun d => { d with routed := false }) s

/-- The archive port goes off with PD03 and the encoder with PD47: no drive, nothing staged. -/
def archiveOff (s : State) : State :=
  let s := s.modArc fun a =>
    { a with drive := none, cmds := [], staging := [], opens := [], flush := none, ring := [], rates := [] }
  (s.wr (.arc .stateState) 0 0).wr (.arc .stateFlushing) 0 0

/-- The Trioc links go down with their domains. -/
def linksOff (s : State) : State :=
  s.forClusters allClusters fun s c => (s.wr (.tri .stateLink) c 0).wr (.tri .stateRetlock) c 0

/-- PCIe goes down with PD02 (R365, R369). -/
def pcieOff (s : State) : State := s.endpointReset.wr (.pci .linkUp) 0 0

/-! ### Deep standby (R365) -/

/-- Steps 2 to 4 of the entry: the checkpoint, every domain but PD00 and PD08 off, DEEP_STANDBY and event 0x1942. -/
def standbyNow (s : State) : State :=
  let s := ((s.checkpoint.observerDown false).inputsDown).archiveOff.pcieOff
  let s := (s.keepDomains 0x101).linksOff
  let s := (s.modPwr fun p => { p with standbyPend := false }).wr (.pwr .stateState) 0 2
  s.report .pwr 0 0x1942 [(1, 1), (1, 0)]

/-- Deep standby is asked for: the stop fades start, and once they and a Logbook save have ended the entry completes (R324, R365). -/
def enterStandby (s : State) : State :=
  if !s.running then s else
  let s := if s.pwr.standbyPend then s else (s.modPwr fun p => { p with standbyPend := true }).beginStops
  if s.stopsEnded && s.log.saving.isNone then s.standbyNow else s

/-! ### Power-fail (R336, R369, R370) -/

/-- The power-fail record goes straight into the ring, frozen or not, with TRIGGER, and the ring freezes (R336). -/
def powerFailRecord (s : State) (vin cause : Nat) : State :=
  let r : Report :=
    { time := s.wall, code := 0x294A, path := pathOf .pwr 0 0xFF, data := packData [(2, vin), (1, cause)], count := 1, trigger := true,
      summary := false, loc := !s.on (.chn .wtStatValid) 0 || s.pwr.refLost }
  let s := (s.wr (.st .pwr .lastclass) 0 2).bump (.st .pwr .errcnt) 0
  let s := s.modLog fun l => { l with life := countUp 1 l.life (UType.pwr.code * 5 + 1), freeze := none, saving := none }
  (s.writeRecord r).1.wr (.log .statFrozen) 0 1

/-- The store of an object is cut off after n bytes of its copy (R321). -/
def tearObj (s : State) (oid : Nat) (payload : List Nat) (n : Nat) : State :=
  s.modAlm fun a => { a with objs := putObj a.objs ((s.almObj oid).tear payload n) }

/-- The transfer in flight on the Almanac bus is abandoned (R317, R321, R322, R336), where one is of that kind: the oldest waiting store, the Logbook save under
way, a checkpoint, or the raw write that the mailbox carries. -/
def cutBus (s : State) (cut : BusCut) : State :=
  match cut with
  | .store n => match s.alm.stores with | [] => s | x :: _ => s.tearObj x.oid x.payload n
  | .save n =>
    match s.log.saving with
    | some (_, slot, _) => s.modLog fun l => { l with slots := l.slots.set (Fin.ofNat 2 slot) (mixSlot l.ring.reverse l.slots[(Fin.ofNat 2 slot : Fin 2)] n) }
    | none => s
  | .checkpoint n => if s.log.saving.isSome || !s.domOn 1 then s else s.tearObj 0x0301 (s.shadowPayload 1) n
  | .raw n =>
    let addr := s.rd (.obs .argArg) 0
    let len := s.rd (.obs .argArg) 1
    if !s.on (.obs .statusBusy) 0 || s.rd (.obs .cmdCmd) 0 != 0x0302 || len < 1 || 256 < len || !inRawArea addr 1 then s else
    let data : List Byte := (List.range len).map fun i => BitVec.ofNat 8 (s.rd (.obs .reqpageWord) (i / 4) / 256 ^ (i % 4))
    { s with raw := (((rawAddrs addr len).zip data).take n).foldl (fun r x => cellSet r x.1 x.2) s.raw }

/-- A raw write that power loss abandons has no reply (R322). -/
def dropRaw (s : State) : State := if s.rd (.obs .cmdCmd) 0 == 0x0302 then s.wr (.obs .statusBusy) 0 0 else s

/-- The freeze that a power-fail joins, as its cause, the slot of a save under way, and the time of its trigger (R335): a save under way
restarts into its slot with its cause; a freeze whose POST records are being counted takes the first cause of the two. -/
def failFreeze (s : State) : Nat × Option (Fin 2) × Nat :=
  match s.log.saving, s.log.freeze with
  | some (cause, slot, time), _ => (cause, some (Fin.ofNat 2 slot), time)
  | none, some (cause, _, _, time) => (min cause 2, none, time)
  | none, none => (2, none, s.wall)

/-- The power-down save as far as it comes (R324, R334, R336), of the freeze that the power-fail joined. -/
def powerSave (s : State) (e : SaveEnd) (joined : Nat × Option (Fin 2) × Nat) : State :=
  let time := joined.2.2
  let image := s.shadowPayload 2
  match e with
  | .imageTorn n => (s.tearObj 0x0301 image n).wr (.alm .saveOk) 0 0
  | _ =>
    let s := s.saveShadow 2
    match joined.2.1 <|> s.saveTarget with
    | none =>
      let s := (s.bump (.log .statSkipped) 0).report .log 0 0x2B04 [(1, joined.1)]
      (s.wr (.alm .saveOk) 0 1).wr (.alm .saveLastus) 0 158
    | some slot =>
      match e with
      | .complete => ((s.saveRing slot joined.1 time).wr (.alm .saveOk) 0 1).wr (.alm .saveLastus) 0 2842
      | .slotTorn n =>
        let mixed := mixSlot s.log.ring.reverse s.log.slots[slot] n
        (s.modLog fun l => { l with slots := l.slots.set slot mixed }).wr (.alm .saveOk) 0 0
      | .logsaveTorn n =>
        let whole := s.saveRing slot joined.1 time
        let s := s.modLog fun l => { l with slots := l.slots.set slot s.log.ring.reverse }
        (s.tearObj 0x0028 whole.logsavePayload n).wr (.alm .saveOk) 0 0
      | .imageTorn _ => s

/-- How PWR_LASTFAIL records the end of the power cycle: a thermal shutdown or a class X event that had already ended it is kept against a
PFAIL. -/
def lastCause (s : State) (cause : Nat) : Nat :=
  let st := s.rd (.pwr .stateState) 0
  if cause == 1 && st == 4 then 3 else if cause == 1 && st == 5 then 4 else cause

/-- The power-fail sequence (R369, R370): light off, record and freeze, DUMP, the domains shed, the save, release. Before step 3 has
ended nothing is saved. `cut` is the transfer on the Almanac bus that it cuts off. -/
def powerDown (s : State) (vin cause : Nat) (cut : Option BusCut) (e : SaveEnd) : State :=
  if s.rd (.pwr .stateState) 0 == 3 then s else
  let early := s.rd (.pwr .stateState) 0 == 0 && s.rd (.pwr .stateStep) 0 < 3
  let last := s.lastCause cause
  let s := s.forClusters allClusters fun s c => s.lensLow c
  let joined := s.failFreeze
  let s := match cut with | some x => s.cutBus x | none => s
  let s := s.dropRaw
  let s := if early then s else (s.powerFailRecord vin cause).wr (.log .statCause) 0 joined.1
  let s := if !early && s.trigMasked 2 then s.sendTrig [0, 1] (s.rd (.chn .addrAddr) 0) 2 else s
  let s := s.forClusters allClusters fun s c => s.sendDump c
  let s := if early then s else s.powerSave e joined
  let s := s.modAlm fun a => { a with stores := [] }
  let s := ((s.observerDown false).inputsDown).archiveOff.pcieOff
  let s := (s.keepDomains 1).linksOff
  let s := ((s.setSel false).emit (.faultOut false)).modPwr fun p => { p with faultOut := false, standbyPend := false }
  let s := if early then s else s.wr (.pwr .lastfailCause) 0 last
  (s.wr (.pwr .stateState) 0 3).wr (.pwr .holdupEnergy) 0 0

/-- Steps 1 to 3 of R435 for the class X events that replace its step 4 by their own course (R356, R373). -/
def fatalSignals (s : State) (code : Nat) : State :=
  let s := s.forClusters allClusters fun s c => (s.lensLow c).sendDump c
  if s.role != 1 then s else
  let s := s.setSel false
  if s.par.linkUp && !s.halted .transit 0 then s.emit (.transit 8 [code]) else s

/-! ### Domains and clocks -/

/-- A domain does not reach power-good within 1 ms (R358): it is off, and its cluster's output dark or the module fatal. -/
def powerGoodFail (s : State) (d : Nat) : State :=
  let s := s.keepDomains (2 ^ 64 - 1 - 2 ^ d)
  let c : Option Nat := if 9 ≤ d && d ≤ 12 then some (d - 9) else if 26 ≤ d && d ≤ 45 then some ((d - 26) % 4) else none
  match c with
  | some c => (s.reportSub .dom d 0xFF 0x4AC1 [(1, d)]).darken (Fin.ofNat 4 c) true .dom d 0x4AC1
  | none => s.fatalEvent .dom d 0x5AC2 [(1, d)]

/-- The domains that a PLL serves (R360). -/
def pllDomains : Nat → List Nat
  | 0 => [14, 15, 16] ++ (List.range 8).map (· + 18) ++ (List.range 16).map (· + 34) ++ (List.range 8).map (· + 26)
  | 1 => [15]
  | 2 => [16]
  | 3 => [42, 43]
  | 4 => [44, 45]
  | 5 => [1, 13]
  | 6 => [9, 10, 11, 12]
  | _ => [3, 8]

/-- The PLLs whose first domain has come on lock (R361). -/
def lockPlls (s : State) : State :=
  s.wr (.pwr .pllLock) 0 (maskOf 8 fun i => bit (s.rd (.pwr .pllLock) 0) i || (pllDomains i).any s.domOn)

/-- The first domain of a PLL is on, so that it starts and locks; one already running keeps its state (R361). -/
def powerUpPlls (old s : State) : State :=
  s.wr (.pwr .pllLock) 0 (maskOf 8 fun i =>
    bit (s.rd (.pwr .pllLock) 0) i || (!(pllDomains i).any old.domOn && (pllDomains i).any s.domOn))

/-- A PLL is locked. -/
def pllLocked (s : State) (i : Nat) : Bool := bit (s.rd (.pwr .pllLock) 0) i

/-- REFCLK is valid (R363): PD00 runs on REFCLK / 4; event 0x1A83 with the measured period error. Records stay
LOCAL until chain wall time is received. -/
def refclkValid (s : State) (err : Int) : State :=
  if s.on (.pwr .stateRefclkOk) 0 then s else
  let s := s.wr (.pwr .stateRefclkOk) 0 1
  s.report .pll 7 0x1A83 [(2, unsigned 16 err)]

/-- The hold-up's energy at start (R367): below 5 mJ after 50 ms is event 0x2949, and start-up goes on. -/
def holdupAt (s : State) (energy : Nat) : State :=
  let s := (s.wr (.pwr .holdupEnergy) 0 (satN 16 energy)).wrb (.pwr .stateHoldupOk) 0 (5000 ≤ energy)
  if 5000 ≤ energy || s.pwr.holdupLate then s else
  (s.modPwr fun p => { p with holdupLate := true }).report .pwr 0 0x2949 [(4, energy)]

/-! ### Shedding steps (R374) -/

/-- Every elastic channel is requested to its MINSET, and the set that it had requested is kept (R374). -/
def shedSets (s : State) : State :=
  ([0, 1, 2, 3, 4, 5, 6, 7] : List (Fin 8)).foldl (fun s (ch : Fin 8) =>
    if !s.on (.hbm .fcElastic) ch then s else
    (s.modPwr fun p => { p with reqBefore := (ch.val, s.rd (.hbm .fcReqset) ch) :: p.reqBefore }).requestSet ch (s.rd (.hbm .fcMinset) ch))
    (s.modPwr fun p => { p with reqBefore := [] })

/-- The end of step 3. DESIGN CHOICE (log entry 141): a channel whose request still stands at its MINSET is requested to the set that it had requested
before the step. -/
def restoreSets (s : State) : State :=
  s.pwr.reqBefore.foldl (fun s x =>
    let ch : Fin 8 := Fin.ofNat 8 x.1
    if s.rd (.hbm .fcReqset) ch == s.rd (.hbm .fcMinset) ch then s.requestSet ch x.2 else s)
    (s.modPwr fun p => { p with reqBefore := [] })

/-- What a shedding step does when it is taken or released: the scrubber's domain, which stays off while every enabled cluster is held
(R357), and the elastic channels' sets. Step 2 suspends scheduled training. -/
def shedAction (s : State) (step : Nat) (taken : Bool) : State :=
  match step with
  | 1 =>
    if taken then s.keepDomains (2 ^ 64 - 1 - 2 ^ 49)
    else if s.enabledClusters.isEmpty || s.enabledClusters.any fun c => !s.on (.chr .heldHeld) c then s.powerOn (2 ^ 49) else s
  | 3 => if taken then s.shedSets else s.restoreSets
  | _ => s

/-- One step is taken or released; event 0x2943. -/
def shedStep (s : State) (step : Nat) (taken : Bool) : State :=
  let s := (s.shedAction step taken).wr (.pwr .limitAct) 0 (if taken then step else step - 1)
  let s := s.modPwr fun p =>
    if taken then { p with lastStep := s.now, taken := s.now :: p.taken }
    else { p with lastRelease := s.now, taken := p.taken.drop 1 }
  s.report .pwr 0 0x2943 [(1, step), (1, b2n taken), (2, s.rd (.pwr .powerPin) 0)]

end State

end Sys2Proof.Machine
end

