-- ==== Sys2Proof/Machine/TriggerOps.lean ====
section
/-! DEFINITION. What a register write starts beside its storing: the triggers of WO and W1S fields, FATAL and CNTCLR of the status words
(R16), and the few writable fields that act at once. -/

namespace Sys2Proof.Machine

/-- The mailbox commands' codes (R385). -/
def mailCodes : List Nat :=
  [0x0001, 0x0101, 0x0102, 0x0103, 0x0104, 0x0105, 0x0106, 0x0110, 0x0111, 0x0121, 0x0122, 0x0123, 0x0201, 0x0202, 0x0301, 0x0302, 0x0401,
    0x0501, 0x0502, 0x0503, 0x0504, 0x0601]

/-- The counters that CNTCLR of a unit clears beside ERRCNT, with their instances. -/
def clearedCounters (u : UType) (i : Nat) : List (Fld × Nat) :=
  match u with
  | .layer => [(.pix .layerCntRepeat, i), (.pix .layerCntDrop, i), (.pix .layerErrLeaseviol, i), (.pix .layerErrDataerr, i), (.pix .layerErrLate, i)]
  | .pln => [(.pln .rcmpCntBands, i), (.pln .rcmpCntZero, i), (.pln .modeCntTonly, i), (.pln .modeCntAsupp, i)]
  | .chr => [(.chr .commitFlagsLatewrCnt, i), (.chr .heldCntEntries, i), (.chr .heldCntLatewake, i)]
  | .lane =>
    let c := i / 18
    if i % 18 == 17 then [(.tri .cntResend, c), (.tri .cntUnconf, c), (.tri .cnt2Rackmiss, c), (.tri .cnt2Alarms, c)]
    else [(.tri .laneErrPadmis, 17 * c + i % 18), (.tri .laneErrEchomis, 17 * c + i % 18)]
  | .lsrCh => [(.lsr .detCntOpen, i), (.lsr .detCntShort, i), (.lsr .detCntMissing, i), (.lsr .detCntIsolost, i)]
  | .lamp => [(.lsr .lampReloads, i), (.lsr .lampNottaken, i)]
  | .slot => [(.hel .cntOverrunCnt, i), (.hel .cntMlost, i)]
  | .cs => [(.hel .csStatMisscnt, i)]
  | .pc => [(.hbm .pcCntDeterr, i), (.hbm .pcCntPoison, i), (.hbm .pcCntWpar, i), (.hbm .pcCntScrub, i)]
  | .hbm =>
    ((List.range 8).flatMap fun q => [(.hbm .qosStatMiss, 8 * i + q), (.hbm .qosStatMaxlat, 8 * i + q)])
      ++ [(.hbm .unmappedReads, i), (.hbm .unmappedWrites, i), (.hbm .dropwrCount, i)]
  | .scrub => [(.hbm .scrubStatHbmerr, 0), (.hbm .scrubStatPlterr, 0), (.hbm .scrubStatAlmerr, 0)]
  | .bank =>
    let own : List (Fld × Nat) := [(.plt .parCntParity, i), (.plt .parCntPoison, i)]
    let r := i / 8
    if i % 8 == 0 then
      own ++ [(.plt .fbStatTorn, 2 * r), (.plt .fbStatTorn, 2 * r + 1), (.plt .fbStatViol, 2 * r), (.plt .fbStatViol, 2 * r + 1),
        (.plt .cacheDrops, r), (.plt .winerrCount, r)]
    else own
  | .trn => ((List.range 6).filter fun e => if i == 0 then e < 4 else 4 ≤ e).flatMap fun e => (List.range 72).map fun b => (.trn .biterrCount, 72 * e + b)
  | .alm => [(.alm .cntObjwr, 0), (.alm .cntRawwr, 0)]
  | .arc => [(.arc .cntDeferred, 0), (.arc .cntDiscard, 0)]
  | .pwr => [(.pwr .thermAlarms, 0), (.pwr .pllUnlocks, 0)]
  | .pci => [(.pci .evrStatLost, 0), (.pci .errBadacc, 0), (.pci .errCa, 0), (.pci .errPoisoned, 0), (.pci .errAerunc, 0)]
  | .chn => [(.chn .cntCrcerr, 0), (.chn .cntReenums, 0)]
  | .par => [(.par .cntSecwrong, 0), (.par .cntSampler, 0), (.par .cntUndec, 0), (.par .cntTakeovers, 0), (.par .cnt2Mapdiff, 0), (.par .cnt2Hbmiss, 0)]
  | .obs => [(.obs .shedCntEntries, 0), (.obs .shedCntBusyreplies, 0), (.obs .wdogResets, 0)]
  | .pkg => [(.glb .applyErrCntCount, 0), (.glb .applyErrCntOvf, 0)]
  | _ => []

namespace State

/-- Run a command's meaning as part of another one: what it drives joins what has been driven. -/
def andRun (s : State) (f : State → Result) : State :=
  match f s with
  | .next r => { r with out := s.out ++ r.out }
  | _ => s

/-- FATAL of a unit is cleared (R16); UTYPE 1 to 5 hold none (R18). At the Observer it boots a firmware held in reset and restarts the
10-minute count (R430). -/
def clearFatal (s : State) (u : UType) (i : Nat) : State :=
  let s := s.wr (.st u .fatal) i 0
  let s := if u == .slot then s.showOpen (Fin.ofNat 4 (i / 16)) (Fin.ofNat 16 (i % 16)) else s
  if u != .obs || !s.obs.heldReset then s else
  (s.modObs fun o => { o with heldReset := false, expiries := [], bootingSince := some s.now }).wr (.obs .wdogRecent) 0 0

/-- CNTCLR of a unit (R16). -/
def clearCounters (s : State) (u : UType) (i : Nat) : State :=
  (clearedCounters u i).foldl (fun s x => s.wr x.1 x.2 0) (s.wr (.st u .errcnt) i 0)

/-- The temperature of an engine's target as the sensors last showed it. -/
def engTemp (s : State) (e : Fin 6) : Int := if e.val < 4 then s.rdI (.pwr .temp2Hbm) 0 else s.rdI (.pwr .tempIo) 0

/-- OBS_DOORBELL.RING (R383, R384, R427): a RING while BUSY collides; the request is taken, or answered OFFLINE, BUSY or BADCMD. -/
def ringDoorbell (s : State) : State :=
  if s.on (.obs .statusBusy) 0 then s.mailCollide else
  match s.mailTurnedAway (s.rd (.obs .cmdTag) 0) with
  | some s' => s'
  | none =>
    if mailCodes.contains (s.rd (.obs .cmdCmd) 0) then s.wr (.obs .statusBusy) 0 1
    else s.mailReply (s.rd (.obs .cmdTag) 0) (.fail 3 0)

/-- What one trigger or acting field does; `src` is the writer (0 host, 1 firmware, 2 REGINIT or preset). -/
def pull (s : State) (src : Nat) (x : Fld × Nat) : State :=
  let t := s.now
  let i := x.2
  let c : Fin 4 := Fin.ofNat 4 i
  match x.1 with
  | .st u .fatal => s.clearFatal u i
  | .st u .errcnt => s.clearCounters u i
  | .geo .meshLoadGo => s.andRun (execMeshLoadGo t c)
  | .pln .schedChkGo => s.andRun (execSchedCheckGo t c)
  | .chr .commitReq => s.requestCommit c
  | .chr .commitCancel => s.cancelCommit c
  | .chr .heldAllow => if s.rd (.chr .heldAllow) i == 0 then s.wakeHeld c 6 else s
  | .tri .ctrlRetrain => s.andRun (execLaneRetrain t c)
  | .lsr .outRearm => s.andRun (execOutputRearm t c)
  | .lsr .outStop => s.andRun (execOutputStop t c)
  | .lsr .intlkRearm =>
    s.andRun (execInterlockRearm t c (match s.light[c].intlkSince with | some a => s.now - a | none => 0))
  | .lsr .chCtrlRearm => s.andRun (execChannelRearm t (Fin.ofNat 4 (i / 6)) (Fin.ofNat 6 (i % 6)))
  | .lsr .chCtrlDiagnow => s.andRun (execDiagnow t (Fin.ofNat 4 (i / 6)) (Fin.ofNat 6 (i % 6)))
  | .hel .slotCtrlSatclr => s.andRun (execSatfaultClear t (Fin.ofNat 4 (i / 16)) (Fin.ofNat 16 (i % 16)))
  | .frs .reaffirmLayer =>
    let l : Fin 8 := Fin.ofNat 8 (s.rd (.frs .reaffirmLayer) i)
    if s.on (.frs .reaffirmList) i then s.andRun (execReaffirmTileList t c l (s.rd (.frs .reaffirmCount) i))
    else s.andRun (execReaffirmLayer t c l)
  | .hbm .fenceGo => s.andRun (execFenceGo t)
  | .hbm .rgnCtrlFreeze => s.andRun (execFreezeRequest t (Fin.ofNat 2 i))
  | .hbm .rgnCtrlRecover => s.andRun (execRecover t (Fin.ofNat 2 i))
  | .hel .csRawData => s.rawSpi c
  | .hbm .fcReqset => s.requestSet (Fin.ofNat 8 i) (s.rd (.hbm .fcReqset) i)
  | .trn .engCtrlGo =>
    let f := s.freeBits 14
    f.2.andRun (execTrainingGo t (Fin.ofNat 6 i) (s.on (.trn .ctrlHost) 0) (s.engTemp (Fin.ofNat 6 i)) f.1)
  | .trn .engCtrlAbort => s.andRun (execTrainingAbort t (Fin.ofNat 6 i) (s.on (.trn .ctrlHost) 0))
  | .alm .ckptNow => s.checkpoint
  | .log .ctrlTrig => s.andRun (execLogTriggerHost t)
  | .log .ctrlRelease0 => s.andRun (execLogRelease t 0)
  | .log .ctrlRelease1 => s.andRun (execLogRelease t 1)
  | .pwr .ctrlStandby => s.enterStandby
  | .obs .doorbellRing => s.ringDoorbell
  | .chn .ctrlWtset => s.andRun (execWallTimeSet t)
  | .chn .ctrlWake => s.andRun (execChainWakeSend t)
  | .chn .ccArm => s.andRun (execCoherentArm t)
  | .chn .fsCfgSrc =>
    if s.on (.chn .fsCfgSrc) 0 && s.rd (.chr .lockSrc) (s.rd (.chn .fsCfgClus) 0) == 2 then s.applyErr (Fld.addr (.chn .fsCfgSrc) 0) 2 src else s
  | .par .ctrlHandover => s.andRun (execHandover t)
  | .pci .evrConsCons =>
    let n := 2 ^ s.rd (.pci .evrCfgLog2n) 0
    s.wrb (.pci .evrStatFull) 0 ((s.rd (.pci .evrProdProd) 0 % n + 1) % n == s.rd (.pci .evrConsCons) 0 % n)
  | _ => s

/-- A BAR0 write with everything it starts. -/
def busWriteAll (s : State) (a data src : Nat) : State :=
  let r := s.busWrite a data src
  r.2.foldl (fun s x => s.pull src x) r.1

end State

end Sys2Proof.Machine
end

