-- ==== Sys2Proof/Machine/LoaderOps.lean ====
section
/-! DEFINITION. Shared operations of the ephemeris loader: selection of a slot (R48, R49, R54), the load of an image (R31, R52, R442, R469), and
the placement of a live swap (R468). -/

namespace Sys2Proof.Machine

/-- A register field that a load returns to its table's value (R442): an RW or W1S constant, or a value of the ephemeris. -/
def reloadedField (f : Fld) : Bool :=
  let x := f.info
  let plain := match x.rst with | .const _ | .mtxDiag | .lut | .qos => true | _ => false
  let host := match x.acc with | .rw | .w1s => true | _ => false
  (plain && host) || (match x.rst with | .eph => true | _ => false)

/-- The picture path of a cluster after a load: leases, retires and the digest chain stay. -/
def Picture.reload (p : Picture) : Picture :=
  { Picture.reset with
    layers := p.layers.map fun y => { LayerSt.reset with lease := y.lease }
    blame := p.blame.map fun b => { b with tiles := [] }
    retires := p.retires
    retireLost := p.retireLost
    digest := p.digest
    genesis := p.genesis
    engineOff := p.engineOff }

/-- The light of a cluster after a load: sensors, counters and the latched patterns stay. -/
def Light.reload (l : Light) : Light :=
  { l with
    fade := none
    chans := l.chans.map fun x =>
      { x with rearm := false, diagNow := false, diagPassed := true, diagOn := false, shorts := 0, missing := 0, pattern := 0, checkDue := [],
               retried := [], search := none, waitDiag := false, lrefHeld := none, verdict := none, wear := false, wearDone := false }
    nextLit := Vector.replicate 3 none
    policyOff := false
    hold := false
    awin := false }

namespace State

/-! ### Selection (R48, R49, R54, R57) -/

/-- The rejection of a flash slot at its header (R48); an erased slot has no MAGIC. -/
def slotHeaderFault (s : State) (i : Fin 2) : Option Rejection :=
  match s.eph.slots[i] with
  | none => some ⟨1, 0, 0⟩
  | some im => s.headerFault false (2 ^ 25) im

/-- Every check on a flash slot; `bad` lists (slot, type) of sections that do not match their HASH when they are fetched. -/
def slotChecks (s : State) (bad : List (Nat × Nat)) (i : Fin 2) : Option Rejection :=
  match s.eph.slots[i] with
  | none => some ⟨1, 0, 0⟩
  | some im => s.slotFault ((bad.filter fun x => x.1 == i.val).map Prod.snd) im

/-- A candidate goes before another (R48): higher ARB, then later BUILD, then slot A. -/
def slotBefore (s : State) (a b : Fin 2) : Bool :=
  match s.eph.slots[a], s.eph.slots[b] with
  | some x, some y =>
    y.hdr.arb < x.hdr.arb || (x.hdr.arb == y.hdr.arb && (y.hdr.build < x.hdr.build || (x.hdr.build == y.hdr.build && a.val ≤ b.val)))
  | some _, none => true
  | _, _ => false

/-- Try slots in order: each one that fails a check is rejected, and the first that passes is the answer. -/
def trySlots (s : State) (bad : List (Nat × Nat)) : List (Fin 2) → State × Option (Fin 2)
  | [] => (s, none)
  | i :: rest =>
    match s.slotChecks bad i with
    | some r => (s.reject r i.val).trySlots bad rest
    | none => (s, some i)

/-- Selection under R48 among slots: each one whose header fails is rejected, the others are tried in their order. -/
def selectSlot (s : State) (bad : List (Nat × Nat)) (among : List (Fin 2)) : State × Option (Fin 2) :=
  let s := among.foldl (fun s i => match s.slotHeaderFault i with | some r => s.reject r i.val | none => s) s
  let good := among.filter fun i => (s.slotHeaderFault i).isNone
  s.trySlots bad (match good with
    | [a, b] => if s.slotBefore a b then [a, b] else [b, a]
    | l => l)

/-- The slot that a load takes: the named one first, then by selection (R54, R57). -/
def chooseSlot (s : State) (bad : List (Nat × Nat)) (named : Option (Fin 2)) : State × Option (Fin 2) :=
  match named with
  | none => s.selectSlot bad [0, 1]
  | some i =>
    let r := s.trySlots bad [i]
    match r.2 with
    | some _ => r
    | none => r.1.selectSlot bad (([0, 1] : List (Fin 2)).filter fun j => j != i)

/-! ### The load of an image -/

/-- The register file as a load finds it (R53, R442): expert values are lost, and so is what waits in the shadow sets. -/
def clearForLoad (s : State) : State :=
  { s with regs := s.regs.filter fun x => !reloadedField x.fld, shadow := [], heldLive := [], wrHold := [], heldPermit := Vector.replicate 4 false, insts := [],
           cfg := Vector.replicate 4 OutCfg.reset,
           pic := s.pic.map Picture.reload,
           chr := s.chr.map fun k => { Chrono.reset with meridians := k.meridians },
           light := s.light.map Light.reload,
           hel := Vector.replicate 4 Helio.reset }

/-- What a plan says of one output. -/
def Plan.outCfg (p : Plan) (c : Fin 4) : OutCfg :=
  match p.outputs.find? fun o => o.c == c.val with
  | none => OutCfg.reset
  | some o =>
    let g := { OutCfg.reset with present := true, w := o.w, h := o.h, period := o.period,
                                 boards := (p.boards.filter fun x => x.1 == c.val).map Prod.snd }
    match p.arrays.find? fun a => a.c == c.val with
    | none => g
    | some a =>
      { g with bands := a.bands, settle := a.settle, cache := a.cache, replay := a.replay, cmdlat := a.cmdlat, model := a.model }

/-- The units that a plan instantiates among channels, slots and receivers (R449). -/
def Plan.units (p : Plan) : List (UType × Nat) :=
  (p.banks.map fun b => (UType.lsrCh, 6 * b.c + b.k)) ++ (p.slots.map fun x => (UType.slot, 16 * x.c + x.s))
    ++ p.routed.map fun i => (UType.dpr, i)

/-- The channel of a cluster is described, so that it is OFF until its enable lands, or ABSENT (R200). -/
def channelsFound (s : State) : State :=
  s.forClusters allClusters fun s c => allChans.foldl (fun s k =>
    let i := chanInst c k
    (s.wr (.lsr .chStateState) i (b2n (s.insts.contains (.lsrCh, i)))).wr (.lsr .chStateCause) i 0) s

/-- No degraded profile is in force in a region (R291): the image's own map stands. -/
def clearProfile (s : State) (r : Fin 2) : State :=
  let s := (List.range 8).foldl (fun s i =>
    let pc := 8 * r.val + i
    if s.on (.hbm .pcStateRemapped) pc then (s.wr (.hbm .pcStateRemapped) pc 0).wr (.st .pc .degr) pc 0 else s) s
  s.wr (.hbm .profileNum) r 0

/-- The memory map of a plan (R265, R291): partitions, profiles and elastic channels. -/
def loadMap (s : State) (p : Plan) : State :=
  let s := bothRegions.foldl clearProfile s
  let s := ([0, 1] : List (Fin 2)).foldl (fun s (r : Fin 2) => s.modRegion r fun g =>
    { g with parts := (p.parts.filter fun x => x.1 == r.val).map Prod.snd, profiles := (p.profiles.filter fun x => x.1 == r.val).map Prod.snd }) s
  let s := s.modMem fun m =>
    { m with fallback := Vector.replicate 4 false, fcWait := [], fcBusy := [], fcNext := [], cache := [], fbWritten := Vector.replicate 4 false }
  (List.range 8).foldl (fun s i =>
    match p.elastic.find? fun x => x.1 == i with
    | some x => (s.wr (.hbm .fcElastic) i 1).wr (.hbm .fcMinset) i x.2
    | none => (s.wr (.hbm .fcElastic) i 0).wr (.hbm .fcMinset) i 0) s

/-- The inputs of a plan (R71, R72). -/
def loadInputs (s : State) (p : Plan) : State :=
  ([0, 1, 2, 3] : List (Fin 4)).foldl (fun s (i : Fin 4) =>
    (s.placeInput i (p.parts.map Prod.snd)).modDp i fun d =>
      { d with routed := p.routed.contains i.val, fbFrames := [], edid := ((p.edids.find? fun x => x.1 == i.val).map Prod.snd).getD [] }) s

/-- A page's words are cleared and written with a plan's schedules of a cluster; the page is validated (R116, R118). -/
def writeSchedules (s : State) (p : Plan) (c : Fin 4) (page : Nat) : State :=
  let base := c.val * 7680 + page * 3840
  let s := { s with regs := s.regs.filter fun x => !(x.fld = Fld.pln .schedWord ∧ base ≤ x.inst ∧ x.inst < base + 3840) }
  let mine := p.schedules.filter fun x => x.1 == c.val
  let s := mine.foldl (fun s x => (x.2.2.take 1280).zipIdx.foldl (fun s w => s.wr (.pln .schedWord) (base + 1280 * x.2.1 + w.2) w.1) s) s
  let f := pageFault (s.schedEnv c) (s.schedOf c page)
  (s.wrb (validFld page) c f.isNone).modPic c fun q => { q with schedFail := q.schedFail.set (Fin.ofNat 2 page) f }

/-- The default tags of an image: unit tags anew (R31), and the persistent ones that have no value, which take their ephemeris default (R32, R318 step 5). -/
def loadTags (s : State) (p : Plan) : State :=
  let s := { s with host := { s.host with unitTags := [] } }
  p.tags.foldl (fun s x =>
    match s.tagKind x.1 with
    | some (.object oid n) => if (s.almVal oid).isSome then s else s.almRequest oid ((x.2 ++ List.replicate n 0).take n)
    | some (.die d) => if (s.almVal (0x0106 + d.val)).isSome then s else s.almRequest (0x0106 + d.val) ((x.2 ++ List.replicate 32 0).take 32)
    | some (.unit k) => { s with host := { s.host with unitTags := putVal s.host.unitTags k ((x.2 ++ List.replicate 32 0).take 32) } }
    | none => s) s

/-- The EPH registers of the image in force. -/
def showImage (s : State) (im : Image) (slot : Nat) : State :=
  let s := (List.range 4).foldl (fun s i => s.wr (.eph .imageIdId) i (ofLe ((im.hdr.imageId.drop (4 * i)).take 4))) s
  let s := ((s.wr (.eph .arbImageArb) 0 im.hdr.arb).wr (.eph .buildBuild) 0 im.hdr.build).wr (.eph .keysInuse) 0 im.hdr.keyslot
  ((s.wr (.eph .statusSlot) 0 slot).wr (.eph .statusPatched) 0 0).wr (.eph .statusArbdone) 0 0

/-- The domains of a cluster (R357). -/
def clusterDomains (c : Nat) : List Nat := [9 + c, 26 + c, 30 + c, 34 + c, 38 + c, 42 + c]

/-- The domain plan without the domains of fused-off clusters (R4, R448). -/
def planDomains (s : State) (p : Plan) : Nat :=
  maskOf 50 fun d => bit p.power d && (List.range 4).all fun c => s.clusterOn c || !(clusterDomains c).contains d

/-- A setting that a load applies: those of page 1 of a table window are not, since the image fills page 0 and page 1 keeps its defaults
(R469); schedules are written by themselves. -/
def loadedSetting (x : Setting) : Bool :=
  match tableOf x.fld x.inst with
  | some (_, _, pg, _) => pg == 0
  | none => decide (x.fld ≠ Fld.pln .schedWord)

/-- The class A events of an image's unknown sections that are not critical (R45). -/
def unknownSections (s : State) (im : Image) : State :=
  (im.secs.filter fun x => !knownSection x.type).foldl (fun s x => s.report .eph 0 0x1A42 [(2, x.type)]) s

/-- The slots of a load (R213, R229): an enabled one starts with INIT at its destinations, a disabled one holds SAFE at them. -/
def beginSlots (s : State) (c : Fin 4) : State :=
  allSlots.foldl (fun s i =>
    if s.unitAbsent .slot (slotInst c i) then s
    else if s.on (.hel .slotCtrlEn) (slotInst c i) then s.enableSlot c i
    else s.writeSafe c i) s

/-- An image comes into force (R31, R44, R45, R52): its structural values, tables on page 0, the EPH registers, REGINIT in list order. -/
def install (s : State) (im : Image) (slot : Nat) : State :=
  let p := im.plan
  let s := s.clearForLoad
  let s := { s with cfg := Vector.ofFn fun c => Plan.outCfg p c, insts := Plan.units p, heldPermit := p.heldPermit }
  let s := s.forClusters allClusters fun s c => s.modLight c fun l => { l with boards := s.cfg[c].boards }
  let s := s.modEph fun l => { l with inForce := some im, swap := none, staged := none, stagedAt := [], landed := [], preset := 0 }
  let s := ((s.wrs (p.settings.filter loadedSetting)).wr (.pwr .domPlanPlan) 0 (s.planDomains p)).channelsFound
  let s := ((s.loadMap p).loadInputs p).loadTags p
  let s := (s.forClusters (allClusters.filter fun c => s.cfg[c].present) fun s c => s.writeSchedules p c 0).showImage im slot
  let s := s.forClusters (allClusters.filter fun c => s.cfg[c].present) fun s c => s.beginSlots c
  let s := s.unknownSections im
  let s := p.reginit.foldl (fun s x => s.busWriteAll (entryAddr x.1) x.2 2) s
  (s.report .eph 0 0x1A47 [(1, slot), (4, im.hdr.arb), (1, 0)]).compareIds.updateReady

/-- No slot is accepted (R49): no image is in force, and the loader raises a class U event with the reasons for slots A and B. -/
def noImage (s : State) (bad : List (Nat × Nat)) : State :=
  let why := fun (i : Fin 2) => ((s.slotChecks bad i).map (·.reason)).getD 0
  let s := (s.clearForLoad.modEph fun l => { l with inForce := none, swap := none, staged := none, stagedAt := [], landed := [], preset := 0 }).wr
    (.pwr .domPlanPlan) 0 0
  let s := s.forClusters allClusters fun s c => s.lensLow c
  (s.wr (.eph .statusState) 0 4).unitFault .eph 0 0xFF 0x4A43 [(1, why 0), (1, why 1)]

/-- Start-up step 4 (R48, R49, R54): the loader loads an image, or reads NOIMAGE. -/
def loadImage (s : State) (bad : List (Nat × Nat)) (named : Option (Fin 2)) : State :=
  let s := s.wr (.eph .statusState) 0 (if s.rd (.eph .statusState) 0 == 3 then 3 else 1)
  let r := s.chooseSlot bad named
  match r.2 with
  | none => r.1.noImage bad
  | some i =>
    match r.1.eph.slots[i] with
    | some im => r.1.install im i.val
    | none => r.1.noImage bad

/-! ### Live swaps (R54, R58 to R60, R468) -/

/-- A pending swap is cancelled (R54): CANCEL for every cluster that has not taken it, whose shadow set loses the patch's entries; STATE returns to RUNNING. A
commit that the loader requested stays pending, since nothing but CANCEL withdraws one (R142). -/
def cancelSwap (s : State) : State :=
  match s.eph.swap with
  | none => s
  | some w =>
    let s := w.waiting.foldl (fun s c => s.wr (.eph .swapStatCancel) c 1) s
    let s := { s with shadow := s.shadow.filter fun e => !e.swap }
    (s.modEph fun l => { l with swap := none }).wr (.eph .statusState) 0 2

/-- The value that a patch gives an instance of a field, else the default of an absent entry (R468). -/
def patchVal (p : Plan) (f : Fld) (i d : Nat) : Nat := ((p.settings.find? fun x => x.fld = f ∧ x.inst = i).map (·.val)).getD d

/-- Every HELCOEF field with its instances per slot. -/
def helcoefFields : List (Fld × Nat) :=
  [(.hel .coefC, 8), (.hel .shift0Sff, 1), (.hel .shift0Sffl, 1), (.hel .shift0Sb0, 1), (.hel .shift0Sb1, 1), (.hel .shift0Sb2, 1), (.hel .shift1Sa1, 1),
    (.hel .shift1Sa2, 1)] ++ [(.hel .shift1Ski, 1), (.hel .uminUmin, 1), (.hel .umaxUmax, 1), (.hel .safeSafe, 1), (.hel .openOpen, 1), (.hel .initInit, 1),
    (.hel .slewSlew, 1), (.hel .limitSatlim, 1), (.hel .limitOvrlim, 1), (.hel .spSp, 1), (.hel .slotCtrlEn, 1), (.hel .slotCtrlSatact, 1),
    (.hel .slotCtrlIload, 1)]

/-- HELCOEF of a patch goes to the shadow set of each slot (R468). -/
def placeHelcoef (s : State) (p : Plan) (c : Fin 4) : State :=
  allSlots.foldl (fun s i => helcoefFields.foldl (fun s f =>
    (List.range f.2).foldl (fun s k =>
      let inst := slotInst c i * f.2 + k
      s.wrSwap f.1 inst (patchVal p f.1 inst (resetOf f.1 inst))) s) s) s

/-- The instances of a cluster's page of a table window are filled with a patch's page-0 values, the rest with defaults. -/
def placeTable (s : State) (p : Plan) (f : Fld) (c : Fin 4) (page size : Nat) : State :=
  let from' := 2 * size * c.val
  let base := from' + size * page
  let s := { s with regs := s.regs.filter fun x => !(x.fld = f ∧ base ≤ x.inst ∧ x.inst < base + size) }
  (p.settings.filter fun x => x.fld = f ∧ from' ≤ x.inst ∧ x.inst < from' + size).foldl (fun s x =>
    s.wr f (base + (x.inst - from')) x.val) s

/-- The blend tables in force are copied to a LUT page (R468). -/
def copyBlend (s : State) (c : Fin 4) (page : Nat) : State :=
  let old := s.rd (.geo .ctrlLutPage) c
  (List.range 256).foldl (fun s i => s.wr (.geo .blendGain) (c.val * 512 + page * 256 + i) (s.rd (.geo .blendGain) (c.val * 512 + old * 256 + i))) s

/-- A destination of an outer colour slot: the lit inner slot or the matrix correction of a primary (R220). -/
def outerDest (d : Nat) : Bool := d == 4 || d == 5

/-- The outer colour slots of a cluster. The manual names them and does not say which they are. DESIGN CHOICE (log entry 101): those with a
destination of type 4 or 5, as in the reference assignment. -/
def outerSlots (s : State) (c : Fin 4) : List (Fin 16) :=
  allSlots.filter fun i => outerDest (s.rd (.hel .routeD0type) (slotInst c i)) || outerDest (s.rd (.hel .routeD1type) (slotInst c i))

/-- COLOUR of a patch: tables on the pages not in force, which switch together; matrices and colour targets in the shadow set (R468). -/
def placeColour (s : State) (p : Plan) (c : Fin 4) : State :=
  let lut := 1 - s.rd (.geo .ctrlLutPage) c
  let uni := 1 - s.rd (.geo .ctrlUniPage) c
  let s := ((s.placeTable p (.geo .ilutEntry) c lut 3075).placeTable p (.geo .olutEntry) c lut 3075).copyBlend c lut
  let s := s.placeTable p (.geo .uniG) c uni 9216
  let s := s.modPic c fun q => { q with badWords := q.badWords.filter fun b =>
    !((b.table == .uni && b.page == uni) || ((b.table == .ilut || b.table == .olut || b.table == .blend) && b.page == lut)) }
  let s := (s.wrSwap (.geo .ctrlLutPage) c lut).wrSwap (.geo .ctrlUniPage) c uni
  let s := (List.range 9).foldl (fun s k =>
    let i := 9 * c.val + k
    (s.wrSwap (.geo .mtxCoef) i (patchVal p (.geo .mtxCoef) i (resetOf (.geo .mtxCoef) i))).wrSwap (.geo .mtxDirCoef) i
      (patchVal p (.geo .mtxDirCoef) i 0)) s
  (s.outerSlots c).foldl (fun s i => s.wrSwap (.hel .spSp) (slotInst c i) (patchVal p (.hel .spSp) (slotInst c i) 0)) s

/-- SCHEDULE of a patch: the page not in force, validated, and SCHED_PAGE in the shadow set (R468). -/
def placeSchedules (s : State) (p : Plan) (c : Fin 4) : State :=
  let pg := 1 - s.rd (.pln .ctrlSchedPage) c
  (s.writeSchedules p c pg).wrSwap (.pln .ctrlSchedPage) c pg

/-- An accepted patch is placed in a cluster (R468). -/
def placePatch (s : State) (im : Image) (c : Fin 4) : State :=
  let s := if im.has 3 then s.placeSchedules im.plan c else s
  let s := if im.has 7 then s.placeHelcoef im.plan c else s
  if im.has 8 then s.placeColour im.plan c else s

/-- The clusters that the image in force uses. -/
def usedClusters (s : State) : List (Fin 4) := allClusters.filter fun c => s.clusterOn c && s.cfg[c].present

/-- An accepted swap (R58 to R60): its sections are placed, and under AUTO each cluster's commit is requested. -/
def beginSwap (s : State) (im : Image) (auto : Bool) : State :=
  let cs := s.usedClusters
  let asked := if auto then (cs.filter fun (c : Fin 4) => !s.on (.chr .commitReq) c).map Fin.val else []
  let s := (s.forClusters cs fun s c => s.placePatch im c).unknownSections im
  let s := (s.modEph fun l => { l with swap := some { patch := im, waiting := cs.map fun c => c.val, asked := asked } }).wr (.eph .statusState) 0 5
  let s := s.report .eph 0 0x1A47 [(1, s.rd (.eph .statusSlot) 0), (4, im.hdr.arb), (1, 1)]
  if auto then s.forClusters cs fun s c => s.requestCommit c else s

end State

end Sys2Proof.Machine
end

