-- ==== Sys2Proof/Machine/StartOps.lean ====
section
/-! DEFINITION. Start-up (R366 to R368): the nine steps, Almanac recovery (R318, R325), and what reloads, wakes and restarts repeat of
them. -/

namespace Sys2Proof.Machine

/-- Why steps run: a start from power, a wake or a restart with PD00 kept on, or a reload of the image, from a named slot if any. -/
inductive StartKind
  | cold
  | wake
  | reload (slot : Option (Fin 2))
  deriving DecidableEq, Repr

/-- A LOGSAVE entry read from its 24 bytes (R334). -/
def SaveEntry.ofBytes (b : List Nat) : SaveEntry :=
  { saveSeq := ofLe (b.take 4), firstSeq := ofLe ((b.drop 4).take 4), time := ofLe ((b.drop 8).take 8), crc := ofLe ((b.drop 16).take 4),
    cause := b.getD 20 0, keep := b.getD 21 0 == 1, valid := false }

namespace State

/-! ### Step 1 to 3 -/

/-- What a new power cycle finds (R355): everything at reset but what the Almanac, the boot flash and the sender hold. -/
def coldState (s : State) (startAt : Nat) : State :=
  let f := s.freeBits 64
  let old := f.2
  let s : State :=
    { State.reset with
      pending := old.pending
      now := old.now
      completion := old.completion
      out := old.out
      fresh := old.fresh
      dev := old.dev
      raw := old.raw
      alm := { Almanac.reset with objs := old.alm.objs }
      log := { Logbook.reset with slots := old.log.slots, saves := old.log.saves }
      host := { HostIf.reset with fw := old.host.fw }
      eph := { Loader.reset with slots := old.eph.slots }
      pwr := { Power.reset with startAt := startAt, began := true }
      chn := { Chain.reset with wallOff := -(8 * startAt : Nat) } }
  let s := (s.wr (.pwr .lastfailCause) 0 (old.rd (.pwr .lastfailCause) 0)).wr (.eph .dbgNonceNonce) 0 f.1
  (s.wr (.alm .saveLastus) 0 (old.rd (.alm .saveLastus) 0)).wr (.alm .saveOk) 0 (old.rd (.alm .saveOk) 0)

/-- One object is recovered (R318): its value, its copies, ALM_RECOV and the events. -/
def recoverObj (s : State) (oid : Nat) : State :=
  let r := (s.almObj oid).recover
  let s := s.modAlm fun a =>
    { a with objs := if r.payload.isSome then putObj a.objs r.obj else a.objs
             vals := match r.payload with | some p => putVal a.vals oid p | none => a.vals.filter fun x => x.1 != oid }
  let s := s.bump (.alm .recovObjects) 0
  let s := match r.sealedSeq with
    | some q => (s.bump (.alm .recovSealed) 0).report .alm 0 0x1902 [(2, oid), (4, q)]
    | none => s
  let s := match r.rolledBack with
    | some q => (s.bump (.alm .recovRollback) 0).report .alm 0 0x1901 [(2, oid), (4, q)]
    | none => s
  if r.payload.isNone then (s.bump (.alm .recovLost) 0).report .alm 0 0x2903 [(2, oid)] else s

/-- The objects that recovery covers: the objects table, and the archive checkpoint objects that exist. -/
def recoverable (s : State) : List Nat :=
  almTable.map Prod.fst ++ (s.alm.objs.map (·.oid)).filter fun o => almPart o == .archive && o ≤ 0x0405

/-- The LOGSAVE object's entries; a slot whose contents do not match its CRC is not valid (R334). -/
def loadSaves (s : State) : State :=
  let p := s.valOr0 0x0028 48
  let entry := fun (i : Fin 2) =>
    let e := SaveEntry.ofBytes ((p.drop (24 * i.val)).take 24)
    { e with valid := e.saveSeq != 0 && e.crc == crc32 (slotBytes s.log.slots[i]) }
  let s := (s.modLog fun l => { l with saves := Vector.ofFn entry }).showSaves
  ([0, 1] : List (Fin 2)).foldl (fun s (i : Fin 2) => s.wr (.log .slotFirstFirstseq) i.val (s.log.saves[i]).firstSeq) s

/-- Recovered values reach the registers: keys, the stored anti-rollback counter, bad emitters, Logbook saves and tags. -/
def applyRecovered (s : State) : State :=
  let key := fun (i : Fin 4) => if i == 0 then KeySlot.key 0 else keyOfPayload (s.valOr0 (0x0200 + i.val) 49)
  let s := (s.modEph fun l => { l with keys := Vector.ofFn key }).wr (.eph .arbStoredArb) 0 (ofLe (s.valOr0 0x0200 4))
  let s := (List.range 24).foldl (fun s i =>
    s.wr (.lsr .badMask) i (ofLe (((s.valOr0 (0x0020 + i / 6) 24).drop (4 * (i % 6))).take 4))) s
  { s.loadSaves with host := { s.host with smbTag := s.valOr0 0x0108 256 } }

/-- Step 3 (R318, R325): PD01 on, recovery; a start from power loads the shadow SRAM and counts the cycle. The counter's store waits where the report
stops within it (R319). -/
def startStep3 (s : State) (cold counting : Bool) : State :=
  let s := ((s.wr (.pwr .domOnOn) 0 (s.rd (.pwr .domOnOn) 0 ||| 0x102)).wr (.obs .statusOffline) 0 1).lockPlls
  let s := [AlmF.recovObjects, .recovSealed, .recovRollback, .recovLost].foldl (fun s f => s.wr (.alm f) 0 0) s
  let s := (s.recoverable.foldl recoverObj s).applyRecovered
  if !cold then s else
  let s := match s.almVal 0x0301 with | some p => s.loadShadow p | none => s
  let n := leBytes 8 (ofLe (s.valOr0 0x0300 8) + 1)
  if counting then s.almRequest 0x0300 n else (s.almWrite 0x0300 n).countStored 0x0300

/-! ### Steps 4 to 6 -/

/-- A boot flash that cannot be used (R390): both slots are rejected with reason 0x24. -/
def flashUnusable (s : State) (jedec item : Nat) : State :=
  let s := s.report .eph 0 0x2A48 [(4, jedec), (1, item)]
  let s := (s.reject ⟨0x24, 0, 0⟩ 0).reject ⟨0x24, 0, 0⟩ 1
  let s := (s.clearForLoad.modEph fun l => { l with inForce := none, swap := none, staged := none, stagedAt := [], landed := [], preset := 0 }).wr
    (.pwr .domPlanPlan) 0 0
  (s.wr (.eph .statusState) 0 4).unitFault .eph 0 0xFF 0x4A43 [(1, 0x24), (1, 0x24)]

/-- The firmware copy that boots (R391): the higher version among those that authenticate, copy 0 on equal versions. -/
def bootCopy (s : State) : Option (Fin 2) :=
  match (s.host.fw[0]).auth, (s.host.fw[1]).auth with
  | true, true => some (if (s.host.fw[0]).version < (s.host.fw[1]).version then 1 else 0)
  | true, false => some 0
  | false, true => some 1
  | false, false => none

/-- The module is fatal with only PD00 and PD08 left on (R368); FAULT_OUT# goes low (R372). -/
def fatalAtBoot (s : State) : State :=
  ((s.forClusters allClusters fun s c => s.lensLow c).keepDomains 0x101).wr (.pwr .stateState) 0 5 |>.emit (.faultOut true)

/-- Step 5 (R391); a running Observer goes on. -/
def startStep5 (s : State) : State :=
  if s.obsOnline then s else
  match s.bootCopy with
  | none => s.fatalAtBoot
  | some i =>
    let s := ((s.wr (.obs .fwVersion) 0 (s.host.fw[i]).version).wr (.obs .fwCopy) 0 i.val).wr (.obs .statusOffline) 0 0
    { s with host := { s.host with fwRun := i.val }, obs := Observer.reset }

/-- The planned domains that have work (R359): no receiver that no layer routes, no NVMe port without a drive, no Transit link outside a
pair, no scrubber while it is shed; without an image those of PCIe and the mailbox. -/
def workDomains (s : State) : Nat :=
  if s.eph.inForce.isNone then 0x107 else
  let plan := s.rd (.pwr .domPlanPlan) 0
  let strap := s.rd (.pwr .strapPairRole) 0
  maskOf 50 fun d => bit (plan ||| 0x107) d
    && (if 4 ≤ d && d ≤ 7 then s.dp[(Fin.ofNat 4 (d - 4) : Fin 4)].routed else if d == 3 then s.arc.drive.isSome
        else if d == 49 then s.rd (.pwr .limitAct) 0 == 0 else if d == 48 then strap == 1 || strap == 2 else true)

/-- Step 6 (R358, R361, R368); the archive encoder that comes on has no drive yet (R338). -/
def startStep6 (s : State) (r : StartReport) : State :=
  let old := s.keepDomains s.workDomains
  let s := powerUpPlls old (old.powerOn old.workDomains)
  let s := if s.domOn 47 && s.rd (.arc .stateState) 0 == 0 then s.wr (.arc .stateState) 0 1 else s
  (r.powerBad.filter s.domOn).foldl (fun s d => if s.rd (.pwr .stateState) 0 == 5 then s else s.powerGoodFail d) s

/-! ### Steps 7 to 9 -/

/-- The stored taps of a region load, or the defaults stand (R313). -/
def loadRegionTaps (s : State) (reg : Fin 2) : State :=
  ([0, 1, 2] : List Nat).foldl (fun s set =>
    let oid := 1 + 3 * reg.val + set
    match s.almVal oid with
    | some p => s.loadHbmTaps reg.val set p
    | none => s.report .trn 0 0x1A05 [(2, oid)]) s

/-- A region is trained at start-up or in a reload (R53, R291, R309); a freeze of a region whose domain the plan leaves off ends too. -/
def startRegion (s : State) (r : StartReport) (reg : Fin 2) : State :=
  if !s.domOn (15 + reg.val) then
    ((s.modRegion reg fun g => { g with freezeAt := none }).wr (.hbm .rgnStatSnap) reg 0).wr (.hbm .rgnStatState) reg 0 else
  let s := s.loadRegionTaps reg
  let s := (List.range 8).foldl (fun s i => s.wr (.hbm .pcStateFailed) (8 * reg.val + i) 0) s
  let t := s.regionTrained reg (r.hbmBad / 2 ^ (8 * reg.val) % 256) false
  let t := (t.1, t.2.keepTaps reg r.taps)
  let s := (t.2.modRegion reg fun g => { g with freezeAt := none }).wr (.hbm .rgnStatSnap) reg 0
  let s := (List.range 4).foldl (fun s i => s.wr (.hbm .fcCur) (4 * reg.val + i) 0) s
  let s := (List.range 8).foldl (fun s i => s.wr (.hbm .pcStateSet) (8 * reg.val + i) 0) s
  if t.1 then (s.setPcs reg 0).wr (.hbm .rgnStatState) reg 0 else s

/-- Step 7 (R366): HBM training, the tables in HBM, and the bring-up of the Trioc links, whose stored taps may be lost (R313). -/
def startStep7 (s : State) (r : StartReport) : State :=
  let s := ([0, 1] : List (Fin 2)).foldl (fun s (reg : Fin 2) => s.startRegion r reg) s
  let s := match s.eph.inForce with | some im => if s.domOn 17 then s.storeMeshes im.plan none else s | none => s
  r.links.foldl (fun s x =>
    let oid := 0x0010 + x.1.val
    let s := if (s.almVal oid).isNone then s.report .trn 0 0x1A05 [(2, oid)] else s
    s.bringUp x.1 x.2) s

/-- A channel's ADC and dark calibration at step 8 (R306, R309, R310, R313). -/
def startAdc (s : State) (a : AdcCal) : State :=
  let i := chanInst a.c a.k
  let s := (s.wr (.lsr .pdCfgDark) i (a.ofs + s.rd (.trn .pdcalDarkmarg) 0)).setOfs a.c a.k a.ofs
  match a.phase with
  | some p => s.setPhase a.c a.k p
  | none =>
    let s := s.report .trn 1 0x2A04 [(4, 3 + a.k.val * 2 ^ 8 + a.c.val * 2 ^ 16), (1, 0), (1, a.width)]
    match s.storedPhase a.c a.k with
    | some p => s.setPhase a.c a.k p
    | none => allSlots.foldl (fun s n => s.showOpen a.c n) ((s.wr (.trn .adcNophase) i 1).report .lsrCh i 0x23D0 [(1, 2)])

/-- Step 8 of a cluster: the stored front-end values, patterns, and the firmware's first REARM (R180). -/
def startFrontEnd (s : State) (r : StartReport) (c : Fin 4) : State :=
  if !s.domOn (9 + c.val) || !s.cfg[c].present then s else
  let s := match s.almVal (0x0018 + c.val) with
    | some p => s.loadFrontEnd c p
    | none => s.report .trn 1 0x1A05 [(2, 0x0018 + c.val)]
  let mine := r.adc.filter fun a => a.c == c
  let s := mine.foldl startAdc s
  let s := if mine.isEmpty then s else s.almRequest (0x0018 + c.val) (s.frontEndPayload c)
  let s := allChans.foldl (fun s k => if s.chState c k == 0 then s else s.choosePatterns c k) s
  match s.light[c].intlkSince with
  | some a => s.andRun (execInterlockRearm s.now c (s.now - a))
  | none => s

/-- Step 8 (R366): the front ends, and the role of a pair member (R413, R418). -/
def startStep8 (s : State) (r : StartReport) : State :=
  let s := s.forClusters allClusters fun s c => s.startFrontEnd r c
  let strap := s.rd (.pwr .strapPairRole) 0
  if strap != 1 && strap != 2 then s else
  (s.modPar fun p => { p with step8At := some s.now }).mayRaiseSel

/-- Step 9 (R52, R366): the first commit of every cluster is requested, and the module runs. -/
def startStep9 (s : State) (kind : StartKind) : State :=
  let s := ((s.wr (.pwr .stateStep) 0 9).wr (.pwr .stateState) 0 1).wr (.eph .statusState) 0 2
  let s := s.forClusters s.usedClusters fun s c => s.requestCommit c
  match kind with
  | .reload _ => s
  | _ => s.report .pwr 0 0x1941 [(4, (s.now - s.pwr.startAt) / msCclk 1), (1, s.rd (.pwr .lastfailCause) 0)]

/-! ### The order -/

/-- The pair role that the strap names; 3 is treated as 0 (R419). -/
def strapRole (s : State) : Nat := if s.dev.pairRole == 3 then 0 else s.dev.pairRole

/-- One step; the answer's STEP shows it when it has ended (R366, R368). -/
def startStep (s : State) (r : StartReport) (kind : StartKind) (k : Nat) : State :=
  let done := fun (s : State) => s.wr (.pwr .stateStep) 0 k
  match k with
  | 1 => match r.refclk with
    | some e => done ((s.refclkValid e).holdupAt r.holdup)
    | none => s
  | 2 => done (((s.wr (.pwr .strapPairRole) 0 s.dev.pairRole).wr (.pwr .strapSmbaddr) 0 s.dev.smbAddr).wr (.par .statRole) 0 s.strapRole)
  | 3 =>
    match s.alm.stores.find? fun x => x.oid == 0x0300 with
    | some x => (s.almWrite 0x0300 x.payload).countStored 0x0300
    | none => let s := s.startStep3 (kind == .cold) r.counting
      if kind == .cold && r.counting then s else done s
  | 4 => match r.flashBad with
    | some x => done (s.flashUnusable x.1 x.2)
    | none => done (s.loadImage r.fetchBad (match kind with | .reload n => n | _ => none))
  | 5 =>
    if r.flashBad.isSome && !s.obsOnline then s.fatalAtBoot else
    let s := s.startStep5
    if s.rd (.pwr .stateState) 0 == 5 then s else done s
  | 6 =>
    let s := s.startStep6 r
    if s.rd (.pwr .stateState) 0 == 5 then s
    else if s.eph.inForce.isNone then (done s).wr (.pwr .stateState) 0 1
    else done s
  | 7 => done (s.startStep7 r)
  | 8 => done (s.startStep8 r)
  | _ => s.startStep9 kind

/-- The next step may begin (R366, R368): the last one has ended, and no resting state or NOIMAGE stops the order. -/
def mayStep (s : State) (k : Nat) : Bool :=
  s.rd (.pwr .stateStep) 0 + 1 == k && s.rd (.pwr .stateState) 0 < 2 && !(s.rd (.eph .statusState) 0 == 4 && 6 < k)

/-- The steps after the last completed one, up to that of the report. -/
def runSteps (s : State) (r : StartReport) (kind : StartKind) : State :=
  ([1, 2, 3, 4, 5, 6, 7, 8, 9] : List Nat).foldl (fun s k => if k ≤ r.upto && s.mayStep k then s.startStep r kind k else s) s

/-- The debug port locks (R62). -/
def lockDebug (s : State) : State := ((s.wr (.eph .dbgOpen) 0 0).wr (.eph .dbgScope) 0 0).modEph fun l => { l with dbgUntil := none }

/-- A start with PD00 kept on (R365, R373): step 3 without counting the cycle or loading the shadow SRAM, then steps 4 to 9. FAULT_OUT# is
released (R372). -/
def restart (s : State) (r : StartReport) : State :=
  let s := if s.faultLow then { s.emit (.faultOut false) with pwr := { s.pwr with faultOut := false } } else s
  let s := ((s.wr (.pwr .stateState) 0 0).wr (.pwr .stateStep) 0 2).wr (.eph .statusState) 0 0
  ((s.clearStops.lockDebug.modEph fun l => { l with reload := none }).runSteps { r with upto := max 3 r.upto } .wake)

/-! ### Full reload (R53, R54) -/

/-- Every unit of a cluster stops (R53): the chronograph and what is in flight, the lamp line, the Heliostat slots, which hold SAFE, and
the colour sensor's port. -/
def stopUnits (s : State) (c : Fin 4) : State :=
  let s := ((s.stopCluster c).closeAll c).abandonFade c
  let s := s.modLight c fun l => { l with load := none, awin := false, hold := false, gated := true }
  let s := s.modHel c fun h => { h with csBusy := [], slots := h.slots.map fun x => { x with due := none } }
  allSlots.foldl (fun s i => if s.on (.hel .slotCtrlEn) (slotInst c i) then s.writeSafe c i else s) s

/-- The reload begins once the stop fades have ended: RELOADING, inputs without HPD, every cluster unit stopped, lockstep ended (R415), a
staged patch lost; the module reports itself excluded from coherent commit (R53). -/
def beginReload (s : State) : State :=
  let s := (s.wr (.eph .statusState) 0 3).wr (.pwr .stateStep) 0 3
  let s := s.forClusters allClusters fun s c => s.stopUnits c
  let s := (s.inputsDown.modEph fun l => { l with swap := none, staged := none, stagedAt := [] }).endLockstep
  if s.chnAddr == 0 then s else s.sendArm

/-- The reload's steps 4 to 9, without booting an Observer that runs. -/
def endReload (s : State) (r : StartReport) : State :=
  let named := (s.eph.reload.getD none).map fun i => (Fin.ofNat 2 i : Fin 2)
  let s := (s.runSteps { r with upto := 9 } (.reload named)).modEph fun l => { l with reload := none }
  if s.rd (.eph .statusState) 0 == 2 then s.clearStops else s

end State

end Sys2Proof.Machine
end

