-- ==== Sys2Proof/Machine/LoaderRows.lean ====
section
/-! DEFINITION. Ephemeris loader commands: uploads (R56, R386, R467), activation and full reload (R53, R54, R57), live swaps (R58 to R60),
presets (R61), and the debug port (R62, R63). -/

namespace Sys2Proof.Machine

/-- The flash slot of an upload target. -/
def UploadTarget.slot : UploadTarget → Option (Fin 2)
  | .slotA => some 0
  | .slotB => some 1
  | _ => none

namespace State

/-- A swap or reload is already pending (R51, reason 0x22): a patch upload also waits for a pending swap. -/
def loaderBusy (s : State) : Bool := s.eph.reload.isSome || s.rd (.eph .statusState) 0 == 1 || s.rd (.eph .statusState) 0 == 3

/-- A flash slot holds a valid image. -/
def slotValid (s : State) (i : Fin 2) : Bool :=
  match s.eph.slots[i] with
  | none => false
  | some im => (s.imageFault (2 ^ 25) true im).isNone

/-- The plate-store words of the staging area that are known bad, as offsets in the patch (R295). -/
def stagedBad (s : State) : List Nat :=
  s.mem.badPlate.filterMap fun w => (s.eph.stagedAt.findIdx? fun b => b == 8 * w / 2 ^ 16).map fun i => i * 2 ^ 16 + 8 * w % 2 ^ 16

/-- The plate-store address of an offset in the staging area. -/
def stagedAddr (s : State) (o : Nat) : Nat := s.eph.stagedAt.getD (o / 2 ^ 16) 0 * 2 ^ 16 + o % 2 ^ 16

/-- Open an upload session; its target is erased (R56). The erase of a flash slot takes its time (R386); a patch goes into the plate store,
which needs none. DEDUCED (log entry 14). -/
def openUpload (s : State) (tg : UploadTarget) (length : Nat) : State :=
  let s := s.modEph fun l => match tg.slot with
    | some i => { l with slots := l.slots.set i none }
    | none => { l with staged := none, stagedAt := [] }
  let s := if tg.slot.isNone then s.takeStaging length else s
  { s with host := { s.host with ephUp := some ⟨tg, length, 0, [], [], tg.slot.isNone⟩ } }

/-- A slot holds what has been written of an upload (R56). -/
def holdPart (s : State) (u : Upload) : State :=
  match u.target.slot with
  | some i =>
    let key := match s.eph.keys.toList.getD (ImageHeader.ofBytes u.bytes).keyslot .empty with | .key k => some k | _ => none
    if u.bytes.isEmpty then s else s.modEph fun l => { l with slots := l.slots.set i (some (Image.partWritten u.bytes key)) }
  | none => s

/-- An image that a check rejects: EPH_REJECT with its source, and REFUSED with the reason. -/
def refuseImage (s : State) (r : Rejection) (source : Nat) : State × Reply := (s.reject r source, .fail 5 r.reason)

/-- The reload is asked for: a pending swap is cancelled (R54), and the stop fades start (R53). -/
def askReload (s : State) (slot : Option Nat) : State :=
  (s.cancelSwap.modEph fun l => { l with reload := some slot }).beginStops

end State

/-- EPH_UPLOAD_BEGIN (R56, R386). -/
def execEphUploadBegin (t : Nat) (m : MailReq) (target length : Nat) (s : State) : Result :=
  .next ((s.advance t).mailbox 0x0101 m [target, length] [] false fun s =>
    if 2 < target || length == 0 then (s, .fail 4 0)
    else if s.loaderBusy || (target == 2 && s.eph.swap.isSome) then s.uploadRefused 0x22
    else if (if target == 2 then 2 ^ 24 else 2 ^ 25) < length then s.uploadRefused 5
    else
      match target with
      | 0 => if s.slotValid 0 && !s.slotValid 1 then s.uploadRefused 0x23 else (s.openUpload .slotA length, .ok)
      | 1 => if s.slotValid 1 && !s.slotValid 0 then s.uploadRefused 0x23 else (s.openUpload .slotB length, .ok)
      | _ => (s.openUpload .patch length, .ok))

/-- EPH_UPLOAD_PAGE (R386); `progOk` says whether the flash program succeeded. -/
def execEphUploadPage (t : Nat) (m : MailReq) (off : Nat) (data : List Byte) (progOk : Bool) (s : State) : Result :=
  .next ((s.advance t).mailbox 0x0102 m [off] (data.map BitVec.toNat) false fun s =>
    if off % 4096 != 0 then (s, .fail 4 0) else
    match s.host.ephUp with
    | none => s.uploadRefused 0x25
    | some u => match s.uploadPage u off (data.map BitVec.toNat) progOk with
      | some (u', s', r) => ({ s'.holdPart u' with host := { s'.host with ephUp := some u' } }, r)
      | none => s.uploadRefused 0x25)

/-- EPH_UPLOAD_END (R467): the image is read back, held in its target, and checked; the reply page gives its IMAGE_ID and ARB. What the
signature binds, whether each section reads back, and what the sections say, come with the command. -/
def execEphUploadEnd (t : Nat) (m : MailReq) (signs : Option Signed) (hashOk : List Bool) (plan : Plan) (readOk : Bool) (s : State) : Result :=
  .next ((s.advance t).mailbox 0x0103 m [] [] false fun s =>
    match s.host.ephUp with
    | none => s.uploadRefused 0x25
    | some u =>
      if u.next < u.length then s.uploadRefused 0x25
      else if !readOk then s.uploadRefused 0x24
      else
        let im := Image.ofBytes u.bytes signs hashOk plan
        let s := { s with host := { s.host with ephUp := none } }
        let s := s.modEph fun l => match u.target.slot with
          | some i => { l with slots := l.slots.set i (some im) }
          | none => { l with staged := some im }
        match (if u.target.slot.isSome then s.imageFault u.length true im else s.stagedFault u.length im) with
        | some r => s.refuseImage r 2
        | none => (s, { Reply.ok with page := im.hdr.imageId ++ leBytes 4 im.hdr.arb }))

/-- EPH_ACTIVATE (R57): the checks that need no reload, and then a full reload from the slot, with its sections as they are read now
(R44). -/
def execEphActivate (t : Nat) (m : MailReq) (slot : SlotRead) (s : State) : Result :=
  let bad := slot.bad
  let slot := slot.slot
  .next ((s.advance t).mailbox 0x0104 m [slot] [] false fun s =>
    if 1 < slot then (s, .fail 4 0)
    else if s.loaderBusy then s.refuseImage ⟨0x22, 0, 0⟩ slot
    else
      match s.eph.slots[(Fin.ofNat 2 slot : Fin 2)] with
      | none => s.refuseImage ⟨1, 0, 0⟩ slot
      | some im =>
        match s.imageFault (2 ^ 25) false (im.readBad bad) with
        | some r => s.refuseImage r slot
        | none => (s.askReload (some slot), .ok))

/-- EPH_SWAP (R58 to R60): ARG0 0 is AUTO, 1 HOST. The manual does not say what it answers when no patch is staged. DESIGN CHOICE (log entry
102): status 7. -/
def execEphSwap (t : Nat) (m : MailReq) (commit : SwapReq) (s : State) : Result :=
  let bad := commit.bad
  let commit := commit.commit
  .next ((s.advance t).mailbox 0x0105 m [commit] [] false fun s =>
    if 1 < commit then (s, .fail 4 0)
    else if s.loaderBusy || s.eph.swap.isSome then s.refuseImage ⟨0x22, 0, 0⟩ 3
    else
      match s.eph.staged with
      | none => (s, .fail 7 0)
      | some im =>
        let words := (bad.toList ++ s.stagedBad).filter fun o => decide (o < im.bytes.length)
        let r := s.swapFault (im.readBad (words.flatMap im.sectionsAt))
        let s := words.foldl (fun s o => s.plateError (s.stagedAddr o)) s
        match r with
        | some r => s.refuseImage r 3
        | none => (s.beginSwap im (commit == 0), .ok))

/-- EPH_RESELECT (R53): a full reload under slot selection. -/
def execEphReselect (t : Nat) (m : MailReq) (s : State) : Result :=
  .next ((s.advance t).mailbox 0x0106 m [] [] false fun s =>
    if s.loaderBusy then s.uploadRefused 0x22 else (s.askReload none, .ok))

/-- FULL_RELOAD (R53, R54): the stop fades have ended, so the reload begins; with a report, start-up steps 4 to 9 have been repeated. The
Observer orchestrates it, so nothing happens while it is offline (R429). -/
def execFullReload (t : Nat) (r : Option StartReport) (s : State) : Result :=
  let s := s.advance t
  if s.eph.reload.isNone || !s.obsOnline || !s.running then .next s else
  let under := s.rd (.eph .statusState) 0 == 3
  if !under && !s.stopsEnded then .next s else
  let s := if under then s else s.beginReload
  .next (match r with | some r => s.endReload r | none => s)

/-! ### Presets (R61) -/

namespace State

/-- A value of the image itself, as preset 0 writes it: a Meridian field in the shadow set, a Live field at once. -/
def presetSetting (s : State) (x : Setting) : State :=
  match x.fld.info.apply with
  | .meridian => s.wrShadow x.fld x.inst x.val
  | .live => s.storeLive x.fld x.inst x.val
  | .static => s

/-- A preset's entry (R61): the Meridian fields of its word go to the shadow sets and the Live fields are written. A Static field of the word
keeps its value, so the entry is written with the value the field has. -/
def presetEntry (s : State) (x : Nat × Nat) : State :=
  let a := entryAddr x.1
  let keep := (fieldsAt a).filter fun y => y.1.info.apply == .static
  let data := keep.foldl (fun d y =>
    let sl := wordSlice y.1.info y.2.2
    d - bits d sl.1 sl.2.2 * 2 ^ sl.1 + bits (s.rd y.1 y.2.1) sl.2.1 sl.2.2 * 2 ^ sl.1) x.2
  if keep.length == (fieldsAt a).length && !keep.isEmpty then s else s.busWriteAll a data 2

/-- The entries of a preset; preset 0 is what the image itself sets up. -/
def applyPreset (s : State) (p : Plan) (n : Nat) : Option State :=
  if n == 0 then
    let s := p.reginit.foldl presetEntry (p.settings.foldl presetSetting s)
    some (s.forClusters s.usedClusters fun s c => s.requestCommit c)
  else
    match p.presets.find? fun x => x.num == n with
    | none => none
    | some x =>
      let s := x.entries.foldl presetEntry s
      let touched := allClusters.filter fun (c : Fin 4) => s.clusterOn c && x.entries.any fun e => addrCluster e.1 == some c.val
      some (s.forClusters touched fun s c => s.requestCommit c)

/-- EPH_PRESET.GO (R61): an undefined number is ignored, sets BAD, and NUM reads back the previous number. -/
def presetGo (s : State) : State :=
  let n := s.rd (.eph .presetNum) 0
  match s.eph.inForce.bind fun im => s.applyPreset im.plan n with
  | some s' => (s'.wr (.eph .presetBad) 0 0).modEph fun l => { l with preset := n }
  | none => (s.wr (.eph .presetBad) 0 1).wr (.eph .presetNum) 0 s.eph.preset

end State

/-- PRESET_GO (R61). -/
def execPresetGo (t : Nat) (s : State) : Result := .next (s.advance t).presetGo

/-! ### Debug unlock (R62, R63) -/

namespace State

/-- A token of 128 bytes that the module accepts (R62): its signature binds its first 32 bytes to the key that it names. -/
def tokenGood (s : State) (b : List Nat) (signs : Option Signed) : Bool :=
  let f := fun o n => ofLe ((b.drop o).take n)
  let key := f 28 1
  b.take 4 == [0x44, 0x42, 0x47, 0x54] && f 4 8 == s.dev.serial && f 12 8 == s.rd (.eph .dbgNonceNonce) 0 && f 20 4 < 8
    && 1 ≤ f 24 4 && f 24 4 ≤ 86400 && key < 4 && (match s.eph.keys[(Fin.ofNat 4 key : Fin 4)] with | .key k => signs == some ⟨sha384 (b.take 32), k⟩ | _ => false)
    && (key == 0 || f 20 4 < 4)

end State

/-- DBG_UNLOCK (R62, R63): every attempt draws a new nonce; the eighth failure refuses further tokens until reset. DESIGN CHOICE (log entry 128): a
token that is refused unexamined after it is no attempt and draws no nonce. What the token's signature binds comes with the command. -/
def execDbgUnlock (t : Nat) (m : MailReq) (token : List Byte) (signs : Option Signed) (s : State) : Result :=
  let b := token.map BitVec.toNat
  .next ((s.advance t).mailbox 0x0110 m [] b false fun s =>
    if b.length != 128 then (s, .fail 4 0)
    else if s.rd (.eph .dbgFails) 0 == 8 then (s, .fail 6 5)
    else
      let good := s.tokenGood b signs
      let f := s.freeBits 64
      let s := f.2.wr (.eph .dbgNonceNonce) 0 f.1
      if good then
        let scope := ofLe ((b.drop 20).take 4)
        let secs := ofLe ((b.drop 24).take 4)
        let s := (s.wr (.eph .dbgOpen) 0 1).wr (.eph .dbgScope) 0 scope
        let s := s.modEph fun l => { l with dbgUntil := some (s.now + msCclk (1000 * secs)) }
        (s.report .eph 0 0x1A45 [(1, scope), (4, secs), (1, b.getD 28 0)], .ok)
      else
        let n := s.rd (.eph .dbgFails) 0 + 1
        let s := s.wr (.eph .dbgFails) 0 n
        (if n == 8 then s.report .eph 0 0x2A46 [(4, 8)] else s, .fail 6 4))

/-- DBG_LOCK (R62): the port is locked at once. -/
def execDbgLock (t : Nat) (m : MailReq) (s : State) : Result :=
  .next ((s.advance t).mailbox 0x0111 m [] [] false fun s => (s.lockDebug, .ok))

/-- DEBUG_UNLOCK_EXPIRY (R62): DURATION has passed. -/
def execDebugUnlockExpiry (t : Nat) (s : State) : Result :=
  let s := s.advance t
  .next (match s.eph.dbgUntil with | some u => if u ≤ s.now then s.lockDebug else s | none => s)

end Sys2Proof.Machine
end

