-- ==== Sys2Proof/Machine/ObserverRows.lean ====
section
/-! DEFINITION. Observer commands: load windows (R424, R425), the watchdog (R429, R430); what a unit that stops does (R18), and error
reports (R329). -/

namespace Sys2Proof.Machine
namespace State

/-- A data lane stops (R18): it carries nothing further, and the link goes on by R175; its unconfirmed blocks are resent (R171). -/
def stopLane (s : State) (c : Fin 4) (lane : Nat) : State :=
  let l := s.workingLanes c
  if !l.contains lane then s else
  let s := (s.setWorking c (l.filter fun i => i != lane)).retireOutcome c lane
  (s.tri[c].blocks.filter fun b => b.lane == lane && !sendConfirmed b).foldl (fun s b => (s.resend c b).2) s

/-- A cooling output stops (R18, R233): full duty. -/
def stopPwm (s : State) (j : Nat) : State :=
  let s := (s.wr (.hel .pwmDuty) j 0xFFFF).wr (.hel .pwmFull) j 1
  if s.drives then s.emit (.pwm (j / 2) (j % 2) (clampN 10 50 (s.rd (.hel .pwmCfgFreq) (j / 2))) 0xFFFF) else s

/-- A thermistor input stops (R18): it gives no valid reading, as R189 has it. -/
def stopTsen (s : State) (j : Nat) : State :=
  let c : Fin 4 := Fin.ofNat 4 (j / 4)
  ((s.wr (.lsr .tsenValid) j 0).modLight c fun l => { l with tsenBad := l.tsenBad.set (Fin.ofNat 4 j) true }).updateCeiling c

/-- A unit stops on a class U event with all that its outputs then do (R18): a data lane carries nothing, a cooling output is at full duty, a
thermistor gives no valid reading, and the Observer is held in reset (R430). -/
def unitDown (s : State) (u : UType) (i sub code : Nat) (items : List (Nat × Nat)) : State :=
  if s.fusedOff u i then s else
  let s := if u == .obs then (s.observerDown false).modObs fun o => { o with heldReset := true } else s
  let s := s.unitFault u i sub code items
  match u with
  | .lane => if i % 18 == 17 then s else s.stopLane (Fin.ofNat 4 (i / 18)) (i % 18)
  | .pwm => s.stopPwm i
  | .tsen => s.stopTsen i
  | _ => s

end State

/-- LOAD_WINDOW (R424 to R426): the load of a 1 ms window in per cent; the level rises when the mean of the last 100 windows exceeds 90 %
and falls when that of the last 1,000 is below 70 %. -/
def execLoadWindow (t load : Nat) (s : State) : Result :=
  let s := s.advance t
  if !s.obsOnline then .next s else
  let load := min 100 load
  let s := s.modObs fun o => { o with windows := (load :: o.windows).take 1000 }
  let w := s.obs.windows
  let near := w.take 100
  let s := ((s.wr (.obs .loadLoad) 0 load).wr (.obs .loadMean) 0 (near.sum / near.length)).wr (.obs .loadPeak) 0
    (max (s.rd (.obs .loadPeak) 0) load)
  let level := s.rd (.obs .loadShed) 0
  let since := s.now - s.obs.lastChange
  .next (if level < 6 && 90 * near.length < near.sum && msCclk 100 ≤ since then s.setShed (level + 1)
    else if 0 < level && w.sum < 70 * w.length && msCclk 1000 ≤ since then s.setShed (level - 1)
    else s)

/-- WATCHDOG_EXPIRY (R429, R430), with the last firmware checkpoint code. -/
def execWatchdogExpiry (t : Nat) (code : Byte) (s : State) : Result :=
  let s := s.advance t
  if !s.obsOnline then .next s else
  let s := s.report .obs 0 0x28C6 [(4, s.rd (.obs .wdogTimeout) 0), (1, code.toNat)]
  let past := s.now :: s.obs.expiries.filter fun x => s.now < x + msCclk 600000
  let s := ((s.modObs fun o => { o with expiries := past }).wr (.obs .wdogRecent) 0 (min 3 past.length)).bump (.obs .wdogResets) 0
  if past.length < 3 then .next (s.observerDown true)
  else
    .next (s.unitDown .obs 0 0xFF 0x48C8 [(4, past.length)])

/-- ERROR_REPORT (R329): a unit reports an event of class `cls` and code `n` of its type; a class U event stops
the unit (R18) and a class X event is module-fatal (R435). A class without a meaning in R17 is never generated. PCI_ERR.AERUNC counts the
endpoint's uncorrectable errors (R376). -/
def execErrorReport (t : Nat) (u : UType) (i sub : Nat) (cls : Fin 6) (n : Fin 64) (items : List (Nat × Nat)) (s : State) :
    Result :=
  let s := s.advance t
  let code := cls.val * 4096 + u.code * 64 + n.val
  if cls.val == 0 then .next s
  else if cls.val == 5 then .next ((s.reportSub u i sub code items).moduleFatal code)
  else if cls.val == 4 then .next (s.unitDown u i sub code items)
  else .next ((if code == 0x2844 then s.bump (.pci .errAerunc) 0 else s).reportSub u i sub code items)

/-- OBSERVER_BOOT_DONE (R429). -/
def execObserverBootDone (t : Nat) (s : State) : Result := .next (s.advance t).observerUp

/-- OBSERVER_FATAL_CLEAR (R430): 1 is written to OBS_UNIT_STATUS.FATAL. -/
def execObserverFatalClear (t : Nat) (s : State) : Result := .next ((s.advance t).clearFatal .obs 0)

end Sys2Proof.Machine
end

