-- ==== Sys2Proof/Machine/PowerRows.lean ====
section
/-! DEFINITION. Power, clock, reset and thermal commands (R354 to R374), the SMBus writes (R389), and WAKE (R411). -/

namespace Sys2Proof.Machine

/-- VIN meets the start condition (R354): at or above 4.45 V, and after an overvoltage below 18.0 V (R356). -/
def State.startVin (s : State) (vin : Nat) : Bool := 4450 ≤ vin && (!s.pwr.overVolt || vin < 18000)

/-- STARTUP (R354, R355, R366 to R368): a start condition begins a power cycle after a power-fail, or the first one; else the steps go on from
the last one completed. The resting states have no start but a VIN cycle. -/
def execStartup (t : Nat) (r : StartReport) (s : State) : Result :=
  let s := s.advance t
  let st := s.rd (.pwr .stateState) 0
  if st == 3 || (st == 0 && !s.pwr.began) then
    .next (if s.startVin r.vin then ((s.coldState r.startAt).wr (.pwr .vinVin) 0 (satN 16 r.vin)).runSteps r .cold else s)
  else if st == 0 then .next (s.runSteps r .cold)
  else .next s

/-- POWER_FAIL (R336, R354, R369, R370): VIN in mV, the transfer that it cuts off, and how far the save comes. PFAIL asserts below 4.30 V; any
other VIN only shows. -/
def execPowerFail (t vin : Nat) (cut : Option BusCut) (e : SaveEnd) (s : State) : Result :=
  let s := (s.advance t).wr (.pwr .vinVin) 0 (satN 16 vin)
  .next (if vin < 4300 then s.powerDown vin 1 cut e else s)

/-- OVERVOLTAGE (R354, R356): above 19.0 V, class X, and then the power-fail sequence with CAUSE 2. -/
def execOvervoltage (t vin : Nat) (cut : Option BusCut) (e : SaveEnd) (s : State) : Result :=
  let s := (s.advance t).wr (.pwr .vinVin) 0 (satN 16 vin)
  if vin ≤ 19000 || s.rd (.pwr .stateState) 0 == 3 then .next s else
  .next ((((s.report .pwr 0 0x5947 [(2, vin)]).fatalSignals 0x5947).powerDown vin 2 cut e).modPwr fun p => { p with overVolt := true })

/-- RESET_IN (R370): the power-fail sequence with CAUSE 5. -/
def execResetIn (t : Nat) (cut : Option BusCut) (e : SaveEnd) (s : State) : Result :=
  let s := s.advance t
  .next (s.powerDown (s.rd (.pwr .vinVin) 0) 5 cut e)

/-- HOLDUP_TIMEOUT (R367): 50 ms of start-up have passed, with the energy in µJ that the hold-up has reached. -/
def execHoldupTimeout (t energy : Nat) (s : State) : Result :=
  let s := s.advance t
  .next (if s.rd (.pwr .stateState) 0 == 0 && s.rd (.pwr .stateStep) 0 == 0 then s.holdupAt energy else s)

/-- POWER_GOOD_TIMEOUT (R358): a domain that was being switched on. -/
def execPowerGoodTimeout (t : Nat) (d : Fin 50) (s : State) : Result :=
  let s := s.advance t
  .next (if s.domOn d.val then s.powerGoodFail d.val else s)

/-- RAIL_OUT_OF_REGULATION (R36, R435): class X event 0x5948 with the rail and the measured value. -/
def execRailOutOfRegulation (t rail value : Nat) (s : State) : Result :=
  let s := s.advance t
  .next (if 3 ≤ s.rd (.pwr .stateState) 0 then s else s.fatalEvent .pwr 0 0x5948 [(1, rail), (2, value)])

/-! ### Clocks (R362, R363) -/

namespace State

/-- What the loss of a PLL's lock does beside its event (R362). -/
def pllLost (s : State) (i : Fin 8) : State :=
  match i.val with
  | 0 => s
  | 1 => s.andRun (execFreezeRequest s.now 0)
  | 2 => s.andRun (execFreezeRequest s.now 1)
  | 3 => s.forClusters [0, 1] fun s c => s.darken c true .pll 3 0x2A81
  | 4 => s.forClusters [2, 3] fun s c => s.darken c true .pll 4 0x2A81
  | 5 => s
  | 6 => s.forClusters allClusters fun s c => (s.lensLow c).modLight c fun l => { l with gated := true }
  | _ =>
    let s := s.driveFailed 3
    let s := s.modArc fun a => { a with drive := none }
    ([0, 1] : List (Fin 2)).foldl (fun s (p : Fin 2) => s.andRun (execChainLaneChange s.now p false)) s

end State

/-- PLL_LOCK_LOSS (R362): a running PLL loses lock. -/
def execPllLockLoss (t : Nat) (i : Fin 8) (s : State) : Result :=
  let s := s.advance t
  if !s.pllLocked i.val then .next s else
  let s := (s.wr (.pwr .pllLock) 0 (putBit (s.rd (.pwr .pllLock) 0) i.val false)).bump (.pwr .pllUnlocks) 0
  if i.val == 0 then .next (s.fatalEvent .pll 0 0x5A82 [(1, 0)])
  else .next ((s.report .pll i.val 0x2A81 [(1, i.val), (1, 0)]).pllLost i)

/-- PLL_RELOCK (R362). -/
def execPllRelock (t : Nat) (i : Fin 8) (s : State) : Result :=
  let s := s.advance t
  if s.pllLocked i.val || !(State.pllDomains i.val).any s.domOn then .next s else
  let s := s.wr (.pwr .pllLock) 0 (putBit (s.rd (.pwr .pllLock) 0) i.val true)
  .next (s.report .pll i.val 0x2A81 [(1, i.val), (1, 1)])

/-- FRONTEND_RELOCK_TIMEOUT (R362): PLL 6 has not relocked within 10 µs. -/
def execFrontendRelockTimeout (t : Nat) (s : State) : Result :=
  let s := s.advance t
  .next (if s.pllLocked 6 || !(State.pllDomains 6).any s.domOn then s else s.fatalEvent .pll 6 0x5A82 [(1, 6)])

/-- REFCLK_VALID (R363), with the measured period error in 0.1 %. -/
def execRefclkValid (t : Nat) (err : Int) (s : State) : Result :=
  let s := s.advance t
  .next (if s.rd (.pwr .stateState) 0 == 3 then s else s.refclkValid err)

/-- REFCLK_LOST (R363): PD00 falls back to the RC oscillator; module-fatal while a fast domain runs. -/
def execRefclkLost (t : Nat) (s : State) : Result :=
  let s := s.advance t
  if !s.on (.pwr .stateRefclkOk) 0 then .next s else
  let s := (s.wr (.pwr .stateRefclkOk) 0 0).modPwr fun p => { p with refLost := true }
  .next (if s.rd (.pwr .domOnOn) 0 / 4 == 0 then s else s.fatalEvent .pll 7 0x5A82 [(1, 0xFF)])

/-! ### Deep standby and wakes (R365, R389, R411) -/

/-- STANDBY_ENTER (R365): PWR_CTRL.STANDBY; sent again, it completes once the stop fades have ended. -/
def execStandbyEnter (t : Nat) (s : State) : Result := .next (s.advance t).enterStandby

namespace State

/-- A keyed SMBus write (R389): a bad PEC or key is ignored with event 0x19C1. -/
def smbKeyed (s : State) (cmd want : Nat) (key : Byte) (pecBad : Bool) (f : State → State) : State :=
  if s.rd (.pwr .stateState) 0 == 3 then s
  else if pecBad then s.smbIgnored cmd 1
  else if key.toNat != want then s.smbIgnored cmd 3
  else f s

/-- The module leaves deep standby (R365); the wake sources are 1 SMBus and 2 chain. -/
def wake (s : State) (source : Nat) (r : StartReport) : State :=
  if s.rd (.pwr .stateState) 0 != 2 then s else (s.report .pwr 0 0x1942 [(1, 0), (1, source)]).restart r

end State

/-- SMBUS_STANDBY (R365, R389): command 0x40 with key 0xA5. -/
def execSmbusStandby (t : Nat) (key : Byte) (pecBad : Bool) (s : State) : Result :=
  .next ((s.advance t).smbKeyed 0x40 0xA5 key pecBad State.enterStandby)

/-- SMBUS_WAKE (R365, R389): command 0x41 with key 0x5A. -/
def execSmbusWake (t : Nat) (key : Byte) (pecBad : Bool) (r : StartReport) (s : State) : Result :=
  .next ((s.advance t).smbKeyed 0x41 0x5A key pecBad fun s => s.wake 1 r)

/-- SMBUS_THERMAL_RESTART (R373, R389): command 0x42 with key 0x3C, in THERMAL_OFF and below 90 °C. -/
def execSmbusThermalRestart (t : Nat) (key : Byte) (pecBad : Bool) (r : StartReport) (s : State) : Result :=
  .next ((s.advance t).smbKeyed 0x42 0x3C key pecBad fun s =>
    if s.rd (.pwr .stateState) 0 != 4 || 1440 ≤ max (s.rdI (.pwr .tempCompute) 0) (s.rdI (.pwr .tempIo) 0) then s else s.restart r)

/-- WAKE (R411): forwarded away from the side of its arrival; a module in deep standby that it addresses wakes. -/
def execWake (t : Nat) (m : List Byte) (port : Fin 2) (r : StartReport) (s : State) : Result :=
  let m := m.map BitVec.toNat
  .next ((s.advance t).chainRecv 0x0C m fun s =>
    let dest := msgField m 4 1
    let s := s.emit (.chain (1 - port.val) m)
    if dest == 0 || dest == s.chnAddr then s.wake 2 r else s)

/-! ### Thermal and power limits (R373, R374) -/

namespace State

/-- Thermal shutdown (R373): module-fatal, then every domain but PD00 and PD08 off, THERMAL_OFF. -/
def thermalOff (s : State) (die sensor : Nat) (tj : Int) : State :=
  let s := (s.report .pwr 0 0x5946 [(1, die), (1, sensor), (2, unsigned 16 tj)]).fatalSignals 0x5946
  let s := ((s.observerDown false).inputsDown).archiveOff.pcieOff
  ((s.keepDomains 0x101).linksOff).wr (.pwr .stateState) 0 4

/-- The thermal alarm's rise and fall (R373), with the die that reads highest. -/
def thermalAlarm (s : State) (die : Nat) (tj : Int) : State :=
  if s.on (.pwr .thermAlarm) 0 then
    if tj < 1520 then (s.wr (.pwr .thermAlarm) 0 0).report .pwr 0 0x1945 [(2, unsigned 16 tj)] else s
  else if 1600 ≤ tj then
    ((s.wr (.pwr .thermAlarm) 0 1).bump (.pwr .thermAlarms) 0).report .pwr 0 0x2944 [(1, die), (2, unsigned 16 tj)]
  else s

end State

/-- The highest reading of a die's sensors and its sensor. -/
def hottest (v : Vector Int 4) : Int × Nat :=
  ([1, 2, 3] : List (Fin 4)).foldl (fun (a : Int × Nat) (i : Fin 4) => if a.1 < v[i] then (v[i], i.val) else a) (v[(0 : Fin 4)], 0)

/-- TJ_SAMPLE (R373): the sensors of the compute die, of the I/O die and of the stack, in 1/16 °C. -/
def execTjSample (t : Nat) (compute io : Vector Int 4) (hbm : Int) (s : State) : Result :=
  let s := s.advance t
  let st := s.rd (.pwr .stateState) 0
  if st == 3 then .next s else
  let a := hottest compute
  let b := hottest io
  let die := if a.1 < b.1 then 1 else 0
  let tj := max a.1 b.1
  let s := ((s.wrI (.pwr .tempCompute) 0 a.1).wrI (.pwr .tempIo) 0 b.1).wrI (.pwr .temp2Hbm) 0 hbm
  let s := s.wrI (.pwr .temp2Max) 0 (max (s.rdI (.pwr .temp2Max) 0) tj)
  let s := s.thermalAlarm die tj
  .next (if 1760 ≤ tj && st != 4 then s.thermalOff die (if die == 0 then a.2 else b.2) tj else s)

namespace State

/-- A shedding step is due (R374): the alarm demands all three, the limit the next one after 10 ms above it; one step per 100 ms. -/
def shedDue (s : State) : Bool :=
  let act := s.rd (.pwr .limitAct) 0
  let late := match s.pwr.overSince with | some a => decide (a + msCclk 10 ≤ s.now) | none => false
  act < 3 && (s.on (.pwr .thermAlarm) 0 || late) && (act == 0 || s.pwr.lastStep + msCclk 100 ≤ s.now)

/-- The last step taken may be released (R374). -/
def releaseDue (s : State) (pin : Nat) : Bool :=
  let lim := s.rd (.pwr .limitW) 0
  match s.pwr.taken with
  | [] => false
  | a :: _ =>
    !s.on (.pwr .thermAlarm) 0 && (lim == 0 || 2 * pin < 19 * lim) && a + msCclk 10000 ≤ s.now
      && (s.pwr.lastRelease < a || s.pwr.lastRelease + msCclk 10000 ≤ s.now)

end State

/-- POWER_SHED_STEP (R374): the monitors' 10 ms mean of the input power in 0.1 W, VIN in mV and the input current in 10 mA; a step is taken
or released when one is due. -/
def execPowerShedStep (t pin vin iin : Nat) (s : State) : Result :=
  let s := s.advance t
  if 2 ≤ s.rd (.pwr .stateState) 0 then .next s else
  let s := (s.wr (.pwr .vinVin) 0 (satN 16 vin)).wr (.pwr .vinIin) 0 (satN 16 iin)
  let s := (s.wr (.pwr .powerPin) 0 (satN 16 pin)).wr (.pwr .powerPmax) 0 (max (s.rd (.pwr .powerPmax) 0) (satN 16 pin))
  let lim := s.rd (.pwr .limitW) 0
  let s := s.modPwr fun p => { p with overSince := if lim == 0 || pin ≤ 10 * lim then none else some (p.overSince.getD s.now) }
  let act := s.rd (.pwr .limitAct) 0
  .next (if s.shedDue then s.shedStep (act + 1) true else if s.releaseDue pin then s.shedStep act false else s)

end Sys2Proof.Machine
end

