-- ==== Sys2Proof/Machine/RegAccess.lean ====
section
/-! DEFINITION. BAR0 accesses (R9 to R13, R377, R438 to R449): reads with what each register shows, writes with everything they start;
clearing of FATAL, counters and apply errors; unit faults (R18) and faults of the die-to-die link (R26 to R28). -/

namespace Sys2Proof.Machine

namespace State

/-! ### What registers show -/

/-- The tag that GLB_TAG_SEL selects (R447). -/
def selectedTag (s : State) : Option TagKind := s.tagKind (s.rd (.glb .tagSelPath) 0)

/-- The bytes of the tag window. -/
def tagWindow (s : State) : List Nat := match s.selectedTag with | some k => s.tagBytes k | none => []

/-- Milliseconds since the last TEMP of an array (TRI_TEMP.AGE). -/
def tempAge (s : State) (c : Fin 4) : Nat := match s.tri[c].tempAt with | some a => satN 16 ((s.now - a) / msCclk 1) | none => 0xFFFF

/-- The trusted key slots as EPH_KEYS shows them (R47). -/
def keyMask (s : State) (revoked : Bool) : Nat :=
  maskOf 4 fun i => match s.eph.keys[(Fin.ofNat 4 i : Fin 4)] with
    | .empty => false
    | .key _ => !revoked
    | .revoked _ => revoked && i != 0

/-- The vector enables without those of fused-off clusters (R448). -/
def liveVectors (s : State) (f : Fld) : Nat := s.rd f 0 &&& s.dev.clen

/-- What a read of a field shows: identity, summary and measured registers are computed; a Meridian field shows its shadow value (R12). -/
def view (s : State) (f : Fld) (i : Nat) : Nat :=
  let c : Fin 4 := Fin.ofNat 4 i
  match f with
  | .glb .idVariant => s.dev.variant
  | .glb .revIo => s.dev.revIo
  | .glb .revCompute => s.dev.revCompute
  | .glb .fuseClen => s.dev.clen
  | .glb .serialSerial => s.dev.serial
  | .glb .partnerSerial => s.dev.partner
  | .glb .statusOut => perCluster s.outState 2
  | .glb .statusLight => perCluster (fun c => b2n (s.lightOn c)) 1
  | .glb .statusMarked => perCluster (fun c => b2n (s.anyMarked c)) 1
  | .glb .statusFault => b2n s.faultLow
  | .glb .statusNoimage => b2n (s.rd (.eph .statusState) 0 == 4)
  | .glb .statusFrozen => b2n (s.regionFrozen 0) + 2 * b2n (s.regionFrozen 1)
  | .glb .statusObsup => b2n s.obsOnline
  | .glb .statusPrime => b2n s.isPrime
  | .glb .statusWtvalid => s.rd (.chn .wtStatValid) 0
  | .glb .statusLogfrz => s.rd (.log .statFrozen) 0
  | .glb .walltimeTime => s.wall
  | .glb .tagInfoLen => s.tagWindow.length
  | .glb .tagInfoBad => b2n s.selectedTag.isNone
  | .glb .tagDataData => ofLe ((s.tagWindow.drop (4 * i)).take 4)
  | .eph .keysValid => s.keyMask false
  | .eph .keysRevoked => s.keyMask true
  | .obs .wdogRecent => min 3 (s.obs.expiries.filter fun x => s.now < x + msCclk 600000).length
  | .eph .dbgRemain => match s.eph.dbgUntil with | some u => (u - s.now) / msCclk 1000 | none => 0
  | .pci .vecEnMrd | .pci .vecEnCommit | .pci .vecEnRetire => s.liveVectors f
  | .pix .layerRetireLayer => match s.pic[c].retires with | x :: _ => x.1 | [] => 0
  | .pix .layerRetireValid => b2n (!s.pic[c].retires.isEmpty)
  | .pix .layerRetireOvf => b2n s.pic[c].retireLost
  | .pix .layerRetireFrame => match s.pic[c].retires with | x :: _ => x.2 | [] => 0
  | .chr .commitGuard => b2n (s.chr[c].running && decide (s.now ≤ s.chr[c].nextM) && inGuard s.chr[c].nextM s.now)
  | .tri .tempAge => s.tempAge c
  | .hel .isoLatLat => s.dev.isoLat
  | .geo .plateLineLine =>
    if s.plateLines c != 0 then s.plateLines c - 1 else if s.pic[c].composedPrev.isEmpty then 0 else s.cfg[c].h - 1
  | .geo .plateFrameFrame => if s.plateLines c == 0 then s.pic[c].composedPrevNum else s.pic[c].composedNum
  | .hel .slotStatOpenloop => b2n (s.openLoop (Fin.ofNat 4 (i / 16)) (Fin.ofNat 16 i))
  | .lsr .lampBusy => b2n (s.light[c].load.isSome || s.now < s.light[c].latchAt)
  | .pln .stateRreq => s.rd (.tri .stateRreq) i
  | .pln .stateTcause => s.tonlyCauses c + 8 * b2n s.mem.fallback[c]
  | .tri .stateLink => s.linkNow c
  | _ => s.rdShadow f i

/-- A record of the live ring as its window shows it (R328). -/
def ringWord (s : State) (o : Nat) : Nat :=
  match s.log.ring.find? fun r => r.seq % 4096 == o / 32 with
  | some r => ofLe ((r.bytes.drop (o % 32)).take 4)
  | none => 0

/-- A word of the tile window or of the CRC window of a cluster (R237, R257). -/
def tileWord (s : State) (c : Fin 4) (o : Nat) : Nat :=
  let v := if o < 0x50000 then (s.pic[c].tiles[o / 8]?.map Tile.word).getD 0 else s.pic[c].closedCrcs.getD ((o - 0x50000) / 8) 0
  if o % 8 < 4 then v % 2 ^ 32 else v / 2 ^ 32

/-- An aligned BAR0 word as it stands, without the effect of reading it; reserved bits and offsets without a register read 0 (R9). -/
def peek (s : State) (a : Nat) : Nat :=
  let absent := match addrCluster a with | some c => !s.clusterOn c | none => false
  match statusAt a with
  | some (u, i) => if absent then 0x20 else s.statusWord u i
  | none =>
    if absent then 0
    else if 0x50000 ≤ a && a < 0x70000 then s.ringWord (a - 0x50000)
    else if roWindow a then s.tileWord (Fin.ofNat 4 ((a - 0x1000000) / 0x400000)) (a % 0x400000 - 0x240000)
    else
      (fieldsAt a).foldl (fun v x =>
        let sl := wordSlice x.1.info x.2.2
        match x.1.info.acc with
        | .wo => v
        | _ => v + bits (s.view x.1 x.2.1) sl.2.1 sl.2.2 * 2 ^ sl.1) 0

/-- An address is the low word of a wide value: a register of two words, or an entry of the tile and CRC windows (R10). -/
def wideLow (a : Nat) : Bool :=
  ((fieldsAt a).any fun x => 1 < x.1.info.words && x.2.2 == 0) || (roWindow a && 0x1000000 ≤ a && a % 8 == 0)

/-- The oldest retire is popped (R84). -/
def popRetire (s : State) (c : Fin 4) : State := s.modPic c fun p => { p with retires := p.retires.drop 1, retireLost := false }

/-- The fields of type RC in a word are cleared once they have been returned (R441). -/
def clearRead (s : State) (a : Nat) : State :=
  (fieldsAt a).foldl (fun s x =>
    match x.1.info.acc, x.1 with
    | .rc, .pix .layerRetireLayer => s.popRetire (Fin.ofNat 4 x.2.1)
    | .rc, .pix _ => s
    | .rc, f => if (wordSlice f.info x.2.2).2.2 == 0 then s else s.wr f x.2.1 0
    | _, _ => s) s

/-- An aligned BAR0 read (R9, R10, R441): the word, with the high word latched by a read of the low one, and RC fields cleared. -/
def busRead (s : State) (a : Nat) : State × Nat :=
  match s.rdLatch.find? fun x => x.1 == a with
  | some x => ({ s with rdLatch := s.rdLatch.filter fun y => y.1 != a }, x.2)
  | none =>
    let v := s.peek a
    let s' := if wideLow a then { s with rdLatch := (a + 4, s.peek (a + 4)) :: s.rdLatch.filter fun y => y.1 != a + 4 } else s
    let off := match addrCluster a with | some c => !s.clusterOn c | none => false
    (if off then s' else s'.clearRead a, v)

/-- A bus read completes with its word, or with Unsupported Request in D3hot (R379). -/
def readWord (s : State) (a : Nat) : Result :=
  if bar0End ≤ a then .fault (.noSuchAddress a)
  else if s.host.d3hot then .next (s.complete .ur [])
  else
    let r := s.busRead (a / 4 * 4)
    .next (r.1.complete .ok (leBytes 4 r.2))

/-- Everything that a host's aligned write does; a change of a slot's MODE can bring a T-only condition (R122, R227). -/
def hostWrite (s : State) (a data : Nat) : State :=
  let r := s.busWrite a data 0
  let s := r.2.foldl (fun s x => match x.1 with | .eph .presetGo => s.presetGo | _ => s.pull 0 x) r.1
  if (fieldsAt a).any fun x => x.1 = .hel .slotCtrlMode then s.forClusters allClusters fun s c => s.noteTonly c else s

end State

/-- REGISTER_WRITE (R9 to R13, R440, R444 to R451): an aligned 32-bit BAR0 write. -/
def execRegisterWrite (t addr : Nat) (data : Word) (s : State) : Result :=
  let s := s.advance t
  if bar0End ≤ addr then .fault (.noSuchAddress addr)
  else if s.host.d3hot then .next (s.complete .ur [])
  else .next ((s.hostWrite (addr / 4 * 4) data.toNat).complete .ok [])

/-- BAR0_BAD_ACCESS (R377): an access that is not an aligned 32-bit one; in D3hot it is not counted. -/
def execBar0BadAccess (t addr len : Nat) (write : Bool) (s : State) : Result :=
  let s := s.advance t
  let _ := write
  if s.host.d3hot then .next (s.complete .ur [])
  else if addr % 4 == 0 && len == 4 then .next s
  else .next ((s.bump (.pci .errBadacc) 0).complete .ur [])

/-- WIDE_LOW_READ (R10): a BAR0 read; the low word of a wide value latches its high word for the next read of that. -/
def execWideLowRead (t addr : Nat) (s : State) : Result := (s.advance t).readWord addr

/-- RC_READ (R441): a BAR0 read of a word with fields of type RC. -/
def execRcRead (t addr : Nat) (s : State) : Result := (s.advance t).readWord addr

/-- RETIRE_POP (R84): a read of PIX_LAYER_RETIRE of a cluster. -/
def execRetirePop (t : Nat) (c : Fin 4) (s : State) : Result := (s.advance t).readWord (Fld.addr (.pix .layerRetireLayer) c)

/-- FATAL_CLEAR (R16): the unit restarts, at the next commit if it is a cluster unit. -/
def execFatalClear (t : Nat) (u : UType) (i : Nat) (s : State) : Result := .next ((s.advance t).clearFatal u i)

/-- CNTCLR (R16). -/
def execCntclr (t : Nat) (u : UType) (i : Nat) (s : State) : Result := .next ((s.advance t).clearCounters u i)

/-- APPLY_ERR_CLEAR (R444). -/
def execApplyErrClear (t : Nat) (s : State) : Result := .next (s.advance t).applyErrClear

/-- UNIT_FATAL_FAULT (R18, R20, R36): a unit raises a class U event, named by its number in the unit type's codes. -/
def execUnitFatalFault (t : Nat) (u : UType) (i sub code : Nat) (items : List (Nat × Nat)) (s : State) : Result :=
  .next ((s.advance t).unitDown u i sub (0x4000 + u.code * 64 + code % 64) items)

/-! ### The die-to-die link (R26 to R28) -/

/-- D2D_CRC_RETRY (R26): counted at the receiving side; more than 16 retries in one millisecond are event 0x2741. DESIGN CHOICE (log entry 135): the
event begins the count of retries anew, so that it comes again after 17 more within one millisecond. -/
def execD2dCrcRetry (t : Nat) (d : Fin 2) (lane : Nat) (s : State) : Result :=
  let s := (s.advance t).bump (.st .d2d .errcnt) d
  let l := s.now :: s.retries[d].filter fun x => s.now < x + msCclk 1
  if l.length ≤ 16 then .next { s with retries := s.retries.set d l }
  else .next ({ s with retries := s.retries.set d [] }.reportSub .d2d d lane 0x2741 [(4, l.length)])

/-- D2D_LINK_FAILURE (R28): 64 consecutive retries, or lane lock lost for more than 10 µs. -/
def execD2dLinkFailure (t : Nat) (d : Fin 2) (laneLock : Bool) (s : State) : Result :=
  let s := s.advance t
  if !s.domOn 13 || !s.domOn 14 then .next s else
  .next (s.fatalEvent .die d 0x50C1 [(1, if laneLock then 2 else 1)])

/-- The kind code of an isochronous word in event 0x1742. -/
def IsoWord.code : IsoWord → Nat
  | .pd _ _ => 1
  | .dac _ _ => 2
  | .len _ _ => 3
  | .range _ => 4
  | .latch _ => 5

namespace State

/-- A LEN descriptor is lost (R178): a diagnostic pulse under way is given up without a check; another pulse is omitted, and its frame is
torn. -/
def loseDescriptor (s : State) (c : Fin 4) (k : Fin 6) : State :=
  let x := s.light[c].chans[k]
  let n := s.shownFrame c
  let s := (s.bump (.lsr .detCntIsolost) (chanInst c k)).report .lsrCh (chanInst c k) 0x23CC [(4, n)]
  if x.diagOn && decide (s.now ≤ s.chr[c].lastF + 1600) then
    let s := s.modChan c k fun y => { y with diagOn := false, lrefHeld := none }
    if s.drives then (s.emit (.lref c k x.lref s.now)).emit (.lenCut c k s.now) else s
  else (s.modChan c k fun y => { y with lostPulse := true }).flagBy c n .torn (s.allTiles c) .lsrCh (chanInst c k)

end State

/-- ISO_WORD_DISCARD (R27, R178): event 0x1742 at the receiving unit, and the word's own effect. A lost photodiode sample is the absent code
of its HELIOSTAT_SAMPLE (R219). -/
def execIsoWordDiscard (t : Nat) (d : Fin 2) (word : IsoWord) (s : State) : Result :=
  let s := (s.advance t).report .d2d d 0x1742 [(1, word.code)]
  match word with
  | .pd _ _ => .next s
  | .dac c k => .next (s.modChan c k fun y => { y with dacLost := true })
  | .len c k => .next (s.loseDescriptor c k)
  | .range c =>
    let n := s.shownFrame c
    let s := (s.lensLow c).modLight c fun l =>
      { l with rangeLost := true, rangePend := (l.rangePend.filter fun x => x.1 < s.now) ++ ((l.rangePend.filter fun x => s.now ≤ x.1).drop 1) }
    .next ((s.flagBy c n .torn (s.allTiles c) .lamp c).report .lamp c 0x2543 [(4, n), (1, 4)])
  | .latch c =>
    let n := s.shownFrame c
    .next (((s.undoLatch c).flagBy c n .torn (s.allTiles c) .lamp c).report .lamp c 0x2543 [(4, n), (1, 5)])

end Sys2Proof.Machine
end

