-- ==== Sys2Proof/Machine/Dispatch.lean ====
section
/-! DEFINITION. One arm per command: the call of its meaning. -/

namespace Sys2Proof.Machine

/-- The effect of a command on everything but the queue. -/
def exec (i : Instr) (s : State) : Host.Outcome State Fault Refusal :=
  match i with
  | .registerWrite t addr data => Sys2Proof.Machine.execRegisterWrite t addr data s
  | .bar0BadAccess t addr len write => Sys2Proof.Machine.execBar0BadAccess t addr len write s
  | .wideLowRead t addr => Sys2Proof.Machine.execWideLowRead t addr s
  | .rcRead t addr => Sys2Proof.Machine.execRcRead t addr s
  | .retirePop t c => Sys2Proof.Machine.execRetirePop t c s
  | .fatalClear t u j => Sys2Proof.Machine.execFatalClear t u j s
  | .cntclr t u j => Sys2Proof.Machine.execCntclr t u j s
  | .applyErrClear t => Sys2Proof.Machine.execApplyErrClear t s
  | .unitFatalFault t u j sub code items => Sys2Proof.Machine.execUnitFatalFault t u j sub code items s
  | .d2dCrcRetry t d lane => Sys2Proof.Machine.execD2dCrcRetry t d lane s
  | .d2dLinkFailure t d laneLock => Sys2Proof.Machine.execD2dLinkFailure t d laneLock s
  | .isoWordDiscard t d word => Sys2Proof.Machine.execIsoWordDiscard t d word s
  | .ephUploadBegin t m target length => Sys2Proof.Machine.execEphUploadBegin t m target length s
  | .ephUploadPage t m off data progOk => Sys2Proof.Machine.execEphUploadPage t m off data progOk s
  | .ephUploadEnd t m signs hashOk plan readOk => Sys2Proof.Machine.execEphUploadEnd t m signs hashOk plan readOk s
  | .ephActivate t m slot => Sys2Proof.Machine.execEphActivate t m slot s
  | .ephSwap t m commit => Sys2Proof.Machine.execEphSwap t m commit s
  | .ephReselect t m => Sys2Proof.Machine.execEphReselect t m s
  | .fullReload t r => Sys2Proof.Machine.execFullReload t r s
  | .presetGo t => Sys2Proof.Machine.execPresetGo t s
  | .dbgUnlock t m token signs => Sys2Proof.Machine.execDbgUnlock t m token signs s
  | .dbgLock t m => Sys2Proof.Machine.execDbgLock t m s
  | .debugUnlockExpiry t => Sys2Proof.Machine.execDebugUnlockExpiry t s
  | .dpLinkTraining t j fit rate lanes w h dsc => Sys2Proof.Machine.execDpLinkTraining t j fit rate lanes w h dsc s
  | .dpFrameComplete t j w h line data => Sys2Proof.Machine.execDpFrameComplete t j w h line data s
  | .dpFrameDiscard t j => Sys2Proof.Machine.execDpFrameDiscard t j s
  | .dpInputLost t j cause => Sys2Proof.Machine.execDpInputLost t j cause s
  | .dpPsrChange t j psr => Sys2Proof.Machine.execDpPsrChange t j psr s
  | .dpPsr2Update t j y0 line data bad => Sys2Proof.Machine.execDpPsr2Update t j y0 line data bad s
  | .hostHbmWrite t off data => Sys2Proof.Machine.execHostHbmWrite t off data s
  | .hostHbmRead t off len bad => Sys2Proof.Machine.execHostHbmRead t off len bad s
  | .bar4Write t off data => Sys2Proof.Machine.execBar4Write t off data s
  | .bar4Read t off len bad => Sys2Proof.Machine.execBar4Read t off len bad s
  | .layerReadError t c l addr => Sys2Proof.Machine.execLayerReadError t c l addr s
  | .fetchLate t c l y0 y1 => Sys2Proof.Machine.execFetchLate t c l y0 y1 s
  | .fenceGo t => Sys2Proof.Machine.execFenceGo t s
  | .fenceDone t => Sys2Proof.Machine.execFenceDone t s
  | .tableWindowWrite t addr data => Sys2Proof.Machine.execTableWindowWrite t addr data s
  | .meshLoadGo t c => Sys2Proof.Machine.execMeshLoadGo t c s
  | .meshLoadComplete t c err => Sys2Proof.Machine.execMeshLoadComplete t c err s
  | .tableParityError t c table index word => Sys2Proof.Machine.execTableParityError t c table index word s
  | .schedWindowWrite t addr data => Sys2Proof.Machine.execSchedWindowWrite t addr data s
  | .schedCheckGo t c => Sys2Proof.Machine.execSchedCheckGo t c s
  | .schedCheckDone t c => Sys2Proof.Machine.execSchedCheckDone t c s
  | .meridian t c => Sys2Proof.Machine.execMeridian t c s
  | .commitRequest t c => Sys2Proof.Machine.execCommitRequest t c s
  | .commitCancel t c => Sys2Proof.Machine.execCommitCancel t c s
  | .frameStart t c => Sys2Proof.Machine.execFrameStart t c s
  | .segmentStart t c => Sys2Proof.Machine.execSegmentStart t c s
  | .planeReset t c first last ent => Sys2Proof.Machine.execPlaneReset t c first last ent s
  | .settleComplete t c first ent => Sys2Proof.Machine.execSettleComplete t c first ent s
  | .aWindowStart t c => Sys2Proof.Machine.execAWindowStart t c s
  | .tailStart t c => Sys2Proof.Machine.execTailStart t c s
  | .frameClose t c => Sys2Proof.Machine.execFrameClose t c s
  | .heldWake t c => Sys2Proof.Machine.execHeldWake t c s
  | .freshnessDeadlineWake t c => Sys2Proof.Machine.execFreshnessDeadlineWake t c s
  | .planeBandRead t c frame prim bitn piece band bad plateBad => Sys2Proof.Machine.execPlaneBandRead t c frame prim bitn piece band bad plateBad s
  | .fallbackExtraction t c frame prim bitn piece band plateBad => Sys2Proof.Machine.execFallbackExtraction t c frame prim bitn piece band plateBad s
  | .blockSend t c frame seg prim bitn piece wrap band blk resetAt => Sys2Proof.Machine.execBlockSend t c frame seg prim bitn piece wrap band blk resetAt s
  | .blockTrailerSent t c seq bcrc => Sys2Proof.Machine.execBlockTrailerSent t c seq bcrc s
  | .echo t c m => Sys2Proof.Machine.execEcho t c m s
  | .echoTimeout t c seq => Sys2Proof.Machine.execEchoTimeout t c seq s
  | .rsack t c m => Sys2Proof.Machine.execRsack t c m s
  | .rsackTimeout t c cseq => Sys2Proof.Machine.execRsackTimeout t c cseq s
  | .status t c m => Sys2Proof.Machine.execStatus t c m s
  | .temp t c m => Sys2Proof.Machine.execTemp t c m s
  | .alarm t c m => Sys2Proof.Machine.execAlarm t c m s
  | .ident0 t c m => Sys2Proof.Machine.execIdent0 t c m s
  | .ident1 t c m => Sys2Proof.Machine.execIdent1 t c m s
  | .train t c m => Sys2Proof.Machine.execTrain t c m s
  | .returnLaneLockLoss t c => Sys2Proof.Machine.execReturnLaneLockLoss t c s
  | .statusTimeout t c => Sys2Proof.Machine.execStatusTimeout t c s
  | .laneRetire t c lane => Sys2Proof.Machine.execLaneRetire t c lane s
  | .laneRetrain t c => Sys2Proof.Machine.execLaneRetrain t c s
  | .laneRetrainDone t c taps => Sys2Proof.Machine.execLaneRetrainDone t c taps s
  | .triocBringup t c r => Sys2Proof.Machine.execTriocBringup t c r s
  | .interlockTrip t c => Sys2Proof.Machine.execInterlockTrip t c s
  | .interlockRearm t c high => Sys2Proof.Machine.execInterlockRearm t c high s
  | .outputStop t c => Sys2Proof.Machine.execOutputStop t c s
  | .outputRearm t c => Sys2Proof.Machine.execOutputRearm t c s
  | .channelRearm t c k => Sys2Proof.Machine.execChannelRearm t c k s
  | .diagnow t c k => Sys2Proof.Machine.execDiagnow t c k s
  | .thermistorSample t c j raw temp => Sys2Proof.Machine.execThermistorSample t c j raw temp s
  | .lampFrameSend t c high => Sys2Proof.Machine.execLampFrameSend t c high s
  | .faultWindow t c k pd vstr last => Sys2Proof.Machine.execFaultWindow t c k pd vstr last s
  | .wearRotation t c => Sys2Proof.Machine.execWearRotation t c s
  | .heliostatSample t c j code => Sys2Proof.Machine.execHeliostatSample t c j code s
  | .slotOutputWrite t c j => Sys2Proof.Machine.execSlotOutputWrite t c j s
  | .satfaultClear t c j => Sys2Proof.Machine.execSatfaultClear t c j s
  | .colourSensorTxn t c p => Sys2Proof.Machine.execColourSensorTxn t c p s
  | .colourResultReady t c p data => Sys2Proof.Machine.execColourResultReady t c p data s
  | .reaffirmLayer t c l => Sys2Proof.Machine.execReaffirmLayer t c l s
  | .reaffirmTileList t c l count => Sys2Proof.Machine.execReaffirmTileList t c l count s
  | .reaffirmListReadDone t c err => Sys2Proof.Machine.execReaffirmListReadDone t c err s
  | .tileTableParityError t c tile => Sys2Proof.Machine.execTileTableParityError t c tile s
  | .hbmDetectionError t addr reader => Sys2Proof.Machine.execHbmDetectionError t addr reader s
  | .hbmWriteParityError t addr again => Sys2Proof.Machine.execHbmWriteParityError t addr again s
  | .regionFreeze t r pc addr port path => Sys2Proof.Machine.execRegionFreeze t r pc addr port path s
  | .freezeRequest t r => Sys2Proof.Machine.execFreezeRequest t r s
  | .freezeSnapshotDone t r => Sys2Proof.Machine.execFreezeSnapshotDone t r s
  | .recover t r => Sys2Proof.Machine.execRecover t r s
  | .recoveryDone t r e => Sys2Proof.Machine.execRecoveryDone t r e s
  | .freqChangeRequest t ch set => Sys2Proof.Machine.execFreqChangeRequest t ch set s
  | .freqChangeDone t ch => Sys2Proof.Machine.execFreqChangeDone t ch s
  | .pcPowerDown t p => Sys2Proof.Machine.execPcPowerDown t p s
  | .pcPowerDownExit t p => Sys2Proof.Machine.execPcPowerDownExit t p s
  | .selfRefreshEntry t ch => Sys2Proof.Machine.execSelfRefreshEntry t ch s
  | .hbmRefresh t p urgent => Sys2Proof.Machine.execHbmRefresh t p urgent s
  | .scrubRead t st place err copyB last => Sys2Proof.Machine.execScrubRead t st place err copyB last s
  | .trainingGo t e host temp pd => Sys2Proof.Machine.execTrainingGo t e host temp pd s
  | .trainingAbort t e host => Sys2Proof.Machine.execTrainingAbort t e host s
  | .gatherBurstEnd t e g => Sys2Proof.Machine.execGatherBurstEnd t e g s
  | .gatherBurstStart t e temp pd => Sys2Proof.Machine.execGatherBurstStart t e temp pd s
  | .stagedResultApply t e => Sys2Proof.Machine.execStagedResultApply t e s
  | .stagedResultExpiry t e => Sys2Proof.Machine.execStagedResultExpiry t e s
  | .scheduledTraining t e target idx c temp pd => Sys2Proof.Machine.execScheduledTraining t e target idx c temp pd s
  | .almRawRead t m addr len => Sys2Proof.Machine.execAlmRawRead t m addr len s
  | .almRawWrite t m addr data => Sys2Proof.Machine.execAlmRawWrite t m addr data s
  | .objectStore t oid => Sys2Proof.Machine.execObjectStore t oid s
  | .checkpoint t => Sys2Proof.Machine.execCheckpoint t s
  | .checkpointNow t => Sys2Proof.Machine.execCheckpointNow t s
  | .errorReport t u j sub cls n items => Sys2Proof.Machine.execErrorReport t u j sub cls n items s
  | .queueDrain t => Sys2Proof.Machine.execQueueDrain t s
  | .logTriggerHost t => Sys2Proof.Machine.execLogTriggerHost t s
  | .logFreeze t => Sys2Proof.Machine.execLogFreeze t s
  | .logbookSaveDone t => Sys2Proof.Machine.execLogbookSaveDone t s
  | .logRelease t slot => Sys2Proof.Machine.execLogRelease t slot s
  | .logSlotRead t m slot => Sys2Proof.Machine.execLogSlotRead t m slot s
  | .driveAttach t d => Sys2Proof.Machine.execDriveAttach t d s
  | .nvmeCommandTimeout t id => Sys2Proof.Machine.execNvmeCommandTimeout t id s
  | .smartPoll t x => Sys2Proof.Machine.execSmartPoll t x s
  | .archiveSampleTick t c late bad => Sys2Proof.Machine.execArchiveSampleTick t c late bad s
  | .ringSample t c => Sys2Proof.Machine.execRingSample t c s
  | .ringFlushDone t => Sys2Proof.Machine.execRingFlushDone t s
  | .archiveFlushTick t => Sys2Proof.Machine.execArchiveFlushTick t s
  | .archiveFlushDone t => Sys2Proof.Machine.execArchiveFlushDone t s
  | .logbookArchiveCopy t slot saveSeq => Sys2Proof.Machine.execLogbookArchiveCopy t slot saveSeq s
  | .archiveResume t => Sys2Proof.Machine.execArchiveResume t s
  | .arcQuery t m => Sys2Proof.Machine.execArcQuery t m s
  | .arcRead t m args => Sys2Proof.Machine.execArcRead t m args s
  | .arcAnchor t m => Sys2Proof.Machine.execArcAnchor t m s
  | .arcInit t m serial => Sys2Proof.Machine.execArcInit t m serial s
  | .startup t r => Sys2Proof.Machine.execStartup t r s
  | .powerFail t vin store e => Sys2Proof.Machine.execPowerFail t vin store e s
  | .overvoltage t vin store e => Sys2Proof.Machine.execOvervoltage t vin store e s
  | .resetIn t store e => Sys2Proof.Machine.execResetIn t store e s
  | .holdupTimeout t energy => Sys2Proof.Machine.execHoldupTimeout t energy s
  | .powerGoodTimeout t d => Sys2Proof.Machine.execPowerGoodTimeout t d s
  | .pllLockLoss t j => Sys2Proof.Machine.execPllLockLoss t j s
  | .frontendRelockTimeout t => Sys2Proof.Machine.execFrontendRelockTimeout t s
  | .refclkValid t err => Sys2Proof.Machine.execRefclkValid t err s
  | .refclkLost t => Sys2Proof.Machine.execRefclkLost t s
  | .standbyEnter t => Sys2Proof.Machine.execStandbyEnter t s
  | .tjSample t compute io hbm => Sys2Proof.Machine.execTjSample t compute io hbm s
  | .powerShedStep t pin vin iin => Sys2Proof.Machine.execPowerShedStep t pin vin iin s
  | .pcieReset t kind => Sys2Proof.Machine.execPcieReset t kind s
  | .pcieLinkLoss t => Sys2Proof.Machine.execPcieLinkLoss t s
  | .evrModerationTimeout t => Sys2Proof.Machine.execEvrModerationTimeout t s
  | .version t m => Sys2Proof.Machine.execVersion t m s
  | .fwUpdateBegin t m length => Sys2Proof.Machine.execFwUpdateBegin t m length s
  | .fwUpdatePage t m off data progOk => Sys2Proof.Machine.execFwUpdatePage t m off data progOk s
  | .fwUpdateEnd t m copy => Sys2Proof.Machine.execFwUpdateEnd t m copy s
  | .tagRead t m path => Sys2Proof.Machine.execTagRead t m path s
  | .tagWrite t m path data => Sys2Proof.Machine.execTagWrite t m path data s
  | .telemetry t m => Sys2Proof.Machine.execTelemetry t m s
  | .smbusStatusRead t write => Sys2Proof.Machine.execSmbusStatusRead t write s
  | .smbusTagRead t j write => Sys2Proof.Machine.execSmbusTagRead t j write s
  | .smbusStandby t key pecBad => Sys2Proof.Machine.execSmbusStandby t key pecBad s
  | .smbusWake t key pecBad r => Sys2Proof.Machine.execSmbusWake t key pecBad r s
  | .smbusThermalRestart t key pecBad r => Sys2Proof.Machine.execSmbusThermalRestart t key pecBad r s
  | .uartReceive t byte => Sys2Proof.Machine.execUartReceive t byte s
  | .headElection t => Sys2Proof.Machine.execHeadElection t s
  | .enumTick t => Sys2Proof.Machine.execEnumTick t s
  | .enum t m => Sys2Proof.Machine.execEnum t m s
  | .enumdone t m => Sys2Proof.Machine.execEnumdone t m s
  | .pingTick t => Sys2Proof.Machine.execPingTick t s
  | .ping t m turn => Sys2Proof.Machine.execPing t m turn s
  | .pong t m sub => Sys2Proof.Machine.execPong t m sub s
  | .timeTick t => Sys2Proof.Machine.execTimeTick t s
  | .time t m sub fwd => Sys2Proof.Machine.execTime t m sub fwd s
  | .timeTimeout t => Sys2Proof.Machine.execTimeTimeout t s
  | .wallTimeSet t => Sys2Proof.Machine.execWallTimeSet t s
  | .fsyncTick t => Sys2Proof.Machine.execFsyncTick t s
  | .fsync t m => Sys2Proof.Machine.execFsync t m s
  | .chainLaneChange t port up => Sys2Proof.Machine.execChainLaneChange t port up s
  | .coherentArm t => Sys2Proof.Machine.execCoherentArm t s
  | .armResend t => Sys2Proof.Machine.execArmResend t s
  | .arm t m => Sys2Proof.Machine.execArm t m s
  | .commitDecision t => Sys2Proof.Machine.execCommitDecision t s
  | .go t m => Sys2Proof.Machine.execGo t m s
  | .defer t m => Sys2Proof.Machine.execDefer t m s
  | .abort t m => Sys2Proof.Machine.execAbort t m s
  | .trig t m port => Sys2Proof.Machine.execTrig t m port s
  | .chainWakeSend t => Sys2Proof.Machine.execChainWakeSend t s
  | .wake t m port r => Sys2Proof.Machine.execWake t m port r s
  | .hb t role sel lockstep ready classX handover => Sys2Proof.Machine.execHb t role sel lockstep ready classX handover s
  | .hbSend t => Sys2Proof.Machine.execHbSend t s
  | .heartbeatLoss t => Sys2Proof.Machine.execHeartbeatLoss t s
  | .mark t c skew => Sys2Proof.Machine.execMark t c skew s
  | .id t imageId serial strap => Sys2Proof.Machine.execId t imageId serial strap s
  | .pend t c req crc sentAt => Sys2Proof.Machine.execPend t c req crc sentAt s
  | .crcrep t c seq gen pad => Sys2Proof.Machine.execCrcrep t c seq gen pad s
  | .map t c frame marked => Sys2Proof.Machine.execMap t c frame marked s
  | .chstate t c states lit => Sys2Proof.Machine.execChstate t c states lit s
  | .take t trigger xs => Sys2Proof.Machine.execTake t trigger xs s
  | .xfatal t code => Sys2Proof.Machine.execXfatal t code s
  | .transitLaneDrop t lane rx => Sys2Proof.Machine.execTransitLaneDrop t lane rx s
  | .handover t => Sys2Proof.Machine.execHandover t s
  | .takeoverSwitch t => Sys2Proof.Machine.execTakeoverSwitch t s
  | .selPeerChange t high => Sys2Proof.Machine.execSelPeerChange t high s
  | .roleTimeout t => Sys2Proof.Machine.execRoleTimeout t s
  | .selRetryTimeout t => Sys2Proof.Machine.execSelRetryTimeout t s
  | .loadWindow t load => Sys2Proof.Machine.execLoadWindow t load s
  | .watchdogExpiry t code => Sys2Proof.Machine.execWatchdogExpiry t code s
  | .observerBootDone t => Sys2Proof.Machine.execObserverBootDone t s
  | .observerFatalClear t => Sys2Proof.Machine.execObserverFatalClear t s
  | .layerFetchDone t c l => Sys2Proof.Machine.execLayerFetchDone t c l s
  | .railOutOfRegulation t rail value => Sys2Proof.Machine.execRailOutOfRegulation t rail value s
  | .pllRelock t j => Sys2Proof.Machine.execPllRelock t j s
  | .pcieLinkUp t speed width => Sys2Proof.Machine.execPcieLinkUp t speed width s
  | .pcieConfigWrite t w => Sys2Proof.Machine.execPcieConfigWrite t w s
  | .transitLinkUp t tx rx => Sys2Proof.Machine.execTransitLinkUp t tx rx s
  | .nvmeLinkDown t => Sys2Proof.Machine.execNvmeLinkDown t s
  | .nvmeCommandComplete t id ok => Sys2Proof.Machine.execNvmeCommandComplete t id ok s
  | .dpAuxTransaction t j edid off len => Sys2Proof.Machine.execDpAuxTransaction t j edid off len s
  | .pwmPeriod t c j => Sys2Proof.Machine.execPwmPeriod t c j s
  | .flashEraseDone t firmware => Sys2Proof.Machine.execFlashEraseDone t firmware s

end Sys2Proof.Machine
end

