-- ==== Sys2Proof/Safety.lean ====
section
/-! DEFINITION. What counts as a sound state and a safe run: the invariant that every step keeps, the parts of the state that a frame
speaks of, and runs without a fault. -/

namespace Sys2Proof.Machine

/-- The register file is canonical: every listed value fits its field, differs from the field's reset value, and is listed once. -/
def RegsOk (l : List RegCell) : Prop :=
  (∀ x ∈ l, x.val < 2 ^ x.fld.info.width ∧ x.val ≠ resetOf x.fld x.inst) ∧ l.Pairwise fun x y => ¬ (x.fld = y.fld ∧ x.inst = y.inst)

/-- The error queue holds at most 256 reports, at most 240 of them of classes other than U, and the X register at most 4 (R329, R330);
the reports that wait in their units are of class U. -/
def LogOk (l : Logbook) : Prop :=
  l.queue.length ≤ 256 ∧ State.sharedUsed l.queue ≤ 240 ∧ l.xreg.length ≤ 4 ∧ ∀ r ∈ l.upend, r.code / 4096 = 4

/-- The invariant of the block: memories and register file in canonical form, the error queue within its bounds. -/
structure Good (s : State) : Prop where
  hbm : Memory.wf s.hbm = true
  plate : Memory.wf s.plate = true
  raw : Memory.wf s.raw = true
  regs : RegsOk s.regs
  log : LogOk s.log

/-- The parts of the state that a command's frame speaks of: a register block of R438, the status words, and each field of State beside
the queue, the clock, the device's constants and what the last command returned. -/
inductive Part
  | reg (b : Block)
  | status
  | shadow | rdLatch | wrHold | heldLive | insts | hbm | plate | raw | cfg | pic | chr | tri | light | hel | dp | mem | trn | eph | alm | log | arc | pwr | host | chn | par | obs | heldPermit | stopped | retries
  deriving DecidableEq, Repr

/-- The part a register field belongs to. -/
@[reducible] def Fld.part : Fld → Part
  | .glb _ => .reg .glb
  | .eph _ => .reg .eph
  | .pwr _ => .reg .pwr
  | .alm _ => .reg .alm
  | .log _ => .reg .log
  | .pci _ => .reg .pci
  | .dpr _ => .reg .dpr
  | .arc _ => .reg .arc
  | .chn _ => .reg .chn
  | .par _ => .reg .par
  | .frs _ => .reg .frs
  | .hbm _ => .reg .hbm
  | .pix _ => .reg .pix
  | .chr _ => .reg .chr
  | .tri _ => .reg .tri
  | .lsr _ => .reg .lsr
  | .hel _ => .reg .hel
  | .pln _ => .reg .pln
  | .geo _ => .reg .geo
  | .plt _ => .reg .plt
  | .trn _ => .reg .trn
  | .obs _ => .reg .obs
  | .st _ _ => .status

/-- Two states agree on a part; on registers, by what they read. -/
def SameOn (p : Part) (s t : State) : Prop :=
  match p with
  | .reg b => ∀ f i, f.part = .reg b → t.rd f i = s.rd f i
  | .status => ∀ f i, f.part = .status → t.rd f i = s.rd f i
  | .shadow => t.shadow = s.shadow
  | .rdLatch => t.rdLatch = s.rdLatch
  | .wrHold => t.wrHold = s.wrHold
  | .heldLive => t.heldLive = s.heldLive
  | .insts => t.insts = s.insts
  | .hbm => t.hbm = s.hbm
  | .plate => t.plate = s.plate
  | .raw => t.raw = s.raw
  | .cfg => t.cfg = s.cfg
  | .pic => t.pic = s.pic
  | .chr => t.chr = s.chr
  | .tri => t.tri = s.tri
  | .light => t.light = s.light
  | .hel => t.hel = s.hel
  | .dp => t.dp = s.dp
  | .mem => t.mem = s.mem
  | .trn => t.trn = s.trn
  | .eph => t.eph = s.eph
  | .alm => t.alm = s.alm
  | .log => t.log = s.log
  | .arc => t.arc = s.arc
  | .pwr => t.pwr = s.pwr
  | .host => t.host = s.host
  | .chn => t.chn = s.chn
  | .par => t.par = s.par
  | .obs => t.obs = s.obs
  | .heldPermit => t.heldPermit = s.heldPermit
  | .stopped => t.stopped = s.stopped
  | .retries => t.retries = s.retries

/-- Every LEN of a cluster is low. -/
def State.lensAllLow (s : State) (c : Fin 4) : Prop := ∀ k : Fin 6, s.light[c].chans[k].len = false

/-- A step that ends in a next state. -/
def Runs (s t : State) : Prop := step s = .next t

/-- A step neither faults nor is refused. -/
def SafeStep (s : State) : Prop := ∃ t, Runs s t

end Sys2Proof.Machine
end

