-- ==== Sys2Proof/Certificates/Slice0/Obligations.lean ====
section
/-! DEFINITION. The statements for the provers, in the order of OBLIGATIONS.json, with the few definitions they use. -/

open Sys2Proof Sys2Proof.Machine

/-- A step runs the command at the front of the queue. For every command c and state s, the step of s with c at the front of its queue is
exec of c on s, whose queue is then the rest. That commands wait in a queue is the model's choice (log entry 4). -/
def Obligations.StepRunsFront : Prop :=
  ∀ (c : Instr) (s : State), step { s with pending := c :: s.pending } = exec c s

/-- On an empty queue the block idles. A state whose queue is empty steps to itself. This is the model's choice (log entry 4). -/
def Obligations.IdleStep : Prop :=
  ∀ s : State, s.pending = [] → step s = .next s

/-- The reset state is sound. At reset the memories and the register file are in canonical form and the error queue is within its bounds.
That an unlisted byte reads 0 is the model's choice (log entry 2). -/
def Obligations.GoodAtReset : Prop :=
  Good State.reset

/-- Every step keeps the block sound. From every sound state, every step that answers a next state answers a sound one: HBM, the plate
store and the Almanac's raw area keep their canonical form, every listed register value fits its field, differs from its reset value and
is listed once, the error queue holds at most 256 reports of which at most 240 are not of class U, the X register holds at most 4, and a
report that waits in its unit is of class U (R329, R330). The canonical forms are the model's choice (log entries 2 and 85). -/
def Obligations.GoodKept : Prop :=
  ∀ s t : State, Good s → step s = .next t → Good t

/-- A step takes one command, turns no clock back and changes no fuse. Every step that answers a next state leaves the queue without its
front command and otherwise as it was, never turns time back, and leaves the device's constants (fuses, straps, trims, tags of the factory
half) alone. The queue is the model's choice (log entry 4). -/
def Obligations.StepConsumesOne : Prop :=
  ∀ s t : State, step s = .next t → t.pending = s.pending.tail ∧ s.now ≤ t.now ∧ t.dev = s.dev

/-- At reset every register reads its reset value. At reset every instance of every register field reads the value of its Reset column
(R442), and 0 where the column names the ephemeris, the Almanac, calibration, a fuse, a strap or a random source, which is the model's
choice (log entry 1). -/
def Obligations.ResetRegisters : Prop :=
  ∀ (f : Fld) (i : Nat), State.reset.rd f i = resetOf f i

/-- A BAR0 access that is not an aligned 32-bit one is counted and unsupported. Outside D3hot, an access to BAR0 whose address is not a
multiple of 4 or whose length is not 4 bytes completes as Unsupported Request and adds one to BADACC, which saturates (R377); no other
register changes. -/
def Obligations.BadAccessCounted : Prop :=
  ∀ (t addr len : Nat) (write : Bool) (s : State), s.host.d3hot = false → ¬ (addr % 4 = 0 ∧ len = 4) →
    ∃ r, exec (.bar0BadAccess t addr len write) s = .next r ∧ r.completion = ⟨.ur, []⟩
      ∧ r.rd (.pci .errBadacc) 0 = satN 8 (s.rd (.pci .errBadacc) 0 + 1)
      ∧ ∀ (f : Fld) (i : Nat), ¬ (f = .pci .errBadacc ∧ i = 0) → r.rd f i = s.rd f i

/-- The fields of the apply-error record (R444). -/
def applyErrFields : List Fld :=
  [.glb .applyErrAddr, .glb .applyErrCause, .glb .applyErrSrc, .glb .applyErrValid, .glb .applyErrLastAddr, .glb .applyErrLastCause,
    .glb .applyErrLastSrc, .glb .applyErrCntCount, .glb .applyErrCntOvf]

/-- APPLY_ERR_CLEAR clears the apply-error record. APPLY_ERR_CLEAR leaves VALID, the first record, the last record and the count at 0 and
changes no other register and no byte of memory. That it clears the last record and the count too is the model's choice (log entry 33). -/
def Obligations.ApplyErrCleared : Prop :=
  ∀ (t : Nat) (s : State), ∃ r, exec (.applyErrClear t) s = .next r
      ∧ (∀ f, f ∈ applyErrFields → r.rd f 0 = 0)
      ∧ (∀ (f : Fld) (i : Nat), ¬ (f ∈ applyErrFields ∧ i = 0) → r.rd f i = s.rd f i)
      ∧ r.hbm = s.hbm ∧ r.plate = s.plate ∧ r.raw = s.raw

/-- CNTCLR clears a unit's counters. CNTCLR of a unit leaves its ERRCNT at 0 and every counter that the unit's chapter clears with it at
0, and changes no other register (R16). -/
def Obligations.UnitCountersCleared : Prop :=
  ∀ (t : Nat) (u : UType) (i : Nat) (s : State), ∃ r, exec (.cntclr t u i) s = .next r
      ∧ r.rd (.st u .errcnt) i = 0
      ∧ (∀ x ∈ clearedCounters u i, r.rd x.1 x.2 = 0)
      ∧ ∀ (f : Fld) (j : Nat), ¬ (f = .st u .errcnt ∧ j = i) → (f, j) ∉ clearedCounters u i → r.rd f j = s.rd f j

/-- Clearing FATAL clears the unit's bit alone. Clearing FATAL of a unit clears that bit; of a unit other than the Observer no other
register changes, but for OPENLOOP of a slot, which follows its conditions (R16, R227). -/
def Obligations.FatalCleared : Prop :=
  ∀ (t : Nat) (u : UType) (i : Nat) (s : State), ∃ r, exec (.fatalClear t u i) s = .next r
      ∧ r.rd (.st u .fatal) i = 0
      ∧ (u ≠ .obs → ∀ (f : Fld) (j : Nat), ¬ (f = .st u .fatal ∧ j = i) → (u = .slot → f ≠ .hel .slotStatOpenloop) → r.rd f j = s.rd f j)

/-- A counter has gone up by one; it saturates at its width. -/
def Bumped (s r : State) (f : Fld) (i : Nat) : Prop := r.rd f i = satN f.info.width (s.rd f i + 1)

/-- No register but those named has changed. -/
def OnlyRegs (s r : State) (d : List (Fld × Nat)) : Prop := ∀ (f : Fld) (i : Nat), (f, i) ∉ d → r.rd f i = s.rd f i

/-- A register that a report may change (R16 to R18, R152, R329 to R335): the status words, the Logbook's registers and the wake cause of
held picture. -/
def eventFld : Fld → Bool
  | .st _ _ | .log _ | .chr .heldWake => true
  | _ => false

/-- No register but those named, and those that a report changes, has changed. -/
def OnlyRegsAndEvents (s r : State) (d : List (Fld × Nat)) : Prop :=
  ∀ (f : Fld) (i : Nat), (f, i) ∉ d → eventFld f = false → r.rd f i = s.rd f i

/-- A unit has raised an event and no other since (R16): its last class is the event's, and its error count has gone up. A unit of a
cluster that is fused off raises none (R34). -/
def Raised (s r : State) (u : UType) (i code : Nat) : Prop :=
  s.fusedOff u i = false → r.rd (.st u .lastclass) i = code / 4096 ∧ Bumped s r (.st u .errcnt) i

/-- How a report of class A or D takes its place in the error queue (R329, R330): it is merged into the queued report of its path and code, whose TIME
and DATA stay, or else stands at the end, where an entry is free for it. -/
def Enqueued (s r : State) (path code time : Nat) (data : List Nat) : Prop :=
  match s.log.queue.findIdx? fun q => q.path == path && q.code == code && !q.summary with
  | some i => r.log.queue = s.log.queue.modify i fun q => { q with count := min 255 (q.count + 1) }
  | none => State.sharedUsed s.log.queue < 240 → s.log.queue.length < 256 →
      ∃ l, r.log.queue = s.log.queue ++ [⟨time, code, path, data, 1, false, false, l⟩]

/-- The bytes of HBM, the plate store and the Almanac's raw area are as before. -/
def SameMemory (s r : State) : Prop := r.hbm = s.hbm ∧ r.plate = s.plate ∧ r.raw = s.raw

/-- An HBM address lies in a bit plane of a cluster (R125): of a frame, a primary and a bit. -/
def InPlane (s : State) (c : Fin 4) (x : Nat) : Prop :=
  ∃ n p j, n < 3 ∧ p < 3 ∧ j < 16 ∧ s.planeAddr c n p j 0 % hbmEnd ≤ x ∧ x < s.planeAddr c n p j 0 % hbmEnd + s.cfg[c].h * (s.cfg[c].w / 8)

/-- No byte of memory has changed but those of the bit planes of some clusters, whose frame has been formed anew (R80, R125). -/
def OnlyPlanes (s r : State) (cs : List (Fin 4)) : Prop :=
  r.plate = s.plate ∧ r.raw = s.raw ∧ ∀ x, (∀ c ∈ cs, ¬ InPlane s c x) → cellGet r.hbm x = cellGet s.hbm x

/-- The registers that a request to HBM may change: the power states and frequency sets of the pseudo-channels it wakes (R277, R278, R281), and
the latency counters of its port of a region (R273). -/
def requestRegs (port : Nat) : List (Fld × Nat) :=
  ((List.range 16).flatMap fun i => [(.hbm .pcStatePwr, i), (.hbm .pcStateSet, i)])
    ++ ((List.range 8).flatMap fun i => [(.hbm .fcCur, i), (.hbm .fcCount, i)]) ++ [(.hbm .qosStatMaxlat, port), (.hbm .qosStatMiss, port)]

/-- Every retry of the die-to-die link is counted. A retry increments the error counter of the receiving die-to-die unit, which saturates
(R26). When 17 or more lie within one millisecond, the unit raises a class D event, so that its LASTCLASS is 2 and its ERRCNT goes up once
more, and the count of retries begins anew, which is the model's choice (log entry 135). HBM, the plate store, the raw area and every
register outside status words, Logbook and chronograph are as before. -/
def Obligations.D2dRetryCounted : Prop :=
  ∀ (t : Nat) (d : Fin 2) (lane : Nat) (s : State),
    let recent := (s.retries[d].filter fun x => max s.now t < x + msCclk 1).length + 1
    ∃ r, exec (.d2dCrcRetry t d lane) s = .next r
      ∧ (recent ≤ 16 → r.rd (.st .d2d .errcnt) d = satN 16 (s.rd (.st .d2d .errcnt) d + 1)
          ∧ ∀ (f : Fld) (i : Nat), ¬ (f = .st .d2d .errcnt ∧ i = d.val) → r.rd f i = s.rd f i)
      ∧ (16 < recent → r.rd (.st .d2d .errcnt) d = satN 16 (satN 16 (s.rd (.st .d2d .errcnt) d + 1) + 1)
          ∧ r.rd (.st .d2d .lastclass) d = 2 ∧ r.retries[d] = [])
      ∧ SameMemory s r
      ∧ ∀ (f : Fld) (i : Nat), f.part ≠ .status → f.part ≠ .reg .log → f.part ≠ .reg .chr → r.rd f i = s.rd f i

/-- A read of a low word latches the high word. Outside D3hot, a read of the low word of a wide value, with no latched word at its
address, returns the word that stands there and latches the high word as it stands at that instant for the next read of it (R10). -/
def Obligations.WideLowLatched : Prop :=
  ∀ (t a : Nat) (s : State), a < bar0End → a % 4 = 0 → s.host.d3hot = false → State.wideLow a = true → (∀ x ∈ s.rdLatch, x.1 ≠ a) →
    ∃ r, exec (.wideLowRead t a) s = .next r
      ∧ r.completion = ⟨.ok, leBytes 4 ((s.advance t).peek a)⟩
      ∧ r.rdLatch.find? (fun x => x.1 == a + 4) = some (a + 4, (s.advance t).peek (a + 4))

/-- A latched high word is returned once. Outside D3hot, a read of an address whose word a read of the low word latched returns the
latched word, and the latch is gone; no register changes (R10). -/
def Obligations.LatchedHighRead : Prop :=
  ∀ (t a v : Nat) (s : State), a < bar0End → a % 4 = 0 → s.host.d3hot = false → (s.rdLatch.find? fun x => x.1 == a) = some (a, v) →
    ∃ r, exec (.wideLowRead t a) s = .next r ∧ r.completion = ⟨.ok, leBytes 4 v⟩
      ∧ (∀ x ∈ r.rdLatch, x.1 ≠ a) ∧ ∀ (f : Fld) (i : Nat), r.rd f i = s.rd f i

/-- A read of a word clears its RC fields. Outside D3hot, a read of a word of a present cluster or a global block that no latch serves
returns the word as it stands and leaves 0 in every RC field of it that reads whole in that word (R441); a field of another access code
keeps its value. -/
def Obligations.RcFieldsCleared : Prop :=
  ∀ (t a : Nat) (s : State), a < bar0End → a % 4 = 0 → s.host.d3hot = false → (∀ x ∈ s.rdLatch, x.1 ≠ a) →
    (∀ c, addrCluster a = some c → s.clusterOn c = true) →
    ∃ r, exec (.rcRead t a) s = .next r ∧ r.completion = ⟨.ok, leBytes 4 ((s.advance t).peek a)⟩
      ∧ (∀ x ∈ fieldsAt a, x.1.info.acc = .rc → x.1.part ≠ .reg .pix → (wordSlice x.1.info x.2.2).2.2 ≠ 0 → r.rd x.1 x.2.1 = 0)
      ∧ ∀ (f : Fld) (i : Nat), f.info.acc ≠ .rc → r.rd f i = s.rd f i

/-- The address that a command carries exists (R292, R377, R438); a command that carries none has nothing to check. In D3hot the endpoint
answers before the address counts (R379). -/
def AddressExists (s : State) : Instr → Prop
  | .registerWrite _ a _ | .wideLowRead _ a | .rcRead _ a => a < bar0End
  | .hostHbmWrite _ off data => s.host.d3hot = true ∨ ∃ a, s.bar2Addr off = some a ∧ a + data.bytes.length ≤ hbmEnd
  | .hostHbmRead _ off len _ => s.host.d3hot = true ∨ ∃ a, s.bar2Addr off = some a ∧ a + len ≤ hbmEnd
  | .bar4Write _ off data => s.host.d3hot = true ∨ off + data.bytes.length ≤ plateEnd
  | .bar4Read _ off len _ => s.host.d3hot = true ∨ off + len ≤ plateEnd
  | _ => True

/-- An access past BAR0 stops, and every command whose address exists completes. A register access at or past the 64 MiB of BAR0 (R438)
stops with the fault noSuchAddress, which is the model's choice (log entry 30). Every command whose address exists answers a next state,
whatever the state: an access to BAR0 below 64 MiB, one through BAR2 that lies in HBM, one through BAR4 that lies in the plate store
(R292, R377), and every command that carries no such address. In D3hot the accesses through BAR2 and BAR4 complete at any address (R379).
-/
def Obligations.AccessPastBar0 : Prop :=
  (∀ (t addr : Nat) (data : Word) (s : State), bar0End ≤ addr →
    exec (.registerWrite t addr data) s = .fault (.noSuchAddress addr) ∧ exec (.rcRead t addr) s = .fault (.noSuchAddress addr)
      ∧ exec (.wideLowRead t addr) s = .fault (.noSuchAddress addr))
  ∧ (∀ (c : Instr) (s : State), AddressExists s c → ∃ r, exec c s = .next r)

/-- Fences, freeze requests and the power states of pseudo-channels. FENCE_GO sets BUSY, clears DONE and covers the writes discarded
before it (R276). FENCE_DONE of a busy fence clears BUSY, sets DONE and leaves in LOST whether a covered write was discarded.
FREEZE_REQUEST sets FREEZE of its region (R282). PC_POWER_DOWN of an active pseudo-channel that has had no request for IDLE, whose plane
readers have slack enough and on which no burst gathers, in a region that is not stopped, enters power-down, and PC_POWER_DOWN_EXIT leaves
it (R277). SELF_REFRESH_ENTRY of a channel that has had no request for SRIDLE and on which no burst gathers, whose region is not stopped
and whose enabled clusters are all held, puts both its pseudo-channels into self-refresh (R278). No other register and no byte of memory
changes. -/
def Obligations.FenceAndPowerStates : Prop :=
  (∀ (t : Nat) (s : State), ∃ r, exec (.fenceGo t) s = .next r ∧ r.rd (.hbm .fenceBusy) 0 = 1 ∧ r.rd (.hbm .fenceDone) 0 = 0
      ∧ r.mem = { s.mem with covered := s.mem.covered || s.mem.dropped, dropped := false }
      ∧ OnlyRegs s r [(.hbm .fenceBusy, 0), (.hbm .fenceDone, 0)] ∧ SameMemory s r)
  ∧ (∀ (t : Nat) (s : State), s.on (.hbm .fenceBusy) 0 = true → ∃ r, exec (.fenceDone t) s = .next r ∧ r.rd (.hbm .fenceBusy) 0 = 0
      ∧ r.rd (.hbm .fenceDone) 0 = 1 ∧ r.rd (.hbm .fenceLost) 0 = b2n s.mem.covered ∧ r.mem = { s.mem with covered := false }
      ∧ OnlyRegs s r [(.hbm .fenceBusy, 0), (.hbm .fenceDone, 0), (.hbm .fenceLost, 0)] ∧ SameMemory s r)
  ∧ (∀ (t : Nat) (i : Fin 2) (s : State), ∃ r, exec (.freezeRequest t i) s = .next r ∧ r.rd (.hbm .rgnCtrlFreeze) i = 1
      ∧ OnlyRegs s r [(.hbm .rgnCtrlFreeze, i)] ∧ SameMemory s r)
  ∧ (∀ (t : Nat) (p : Fin 16) (s : State), s.rd (.hbm .pcStatePwr) p = 0 → s.regionStopped (p.val / 8) = false →
      s.gathering (p.val / 2) = false → s.mem.lastReq[p] + 16 * s.rd (.hbm .pwrIdle) (p.val / 8) ≤ max s.now t → (s.advance t).slackOk p = true →
      ∃ r, exec (.pcPowerDown t p) s = .next r ∧ r.rd (.hbm .pcStatePwr) p = 1 ∧ OnlyRegs s r [(.hbm .pcStatePwr, p)] ∧ SameMemory s r)
  ∧ (∀ (t : Nat) (p : Fin 16) (s : State), s.rd (.hbm .pcStatePwr) p = 1 →
      ∃ r, exec (.pcPowerDownExit t p) s = .next r ∧ r.rd (.hbm .pcStatePwr) p = 0 ∧ OnlyRegs s r [(.hbm .pcStatePwr, p)] ∧ SameMemory s r)
  ∧ (∀ (t : Nat) (ch : Fin 8) (s : State), (s.regionClusters (Fin.ofNat 2 (ch.val / 4))).all (fun c => s.on (.chr .heldHeld) c) = true →
      s.regionStopped (Fin.ofNat 2 (ch.val / 4)) = false → s.gathering ch.val = false →
      (∀ p : Fin 16, p.val / 2 = ch.val → s.mem.lastReq[p] + usCclk (s.rd (.hbm .pwrSridle) (ch.val / 4)) ≤ max s.now t) →
      ∃ r, exec (.selfRefreshEntry t ch) s = .next r ∧ r.rd (.hbm .pcStatePwr) (2 * ch.val) = 2 ∧ r.rd (.hbm .pcStatePwr) (2 * ch.val + 1) = 2
      ∧ OnlyRegs s r [(.hbm .pcStatePwr, 2 * ch.val), (.hbm .pcStatePwr, 2 * ch.val + 1)] ∧ SameMemory s r)

/-- Refreshes and frequency changes. HBM_REFRESH outside self-refresh postpones behind an urgency-3 request up to eight intervals and
otherwise issues what waits (R274); a staged result for the pseudo-channel of a region that serves is applied at a refresh that is issued
(R302). FREQ_CHANGE_REQUEST starts a permitted change on an idle, elastic channel of a region that serves, and refuses one on a channel
that is not elastic, with REFUSED and event 0x1605 (R279 to R281). FREQ_CHANGE_DONE of a change that the fetch of no layer holds up puts
the new set in force, counts it and raises 0x1604. -/
def Obligations.RefreshAndFrequency : Prop :=
  (∀ (t : Nat) (p : Fin 16) (s : State), s.rd (.hbm .pcStatePwr) p ≠ 2 → s.mem.postponed[p] < 8 → ∃ r, exec (.hbmRefresh t p true) s = .next r
      ∧ r.mem = { s.mem with postponed := s.mem.postponed.set p (s.mem.postponed[p] + 1) } ∧ OnlyRegs s r [] ∧ SameMemory s r)
  ∧ (∀ (t : Nat) (p : Fin 16) (urgent : Bool) (s : State), s.rd (.hbm .pcStatePwr) p ≠ 2 → (urgent = true → 8 ≤ s.mem.postponed[p]) →
      (∀ e : Fin 6, ∀ x, s.trn.engines[e].staged = some x → ¬ (x.target ≤ 1 ∧ x.idx = p.val)) → ∃ r, exec (.hbmRefresh t p urgent) s = .next r
      ∧ r.mem = { s.mem with postponed := s.mem.postponed.set p 0 } ∧ OnlyRegs s r [] ∧ SameMemory s r)
  ∧ (∀ (t : Nat) (p : Fin 16) (urgent : Bool) (e : Fin 6) (x : Staged) (s : State), s.rd (.hbm .pcStatePwr) p ≠ 2 →
      (urgent = true → 8 ≤ s.mem.postponed[p]) → e.val < 4 → s.trn.engines[e].staged = some x → x.target ≤ 1 → x.idx = p.val →
      s.regionStopped (p.val / 8) = false → ∃ r, exec (.hbmRefresh t p urgent) s = .next r
      ∧ r.mem.postponed[p] = 0 ∧ r.trn.engines[e].staged = none ∧ r.rd (.trn .engStatState) e = 5 ∧ SameMemory s r)
  ∧ (∀ (t : Nat) (ch : Fin 8) (set : Fin 4) (s : State), s.on (.hbm .fcElastic) ch = true → set.val < 3 → set.val ≤ s.rd (.hbm .fcMinset) ch →
      (s.rd (.hbm .rgnStatState) (ch.val / 4) = 0 ∨ s.rd (.hbm .rgnStatState) (ch.val / 4) = 3) → s.on (.hbm .fcBusy) ch = false →
      s.rd (.hbm .pcStatePwr) (2 * ch.val) ≠ 2 → s.gathering ch = false →
      ∃ r, exec (.freqChangeRequest t ch set) s = .next r ∧ r.rd (.hbm .fcReqset) ch = set.val ∧ r.rd (.hbm .fcRefused) ch = 0
      ∧ r.rd (.hbm .fcBusy) ch = 1 ∧ r.rd (.hbm .fcFcPending) ch = 0
      ∧ OnlyRegs s r [(.hbm .fcReqset, ch), (.hbm .fcRefused, ch), (.hbm .fcBusy, ch), (.hbm .fcFcPending, ch)] ∧ SameMemory s r)
  ∧ (∀ (t : Nat) (ch : Fin 8) (set : Fin 4) (s : State), s.on (.hbm .fcElastic) ch = false →
      ∃ r, exec (.freqChangeRequest t ch set) s = .next r ∧ r.rd (.hbm .fcRefused) ch = 1 ∧ Raised s r .hbm (ch.val / 4) 0x1605 ∧ SameMemory s r)
  ∧ (∀ (t set from' : Nat) (ch : Fin 8) (s : State), s.mem.fcBusy.find? (fun x => x.1 == ch.val) = some (ch.val, set, from') → set < 4 →
      s.mem.fcNext.find? (fun x => x.1 == ch.val) = none → (s.advance t).fcBlocked ch = false →
      ∃ r, exec (.freqChangeDone t ch) s = .next r ∧ r.rd (.hbm .fcCur) ch = set
      ∧ Bumped s r (.hbm .fcCount) ch ∧ r.rd (.hbm .fcBusy) ch = 0 ∧ r.rd (.hbm .pcStateSet) (2 * ch.val) = set
      ∧ r.rd (.hbm .pcStateSet) (2 * ch.val + 1) = set ∧ Raised s r .hbm (ch.val / 4) 0x1604 ∧ SameMemory s r)

/-- A BAR2 read returns the bytes of the stack. Outside D3hot, a read through BAR2 within one region, of a partition of a region that
serves, that meets no detection error, returns the bytes that stand there; one that meets an error is completed as poisoned and counts in
DETERR (R267 to R270, R283, R377). No byte of memory changes, but for the bit planes of frames that a freeze makes the module form anew
(R284). -/
def Obligations.HostHbmRead : Prop :=
  (∀ (t off len a lat : Nat) (p : Partition) (s : State), s.host.d3hot = false → s.bar2Addr off = some a → a + len ≤ hbmEnd →
    ¬ (a < 2 ^ 33 ∧ 2 ^ 33 < a + len) → s.partOf a = some p → s.regionStopped (State.regionAt a) = false → s.badBurst a len = none →
    ∃ r, exec (.hostHbmRead t off len ⟨none, lat⟩) s = .next r ∧ r.completion = ⟨.ok, cellLoad s.hbm a len⟩ ∧ SameMemory s r
      ∧ OnlyRegsAndEvents s r (requestRegs (8 * (State.regionAt a).val + 4)))
  ∧ (∀ (t off len a lat o : Nat) (p : Partition) (s : State), s.host.d3hot = false → s.bar2Addr off = some a → a + len ≤ hbmEnd →
    ¬ (a < 2 ^ 33 ∧ 2 ^ 33 < a + len) → s.partOf a = some p → s.regionStopped (State.regionAt a) = false → o < len →
    ∃ r, exec (.hostHbmRead t off len ⟨some o, lat⟩) s = .next r ∧ r.completion = ⟨.poisoned, cellLoad s.hbm a len⟩
      ∧ Bumped s r (.hbm .pcCntDeterr) (s.pcOf (a + o)) ∧ OnlyPlanes s r allClusters)

/-- A BAR2 write stores its bytes and no other. Outside D3hot, a write through BAR2 within one region, into a partition of a region that
serves, stores its bytes from its address upward; every byte of HBM outside them, the plate store and the raw area read as before, also
where the read of a partial burst fails (R267, R268, R377). -/
def Obligations.HostHbmWrite : Prop :=
  ∀ (t off a lat : Nat) (data : List Byte) (bad : Option Nat) (p : Partition) (s : State), s.host.d3hot = false → s.bar2Addr off = some a → a + data.length ≤ hbmEnd →
    ¬ (a < 2 ^ 33 ∧ 2 ^ 33 < a + data.length) → s.partOf a = some p → s.regionStopped (State.regionAt a) = false →
    ∃ r, exec (.hostHbmWrite t off ⟨data, bad, lat⟩) s = .next r ∧ r.completion = ⟨.ok, []⟩
      ∧ (∀ i, i < data.length → cellGet r.hbm (a + i) = data.getD i 0)
      ∧ (∀ x, ¬ (a ≤ x ∧ x < a + data.length) → cellGet r.hbm x = cellGet s.hbm x) ∧ r.plate = s.plate ∧ r.raw = s.raw

/-- An access to an address in no partition. Outside D3hot, a BAR2 read of an address in no partition returns all ones and a write there
is discarded; each is counted in HBM_UNMAPPED and raises event 0x1607, which is merged into a queued report of its path and code, and
otherwise takes a free entry of the error queue (R329, R330). -/
def Obligations.UnmappedAccess : Prop :=
  (∀ (t off len a lat : Nat) (bad : Option Nat) (s : State), s.host.d3hot = false → s.bar2Addr off = some a → a + len ≤ hbmEnd → ¬ (a < 2 ^ 33 ∧ 2 ^ 33 < a + len) →
      s.partOf a = none → ∃ r, exec (.hostHbmRead t off len ⟨bad, lat⟩) s = .next r ∧ r.completion = ⟨.ok, List.replicate len 0xFF⟩
      ∧ Bumped s r (.hbm .unmappedReads) (State.regionAt a) ∧ Raised s r .hbm (State.regionAt a) 0x1607
      ∧ Enqueued s r (pathOf .hbm (State.regionAt a) 0xFF) 0x1607 (s.advance t).wall (packData [(4, a / 4), (1, 0)])
      ∧ OnlyRegsAndEvents s r [(.hbm .unmappedReads, (State.regionAt a).val)] ∧ SameMemory s r)
  ∧ (∀ (t off a lat : Nat) (data : List Byte) (bad : Option Nat) (s : State), s.host.d3hot = false → s.bar2Addr off = some a → a + data.length ≤ hbmEnd →
      ¬ (a < 2 ^ 33 ∧ 2 ^ 33 < a + data.length) → data ≠ [] → s.partOf a = none →
      ∃ r, exec (.hostHbmWrite t off ⟨data, bad, lat⟩) s = .next r ∧ r.completion = ⟨.ok, []⟩
      ∧ Bumped s r (.hbm .unmappedWrites) (State.regionAt a) ∧ Raised s r .hbm (State.regionAt a) 0x1607
      ∧ Enqueued s r (pathOf .hbm (State.regionAt a) 0xFF) 0x1607 (s.advance t).wall (packData [(4, a / 4), (1, 1)])
      ∧ OnlyRegsAndEvents s r [(.hbm .unmappedWrites, (State.regionAt a).val)] ∧ SameMemory s r)

/-- BAR4 reads and writes of the plate store. Outside D3hot, a BAR4 read that meets no bad word returns the bytes of the plate store
(R293, R295). A BAR4 write stores exactly those of its bytes that lie in a host-plane fallback buffer of a present output, whether or not
a read of its read-modify-writes fails, and every other byte of the plate store, HBM and the raw area read as before. -/
def Obligations.PlateAccess : Prop :=
  (∀ (t off len : Nat) (s : State), s.host.d3hot = false → off + len ≤ plateEnd →
      (s.mem.badPlate.find? fun w => decide (off < 8 * w + 8) && decide (8 * w < off + len)) = none →
      ∃ r, exec (.bar4Read t off len none) s = .next r ∧ r.completion = ⟨.ok, (List.range len).map fun i => s.plateByte (off + i)⟩
      ∧ OnlyRegs s r [] ∧ SameMemory s r)
  ∧ (∀ (t off : Nat) (data : List Byte) (bad : Option Nat) (s : State), s.host.d3hot = false → off + data.length ≤ plateEnd →
      ∃ r, exec (.bar4Write t off ⟨data, bad⟩) s = .next r ∧ r.completion = ⟨.ok, []⟩
      ∧ (∀ i, i < data.length → (∃ c, s.inHostPlane c (off + i) = true) → cellGet r.plate (off + i) = data.getD i 0)
      ∧ (∀ x, ¬ (off ≤ x ∧ x < off + data.length ∧ ∃ c, s.inHostPlane c x = true) → cellGet r.plate x = cellGet s.plate x)
      ∧ r.hbm = s.hbm ∧ r.raw = s.raw)

/-- A region freezes. REGION_FREEZE in a region that is neither frozen, in recovery nor in FALLBACK takes state 1, records the cause (4
for a FREEZE that was written, else 1), clears FREEZE, TRIES and SNAP, holds every pseudo-channel of the region, captures the address and
the port, and raises event 0x2601 (R282 to R284); no byte of memory changes but in the bit planes of frames whose layer fetches it cuts
short (R284). FREEZE_SNAPSHOT_DONE without AUTORECOVER sets SNAP of a frozen region; RECOVER of a frozen region with SNAP starts recovery,
and its pseudo-channels enter state 2 (R290); neither changes a byte of memory. -/
def Obligations.FreezeTaken : Prop :=
  (∀ (t addr port path : Nat) (i : Fin 2) (pc : Fin 8) (s : State), (s.rd (.hbm .rgnStatState) i = 0 ∨ s.rd (.hbm .rgnStatState) i = 3) → port < 8 →
      ∃ r, exec (.regionFreeze t i pc addr port path) s = .next r ∧ r.rd (.hbm .rgnStatState) i = 1
      ∧ r.rd (.hbm .rgnStatCause) i = (if s.on (.hbm .rgnCtrlFreeze) i then 4 else 1) ∧ r.rd (.hbm .rgnCtrlFreeze) i = 0
      ∧ r.rd (.hbm .rgnStatTries) i = 0 ∧ r.rd (.hbm .rgnStatSnap) i = 0
      ∧ (∀ j, j < 8 → r.rd (.hbm .pcStatePwr) (8 * i.val + j) = 3)
      ∧ r.rd (.hbm .frzAddrAddr) i = addr % hbmEnd ∧ r.rd (.hbm .frzInfoPort) i = port
      ∧ Raised s r .hbm i 0x2601 ∧ OnlyPlanes s r allClusters)
  ∧ (∀ (t : Nat) (i : Fin 2) (s : State), s.rd (.hbm .rgnStatState) i = 1 → s.duty 5 = true → s.on (.hbm .rgnCtrlAutorecover) i = false →
      ∃ r, exec (.freezeSnapshotDone t i) s = .next r ∧ r.rd (.hbm .rgnStatSnap) i = 1 ∧ OnlyRegs s r [(.hbm .rgnStatSnap, i)] ∧ SameMemory s r)
  ∧ (∀ (t : Nat) (i : Fin 2) (s : State), s.rd (.hbm .rgnStatState) i = 1 → s.on (.hbm .rgnStatSnap) i = true →
      ∃ r, exec (.recover t i) s = .next r ∧ r.rd (.hbm .rgnStatState) i = 2 ∧ r.rd (.hbm .rgnCtrlRecover) i = 0
      ∧ (∀ j, j < 8 → r.rd (.hbm .pcStatePwr) (8 * i.val + j) = 2) ∧ SameMemory s r)

/-- Recovery of a region ends. A recovery that trains every pseudo-channel makes the region READY, or NORMAL where it serves no enabled
cluster, releases its pseudo-channels and raises event 0x1602; one in which a pseudo-channel fails for which no profile stands leaves
FALLBACK with event 0x2603 (R290, R291). One that fails returns to FROZEN, counts a try and shows the condition that ended it, and the
third leaves FALLBACK with event 0x2603 (R290). -/
def Obligations.RecoveryEnds : Prop :=
  (∀ (t ms : Nat) (i : Fin 2) (taps : List (Nat × Nat × Nat)) (meshBad : Bool) (s : State), s.rd (.hbm .rgnStatState) i = 2 →
      ∃ r, exec (.recoveryDone t i (.trained 0 ms taps meshBad)) s = .next r
      ∧ r.rd (.hbm .rgnStatState) i = (if s.regionClusters i = [] then 0 else 3)
      ∧ (∀ j, j < 8 → r.rd (.hbm .pcStatePwr) (8 * i.val + j) = 0) ∧ Raised s r .hbm i 0x1602 ∧ SameMemory s r)
  ∧ (∀ (t ms : Nat) (i : Fin 2) (k : Fin 8) (taps : List (Nat × Nat × Nat)) (meshBad : Bool) (s : State), s.rd (.hbm .rgnStatState) i = 2 →
      (∀ x ∈ (s.mem.regions[i]).profiles, x.failed ≠ k.val) → ∃ r, exec (.recoveryDone t i (.trained (2 ^ k.val) ms taps meshBad)) s = .next r
      ∧ r.rd (.hbm .rgnStatState) i = 4 ∧ Raised s r .hbm i 0x2603 ∧ SameMemory s r)
  ∧ (∀ (t addr port path : Nat) (i : Fin 2) (cause pc : Fin 8) (s : State), s.rd (.hbm .rgnStatState) i = 2 → s.rd (.hbm .rgnStatTries) i < 2 →
      ∃ r, exec (.recoveryDone t i (.failed cause pc addr port path)) s = .next r ∧ r.rd (.hbm .rgnStatState) i = 1
      ∧ r.rd (.hbm .rgnStatCause) i = cause.val ∧ r.rd (.hbm .frzAddrAddr) i = addr % hbmEnd
      ∧ r.rd (.hbm .rgnStatTries) i = s.rd (.hbm .rgnStatTries) i + 1 ∧ SameMemory s r)
  ∧ (∀ (t addr port path : Nat) (i : Fin 2) (cause pc : Fin 8) (s : State), s.rd (.hbm .rgnStatState) i = 2 → s.rd (.hbm .rgnStatTries) i = 2 →
      ∃ r, exec (.recoveryDone t i (.failed cause pc addr port path)) s = .next r ∧ r.rd (.hbm .rgnStatState) i = 4
      ∧ r.rd (.hbm .rgnStatCause) i = cause.val ∧ r.rd (.hbm .frzAddrAddr) i = addr % hbmEnd ∧ Raised s r .hbm i 0x2603 ∧ SameMemory s r)

/-- Memory errors are counted where they are found. A detection error counts in DETERR of the pseudo-channel it lies on, whoever reads
(R268, R269). A write parity error counts in WPAR; one whose re-issue fails too counts twice and poisons its burst. A layer read error in
an open window of an output that forms its frame from HBM counts in DATAERR of the layer and in DETERR of the pseudo-channel (R88, R269),
and a late fetch in LATE with event 0x2205 (R89). A scrub read that errs counts in the lap of its store (R296). No byte of memory changes,
but for the bit planes of frames that are formed anew (R88, R89, R284). -/
def Obligations.MemoryErrorsCounted : Prop :=
  (∀ (t addr : Nat) (rd : HbmReader) (s : State), ∃ r, exec (.hbmDetectionError t addr rd) s = .next r
      ∧ Bumped s r (.hbm .pcCntDeterr) (s.pcOf (addr % hbmEnd)) ∧ OnlyPlanes s r allClusters)
  ∧ (∀ (t addr : Nat) (s : State), ∃ r, exec (.hbmWriteParityError t addr false) s = .next r
      ∧ Bumped s r (.hbm .pcCntWpar) (s.pcOf (addr % hbmEnd)) ∧ OnlyRegs s r [(.hbm .pcCntWpar, s.pcOf (addr % hbmEnd))] ∧ SameMemory s r)
  ∧ (∀ (t addr : Nat) (s : State), ∃ r, exec (.hbmWriteParityError t addr true) s = .next r
      ∧ r.rd (.hbm .pcCntWpar) (s.pcOf (addr % hbmEnd)) = satN 16 (satN 16 (s.rd (.hbm .pcCntWpar) (s.pcOf (addr % hbmEnd)) + 1) + 1)
      ∧ addr % hbmEnd / 32 ∈ r.mem.poisoned ∧ (∀ b ∈ s.mem.poisoned, b ∈ r.mem.poisoned) ∧ SameMemory s r)
  ∧ (∀ (t addr : Nat) (c : Fin 4) (l : Fin 8) (s : State), s.pic[c].layers[l].window = true → s.composing c = true → s.mem.fallback[c] = false →
      ∃ r, exec (.layerReadError t c l addr) s = .next r ∧ Bumped s r (.pix .layerErrDataerr) (layerInst c l)
      ∧ Bumped s r (.hbm .pcCntDeterr) (s.pcOf (addr % hbmEnd)) ∧ OnlyPlanes s r allClusters)
  ∧ (∀ (t y0 y1 lat : Nat) (c : Fin 4) (l : Fin 8) (s : State), s.pic[c].layers[l].window = true → s.composing c = true → s.mem.fallback[c] = false → s.clusterOn c = true →
      ∃ r, exec (.fetchLate t c l y0 ⟨y1, lat⟩) s = .next r ∧ Bumped s r (.pix .layerErrLate) (layerInst c l)
      ∧ r.rd (.st .layer .lastclass) (layerInst c l) = 2 ∧ OnlyPlanes s r (s.withClones c))
  ∧ (∀ (t place : Nat) (s : State), 0 < s.rd (.hbm .scrubCfgPltm) 0 → s.domOn 49 = true → s.duty 2 = true → s.rd (.pwr .limitAct) 0 = 0 →
      s.halted .scrub 0 = false → ∃ r, exec (.scrubRead t .plate place true false false) s = .next r ∧ r.mem.laps[1].errs = s.mem.laps[1].errs + 1
      ∧ r.mem.laps[1].unit = s.mem.laps[1].unit + 1 ∧ Bumped s r (.hbm .scrubStatPlterr) 0 ∧ SameMemory s r)
  ∧ (∀ (t place : Nat) (p : Partition) (s : State), 0 < s.rd (.hbm .scrubCfgHbmh) 0 → s.domOn 49 = true → s.duty 2 = true → s.rd (.pwr .limitAct) 0 = 0 →
      s.rd (.hbm .pcStatePwr) (s.pcOf (place % hbmEnd)) = 0 → s.partOf (place % hbmEnd) = some p → p.kind ≠ 0 →
      s.halted .scrub 0 = false → ∃ r, exec (.scrubRead t .hbm place true false false) s = .next r ∧ r.mem.laps[0].errs = s.mem.laps[0].errs + 1
      ∧ r.mem.laps[0].unit = s.mem.laps[0].unit + 1 ∧ Bumped s r (.hbm .scrubStatHbmerr) 0
      ∧ Bumped s r (.hbm .pcCntScrub) (s.pcOf (place % hbmEnd)) ∧ SameMemory s r)
  ∧ (∀ (t place : Nat) (copyB : Bool) (s : State), 0 < s.rd (.hbm .scrubCfgAlmh) 0 → s.domOn 49 = true → s.duty 2 = true → s.rd (.pwr .limitAct) 0 = 0 →
      s.halted .scrub 0 = false → s.log.saving = none → ∃ r, exec (.scrubRead t .almanac place true copyB false) s = .next r ∧ r.mem.laps[2].errs = s.mem.laps[2].errs + 1
      ∧ r.mem.laps[2].unit = s.mem.laps[2].unit + 1 ∧ Bumped s r (.hbm .scrubStatAlmerr) 0 ∧ SameMemory s r)

/-- A DisplayPort input trains, is lost, or changes self-refresh. DP_LINK_TRAINING with HPD high and the receiver powered and not stopped
sets UP and the rate, or, where the rate does not meet the timing, loses the input with cause 1, and where lanes or size lie outside the
feature table with cause 4, each with event 0x2801 (R75). DP_INPUT_LOST of an input that is up clears UP and PSR and shows the cause.
DP_PSR_CHANGE of an input that is up shows its self-refresh (R76). DP_FRAME_DISCARD counts a discarded frame and raises 0x2805 (R73). A
read of the EDID over AUX answers its bytes, and any other AUX transaction as many bytes as asked, whose values are free (R72). No byte of
memory changes. -/
def Obligations.InputTrained : Prop :=
  (∀ (t lanes w h : Nat) (i : Fin 4) (rate : Fin 4) (dsc : Bool) (s : State), s.on (.dpr .linkHpd) i = true → s.domOn (4 + i.val) = true → s.halted .dpr i = false →
      unsupported lanes w h = false → ∃ r, exec (.dpLinkTraining t i true rate lanes w h dsc) s = .next r ∧ r.rd (.dpr .linkUp) i = 1 ∧ r.rd (.dpr .linkRate) i = rate.val
      ∧ r.rd (.dpr .linkDsc) i = b2n dsc ∧ SameMemory s r)
  ∧ (∀ (t lanes w h : Nat) (i : Fin 4) (rate : Fin 4) (dsc : Bool) (s : State), s.on (.dpr .linkHpd) i = true → s.domOn (4 + i.val) = true →
      s.halted .dpr i = false → ∃ r, exec (.dpLinkTraining t i false rate lanes w h dsc) s = .next r ∧ r.rd (.dpr .linkUp) i = 0 ∧ r.rd (.dpr .linkLostcause) i = 1
      ∧ r.rd (.st .dpr .lastclass) i = 2 ∧ SameMemory s r)
  ∧ (∀ (t lanes w h : Nat) (i : Fin 4) (rate : Fin 4) (dsc : Bool) (s : State), s.on (.dpr .linkHpd) i = true → s.domOn (4 + i.val) = true → s.halted .dpr i = false →
      unsupported lanes w h = true → ∃ r, exec (.dpLinkTraining t i true rate lanes w h dsc) s = .next r ∧ r.rd (.dpr .linkUp) i = 0
      ∧ r.rd (.dpr .linkLostcause) i = 4 ∧ r.rd (.st .dpr .lastclass) i = 2 ∧ SameMemory s r)
  ∧ (∀ (t : Nat) (i : Fin 4) (cause : Fin 5) (s : State), s.rd (.dpr .linkUp) i ≠ 0 → ∃ r, exec (.dpInputLost t i cause) s = .next r
      ∧ r.rd (.dpr .linkUp) i = 0 ∧ r.rd (.dpr .linkPsr) i = 0 ∧ r.rd (.dpr .linkLostcause) i = cause.val ∧ SameMemory s r)
  ∧ (∀ (t : Nat) (i : Fin 4) (psr : Fin 3) (s : State), s.on (.dpr .linkUp) i = true → ∃ r, exec (.dpPsrChange t i psr) s = .next r
      ∧ r.rd (.dpr .linkPsr) i = psr.val ∧ OnlyRegsAndEvents s r [(.dpr .linkPsr, i)] ∧ SameMemory s r)
  ∧ (∀ (t : Nat) (i : Fin 4) (s : State), ∃ r, exec (.dpFrameDiscard t i) s = .next r ∧ Bumped s r (.dpr .frameDiscard) i
      ∧ Raised s r .dpr i 0x2805 ∧ OnlyRegsAndEvents s r [(.dpr .frameDiscard, i)] ∧ SameMemory s r)
  ∧ (∀ (t off len : Nat) (i : Fin 4) (s : State), s.on (.dpr .linkHpd) i = true → ∃ r, exec (.dpAuxTransaction t i true off len) s = .next r
      ∧ r.out = [.aux i ((List.range len).map fun k => s.dp[i].edid.getD (off + k) 0)] ∧ OnlyRegs s r [] ∧ SameMemory s r)
  ∧ (∀ (t off len : Nat) (i : Fin 4) (s : State), s.on (.dpr .linkHpd) i = true → ∃ r bs, exec (.dpAuxTransaction t i false off len) s = .next r
      ∧ r.out = [.aux i bs] ∧ bs.length = len ∧ OnlyRegs s r [] ∧ SameMemory s r)

/-- A complete DisplayPort frame is stamped and stored. A frame of an input that is up, not stopped and not in self-refresh, in a region
that serves, with a free buffer becomes the newest complete frame: its production stamp is the wall time at which it became complete
(R74), its pixels stand in its buffer as 10-bit RGB with alpha 0b11, and no byte of HBM outside them changes (R71, R73, R76, R78); the
conversion of a stream that is not full-range 10-bit RGB is a free value (log entry 107). A PSR2 update that meets no detection error
makes such a frame of the size of the latest one (R76); one that meets an error discards the frame (R270). -/
def Obligations.FrameTaken : Prop :=
  (∀ (t w h line b lat : Nat) (i : Fin 4) (enc : PixEnc) (data : List Word) (s : State), s.on (.dpr .linkUp) i = true → s.rd (.dpr .linkPsr) i = 0 → s.halted .dpr i = false →
      s.regionStopped (State.addrRegion s.dp[i].base) = false → s.freeBuffer i = some b →
      ∃ r f, exec (.dpFrameComplete t i w h line ⟨enc, data, lat⟩) s = .next r ∧ r.dp[i].frames.head? = some f ∧ f.stamp = (s.advance t).wall
      ∧ f.w = w ∧ f.h = h ∧ f.buf = b
      ∧ (∀ k, k < w * h → cellWord r.hbm (s.dpBuffer i f % hbmEnd + 4 * k) 4 = enc.toRgb (data.getD k 0) % 2 ^ 30 + 3 * 2 ^ 30)
      ∧ (∀ x, ¬ (s.dpBuffer i f % hbmEnd ≤ x ∧ x < s.dpBuffer i f % hbmEnd + 4 * (w * h)) → cellGet r.hbm x = cellGet s.hbm x) ∧ r.raw = s.raw)
  ∧ (∀ (t y0 line b lat : Nat) (i : Fin 4) (enc : PixEnc) (data : List Word) (f : DpFrame) (s : State), s.dp[i].frames.head? = some f → s.on (.dpr .linkUp) i = true →
      s.rd (.dpr .linkPsr) i = 2 → s.halted .dpr i = false → s.badBurst (s.dpBuffer i f) (4 * f.w * f.h) = none → s.regionStopped (State.addrRegion s.dp[i].base) = false →
      s.freeBuffer i = some b → ∃ r g, exec (.dpPsr2Update t i y0 line ⟨enc, data, lat⟩ none) s = .next r ∧ r.dp[i].frames.head? = some g
      ∧ g.stamp = (s.advance t).wall ∧ g.w = f.w ∧ g.h = f.h ∧ g.buf = b ∧ r.raw = s.raw)
  ∧ (∀ (t y0 line o lat : Nat) (i : Fin 4) (enc : PixEnc) (data : List Word) (f : DpFrame) (s : State), s.dp[i].frames.head? = some f → s.on (.dpr .linkUp) i = true →
      s.rd (.dpr .linkPsr) i = 2 → s.halted .dpr i = false → ∃ r, exec (.dpPsr2Update t i y0 line ⟨enc, data, lat⟩ (some o)) s = .next r ∧ Bumped s r (.dpr .frameDiscard) i
      ∧ Raised s r .dpr i 0x2805 ∧ OnlyPlanes s r allClusters)

/-- Table windows are written and validated. A write to a word of a LUT or blend table of the page not in force stores it and changes no
other register (R101); one to a word of the page in force stores nothing and is recorded as an apply error with cause 3. A write to a
schedule word of the page not in force stores it and clears VALID of its page (R120). SCHED_CHECK_GO starts the validation of the page not
in force, and SCHED_CHECK_DONE leaves in VALID whether every rule holds (R118). A word of a table in force that fails parity stands as
read and is marked bad, in each of the five tables (R102). -/
def Obligations.TableWords : Prop :=
  (∀ (t addr j : Nat) (f : Fld) (c : Fin 4) (data : Word) (s : State), f ∈ ([.geo .ilutEntry, .geo .olutEntry, .geo .blendGain] : List Fld) →
      addr < bar0End → addr % 4 = 0 → s.host.d3hot = false → statusAt addr = none → addrCluster addr = some c.val → s.clusterOn c = true →
      fieldsAt addr = [(f, j, 0)] → s.pageLocked f j = false → s.sleeping f j = false →
      ∃ r, exec (.tableWindowWrite t addr data) s = .next r ∧ r.rd f j = data.toNat % 2 ^ 16 ∧ OnlyRegs s r [(f, j)] ∧ SameMemory s r)
  ∧ (∀ (t addr j : Nat) (f : Fld) (c : Fin 4) (data : Word) (s : State), f ∈ ([.geo .ilutEntry, .geo .olutEntry, .geo .blendGain] : List Fld) →
      addr < bar0End → addr % 4 = 0 → s.host.d3hot = false → statusAt addr = none → addrCluster addr = some c.val → s.clusterOn c = true →
      fieldsAt addr = [(f, j, 0)] → s.pageLocked f j = true →
      ∃ r, exec (.tableWindowWrite t addr data) s = .next r ∧ r.rd f j = s.rd f j ∧ r.rd (.glb .applyErrLastCause) 0 = 3
      ∧ r.rd (.glb .applyErrLastAddr) 0 = addr ∧ Bumped s r (.glb .applyErrCntCount) 0 ∧ SameMemory s r)
  ∧ (∀ (t addr k : Nat) (c : Fin 4) (pg : Fin 2) (data : Word) (s : State),
      addr < bar0End → addr % 4 = 0 → s.host.d3hot = false → statusAt addr = none → addrCluster addr = some c.val → s.clusterOn c = true →
      fieldsAt addr = [(.pln .schedWord, c.val * 7680 + pg.val * 3840 + k, 0)] → k < 3840 → s.rd (.pln .ctrlSchedPage) c ≠ pg.val →
      s.sleeping (.pln .schedWord) (c.val * 7680 + pg.val * 3840 + k) = false →
      ∃ r, exec (.schedWindowWrite t addr data) s = .next r ∧ r.rd (.pln .schedWord) (c.val * 7680 + pg.val * 3840 + k) = data.toNat
      ∧ r.rd (State.validFld pg) c = 0 ∧ OnlyRegs s r [(.pln .schedWord, c.val * 7680 + pg.val * 3840 + k), (State.validFld pg, c)] ∧ SameMemory s r)
  ∧ (∀ (t : Nat) (c : Fin 4) (s : State), s.on (.pln .schedChkBusy) c = false → ∃ r, exec (.schedCheckGo t c) s = .next r
      ∧ r.rd (.pln .schedChkBusy) c = 1 ∧ r.pic[c].schedBusy = some (1 - s.rd (.pln .ctrlSchedPage) c)
      ∧ OnlyRegs s r [(.pln .schedChkBusy, c)] ∧ SameMemory s r)
  ∧ (∀ (t : Nat) (c : Fin 4) (pg : Fin 2) (s : State), s.pic[c].schedBusy = some pg.val → ∃ r, exec (.schedCheckDone t c) s = .next r
      ∧ r.rd (State.validFld pg) c = b2n (pageFault (s.schedEnv c) (s.schedOf c pg)).isNone ∧ r.rd (.pln .schedChkBusy) c = 0
      ∧ r.pic[c].schedBusy = none
      ∧ OnlyRegs s r [(State.validFld pg, c), (.pln .schedChkReason, c), (.pln .schedChkEntry, c), (.pln .schedChkBusy, c)] ∧ SameMemory s r)
  ∧ (∀ (t word : Nat) (index : Fin 3075) (c : Fin 4) (s : State), s.composing c = false → ∃ r, exec (.tableParityError t c .ilut index word) s = .next r
      ∧ r.rd (.geo .ilutEntry) (c.val * 6150 + s.pageInForce c .ilut * 3075 + index.val) = word % 2 ^ 16
      ∧ ⟨.ilut, s.pageInForce c .ilut, index.val⟩ ∈ r.pic[c].badWords
      ∧ OnlyRegs s r [(.geo .ilutEntry, c.val * 6150 + s.pageInForce c .ilut * 3075 + index.val)] ∧ SameMemory s r)
  ∧ (∀ (t word : Nat) (index : Fin 3075) (c : Fin 4) (s : State), s.composing c = false → ∃ r, exec (.tableParityError t c .olut index word) s = .next r
      ∧ r.rd (.geo .olutEntry) (c.val * 6150 + s.pageInForce c .olut * 3075 + index.val) = word % 2 ^ 16
      ∧ ⟨.olut, s.pageInForce c .olut, index.val⟩ ∈ r.pic[c].badWords
      ∧ OnlyRegs s r [(.geo .olutEntry, c.val * 6150 + s.pageInForce c .olut * 3075 + index.val)] ∧ SameMemory s r)
  ∧ (∀ (t word : Nat) (index : Fin 256) (c : Fin 4) (s : State), s.composing c = false → ∃ r, exec (.tableParityError t c .blend index word) s = .next r
      ∧ r.rd (.geo .blendGain) (c.val * 512 + s.pageInForce c .blend * 256 + index.val) = word % 2 ^ 16
      ∧ ⟨.blend, s.pageInForce c .blend, index.val⟩ ∈ r.pic[c].badWords
      ∧ OnlyRegs s r [(.geo .blendGain, c.val * 512 + s.pageInForce c .blend * 256 + index.val)] ∧ SameMemory s r)
  ∧ (∀ (t word : Nat) (index : Fin 9216) (c : Fin 4) (s : State), s.composing c = false → ∃ r, exec (.tableParityError t c .uni index word) s = .next r
      ∧ r.rd (.geo .uniG) (c.val * 18432 + s.pageInForce c .uni * 9216 + index.val) = word % 2 ^ 48
      ∧ ⟨.uni, s.pageInForce c .uni, index.val⟩ ∈ r.pic[c].badWords
      ∧ OnlyRegs s r [(.geo .uniG, c.val * 18432 + s.pageInForce c .uni * 9216 + index.val)] ∧ SameMemory s r)
  ∧ (∀ (t word : Nat) (index : Fin 40960) (c : Fin 4) (s : State), s.composing c = false → ∃ r, exec (.tableParityError t c .mesh index word) s = .next r
      ∧ r.rd (.geo .meshDx) (c.val * 81920 + s.pageInForce c .mesh * 40960 + index.val) = word % 2 ^ 16
      ∧ r.rd (.geo .meshDy) (c.val * 81920 + s.pageInForce c .mesh * 40960 + index.val) = word / 2 ^ 16 % 2 ^ 16
      ∧ ⟨.mesh, s.pageInForce c .mesh, index.val⟩ ∈ r.pic[c].badWords
      ∧ OnlyRegs s r [(.geo .meshDx, c.val * 81920 + s.pageInForce c .mesh * 40960 + index.val),
                      (.geo .meshDy, c.val * 81920 + s.pageInForce c .mesh * 40960 + index.val)] ∧ SameMemory s r)

/-- A mesh load copies its page. MESH_LOAD_GO of the page not in force starts a load with BUSY, and one of the page in force starts none,
sets ERR and is an apply error with cause 3 (R95). A load that meets no detection error leaves in every entry of its page the DX that
stands in HBM, clears BUSY and changes no byte of memory; one that meets an error ends with ERR and event 0x2283 (R96), and changes memory
at most in the bit planes of frames that its freeze makes the module form anew (R284). -/
def Obligations.MeshLoads : Prop :=
  (∀ (t : Nat) (c : Fin 4) (s : State), s.pic[c].meshLoad = none → s.rd (.geo .meshLoadPage) c ≠ s.rd (.geo .ctrlMeshPage) c →
      ∃ r, exec (.meshLoadGo t c) s = .next r ∧ r.rd (.geo .meshLoadBusy) c = 1 ∧ r.rd (.geo .meshLoadErr) c = 0
      ∧ r.pic[c].meshLoad = some ⟨s.rd (.geo .meshLoadPage) c, s.rd (.geo .meshSrcAddr) c * 256, s.meshCount c⟩
      ∧ OnlyRegs s r [(.geo .meshLoadBusy, c), (.geo .meshLoadErr, c)] ∧ SameMemory s r)
  ∧ (∀ (t : Nat) (c : Fin 4) (s : State), s.pic[c].meshLoad = none → s.rd (.geo .meshLoadPage) c = s.rd (.geo .ctrlMeshPage) c →
      ∃ r, exec (.meshLoadGo t c) s = .next r ∧ r.rd (.geo .meshLoadErr) c = 1 ∧ r.pic[c].meshLoad = none
      ∧ r.rd (.glb .applyErrLastCause) 0 = 3 ∧ SameMemory s r)
  ∧ (∀ (t : Nat) (c : Fin 4) (pg : Fin 2) (m : MeshLoad) (s : State), s.pic[c].meshLoad = some m → m.page = pg.val → m.count ≤ 40960 →
      s.regionStopped (State.addrRegion m.src) = false → s.badBurst m.src (4 * m.count) = none →
      ∃ r, exec (.meshLoadComplete t c none) s = .next r ∧ r.pic[c].meshLoad = none ∧ r.rd (.geo .meshLoadBusy) c = 0
      ∧ (∀ j, j < m.count → r.rd (.geo .meshDx) (c.val * 81920 + pg.val * 40960 + j) = bits (cellWord s.hbm ((m.src + 4 * j) % hbmEnd) 4) 0 16)
      ∧ SameMemory s r)
  ∧ (∀ (t a : Nat) (c : Fin 4) (m : MeshLoad) (s : State), s.pic[c].meshLoad = some m → s.regionStopped (State.addrRegion m.src) = false →
      ∃ r, exec (.meshLoadComplete t c (some a)) s = .next r ∧ r.pic[c].meshLoad = none ∧ r.rd (.geo .meshLoadBusy) c = 0
      ∧ r.rd (.geo .meshLoadErr) c = 1 ∧ Raised s r .geo c 0x2283 ∧ OnlyPlanes s r allClusters)

/-- Reaffirmations are taken or refused. A reaffirmation of a layer that may be reaffirmed waits with its time and arrival; one of any
other layer is refused with RESULT 1 and event 0x16C5 (R243, R245). A tile list that may be taken is queued and sets BUSY, and its read
that meets no error keeps the tile numbers that stand in HBM and clears BUSY (R244). No byte of memory changes. -/
def Obligations.Reaffirmations : Prop :=
  (∀ (t : Nat) (c : Fin 4) (l : Fin 8) (s : State), s.mayReaffirm c l false = false → ∃ r, exec (.reaffirmLayer t c l) s = .next r
      ∧ r.rd (.frs .reaffirmStatResult) c = 1 ∧ Raised s r .frsEng 0 0x16C5 ∧ OnlyRegsAndEvents s r [(.frs .reaffirmStatResult, c)]
      ∧ r.pic = s.pic ∧ SameMemory s r)
  ∧ (∀ (t : Nat) (c : Fin 4) (l : Fin 8) (s : State), s.mayReaffirm c l false = true → s.on (.frs .reaffirmStatBusy) c = false →
      s.inHeld c = false → ∃ r, exec (.reaffirmLayer t c l) s = .next r
      ∧ r.pic[c].layers[l].pendReaff = s.pic[c].layers[l].pendReaff ++ [⟨(s.advance t).reaffirmTime c, max s.now t⟩] ∧ OnlyRegs s r [] ∧ SameMemory s r)
  ∧ (∀ (t count : Nat) (c : Fin 4) (l : Fin 8) (s : State), s.mayReaffirm c l true = true → 0 < count → count ≤ 4096 →
      s.on (.frs .reaffirmStatBusy) c = false → s.on (.frs .reaffirmStatQueued) c = false →
      ∃ r, exec (.reaffirmTileList t c l count) s = .next r ∧ r.rd (.frs .reaffirmStatBusy) c = 1
      ∧ r.pic[c].lists = s.pic[c].lists ++ [⟨l.val, (s.advance t).reaffirmTime c, count, 4 * s.rd (.frs .reaffirmAddrAddr) c, none, max s.now t⟩]
      ∧ OnlyRegs s r [(.frs .reaffirmStatBusy, c)] ∧ SameMemory s r)
  ∧ (∀ (t : Nat) (c : Fin 4) (x : TileList) (s : State), (s.pic[c].lists.find? fun y => y.tiles.isNone) = some x →
      s.regionStopped (State.regionAt x.addr).val = false → s.badBurst x.addr (4 * x.count) = none →
      (∀ i, i < x.count → cellWord s.hbm (x.addr + 4 * i) 4 < s.pic[c].tiles.length) →
      ∃ r, exec (.reaffirmListReadDone t c false) s = .next r ∧ r.rd (.frs .reaffirmStatBusy) c = 0
      ∧ { x with tiles := some ((List.range x.count).map fun i => cellWord s.hbm (x.addr + 4 * i) 4), readAt := max s.now t } ∈ r.pic[c].lists
      ∧ OnlyRegs s r [(.frs .reaffirmStatBusy, c), (.frs .reaffirmStatQueued, c)] ∧ SameMemory s r)

/-- Tile table errors, deadlines and ends of fetches. A parity error of a tile of a cluster that does not compose marks the tile, and in
any cluster it raises event 0x26C9 and shows cause ENGINE (R262). The freshness deadline of a held cluster that is due within 0.3 ms wakes
it with cause 4, unless another cause came first (R153). The end of a layer's fetch closes its read window and frees its buffer (R78,
R85). No byte of memory changes, but for the bit planes of a frame that is formed anew around the tile. -/
def Obligations.FreshnessEvents : Prop :=
  (∀ (t tile : Nat) (c : Fin 4) (x : Tile) (s : State), s.pic[c].tiles[tile]? = some x → ∃ r, exec (.tileTableParityError t c tile) s = .next r
      ∧ Raised s r .frsEng 0 0x26C9 ∧ OnlyPlanes s r [c])
  ∧ (∀ (t tile : Nat) (c : Fin 4) (x : Tile) (s : State), s.pic[c].tiles[tile]? = some x → s.composing c = false →
      ∃ r, exec (.tileTableParityError t c tile) s = .next r
      ∧ r.pic[c].tiles[tile]? = some { x with bad := true, mark := true, reaff := none, persist := 0 } ∧ bit (r.rd (.frs .markedCauses) c) 7 = true
      ∧ OnlyRegsAndEvents s r [(.frs .markedCount, c), (.frs .markedCauses, c)] ∧ SameMemory s r)
  ∧ (∀ (t d : Nat) (c : Fin 4) (h : HeldState) (s : State), s.chr[c].held = some h → h.deadline = some d → h.wake = none → d ≤ max s.now t + 480000 →
      ∃ r, exec (.freshnessDeadlineWake t c) s = .next r ∧ r.chr[c].held = some { h with wake := some (4, max s.now t) }
      ∧ r.rd (.chr .heldWake) c = 4 ∧ OnlyRegs s r [(.chr .heldWake, c)] ∧ SameMemory s r)
  ∧ (∀ (t : Nat) (c : Fin 4) (l : Fin 8) (s : State), s.pic[c].layers[l].window = true → ∃ r, exec (.layerFetchDone t c l) s = .next r
      ∧ r.pic[c].layers[l].window = false ∧ r.pic[c].layers[l].lock = none ∧ OnlyRegs s r [] ∧ SameMemory s r)

/-- Heliostat slots take samples and write outputs. A trigger at which R213 gives a running slot a sample, and which it accepts, is its
last accepted one (R213, R215); one that comes too soon is dropped and counted (R215). The output of the last sample is written at its
phase: HEL_OUT takes it, held to its range (R212, R214). SATCLR of a slot in SATFAULT clears it, loads I from INIT and raises 0x1402
(R228). No byte of memory changes. -/
def Obligations.HeliostatSamples : Prop :=
  (∀ (t : Nat) (c : Fin 4) (i : Fin 16) (code : Option Nat) (s : State), s.unitRun .slot (slotInst c i) = true → s.hel[c].slots[i].stopped = false →
      ((s.advance t).arriveStrobes c).slotTriggers c i = true → s.hel[c].slots[i].due = none → (s.advance t).tooSoon c i = false →
      (s.slotMeas c (slotInst c i) 0).isSome = true → ∃ r, exec (.heliostatSample t c i code) s = .next r
      ∧ r.hel[c].slots[i].lastTrig = some (max s.now t) ∧ r.hel[c].slots[i].sampled = true ∧ SameMemory s r)
  ∧ (∀ (t : Nat) (c : Fin 4) (i : Fin 16) (code : Option Nat) (s : State), s.unitRun .slot (slotInst c i) = true → s.hel[c].slots[i].stopped = false →
      ((s.advance t).arriveStrobes c).slotTriggers c i = true → s.hel[c].slots[i].due = none → (s.advance t).tooSoon c i = true →
      ∃ r, exec (.heliostatSample t c i code) s = .next r ∧ Bumped s r (.hel .cntOverrunCnt) (slotInst c i)
      ∧ r.hel[c].slots[i].lastTrig = s.hel[c].slots[i].lastTrig ∧ SameMemory s r)
  ∧ (∀ (t a : Nat) (u : Int) (c : Fin 4) (i : Fin 16) (s : State), s.hel[c].slots[i].due = some (a, u) → a ≤ max s.now t →
      ∃ r, exec (.slotOutputWrite t c i) s = .next r ∧ r.rd (.hel .outU) (slotInst c i) = unsigned 32 (satI 32 u)
      ∧ r.hel[c].slots[i].due = none ∧ OnlyRegsAndEvents s r [(.hel .outU, slotInst c i)] ∧ SameMemory s r)
  ∧ (∀ (t : Nat) (c : Fin 4) (i : Fin 16) (s : State), s.on (.hel .slotStatSatfault) (slotInst c i) = true →
      ∃ r, exec (.satfaultClear t c i) s = .next r ∧ r.rd (.hel .slotStatSatfault) (slotInst c i) = 0 ∧ r.hel[c].slots[i].stopped = false
      ∧ Raised s r .slot (slotInst c i) 0x1402
      ∧ OnlyRegsAndEvents s r [(.hel .slotStatSatfault, slotInst c i), (.hel .integI, slotInst c i), (.hel .slotStatOpenloop, slotInst c i)]
      ∧ SameMemory s r)

/-- Colour sensors and cooling. A transaction that falls due alone on an idle, running port takes the port, with the light fraction of its
primary, and sends its command (R230, R231); the bytes of the one in progress are the result word, high byte first (R231). At a PWM
period, once the last one is over, an output without a slot that drives it goes to full duty, and one that runs and whose slot runs takes
the latest duty (R233). No byte of memory changes. -/
def Obligations.ColourAndCooling : Prop :=
  (∀ (t : Nat) (c : Fin 4) (p : Fin 3) (s : State), s.unitRun .cs c = true → s.hel[c].csBusy = [] →
      s.hel[c].csDue[p] = some (max s.now t) → (∀ q : Fin 3, q ≠ p → s.hel[c].csDue[q] ≠ some (max s.now t)) → ∃ r, exec (.colourSensorTxn t c p) s = .next r
      ∧ r.hel[c].csBusy = [p.val] ∧ r.hel[c].csDue[p] = none ∧ r.hel[c].csTxnFrac[p] = s.hel[c].csFrac[p]
      ∧ (∃ mode div bs n, r.out = [.spi c mode div bs n]) ∧ OnlyRegs s r [] ∧ SameMemory s r)
  ∧ (∀ (t : Nat) (c : Fin 4) (p : Fin 3) (data : List Byte) (s : State), s.hel[c].csBusy.head? = some p.val → s.hel[c].csReadyAt ≤ max s.now t →
      ∃ r, exec (.colourResultReady t c p data) s = .next r
      ∧ r.rd (.hel .csResWord) (c.val * 3 + p.val) = 256 * (data.getD (s.rd (.hel .csTxnRdofs) (c.val * 3 + p.val)) 0).toNat
          + (data.getD (s.rd (.hel .csTxnRdofs) (c.val * 3 + p.val) + 1) 0).toNat
      ∧ SameMemory s r)
  ∧ (∀ (t : Nat) (c : Fin 4) (i : Fin 2) (s : State),
      (∀ p, s.hel[c].pwmAt[i] = some p → p + pwmPeriod (clampN 10 50 (s.rd (.hel .pwmCfgFreq) c)) ≤ max s.now t) →
      (∀ n : Fin 16, s.unitEn .slot (slotInst c n) = true → (2, i.val) ∉ s.slotDests (slotInst c n)) →
      ∃ r, exec (.pwmPeriod t c i) s = .next r ∧ r.rd (.hel .pwmDuty) (c.val * 2 + i.val) = 0xFFFF ∧ r.rd (.hel .pwmFull) (c.val * 2 + i.val) = 1
      ∧ OnlyRegsAndEvents s r [(.hel .pwmDuty, c.val * 2 + i.val), (.hel .pwmFull, c.val * 2 + i.val)] ∧ SameMemory s r)
  ∧ (∀ (t : Nat) (c : Fin 4) (i : Fin 2) (n : Fin 16) (s : State), s.domOn (9 + c.val) = true → s.halted .pwm (c.val * 2 + i.val) = false →
      (∀ p, s.hel[c].pwmAt[i] = some p → p + pwmPeriod (clampN 10 50 (s.rd (.hel .pwmCfgFreq) c)) ≤ max s.now t) →
      (allSlots.find? fun n => s.unitEn .slot (slotInst c n) && (s.slotDests (slotInst c n)).contains (2, i.val)) = some n →
      s.halted .slot (slotInst c n) = false → s.hel[c].slots[n].stopped = false →
      ∃ r, exec (.pwmPeriod t c i) s = .next r ∧ r.rd (.hel .pwmDuty) (c.val * 2 + i.val) = s.hel[c].pwmNext[i] % 2 ^ 16
      ∧ r.rd (.hel .pwmFull) (c.val * 2 + i.val) = 0 ∧ SameMemory s r)

/-- Training engines start, run and stop. GO by the owner of an idle engine that serves its target gathers the first burst where its
preconditions hold and nothing waits, and ends DONE without PASS, with the precondition's code, where one does not (R300, R304). ABORT by
the owner idles the engine and drops its staged result (R300). The next burst that is due starts, with the test step in place of the PD
input of an ADC (R301), and the end of a burst of a sweep that is not its last takes the next tap (R299). The firmware's schedule starts a
due run on the target, index and cluster it names (R305). No byte of memory changes. -/
def Obligations.TrainingRuns : Prop :=
  (∀ (t pd : Nat) (e : Fin 6) (host : Bool) (temp : Int) (s : State), s.engOwner host = true →
      (s.rd (.trn .engStatState) e = 0 ∨ s.rd (.trn .engStatState) e = 5) → s.engServes e = true → s.brokenPrecond e = none → s.engTarget e ≠ 4 →
      s.burstWaits e = false → ∃ r, exec (.trainingGo t e host temp pd) s = .next r ∧ r.rd (.trn .engStatState) e = 2
      ∧ r.rd (.trn .engStatBursts) e = 1 ∧ r.rd (.trn .engStatDone) e = 0 ∧ r.trn.engines[e].burstAt = max s.now t
      ∧ r.trn.engines[e].tap = s.rd (.trn .engRangeFirst) e ∧ SameMemory s r)
  ∧ (∀ (t pd code : Nat) (e : Fin 6) (host : Bool) (temp : Int) (s : State), s.engOwner host = true →
      (s.rd (.trn .engStatState) e = 0 ∨ s.rd (.trn .engStatState) e = 5) → s.engServes e = true → s.brokenPrecond e = some code →
      ∃ r, exec (.trainingGo t e host temp pd) s = .next r ∧ r.rd (.trn .engStatState) e = 5 ∧ r.rd (.trn .engStatDone) e = 1
      ∧ r.rd (.trn .engStatPass) e = 0 ∧ r.rd (.trn .engStatPrecond) e = code ∧ SameMemory s r)
  ∧ (∀ (t : Nat) (e : Fin 6) (host : Bool) (s : State), s.engOwner host = true → ∃ r, exec (.trainingAbort t e host) s = .next r
      ∧ r.rd (.trn .engStatState) e = 0 ∧ r.trn.engines[e].staged = none ∧ SameMemory s r)
  ∧ (∀ (t pd : Nat) (e : Fin 6) (temp : Int) (s : State), s.trn.engines[e].held = none → s.rd (.trn .engStatState) e = 1 →
      s.rd (.trn .engStatBursts) e = 0 → s.brokenPrecond e = none → s.engTarget e ≠ 4 → s.burstWaits e = false →
      ∃ r, exec (.gatherBurstStart t e temp pd) s = .next r ∧ r.rd (.trn .engStatState) e = 2 ∧ r.rd (.trn .engStatBursts) e = 1
      ∧ r.trn.engines[e].burstAt = max s.now t ∧ (s.engTarget e = 3 → r.out = [.testStep (s.engCluster e) (s.engIdx e) true])
      ∧ OnlyRegs s r [(.trn .engStatState, e), (.trn .engStatBursts, e)] ∧ SameMemory s r)
  ∧ (∀ (t : Nat) (e : Fin 6) (g : Gathered) (s : State), s.rd (.trn .engStatState) e = 2 → s.engTarget e ≤ 3 →
      s.trn.engines[e].burstAt + s.burstLen e ≤ max s.now t → s.trn.engines[e].viol = none → s.trn.engines[e].tap < (s.sweepRange e).2 →
      ∃ r, exec (.gatherBurstEnd t e g) s = .next r ∧ r.rd (.trn .engStatState) e = 3 ∧ r.trn.engines[e].tap = s.trn.engines[e].tap + 1
      ∧ SameMemory s r)
  ∧ (∀ (t idx pd : Nat) (e : Fin 6) (target : Fin 7) (c : Fin 4) (temp : Int) (s : State), s.on (.trn .ctrlHost) 0 = false → s.running = true →
      s.duty 6 = true → s.rd (.pwr .limitAct) 0 < 2 → s.rd (.trn .engStatState) e = 0 → (s.advance t).runDue target idx
        (target.val + idx % 256 * 2 ^ 8 + c.val * 2 ^ 16) temp = true → idx < 256 →
      ∃ r, exec (.scheduledTraining t e target idx c temp pd) s = .next r ∧ r.rd (.trn .engCtrlTarget) e = target.val
      ∧ r.rd (.trn .engCtrlIdx) e = idx ∧ r.rd (.trn .engCtrlCluster) e = c.val
      ∧ (target.val + idx % 256 * 2 ^ 8 + c.val * 2 ^ 16, max s.now t) ∈ r.trn.lastRun ∧ SameMemory s r)

/-- Staged results are applied or expire. A staged result at a boundary of its interface is applied: the engine holds none any more and is
DONE (R302); a staged DESKEW of HBM reads, in a region that serves, leaves its values in the tap registers once its pseudo-channel has
been idle for 64 ns. One staged for longer than APPLYTMO is discarded with EXPIRED and event 0x1A03 (R302). No byte of memory changes. -/
def Obligations.StagedResults : Prop :=
  (∀ (t : Nat) (e : Fin 6) (x : Staged) (s : State), s.trn.engines[e].staged = some x → (s.advance t).atBoundary x = true →
      ∃ r, exec (.stagedResultApply t e) s = .next r ∧ r.trn.engines[e].staged = none ∧ r.rd (.trn .engStatState) e = 5 ∧ SameMemory s r)
  ∧ (∀ (t idx k v : Nat) (e : Fin 6) (x : Staged) (s : State), s.trn.engines[e].staged = some x → x.target = 0 → x.vals[k]? = some v →
      s.regionStopped (x.idx / 8) = false → s.mem.lastReq[(Fin.ofNat 16 x.idx)] + 103 ≤ max s.now t →
      ∃ r, exec (.stagedResultApply t e) s = .next r ∧ r.rd (.trn .hbmTapRd) (x.idx * 216 + x.set * 72 + k) = v % 2 ^ 7)
  ∧ (∀ (t : Nat) (e : Fin 6) (x : Staged) (s : State), s.trn.engines[e].staged = some x →
      msCclk (s.rd (.trn .schedApplytmo) 0) ≤ max s.now t - x.at' → ∃ r, exec (.stagedResultExpiry t e) s = .next r
      ∧ r.trn.engines[e].staged = none ∧ r.rd (.trn .engStatState) e = 5 ∧ r.rd (.trn .engStatExpired) e = 1
      ∧ Raised s r .trn (State.engDie e) 0x1A03 ∧ SameMemory s r)

/-- The Observer's load and watchdog. A load window of an Observer that is online shows as LOAD, the mean of the last 100 as MEAN and the
highest as PEAK (R424); the mean is rounded down, which is the model's choice (log entry 57). A watchdog expiry counts in RESETS and takes
the Observer offline (R429). The end of its boot brings it back with event 0x18C7. Clearing FATAL releases an Observer held in reset
(R430). No byte of memory changes. -/
def Obligations.ObserverCommands : Prop :=
  (∀ (t load : Nat) (s : State), s.obsOnline = true → load ≤ 100 → (∀ w ∈ s.obs.windows, w ≤ 100) → s.rd (.obs .loadPeak) 0 ≤ 100 →
      ∃ r, exec (.loadWindow t load) s = .next r ∧ r.rd (.obs .loadLoad) 0 = load
      ∧ r.rd (.obs .loadMean) 0 = ((load :: s.obs.windows).take 100).sum / ((load :: s.obs.windows).take 100).length
      ∧ r.rd (.obs .loadPeak) 0 = max (s.rd (.obs .loadPeak) 0) load ∧ SameMemory s r)
  ∧ (∀ (t : Nat) (code : Byte) (s : State), s.obsOnline = true → ∃ r, exec (.watchdogExpiry t code) s = .next r ∧ Bumped s r (.obs .wdogResets) 0
      ∧ r.rd (.obs .statusOffline) 0 = 1)
  ∧ (∀ (t b : Nat) (s : State), s.obs.bootingSince = some b → ∃ r, exec (.observerBootDone t) s = .next r ∧ r.rd (.obs .statusOffline) 0 = 0
      ∧ r.obs.bootingSince = none ∧ Raised s r .obs 0 0x18C7 ∧ OnlyRegsAndEvents s r [(.obs .statusOffline, 0)] ∧ SameMemory s r)
  ∧ (∀ (t : Nat) (s : State), s.obs.heldReset = true → ∃ r, exec (.observerFatalClear t) s = .next r ∧ r.rd (.st .obs .fatal) 0 = 0
      ∧ r.obs.heldReset = false ∧ r.obs.expiries = [] ∧ OnlyRegs s r [(.st .obs .fatal, 0), (.obs .wdogRecent, 0)] ∧ SameMemory s r)

/-- The Observer takes a mailbox command at once (R379, R383, R384, R427): the host reaches its registers, none is in progress, it is online, and its level is below 4. -/
def MailFree (s : State) : Prop :=
  s.host.d3hot = false ∧ s.on (.obs .statusBusy) 0 = false ∧ s.on (.obs .statusOffline) 0 = false ∧ s.rd (.obs .loadShed) 0 < 4

/-- A mailbox command has been answered (R383): its STATUS and TAG stand, BUSY has fallen and DONE is set. -/
def Answered (r : State) (m : MailReq) (status : Nat) : Prop :=
  r.rd (.obs .replyStatus) 0 = status ∧ r.rd (.obs .replyTag) 0 = m.tag % 2 ^ 16 ∧ r.rd (.obs .statusBusy) 0 = 0 ∧ r.rd (.obs .statusDone) 0 = 1

/-- The loader's mailbox commands. Answered by an Observer that takes commands: EPH_UPLOAD_BEGIN opens a session and erases its target
(R56, R386), EPH_UPLOAD_PAGE takes the next page, EPH_UPLOAD_END closes a complete session and holds its image in the target (R467),
EPH_ACTIVATE of a slot whose image passes and EPH_RESELECT ask for a reload (R53, R57), EPH_SWAP of a patch that passes begins the swap
(R58), DBG_UNLOCK with a good token opens the debug port for the token's scope and one with a bad token counts a failure (R62, R63), and
DBG_LOCK closes it. -/
def Obligations.LoaderMail : Prop :=
  (∀ (t length : Nat) (m : MailReq) (s : State), MailFree s → 0 < length → length ≤ 2 ^ 24 → s.loaderBusy = false → s.eph.swap = none →
      ∃ r, exec (.ephUploadBegin t m 2 length) s = .next r ∧ Answered r m 0 ∧ r.host.ephUp = some ⟨.patch, length, 0, [], [], true⟩
      ∧ r.eph.staged = none ∧ SameMemory s r)
  ∧ (∀ (t length : Nat) (m : MailReq) (s : State), MailFree s → 0 < length → length ≤ 2 ^ 25 → s.loaderBusy = false →
      (s.slotValid 0 && !s.slotValid 1) = false →
      ∃ r, exec (.ephUploadBegin t m 0 length) s = .next r ∧ Answered r m 0 ∧ r.host.ephUp = some ⟨.slotA, length, 0, [], [], false⟩
      ∧ r.eph.slots[0] = none ∧ SameMemory s r)
  ∧ (∀ (t : Nat) (m : MailReq) (data : List Byte) (u : Upload) (s : State), MailFree s → s.host.ephUp = some u → u.erased = true →
      u.next % 4096 = 0 → u.next < u.length → ∃ r, exec (.ephUploadPage t m u.next data true) s = .next r ∧ Answered r m 0
      ∧ r.host.ephUp = some { u with next := u.next + 4096, lastPage := data.map BitVec.toNat,
                                     bytes := u.bytes ++ (data.map BitVec.toNat).take (u.length - u.next) } ∧ SameMemory s r)
  ∧ (∀ (t : Nat) (m : MailReq) (signs : Option Signed) (hashOk : List Bool) (plan : Plan) (u : Upload) (s : State), MailFree s →
      s.host.ephUp = some u → u.length ≤ u.next → u.target = .patch → ∃ r st, exec (.ephUploadEnd t m signs hashOk plan true) s = .next r
      ∧ Answered r m st ∧ (st = 0 ∨ st = 5) ∧ r.host.ephUp = none ∧ r.eph.staged = some (Image.ofBytes u.bytes signs hashOk plan) ∧ SameMemory s r)
  ∧ (∀ (t : Nat) (m : MailReq) (slot : Fin 2) (bad : List Nat) (im : Image) (s : State), MailFree s → s.loaderBusy = false → s.eph.slots[slot] = some im →
      s.imageFault (2 ^ 25) false (im.readBad bad) = none → ∃ r, exec (.ephActivate t m ⟨slot.val, bad⟩) s = .next r ∧ Answered r m 0
      ∧ r.eph.reload = some (some slot.val) ∧ SameMemory s r)
  ∧ (∀ (t : Nat) (m : MailReq) (commit : Fin 2) (im : Image) (s : State), MailFree s → s.loaderBusy = false → s.eph.swap = none →
      s.eph.staged = some im → s.stagedBad = [] → s.swapFault im = none → ∃ r, exec (.ephSwap t m ⟨commit.val, none⟩) s = .next r ∧ Answered r m 0
      ∧ (∃ asked, r.eph.swap = some ⟨im, s.usedClusters.map fun c => c.val, asked⟩) ∧ r.rd (.eph .statusState) 0 = 5)
  ∧ (∀ (t : Nat) (m : MailReq) (s : State), MailFree s → s.loaderBusy = false → ∃ r, exec (.ephReselect t m) s = .next r ∧ Answered r m 0
      ∧ r.eph.reload = some none ∧ SameMemory s r)
  ∧ (∀ (t : Nat) (m : MailReq) (token : List Byte) (signs : Option Signed) (s : State), MailFree s → token.length = 128 → s.rd (.eph .dbgFails) 0 ≠ 8 →
      s.tokenGood (token.map BitVec.toNat) signs = true → ∃ r, exec (.dbgUnlock t m token signs) s = .next r ∧ Answered r m 0
      ∧ r.rd (.eph .dbgOpen) 0 = 1 ∧ r.rd (.eph .dbgScope) 0 = (token.getD 20 0).toNat ∧ SameMemory s r)
  ∧ (∀ (t : Nat) (m : MailReq) (token : List Byte) (signs : Option Signed) (s : State), MailFree s → token.length = 128 → s.rd (.eph .dbgFails) 0 < 8 →
      s.tokenGood (token.map BitVec.toNat) signs = false → ∃ r, exec (.dbgUnlock t m token signs) s = .next r ∧ Answered r m 6
      ∧ r.rd (.eph .dbgFails) 0 = s.rd (.eph .dbgFails) 0 + 1 ∧ r.rd (.eph .dbgOpen) 0 = s.rd (.eph .dbgOpen) 0 ∧ SameMemory s r)
  ∧ (∀ (t : Nat) (m : MailReq) (s : State), MailFree s → ∃ r, exec (.dbgLock t m) s = .next r ∧ Answered r m 0 ∧ r.rd (.eph .dbgOpen) 0 = 0
      ∧ r.eph.dbgUntil = none ∧ SameMemory s r)
  ∧ (∀ (t length : Nat) (m : MailReq) (s : State), MailFree s → 0 < length → length ≤ 2 ^ 25 → s.loaderBusy = false →
      (s.slotValid 1 && !s.slotValid 0) = false →
      ∃ r, exec (.ephUploadBegin t m 1 length) s = .next r ∧ Answered r m 0 ∧ r.host.ephUp = some ⟨.slotB, length, 0, [], [], false⟩
      ∧ r.eph.slots[1] = none ∧ SameMemory s r)
  ∧ (∀ (t : Nat) (m : MailReq) (signs : Option Signed) (hashOk : List Bool) (plan : Plan) (u : Upload) (i : Fin 2) (s : State), MailFree s →
      s.host.ephUp = some u → u.length ≤ u.next → u.target.slot = some i → ∃ r st, exec (.ephUploadEnd t m signs hashOk plan true) s = .next r
      ∧ Answered r m st ∧ (st = 0 ∨ st = 5) ∧ r.host.ephUp = none ∧ r.eph.slots[i] = some (Image.ofBytes u.bytes signs hashOk plan) ∧ SameMemory s r)

/-- Firmware, tags and telemetry through the mailbox. Answered by an Observer that takes commands: VERSION returns ten bytes;
FW_UPDATE_BEGIN opens a session for the copy that does not run, FW_UPDATE_PAGE takes its next page, and FW_UPDATE_END of a complete
session leaves the copy with event 0x18C2 (R386, R391); TAG_READ returns the bytes of the tag that a source path selects, and TAG_WRITE of
a unit tag keeps its 32 bytes (R388); TELEMETRY returns its 26 bytes while telemetry is not shed (R385, R423). No byte of memory changes.
The capability bits of VERSION are free values (log entry 8). -/
def Obligations.HostMail : Prop :=
  (∀ (t : Nat) (m : MailReq) (s : State), MailFree s → ∃ r, exec (.version t m) s = .next r ∧ Answered r m 0
      ∧ r.rd (.obs .replyLenLen) 0 = 10 ∧ SameMemory s r)
  ∧ (∀ (t length : Nat) (m : MailReq) (s : State), MailFree s → 0 < length → length ≤ 0x800000 →
      ∃ r, exec (.fwUpdateBegin t m length) s = .next r ∧ Answered r m 0 ∧ r.host.fwUp = some ⟨.firmware, length, 0, [], [], false⟩
      ∧ r.host.fw[(Fin.ofNat 2 (1 - s.host.fwRun) : Fin 2)] = ⟨0, 0, false⟩ ∧ SameMemory s r)
  ∧ (∀ (t : Nat) (m : MailReq) (data : List Byte) (u : Upload) (s : State), MailFree s → s.host.fwUp = some u → u.erased = true →
      u.next < u.length → ∃ r, exec (.fwUpdatePage t m u.next data true) s = .next r ∧ Answered r m 0
      ∧ r.host.fwUp = some { u with next := u.next + 4096, lastPage := data.map BitVec.toNat,
                                    bytes := u.bytes ++ (data.map BitVec.toNat).take (u.length - u.next) } ∧ SameMemory s r)
  ∧ (∀ (t : Nat) (m : MailReq) (copy : FwCopy) (u : Upload) (s : State), MailFree s → s.host.fwUp = some u → u.length ≤ u.next →
      ∃ r, exec (.fwUpdateEnd t m copy) s = .next r ∧ Answered r m 0 ∧ r.host.fwUp = none
      ∧ r.host.fw[(Fin.ofNat 2 (1 - s.host.fwRun) : Fin 2)] = copy ∧ Raised s r .obs 0 0x18C2 ∧ SameMemory s r)
  ∧ (∀ (t path : Nat) (m : MailReq) (k : TagKind) (s : State), MailFree s → s.tagKind path = some k → (s.tagBytes k).length ≤ 256 →
      ∃ r, exec (.tagRead t m path) s = .next r ∧ Answered r m 0
      ∧ r.rd (.obs .replyLenLen) 0 = (s.tagBytes k).length
      ∧ (∀ j, 4 * j < (s.tagBytes k).length → r.rd (.obs .reppageWord) j = ofLe (((s.tagBytes k).drop (4 * j)).take 4) % 2 ^ 32) ∧ SameMemory s r)
  ∧ (∀ (t path k : Nat) (m : MailReq) (data : List Byte) (s : State), MailFree s → s.tagKind path = some (.unit k) → data.length = 32 →
      ∃ r, exec (.tagWrite t m path data) s = .next r ∧ Answered r m 0
      ∧ r.host.unitTags = putVal s.host.unitTags k (data.map BitVec.toNat) ∧ SameMemory s r)
  ∧ (∀ (t : Nat) (m : MailReq) (s : State), MailFree s → s.rd (.obs .loadShed) 0 < 3 → ∃ r, exec (.telemetry t m) s = .next r ∧ Answered r m 0
      ∧ r.rd (.obs .replyLenLen) 0 = 26
      ∧ r.rd (.obs .reppageWord) 0 = s.rd (.pwr .tempCompute) 0 % 2 ^ 16 + 2 ^ 16 * (s.rd (.pwr .tempIo) 0 % 2 ^ 16) ∧ SameMemory s r)

/-- The Almanac, the Logbook and the archive through the mailbox. Answered by an Observer that takes commands: ALM_RAW_READ returns the
bytes of the raw user area; ALM_RAW_WRITE of 1 to 256 bytes writes them from their page offset onward within the same page, wraps past
offset 0xFF to offset 0x00 of the same page, enters no other page, changes no other byte and answers WRAP = 1 when it wrapped (R320), and
one outside the area is refused and stores nothing; while a Logbook save holds the bus either waits with BUSY (R322); LOG_SLOT_READ sends
the slot's entry and records by DMA, as many bytes as the host permits (R334, R385); ARC_QUERY and ARC_ANCHOR return their pages (R353);
ARC_READ of a range of a recording archive in which records lie sends whole records (R387); ARC_INIT with the module's serial starts an
empty archive (R340). -/
def Obligations.StoreMail : Prop :=
  (∀ (t addr len : Nat) (m : MailReq) (s : State), MailFree s → s.log.saving = none → 1 ≤ len → len ≤ 4096 → inRawArea addr len = true →
      ∃ r, exec (.almRawRead t m addr len) s = .next r ∧ Answered r m 0 ∧ r.rd (.obs .replyLenLen) 0 = len
      ∧ (∀ j, 4 * j < len → r.rd (.obs .reppageWord) j = cellWord s.raw (addr + 4 * j) (min 4 (len - 4 * j))) ∧ SameMemory s r)
  ∧ (∀ (t addr : Nat) (m : MailReq) (data : List Byte) (s : State), MailFree s → s.log.saving = none → 1 ≤ data.length → data.length ≤ 256 → inRawArea addr 1 = true →
      ∃ r, exec (.almRawWrite t m addr data) s = .next r ∧ Answered r m 0
      ∧ r.rd (.obs .detailDetail) 0 = b2n (256 < addr % 256 + data.length)
      ∧ (∀ k, k < data.length → cellGet r.raw (addr / 256 * 256 + (addr % 256 + k) % 256) = data.getD k 0)
      ∧ (∀ x, x ∉ rawAddrs addr data.length → cellGet r.raw x = cellGet s.raw x)
      ∧ Bumped s r (.alm .cntRawwr) 0 ∧ r.hbm = s.hbm ∧ r.plate = s.plate)
  ∧ (∀ (t addr : Nat) (m : MailReq) (data : List Byte) (s : State), MailFree s → s.log.saving.isSome = true →
      ∃ r, exec (.almRawWrite t m addr data) s = .next r ∧ r.rd (.obs .statusBusy) 0 = 1 ∧ r.alm = s.alm ∧ SameMemory s r)
  ∧ (∀ (t addr len : Nat) (m : MailReq) (s : State), MailFree s → s.log.saving.isSome = true →
      ∃ r, exec (.almRawRead t m addr len) s = .next r ∧ r.rd (.obs .statusBusy) 0 = 1 ∧ r.alm = s.alm ∧ SameMemory s r)
  ∧ (∀ (t addr : Nat) (m : MailReq) (data : List Byte) (s : State), MailFree s → s.log.saving = none → 1 ≤ data.length → data.length ≤ 256 → inRawArea addr 1 = false →
      ∃ r, exec (.almRawWrite t m addr data) s = .next r ∧ Answered r m 6 ∧ r.rd (.obs .detailDetail) 0 = 3 ∧ SameMemory s r)
  ∧ (∀ (t : Nat) (m : MailReq) (slot : Fin 2) (s : State), MailFree s → s.host.busMaster = true → m.haddr % 64 = 0 →
      s.on (if slot.val == 0 then .log .statValid0 else .log .statValid1) 0 = true →
      ∃ r, exec (.logSlotRead t m slot.val) s = .next r ∧ Answered r m 0
      ∧ .dma m.haddr (((s.log.saves[slot]).bytes ++ State.slotBytes s.log.slots[slot]).take m.hlen) ∈ r.out ∧ SameMemory s r)
  ∧ (∀ (t : Nat) (m : MailReq) (s : State), MailFree s → ∃ r, exec (.arcQuery t m) s = .next r ∧ Answered r m 0
      ∧ r.rd (.obs .replyLenLen) 0 = 28 ∧ SameMemory s r)
  ∧ (∀ (t : Nat) (m : MailReq) (args : Vector Word 6) (s : State), MailFree s → s.host.busMaster = true → m.haddr % 64 = 0 →
      s.rd (.arc .stateState) 0 = 3 → bits (args[(0 : Fin 6)]).toNat 16 2 ≠ 3 →
      (s.driveRecs.filter (s.recWanted (args.toList.map BitVec.toNat))).isEmpty = false → ∃ r bs, exec (.arcRead t m args) s = .next r ∧ Answered r m 0 ∧ .dma m.haddr bs ∈ r.out
      ∧ bs.length ≤ m.hlen ∧ r.rd (.obs .replyLenLen) 0 = 20 ∧ SameMemory s r)
  ∧ (∀ (t : Nat) (m : MailReq) (s : State), MailFree s → ∃ r, exec (.arcAnchor t m) s = .next r ∧ Answered r m 0
      ∧ r.rd (.obs .replyLenLen) 0 = 364 ∧ SameMemory s r)
  ∧ (∀ (t : Nat) (m : MailReq) (s : State), MailFree s → s.arc.drive.isSome = true → s.rd (.arc .stateState) 0 ≠ 5 →
      ∃ r, exec (.arcInit t m s.dev.serial) s = .next r ∧ Answered r m 0 ∧ r.rd (.arc .stateState) 0 = 3 ∧ r.rd (.arc .tailTail) 0 = 0 ∧ SameMemory s r)

/-- The PCI Express endpoint and the pins. An endpoint reset returns the endpoint's registers to their reset values, leaves D3hot and
closes upload sessions, with event 0x1843, and changes no other register (R379); the loss of a link that is up does the same and shows the
link down with 0x2842, and a link that comes up at a rate and width of the endpoint shows its rate with 0x1841 (R376). A configuration
write changes what it names: the power state, bus mastering, the size of BAR2 or the function mask, whose clearing signals the vectors
that wait (R379, R380). A moderation timeout that is due signals vector 0 and starts a fresh count (R381). The end of an erase lets its
upload go on (R386). SMBus reads return the status window and the package tag (R389). The debug port takes a byte while it is open (R392).
No byte of memory changes. -/
def Obligations.EndpointCommands : Prop :=
  (∀ (t : Nat) (kind : PciReset) (s : State), ∃ r, exec (.pcieReset t kind) s = .next r
      ∧ (∀ x ∈ State.endpointFlds, ∀ i, i < x.2 → r.rd x.1 i = resetOf x.1 i) ∧ r.host.d3hot = false ∧ r.host.ephUp = none ∧ r.host.fwUp = none
      ∧ Raised s r .pci 0 0x1843
      ∧ OnlyRegsAndEvents s r (State.endpointFlds.flatMap fun x => (List.range x.2).map fun i => (x.1, i)) ∧ SameMemory s r)
  ∧ (∀ (t : Nat) (s : State), s.on (.pci .linkUp) 0 = true → ∃ r, exec (.pcieLinkLoss t) s = .next r ∧ r.rd (.pci .linkUp) 0 = 0 ∧ r.host.d3hot = false
      ∧ Raised s r .pci 0 0x2842 ∧ SameMemory s r)
  ∧ (∀ (t width : Nat) (speed : Fin 5) (s : State), s.domOn 2 = true → speed ≠ 0 → width ∈ ([1, 2, 4, 8] : List Nat) → ∃ r, exec (.pcieLinkUp t speed width) s = .next r ∧ r.rd (.pci .linkUp) 0 = 1
      ∧ r.rd (.pci .linkSpeed) 0 = speed.val ∧ Raised s r .pci 0 0x1841
      ∧ OnlyRegsAndEvents s r [(.pci .linkUp, 0), (.pci .linkSpeed, 0), (.pci .linkWidth, 0)] ∧ SameMemory s r)
  ∧ (∀ (t : Nat) (v : Bool) (s : State), ∃ r, exec (.pcieConfigWrite t (.d3hot v)) s = .next r ∧ r.host = { s.host with d3hot := v }
      ∧ OnlyRegs s r [] ∧ SameMemory s r)
  ∧ (∀ (t f : Nat) (s : State), s.host.firstUnsig = some f → f + usCclk (10 * s.rd (.pci .evrCfgMod) 0) ≤ max s.now t →
      ∃ r, exec (.evrModerationTimeout t) s = .next r ∧ r.host.firstUnsig = none ∧ r.host.unsignalled = 0 ∧ OnlyRegs s r [] ∧ SameMemory s r
      ∧ (s.host.d3hot = false → bit s.host.vecMask 0 = false → r.out = [.vector 0]))
  ∧ (∀ (t : Nat) (u : Upload) (s : State), s.host.fwUp = some u → ∃ r, exec (.flashEraseDone t true) s = .next r
      ∧ r.host.fwUp = some { u with erased := true } ∧ OnlyRegs s r [] ∧ SameMemory s r)
  ∧ (∀ (t : Nat) (s : State), s.rd (.pwr .stateState) 0 ≠ 3 → ∃ r, exec (.smbusStatusRead t false) s = .next r
      ∧ r.out = [.smbus s.smbWindow] ∧ OnlyRegs s r [] ∧ SameMemory s r)
  ∧ (∀ (t : Nat) (i : Fin 8) (s : State), s.rd (.pwr .stateState) 0 ≠ 3 → ∃ r, exec (.smbusTagRead t i false) s = .next r
      ∧ r.out = [.smbus ((s.host.smbTag.drop (32 * i.val)).take 32)] ∧ OnlyRegs s r [] ∧ SameMemory s r)
  ∧ (∀ (t : Nat) (i : Fin 8) (s : State), s.rd (.pwr .stateState) 0 ≠ 3 → ∃ r, exec (.smbusTagRead t i true) s = .next r
      ∧ Raised s r .ls 0 0x19C1 ∧ OnlyRegsAndEvents s r [] ∧ SameMemory s r)
  ∧ (∀ (t : Nat) (byte : Byte) (s : State), s.on (.eph .dbgOpen) 0 = true → s.rd (.eph .dbgScope) 0 ≠ 0 →
      ∃ r, exec (.uartReceive t byte) s = .next r ∧ r.out = [.uart byte.toNat] ∧ OnlyRegs s r [] ∧ SameMemory s r)
  ∧ (∀ (t : Nat) (byte : Byte) (s : State), s.on (.eph .dbgOpen) 0 = false → ∃ r, exec (.uartReceive t byte) s = .next r
      ∧ r.out = [] ∧ OnlyRegs s r [] ∧ SameMemory s r)
  ∧ (∀ (t : Nat) (v : Bool) (s : State), ∃ r, exec (.pcieConfigWrite t (.busMaster v)) s = .next r ∧ r.host = { s.host with busMaster := v }
      ∧ OnlyRegs s r [] ∧ SameMemory s r)
  ∧ (∀ (t : Nat) (n : Fin 7) (s : State), ∃ r, exec (.pcieConfigWrite t (.bar2Size n)) s = .next r
      ∧ r.host = { s.host with bar2Log := 28 + n.val } ∧ OnlyRegs s r [] ∧ SameMemory s r)
  ∧ (∀ (t : Nat) (s : State), ∃ r, exec (.pcieConfigWrite t (.functionMask true)) s = .next r
      ∧ (∀ v, v < 64 → bit r.host.vecMask v = true) ∧ r.host.vecPend = s.host.vecPend ∧ OnlyRegs s r [] ∧ SameMemory s r)
  ∧ (∀ (t : Nat) (s : State), s.host.d3hot = false → ∃ r, exec (.pcieConfigWrite t (.functionMask false)) s = .next r ∧ r.host.vecMask = 0
      ∧ r.out = ((List.range 64).filter (bit s.host.vecPend)).map Output.vector ∧ OnlyRegs s r [] ∧ SameMemory s r)
  ∧ (∀ (t : Nat) (u : Upload) (s : State), s.host.ephUp = some u → ∃ r, exec (.flashEraseDone t false) s = .next r
      ∧ r.host.ephUp = some { u with erased := true } ∧ OnlyRegs s r [] ∧ SameMemory s r)
  ∧ (∀ (t : Nat) (s : State), s.rd (.pwr .stateState) 0 ≠ 3 → ∃ r, exec (.smbusStatusRead t true) s = .next r
      ∧ Raised s r .ls 0 0x19C1 ∧ OnlyRegsAndEvents s r [] ∧ SameMemory s r)

/-- Presets, the debug port's end and the full reload. PRESET_GO with preset 0, or with one the image in force holds, clears BAD and keeps
the number; without an image in force it sets BAD and NUM reads back the previous number (R61). The debug port locks when its duration has
passed (R62). FULL_RELOAD of an Observer that is online, once the stop fades have ended, begins the reload: STATE is RELOADING, the step
is 3, and no cluster runs (R53). -/
def Obligations.PresetsAndReload : Prop :=
  (∀ (t : Nat) (im : Image) (s : State), s.eph.inForce = some im → s.rd (.eph .presetNum) 0 = 0 →
      ∃ r, exec (.presetGo t) s = .next r ∧ r.rd (.eph .presetBad) 0 = 0 ∧ r.eph.preset = 0)
  ∧ (∀ (t : Nat) (s : State), s.eph.inForce = none → ∃ r, exec (.presetGo t) s = .next r ∧ r.rd (.eph .presetBad) 0 = 1
      ∧ r.rd (.eph .presetNum) 0 = s.eph.preset % 2 ^ 7 ∧ OnlyRegs s r [(.eph .presetBad, 0), (.eph .presetNum, 0)] ∧ SameMemory s r)
  ∧ (∀ (t u : Nat) (s : State), s.eph.dbgUntil = some u → u ≤ max s.now t → ∃ r, exec (.debugUnlockExpiry t) s = .next r
      ∧ r.rd (.eph .dbgOpen) 0 = 0 ∧ r.rd (.eph .dbgScope) 0 = 0 ∧ r.eph.dbgUntil = none
      ∧ OnlyRegs s r [(.eph .dbgOpen, 0), (.eph .dbgScope, 0)] ∧ SameMemory s r)
  ∧ (∀ (t : Nat) (s : State), s.eph.reload.isSome = true → s.obsOnline = true → s.running = true → s.rd (.eph .statusState) 0 ≠ 3 →
      s.stopsEnded = true → ∃ r, exec (.fullReload t none) s = .next r ∧ r.rd (.eph .statusState) 0 = 3 ∧ r.rd (.pwr .stateStep) 0 = 3
      ∧ (∀ c : Fin 4, r.chr[c].running = false ∧ r.lensAllLow c) ∧ r.eph.swap = none ∧ SameMemory s r)
  ∧ (∀ (t : Nat) (p : Preset) (im : Image) (s : State), s.eph.inForce = some im → s.rd (.eph .presetNum) 0 ≠ 0 →
      im.plan.presets.find? (fun x => x.num == s.rd (.eph .presetNum) 0) = some p → ∃ r, exec (.presetGo t) s = .next r
      ∧ r.rd (.eph .presetBad) 0 = 0 ∧ r.eph.preset = s.rd (.eph .presetNum) 0)

/-- Light is off when power ends or the module is fatal. From every state that has not ended yet: a VIN below 4.30 V, one above 19.0 V and
a reset leave the module in POWER_DOWN with HBM and the plate store empty (R354, R356, R369, R370); a rail out of regulation, a front-end
PLL that does not relock, the loss of lock of PLL 0, a failed die-to-die link and a report of class X by a unit that is present leave it
FATAL (R28, R362, R435); and junction temperatures of 110 °C or more leave it THERMAL_OFF (R373). In each case every LEN of every cluster
is low afterwards. -/
def Obligations.PowerEnds : Prop :=
  (∀ (t vin : Nat) (cut : Option BusCut) (e : SaveEnd) (s : State), vin < 4300 → s.rd (.pwr .stateState) 0 ≠ 3 →
      ∃ r, exec (.powerFail t vin cut e) s = .next r
      ∧ r.rd (.pwr .stateState) 0 = 3 ∧ r.hbm = [] ∧ r.plate = [] ∧ ∀ c, r.lensAllLow c)
  ∧ (∀ (t vin : Nat) (cut : Option BusCut) (e : SaveEnd) (s : State), 19000 < vin → s.rd (.pwr .stateState) 0 ≠ 3 →
      ∃ r, exec (.overvoltage t vin cut e) s = .next r
      ∧ r.rd (.pwr .stateState) 0 = 3 ∧ r.hbm = [] ∧ r.plate = [] ∧ ∀ c, r.lensAllLow c)
  ∧ (∀ (t : Nat) (cut : Option BusCut) (e : SaveEnd) (s : State), s.rd (.pwr .stateState) 0 ≠ 3 → ∃ r, exec (.resetIn t cut e) s = .next r
      ∧ r.rd (.pwr .stateState) 0 = 3 ∧ r.hbm = [] ∧ r.plate = [] ∧ ∀ c, r.lensAllLow c)
  ∧ (∀ (t rail value : Nat) (s : State), s.rd (.pwr .stateState) 0 < 3 → ∃ r, exec (.railOutOfRegulation t rail value) s = .next r
      ∧ r.rd (.pwr .stateState) 0 = 5 ∧ r.pwr.faultOut = true ∧ ∀ c, r.lensAllLow c)
  ∧ (∀ (t : Nat) (s : State), s.pllLocked 6 = false → (State.pllDomains 6).any s.domOn = true → ∃ r, exec (.frontendRelockTimeout t) s = .next r
      ∧ r.rd (.pwr .stateState) 0 = 5 ∧ ∀ c, r.lensAllLow c)
  ∧ (∀ (t : Nat) (s : State), s.pllLocked 0 = true → ∃ r, exec (.pllLockLoss t 0) s = .next r
      ∧ r.rd (.pwr .stateState) 0 = 5 ∧ ∀ c, r.lensAllLow c)
  ∧ (∀ (t : Nat) (d : Fin 2) (laneLock : Bool) (s : State), s.domOn 13 = true → s.domOn 14 = true → ∃ r, exec (.d2dLinkFailure t d laneLock) s = .next r
      ∧ r.rd (.pwr .stateState) 0 = 5 ∧ r.rd (.st .die .lastclass) d = 5 ∧ ∀ c, r.lensAllLow c)
  ∧ (∀ (t i sub : Nat) (u : UType) (n : Fin 64) (items : List (Nat × Nat)) (s : State), s.fusedOff u i = false → ∃ r, exec (.errorReport t u i sub 5 n items) s = .next r
      ∧ r.rd (.pwr .stateState) 0 = 5 ∧ r.pwr.faultOut = true ∧ ∀ c, r.lensAllLow c)
  ∧ (∀ (t : Nat) (compute io : Vector Int 4) (hbm : Int) (s : State), s.rd (.pwr .stateState) 0 ≠ 3 → s.rd (.pwr .stateState) 0 ≠ 4 →
      1760 ≤ max (hottest compute).1 (hottest io).1 → ∃ r, exec (.tjSample t compute io hbm) s = .next r
      ∧ r.rd (.pwr .stateState) 0 = 4 ∧ r.hbm = [] ∧ ∀ c, r.lensAllLow c)

/-- Clocks, monitors and domains. A running PLL other than PLL 0 that loses lock shows it, counts it and raises a class D event (R362);
one that relocks shows it with 0x2A81. REFCLK becomes valid with 0x1A83, and its loss while no fast domain runs only clears its bit
(R363). Temperatures and the input power show what the sensors read, held to their widths (R373, R374). The hold-up's energy shows at
start, and below 5 mJ raises 0x2949 once (R367). A domain that does not reach power-good is off (R358). A VIN from 4.30 V is no power
failure and one up to 19.0 V no overvoltage: it only shows (R354). -/
def Obligations.ClocksAndMonitors : Prop :=
  (∀ (t : Nat) (i : Fin 8) (s : State), s.pllLocked i = true → i ≠ 0 → ∃ r, exec (.pllLockLoss t i) s = .next r ∧ r.pllLocked i = false
      ∧ Bumped s r (.pwr .pllUnlocks) 0 ∧ r.rd (.st .pll .lastclass) i = 2)
  ∧ (∀ (t : Nat) (i : Fin 8) (s : State), s.pllLocked i = false → (State.pllDomains i).any s.domOn = true → s.rd (.pwr .pllLock) 0 < 2 ^ 8 →
      ∃ r, exec (.pllRelock t i) s = .next r ∧ r.pllLocked i = true ∧ Raised s r .pll i 0x2A81
      ∧ OnlyRegsAndEvents s r [(.pwr .pllLock, 0)] ∧ SameMemory s r)
  ∧ (∀ (t : Nat) (err : Int) (s : State), s.rd (.pwr .stateState) 0 ≠ 3 → s.on (.pwr .stateRefclkOk) 0 = false →
      ∃ r, exec (.refclkValid t err) s = .next r ∧ r.rd (.pwr .stateRefclkOk) 0 = 1 ∧ Raised s r .pll 7 0x1A83
      ∧ OnlyRegsAndEvents s r [(.pwr .stateRefclkOk, 0)] ∧ SameMemory s r)
  ∧ (∀ (t : Nat) (s : State), s.on (.pwr .stateRefclkOk) 0 = true → s.rd (.pwr .domOnOn) 0 < 4 → ∃ r, exec (.refclkLost t) s = .next r
      ∧ r.rd (.pwr .stateRefclkOk) 0 = 0 ∧ r.pwr.refLost = true ∧ OnlyRegs s r [(.pwr .stateRefclkOk, 0)] ∧ SameMemory s r)
  ∧ (∀ (t : Nat) (compute io : Vector Int 4) (hbm : Int) (s : State), s.rd (.pwr .stateState) 0 ≠ 3 →
      max (hottest compute).1 (hottest io).1 < 1760 → ∃ r, exec (.tjSample t compute io hbm) s = .next r
      ∧ r.rd (.pwr .tempCompute) 0 = unsigned 16 (satI 16 (hottest compute).1) ∧ r.rd (.pwr .tempIo) 0 = unsigned 16 (satI 16 (hottest io).1)
      ∧ r.rd (.pwr .temp2Hbm) 0 = unsigned 16 (satI 16 hbm) ∧ SameMemory s r)
  ∧ (∀ (t pin vin iin : Nat) (s : State), s.rd (.pwr .stateState) 0 < 2 → ∃ r, exec (.powerShedStep t pin vin iin) s = .next r
      ∧ r.rd (.pwr .powerPin) 0 = satN 16 pin ∧ r.rd (.pwr .vinVin) 0 = satN 16 vin ∧ r.rd (.pwr .vinIin) 0 = satN 16 iin)
  ∧ (∀ (t energy : Nat) (s : State), s.rd (.pwr .stateState) 0 = 0 → s.rd (.pwr .stateStep) 0 = 0 → ∃ r, exec (.holdupTimeout t energy) s = .next r
      ∧ r.rd (.pwr .holdupEnergy) 0 = satN 16 energy ∧ r.rd (.pwr .stateHoldupOk) 0 = b2n (decide (5000 ≤ energy))
      ∧ (energy < 5000 → s.pwr.holdupLate = false → Raised s r .pwr 0 0x2949) ∧ SameMemory s r)
  ∧ (∀ (t : Nat) (d : Fin 50) (s : State), s.domOn d = true → ∃ r, exec (.powerGoodTimeout t d) s = .next r ∧ r.domOn d = false)
  ∧ (∀ (t vin : Nat) (cut : Option BusCut) (e : SaveEnd) (s : State), 4300 ≤ vin → ∃ r, exec (.powerFail t vin cut e) s = .next r
      ∧ r.rd (.pwr .vinVin) 0 = satN 16 vin ∧ OnlyRegs s r [(.pwr .vinVin, 0)] ∧ SameMemory s r)
  ∧ (∀ (t vin : Nat) (cut : Option BusCut) (e : SaveEnd) (s : State), vin ≤ 19000 → ∃ r, exec (.overvoltage t vin cut e) s = .next r
      ∧ r.rd (.pwr .vinVin) 0 = satN 16 vin ∧ OnlyRegs s r [(.pwr .vinVin, 0)] ∧ SameMemory s r)

/-- Starts, deep standby and wakes. A VIN of 4.45 V and more after a power failure, and below 18.0 V after an overvoltage, begins a new
power cycle, and any other VIN none (R354, R356): memories are empty, the module is in start-up, and what the Almanac holds is kept
(R355). Deep standby is entered from RUNNING once the stop fades have ended, by the host's write and by the keyed SMBus write (R365); a
bad PEC is ignored with 0x19C1 (R389). A wake over SMBus or over the chain leaves deep standby, and the thermal restart leaves THERMAL_OFF
below 90 °C, each into start-up with step 3 done (R365, R373, R411). -/
def Obligations.StartsAndStandby : Prop :=
  (∀ (t : Nat) (x : StartReport) (s : State), s.rd (.pwr .stateState) 0 = 3 → 4450 ≤ x.vin → (s.pwr.overVolt = true → x.vin < 18000) →
      x.upto = 0 → ∃ r, exec (.startup t x) s = .next r
      ∧ r.rd (.pwr .stateState) 0 = 0 ∧ r.hbm = [] ∧ r.plate = [] ∧ r.raw = s.raw ∧ r.alm.objs = s.alm.objs ∧ r.log.slots = s.log.slots
      ∧ r.pwr.startAt = x.startAt ∧ r.rd (.pwr .vinVin) 0 = satN 16 x.vin)
  ∧ (∀ (t : Nat) (s : State), s.running = true → s.pwr.standbyPend = true → s.stopsEnded = true → ∃ r, exec (.standbyEnter t) s = .next r
      ∧ r.rd (.pwr .stateState) 0 = 2 ∧ r.hbm = [] ∧ r.plate = [] ∧ r.raw = s.raw)
  ∧ (∀ (t : Nat) (s : State), s.running = true → s.pwr.standbyPend = true → s.stopsEnded = true →
      ∃ r, exec (.smbusStandby t 0xA5 false) s = .next r ∧ r.rd (.pwr .stateState) 0 = 2 ∧ r.hbm = [] ∧ r.plate = [] ∧ r.raw = s.raw)
  ∧ (∀ (t : Nat) (key : Byte) (s : State), s.rd (.pwr .stateState) 0 ≠ 3 → ∃ r, exec (.smbusStandby t key true) s = .next r
      ∧ Raised s r .ls 0 0x19C1 ∧ OnlyRegsAndEvents s r [] ∧ SameMemory s r)
  ∧ (∀ (t : Nat) (x : StartReport) (s : State), s.rd (.pwr .stateState) 0 = 2 → x.upto ≤ 3 → ∃ r, exec (.smbusWake t 0x5A false x) s = .next r
      ∧ r.rd (.pwr .stateState) 0 = 0 ∧ r.rd (.pwr .stateStep) 0 = 3 ∧ r.raw = s.raw)
  ∧ (∀ (t : Nat) (x : StartReport) (s : State), s.rd (.pwr .stateState) 0 = 4 → x.upto ≤ 3 →
      max (s.rdI (.pwr .tempCompute) 0) (s.rdI (.pwr .tempIo) 0) < 1440 → ∃ r, exec (.smbusThermalRestart t 0x3C false x) s = .next r
      ∧ r.rd (.pwr .stateState) 0 = 0 ∧ r.rd (.pwr .stateStep) 0 = 3 ∧ r.raw = s.raw)
  ∧ (∀ (t : Nat) (x : StartReport) (s : State), s.rd (.pwr .stateState) 0 = 3 → x.vin < 4450 ∨ (s.pwr.overVolt = true ∧ 18000 ≤ x.vin) →
      ∃ r, exec (.startup t x) s = .next r ∧ OnlyRegs s r [] ∧ SameMemory s r)

/-- Reports, the ring and its saves. A report of class A, D or M leaves its class and count in the unit's status word and changes no
register but those of reports (R16), and it is merged into a queued report of its path and code, and otherwise takes a free shared entry
at the end of the queue (R329, R330). A queue entry that drains becomes the newest record of the ring with the next SEQ (R327, R329).
LOG_TRIGGER raises 0x1B06 and asks for a freeze, which freezes the ring or skips the save once its records are taken (R333). The end of a
save lets the ring resume with 0x1B02, and a release clears KEEP of its slot (R334). -/
def Obligations.LogbookCommands : Prop :=
  (∀ (t i sub : Nat) (u : UType) (cls : Fin 6) (n : Fin 64) (items : List (Nat × Nat)) (s : State), 1 ≤ cls.val → cls.val ≤ 3 →
      ∃ r, exec (.errorReport t u i sub cls n items) s = .next r ∧ Raised s r u i (cls.val * 4096 + u.code * 64 + n.val)
      ∧ OnlyRegsAndEvents s r [] ∧ SameMemory s r
      ∧ (s.fusedOff u i = false →
          Enqueued s r (pathOf u i (State.subOf u sub)) (cls.val * 4096 + u.code * 64 + n.val) (s.advance t).wall (packData items)))
  ∧ (∀ (t : Nat) (q : Report) (qs : List Report) (s : State), s.ringAccepts = true → s.log.xreg = [] → s.log.queue = q :: qs →
      s.rd (.log .seqSeq) 0 < 2 ^ 32 → ∃ r x, exec (.queueDrain t) s = .next r ∧ r.log.ring.head? = some x ∧ x.code = q.code ∧ x.time = q.time
      ∧ x.data = q.data ∧ x.seq = s.rd (.log .seqSeq) 0 ∧ r.rd (.log .seqSeq) 0 = (s.rd (.log .seqSeq) 0 + 1) % 2 ^ 32 ∧ SameMemory s r)
  ∧ (∀ (t : Nat) (s : State), s.log.saving = none → s.on (.log .statFrozen) 0 = false → ∃ r, exec (.logTriggerHost t) s = .next r
      ∧ Raised s r .log 0 0x1B06 ∧ r.log.freeze.isSome = true ∧ OnlyRegsAndEvents s r [] ∧ SameMemory s r)
  ∧ (∀ (t cause due time : Nat) (s : State), s.log.freeze = some (cause, 0, due, time) → (s.advance t).triggerWaits = false → ∃ r, exec (.logFreeze t) s = .next r
      ∧ r.rd (.log .statCause) 0 = cause % 2 ^ (Fld.info (.log .statCause)).width ∧ SameMemory s r)
  ∧ (∀ (t cause time : Nat) (slot : Fin 2) (s : State), s.log.saving = some (cause, slot.val, time) → ∃ r, exec (.logbookSaveDone t) s = .next r
      ∧ r.log.saving = none ∧ r.rd (.log .statSaving) 0 = 0 ∧ r.rd (.log .statFrozen) 0 = 0 ∧ r.log.slots[slot] = s.log.ring.reverse
      ∧ (r.log.saves[slot]).cause = cause ∧ Raised s r .log 0 0x1B02 ∧ SameMemory s r)
  ∧ (∀ (t : Nat) (slot : Fin 2) (s : State), ∃ r, exec (.logRelease t slot) s = .next r ∧ (r.log.saves[slot]).keep = false
      ∧ r.rd (if slot = 0 then .log .statKeep0 else .log .statKeep1) 0 = 0 ∧ SameMemory s r)

/-- Objects are stored and checkpoints taken. The store of an object that waits is written and waits no longer: its value is the payload
and it counts in OBJWR (R316, R317); while a Logbook save holds the bus it waits on (R322). The store of the power-cycle counter in
start-up step 3 ends that step (R319, R366). A checkpoint writes the shadow image at once, and waits with BUSY while a save is in progress
(R324); CHECKPOINT does nothing while its interval is 0. No byte of memory changes. -/
def Obligations.AlmanacCommands : Prop :=
  (∀ (t oid : Nat) (x : AlmStore) (s : State), s.alm.stores.find? (fun x => x.oid == oid) = some x → (oid ≤ 0x1B → s.duty 6 = true) → s.log.saving = none →
      ∃ r, exec (.objectStore t oid) s = .next r ∧ (∀ y ∈ r.alm.stores, y.oid ≠ oid) ∧ Bumped s r (.alm .cntObjwr) 0
      ∧ r.almVal oid = some x.payload ∧ (oid = 0x300 → s.rd (.pwr .stateStep) 0 = 2 → r.rd (.pwr .stateStep) 0 = 3)
      ∧ OnlyRegs s r ([(.alm .cntObjwr, 0), (.alm .busQueued, 0)] ++ if oid = 0x300 then [(.alm .pcyclesCount, 0), (.pwr .stateStep, 0)] else [])
      ∧ SameMemory s r)
  ∧ (∀ (t oid : Nat) (s : State), s.log.saving.isSome = true → ∃ r, exec (.objectStore t oid) s = .next r ∧ r.alm = s.alm
      ∧ OnlyRegs s r [] ∧ SameMemory s r)
  ∧ (∀ (t : Nat) (s : State), s.log.saving.isSome = true → ∃ r, exec (.checkpointNow t) s = .next r ∧ r.rd (.alm .ckptBusy) 0 = 1
      ∧ OnlyRegs s r [(.alm .ckptBusy, 0)] ∧ SameMemory s r)
  ∧ (∀ (t : Nat) (s : State), s.log.saving = none → ∃ r, exec (.checkpointNow t) s = .next r ∧ r.rd (.alm .ckptBusy) 0 = 0
      ∧ Bumped s r (.alm .cntObjwr) 0 ∧ OnlyRegs s r [(.alm .ckptBusy, 0), (.alm .cntObjwr, 0), (.alm .busQueued, 0), (.alm .ckptTimeTime, 0)] ∧ SameMemory s r)
  ∧ (∀ (t : Nat) (s : State), s.rd (.alm .ckptMin) 0 ≠ 0 → s.domOn 1 = true → s.log.saving = none → ∃ r, exec (.checkpoint t) s = .next r
      ∧ Bumped s r (.alm .cntObjwr) 0 ∧ SameMemory s r)
  ∧ (∀ (t : Nat) (s : State), s.rd (.alm .ckptMin) 0 = 0 → ∃ r, exec (.checkpoint t) s = .next r ∧ OnlyRegs s r [] ∧ r.alm = s.alm ∧ SameMemory s r)

/-- The archive drive and its recorder. A drive that misses a requirement is refused with 0x2884, and one without an archive waits unless
AUTOINIT is set (R338, R340). A command that times out or fails is tried again with an abort (R339). A drive that is gone stops the
archive with 0x2882. A poll shows the drive's temperature and warnings. A sample of a recording archive is gathered (R344), and one of a
ring that is disabled stops the ring (R349). A flush without a recording drive keeps the digests' anchors, and a Flush that completes
shows the records it has made safe (R351). A pre-trigger flush that has taken everything ends with 0x1702 (R350). A Logbook save that has
not been copied is copied once (R348). A drive with an archive of this module resumes recording with 0x1701 (R352). No byte of HBM, of the
plate store or of the raw area changes where so stated. -/
def Obligations.ArchiveCommands : Prop :=
  (∀ (t n : Nat) (d : Drive) (s : State), s.domOn 3 = true → (s.running = true → s.heldLive = []) → State.driveFault d = some n →
      ∃ r, exec (.driveAttach t d) s = .next r ∧ r.rd (.arc .stateState) 0 = 1 ∧ Raised s r .nvme 0 0x2884 ∧ SameMemory s r)
  ∧ (∀ (t : Nat) (d : Drive) (s : State), s.domOn 3 = true → (s.running = true → s.heldLive = []) → State.driveFault d = none → superOf d = none →
      s.on (.arc .cfgAutoinit) 0 = false → ∃ r, exec (.driveAttach t d) s = .next r ∧ r.rd (.arc .stateState) 0 = 2 ∧ r.arc.drive = some d
      ∧ Raised s r .nvme 0 0x1881 ∧ SameMemory s r)
  ∧ (∀ (t id : Nat) (x : NvmeCmd) (s : State), s.arc.cmds.find? (fun y => y.id == id) = some x → x.wasReset = false →
      ∃ r, exec (.nvmeCommandTimeout t id) s = .next r ∧ r.out = [.nvme x.id 3 [], .nvme x.id x.kind x.data]
      ∧ r.arc.cmds = s.arc.cmds.map (fun y => if y.id == x.id then { x with tries := x.tries + 1, wasReset := decide (3 ≤ x.tries + 1) } else y)
      ∧ OnlyRegs s r [] ∧ SameMemory s r)
  ∧ (∀ (t id : Nat) (x : NvmeCmd) (s : State), s.arc.cmds.find? (fun y => y.id == id) = some x → x.wasReset = false →
      ∃ r, exec (.nvmeCommandComplete t id false) s = .next r ∧ r.out = [.nvme x.id 3 [], .nvme x.id x.kind x.data]
      ∧ r.arc.cmds = s.arc.cmds.map (fun y => if y.id == x.id then { x with tries := x.tries + 1, wasReset := decide (3 ≤ x.tries + 1) } else y)
      ∧ OnlyRegs s r [] ∧ SameMemory s r)
  ∧ (∀ (t id : Nat) (x : NvmeCmd) (s : State), s.arc.cmds.find? (fun y => y.id == id) = some x → x.kind ≠ 1 → x.kind ≠ 2 →
      ∃ r, exec (.nvmeCommandComplete t id true) s = .next r ∧ r.arc.cmds = s.arc.cmds.filter (fun y => y.id != id) ∧ OnlyRegs s r [] ∧ SameMemory s r)
  ∧ (∀ (t : Nat) (s : State), s.rd (.arc .stateState) 0 = 3 → ∃ r, exec (.nvmeLinkDown t) s = .next r ∧ r.rd (.arc .stateState) 0 = 5
      ∧ r.arc.drive = none ∧ Raised s r .nvme 0 0x2882 ∧ SameMemory s r)
  ∧ (∀ (t : Nat) (m : Smart) (s : State), s.arc.drive.isSome = true → s.duty 1 = true → ∃ r, exec (.smartPoll t m) s = .next r
      ∧ r.rd (.arc .driveTemp) 0 = m.temp % 2 ^ (Fld.info (.arc .driveTemp)).width
      ∧ r.rd (.arc .driveCritwarn) 0 = m.critWarn % 2 ^ (Fld.info (.arc .driveCritwarn)).width ∧ SameMemory s r)
  ∧ (∀ (t : Nat) (c : Fin 4) (late bad : List Nat) (f : FrameRec) (s : State), s.sampleFrame c = some f → s.recording = true → s.domOn 47 = true →
      (s.arc.outs[c].samples.any fun x => x.frame == f.num && !x.ring) = false →
      ∃ r x, exec (.archiveSampleTick t c late bad) s = .next r ∧ r.arc.outs[c].samples = s.arc.outs[c].samples ++ [x] ∧ x.frame = f.num
      ∧ r.arc.outs[c].base = some f.num ∧ r.hbm = s.hbm ∧ r.plate = s.plate ∧ r.raw = s.raw)
  ∧ (∀ (t : Nat) (c : Fin 4) (f : FrameRec) (s : State), s.sampleFrame c = some f → s.on (.arc .cfgRingen) 0 = false →
      ∃ r, exec (.ringSample t c) s = .next r ∧ r.rd (.arc .stateRingok) 0 = 0 ∧ OnlyRegs s r [(.arc .stateRingok, 0)] ∧ SameMemory s r)
  ∧ (∀ (t : Nat) (c : Fin 4) (f : FrameRec) (s : State), s.sampleFrame c = some f → s.on (.arc .cfgRingen) 0 = true → s.domOn 47 = true →
      s.unitFatal .arc 0 = false → s.ringFrozen = false → (∀ n, (s.makeRoom n s.arc.ring.length s.arc.ring).isSome = true) → ∃ r x, exec (.ringSample t c) s = .next r ∧ r.rd (.arc .stateRingok) 0 = 1
      ∧ r.arc.outs[c].samples = s.arc.outs[c].samples ++ [x] ∧ x.frame = f.num ∧ x.ring = true ∧ OnlyRegs s r [(.arc .stateRingok, 0)] ∧ SameMemory s r)
  ∧ (∀ (t : Nat) (f : ArcFlush) (s : State), (s.advance t).takeTriggers.runFlush.arc.flush = some f →
      (s.advance t).takeTriggers.runFlush.flushEnds f = true →
      ∃ r, exec (.ringFlushDone t) s = .next r ∧ r.arc.flush = none ∧ r.rd (.arc .stateFlushing) 0 = 0 ∧ r.rd (.st .arc .lastclass) 0 = 1)
  ∧ (∀ (t : Nat) (s : State), s.domOn 1 = true → s.recording = false → ∃ r, exec (.archiveFlushTick t) s = .next r
      ∧ (∀ c : Fin 4, r.arc.outs[c].digests = [] ∧ r.arc.outs[c].flushed = s.arc.outs[c].latest) ∧ SameMemory s r)
  ∧ (∀ (t : Nat) (x : NvmeCmd) (s : State), s.arc.cmds.find? (fun y => y.kind == 2) = some x → ∃ r, exec (.archiveFlushDone t) s = .next r
      ∧ r.rd (.arc .headRseq) 0 = s.arc.flushUpto % 2 ^ 64 ∧ (∀ y ∈ r.arc.cmds, y.id ≠ x.id) ∧ SameMemory s r)
  ∧ (∀ (t saveSeq : Nat) (slot : Fin 2) (s : State), s.recording = true → s.duty 5 = true → (s.log.saves[slot]).saveSeq = saveSeq → saveSeq ≠ 0 →
      (s.log.saves[slot]).valid = true → s.domOn 47 = true →
      s.arc.logCopied.contains saveSeq = false → ∃ r, exec (.logbookArchiveCopy t slot saveSeq) s = .next r
      ∧ r.arc.logCopied = saveSeq :: s.arc.logCopied ∧ SameMemory s r)
  ∧ (∀ (t : Nat) (d : Drive) (s : State), s.arc.drive = some d → s.rd (.arc .stateState) 0 = 2 → (superOf d).isSome = true →
      ∃ r, exec (.archiveResume t) s = .next r ∧ r.rd (.arc .stateState) 0 = 3 ∧ Raised s r .arc 0 0x1701 ∧ SameMemory s r)

/-- A field that a host write stores and that does nothing else (R9, R11, R12, R440): it enables no unit, belongs to no training engine and starts nothing. -/
def PlainField (f : Fld) (i : Nat) : Prop :=
  f.info.acc = .rw ∧ enableOf f = none ∧ engineField f = false ∧ State.actsOnWrite f = false ∧ State.fixedField f i = false

/-- A host's aligned access to a word of a present cluster or of a global block that is no status word. -/
def WordAccess (s : State) (a : Nat) : Prop :=
  a < bar0End ∧ a % 4 = 0 ∧ s.host.d3hot = false ∧ statusAt a = none ∧ ∀ c, addrCluster a = some c → s.clusterOn c = true

/-- The writable fields of a word, each with its instance. -/
def rwFields (a : Nat) : List (Fld × Nat) := ((fieldsAt a).filter fun x => x.1.info.acc == .rw).map fun x => (x.1, x.2.1)

/-- The bits of a written word that a field of its first word takes. -/
def putIn (f : Fld) (data : Nat) : Nat := bits data f.info.lo f.info.width

/-- A word of one register whose writable fields are plain ones of one apply class outside a page in force; its command bits are
written 0. -/
def PlainWord (s : State) (a data : Nat) (k : ApplyClass) : Prop :=
  rwFields a ≠ [] ∧ ∀ x ∈ fieldsAt a, x.2.2 = 0 ∧ x.1.info.lo + x.1.info.width ≤ 32 ∧ engineField x.1 = false
    ∧ (x.1.info.acc = .rw → PlainField x.1 x.2.1 ∧ x.1.info.apply = k ∧ s.pageLocked x.1 x.2.1 = false)
    ∧ (x.1.info.acc = .w1s ∨ x.1.info.acc = .w1c → putIn x.1 data = 0) ∧ x.1.info.acc ≠ .wo

/-- A register write follows its apply class. A host write completes with success. A word of Meridian fields puts their values into the
cluster's shadow set and changes no register (R12), and one of them with a reserved encoding is recorded once with cause 2 besides (R445);
a word of Live fields that are no table words and not asleep stores each, and a word of Static fields stores each while its unit does not
run, and is recorded once with cause 1 while it does, unless every field keeps its value (R11); a write without a register behind it is
recorded with cause 6 (R445); a write of bit 2 of a status word clears FATAL (R16); the low word of a wide value waits for its high word,
and a write of the high word stores the whole value (R10). A read of PIX_LAYER_RETIRE returns the oldest retire, which is popped (R84).
Where a field clamps, the clamped value is stored. -/
def Obligations.RegisterWrites : Prop :=
  (∀ (t addr : Nat) (data : Word) (s : State), WordAccess s addr → PlainWord s addr data.toNat .meridian →
      (∀ x ∈ rwFields addr, reservedWrite x.1 (putIn x.1 data.toNat) = false) →
      ∃ r, exec (.registerWrite t addr data) s = .next r ∧ r.completion = ⟨.ok, []⟩
      ∧ r.shadow = ((rwFields addr).map fun x => ⟨x.1, x.2, putIn x.1 data.toNat % 2 ^ x.1.info.width, max s.now t, false⟩).reverse ++ s.shadow
      ∧ OnlyRegs s r [] ∧ SameMemory s r)
  ∧ (∀ (t addr : Nat) (data : Word) (s : State), WordAccess s addr → PlainWord s addr data.toNat .meridian →
      (∃ x ∈ rwFields addr, reservedWrite x.1 (putIn x.1 data.toNat) = true) →
      ∃ r, exec (.registerWrite t addr data) s = .next r ∧ r.completion = ⟨.ok, []⟩
      ∧ r.shadow = ((rwFields addr).map fun x => ⟨x.1, x.2, putIn x.1 data.toNat % 2 ^ x.1.info.width, max s.now t, false⟩).reverse ++ s.shadow
      ∧ r.rd (.glb .applyErrLastCause) 0 = 2 ∧ r.rd (.glb .applyErrLastAddr) 0 = addr
      ∧ Bumped s r (.glb .applyErrCntCount) 0 ∧ OnlyRegs s r (applyErrFields.map fun g => (g, 0)) ∧ SameMemory s r)
  ∧ (∀ (t addr : Nat) (data : Word) (s : State), WordAccess s addr → PlainWord s addr data.toNat .live →
      (∀ x ∈ rwFields addr, State.tableOf x.1 x.2 = none ∧ x.1 ≠ .pln .schedWord ∧ s.sleeping x.1 x.2 = false
        ∧ reservedWrite x.1 (putIn x.1 data.toNat) = false) →
      ∃ r, exec (.registerWrite t addr data) s = .next r ∧ r.completion = ⟨.ok, []⟩
      ∧ (∀ x ∈ rwFields addr, r.rd x.1 x.2 = clampWrite x.1 (putIn x.1 data.toNat) % 2 ^ x.1.info.width)
      ∧ OnlyRegs s r (rwFields addr) ∧ SameMemory s r)
  ∧ (∀ (t addr : Nat) (data : Word) (s : State), WordAccess s addr → PlainWord s addr data.toNat .static →
      (∀ x ∈ rwFields addr, s.staticLocked x.1 x.2 = false ∧ reservedWrite x.1 (putIn x.1 data.toNat) = false) →
      ∃ r, exec (.registerWrite t addr data) s = .next r ∧ r.completion = ⟨.ok, []⟩
      ∧ (∀ x ∈ rwFields addr, r.rd x.1 x.2 = clampWrite x.1 (putIn x.1 data.toNat))
      ∧ OnlyRegs s r (rwFields addr) ∧ SameMemory s r)
  ∧ (∀ (t addr : Nat) (data : Word) (s : State), WordAccess s addr → PlainWord s addr data.toNat .static →
      (∀ x ∈ rwFields addr, s.staticLocked x.1 x.2 = true) → (∃ x ∈ rwFields addr, clampWrite x.1 (putIn x.1 data.toNat) ≠ s.rd x.1 x.2) →
      ∃ r, exec (.registerWrite t addr data) s = .next r ∧ r.rd (.glb .applyErrLastCause) 0 = 1 ∧ r.rd (.glb .applyErrLastAddr) 0 = addr
      ∧ Bumped s r (.glb .applyErrCntCount) 0 ∧ OnlyRegs s r (applyErrFields.map fun g => (g, 0)) ∧ SameMemory s r)
  ∧ (∀ (t addr j v : Nat) (f : Fld) (data : Word) (s : State), WordAccess s addr → fieldsAt addr = [(f, j, 1)] → PlainField f j →
      1 < f.info.words → f.info.lo < 32 → 32 < f.info.lo + f.info.width → s.pageLocked f j = false → f.info.apply = .live →
      State.tableOf f j = none → s.sleeping f j = false → (s.wrHold.find? fun h => h.1 == addr - 4) = some (addr - 4, v) →
      ∃ r, exec (.registerWrite t addr data) s = .next r ∧ r.completion = ⟨.ok, []⟩
      ∧ r.rd f j = (bits v f.info.lo (32 - f.info.lo) + bits data.toNat 0 (f.info.lo + f.info.width - 32) * 2 ^ (32 - f.info.lo)) % 2 ^ f.info.width
      ∧ (∀ h ∈ r.wrHold, h.1 ≠ addr - 4) ∧ OnlyRegs s r [(f, j)] ∧ SameMemory s r)
  ∧ (∀ (t addr : Nat) (data : Word) (s : State), WordAccess s addr → fieldsAt addr = [] → roWindow addr = false →
      ∃ r, exec (.registerWrite t addr data) s = .next r ∧ r.rd (.glb .applyErrLastCause) 0 = 6 ∧ r.rd (.glb .applyErrLastAddr) 0 = addr
      ∧ Bumped s r (.glb .applyErrCntCount) 0 ∧ OnlyRegs s r (applyErrFields.map fun g => (g, 0)) ∧ SameMemory s r)
  ∧ (∀ (t addr i : Nat) (u : UType) (data : Word) (s : State), addr < bar0End → addr % 4 = 0 → s.host.d3hot = false → statusAt addr = some (u, i) →
      (∀ c, addrCluster addr = some c → s.clusterOn c = true) → bit data.toNat 2 = true →
      ∃ r, exec (.registerWrite t addr data) s = .next r ∧ r.rd (.st u .fatal) i = 0 ∧ SameMemory s r)
  ∧ (∀ (t addr j : Nat) (f : Fld) (data : Word) (s : State), WordAccess s addr → fieldsAt addr = [(f, j, 0)] → PlainField f j →
      1 < f.info.words → 32 < f.info.lo + f.info.width → s.pageLocked f j = false →
      ∃ r, exec (.registerWrite t addr data) s = .next r ∧ r.wrHold.head? = some (addr, data.toNat) ∧ OnlyRegs s r [] ∧ SameMemory s r)
  ∧ (∀ (t : Nat) (c : Fin 4) (x : Nat × Nat) (xs : List (Nat × Nat)) (s : State), s.clusterOn c = true → s.host.d3hot = false →
      (∀ y ∈ s.rdLatch, y.1 ≠ Fld.addr (.pix .layerRetireLayer) c) → s.pic[c].retires = x :: xs → x.1 < 8 →
      ∃ r, exec (.retirePop t c) s = .next r ∧ r.completion = ⟨.ok, leBytes 4 (x.1 + 2 ^ 7 + 2 ^ 8 * b2n s.pic[c].retireLost)⟩
      ∧ r.pic[c].retires = xs ∧ r.pic[c].retireLost = false ∧ OnlyRegs s r [] ∧ SameMemory s r)

/-- A unit's class U event and a lost isochronous word. UNIT_FATAL_FAULT of a unit of a present cluster or of a global unit that holds
FATAL sets it (R16, R18); of an essential unit of a cluster it darkens the output (R20), and of a laser channel it holds LEN low (R18).
ISO_WORD_DISCARD raises 0x1742 at the receiving unit (R27); the loss of a photodiode sample changes no other register, that of an LREF
word leaves the old code, that of a LEN descriptor is counted and raises 0x23CC, that of RANGE or LATCH raises 0x2543, and after that of
RANGE every LEN of the cluster is low (R178). -/
def Obligations.UnitFaults : Prop :=
  (∀ (t i sub code : Nat) (u : UType) (items : List (Nat × Nat)) (s : State), 6 ≤ u.code → s.fusedOff u i = false →
      ∃ r, exec (.unitFatalFault t u i sub code items) s = .next r ∧ r.rd (.st u .fatal) i = 1)
  ∧ (∀ (t sub code : Nat) (u : UType) (c : Fin 4) (items : List (Nat × Nat)) (s : State), u = .comp ∨ u = .geo ∨ u = .geoCol ∨ u = .pln ∨ u = .chr →
      s.fusedOff u c = false → ∃ r, exec (.unitFatalFault t u c sub code items) s = .next r ∧ r.light[c].darkened = true
      ∧ (s.light[c].darkened = false → r.lensAllLow c))
  ∧ (∀ (t sub code : Nat) (c : Fin 4) (k : Fin 6) (items : List (Nat × Nat)) (s : State), s.clusterOn c = true →
      ∃ r, exec (.unitFatalFault t .lsrCh (chanInst c k) sub code items) s = .next r ∧ r.light[c].chans[k].len = false)
  ∧ (∀ (t : Nat) (d : Fin 2) (c : Fin 4) (k : Fin 6) (s : State), ∃ r, exec (.isoWordDiscard t d (.pd c k)) s = .next r
      ∧ Raised s r .d2d d 0x1742 ∧ OnlyRegsAndEvents s r [] ∧ r.light = s.light ∧ SameMemory s r)
  ∧ (∀ (t : Nat) (d : Fin 2) (c : Fin 4) (k : Fin 6) (s : State), ∃ r, exec (.isoWordDiscard t d (.dac c k)) s = .next r
      ∧ Raised s r .d2d d 0x1742 ∧ r.light[c].chans[k] = { s.light[c].chans[k] with dacLost := true } ∧ OnlyRegsAndEvents s r [] ∧ SameMemory s r)
  ∧ (∀ (t : Nat) (d : Fin 2) (c : Fin 4) (k : Fin 6) (s : State), ∃ r, exec (.isoWordDiscard t d (.len c k)) s = .next r
      ∧ Raised s r .d2d d 0x1742 ∧ Bumped s r (.lsr .detCntIsolost) (chanInst c k) ∧ Raised s r .lsrCh (chanInst c k) 0x23CC
      ∧ OnlyRegsAndEvents s r [(.lsr .detCntIsolost, chanInst c k)] ∧ SameMemory s r)
  ∧ (∀ (t : Nat) (d : Fin 2) (c : Fin 4) (s : State), ∃ r, exec (.isoWordDiscard t d (.range c)) s = .next r
      ∧ Raised s r .d2d d 0x1742 ∧ r.light[c].rangeLost = true ∧ r.lensAllLow c ∧ Raised s r .lamp c 0x2543 ∧ SameMemory s r)
  ∧ (∀ (t : Nat) (d : Fin 2) (c : Fin 4) (s : State), ∃ r, exec (.isoWordDiscard t d (.latch c)) s = .next r
      ∧ Raised s r .d2d d 0x1742 ∧ r.light[c].latchLost = true ∧ Raised s r .lamp c 0x2543 ∧ OnlyRegsAndEvents s r [] ∧ SameMemory s r)

/-- Meridians, commit requests, closes and wakes. A meridian of a running chronograph that follows no clone source increments FRAME and is
the cluster's last meridian (R135). REQ sets CHR_COMMIT.REQ and notes its instant, and has no further effect while a commit is pending
(R140); a CANCEL before the guard withdraws the commit with event 0x1342 and leaves the shadow set pending (R142). A frame that is no
longer on display closes: its record is gone (R255). A woken output's pseudo-channels leave power-down (R152). -/
def Obligations.MeridiansAndCommits : Prop :=
  (∀ (t : Nat) (c : Fin 4) (s : State), s.clusterOn c = true → s.cfg[c].present = true → s.rd (.pwr .stateStep) 0 = 9 → s.domOn (38 + c.val) = true →
      s.cloneSrc c = none → s.unitFatal .chr c = false → s.stopped.contains (.chr, c.val) = false → s.chr[c].running = true →
      ∃ r, exec (.meridian t c) s = .next r ∧ r.chr[c].meridians = s.chr[c].meridians + 1 ∧ r.chr[c].lastM = max s.now t
      ∧ r.rd (.chr .frameFrame) c = (s.rd (.chr .frameFrame) c + 1) % 2 ^ 32)
  ∧ (∀ (t : Nat) (c : Fin 4) (s : State), s.clusterOn c = true → s.on (.chr .commitReq) c = false → ∃ r, exec (.commitRequest t c) s = .next r
      ∧ r.rd (.chr .commitReq) c = 1 ∧ r.chr[c].reqAt = max s.now t ∧ r.chr[c].late = false ∧ r.chr[c].waited = false ∧ r.shadow = s.shadow
      ∧ OnlyRegs s r [(.chr .commitReq, c), (.chr .heldWake, c)] ∧ SameMemory s r)
  ∧ (∀ (t : Nat) (c : Fin 4) (s : State), s.on (.chr .commitReq) c = true → ∃ r, exec (.commitRequest t c) s = .next r
      ∧ OnlyRegs s r [] ∧ r.chr = s.chr ∧ SameMemory s r)
  ∧ (∀ (t : Nat) (c : Fin 4) (s : State), s.clusterOn c = true → s.on (.chr .commitReq) c = true → (s.advance t).cancelTooLate c = false →
      ∃ r, exec (.commitCancel t c) s = .next r ∧ r.rd (.chr .commitReq) c = 0 ∧ r.rd (.chr .commitFlagsCancelled) c = 1 ∧ r.shadow = s.shadow
      ∧ Raised s r .chr c 0x1342 ∧ SameMemory s r)
  ∧ (∀ (t : Nat) (c : Fin 4) (f : FrameRec) (fs : List FrameRec) (s : State), s.chr[c].running = true → s.pic[c].frames = f :: fs →
      f.num < s.rd (.chr .showFrame) c → s.chr[c].lastF + usCclk 2 ≤ max s.now t → ∃ r, exec (.frameClose t c) s = .next r
      ∧ r.pic[c].frames = fs.filter (fun x => x.num != f.num) ∧ r.pic[c].closedCrcs = f.crcs ∧ SameMemory s r)
  ∧ (∀ (t : Nat) (c : Fin 4) (h : HeldState) (s : State), s.chr[c].held = some h → h.wake.isSome = true → s.heldLive = [] →
      ∃ r, exec (.heldWake t c) s = .next r ∧ SameMemory s r
      ∧ ∀ i, i < 8 → s.rd (.hbm .pcStatePwr) (8 * (regionOf c).val + i) = 1 → r.rd (.hbm .pcStatePwr) (8 * (regionOf c).val + i) = 0)

/-- The instants of a frame on display. F of the next frame shows it and starts its timing with no segment open (R131). G opens the next
segment (R110). A reset that the schedule places at this instant sends its bands' command and awaits its acknowledgement (R109, R162,
R173). At the S of a G the lit channels whose gate is open rise (R136). An A-window and the tail start with every content LEN low (R111,
R119). -/
def Obligations.FrameInstants : Prop :=
  (∀ (t n : Nat) (c : Fin 4) (f : FrameRec) (s : State), s.chr[c].running = true → s.nextShown c = some n → n < 2 ^ 32 →
      (s.wr (.chr .showFrame) c n).shownRec c = some f → ∃ r, exec (.frameStart t c) s = .next r ∧ r.rd (.chr .showFrame) c = n
      ∧ r.chr[c].lastF = max s.now t ∧ r.chr[c].seg = 0 ∧ r.light[c].awin = false)
  ∧ (∀ (t : Nat) (c : Fin 4) (f : FrameRec) (g : Nat × List SchedEntry) (s : State), s.chr[c].running = true → s.shownRec c = some f →
      (State.shownSegs f)[s.chr[c].seg]? = some g → ∃ r, exec (.segmentStart t c) s = .next r ∧ r.chr[c].lastG = max s.now t
      ∧ r.chr[c].seg = s.chr[c].seg + 1 ∧ r.light[c].segPrim = (Fin.ofNat 3 g.1).val ∧ r.light[c].awin = false)
  ∧ (∀ (t first last : Nat) (c : Fin 4) (ent : Option (Nat × Nat)) (f : FrameRec) (s : State), s.chr[c].running = true → s.chr[c].seg ≠ 0 →
      s.shownRec c = some f → first ≤ last → last < s.cfg[c].bands → s.resetDue c f (max s.now t) first last ent = true → s.arrayFed c = true →
      s.drives = true → ∃ r, exec (.planeReset t c first last ent) s = .next r ∧ r.tri[c].cseq = (s.tri[c].cseq + 1) % 65536
      ∧ (∃ a ∈ r.tri[c].acks, a.cseq = s.tri[c].cseq ∧ a.first = first ∧ a.last = last ∧ a.settleAt = max s.now t + s.cfg[c].settle)
      ∧ (∃ lanes cmd u at', Output.command c lanes cmd u at' ∈ r.out ∧ cmd.op = .reset ∧ cmd.first = first ∧ cmd.last = last
          ∧ cmd.cseq = s.tri[c].cseq) ∧ SameMemory s r)
  ∧ (∀ (t first : Nat) (c : Fin 4) (k : Fin 6) (f : FrameRec) (ent : Option (Nat × Nat)) (s : State), s.chr[c].running = true → s.chr[c].seg ≠ 0 →
      s.shownRec c = some f → s.light[c].awin = false → max s.now t = s.chr[c].lastG + f.sched.hdr.settle →
      k ∈ banksOf (Fin.ofNat 3 s.light[c].segPrim) → s.light[c].chans[k].lostPulse = false → s.gateOpen c k = true →
      s.light[c].segDim[(Fin.ofNat 3 s.light[c].segPrim : Fin 3)] ≠ 0 →
      ∃ r, exec (.settleComplete t c first ent) s = .next r ∧ r.light[c].chans[k].len = true ∧ OnlyRegs s r [] ∧ SameMemory s r)
  ∧ (∀ (t : Nat) (c : Fin 4) (f : FrameRec) (s : State), s.chr[c].running = true → s.chr[c].seg ≠ 0 → s.shownRec c = some f →
      f.sched.hdr.tform = false → ∃ r, exec (.aWindowStart t c) s = .next r ∧ r.light[c].awin = true ∧ r.lensAllLow c ∧ SameMemory s r)
  ∧ (∀ (t : Nat) (c : Fin 4) (s : State), s.chr[c].running = true → s.chr[c].seg ≠ 0 → ∃ r, exec (.tailStart t c) s = .next r
      ∧ r.light[c].awin = false ∧ r.light[c].hold = false ∧ r.lensAllLow c ∧ SameMemory s r)

/-- A message of a type arrives over the return lane whole (R167). -/
def ReturnMsg (s : State) (c : Fin 4) (type : Nat) (m : List Byte) : Prop :=
  s.domOn (42 + c.val) = true ∧ msgOk 12 (m.map BitVec.toNat) = true ∧ msgField (m.map BitVec.toNat) 0 1 = type

/-- The number in the w bytes of a received message from an offset (R167). -/
def fieldOf (m : List Byte) (o w : Nat) : Nat := msgField (m.map BitVec.toNat) o w

/-- A field holds a value, cut to its width. -/
def Holds (r : State) (f : Fld) (i v : Nat) : Prop := r.rd f i = v % 2 ^ f.info.width

/-- Bands are read and sent, and each send is judged. A band of a composed frame in a region that serves, without a poisoned burst and in
time, is ready as it stands in HBM (R126); in a region that has stopped it is rebuilt from the plate copy, where the plate rows are of
that frame, and counted (R128); a band of a fallback frame whose plate words pass is rebuilt from the plate copy at its send deadline
(R129, R170). A block that may be sent takes the next SEQ and leaves on the active lane that is free first, with its header, rows and
reset (R158 to R161, R170). A pad BCRC that matches confirms the send's first comparison, and one that does not counts a mismatch of the
lane (R169, R174). An echo of the send in time that matches confirms the second, and a missing echo counts a mismatch (R169). -/
def Obligations.BandsAndBlocks : Prop :=
  (∀ (t frame prim bitn piece band lat : Nat) (c : Fin 4) (f : FrameRec) (s : State), s.frameRec c frame = some f → f.kind = .composed →
      s.domOn (34 + c.val) = true → prim < 3 → bitn < 16 → band < s.cfg[c].bands → s.regionStopped (c.val / 2) = false →
      s.bandPoison c frame prim bitn band = none → (s.advance t).bandLate c f prim bitn piece band = false →
      ∃ r, exec (.planeBandRead t c frame prim bitn piece band none ⟨none, lat⟩) s = .next r
      ∧ r.tri[c].bands.head? = some ⟨frame, prim, bitn, piece, band, s.bandFromHbm c frame prim bitn band⟩
      ∧ OnlyRegsAndEvents s r (requestRegs (8 * (regionOf c).val)) ∧ SameMemory s r)
  ∧ (∀ (t frame prim bitn piece band : Nat) (c : Fin 4) (f : FrameRec) (s : State), s.frameRec c frame = some f → f.kind = .fallback →
      s.domOn (34 + c.val) = true → prim < 3 → bitn < 16 → band < s.cfg[c].bands → f.badBands.contains band = false → s.bandPlateBad c band = none →
      (∃ x ∈ (s.advance t).resetsAhead c f prim bitn piece band, (s.advance t).sendDeadline c x = (max s.now t : Nat)) →
      ∃ r, exec (.fallbackExtraction t c frame prim bitn piece band none) s = .next r
      ∧ r.tri[c].bands.head? = some ⟨frame, prim, bitn, piece, band, (bandRows s.cfg[c].h s.cfg[c].bands band).map fun y =>
          s.rebuildRow c (s.rowMarks c f y) (s.plateRow c y).2 prim bitn y⟩ ∧ OnlyRegs s r [] ∧ SameMemory s r)
  ∧ (∀ (t frame seg prim bitn piece band blk resetAt : Nat) (wrap : Bool) (c : Fin 4) (d : BandData) (f : FrameRec) (cut lane : Nat × Nat) (s : State),
      (s.tri[c].bands.find? fun x => x.frame == frame && x.prim == prim && x.bitn == bitn && x.piece == piece && x.band == band) = some d →
      s.frameRec c frame = some f →
      (cutBand (blockRows (s.cfg[c].w / 8)) (s.cfg[c].h + 1) (bandFirst s.cfg[c].h s.cfg[c].bands band)
        (bandRows s.cfg[c].h s.cfg[c].bands band).length)[blk]? = some cut →
      (s.advance t).firstFree c = some lane → s.arrayFed c = true → (s.advance t).linkNow c ≠ 3 →
      (s.advance t).maySend c f seg prim bitn piece wrap band blk cut.1 (s.placeOf c f.sched f.placeBase seg prim bitn piece wrap) lane.2 resetAt = true →
      ∃ r b, exec (.blockSend t c frame seg prim bitn piece wrap band blk resetAt) s = .next r ∧ r.tri[c].blocks = b :: s.tri[c].blocks
      ∧ b.hdr.seq = s.tri[c].seq ∧ b.hdr.resend = false ∧ b.hdr.planeId = planeId prim bitn piece frame ∧ b.hdr.band = band ∧ b.hdr.row0 = cut.1
      ∧ b.hdr.nrows = cut.2 ∧ b.hdr.place = s.placeOf c f.sched f.placeBase seg prim bitn piece wrap
      ∧ b.payload = ((d.rows.drop (cut.1 - bandFirst s.cfg[c].h s.cfg[c].bands band)).take cut.2).flatten ∧ b.lane = lane.1 ∧ b.resetAt = resetAt
      ∧ r.tri[c].seq = (s.tri[c].seq + 1) % 65536 ∧ (s.drives = true → ∃ us, r.out = [.block c lane.1 us]) ∧ OnlyRegs s r [] ∧ SameMemory s r)
  ∧ (∀ (t seq bcrc : Nat) (c : Fin 4) (b : SentBlock) (s : State), s.blockOf c seq = some b → b.padOk = none → b.trailerAt ≤ max s.now t →
      bcrc = blockCrc b.hdr b.payload → ∃ r, exec (.blockTrailerSent t c seq bcrc) s = .next r
      ∧ r.tri[c].blocks = s.tri[c].blocks.map (fun x => if x.hdr.seq == seq then { x with padOk := some true } else x)
      ∧ OnlyRegs s r [] ∧ SameMemory s r)
  ∧ (∀ (t seq bcrc : Nat) (c : Fin 4) (b : SentBlock) (s : State), s.blockOf c seq = some b → b.padOk = none → b.trailerAt ≤ max s.now t →
      bcrc ≠ blockCrc b.hdr b.payload → ∃ r, exec (.blockTrailerSent t c seq bcrc) s = .next r
      ∧ Bumped s r (.tri .laneErrPadmis) (dataInst c b.lane) ∧ SameMemory s r)
  ∧ (∀ (t : Nat) (c : Fin 4) (m : List Byte) (b : SentBlock) (s : State), ReturnMsg s c 1 m → s.blockOf c (fieldOf m 2 2) = some b →
      b.lane = fieldOf m 1 1 % 32 → fieldOf m 1 1 / 32 = 0 → fieldOf m 4 4 = blockCrc b.hdr b.payload → b.trailerAt ≤ max s.now t →
      max s.now t ≤ b.trailerAt + s.rd (.tri .echoTmoTmo) c → b.echoOk = none → s.role ≠ 2 → ∃ r, exec (.echo t c m) s = .next r
      ∧ r.tri[c].blocks = s.tri[c].blocks.map (fun x => if x.hdr.seq == fieldOf m 2 2 then
          { x with echoOk := some true, echoAt := max s.now t, echoCrc := some (fieldOf m 4 4) } else x) ∧ OnlyRegs s r [] ∧ SameMemory s r)
  ∧ (∀ (t seq : Nat) (c : Fin 4) (b : SentBlock) (s : State), s.blockOf c seq = some b → b.echoOk = none →
      b.trailerAt + s.rd (.tri .echoTmoTmo) c ≤ max s.now t → ∃ r, exec (.echoTimeout t c seq) s = .next r
      ∧ Bumped s r (.tri .laneErrEchomis) (dataInst c b.lane) ∧ SameMemory s r)
  ∧ (∀ (t frame prim bitn piece band lat : Nat) (c : Fin 4) (f : FrameRec) (s : State), s.frameRec c frame = some f → f.kind = .composed →
      s.domOn (34 + c.val) = true → prim < 3 → bitn < 16 → band < s.cfg[c].bands → s.regionStopped (c.val / 2) = true → s.bandPlateBad c band = none →
      (∀ y ∈ bandRows s.cfg[c].h s.cfg[c].bands band, (s.plateRow c y).1 = f.num) →
      ∃ r, exec (.planeBandRead t c frame prim bitn piece band none ⟨none, lat⟩) s = .next r
      ∧ r.tri[c].bands.head? = some ⟨frame, prim, bitn, piece, band, (bandRows s.cfg[c].h s.cfg[c].bands band).map fun y =>
          s.rebuildRow c f.marked (s.plateRow c y).2 prim bitn y⟩ ∧ Bumped s r (.pln .rcmpCntBands) c ∧ SameMemory s r)

/-- What each message of the return lane does. An RSACK of success ends the wait for its command, and one of failure, or none within 1 µs
of S, ends it with event 0x2387 (R173). STATUS shows the return lane locked and restarts its timeout (R176). TEMP shows the array's
temperature (R176), ALARM is counted and one of kind 1 raises 0x138A, one of kind 2 makes the link fatal (R176). IDENT0 shows the array's
parameters, and a mismatch makes the link fatal (R168); IDENT1 shows model and REPLAY (R167). TRAIN of kind 1 shows a lane's receiver
index and one of kind 2 takes its deskew, whose values are free (log entry 68). -/
def Obligations.ReturnMessages : Prop :=
  (∀ (t : Nat) (c : Fin 4) (m : List Byte) (a : PendingAck) (s : State), ReturnMsg s c 2 m →
      (s.tri[c].acks.find? fun a => a.cseq == fieldOf m 4 2) = some a → fieldOf m 8 1 = 0 → ∃ r, exec (.rsack t c m) s = .next r
      ∧ r.tri[c].acks = s.tri[c].acks.filter (fun x => x.cseq != a.cseq) ∧ OnlyRegs s r [] ∧ SameMemory s r)
  ∧ (∀ (t : Nat) (c : Fin 4) (m : List Byte) (a : PendingAck) (s : State), ReturnMsg s c 2 m →
      (s.tri[c].acks.find? fun a => a.cseq == fieldOf m 4 2) = some a → fieldOf m 8 1 = 2 ∨ fieldOf m 8 1 = 3 → ∃ r, exec (.rsack t c m) s = .next r
      ∧ r.tri[c].acks = s.tri[c].acks.filter (fun x => x.cseq != a.cseq) ∧ Raised s r .lane (laneInst c 17) 0x2387 ∧ SameMemory s r)
  ∧ (∀ (t cseq : Nat) (c : Fin 4) (a : PendingAck) (s : State), (s.tri[c].acks.find? fun a => a.cseq == cseq) = some a →
      a.settleAt + usCclk 1 ≤ max s.now t → ∃ r, exec (.rsackTimeout t c cseq) s = .next r
      ∧ r.tri[c].acks = s.tri[c].acks.filter (fun x => x.cseq != a.cseq) ∧ Raised s r .lane (laneInst c 17) 0x2387 ∧ SameMemory s r)
  ∧ (∀ (t : Nat) (c : Fin 4) (m : List Byte) (s : State), ReturnMsg s c 3 m → ∃ r, exec (.status t c m) s = .next r
      ∧ r.tri[c].statusAt = max s.now t ∧ r.rd (.tri .stateRetlock) c = 1)
  ∧ (∀ (t : Nat) (c : Fin 4) (m : List Byte) (s : State), ReturnMsg s c 4 m → ∃ r, exec (.temp t c m) s = .next r
      ∧ Holds r (.tri .tempTemp) c (fieldOf m 1 2) ∧ r.tri[c].tempAt = some (max s.now t) ∧ OnlyRegs s r [(.tri .tempTemp, c)] ∧ SameMemory s r)
  ∧ (∀ (t : Nat) (c : Fin 4) (m : List Byte) (s : State), ReturnMsg s c 5 m → ∃ r, exec (.alarm t c m) s = .next r
      ∧ Bumped s r (.tri .cnt2Alarms) c ∧ (fieldOf m 1 1 = 1 → Raised s r .lane (laneInst c 17) 0x138A)
      ∧ (fieldOf m 1 1 = 2 → r.rd (.tri .stateLink) c = 4))
  ∧ (∀ (t : Nat) (c : Fin 4) (m : List Byte) (s : State), ReturnMsg s c 6 m → ∃ r, exec (.ident0 t c m) s = .next r
      ∧ Holds r (.tri .arrayGeomW) c (fieldOf m 1 1 * 128) ∧ Holds r (.tri .arrayGeomH) c (fieldOf m 2 2) ∧ Holds r (.tri .arrayCfgBands) c (fieldOf m 4 1)
      ∧ Holds r (.tri .arrayCfgP) c (fieldOf m 5 1) ∧ Holds r (.tri .arrayCfgSettle) c (fieldOf m 6 2)
      ∧ (s.identFault c (fieldOf m 1 1 * 128) (fieldOf m 2 2) (fieldOf m 4 1) (fieldOf m 5 1) (fieldOf m 6 2) (fieldOf m 8 1) ≠ none →
          r.rd (.tri .stateLink) c = 4)
      ∧ (s.identFault c (fieldOf m 1 1 * 128) (fieldOf m 2 2) (fieldOf m 4 1) (fieldOf m 5 1) (fieldOf m 6 2) (fieldOf m 8 1) = none →
          OnlyRegs s r [(.tri .arrayGeomW, c), (.tri .arrayGeomH, c), (.tri .arrayCfgBands, c), (.tri .arrayCfgP, c), (.tri .arrayCfgSettle, c)]
          ∧ SameMemory s r))
  ∧ (∀ (t : Nat) (c : Fin 4) (m : List Byte) (s : State), ReturnMsg s c 7 m → ∃ r, exec (.ident1 t c m) s = .next r
      ∧ Holds r (.tri .arrayIdModel) c (fieldOf m 1 4) ∧ Holds r (.tri .arrayCfgReplay) c (fieldOf m 7 1 % 2)
      ∧ OnlyRegs s r [(.tri .arrayIdModel, c), (.tri .arrayCfgReplay, c)] ∧ SameMemory s r)
  ∧ (∀ (t : Nat) (c : Fin 4) (m : List Byte) (s : State), ReturnMsg s c 8 m → fieldOf m 1 1 < 17 → fieldOf m 2 1 = 1 →
      ∃ r, exec (.train t c m) s = .next r ∧ Holds r (.tri .laneTapRx) (dataInst c (fieldOf m 1 1)) (fieldOf m 3 4)
      ∧ OnlyRegs s r [(.tri .laneTapRx, dataInst c (fieldOf m 1 1))] ∧ SameMemory s r)
  ∧ (∀ (t : Nat) (c : Fin 4) (m : List Byte) (s : State), ReturnMsg s c 8 m → fieldOf m 1 1 < 17 → fieldOf m 2 1 = 2 →
      ∃ r, exec (.train t c m) s = .next r
      ∧ OnlyRegs s r [(.tri .laneTapDeskew, dataInst c (fieldOf m 1 1)), (.tri .laneTapFine, dataInst c (fieldOf m 1 1))] ∧ SameMemory s r)

/-- The Trioc link fails, loses lanes and comes up. The loss of the return lane's lock and 250 µs without STATUS make the link fatal
(R176). A lane whose mismatches exceed ERRLIM leaves the working lanes (R174). A retraining begins for a lane that does not work; with a
passing tap the lane works again with 0x138C once all bands of the array are off (R302), without one 0x2A04 says so (R175, R308). A
bring-up whose identity matches and whose lanes all pass ends in data mode with lanes 0 to 15 active and nothing outstanding, with 0x138D
(R154, R175). -/
def Obligations.LinkFaultsAndTraining : Prop :=
  (∀ (t : Nat) (c : Fin 4) (s : State), s.domOn (42 + c.val) = true → s.rd (.tri .stateLink) c ≠ 0 → ∃ r, exec (.returnLaneLockLoss t c) s = .next r
      ∧ r.rd (.tri .stateRetlock) c = 0 ∧ r.rd (.tri .stateLink) c = 4 ∧ (s.clusterOn c = true → r.rd (.st .lane .fatal) (laneInst c 17) = 1))
  ∧ (∀ (t : Nat) (c : Fin 4) (s : State), (s.rd (.tri .stateLink) c = 2 ∨ s.rd (.tri .stateLink) c = 3 ∨ s.rd (.tri .stateLink) c = 5) →
      s.tri[c].statusAt + usCclk 250 ≤ max s.now t → ∃ r, exec (.statusTimeout t c) s = .next r
      ∧ r.rd (.tri .stateLink) c = 4 ∧ (s.clusterOn c = true → r.rd (.st .lane .fatal) (laneInst c 17) = 1))
  ∧ (∀ (t : Nat) (c : Fin 4) (lane : Fin 17) (s : State), s.rd (.tri .laneCfgErrlim) c < (s.advance t).mismatches c lane →
      (s.workingLanes c).contains lane.val = true → ∃ r, exec (.laneRetire t c lane) s = .next r
      ∧ r.workingLanes c = (s.workingLanes c).filter (fun i => i != lane.val) ∧ SameMemory s r)
  ∧ (∀ (t : Nat) (c : Fin 4) (s : State), s.rd (.tri .ctrlRlane) c < 17 → (s.workingLanes c).contains (s.rd (.tri .ctrlRlane) c) = false →
      ∃ r, exec (.laneRetrain t c) s = .next r ∧ r.tri[c].retrain = some (s.rd (.tri .ctrlRlane) c) ∧ OnlyRegs s r [] ∧ SameMemory s r)
  ∧ (∀ (t i : Nat) (c : Fin 4) (x : Nat × Nat) (s : State), s.tri[c].retrain = some i → i < 17 → (s.workingLanes c).contains i = false →
      (s.advance t).bandsOffNow c = true → ∃ r, exec (.laneRetrainDone t c (some x)) s = .next r ∧ r.tri[c].retrain = none ∧ (r.workingLanes c).contains i = true
      ∧ Holds r (.tri .laneTapPre) (dataInst c i) x.1 ∧ Holds r (.tri .laneTapPost) (dataInst c i) x.2
      ∧ Raised s r .lane (laneInst c i) 0x138C ∧ SameMemory s r)
  ∧ (∀ (t i : Nat) (c : Fin 4) (s : State), s.tri[c].retrain = some i → ∃ r, exec (.laneRetrainDone t c none) s = .next r ∧ r.tri[c].retrain = none
      ∧ Raised s r .trn 0 0x2A04 ∧ OnlyRegsAndEvents s r [] ∧ SameMemory s r)
  ∧ (∀ (t : Nat) (c : Fin 4) (x : BringUp) (s : State), s.clusterOn c = true → s.cfg[c].present = true → s.heldLive = [] → s.role ≠ 2 →
      x.retlock = true → x.state2 = 1 → x.state8 = 2 → (∀ i, i < 17 → bit x.locks i = true ∧ (x.taps.getD i none).isSome = true) →
      s.identFault c (msgField x.ident0 1 1 * 128) (msgField x.ident0 2 2) (msgField x.ident0 4 1) (msgField x.ident0 5 1)
        (msgField x.ident0 6 2) (msgField x.ident0 8 1) = none →
      ∃ r, exec (.triocBringup t c x) s = .next r ∧ r.rd (.tri .stateLink) c = 2 ∧ r.rd (.tri .stateRetlock) c = 1
      ∧ r.workingLanes c = List.range 17 ∧ r.tri[c].active = List.range 16 ∧ r.tri[c].blocks = [] ∧ r.tri[c].acks = [] ∧ r.tri[c].seq = 0
      ∧ Raised s r .lane (laneInst c 17) 0x138D ∧ SameMemory s r)

/-- Interlock, stops, re-arms and diagnostic requests. An interlock trip sets TRIPPED, clears IN and leaves every LEN of the cluster low
at once, and is counted with event 0x2501 (R180). A re-arm after 100 ms of INTLK high clears TRIPPED with 0x1502 (R180). A STOP starts the
stop fade, and with duration 0 stops the output at once (R185, R186). A re-arm of a stopped output clears STOPPED (R186). A FAILED channel
whose bank is not too hot is re-armed (R205). DIAGNOW asks for a diagnostic pulse of its channel alone (R198). -/
def Obligations.LightCommands : Prop :=
  (∀ (t : Nat) (c : Fin 4) (s : State), s.clusterOn c = true → ∃ r, exec (.interlockTrip t c) s = .next r ∧ r.rd (.lsr .intlkTripped) c = 1
      ∧ r.rd (.lsr .intlkIn) c = 0 ∧ r.lensAllLow c
      ∧ (s.on (.lsr .intlkTripped) c = false → Bumped s r (.lsr .intlkTrips) c ∧ Raised s r .intlk c 0x2501) ∧ SameMemory s r)
  ∧ (∀ (t high : Nat) (c : Fin 4) (s : State), msCclk 100 ≤ high → s.on (.lsr .intlkTripped) c = true → ∃ r, exec (.interlockRearm t c high) s = .next r
      ∧ r.rd (.lsr .intlkTripped) c = 0 ∧ r.rd (.lsr .intlkIn) c = 1 ∧ Raised s r .intlk c 0x1502 ∧ SameMemory s r)
  ∧ (∀ (t : Nat) (c : Fin 4) (s : State), s.on (.lsr .outStopped) c = false → s.rd (.lsr .fadeStopT) c ≠ 0 → ∃ r, exec (.outputStop t c) s = .next r
      ∧ (∃ f, r.light[c].fade = some f ∧ f.kind = .stop ∧ f.target = 0 ∧ f.dur = msCclk (10 * min 200 (s.rd (.lsr .fadeStopT) c))
          ∧ f.startNum = s.light[c].dimNum ∧ f.startDen = s.light[c].dimDen)
      ∧ OnlyRegs s r [(.lsr .outFading, c)] ∧ SameMemory s r)
  ∧ (∀ (t : Nat) (c : Fin 4) (s : State), s.on (.lsr .outStopped) c = false → s.rd (.lsr .fadeStopT) c = 0 → ∃ r, exec (.outputStop t c) s = .next r
      ∧ r.rd (.lsr .outStopped) c = 1 ∧ r.lensAllLow c ∧ r.light[c].fade = none ∧ SameMemory s r)
  ∧ (∀ (t : Nat) (c : Fin 4) (s : State), s.on (.lsr .outStopped) c = true → s.light[c].policyOff = false → ∃ r, exec (.outputRearm t c) s = .next r
      ∧ r.rd (.lsr .outStopped) c = 0 ∧ SameMemory s r)
  ∧ (∀ (t : Nat) (c : Fin 4) (k : Fin 6) (s : State), s.chState c k = 5 → s.light[c].chans[k].thermal = false →
      ∃ r, exec (.channelRearm t c k) s = .next r ∧ r.light[c].chans[k].rearm = true ∧ OnlyRegs s r [(.lsr .lampPend, c)] ∧ SameMemory s r)
  ∧ (∀ (t : Nat) (c : Fin 4) (k : Fin 6) (s : State), ∃ r, exec (.diagnow t c k) s = .next r
      ∧ r.light[c].chans[k] = { s.light[c].chans[k] with diagNow := true } ∧ (∀ j : Fin 6, j ≠ k → r.light[c].chans[j] = s.light[c].chans[j])
      ∧ OnlyRegs s r [] ∧ SameMemory s r)

/-- Thermistors, lamp frames, fault windows and wear. A thermistor sample of a powered cluster, whose thermistor is not stopped, shows its
temperature and whether it lies in the range of -20 to 150 °C (R189). A lamp frame of a range that waits goes out when the last load has
been latched and the line has been low for 10 µs: BUSY rises, SEQ moves on, and its patterns are those wanted for that range (R190, R194).
A fault window of a pulse under way shows the string voltage (R197). A wear rotation that is due is deferred while a load runs, counted,
and otherwise clears DUE and asks for a load of the least worn low pattern of every bank that has one (R210). -/
def Obligations.LightMeasurements : Prop :=
  (∀ (t raw : Nat) (temp : Int) (c i : Fin 4) (s : State), s.domOn (9 + c.val) = true → s.halted .tsen (c.val * 4 + i.val) = false → -2 ^ 15 ≤ temp → temp < 2 ^ 15 →
      ∃ r, exec (.thermistorSample t c i raw temp) s = .next r ∧ r.rdI (.lsr .tsenTemp) (c.val * 4 + i.val) = temp
      ∧ r.rd (.lsr .tsenValid) (c.val * 4 + i.val) = b2n (decide (-320 ≤ temp) && decide (temp ≤ 2400)) ∧ SameMemory s r)
  ∧ (∀ (t : Nat) (c : Fin 4) (high : Bool) (s : State), s.light[c].load = none → (if high then s.light[c].pendHigh else s.light[c].pendLow) = true →
      s.domOn (9 + c.val) = true → s.domOn 8 = true → s.light[c].latchAt ≤ max s.now t → s.light[c].lampEnd + usCclk 10 ≤ max s.now t →
      s.halted .lamp c = false → ∃ r ld, exec (.lampFrameSend t c high) s = .next r ∧ r.light[c].load = some ld
      ∧ ld.range = (if high then .high else .low)
      ∧ ld.pats = allChans.map (fun k => (k.val, if high then s.light[c].chans[k].wantH else s.light[c].chans[k].wantL))
      ∧ r.rd (.lsr .lampBusy) c = 1 ∧ r.rd (.lsr .lampSeq) c = (s.rd (.lsr .lampSeq) c + 1) % 8
      ∧ OnlyRegs s r [(.lsr .lampBusy, c), (.lsr .lampSeq, c), (.lsr .lampPend, c)] ∧ SameMemory s r)
  ∧ (∀ (t pd vstr : Nat) (last : Bool) (c : Fin 4) (k : Fin 6) (s : State), s.domOn (9 + c.val) = true →
      (s.light[c].chans[k].diagOn = true ∨ (s.light[c].chans[k].len = true ∧ 16384 ≤ dimD s.light[c].segDim[primOf k])) →
      ∃ r, exec (.faultWindow t c k pd vstr last) s = .next r ∧ r.rd (.lsr .vstrOfsVstr) (chanInst c k) = vstr % 2 ^ 12 ∧ SameMemory s r)
  ∧ (∀ (t : Nat) (c : Fin 4) (s : State), s.rd (.lsr .wearInterval) c ≠ 0 →
      s.light[c].wearAt + s.rd (.lsr .wearInterval) c * msCclk 60000 ≤ max s.now t → s.light[c].load.isSome = true →
      ∃ r, exec (.wearRotation t c) s = .next r ∧ r.rd (.lsr .wearDue) c = 1 ∧ Bumped s r (.lsr .wearDefers) c ∧ r.light[c].wearAt = max s.now t
      ∧ OnlyRegs s r [(.lsr .wearDue, c), (.lsr .wearDefers, c)] ∧ SameMemory s r)
  ∧ (∀ (t : Nat) (c : Fin 4) (s : State), s.rd (.lsr .wearInterval) c ≠ 0 →
      s.light[c].wearAt + s.rd (.lsr .wearInterval) c * msCclk 60000 ≤ max s.now t → s.light[c].load = none → s.light[c].latchAt ≤ max s.now t → s.light[c].pendHigh = false →
      s.light[c].pendLow = false → (∀ k : Fin 6, s.light[c].chans[k].search = none) → s.on (.lsr .outLightoff) c = false →
      ∃ r, exec (.wearRotation t c) s = .next r ∧ r.rd (.lsr .wearDue) c = 0 ∧ r.light[c].wearAt = max s.now t
      ∧ (∀ k : Fin 6, s.chState c k ≠ 0 → s.rd (.lsr .bankNlow) (chanInst c k) < s.rd (.lsr .chStateNlitH) (chanInst c k) →
          r.light[c].pendLow = true ∧ r.light[c].chans[k].wear = true ∧ r.light[c].chans[k].wantL = s.lowPattern c k)
      ∧ OnlyRegs s r [(.lsr .wearDue, c), (.lsr .lampPend, c)] ∧ SameMemory s r)

/-- A message of a type arrives on a chain port whole (R394). -/
def ChainMsg (s : State) (type : Nat) (m : List Byte) : Prop :=
  s.domOn 8 = true ∧ msgOk 18 (m.map BitVec.toNat) = true ∧ (m.map BitVec.toNat).getD 0 0 = type

/-- The message names every module, the neighbour or this module as its DEST (R394). -/
def ForUs (s : State) (m : List Byte) : Prop := fieldOf m 1 1 = 0 ∨ fieldOf m 1 1 = 0xFF ∨ fieldOf m 1 1 = s.rd (.chn .addrAddr) 0

/-- The module is the chain's head. -/
def Head (s : State) : Prop := s.on (.chn .addrHead) 0 = true

/-- A message of the module's own that a port sends (R394). -/
def sentOn (s : State) (port type dest flags : Nat) (payload : List Nat) : Output :=
  .chain port (withCrc (chainBody type dest (s.rd (.chn .addrAddr) 0) flags payload))

/-- Head, enumeration, pings, triggers and wakes of the chain. A module without a character on CHAIN_IN takes address 1 and becomes head
(R395). The head sends ENUM, and alone it is the whole chain (R395). ENUM sets the address to the sender's plus 1, or to 0 past 64, and
ends the head role (R395, R397); ENUMDONE gives the head its N, and any other module forwards it. Outside the quiet window (R394),
PING_TICK sends the next PING, PING is answered with PONG, and a PONG of the last PING gives the hop latency as the mean of up to 16
(R398). A change of a receive lane is kept and raises an event of its port (R393). TRIG is forwarded and raises 0x1149 (R410). WAKE goes
out on both ports (R411), is forwarded, and wakes a module in deep standby that it addresses. -/
def Obligations.ChainAddresses : Prop :=
  (∀ (t : Nat) (s : State), s.domOn 8 = true → s.chn.rx[0] = false → s.on (.chn .addrHead) 0 = false → ∃ r, exec (.headElection t) s = .next r
      ∧ r.rd (.chn .addrAddr) 0 = 1 ∧ r.rd (.chn .addrHead) 0 = 1 ∧ r.rd (.st .chn .lastclass) 0 = 1 ∧ SameMemory s r)
  ∧ (∀ (t : Nat) (s : State), Head s → (s.advance t).quietCut = false → ∃ r, exec (.enumTick t) s = .next r
      ∧ sentOn s 1 0x03 0xFF 0 [s.rd (.chn .addrAddr) 0, s.rd (.chn .addrGen) 0] ∈ r.out ∧ (s.chn.rx[1] = false → r.rd (.chn .addrN) 0 = 1)
      ∧ SameMemory s r)
  ∧ (∀ (t : Nat) (m : List Byte) (s : State), ChainMsg s 0x03 m → ∃ r, exec (.enum t ⟨m, none⟩) s = .next r
      ∧ r.rd (.chn .addrAddr) 0 = (if fieldOf m 4 1 = 0 ∨ 64 ≤ fieldOf m 4 1 then 0 else fieldOf m 4 1 + 1)
      ∧ r.rd (.chn .addrGen) 0 = fieldOf m 5 1 ∧ r.on (.chn .addrHead) 0 = false ∧ SameMemory s r)
  ∧ (∀ (t : Nat) (m : List Byte) (s : State), ChainMsg s 0x04 m → Head s → ∃ r, exec (.enumdone t m) s = .next r
      ∧ Holds r (.chn .addrN) 0 (fieldOf m 4 1) ∧ r.rd (.chn .addrOver) 0 = b2n (bit (fieldOf m 6 1) 0) ∧ SameMemory s r)
  ∧ (∀ (t : Nat) (m : List Byte) (s : State), ChainMsg s 0x04 m → ¬ Head s → ∃ r, exec (.enumdone t m) s = .next r
      ∧ r.out = [.chain 0 (m.map BitVec.toNat)] ∧ OnlyRegs s r [] ∧ SameMemory s r)
  ∧ (∀ (t : Nat) (s : State), s.domOn 8 = true → (s.advance t).quietCut = false → ∃ r, exec (.pingTick t) s = .next r ∧ r.chn.pingSeq = (s.chn.pingSeq + 1) % 2 ^ 32
      ∧ r.chn.pingAt = max s.now t ∧ r.out = [sentOn s 0 0x05 0xFF 0 (leBytes 4 ((s.chn.pingSeq + 1) % 2 ^ 32))] ∧ OnlyRegs s r [] ∧ SameMemory s r)
  ∧ (∀ (t turn : Nat) (m : List Byte) (s : State), ChainMsg s 0x05 m → ∃ r, exec (.ping t m turn) s = .next r
      ∧ r.out = [sentOn s 1 0x06 0xFF 0 (((m.map BitVec.toNat).drop 4).take 4 ++ leBytes 4 turn)] ∧ OnlyRegs s r [] ∧ SameMemory s r)
  ∧ (∀ (t : Nat) (m : List Byte) (sub : Fin 8) (s : State), ChainMsg s 0x06 m → fieldOf m 4 4 = s.chn.pingSeq →
      ∃ r, exec (.pong t m sub) s = .next r
      ∧ r.chn.hops = ((((max s.now t - s.chn.pingAt) * 8 + sub.val - fieldOf m 8 4) / 2) :: s.chn.hops).take 16
      ∧ Holds r (.chn .hopLat) 0 (r.chn.hops.sum / r.chn.hops.length) ∧ OnlyRegs s r [(.chn .hopLat, 0)] ∧ SameMemory s r)
  ∧ (∀ (t : Nat) (port : Fin 2) (up : Bool) (s : State), s.domOn 8 = true → s.chn.rx[port] ≠ up → ∃ r, exec (.chainLaneChange t port up) s = .next r
      ∧ r.chn.rx[port] = up ∧ Raised s r .port port (if up then 0x1981 else 0x2982) ∧ SameMemory s r)
  ∧ (∀ (t : Nat) (m : List Byte) (port : Fin 2) (s : State), ChainMsg s 0x0B m → ∃ r, exec (.trig t m port) s = .next r
      ∧ .chain (1 - port.val) (m.map BitVec.toNat) ∈ r.out ∧ Raised s r .chn 0 0x1149 ∧ OnlyRegsAndEvents s r [] ∧ SameMemory s r)
  ∧ (∀ (t : Nat) (s : State), ∃ r, exec (.chainWakeSend t) s = .next r
      ∧ r.out = [sentOn s 0 0x0C (s.rd (.chn .ctrlWakeAddr) 0) 0 [s.rd (.chn .ctrlWakeAddr) 0],
                 sentOn s 1 0x0C (s.rd (.chn .ctrlWakeAddr) 0) 0 [s.rd (.chn .ctrlWakeAddr) 0]] ∧ OnlyRegs s r [] ∧ SameMemory s r)
  ∧ (∀ (t : Nat) (m : List Byte) (port : Fin 2) (x : StartReport) (s : State), ChainMsg s 0x0C m → fieldOf m 4 1 ≠ 0 →
      fieldOf m 4 1 ≠ s.rd (.chn .addrAddr) 0 → ∃ r, exec (.wake t m port x) s = .next r
      ∧ r.out = [.chain (1 - port.val) (m.map BitVec.toNat)] ∧ OnlyRegs s r [] ∧ SameMemory s r)
  ∧ (∀ (t : Nat) (m : List Byte) (port : Fin 2) (x : StartReport) (s : State), ChainMsg s 0x0C m →
      fieldOf m 4 1 = 0 ∨ fieldOf m 4 1 = s.rd (.chn .addrAddr) 0 → s.rd (.pwr .stateState) 0 = 2 → x.upto ≤ 3 →
      ∃ r, exec (.wake t m port x) s = .next r ∧ r.rd (.pwr .stateState) 0 = 0 ∧ r.rd (.pwr .stateStep) 0 = 3 ∧ r.raw = s.raw)

/-- Wall time and frame sync over the chain. The head sends TIME with its wall time, VALID once it has been set (R400). TIME gives CORR
with the hop latency added, restarts the timeout, and with VALID sets it here too (R399 to R401); no TIME for 10 ms raises 0x214A once
(R400). WTSET at the head sets the wall time and VALID (R400, R401). FSYNC_TICK of a free-running head announces the first wall frame 200
µs ahead and each later one a PERIOD after the last, once that lies within 200 µs, and FSYNC carries an announcement on (R402), with which
a GO that came before it has its landing instant (R408). A TIME or FSYNC for another address is only forwarded (R394). -/
def Obligations.ChainTime : Prop :=
  (∀ (t : Nat) (s : State), Head s → (s.advance t).quietCut = false → ∃ r, exec (.timeTick t) s = .next r
      ∧ r.out = [sentOn s 1 0x01 0 (s.rd (.chn .wtStatValid) 0) (leBytes 8 ((s.advance t).wall512 / 8).toNat ++ leBytes 4 0)]
      ∧ OnlyRegs s r [] ∧ SameMemory s r)
  ∧ (∀ (t fwd : Nat) (m : List Byte) (sub : Fin 8) (s : State), ChainMsg s 0x01 m → ForUs s m → ∃ r, exec (.time t m sub fwd) s = .next r
      ∧ Holds r (.chn .corrCorr) 0 (fieldOf m 12 4 + s.rd (.chn .hopLat) 0) ∧ r.chn.lastTime = some (max s.now t) ∧ r.chn.timeLost = false
      ∧ (bit (fieldOf m 3 1) 0 = true → r.rd (.chn .wtStatValid) 0 = 1)
      ∧ .chain 1 (rewriteMsg (m.map BitVec.toNat) 12 (leBytes 4 (fieldOf m 12 4 + s.rd (.chn .hopLat) 0 + fwd))) ∈ r.out ∧ SameMemory s r)
  ∧ (∀ (t l : Nat) (s : State), s.chn.lastTime = some l → ¬ Head s → s.chn.timeLost = false → l + msCclk 10 ≤ max s.now t →
      ∃ r, exec (.timeTimeout t) s = .next r ∧ r.chn.timeLost = true ∧ Raised s r .chn 0 0x214A ∧ OnlyRegsAndEvents s r [] ∧ SameMemory s r)
  ∧ (∀ (t : Nat) (s : State), Head s → ∃ r, exec (.wallTimeSet t) s = .next r ∧ r.rd (.chn .wtStatValid) 0 = 1
      ∧ r.wall512 = (s.rd (.chn .wtSetTime) 0 * 512 : Nat) ∧ SameMemory s r)
  ∧ (∀ (t : Nat) (s : State), Head s → s.on (.chn .fsCfgEn) 0 = true → s.on (.chn .fsCfgSrc) 0 = false → s.chn.fsync = none → ∃ r, exec (.fsyncTick t) s = .next r
      ∧ r.rd (.chn .wframeF) 0 = (s.rd (.chn .wframeF) 0 + 1) % 2 ^ 64
      ∧ r.chn.fsync = some ⟨(s.rd (.chn .wframeF) 0 + 1) % 2 ^ 64, ((s.advance t).wall512 / 8 + (usCclk 200 : Nat)).toNat⟩
      ∧ r.chn.fsyncAt = max s.now t ∧ OnlyRegs s r [(.chn .wframeF, 0), (.chn .wsyncS, 0)] ∧ SameMemory s r)
  ∧ (∀ (t : Nat) (x : Fsync) (s : State), Head s → s.on (.chn .fsCfgEn) 0 = true → s.on (.chn .fsCfgSrc) 0 = false → s.chn.fsync = some x →
      (s.advance t).wall512 / 8 ≤ x.sync + s.rd (.chn .fsPeriodPeriod) 0 →
      x.sync + s.rd (.chn .fsPeriodPeriod) 0 ≤ (s.advance t).wall512 / 8 + (usCclk 200 : Nat) → ∃ r, exec (.fsyncTick t) s = .next r
      ∧ r.chn.fsync = some ⟨(s.rd (.chn .wframeF) 0 + 1) % 2 ^ 64, x.sync + s.rd (.chn .fsPeriodPeriod) 0⟩
      ∧ OnlyRegs s r [(.chn .wframeF, 0), (.chn .wsyncS, 0)] ∧ SameMemory s r)
  ∧ (∀ (t : Nat) (m : List Byte) (s : State), ChainMsg s 0x02 m → ForUs s m → ∃ r, exec (.fsync t m) s = .next r
      ∧ r.chn.fsync = some ⟨s.wallFrameOf (fieldOf m 4 4), fieldOf m 8 8⟩ ∧ r.chn.fsyncAt = max s.now t ∧ r.out = [.chain 1 (m.map BitVec.toNat)]
      ∧ (∀ (g : Nat) (c : Fin 4), s.chn.goFrame = some g → g ≤ s.wallFrameOf (fieldOf m 4 4) → s.chn.armed.contains c.val = true →
          r.chr[c].coherentGo.isSome = true ∧ r.chn.goFrame = none)
      ∧ OnlyRegs s r [(.chn .wframeF, 0), (.chn .wsyncS, 0)] ∧ SameMemory s r)
  ∧ (∀ (t fwd : Nat) (m : List Byte) (sub : Fin 8) (s : State), ChainMsg s 0x01 m → ¬ ForUs s m → ∃ r, exec (.time t m sub fwd) s = .next r
      ∧ r.out = [.chain 1 (rewriteMsg (m.map BitVec.toNat) 12 (leBytes 4 (fieldOf m 12 4 + s.rd (.chn .hopLat) 0 + fwd)))]
      ∧ r.chn = s.chn ∧ OnlyRegs s r [] ∧ SameMemory s r)
  ∧ (∀ (t : Nat) (m : List Byte) (s : State), ChainMsg s 0x02 m → ¬ ForUs s m → ∃ r, exec (.fsync t m) s = .next r
      ∧ r.out = [.chain 1 (m.map BitVec.toNat)] ∧ r.chn = s.chn ∧ OnlyRegs s r [] ∧ SameMemory s r)

/-- A coherent commit over the chain. ARM freezes the armed set with the ID at hand; with no cluster to arm, or at address 0, it sets ERR
(R403, R404, R396). A module that is armed or excluded, a module without an address among these, sends ARM again (R403, R404), and the
head keeps what an ARM says (R406). At the decision the head sends GO when every expected module is armed, and takes part itself, naming
the wall frame last announced or, with CUT above 200 µs, the next one (R402, R407), and shows DEFERS 0 while no commit is open (R407,
R408). GO gives each armed cluster S(f) − 64 PCLK as its earliest landing instant, or waits for the FSYNC of f, and shows DEFERS 0 (R408);
DEFER shows the count (R409); ABORT disarms with OUTCOME 2 and event 0x2148 (R409). Each message is forwarded, and one for another address
is only forwarded (R394). -/
def Obligations.CoherentCommit : Prop :=
  (∀ (t : Nat) (s : State) (set : List Nat),
      set = ((allClusters.filter fun (c : Fin 4) => s.clusterOn c && s.on (.chr .commitReq) c && s.on (.chr .commitMode) c).map Fin.val) → set ≠ [] →
      s.rd (.chn .addrAddr) 0 ≠ 0 → ∃ r, exec (.coherentArm t) s = .next r ∧ r.chn.armed = set ∧ r.chn.armId = s.rd (.chn .ccId) 0
      ∧ r.rd (.chn .ccErr) 0 = 0 ∧ r.rd (.chn .ccArmed) 0 = 1 ∧ (∀ c : Fin 4, r.rd (.chr .commitArmed) c = b2n (set.contains c.val)) ∧ SameMemory s r)
  ∧ (∀ (t : Nat) (s : State), s.rd (.chn .addrAddr) 0 = 0
        ∨ (allClusters.filter fun (c : Fin 4) => s.clusterOn c && s.on (.chr .commitReq) c && s.on (.chr .commitMode) c) = [] →
      ∃ r, exec (.coherentArm t) s = .next r ∧ r.rd (.chn .ccErr) 0 = 1 ∧ r.chn = s.chn
      ∧ OnlyRegs s r [(.chn .ccErr, 0)] ∧ SameMemory s r)
  ∧ (∀ (t : Nat) (s : State), s.domOn 8 = true → s.ownArmState ≠ 0 → ¬ Head s → (s.advance t).quietCut = false → ∃ r, exec (.armResend t) s = .next r
      ∧ r.out = [sentOn s 0 0x07 1 0 [s.chn.armId, s.ownArmState, s.armedMask]] ∧ OnlyRegs s r [] ∧ SameMemory s r)
  ∧ (∀ (t : Nat) (m : List Byte) (s : State), ChainMsg s 0x07 m → Head s → ∃ r, exec (.arm t m) s = .next r
      ∧ r.chn.arms = ⟨fieldOf m 2 1, fieldOf m 4 1, fieldOf m 5 1, fieldOf m 6 1⟩ :: s.chn.arms.filter (fun x => x.addr != fieldOf m 2 1)
      ∧ OnlyRegs s r [(.chn .ccArmedMask, 0)] ∧ SameMemory s r)
  ∧ (∀ (t : Nat) (m : List Byte) (s : State), ChainMsg s 0x07 m → ¬ Head s → ∃ r, exec (.arm t m) s = .next r
      ∧ r.out = [.chain 0 (m.map BitVec.toNat)] ∧ OnlyRegs s r [] ∧ SameMemory s r)
  ∧ (∀ (t : Nat) (s : State), Head s → s.ccOpen = false → ∃ r, exec (.commitDecision t) s = .next r ∧ r.rd (.chn .ccDefers) 0 = 0
      ∧ OnlyRegs s r [(.chn .ccDefers, 0)] ∧ SameMemory s r)
  ∧ (∀ (t f : Nat) (s : State), Head s → s.ccOpen = true → (s.ccExpected.filter fun a => !s.ccArmedAt a) = [] →
      f = (if 200 < s.rd (.chn .ccCfgCut) 0 then (s.rd (.chn .wframeF) 0 + 1) % 2 ^ 64 else s.rd (.chn .wframeF) 0) →
      ∃ r, exec (.commitDecision t) s = .next r
      ∧ sentOn s 1 0x08 0 0 (s.rd (.chn .ccId) 0 :: leBytes 4 f) ∈ r.out ∧ (∀ x ∈ r.chn.arms, x.state ≠ 1 ∨ x.id ≠ s.rd (.chn .ccId) 0)
      ∧ r.rd (.chn .ccDefers) 0 = 0
      ∧ (∀ c : Fin 4, s.chn.armed.contains c.val = true → s.chn.armId = s.rd (.chn .ccId) 0 →
          r.chr[c].coherentGo.isSome = true ∨ r.chn.goFrame = some f)
      ∧ SameMemory s r)
  ∧ (∀ (t : Nat) (m : List Byte) (c : Fin 4) (x : Fsync) (s : State), ChainMsg s 0x08 m → ForUs s m → s.chn.armed.contains c.val = true →
      s.chn.armId = fieldOf m 4 1 → s.chn.fsync = some x → s.wallFrameOf (fieldOf m 5 4) ≤ x.frame →
      ∃ r, exec (.go t m) s = .next r ∧ r.chr[c].coherentGo = some ((s.advance t).landingOf x) ∧ r.chr[c].waited = true
      ∧ Holds r (.chn .ccFrameF) 0 (s.wallFrameOf (fieldOf m 5 4)) ∧ .chain 1 (m.map BitVec.toNat) ∈ r.out ∧ r.rd (.chn .ccDefers) 0 = 0
      ∧ OnlyRegs s r [(.chn .ccFrameF, 0), (.chn .ccDefers, 0)]
      ∧ SameMemory s r)
  ∧ (∀ (t : Nat) (m : List Byte) (s : State), ChainMsg s 0x09 m → ForUs s m → ∃ r, exec (.defer t m) s = .next r ∧ Holds r (.chn .ccDefers) 0 (fieldOf m 9 1)
      ∧ r.out = [.chain 1 (m.map BitVec.toNat)] ∧ OnlyRegs s r [(.chn .ccDefers, 0)] ∧ SameMemory s r)
  ∧ (∀ (t : Nat) (m : List Byte) (s : State), ChainMsg s 0x0A m → ForUs s m → ∃ r, exec (.abort t m) s = .next r ∧ r.chn.armed = [] ∧ r.rd (.chn .ccOutcome) 0 = 2
      ∧ r.rd (.chn .ccArmed) 0 = 0 ∧ Raised s r .chn 0 0x2148 ∧ .chain 1 (m.map BitVec.toNat) ∈ r.out
      ∧ (∀ c : Fin 4, s.chn.armed.contains c.val = true → r.rd (.chr .commitReq) c = 0) ∧ SameMemory s r)
  ∧ (∀ (t : Nat) (m : List Byte) (c : Fin 4) (s : State), ChainMsg s 0x08 m → ForUs s m → s.chn.armed.contains c.val = true →
      s.chn.armId = fieldOf m 4 1 → (s.chn.fsync.all fun x => decide (x.frame < s.wallFrameOf (fieldOf m 5 4))) = true →
      ∃ r, exec (.go t m) s = .next r ∧ r.chn.goFrame = some (s.wallFrameOf (fieldOf m 5 4)) ∧ r.chr[c].waited = true
      ∧ r.chr[c].coherentGo = s.chr[c].coherentGo ∧ Holds r (.chn .ccFrameF) 0 (s.wallFrameOf (fieldOf m 5 4))
      ∧ OnlyRegs s r [(.chn .ccFrameF, 0), (.chn .ccDefers, 0)] ∧ SameMemory s r)
  ∧ (∀ (t : Nat) (m : List Byte) (s : State), ChainMsg s 0x08 m → ¬ ForUs s m → ∃ r, exec (.go t m) s = .next r
      ∧ r.out = [.chain 1 (m.map BitVec.toNat)] ∧ r.chn = s.chn ∧ OnlyRegs s r [] ∧ SameMemory s r)
  ∧ (∀ (t : Nat) (m : List Byte) (s : State), ChainMsg s 0x09 m → ¬ ForUs s m → ∃ r, exec (.defer t m) s = .next r
      ∧ r.out = [.chain 1 (m.map BitVec.toNat)] ∧ r.chn = s.chn ∧ OnlyRegs s r [] ∧ SameMemory s r)
  ∧ (∀ (t : Nat) (m : List Byte) (s : State), ChainMsg s 0x0A m → ¬ ForUs s m → ∃ r, exec (.abort t m) s = .next r
      ∧ r.out = [.chain 1 (m.map BitVec.toNat)] ∧ r.chn = s.chn ∧ OnlyRegs s r [] ∧ SameMemory s r)

/-- What each Transit message does. Over a link that is up: HB keeps the peer's role and READY and sets HBOK (R412); HB_SEND sends the own
one; no HB for 35 µs clears HBOK and counts the missed ones (R417). MARK gives the second its skew (R412, R413); ID keeps the peer's
identity and shows whether the images match (R55, R413); PEND keeps the peer's request state (R414). CRCREP waits at the second for the
echo of its block (R416). MAP waits for its frame, and in lockstep its marks become the second's (R415). CHSTATE gives the second the
prime's channel states (R207). TAKE gives the prime the switch instants (R421). XFATAL notes the prime's class X event and starts the
takeover of a READY second that may (R417). -/
def Obligations.PairMessages : Prop :=
  (∀ (t : Nat) (role : Fin 3) (sel lockstep ready classX handover : Bool) (s : State), s.par.linkUp = true →
      ∃ r, exec (.hb t role sel lockstep ready classX handover) s = .next r ∧ r.par.lastHb = some (max s.now t) ∧ r.par.peerRole = role.val
      ∧ r.par.peerReady = ready ∧ r.rd (.par .statHbOk) 0 = 1 ∧ SameMemory s r)
  ∧ (∀ (t : Nat) (s : State), s.par.linkUp = true → ∃ r, exec (.hbSend t) s = .next r
      ∧ r.out = [.transit 0 [s.role, s.rd (.par .statSelOwn) 0, s.rd (.par .statLockstep) 0, s.rd (.par .statReady) 0,
          b2n (s.rd (.pwr .stateState) 0 == 5)]] ∧ OnlyRegs s r [] ∧ SameMemory s r)
  ∧ (∀ (t h : Nat) (s : State), s.par.lastHb = some h → s.on (.par .statHbOk) 0 = true → h + usCclk 35 ≤ max s.now t →
      ∃ r, exec (.heartbeatLoss t) s = .next r ∧ r.rd (.par .statHbOk) 0 = 0
      ∧ r.rd (.par .cnt2Hbmiss) 0 = satN 16 (s.rd (.par .cnt2Hbmiss) 0 + (max s.now t - h) / usCclk 10) ∧ SameMemory s r)
  ∧ (∀ (t : Nat) (c : Fin 4) (skew : Int) (s : State), s.par.linkUp = true → s.role = 2 → -2 ^ 15 ≤ skew → skew < 2 ^ 15 →
      ∃ r, exec (.mark t c skew) s = .next r ∧ r.par.skews[c] = skew ∧ r.par.markOk[c] = decide (|skew| ≤ 8) ∧ r.rdI (.par .skewSkew) 0 = skew
      ∧ SameMemory s r)
  ∧ (∀ (t serial strap : Nat) (imageId : List Byte) (s : State), s.par.linkUp = true → ∃ r, exec (.id t imageId serial strap) s = .next r
      ∧ r.par.peerId = some (imageId.map BitVec.toNat) ∧ r.par.peerSerial = serial ∧ r.par.peerStrap = some strap
      ∧ r.rd (.par .statIdmatch) 0 = b2n (match s.eph.inForce with
          | some im => im.hdr.imageId == imageId.map BitVec.toNat && !im.hdr.imageId.isEmpty
          | none => false) ∧ SameMemory s r)
  ∧ (∀ (t crc sentAt : Nat) (c : Fin 4) (req : Bool) (s : State), s.par.linkUp = true → ∃ r, exec (.pend t c req crc sentAt) s = .next r
      ∧ r.par.peerPend[c] = some ⟨req, crc, sentAt⟩ ∧ OnlyRegs s r [] ∧ SameMemory s r)
  ∧ (∀ (t seq gen pad : Nat) (c : Fin 4) (s : State), s.par.linkUp = true → s.role = 2 → s.blockOf c seq = none →
      ∃ r, exec (.crcrep t c seq gen pad) s = .next r
      ∧ r.par.reps = ⟨c, seq, gen, pad⟩ :: s.par.reps.filter (fun x => !(x.cluster == c.val && x.seq == seq)) ∧ OnlyRegs s r [] ∧ SameMemory s r)
  ∧ (∀ (t frame : Nat) (c : Fin 4) (marked : List Nat) (s : State), s.par.linkUp = true → s.role = 2 →
      s.on (.par .statLockstep) 0 = false ∨ s.rd (.chr .frameFrame) c ≠ frame → ∃ r, exec (.map t c frame marked) s = .next r
      ∧ r.par.maps[c] = some (frame, marked) ∧ OnlyRegs s r [] ∧ SameMemory s r)
  ∧ (∀ (t : Nat) (c : Fin 4) (marked : List Nat) (s : State), s.par.linkUp = true → s.role = 2 → s.on (.par .statLockstep) 0 = true →
      ∃ r, exec (.map t c (s.rd (.chr .frameFrame) c) marked) s = .next r ∧ r.par.maps[c] = none
      ∧ r.pic[c].tiles = s.pic[c].tiles.zipIdx.map (fun x => { x.1 with mark := marked.contains x.2 })
      ∧ OnlyRegs s r [(.par .cnt2Mapdiff, 0), (.frs .markedCount, c)] ∧ SameMemory s r)
  ∧ (∀ (t : Nat) (c : Fin 4) (k : Fin 6) (states lit : List Nat) (s : State), s.par.linkUp = true → s.role = 2 → k.val < states.length →
      ∃ r, exec (.chstate t c states lit) s = .next r ∧ Holds r (.lsr .chStateState) (chanInst c k) (states.getD k 0) ∧ SameMemory s r)
  ∧ (∀ (t trigger : Nat) (xs : List Nat) (s : State), s.par.linkUp = true → s.role = 1 → ∃ r, exec (.take t trigger xs) s = .next r
      ∧ r.par = { s.par with takeover := some (trigger, xs) } ∧ OnlyRegs s r [] ∧ SameMemory s r)
  ∧ (∀ (t code : Nat) (s : State), s.par.linkUp = true → ∃ r, exec (.xfatal t code) s = .next r ∧ r.par.peerX = true ∧ OnlyRegs s r []
      ∧ (s.role = 2 → s.on (.par .statReady) 0 = true → s.on (.par .ctrlAllow) 0 = true → s.par.takeover = none → r.par.takeover.isSome = true)
      ∧ SameMemory s r)

/-- The Transit link, SEL and the roles of a pair. A lane that runs and drops is taken from its direction with 0x2782, and with no lane
left in a direction the link is down (R412). A link that comes up with a lane each way raises 0x1781 and shows its lanes (R412). HANDOVER
at the prime tells the second, and at a second in lockstep that may it takes over (R417). At X a prime that took TAKE drops SEL and
becomes second; a second under trigger 1 raises SEL and becomes prime, which is counted with the trigger shown (R421). A holder of SEL for
more than 1 µs that sees the peer's rise yields with LASTTRIG 5 and 0x2154 (R420); a prime past its step 8 raises its own SEL when the
peer drops it (R418). A second whose link has not come up 1 s after its step 8 takes the prime role (R419). When the wait after a
collision is over SEL rises again if the peer's is low (R420). -/
def Obligations.PairRoles : Prop :=
  (∀ (t : Nat) (lane : Fin 4) (rx : Bool) (s : State), s.par.linkUp = true → bit (if rx then s.par.rxLanes else s.par.txLanes) lane = true →
      ∃ r, exec (.transitLaneDrop t lane rx) s = .next r
      ∧ r.par.rxLanes = (if rx then putBit s.par.rxLanes lane false else s.par.rxLanes)
      ∧ r.par.txLanes = (if rx then s.par.txLanes else putBit s.par.txLanes lane false)
      ∧ Holds r (.par .statLanes) 0 r.par.rxLanes ∧ r.rd (.st .transit .lastclass) 0 = 2
      ∧ (r.par.linkUp = false ↔ r.par.rxLanes = 0 ∨ r.par.txLanes = 0) ∧ SameMemory s r)
  ∧ (∀ (t : Nat) (tx rx : Fin 16) (s : State), s.role ≠ 0 → tx ≠ 0 → rx ≠ 0 → ∃ r, exec (.transitLinkUp t tx rx) s = .next r
      ∧ r.par.linkUp = true ∧ r.par.txLanes = tx.val ∧ r.par.rxLanes = rx.val ∧ r.rd (.par .statLanes) 0 = rx.val
      ∧ Raised s r .transit 0 0x1781 ∧ SameMemory s r)
  ∧ (∀ (t : Nat) (s : State), s.role = 1 → s.par.linkUp = true → ∃ r, exec (.handover t) s = .next r
      ∧ r.out = [.transit 0 [1, s.rd (.par .statSelOwn) 0, s.rd (.par .statLockstep) 0, s.rd (.par .statReady) 0, 0, 1]]
      ∧ OnlyRegs s r [] ∧ SameMemory s r)
  ∧ (∀ (t : Nat) (s : State), s.role = 2 → s.on (.par .statLockstep) 0 = true → s.on (.par .statReady) 0 = true → s.on (.par .ctrlAllow) 0 = true →
      s.par.takeover = none → ∃ r xs, exec (.handover t) s = .next r ∧ r.par.takeover = some (4, xs) ∧ OnlyRegs s r [] ∧ SameMemory s r)
  ∧ (∀ (t trigger : Nat) (xs : List Nat) (s : State), s.par.takeover = some (trigger, xs) → xs.min?.getD 0 ≤ max s.now t → s.role = 1 →
      ∃ r, exec (.takeoverSwitch t) s = .next r ∧ r.par.takeover = none ∧ r.rd (.par .statSelOwn) 0 = 0 ∧ r.rd (.par .statRole) 0 = 2 ∧ SameMemory s r)
  ∧ (∀ (t : Nat) (xs : List Nat) (s : State), s.par.takeover = some (1, xs) → xs.min?.getD 0 ≤ max s.now t → s.role = 2 →
      ∃ r, exec (.takeoverSwitch t) s = .next r ∧ r.par.takeover = none ∧ r.rd (.par .statSelOwn) 0 = 1 ∧ r.rd (.par .statRole) 0 = 1
      ∧ r.rd (.par .statLasttrig) 0 = 1 ∧ Bumped s r (.par .cntTakeovers) 0 ∧ r.rd (.par .statLockstep) 0 = 0 ∧ SameMemory s r)
  ∧ (∀ (t a : Nat) (s : State), s.on (.par .statSelOwn) 0 = true → s.par.selAt = some a → a + usCclk 1 < max s.now t →
      ∃ r, exec (.selPeerChange t true) s = .next r ∧ r.rd (.par .statSelPeer) 0 = 1 ∧ r.rd (.par .statSelOwn) 0 = 0 ∧ r.rd (.par .statRole) 0 = 2
      ∧ r.rd (.par .statLasttrig) 0 = 5 ∧ r.par.yielded = true ∧ Raised s r .par 0 0x2154 ∧ SameMemory s r)
  ∧ (∀ (t a : Nat) (s : State), s.par.step8At = some a → s.role = 2 → a + msCclk 1000 ≤ max s.now t → s.par.linkUp = false →
      s.on (.par .statSelPeer) 0 = false → s.par.yielded = false → ∃ r, exec (.roleTimeout t) s = .next r ∧ r.rd (.par .statRole) 0 = 1
      ∧ Raised s r .par 0 0x115B ∧ SameMemory s r)
  ∧ (∀ (t a : Nat) (s : State), s.par.retryAt = some a → a ≤ max s.now t → s.on (.par .statSelPeer) 0 = false →
      ∃ r, exec (.selRetryTimeout t) s = .next r ∧ r.par.retryAt = none ∧ r.rd (.par .statSelOwn) 0 = 1 ∧ r.rd (.par .statRole) 0 = 1
      ∧ Raised s r .par 0 0x115B ∧ SameMemory s r)
  ∧ (∀ (t a : Nat) (s : State), s.par.retryAt = some a → a ≤ max s.now t → s.on (.par .statSelPeer) 0 = true →
      ∃ r, exec (.selRetryTimeout t) s = .next r ∧ r.par.retryAt = none ∧ r.rd (.par .statRole) 0 = 2 ∧ r.rd (.par .statLasttrig) 0 = 5
      ∧ Raised s r .par 0 0x115B ∧ SameMemory s r)
  ∧ (∀ (t : Nat) (s : State), s.role ≠ 1 → ∃ r, exec (.selPeerChange t false) s = .next r ∧ r.rd (.par .statSelPeer) 0 = 0
      ∧ OnlyRegs s r [(.par .statSelPeer, 0)] ∧ SameMemory s r)
  ∧ (∀ (t : Nat) (s : State), s.role = 1 → s.par.step8At.isSome = true → s.par.retryAt = none → ∃ r, exec (.selPeerChange t false) s = .next r
      ∧ r.rd (.par .statSelPeer) 0 = 0 ∧ r.rd (.par .statSelOwn) 0 = 1 ∧ SameMemory s r)
end

