-- ==== Sys2Proof/Laws/Regs.lean ====
section
/-! SUPPORT. Laws of the register file: a read after a write, and the canonical form that every write keeps. -/

namespace Sys2Proof.Machine

theorem regFind_regErase_ne {l : List RegCell} {f g : Fld} {i j : Nat} (h : ¬ (f = g ∧ i = j)) :
    regFind (regErase l g j) f i = regFind l f i := by
  induction l with
  | nil => rfl
  | cons c l ih =>
    by_cases hc : c.fld = g ∧ c.inst = j
    · have hn : ¬ (c.fld = f ∧ c.inst = i) := fun e => h ⟨e.1.symm.trans hc.1, e.2.symm.trans hc.2⟩
      have e : regErase (c :: l) g j = regErase l g j := by simp [regErase, List.filter, hc]
      rw [e, regFind, if_neg hn, ih]
    · have e : regErase (c :: l) g j = c :: regErase l g j := by simp [regErase, List.filter, hc]
      rw [e, regFind, regFind, ih]

theorem regFind_regErase_same {l : List RegCell} {f : Fld} {i : Nat} : regFind (regErase l f i) f i = none := by
  induction l with
  | nil => rfl
  | cons c l ih =>
    by_cases hc : c.fld = f ∧ c.inst = i
    · have e : regErase (c :: l) f i = regErase l f i := by simp [regErase, List.filter, hc]
      rw [e, ih]
    · have e : regErase (c :: l) f i = c :: regErase l f i := by simp [regErase, List.filter, hc]
      rw [e, regFind, if_neg hc, ih]

theorem regFind_regInsert {l : List RegCell} {x : RegCell} {f : Fld} {i : Nat} (h : regFind l x.fld x.inst = none) :
    regFind (regInsert l x) f i = if x.fld = f ∧ x.inst = i then some x.val else regFind l f i := by
  induction l with
  | nil => simp [regInsert, regFind]
  | cons c l ih =>
    simp only [regFind] at h
    split at h
    · simp at h
    rename_i hc
    simp only [regInsert]
    split
    · simp [regFind]
    · simp only [regFind, ih h]
      split
      · rename_i hcf
        have hn : ¬ (x.fld = f ∧ x.inst = i) := fun e => hc ⟨hcf.1.trans e.1.symm, hcf.2.trans e.2.symm⟩
        simp [hn]
      · rfl

theorem mem_regErase {l : List RegCell} {f : Fld} {i : Nat} {x : RegCell} (h : x ∈ regErase l f i) : x ∈ l ∧ ¬ (x.fld = f ∧ x.inst = i) :=
  ⟨(List.mem_filter.1 h).1, by simpa only [Bool.not_eq_true', decide_eq_false_iff_not] using (List.mem_filter.1 h).2⟩

theorem mem_regInsert {l : List RegCell} {x y : RegCell} : y ∈ regInsert l x ↔ y = x ∨ y ∈ l := by
  induction l with
  | nil => simp [regInsert]
  | cons c cs ih =>
    simp only [regInsert]
    split
    · simp
    · simp only [List.mem_cons, ih]
      exact or_left_comm

theorem pairwise_regInsert {l : List RegCell} {x : RegCell} (h : l.Pairwise fun x y => ¬ (x.fld = y.fld ∧ x.inst = y.inst))
    (hx : ∀ y ∈ l, ¬ (y.fld = x.fld ∧ y.inst = x.inst)) : (regInsert l x).Pairwise fun x y => ¬ (x.fld = y.fld ∧ x.inst = y.inst) := by
  induction l with
  | nil => simp [regInsert]
  | cons c cs ih =>
    simp only [regInsert]
    have hc := List.pairwise_cons.1 h
    split
    · exact List.pairwise_cons.2 ⟨fun y hy e => hx y hy ⟨e.1.symm, e.2.symm⟩, h⟩
    · refine List.pairwise_cons.2 ⟨fun y hy => ?_, ih hc.2 fun y hy => hx y (by simp [hy])⟩
      rcases mem_regInsert.1 hy with rfl | hy
      · exact hx c (by simp)
      · exact hc.1 y hy

theorem RegsOk.filter {l : List RegCell} (h : RegsOk l) (p : RegCell → Bool) : RegsOk (l.filter p) :=
  ⟨fun x hx => h.1 x (List.mem_filter.1 hx).1, h.2.filter _⟩

theorem RegsOk.insert {l : List RegCell} (h : RegsOk l) {x : RegCell} (hv : x.val < 2 ^ x.fld.info.width) (hn : x.val ≠ resetOf x.fld x.inst)
    (hx : ∀ y ∈ l, ¬ (y.fld = x.fld ∧ y.inst = x.inst)) : RegsOk (regInsert l x) :=
  ⟨fun y hy => by
    rcases mem_regInsert.1 hy with rfl | hy
    · exact ⟨hv, hn⟩
    · exact h.1 y hy, pairwise_regInsert h.2 hx⟩

namespace State

/-- A written field reads back its value, held to its width. -/
@[simp] theorem rd_wr_same (s : State) (f : Fld) (i v : Nat) : (s.wr f i v).rd f i = v % 2 ^ f.info.width := by
  unfold wr rd
  dsimp only
  split
  · rename_i h
    rw [regFind_regErase_same, Option.getD_none, h]
  · rw [regFind_regInsert (x := ⟨f, i, _⟩) regFind_regErase_same]
    simp

/-- A write leaves every other field, and every other instance of the field, alone. -/
theorem rd_wr_ne (s : State) {f g : Fld} {i j v : Nat} (h : ¬ (f = g ∧ i = j)) : (s.wr g j v).rd f i = s.rd f i := by
  have h' : ¬ (g = f ∧ j = i) := fun e => h ⟨e.1.symm, e.2.symm⟩
  unfold wr rd
  dsimp only
  split
  · rw [regFind_regErase_ne h]
  · rw [regFind_regInsert (x := ⟨g, j, _⟩) regFind_regErase_same, if_neg h', regFind_regErase_ne h]

/-- A read after a write. -/
theorem rd_wr (s : State) (f g : Fld) (i j v : Nat) :
    (s.wr g j v).rd f i = if f = g ∧ i = j then v % 2 ^ g.info.width else s.rd f i := by
  split
  · rename_i h
    obtain ⟨rfl, rfl⟩ := h
    exact rd_wr_same s f i v
  · rename_i h
    exact rd_wr_ne s h

theorem regsOk_wr {s : State} {f : Fld} {i v : Nat} (h : RegsOk s.regs) : RegsOk (s.wr f i v).regs := by
  unfold wr
  dsimp only
  split
  · exact h.filter _
  · rename_i hne
    exact RegsOk.insert (h.filter _) (Nat.mod_lt _ (Nat.two_pow_pos _)) hne fun y hy => (mem_regErase hy).2

end State

end Sys2Proof.Machine
end

