-- ==== Sys2Proof/Laws/State.lean ====
section
/-! SUPPORT. What each plain update of the state changes and what it leaves: one lemma per field per update, true by unfolding. -/

namespace Sys2Proof.Machine.State

@[simp] theorem wr_pending (s : State) (f : Fld) (i v : Nat) : (s.wr f i v).pending = s.pending := rfl
@[simp] theorem wr_now (s : State) (f : Fld) (i v : Nat) : (s.wr f i v).now = s.now := rfl
@[simp] theorem wr_completion (s : State) (f : Fld) (i v : Nat) : (s.wr f i v).completion = s.completion := rfl
@[simp] theorem wr_out (s : State) (f : Fld) (i v : Nat) : (s.wr f i v).out = s.out := rfl
@[simp] theorem wr_fresh (s : State) (f : Fld) (i v : Nat) : (s.wr f i v).fresh = s.fresh := rfl
@[simp] theorem wr_shadow (s : State) (f : Fld) (i v : Nat) : (s.wr f i v).shadow = s.shadow := rfl
@[simp] theorem wr_rdLatch (s : State) (f : Fld) (i v : Nat) : (s.wr f i v).rdLatch = s.rdLatch := rfl
@[simp] theorem wr_wrHold (s : State) (f : Fld) (i v : Nat) : (s.wr f i v).wrHold = s.wrHold := rfl
@[simp] theorem wr_heldLive (s : State) (f : Fld) (i v : Nat) : (s.wr f i v).heldLive = s.heldLive := rfl
@[simp] theorem wr_insts (s : State) (f : Fld) (i v : Nat) : (s.wr f i v).insts = s.insts := rfl
@[simp] theorem wr_dev (s : State) (f : Fld) (i v : Nat) : (s.wr f i v).dev = s.dev := rfl
@[simp] theorem wr_hbm (s : State) (f : Fld) (i v : Nat) : (s.wr f i v).hbm = s.hbm := rfl
@[simp] theorem wr_plate (s : State) (f : Fld) (i v : Nat) : (s.wr f i v).plate = s.plate := rfl
@[simp] theorem wr_raw (s : State) (f : Fld) (i v : Nat) : (s.wr f i v).raw = s.raw := rfl
@[simp] theorem wr_cfg (s : State) (f : Fld) (i v : Nat) : (s.wr f i v).cfg = s.cfg := rfl
@[simp] theorem wr_pic (s : State) (f : Fld) (i v : Nat) : (s.wr f i v).pic = s.pic := rfl
@[simp] theorem wr_chr (s : State) (f : Fld) (i v : Nat) : (s.wr f i v).chr = s.chr := rfl
@[simp] theorem wr_tri (s : State) (f : Fld) (i v : Nat) : (s.wr f i v).tri = s.tri := rfl
@[simp] theorem wr_light (s : State) (f : Fld) (i v : Nat) : (s.wr f i v).light = s.light := rfl
@[simp] theorem wr_hel (s : State) (f : Fld) (i v : Nat) : (s.wr f i v).hel = s.hel := rfl
@[simp] theorem wr_dp (s : State) (f : Fld) (i v : Nat) : (s.wr f i v).dp = s.dp := rfl
@[simp] theorem wr_mem (s : State) (f : Fld) (i v : Nat) : (s.wr f i v).mem = s.mem := rfl
@[simp] theorem wr_trn (s : State) (f : Fld) (i v : Nat) : (s.wr f i v).trn = s.trn := rfl
@[simp] theorem wr_eph (s : State) (f : Fld) (i v : Nat) : (s.wr f i v).eph = s.eph := rfl
@[simp] theorem wr_alm (s : State) (f : Fld) (i v : Nat) : (s.wr f i v).alm = s.alm := rfl
@[simp] theorem wr_log (s : State) (f : Fld) (i v : Nat) : (s.wr f i v).log = s.log := rfl
@[simp] theorem wr_arc (s : State) (f : Fld) (i v : Nat) : (s.wr f i v).arc = s.arc := rfl
@[simp] theorem wr_pwr (s : State) (f : Fld) (i v : Nat) : (s.wr f i v).pwr = s.pwr := rfl
@[simp] theorem wr_host (s : State) (f : Fld) (i v : Nat) : (s.wr f i v).host = s.host := rfl
@[simp] theorem wr_chn (s : State) (f : Fld) (i v : Nat) : (s.wr f i v).chn = s.chn := rfl
@[simp] theorem wr_par (s : State) (f : Fld) (i v : Nat) : (s.wr f i v).par = s.par := rfl
@[simp] theorem wr_obs (s : State) (f : Fld) (i v : Nat) : (s.wr f i v).obs = s.obs := rfl
@[simp] theorem wr_heldPermit (s : State) (f : Fld) (i v : Nat) : (s.wr f i v).heldPermit = s.heldPermit := rfl
@[simp] theorem wr_stopped (s : State) (f : Fld) (i v : Nat) : (s.wr f i v).stopped = s.stopped := rfl
@[simp] theorem wr_retries (s : State) (f : Fld) (i v : Nat) : (s.wr f i v).retries = s.retries := rfl

@[simp] theorem wrb_pending (s : State) (f : Fld) (i : Nat) (b : Bool) : (s.wrb f i b).pending = s.pending := rfl
@[simp] theorem wrb_now (s : State) (f : Fld) (i : Nat) (b : Bool) : (s.wrb f i b).now = s.now := rfl
@[simp] theorem wrb_completion (s : State) (f : Fld) (i : Nat) (b : Bool) : (s.wrb f i b).completion = s.completion := rfl
@[simp] theorem wrb_out (s : State) (f : Fld) (i : Nat) (b : Bool) : (s.wrb f i b).out = s.out := rfl
@[simp] theorem wrb_fresh (s : State) (f : Fld) (i : Nat) (b : Bool) : (s.wrb f i b).fresh = s.fresh := rfl
@[simp] theorem wrb_shadow (s : State) (f : Fld) (i : Nat) (b : Bool) : (s.wrb f i b).shadow = s.shadow := rfl
@[simp] theorem wrb_rdLatch (s : State) (f : Fld) (i : Nat) (b : Bool) : (s.wrb f i b).rdLatch = s.rdLatch := rfl
@[simp] theorem wrb_wrHold (s : State) (f : Fld) (i : Nat) (b : Bool) : (s.wrb f i b).wrHold = s.wrHold := rfl
@[simp] theorem wrb_heldLive (s : State) (f : Fld) (i : Nat) (b : Bool) : (s.wrb f i b).heldLive = s.heldLive := rfl
@[simp] theorem wrb_insts (s : State) (f : Fld) (i : Nat) (b : Bool) : (s.wrb f i b).insts = s.insts := rfl
@[simp] theorem wrb_dev (s : State) (f : Fld) (i : Nat) (b : Bool) : (s.wrb f i b).dev = s.dev := rfl
@[simp] theorem wrb_hbm (s : State) (f : Fld) (i : Nat) (b : Bool) : (s.wrb f i b).hbm = s.hbm := rfl
@[simp] theorem wrb_plate (s : State) (f : Fld) (i : Nat) (b : Bool) : (s.wrb f i b).plate = s.plate := rfl
@[simp] theorem wrb_raw (s : State) (f : Fld) (i : Nat) (b : Bool) : (s.wrb f i b).raw = s.raw := rfl
@[simp] theorem wrb_cfg (s : State) (f : Fld) (i : Nat) (b : Bool) : (s.wrb f i b).cfg = s.cfg := rfl
@[simp] theorem wrb_pic (s : State) (f : Fld) (i : Nat) (b : Bool) : (s.wrb f i b).pic = s.pic := rfl
@[simp] theorem wrb_chr (s : State) (f : Fld) (i : Nat) (b : Bool) : (s.wrb f i b).chr = s.chr := rfl
@[simp] theorem wrb_tri (s : State) (f : Fld) (i : Nat) (b : Bool) : (s.wrb f i b).tri = s.tri := rfl
@[simp] theorem wrb_light (s : State) (f : Fld) (i : Nat) (b : Bool) : (s.wrb f i b).light = s.light := rfl
@[simp] theorem wrb_hel (s : State) (f : Fld) (i : Nat) (b : Bool) : (s.wrb f i b).hel = s.hel := rfl
@[simp] theorem wrb_dp (s : State) (f : Fld) (i : Nat) (b : Bool) : (s.wrb f i b).dp = s.dp := rfl
@[simp] theorem wrb_mem (s : State) (f : Fld) (i : Nat) (b : Bool) : (s.wrb f i b).mem = s.mem := rfl
@[simp] theorem wrb_trn (s : State) (f : Fld) (i : Nat) (b : Bool) : (s.wrb f i b).trn = s.trn := rfl
@[simp] theorem wrb_eph (s : State) (f : Fld) (i : Nat) (b : Bool) : (s.wrb f i b).eph = s.eph := rfl
@[simp] theorem wrb_alm (s : State) (f : Fld) (i : Nat) (b : Bool) : (s.wrb f i b).alm = s.alm := rfl
@[simp] theorem wrb_log (s : State) (f : Fld) (i : Nat) (b : Bool) : (s.wrb f i b).log = s.log := rfl
@[simp] theorem wrb_arc (s : State) (f : Fld) (i : Nat) (b : Bool) : (s.wrb f i b).arc = s.arc := rfl
@[simp] theorem wrb_pwr (s : State) (f : Fld) (i : Nat) (b : Bool) : (s.wrb f i b).pwr = s.pwr := rfl
@[simp] theorem wrb_host (s : State) (f : Fld) (i : Nat) (b : Bool) : (s.wrb f i b).host = s.host := rfl
@[simp] theorem wrb_chn (s : State) (f : Fld) (i : Nat) (b : Bool) : (s.wrb f i b).chn = s.chn := rfl
@[simp] theorem wrb_par (s : State) (f : Fld) (i : Nat) (b : Bool) : (s.wrb f i b).par = s.par := rfl
@[simp] theorem wrb_obs (s : State) (f : Fld) (i : Nat) (b : Bool) : (s.wrb f i b).obs = s.obs := rfl
@[simp] theorem wrb_heldPermit (s : State) (f : Fld) (i : Nat) (b : Bool) : (s.wrb f i b).heldPermit = s.heldPermit := rfl
@[simp] theorem wrb_stopped (s : State) (f : Fld) (i : Nat) (b : Bool) : (s.wrb f i b).stopped = s.stopped := rfl
@[simp] theorem wrb_retries (s : State) (f : Fld) (i : Nat) (b : Bool) : (s.wrb f i b).retries = s.retries := rfl

@[simp] theorem wrI_pending (s : State) (f : Fld) (i : Nat) (v : Int) : (s.wrI f i v).pending = s.pending := rfl
@[simp] theorem wrI_now (s : State) (f : Fld) (i : Nat) (v : Int) : (s.wrI f i v).now = s.now := rfl
@[simp] theorem wrI_completion (s : State) (f : Fld) (i : Nat) (v : Int) : (s.wrI f i v).completion = s.completion := rfl
@[simp] theorem wrI_out (s : State) (f : Fld) (i : Nat) (v : Int) : (s.wrI f i v).out = s.out := rfl
@[simp] theorem wrI_fresh (s : State) (f : Fld) (i : Nat) (v : Int) : (s.wrI f i v).fresh = s.fresh := rfl
@[simp] theorem wrI_shadow (s : State) (f : Fld) (i : Nat) (v : Int) : (s.wrI f i v).shadow = s.shadow := rfl
@[simp] theorem wrI_rdLatch (s : State) (f : Fld) (i : Nat) (v : Int) : (s.wrI f i v).rdLatch = s.rdLatch := rfl
@[simp] theorem wrI_wrHold (s : State) (f : Fld) (i : Nat) (v : Int) : (s.wrI f i v).wrHold = s.wrHold := rfl
@[simp] theorem wrI_heldLive (s : State) (f : Fld) (i : Nat) (v : Int) : (s.wrI f i v).heldLive = s.heldLive := rfl
@[simp] theorem wrI_insts (s : State) (f : Fld) (i : Nat) (v : Int) : (s.wrI f i v).insts = s.insts := rfl
@[simp] theorem wrI_dev (s : State) (f : Fld) (i : Nat) (v : Int) : (s.wrI f i v).dev = s.dev := rfl
@[simp] theorem wrI_hbm (s : State) (f : Fld) (i : Nat) (v : Int) : (s.wrI f i v).hbm = s.hbm := rfl
@[simp] theorem wrI_plate (s : State) (f : Fld) (i : Nat) (v : Int) : (s.wrI f i v).plate = s.plate := rfl
@[simp] theorem wrI_raw (s : State) (f : Fld) (i : Nat) (v : Int) : (s.wrI f i v).raw = s.raw := rfl
@[simp] theorem wrI_cfg (s : State) (f : Fld) (i : Nat) (v : Int) : (s.wrI f i v).cfg = s.cfg := rfl
@[simp] theorem wrI_pic (s : State) (f : Fld) (i : Nat) (v : Int) : (s.wrI f i v).pic = s.pic := rfl
@[simp] theorem wrI_chr (s : State) (f : Fld) (i : Nat) (v : Int) : (s.wrI f i v).chr = s.chr := rfl
@[simp] theorem wrI_tri (s : State) (f : Fld) (i : Nat) (v : Int) : (s.wrI f i v).tri = s.tri := rfl
@[simp] theorem wrI_light (s : State) (f : Fld) (i : Nat) (v : Int) : (s.wrI f i v).light = s.light := rfl
@[simp] theorem wrI_hel (s : State) (f : Fld) (i : Nat) (v : Int) : (s.wrI f i v).hel = s.hel := rfl
@[simp] theorem wrI_dp (s : State) (f : Fld) (i : Nat) (v : Int) : (s.wrI f i v).dp = s.dp := rfl
@[simp] theorem wrI_mem (s : State) (f : Fld) (i : Nat) (v : Int) : (s.wrI f i v).mem = s.mem := rfl
@[simp] theorem wrI_trn (s : State) (f : Fld) (i : Nat) (v : Int) : (s.wrI f i v).trn = s.trn := rfl
@[simp] theorem wrI_eph (s : State) (f : Fld) (i : Nat) (v : Int) : (s.wrI f i v).eph = s.eph := rfl
@[simp] theorem wrI_alm (s : State) (f : Fld) (i : Nat) (v : Int) : (s.wrI f i v).alm = s.alm := rfl
@[simp] theorem wrI_log (s : State) (f : Fld) (i : Nat) (v : Int) : (s.wrI f i v).log = s.log := rfl
@[simp] theorem wrI_arc (s : State) (f : Fld) (i : Nat) (v : Int) : (s.wrI f i v).arc = s.arc := rfl
@[simp] theorem wrI_pwr (s : State) (f : Fld) (i : Nat) (v : Int) : (s.wrI f i v).pwr = s.pwr := rfl
@[simp] theorem wrI_host (s : State) (f : Fld) (i : Nat) (v : Int) : (s.wrI f i v).host = s.host := rfl
@[simp] theorem wrI_chn (s : State) (f : Fld) (i : Nat) (v : Int) : (s.wrI f i v).chn = s.chn := rfl
@[simp] theorem wrI_par (s : State) (f : Fld) (i : Nat) (v : Int) : (s.wrI f i v).par = s.par := rfl
@[simp] theorem wrI_obs (s : State) (f : Fld) (i : Nat) (v : Int) : (s.wrI f i v).obs = s.obs := rfl
@[simp] theorem wrI_heldPermit (s : State) (f : Fld) (i : Nat) (v : Int) : (s.wrI f i v).heldPermit = s.heldPermit := rfl
@[simp] theorem wrI_stopped (s : State) (f : Fld) (i : Nat) (v : Int) : (s.wrI f i v).stopped = s.stopped := rfl
@[simp] theorem wrI_retries (s : State) (f : Fld) (i : Nat) (v : Int) : (s.wrI f i v).retries = s.retries := rfl

@[simp] theorem bumpBy_pending (s : State) (f : Fld) (i n : Nat) : (s.bumpBy f i n).pending = s.pending := rfl
@[simp] theorem bumpBy_now (s : State) (f : Fld) (i n : Nat) : (s.bumpBy f i n).now = s.now := rfl
@[simp] theorem bumpBy_completion (s : State) (f : Fld) (i n : Nat) : (s.bumpBy f i n).completion = s.completion := rfl
@[simp] theorem bumpBy_out (s : State) (f : Fld) (i n : Nat) : (s.bumpBy f i n).out = s.out := rfl
@[simp] theorem bumpBy_fresh (s : State) (f : Fld) (i n : Nat) : (s.bumpBy f i n).fresh = s.fresh := rfl
@[simp] theorem bumpBy_shadow (s : State) (f : Fld) (i n : Nat) : (s.bumpBy f i n).shadow = s.shadow := rfl
@[simp] theorem bumpBy_rdLatch (s : State) (f : Fld) (i n : Nat) : (s.bumpBy f i n).rdLatch = s.rdLatch := rfl
@[simp] theorem bumpBy_wrHold (s : State) (f : Fld) (i n : Nat) : (s.bumpBy f i n).wrHold = s.wrHold := rfl
@[simp] theorem bumpBy_heldLive (s : State) (f : Fld) (i n : Nat) : (s.bumpBy f i n).heldLive = s.heldLive := rfl
@[simp] theorem bumpBy_insts (s : State) (f : Fld) (i n : Nat) : (s.bumpBy f i n).insts = s.insts := rfl
@[simp] theorem bumpBy_dev (s : State) (f : Fld) (i n : Nat) : (s.bumpBy f i n).dev = s.dev := rfl
@[simp] theorem bumpBy_hbm (s : State) (f : Fld) (i n : Nat) : (s.bumpBy f i n).hbm = s.hbm := rfl
@[simp] theorem bumpBy_plate (s : State) (f : Fld) (i n : Nat) : (s.bumpBy f i n).plate = s.plate := rfl
@[simp] theorem bumpBy_raw (s : State) (f : Fld) (i n : Nat) : (s.bumpBy f i n).raw = s.raw := rfl
@[simp] theorem bumpBy_cfg (s : State) (f : Fld) (i n : Nat) : (s.bumpBy f i n).cfg = s.cfg := rfl
@[simp] theorem bumpBy_pic (s : State) (f : Fld) (i n : Nat) : (s.bumpBy f i n).pic = s.pic := rfl
@[simp] theorem bumpBy_chr (s : State) (f : Fld) (i n : Nat) : (s.bumpBy f i n).chr = s.chr := rfl
@[simp] theorem bumpBy_tri (s : State) (f : Fld) (i n : Nat) : (s.bumpBy f i n).tri = s.tri := rfl
@[simp] theorem bumpBy_light (s : State) (f : Fld) (i n : Nat) : (s.bumpBy f i n).light = s.light := rfl
@[simp] theorem bumpBy_hel (s : State) (f : Fld) (i n : Nat) : (s.bumpBy f i n).hel = s.hel := rfl
@[simp] theorem bumpBy_dp (s : State) (f : Fld) (i n : Nat) : (s.bumpBy f i n).dp = s.dp := rfl
@[simp] theorem bumpBy_mem (s : State) (f : Fld) (i n : Nat) : (s.bumpBy f i n).mem = s.mem := rfl
@[simp] theorem bumpBy_trn (s : State) (f : Fld) (i n : Nat) : (s.bumpBy f i n).trn = s.trn := rfl
@[simp] theorem bumpBy_eph (s : State) (f : Fld) (i n : Nat) : (s.bumpBy f i n).eph = s.eph := rfl
@[simp] theorem bumpBy_alm (s : State) (f : Fld) (i n : Nat) : (s.bumpBy f i n).alm = s.alm := rfl
@[simp] theorem bumpBy_log (s : State) (f : Fld) (i n : Nat) : (s.bumpBy f i n).log = s.log := rfl
@[simp] theorem bumpBy_arc (s : State) (f : Fld) (i n : Nat) : (s.bumpBy f i n).arc = s.arc := rfl
@[simp] theorem bumpBy_pwr (s : State) (f : Fld) (i n : Nat) : (s.bumpBy f i n).pwr = s.pwr := rfl
@[simp] theorem bumpBy_host (s : State) (f : Fld) (i n : Nat) : (s.bumpBy f i n).host = s.host := rfl
@[simp] theorem bumpBy_chn (s : State) (f : Fld) (i n : Nat) : (s.bumpBy f i n).chn = s.chn := rfl
@[simp] theorem bumpBy_par (s : State) (f : Fld) (i n : Nat) : (s.bumpBy f i n).par = s.par := rfl
@[simp] theorem bumpBy_obs (s : State) (f : Fld) (i n : Nat) : (s.bumpBy f i n).obs = s.obs := rfl
@[simp] theorem bumpBy_heldPermit (s : State) (f : Fld) (i n : Nat) : (s.bumpBy f i n).heldPermit = s.heldPermit := rfl
@[simp] theorem bumpBy_stopped (s : State) (f : Fld) (i n : Nat) : (s.bumpBy f i n).stopped = s.stopped := rfl
@[simp] theorem bumpBy_retries (s : State) (f : Fld) (i n : Nat) : (s.bumpBy f i n).retries = s.retries := rfl

@[simp] theorem bump_pending (s : State) (f : Fld) (i : Nat) : (s.bump f i).pending = s.pending := rfl
@[simp] theorem bump_now (s : State) (f : Fld) (i : Nat) : (s.bump f i).now = s.now := rfl
@[simp] theorem bump_completion (s : State) (f : Fld) (i : Nat) : (s.bump f i).completion = s.completion := rfl
@[simp] theorem bump_out (s : State) (f : Fld) (i : Nat) : (s.bump f i).out = s.out := rfl
@[simp] theorem bump_fresh (s : State) (f : Fld) (i : Nat) : (s.bump f i).fresh = s.fresh := rfl
@[simp] theorem bump_shadow (s : State) (f : Fld) (i : Nat) : (s.bump f i).shadow = s.shadow := rfl
@[simp] theorem bump_rdLatch (s : State) (f : Fld) (i : Nat) : (s.bump f i).rdLatch = s.rdLatch := rfl
@[simp] theorem bump_wrHold (s : State) (f : Fld) (i : Nat) : (s.bump f i).wrHold = s.wrHold := rfl
@[simp] theorem bump_heldLive (s : State) (f : Fld) (i : Nat) : (s.bump f i).heldLive = s.heldLive := rfl
@[simp] theorem bump_insts (s : State) (f : Fld) (i : Nat) : (s.bump f i).insts = s.insts := rfl
@[simp] theorem bump_dev (s : State) (f : Fld) (i : Nat) : (s.bump f i).dev = s.dev := rfl
@[simp] theorem bump_hbm (s : State) (f : Fld) (i : Nat) : (s.bump f i).hbm = s.hbm := rfl
@[simp] theorem bump_plate (s : State) (f : Fld) (i : Nat) : (s.bump f i).plate = s.plate := rfl
@[simp] theorem bump_raw (s : State) (f : Fld) (i : Nat) : (s.bump f i).raw = s.raw := rfl
@[simp] theorem bump_cfg (s : State) (f : Fld) (i : Nat) : (s.bump f i).cfg = s.cfg := rfl
@[simp] theorem bump_pic (s : State) (f : Fld) (i : Nat) : (s.bump f i).pic = s.pic := rfl
@[simp] theorem bump_chr (s : State) (f : Fld) (i : Nat) : (s.bump f i).chr = s.chr := rfl
@[simp] theorem bump_tri (s : State) (f : Fld) (i : Nat) : (s.bump f i).tri = s.tri := rfl
@[simp] theorem bump_light (s : State) (f : Fld) (i : Nat) : (s.bump f i).light = s.light := rfl
@[simp] theorem bump_hel (s : State) (f : Fld) (i : Nat) : (s.bump f i).hel = s.hel := rfl
@[simp] theorem bump_dp (s : State) (f : Fld) (i : Nat) : (s.bump f i).dp = s.dp := rfl
@[simp] theorem bump_mem (s : State) (f : Fld) (i : Nat) : (s.bump f i).mem = s.mem := rfl
@[simp] theorem bump_trn (s : State) (f : Fld) (i : Nat) : (s.bump f i).trn = s.trn := rfl
@[simp] theorem bump_eph (s : State) (f : Fld) (i : Nat) : (s.bump f i).eph = s.eph := rfl
@[simp] theorem bump_alm (s : State) (f : Fld) (i : Nat) : (s.bump f i).alm = s.alm := rfl
@[simp] theorem bump_log (s : State) (f : Fld) (i : Nat) : (s.bump f i).log = s.log := rfl
@[simp] theorem bump_arc (s : State) (f : Fld) (i : Nat) : (s.bump f i).arc = s.arc := rfl
@[simp] theorem bump_pwr (s : State) (f : Fld) (i : Nat) : (s.bump f i).pwr = s.pwr := rfl
@[simp] theorem bump_host (s : State) (f : Fld) (i : Nat) : (s.bump f i).host = s.host := rfl
@[simp] theorem bump_chn (s : State) (f : Fld) (i : Nat) : (s.bump f i).chn = s.chn := rfl
@[simp] theorem bump_par (s : State) (f : Fld) (i : Nat) : (s.bump f i).par = s.par := rfl
@[simp] theorem bump_obs (s : State) (f : Fld) (i : Nat) : (s.bump f i).obs = s.obs := rfl
@[simp] theorem bump_heldPermit (s : State) (f : Fld) (i : Nat) : (s.bump f i).heldPermit = s.heldPermit := rfl
@[simp] theorem bump_stopped (s : State) (f : Fld) (i : Nat) : (s.bump f i).stopped = s.stopped := rfl
@[simp] theorem bump_retries (s : State) (f : Fld) (i : Nat) : (s.bump f i).retries = s.retries := rfl

@[simp] theorem modPic_pending (s : State) (c : Fin 4) (g : Picture → Picture) : (s.modPic c g).pending = s.pending := rfl
@[simp] theorem modPic_now (s : State) (c : Fin 4) (g : Picture → Picture) : (s.modPic c g).now = s.now := rfl
@[simp] theorem modPic_completion (s : State) (c : Fin 4) (g : Picture → Picture) : (s.modPic c g).completion = s.completion := rfl
@[simp] theorem modPic_out (s : State) (c : Fin 4) (g : Picture → Picture) : (s.modPic c g).out = s.out := rfl
@[simp] theorem modPic_fresh (s : State) (c : Fin 4) (g : Picture → Picture) : (s.modPic c g).fresh = s.fresh := rfl
@[simp] theorem modPic_regs (s : State) (c : Fin 4) (g : Picture → Picture) : (s.modPic c g).regs = s.regs := rfl
@[simp] theorem modPic_shadow (s : State) (c : Fin 4) (g : Picture → Picture) : (s.modPic c g).shadow = s.shadow := rfl
@[simp] theorem modPic_rdLatch (s : State) (c : Fin 4) (g : Picture → Picture) : (s.modPic c g).rdLatch = s.rdLatch := rfl
@[simp] theorem modPic_wrHold (s : State) (c : Fin 4) (g : Picture → Picture) : (s.modPic c g).wrHold = s.wrHold := rfl
@[simp] theorem modPic_heldLive (s : State) (c : Fin 4) (g : Picture → Picture) : (s.modPic c g).heldLive = s.heldLive := rfl
@[simp] theorem modPic_insts (s : State) (c : Fin 4) (g : Picture → Picture) : (s.modPic c g).insts = s.insts := rfl
@[simp] theorem modPic_dev (s : State) (c : Fin 4) (g : Picture → Picture) : (s.modPic c g).dev = s.dev := rfl
@[simp] theorem modPic_hbm (s : State) (c : Fin 4) (g : Picture → Picture) : (s.modPic c g).hbm = s.hbm := rfl
@[simp] theorem modPic_plate (s : State) (c : Fin 4) (g : Picture → Picture) : (s.modPic c g).plate = s.plate := rfl
@[simp] theorem modPic_raw (s : State) (c : Fin 4) (g : Picture → Picture) : (s.modPic c g).raw = s.raw := rfl
@[simp] theorem modPic_cfg (s : State) (c : Fin 4) (g : Picture → Picture) : (s.modPic c g).cfg = s.cfg := rfl
@[simp] theorem modPic_chr (s : State) (c : Fin 4) (g : Picture → Picture) : (s.modPic c g).chr = s.chr := rfl
@[simp] theorem modPic_tri (s : State) (c : Fin 4) (g : Picture → Picture) : (s.modPic c g).tri = s.tri := rfl
@[simp] theorem modPic_light (s : State) (c : Fin 4) (g : Picture → Picture) : (s.modPic c g).light = s.light := rfl
@[simp] theorem modPic_hel (s : State) (c : Fin 4) (g : Picture → Picture) : (s.modPic c g).hel = s.hel := rfl
@[simp] theorem modPic_dp (s : State) (c : Fin 4) (g : Picture → Picture) : (s.modPic c g).dp = s.dp := rfl
@[simp] theorem modPic_mem (s : State) (c : Fin 4) (g : Picture → Picture) : (s.modPic c g).mem = s.mem := rfl
@[simp] theorem modPic_trn (s : State) (c : Fin 4) (g : Picture → Picture) : (s.modPic c g).trn = s.trn := rfl
@[simp] theorem modPic_eph (s : State) (c : Fin 4) (g : Picture → Picture) : (s.modPic c g).eph = s.eph := rfl
@[simp] theorem modPic_alm (s : State) (c : Fin 4) (g : Picture → Picture) : (s.modPic c g).alm = s.alm := rfl
@[simp] theorem modPic_log (s : State) (c : Fin 4) (g : Picture → Picture) : (s.modPic c g).log = s.log := rfl
@[simp] theorem modPic_arc (s : State) (c : Fin 4) (g : Picture → Picture) : (s.modPic c g).arc = s.arc := rfl
@[simp] theorem modPic_pwr (s : State) (c : Fin 4) (g : Picture → Picture) : (s.modPic c g).pwr = s.pwr := rfl
@[simp] theorem modPic_host (s : State) (c : Fin 4) (g : Picture → Picture) : (s.modPic c g).host = s.host := rfl
@[simp] theorem modPic_chn (s : State) (c : Fin 4) (g : Picture → Picture) : (s.modPic c g).chn = s.chn := rfl
@[simp] theorem modPic_par (s : State) (c : Fin 4) (g : Picture → Picture) : (s.modPic c g).par = s.par := rfl
@[simp] theorem modPic_obs (s : State) (c : Fin 4) (g : Picture → Picture) : (s.modPic c g).obs = s.obs := rfl
@[simp] theorem modPic_heldPermit (s : State) (c : Fin 4) (g : Picture → Picture) : (s.modPic c g).heldPermit = s.heldPermit := rfl
@[simp] theorem modPic_stopped (s : State) (c : Fin 4) (g : Picture → Picture) : (s.modPic c g).stopped = s.stopped := rfl
@[simp] theorem modPic_retries (s : State) (c : Fin 4) (g : Picture → Picture) : (s.modPic c g).retries = s.retries := rfl
@[simp] theorem modPic_pic (s : State) (c : Fin 4) (g : Picture → Picture) : (s.modPic c g).pic = s.pic.set c (g s.pic[c]) := rfl
@[simp] theorem modPic_rd (s : State) (c : Fin 4) (g : Picture → Picture) (h : Fld) (j : Nat) : (s.modPic c g).rd h j = s.rd h j := rfl

@[simp] theorem modChr_pending (s : State) (c : Fin 4) (g : Chrono → Chrono) : (s.modChr c g).pending = s.pending := rfl
@[simp] theorem modChr_now (s : State) (c : Fin 4) (g : Chrono → Chrono) : (s.modChr c g).now = s.now := rfl
@[simp] theorem modChr_completion (s : State) (c : Fin 4) (g : Chrono → Chrono) : (s.modChr c g).completion = s.completion := rfl
@[simp] theorem modChr_out (s : State) (c : Fin 4) (g : Chrono → Chrono) : (s.modChr c g).out = s.out := rfl
@[simp] theorem modChr_fresh (s : State) (c : Fin 4) (g : Chrono → Chrono) : (s.modChr c g).fresh = s.fresh := rfl
@[simp] theorem modChr_regs (s : State) (c : Fin 4) (g : Chrono → Chrono) : (s.modChr c g).regs = s.regs := rfl
@[simp] theorem modChr_shadow (s : State) (c : Fin 4) (g : Chrono → Chrono) : (s.modChr c g).shadow = s.shadow := rfl
@[simp] theorem modChr_rdLatch (s : State) (c : Fin 4) (g : Chrono → Chrono) : (s.modChr c g).rdLatch = s.rdLatch := rfl
@[simp] theorem modChr_wrHold (s : State) (c : Fin 4) (g : Chrono → Chrono) : (s.modChr c g).wrHold = s.wrHold := rfl
@[simp] theorem modChr_heldLive (s : State) (c : Fin 4) (g : Chrono → Chrono) : (s.modChr c g).heldLive = s.heldLive := rfl
@[simp] theorem modChr_insts (s : State) (c : Fin 4) (g : Chrono → Chrono) : (s.modChr c g).insts = s.insts := rfl
@[simp] theorem modChr_dev (s : State) (c : Fin 4) (g : Chrono → Chrono) : (s.modChr c g).dev = s.dev := rfl
@[simp] theorem modChr_hbm (s : State) (c : Fin 4) (g : Chrono → Chrono) : (s.modChr c g).hbm = s.hbm := rfl
@[simp] theorem modChr_plate (s : State) (c : Fin 4) (g : Chrono → Chrono) : (s.modChr c g).plate = s.plate := rfl
@[simp] theorem modChr_raw (s : State) (c : Fin 4) (g : Chrono → Chrono) : (s.modChr c g).raw = s.raw := rfl
@[simp] theorem modChr_cfg (s : State) (c : Fin 4) (g : Chrono → Chrono) : (s.modChr c g).cfg = s.cfg := rfl
@[simp] theorem modChr_pic (s : State) (c : Fin 4) (g : Chrono → Chrono) : (s.modChr c g).pic = s.pic := rfl
@[simp] theorem modChr_tri (s : State) (c : Fin 4) (g : Chrono → Chrono) : (s.modChr c g).tri = s.tri := rfl
@[simp] theorem modChr_light (s : State) (c : Fin 4) (g : Chrono → Chrono) : (s.modChr c g).light = s.light := rfl
@[simp] theorem modChr_hel (s : State) (c : Fin 4) (g : Chrono → Chrono) : (s.modChr c g).hel = s.hel := rfl
@[simp] theorem modChr_dp (s : State) (c : Fin 4) (g : Chrono → Chrono) : (s.modChr c g).dp = s.dp := rfl
@[simp] theorem modChr_mem (s : State) (c : Fin 4) (g : Chrono → Chrono) : (s.modChr c g).mem = s.mem := rfl
@[simp] theorem modChr_trn (s : State) (c : Fin 4) (g : Chrono → Chrono) : (s.modChr c g).trn = s.trn := rfl
@[simp] theorem modChr_eph (s : State) (c : Fin 4) (g : Chrono → Chrono) : (s.modChr c g).eph = s.eph := rfl
@[simp] theorem modChr_alm (s : State) (c : Fin 4) (g : Chrono → Chrono) : (s.modChr c g).alm = s.alm := rfl
@[simp] theorem modChr_log (s : State) (c : Fin 4) (g : Chrono → Chrono) : (s.modChr c g).log = s.log := rfl
@[simp] theorem modChr_arc (s : State) (c : Fin 4) (g : Chrono → Chrono) : (s.modChr c g).arc = s.arc := rfl
@[simp] theorem modChr_pwr (s : State) (c : Fin 4) (g : Chrono → Chrono) : (s.modChr c g).pwr = s.pwr := rfl
@[simp] theorem modChr_host (s : State) (c : Fin 4) (g : Chrono → Chrono) : (s.modChr c g).host = s.host := rfl
@[simp] theorem modChr_chn (s : State) (c : Fin 4) (g : Chrono → Chrono) : (s.modChr c g).chn = s.chn := rfl
@[simp] theorem modChr_par (s : State) (c : Fin 4) (g : Chrono → Chrono) : (s.modChr c g).par = s.par := rfl
@[simp] theorem modChr_obs (s : State) (c : Fin 4) (g : Chrono → Chrono) : (s.modChr c g).obs = s.obs := rfl
@[simp] theorem modChr_heldPermit (s : State) (c : Fin 4) (g : Chrono → Chrono) : (s.modChr c g).heldPermit = s.heldPermit := rfl
@[simp] theorem modChr_stopped (s : State) (c : Fin 4) (g : Chrono → Chrono) : (s.modChr c g).stopped = s.stopped := rfl
@[simp] theorem modChr_retries (s : State) (c : Fin 4) (g : Chrono → Chrono) : (s.modChr c g).retries = s.retries := rfl
@[simp] theorem modChr_chr (s : State) (c : Fin 4) (g : Chrono → Chrono) : (s.modChr c g).chr = s.chr.set c (g s.chr[c]) := rfl
@[simp] theorem modChr_rd (s : State) (c : Fin 4) (g : Chrono → Chrono) (h : Fld) (j : Nat) : (s.modChr c g).rd h j = s.rd h j := rfl

@[simp] theorem modTri_pending (s : State) (c : Fin 4) (g : Trioc → Trioc) : (s.modTri c g).pending = s.pending := rfl
@[simp] theorem modTri_now (s : State) (c : Fin 4) (g : Trioc → Trioc) : (s.modTri c g).now = s.now := rfl
@[simp] theorem modTri_completion (s : State) (c : Fin 4) (g : Trioc → Trioc) : (s.modTri c g).completion = s.completion := rfl
@[simp] theorem modTri_out (s : State) (c : Fin 4) (g : Trioc → Trioc) : (s.modTri c g).out = s.out := rfl
@[simp] theorem modTri_fresh (s : State) (c : Fin 4) (g : Trioc → Trioc) : (s.modTri c g).fresh = s.fresh := rfl
@[simp] theorem modTri_regs (s : State) (c : Fin 4) (g : Trioc → Trioc) : (s.modTri c g).regs = s.regs := rfl
@[simp] theorem modTri_shadow (s : State) (c : Fin 4) (g : Trioc → Trioc) : (s.modTri c g).shadow = s.shadow := rfl
@[simp] theorem modTri_rdLatch (s : State) (c : Fin 4) (g : Trioc → Trioc) : (s.modTri c g).rdLatch = s.rdLatch := rfl
@[simp] theorem modTri_wrHold (s : State) (c : Fin 4) (g : Trioc → Trioc) : (s.modTri c g).wrHold = s.wrHold := rfl
@[simp] theorem modTri_heldLive (s : State) (c : Fin 4) (g : Trioc → Trioc) : (s.modTri c g).heldLive = s.heldLive := rfl
@[simp] theorem modTri_insts (s : State) (c : Fin 4) (g : Trioc → Trioc) : (s.modTri c g).insts = s.insts := rfl
@[simp] theorem modTri_dev (s : State) (c : Fin 4) (g : Trioc → Trioc) : (s.modTri c g).dev = s.dev := rfl
@[simp] theorem modTri_hbm (s : State) (c : Fin 4) (g : Trioc → Trioc) : (s.modTri c g).hbm = s.hbm := rfl
@[simp] theorem modTri_plate (s : State) (c : Fin 4) (g : Trioc → Trioc) : (s.modTri c g).plate = s.plate := rfl
@[simp] theorem modTri_raw (s : State) (c : Fin 4) (g : Trioc → Trioc) : (s.modTri c g).raw = s.raw := rfl
@[simp] theorem modTri_cfg (s : State) (c : Fin 4) (g : Trioc → Trioc) : (s.modTri c g).cfg = s.cfg := rfl
@[simp] theorem modTri_pic (s : State) (c : Fin 4) (g : Trioc → Trioc) : (s.modTri c g).pic = s.pic := rfl
@[simp] theorem modTri_chr (s : State) (c : Fin 4) (g : Trioc → Trioc) : (s.modTri c g).chr = s.chr := rfl
@[simp] theorem modTri_light (s : State) (c : Fin 4) (g : Trioc → Trioc) : (s.modTri c g).light = s.light := rfl
@[simp] theorem modTri_hel (s : State) (c : Fin 4) (g : Trioc → Trioc) : (s.modTri c g).hel = s.hel := rfl
@[simp] theorem modTri_dp (s : State) (c : Fin 4) (g : Trioc → Trioc) : (s.modTri c g).dp = s.dp := rfl
@[simp] theorem modTri_mem (s : State) (c : Fin 4) (g : Trioc → Trioc) : (s.modTri c g).mem = s.mem := rfl
@[simp] theorem modTri_trn (s : State) (c : Fin 4) (g : Trioc → Trioc) : (s.modTri c g).trn = s.trn := rfl
@[simp] theorem modTri_eph (s : State) (c : Fin 4) (g : Trioc → Trioc) : (s.modTri c g).eph = s.eph := rfl
@[simp] theorem modTri_alm (s : State) (c : Fin 4) (g : Trioc → Trioc) : (s.modTri c g).alm = s.alm := rfl
@[simp] theorem modTri_log (s : State) (c : Fin 4) (g : Trioc → Trioc) : (s.modTri c g).log = s.log := rfl
@[simp] theorem modTri_arc (s : State) (c : Fin 4) (g : Trioc → Trioc) : (s.modTri c g).arc = s.arc := rfl
@[simp] theorem modTri_pwr (s : State) (c : Fin 4) (g : Trioc → Trioc) : (s.modTri c g).pwr = s.pwr := rfl
@[simp] theorem modTri_host (s : State) (c : Fin 4) (g : Trioc → Trioc) : (s.modTri c g).host = s.host := rfl
@[simp] theorem modTri_chn (s : State) (c : Fin 4) (g : Trioc → Trioc) : (s.modTri c g).chn = s.chn := rfl
@[simp] theorem modTri_par (s : State) (c : Fin 4) (g : Trioc → Trioc) : (s.modTri c g).par = s.par := rfl
@[simp] theorem modTri_obs (s : State) (c : Fin 4) (g : Trioc → Trioc) : (s.modTri c g).obs = s.obs := rfl
@[simp] theorem modTri_heldPermit (s : State) (c : Fin 4) (g : Trioc → Trioc) : (s.modTri c g).heldPermit = s.heldPermit := rfl
@[simp] theorem modTri_stopped (s : State) (c : Fin 4) (g : Trioc → Trioc) : (s.modTri c g).stopped = s.stopped := rfl
@[simp] theorem modTri_retries (s : State) (c : Fin 4) (g : Trioc → Trioc) : (s.modTri c g).retries = s.retries := rfl
@[simp] theorem modTri_tri (s : State) (c : Fin 4) (g : Trioc → Trioc) : (s.modTri c g).tri = s.tri.set c (g s.tri[c]) := rfl
@[simp] theorem modTri_rd (s : State) (c : Fin 4) (g : Trioc → Trioc) (h : Fld) (j : Nat) : (s.modTri c g).rd h j = s.rd h j := rfl

@[simp] theorem modLight_pending (s : State) (c : Fin 4) (g : Light → Light) : (s.modLight c g).pending = s.pending := rfl
@[simp] theorem modLight_now (s : State) (c : Fin 4) (g : Light → Light) : (s.modLight c g).now = s.now := rfl
@[simp] theorem modLight_completion (s : State) (c : Fin 4) (g : Light → Light) : (s.modLight c g).completion = s.completion := rfl
@[simp] theorem modLight_out (s : State) (c : Fin 4) (g : Light → Light) : (s.modLight c g).out = s.out := rfl
@[simp] theorem modLight_fresh (s : State) (c : Fin 4) (g : Light → Light) : (s.modLight c g).fresh = s.fresh := rfl
@[simp] theorem modLight_regs (s : State) (c : Fin 4) (g : Light → Light) : (s.modLight c g).regs = s.regs := rfl
@[simp] theorem modLight_shadow (s : State) (c : Fin 4) (g : Light → Light) : (s.modLight c g).shadow = s.shadow := rfl
@[simp] theorem modLight_rdLatch (s : State) (c : Fin 4) (g : Light → Light) : (s.modLight c g).rdLatch = s.rdLatch := rfl
@[simp] theorem modLight_wrHold (s : State) (c : Fin 4) (g : Light → Light) : (s.modLight c g).wrHold = s.wrHold := rfl
@[simp] theorem modLight_heldLive (s : State) (c : Fin 4) (g : Light → Light) : (s.modLight c g).heldLive = s.heldLive := rfl
@[simp] theorem modLight_insts (s : State) (c : Fin 4) (g : Light → Light) : (s.modLight c g).insts = s.insts := rfl
@[simp] theorem modLight_dev (s : State) (c : Fin 4) (g : Light → Light) : (s.modLight c g).dev = s.dev := rfl
@[simp] theorem modLight_hbm (s : State) (c : Fin 4) (g : Light → Light) : (s.modLight c g).hbm = s.hbm := rfl
@[simp] theorem modLight_plate (s : State) (c : Fin 4) (g : Light → Light) : (s.modLight c g).plate = s.plate := rfl
@[simp] theorem modLight_raw (s : State) (c : Fin 4) (g : Light → Light) : (s.modLight c g).raw = s.raw := rfl
@[simp] theorem modLight_cfg (s : State) (c : Fin 4) (g : Light → Light) : (s.modLight c g).cfg = s.cfg := rfl
@[simp] theorem modLight_pic (s : State) (c : Fin 4) (g : Light → Light) : (s.modLight c g).pic = s.pic := rfl
@[simp] theorem modLight_chr (s : State) (c : Fin 4) (g : Light → Light) : (s.modLight c g).chr = s.chr := rfl
@[simp] theorem modLight_tri (s : State) (c : Fin 4) (g : Light → Light) : (s.modLight c g).tri = s.tri := rfl
@[simp] theorem modLight_hel (s : State) (c : Fin 4) (g : Light → Light) : (s.modLight c g).hel = s.hel := rfl
@[simp] theorem modLight_dp (s : State) (c : Fin 4) (g : Light → Light) : (s.modLight c g).dp = s.dp := rfl
@[simp] theorem modLight_mem (s : State) (c : Fin 4) (g : Light → Light) : (s.modLight c g).mem = s.mem := rfl
@[simp] theorem modLight_trn (s : State) (c : Fin 4) (g : Light → Light) : (s.modLight c g).trn = s.trn := rfl
@[simp] theorem modLight_eph (s : State) (c : Fin 4) (g : Light → Light) : (s.modLight c g).eph = s.eph := rfl
@[simp] theorem modLight_alm (s : State) (c : Fin 4) (g : Light → Light) : (s.modLight c g).alm = s.alm := rfl
@[simp] theorem modLight_log (s : State) (c : Fin 4) (g : Light → Light) : (s.modLight c g).log = s.log := rfl
@[simp] theorem modLight_arc (s : State) (c : Fin 4) (g : Light → Light) : (s.modLight c g).arc = s.arc := rfl
@[simp] theorem modLight_pwr (s : State) (c : Fin 4) (g : Light → Light) : (s.modLight c g).pwr = s.pwr := rfl
@[simp] theorem modLight_host (s : State) (c : Fin 4) (g : Light → Light) : (s.modLight c g).host = s.host := rfl
@[simp] theorem modLight_chn (s : State) (c : Fin 4) (g : Light → Light) : (s.modLight c g).chn = s.chn := rfl
@[simp] theorem modLight_par (s : State) (c : Fin 4) (g : Light → Light) : (s.modLight c g).par = s.par := rfl
@[simp] theorem modLight_obs (s : State) (c : Fin 4) (g : Light → Light) : (s.modLight c g).obs = s.obs := rfl
@[simp] theorem modLight_heldPermit (s : State) (c : Fin 4) (g : Light → Light) : (s.modLight c g).heldPermit = s.heldPermit := rfl
@[simp] theorem modLight_stopped (s : State) (c : Fin 4) (g : Light → Light) : (s.modLight c g).stopped = s.stopped := rfl
@[simp] theorem modLight_retries (s : State) (c : Fin 4) (g : Light → Light) : (s.modLight c g).retries = s.retries := rfl
@[simp] theorem modLight_light (s : State) (c : Fin 4) (g : Light → Light) : (s.modLight c g).light = s.light.set c (g s.light[c]) := rfl
@[simp] theorem modLight_rd (s : State) (c : Fin 4) (g : Light → Light) (h : Fld) (j : Nat) : (s.modLight c g).rd h j = s.rd h j := rfl

@[simp] theorem modHel_pending (s : State) (c : Fin 4) (g : Helio → Helio) : (s.modHel c g).pending = s.pending := rfl
@[simp] theorem modHel_now (s : State) (c : Fin 4) (g : Helio → Helio) : (s.modHel c g).now = s.now := rfl
@[simp] theorem modHel_completion (s : State) (c : Fin 4) (g : Helio → Helio) : (s.modHel c g).completion = s.completion := rfl
@[simp] theorem modHel_out (s : State) (c : Fin 4) (g : Helio → Helio) : (s.modHel c g).out = s.out := rfl
@[simp] theorem modHel_fresh (s : State) (c : Fin 4) (g : Helio → Helio) : (s.modHel c g).fresh = s.fresh := rfl
@[simp] theorem modHel_regs (s : State) (c : Fin 4) (g : Helio → Helio) : (s.modHel c g).regs = s.regs := rfl
@[simp] theorem modHel_shadow (s : State) (c : Fin 4) (g : Helio → Helio) : (s.modHel c g).shadow = s.shadow := rfl
@[simp] theorem modHel_rdLatch (s : State) (c : Fin 4) (g : Helio → Helio) : (s.modHel c g).rdLatch = s.rdLatch := rfl
@[simp] theorem modHel_wrHold (s : State) (c : Fin 4) (g : Helio → Helio) : (s.modHel c g).wrHold = s.wrHold := rfl
@[simp] theorem modHel_heldLive (s : State) (c : Fin 4) (g : Helio → Helio) : (s.modHel c g).heldLive = s.heldLive := rfl
@[simp] theorem modHel_insts (s : State) (c : Fin 4) (g : Helio → Helio) : (s.modHel c g).insts = s.insts := rfl
@[simp] theorem modHel_dev (s : State) (c : Fin 4) (g : Helio → Helio) : (s.modHel c g).dev = s.dev := rfl
@[simp] theorem modHel_hbm (s : State) (c : Fin 4) (g : Helio → Helio) : (s.modHel c g).hbm = s.hbm := rfl
@[simp] theorem modHel_plate (s : State) (c : Fin 4) (g : Helio → Helio) : (s.modHel c g).plate = s.plate := rfl
@[simp] theorem modHel_raw (s : State) (c : Fin 4) (g : Helio → Helio) : (s.modHel c g).raw = s.raw := rfl
@[simp] theorem modHel_cfg (s : State) (c : Fin 4) (g : Helio → Helio) : (s.modHel c g).cfg = s.cfg := rfl
@[simp] theorem modHel_pic (s : State) (c : Fin 4) (g : Helio → Helio) : (s.modHel c g).pic = s.pic := rfl
@[simp] theorem modHel_chr (s : State) (c : Fin 4) (g : Helio → Helio) : (s.modHel c g).chr = s.chr := rfl
@[simp] theorem modHel_tri (s : State) (c : Fin 4) (g : Helio → Helio) : (s.modHel c g).tri = s.tri := rfl
@[simp] theorem modHel_light (s : State) (c : Fin 4) (g : Helio → Helio) : (s.modHel c g).light = s.light := rfl
@[simp] theorem modHel_dp (s : State) (c : Fin 4) (g : Helio → Helio) : (s.modHel c g).dp = s.dp := rfl
@[simp] theorem modHel_mem (s : State) (c : Fin 4) (g : Helio → Helio) : (s.modHel c g).mem = s.mem := rfl
@[simp] theorem modHel_trn (s : State) (c : Fin 4) (g : Helio → Helio) : (s.modHel c g).trn = s.trn := rfl
@[simp] theorem modHel_eph (s : State) (c : Fin 4) (g : Helio → Helio) : (s.modHel c g).eph = s.eph := rfl
@[simp] theorem modHel_alm (s : State) (c : Fin 4) (g : Helio → Helio) : (s.modHel c g).alm = s.alm := rfl
@[simp] theorem modHel_log (s : State) (c : Fin 4) (g : Helio → Helio) : (s.modHel c g).log = s.log := rfl
@[simp] theorem modHel_arc (s : State) (c : Fin 4) (g : Helio → Helio) : (s.modHel c g).arc = s.arc := rfl
@[simp] theorem modHel_pwr (s : State) (c : Fin 4) (g : Helio → Helio) : (s.modHel c g).pwr = s.pwr := rfl
@[simp] theorem modHel_host (s : State) (c : Fin 4) (g : Helio → Helio) : (s.modHel c g).host = s.host := rfl
@[simp] theorem modHel_chn (s : State) (c : Fin 4) (g : Helio → Helio) : (s.modHel c g).chn = s.chn := rfl
@[simp] theorem modHel_par (s : State) (c : Fin 4) (g : Helio → Helio) : (s.modHel c g).par = s.par := rfl
@[simp] theorem modHel_obs (s : State) (c : Fin 4) (g : Helio → Helio) : (s.modHel c g).obs = s.obs := rfl
@[simp] theorem modHel_heldPermit (s : State) (c : Fin 4) (g : Helio → Helio) : (s.modHel c g).heldPermit = s.heldPermit := rfl
@[simp] theorem modHel_stopped (s : State) (c : Fin 4) (g : Helio → Helio) : (s.modHel c g).stopped = s.stopped := rfl
@[simp] theorem modHel_retries (s : State) (c : Fin 4) (g : Helio → Helio) : (s.modHel c g).retries = s.retries := rfl
@[simp] theorem modHel_hel (s : State) (c : Fin 4) (g : Helio → Helio) : (s.modHel c g).hel = s.hel.set c (g s.hel[c]) := rfl
@[simp] theorem modHel_rd (s : State) (c : Fin 4) (g : Helio → Helio) (h : Fld) (j : Nat) : (s.modHel c g).rd h j = s.rd h j := rfl

@[simp] theorem modDp_pending (s : State) (c : Fin 4) (g : DpInput → DpInput) : (s.modDp c g).pending = s.pending := rfl
@[simp] theorem modDp_now (s : State) (c : Fin 4) (g : DpInput → DpInput) : (s.modDp c g).now = s.now := rfl
@[simp] theorem modDp_completion (s : State) (c : Fin 4) (g : DpInput → DpInput) : (s.modDp c g).completion = s.completion := rfl
@[simp] theorem modDp_out (s : State) (c : Fin 4) (g : DpInput → DpInput) : (s.modDp c g).out = s.out := rfl
@[simp] theorem modDp_fresh (s : State) (c : Fin 4) (g : DpInput → DpInput) : (s.modDp c g).fresh = s.fresh := rfl
@[simp] theorem modDp_regs (s : State) (c : Fin 4) (g : DpInput → DpInput) : (s.modDp c g).regs = s.regs := rfl
@[simp] theorem modDp_shadow (s : State) (c : Fin 4) (g : DpInput → DpInput) : (s.modDp c g).shadow = s.shadow := rfl
@[simp] theorem modDp_rdLatch (s : State) (c : Fin 4) (g : DpInput → DpInput) : (s.modDp c g).rdLatch = s.rdLatch := rfl
@[simp] theorem modDp_wrHold (s : State) (c : Fin 4) (g : DpInput → DpInput) : (s.modDp c g).wrHold = s.wrHold := rfl
@[simp] theorem modDp_heldLive (s : State) (c : Fin 4) (g : DpInput → DpInput) : (s.modDp c g).heldLive = s.heldLive := rfl
@[simp] theorem modDp_insts (s : State) (c : Fin 4) (g : DpInput → DpInput) : (s.modDp c g).insts = s.insts := rfl
@[simp] theorem modDp_dev (s : State) (c : Fin 4) (g : DpInput → DpInput) : (s.modDp c g).dev = s.dev := rfl
@[simp] theorem modDp_hbm (s : State) (c : Fin 4) (g : DpInput → DpInput) : (s.modDp c g).hbm = s.hbm := rfl
@[simp] theorem modDp_plate (s : State) (c : Fin 4) (g : DpInput → DpInput) : (s.modDp c g).plate = s.plate := rfl
@[simp] theorem modDp_raw (s : State) (c : Fin 4) (g : DpInput → DpInput) : (s.modDp c g).raw = s.raw := rfl
@[simp] theorem modDp_cfg (s : State) (c : Fin 4) (g : DpInput → DpInput) : (s.modDp c g).cfg = s.cfg := rfl
@[simp] theorem modDp_pic (s : State) (c : Fin 4) (g : DpInput → DpInput) : (s.modDp c g).pic = s.pic := rfl
@[simp] theorem modDp_chr (s : State) (c : Fin 4) (g : DpInput → DpInput) : (s.modDp c g).chr = s.chr := rfl
@[simp] theorem modDp_tri (s : State) (c : Fin 4) (g : DpInput → DpInput) : (s.modDp c g).tri = s.tri := rfl
@[simp] theorem modDp_light (s : State) (c : Fin 4) (g : DpInput → DpInput) : (s.modDp c g).light = s.light := rfl
@[simp] theorem modDp_hel (s : State) (c : Fin 4) (g : DpInput → DpInput) : (s.modDp c g).hel = s.hel := rfl
@[simp] theorem modDp_mem (s : State) (c : Fin 4) (g : DpInput → DpInput) : (s.modDp c g).mem = s.mem := rfl
@[simp] theorem modDp_trn (s : State) (c : Fin 4) (g : DpInput → DpInput) : (s.modDp c g).trn = s.trn := rfl
@[simp] theorem modDp_eph (s : State) (c : Fin 4) (g : DpInput → DpInput) : (s.modDp c g).eph = s.eph := rfl
@[simp] theorem modDp_alm (s : State) (c : Fin 4) (g : DpInput → DpInput) : (s.modDp c g).alm = s.alm := rfl
@[simp] theorem modDp_log (s : State) (c : Fin 4) (g : DpInput → DpInput) : (s.modDp c g).log = s.log := rfl
@[simp] theorem modDp_arc (s : State) (c : Fin 4) (g : DpInput → DpInput) : (s.modDp c g).arc = s.arc := rfl
@[simp] theorem modDp_pwr (s : State) (c : Fin 4) (g : DpInput → DpInput) : (s.modDp c g).pwr = s.pwr := rfl
@[simp] theorem modDp_host (s : State) (c : Fin 4) (g : DpInput → DpInput) : (s.modDp c g).host = s.host := rfl
@[simp] theorem modDp_chn (s : State) (c : Fin 4) (g : DpInput → DpInput) : (s.modDp c g).chn = s.chn := rfl
@[simp] theorem modDp_par (s : State) (c : Fin 4) (g : DpInput → DpInput) : (s.modDp c g).par = s.par := rfl
@[simp] theorem modDp_obs (s : State) (c : Fin 4) (g : DpInput → DpInput) : (s.modDp c g).obs = s.obs := rfl
@[simp] theorem modDp_heldPermit (s : State) (c : Fin 4) (g : DpInput → DpInput) : (s.modDp c g).heldPermit = s.heldPermit := rfl
@[simp] theorem modDp_stopped (s : State) (c : Fin 4) (g : DpInput → DpInput) : (s.modDp c g).stopped = s.stopped := rfl
@[simp] theorem modDp_retries (s : State) (c : Fin 4) (g : DpInput → DpInput) : (s.modDp c g).retries = s.retries := rfl
@[simp] theorem modDp_dp (s : State) (c : Fin 4) (g : DpInput → DpInput) : (s.modDp c g).dp = s.dp.set c (g s.dp[c]) := rfl
@[simp] theorem modDp_rd (s : State) (c : Fin 4) (g : DpInput → DpInput) (h : Fld) (j : Nat) : (s.modDp c g).rd h j = s.rd h j := rfl

@[simp] theorem modRegion_pending (s : State) (c : Fin 2) (g : Region → Region) : (s.modRegion c g).pending = s.pending := rfl
@[simp] theorem modRegion_now (s : State) (c : Fin 2) (g : Region → Region) : (s.modRegion c g).now = s.now := rfl
@[simp] theorem modRegion_completion (s : State) (c : Fin 2) (g : Region → Region) : (s.modRegion c g).completion = s.completion := rfl
@[simp] theorem modRegion_out (s : State) (c : Fin 2) (g : Region → Region) : (s.modRegion c g).out = s.out := rfl
@[simp] theorem modRegion_fresh (s : State) (c : Fin 2) (g : Region → Region) : (s.modRegion c g).fresh = s.fresh := rfl
@[simp] theorem modRegion_regs (s : State) (c : Fin 2) (g : Region → Region) : (s.modRegion c g).regs = s.regs := rfl
@[simp] theorem modRegion_shadow (s : State) (c : Fin 2) (g : Region → Region) : (s.modRegion c g).shadow = s.shadow := rfl
@[simp] theorem modRegion_rdLatch (s : State) (c : Fin 2) (g : Region → Region) : (s.modRegion c g).rdLatch = s.rdLatch := rfl
@[simp] theorem modRegion_wrHold (s : State) (c : Fin 2) (g : Region → Region) : (s.modRegion c g).wrHold = s.wrHold := rfl
@[simp] theorem modRegion_heldLive (s : State) (c : Fin 2) (g : Region → Region) : (s.modRegion c g).heldLive = s.heldLive := rfl
@[simp] theorem modRegion_insts (s : State) (c : Fin 2) (g : Region → Region) : (s.modRegion c g).insts = s.insts := rfl
@[simp] theorem modRegion_dev (s : State) (c : Fin 2) (g : Region → Region) : (s.modRegion c g).dev = s.dev := rfl
@[simp] theorem modRegion_hbm (s : State) (c : Fin 2) (g : Region → Region) : (s.modRegion c g).hbm = s.hbm := rfl
@[simp] theorem modRegion_plate (s : State) (c : Fin 2) (g : Region → Region) : (s.modRegion c g).plate = s.plate := rfl
@[simp] theorem modRegion_raw (s : State) (c : Fin 2) (g : Region → Region) : (s.modRegion c g).raw = s.raw := rfl
@[simp] theorem modRegion_cfg (s : State) (c : Fin 2) (g : Region → Region) : (s.modRegion c g).cfg = s.cfg := rfl
@[simp] theorem modRegion_pic (s : State) (c : Fin 2) (g : Region → Region) : (s.modRegion c g).pic = s.pic := rfl
@[simp] theorem modRegion_chr (s : State) (c : Fin 2) (g : Region → Region) : (s.modRegion c g).chr = s.chr := rfl
@[simp] theorem modRegion_tri (s : State) (c : Fin 2) (g : Region → Region) : (s.modRegion c g).tri = s.tri := rfl
@[simp] theorem modRegion_light (s : State) (c : Fin 2) (g : Region → Region) : (s.modRegion c g).light = s.light := rfl
@[simp] theorem modRegion_hel (s : State) (c : Fin 2) (g : Region → Region) : (s.modRegion c g).hel = s.hel := rfl
@[simp] theorem modRegion_dp (s : State) (c : Fin 2) (g : Region → Region) : (s.modRegion c g).dp = s.dp := rfl
@[simp] theorem modRegion_trn (s : State) (c : Fin 2) (g : Region → Region) : (s.modRegion c g).trn = s.trn := rfl
@[simp] theorem modRegion_eph (s : State) (c : Fin 2) (g : Region → Region) : (s.modRegion c g).eph = s.eph := rfl
@[simp] theorem modRegion_alm (s : State) (c : Fin 2) (g : Region → Region) : (s.modRegion c g).alm = s.alm := rfl
@[simp] theorem modRegion_log (s : State) (c : Fin 2) (g : Region → Region) : (s.modRegion c g).log = s.log := rfl
@[simp] theorem modRegion_arc (s : State) (c : Fin 2) (g : Region → Region) : (s.modRegion c g).arc = s.arc := rfl
@[simp] theorem modRegion_pwr (s : State) (c : Fin 2) (g : Region → Region) : (s.modRegion c g).pwr = s.pwr := rfl
@[simp] theorem modRegion_host (s : State) (c : Fin 2) (g : Region → Region) : (s.modRegion c g).host = s.host := rfl
@[simp] theorem modRegion_chn (s : State) (c : Fin 2) (g : Region → Region) : (s.modRegion c g).chn = s.chn := rfl
@[simp] theorem modRegion_par (s : State) (c : Fin 2) (g : Region → Region) : (s.modRegion c g).par = s.par := rfl
@[simp] theorem modRegion_obs (s : State) (c : Fin 2) (g : Region → Region) : (s.modRegion c g).obs = s.obs := rfl
@[simp] theorem modRegion_heldPermit (s : State) (c : Fin 2) (g : Region → Region) : (s.modRegion c g).heldPermit = s.heldPermit := rfl
@[simp] theorem modRegion_stopped (s : State) (c : Fin 2) (g : Region → Region) : (s.modRegion c g).stopped = s.stopped := rfl
@[simp] theorem modRegion_retries (s : State) (c : Fin 2) (g : Region → Region) : (s.modRegion c g).retries = s.retries := rfl
@[simp] theorem modRegion_rd (s : State) (c : Fin 2) (g : Region → Region) (h : Fld) (j : Nat) : (s.modRegion c g).rd h j = s.rd h j := rfl

@[simp] theorem modLayer_pending (s : State) (c : Fin 4) (l : Fin 8) (g : LayerSt → LayerSt) : (s.modLayer c l g).pending = s.pending := rfl
@[simp] theorem modLayer_now (s : State) (c : Fin 4) (l : Fin 8) (g : LayerSt → LayerSt) : (s.modLayer c l g).now = s.now := rfl
@[simp] theorem modLayer_completion (s : State) (c : Fin 4) (l : Fin 8) (g : LayerSt → LayerSt) : (s.modLayer c l g).completion = s.completion := rfl
@[simp] theorem modLayer_out (s : State) (c : Fin 4) (l : Fin 8) (g : LayerSt → LayerSt) : (s.modLayer c l g).out = s.out := rfl
@[simp] theorem modLayer_fresh (s : State) (c : Fin 4) (l : Fin 8) (g : LayerSt → LayerSt) : (s.modLayer c l g).fresh = s.fresh := rfl
@[simp] theorem modLayer_regs (s : State) (c : Fin 4) (l : Fin 8) (g : LayerSt → LayerSt) : (s.modLayer c l g).regs = s.regs := rfl
@[simp] theorem modLayer_shadow (s : State) (c : Fin 4) (l : Fin 8) (g : LayerSt → LayerSt) : (s.modLayer c l g).shadow = s.shadow := rfl
@[simp] theorem modLayer_rdLatch (s : State) (c : Fin 4) (l : Fin 8) (g : LayerSt → LayerSt) : (s.modLayer c l g).rdLatch = s.rdLatch := rfl
@[simp] theorem modLayer_wrHold (s : State) (c : Fin 4) (l : Fin 8) (g : LayerSt → LayerSt) : (s.modLayer c l g).wrHold = s.wrHold := rfl
@[simp] theorem modLayer_heldLive (s : State) (c : Fin 4) (l : Fin 8) (g : LayerSt → LayerSt) : (s.modLayer c l g).heldLive = s.heldLive := rfl
@[simp] theorem modLayer_insts (s : State) (c : Fin 4) (l : Fin 8) (g : LayerSt → LayerSt) : (s.modLayer c l g).insts = s.insts := rfl
@[simp] theorem modLayer_dev (s : State) (c : Fin 4) (l : Fin 8) (g : LayerSt → LayerSt) : (s.modLayer c l g).dev = s.dev := rfl
@[simp] theorem modLayer_hbm (s : State) (c : Fin 4) (l : Fin 8) (g : LayerSt → LayerSt) : (s.modLayer c l g).hbm = s.hbm := rfl
@[simp] theorem modLayer_plate (s : State) (c : Fin 4) (l : Fin 8) (g : LayerSt → LayerSt) : (s.modLayer c l g).plate = s.plate := rfl
@[simp] theorem modLayer_raw (s : State) (c : Fin 4) (l : Fin 8) (g : LayerSt → LayerSt) : (s.modLayer c l g).raw = s.raw := rfl
@[simp] theorem modLayer_cfg (s : State) (c : Fin 4) (l : Fin 8) (g : LayerSt → LayerSt) : (s.modLayer c l g).cfg = s.cfg := rfl
@[simp] theorem modLayer_chr (s : State) (c : Fin 4) (l : Fin 8) (g : LayerSt → LayerSt) : (s.modLayer c l g).chr = s.chr := rfl
@[simp] theorem modLayer_tri (s : State) (c : Fin 4) (l : Fin 8) (g : LayerSt → LayerSt) : (s.modLayer c l g).tri = s.tri := rfl
@[simp] theorem modLayer_light (s : State) (c : Fin 4) (l : Fin 8) (g : LayerSt → LayerSt) : (s.modLayer c l g).light = s.light := rfl
@[simp] theorem modLayer_hel (s : State) (c : Fin 4) (l : Fin 8) (g : LayerSt → LayerSt) : (s.modLayer c l g).hel = s.hel := rfl
@[simp] theorem modLayer_dp (s : State) (c : Fin 4) (l : Fin 8) (g : LayerSt → LayerSt) : (s.modLayer c l g).dp = s.dp := rfl
@[simp] theorem modLayer_mem (s : State) (c : Fin 4) (l : Fin 8) (g : LayerSt → LayerSt) : (s.modLayer c l g).mem = s.mem := rfl
@[simp] theorem modLayer_trn (s : State) (c : Fin 4) (l : Fin 8) (g : LayerSt → LayerSt) : (s.modLayer c l g).trn = s.trn := rfl
@[simp] theorem modLayer_eph (s : State) (c : Fin 4) (l : Fin 8) (g : LayerSt → LayerSt) : (s.modLayer c l g).eph = s.eph := rfl
@[simp] theorem modLayer_alm (s : State) (c : Fin 4) (l : Fin 8) (g : LayerSt → LayerSt) : (s.modLayer c l g).alm = s.alm := rfl
@[simp] theorem modLayer_log (s : State) (c : Fin 4) (l : Fin 8) (g : LayerSt → LayerSt) : (s.modLayer c l g).log = s.log := rfl
@[simp] theorem modLayer_arc (s : State) (c : Fin 4) (l : Fin 8) (g : LayerSt → LayerSt) : (s.modLayer c l g).arc = s.arc := rfl
@[simp] theorem modLayer_pwr (s : State) (c : Fin 4) (l : Fin 8) (g : LayerSt → LayerSt) : (s.modLayer c l g).pwr = s.pwr := rfl
@[simp] theorem modLayer_host (s : State) (c : Fin 4) (l : Fin 8) (g : LayerSt → LayerSt) : (s.modLayer c l g).host = s.host := rfl
@[simp] theorem modLayer_chn (s : State) (c : Fin 4) (l : Fin 8) (g : LayerSt → LayerSt) : (s.modLayer c l g).chn = s.chn := rfl
@[simp] theorem modLayer_par (s : State) (c : Fin 4) (l : Fin 8) (g : LayerSt → LayerSt) : (s.modLayer c l g).par = s.par := rfl
@[simp] theorem modLayer_obs (s : State) (c : Fin 4) (l : Fin 8) (g : LayerSt → LayerSt) : (s.modLayer c l g).obs = s.obs := rfl
@[simp] theorem modLayer_heldPermit (s : State) (c : Fin 4) (l : Fin 8) (g : LayerSt → LayerSt) : (s.modLayer c l g).heldPermit = s.heldPermit := rfl
@[simp] theorem modLayer_stopped (s : State) (c : Fin 4) (l : Fin 8) (g : LayerSt → LayerSt) : (s.modLayer c l g).stopped = s.stopped := rfl
@[simp] theorem modLayer_retries (s : State) (c : Fin 4) (l : Fin 8) (g : LayerSt → LayerSt) : (s.modLayer c l g).retries = s.retries := rfl
@[simp] theorem modLayer_rd (s : State) (c : Fin 4) (l : Fin 8) (g : LayerSt → LayerSt) (h : Fld) (j : Nat) : (s.modLayer c l g).rd h j = s.rd h j := rfl

@[simp] theorem modChan_pending (s : State) (c : Fin 4) (k : Fin 6) (g : LaserCh → LaserCh) : (s.modChan c k g).pending = s.pending := rfl
@[simp] theorem modChan_now (s : State) (c : Fin 4) (k : Fin 6) (g : LaserCh → LaserCh) : (s.modChan c k g).now = s.now := rfl
@[simp] theorem modChan_completion (s : State) (c : Fin 4) (k : Fin 6) (g : LaserCh → LaserCh) : (s.modChan c k g).completion = s.completion := rfl
@[simp] theorem modChan_out (s : State) (c : Fin 4) (k : Fin 6) (g : LaserCh → LaserCh) : (s.modChan c k g).out = s.out := rfl
@[simp] theorem modChan_fresh (s : State) (c : Fin 4) (k : Fin 6) (g : LaserCh → LaserCh) : (s.modChan c k g).fresh = s.fresh := rfl
@[simp] theorem modChan_regs (s : State) (c : Fin 4) (k : Fin 6) (g : LaserCh → LaserCh) : (s.modChan c k g).regs = s.regs := rfl
@[simp] theorem modChan_shadow (s : State) (c : Fin 4) (k : Fin 6) (g : LaserCh → LaserCh) : (s.modChan c k g).shadow = s.shadow := rfl
@[simp] theorem modChan_rdLatch (s : State) (c : Fin 4) (k : Fin 6) (g : LaserCh → LaserCh) : (s.modChan c k g).rdLatch = s.rdLatch := rfl
@[simp] theorem modChan_wrHold (s : State) (c : Fin 4) (k : Fin 6) (g : LaserCh → LaserCh) : (s.modChan c k g).wrHold = s.wrHold := rfl
@[simp] theorem modChan_heldLive (s : State) (c : Fin 4) (k : Fin 6) (g : LaserCh → LaserCh) : (s.modChan c k g).heldLive = s.heldLive := rfl
@[simp] theorem modChan_insts (s : State) (c : Fin 4) (k : Fin 6) (g : LaserCh → LaserCh) : (s.modChan c k g).insts = s.insts := rfl
@[simp] theorem modChan_dev (s : State) (c : Fin 4) (k : Fin 6) (g : LaserCh → LaserCh) : (s.modChan c k g).dev = s.dev := rfl
@[simp] theorem modChan_hbm (s : State) (c : Fin 4) (k : Fin 6) (g : LaserCh → LaserCh) : (s.modChan c k g).hbm = s.hbm := rfl
@[simp] theorem modChan_plate (s : State) (c : Fin 4) (k : Fin 6) (g : LaserCh → LaserCh) : (s.modChan c k g).plate = s.plate := rfl
@[simp] theorem modChan_raw (s : State) (c : Fin 4) (k : Fin 6) (g : LaserCh → LaserCh) : (s.modChan c k g).raw = s.raw := rfl
@[simp] theorem modChan_cfg (s : State) (c : Fin 4) (k : Fin 6) (g : LaserCh → LaserCh) : (s.modChan c k g).cfg = s.cfg := rfl
@[simp] theorem modChan_pic (s : State) (c : Fin 4) (k : Fin 6) (g : LaserCh → LaserCh) : (s.modChan c k g).pic = s.pic := rfl
@[simp] theorem modChan_chr (s : State) (c : Fin 4) (k : Fin 6) (g : LaserCh → LaserCh) : (s.modChan c k g).chr = s.chr := rfl
@[simp] theorem modChan_tri (s : State) (c : Fin 4) (k : Fin 6) (g : LaserCh → LaserCh) : (s.modChan c k g).tri = s.tri := rfl
@[simp] theorem modChan_hel (s : State) (c : Fin 4) (k : Fin 6) (g : LaserCh → LaserCh) : (s.modChan c k g).hel = s.hel := rfl
@[simp] theorem modChan_dp (s : State) (c : Fin 4) (k : Fin 6) (g : LaserCh → LaserCh) : (s.modChan c k g).dp = s.dp := rfl
@[simp] theorem modChan_mem (s : State) (c : Fin 4) (k : Fin 6) (g : LaserCh → LaserCh) : (s.modChan c k g).mem = s.mem := rfl
@[simp] theorem modChan_trn (s : State) (c : Fin 4) (k : Fin 6) (g : LaserCh → LaserCh) : (s.modChan c k g).trn = s.trn := rfl
@[simp] theorem modChan_eph (s : State) (c : Fin 4) (k : Fin 6) (g : LaserCh → LaserCh) : (s.modChan c k g).eph = s.eph := rfl
@[simp] theorem modChan_alm (s : State) (c : Fin 4) (k : Fin 6) (g : LaserCh → LaserCh) : (s.modChan c k g).alm = s.alm := rfl
@[simp] theorem modChan_log (s : State) (c : Fin 4) (k : Fin 6) (g : LaserCh → LaserCh) : (s.modChan c k g).log = s.log := rfl
@[simp] theorem modChan_arc (s : State) (c : Fin 4) (k : Fin 6) (g : LaserCh → LaserCh) : (s.modChan c k g).arc = s.arc := rfl
@[simp] theorem modChan_pwr (s : State) (c : Fin 4) (k : Fin 6) (g : LaserCh → LaserCh) : (s.modChan c k g).pwr = s.pwr := rfl
@[simp] theorem modChan_host (s : State) (c : Fin 4) (k : Fin 6) (g : LaserCh → LaserCh) : (s.modChan c k g).host = s.host := rfl
@[simp] theorem modChan_chn (s : State) (c : Fin 4) (k : Fin 6) (g : LaserCh → LaserCh) : (s.modChan c k g).chn = s.chn := rfl
@[simp] theorem modChan_par (s : State) (c : Fin 4) (k : Fin 6) (g : LaserCh → LaserCh) : (s.modChan c k g).par = s.par := rfl
@[simp] theorem modChan_obs (s : State) (c : Fin 4) (k : Fin 6) (g : LaserCh → LaserCh) : (s.modChan c k g).obs = s.obs := rfl
@[simp] theorem modChan_heldPermit (s : State) (c : Fin 4) (k : Fin 6) (g : LaserCh → LaserCh) : (s.modChan c k g).heldPermit = s.heldPermit := rfl
@[simp] theorem modChan_stopped (s : State) (c : Fin 4) (k : Fin 6) (g : LaserCh → LaserCh) : (s.modChan c k g).stopped = s.stopped := rfl
@[simp] theorem modChan_retries (s : State) (c : Fin 4) (k : Fin 6) (g : LaserCh → LaserCh) : (s.modChan c k g).retries = s.retries := rfl
@[simp] theorem modChan_rd (s : State) (c : Fin 4) (k : Fin 6) (g : LaserCh → LaserCh) (h : Fld) (j : Nat) : (s.modChan c k g).rd h j = s.rd h j := rfl

@[simp] theorem modSlot_pending (s : State) (c : Fin 4) (i : Fin 16) (g : HelSlot → HelSlot) : (s.modSlot c i g).pending = s.pending := rfl
@[simp] theorem modSlot_now (s : State) (c : Fin 4) (i : Fin 16) (g : HelSlot → HelSlot) : (s.modSlot c i g).now = s.now := rfl
@[simp] theorem modSlot_completion (s : State) (c : Fin 4) (i : Fin 16) (g : HelSlot → HelSlot) : (s.modSlot c i g).completion = s.completion := rfl
@[simp] theorem modSlot_out (s : State) (c : Fin 4) (i : Fin 16) (g : HelSlot → HelSlot) : (s.modSlot c i g).out = s.out := rfl
@[simp] theorem modSlot_fresh (s : State) (c : Fin 4) (i : Fin 16) (g : HelSlot → HelSlot) : (s.modSlot c i g).fresh = s.fresh := rfl
@[simp] theorem modSlot_regs (s : State) (c : Fin 4) (i : Fin 16) (g : HelSlot → HelSlot) : (s.modSlot c i g).regs = s.regs := rfl
@[simp] theorem modSlot_shadow (s : State) (c : Fin 4) (i : Fin 16) (g : HelSlot → HelSlot) : (s.modSlot c i g).shadow = s.shadow := rfl
@[simp] theorem modSlot_rdLatch (s : State) (c : Fin 4) (i : Fin 16) (g : HelSlot → HelSlot) : (s.modSlot c i g).rdLatch = s.rdLatch := rfl
@[simp] theorem modSlot_wrHold (s : State) (c : Fin 4) (i : Fin 16) (g : HelSlot → HelSlot) : (s.modSlot c i g).wrHold = s.wrHold := rfl
@[simp] theorem modSlot_heldLive (s : State) (c : Fin 4) (i : Fin 16) (g : HelSlot → HelSlot) : (s.modSlot c i g).heldLive = s.heldLive := rfl
@[simp] theorem modSlot_insts (s : State) (c : Fin 4) (i : Fin 16) (g : HelSlot → HelSlot) : (s.modSlot c i g).insts = s.insts := rfl
@[simp] theorem modSlot_dev (s : State) (c : Fin 4) (i : Fin 16) (g : HelSlot → HelSlot) : (s.modSlot c i g).dev = s.dev := rfl
@[simp] theorem modSlot_hbm (s : State) (c : Fin 4) (i : Fin 16) (g : HelSlot → HelSlot) : (s.modSlot c i g).hbm = s.hbm := rfl
@[simp] theorem modSlot_plate (s : State) (c : Fin 4) (i : Fin 16) (g : HelSlot → HelSlot) : (s.modSlot c i g).plate = s.plate := rfl
@[simp] theorem modSlot_raw (s : State) (c : Fin 4) (i : Fin 16) (g : HelSlot → HelSlot) : (s.modSlot c i g).raw = s.raw := rfl
@[simp] theorem modSlot_cfg (s : State) (c : Fin 4) (i : Fin 16) (g : HelSlot → HelSlot) : (s.modSlot c i g).cfg = s.cfg := rfl
@[simp] theorem modSlot_pic (s : State) (c : Fin 4) (i : Fin 16) (g : HelSlot → HelSlot) : (s.modSlot c i g).pic = s.pic := rfl
@[simp] theorem modSlot_chr (s : State) (c : Fin 4) (i : Fin 16) (g : HelSlot → HelSlot) : (s.modSlot c i g).chr = s.chr := rfl
@[simp] theorem modSlot_tri (s : State) (c : Fin 4) (i : Fin 16) (g : HelSlot → HelSlot) : (s.modSlot c i g).tri = s.tri := rfl
@[simp] theorem modSlot_light (s : State) (c : Fin 4) (i : Fin 16) (g : HelSlot → HelSlot) : (s.modSlot c i g).light = s.light := rfl
@[simp] theorem modSlot_dp (s : State) (c : Fin 4) (i : Fin 16) (g : HelSlot → HelSlot) : (s.modSlot c i g).dp = s.dp := rfl
@[simp] theorem modSlot_mem (s : State) (c : Fin 4) (i : Fin 16) (g : HelSlot → HelSlot) : (s.modSlot c i g).mem = s.mem := rfl
@[simp] theorem modSlot_trn (s : State) (c : Fin 4) (i : Fin 16) (g : HelSlot → HelSlot) : (s.modSlot c i g).trn = s.trn := rfl
@[simp] theorem modSlot_eph (s : State) (c : Fin 4) (i : Fin 16) (g : HelSlot → HelSlot) : (s.modSlot c i g).eph = s.eph := rfl
@[simp] theorem modSlot_alm (s : State) (c : Fin 4) (i : Fin 16) (g : HelSlot → HelSlot) : (s.modSlot c i g).alm = s.alm := rfl
@[simp] theorem modSlot_log (s : State) (c : Fin 4) (i : Fin 16) (g : HelSlot → HelSlot) : (s.modSlot c i g).log = s.log := rfl
@[simp] theorem modSlot_arc (s : State) (c : Fin 4) (i : Fin 16) (g : HelSlot → HelSlot) : (s.modSlot c i g).arc = s.arc := rfl
@[simp] theorem modSlot_pwr (s : State) (c : Fin 4) (i : Fin 16) (g : HelSlot → HelSlot) : (s.modSlot c i g).pwr = s.pwr := rfl
@[simp] theorem modSlot_host (s : State) (c : Fin 4) (i : Fin 16) (g : HelSlot → HelSlot) : (s.modSlot c i g).host = s.host := rfl
@[simp] theorem modSlot_chn (s : State) (c : Fin 4) (i : Fin 16) (g : HelSlot → HelSlot) : (s.modSlot c i g).chn = s.chn := rfl
@[simp] theorem modSlot_par (s : State) (c : Fin 4) (i : Fin 16) (g : HelSlot → HelSlot) : (s.modSlot c i g).par = s.par := rfl
@[simp] theorem modSlot_obs (s : State) (c : Fin 4) (i : Fin 16) (g : HelSlot → HelSlot) : (s.modSlot c i g).obs = s.obs := rfl
@[simp] theorem modSlot_heldPermit (s : State) (c : Fin 4) (i : Fin 16) (g : HelSlot → HelSlot) : (s.modSlot c i g).heldPermit = s.heldPermit := rfl
@[simp] theorem modSlot_stopped (s : State) (c : Fin 4) (i : Fin 16) (g : HelSlot → HelSlot) : (s.modSlot c i g).stopped = s.stopped := rfl
@[simp] theorem modSlot_retries (s : State) (c : Fin 4) (i : Fin 16) (g : HelSlot → HelSlot) : (s.modSlot c i g).retries = s.retries := rfl
@[simp] theorem modSlot_rd (s : State) (c : Fin 4) (i : Fin 16) (g : HelSlot → HelSlot) (h : Fld) (j : Nat) : (s.modSlot c i g).rd h j = s.rd h j := rfl

@[simp] theorem modLog_pending (s : State) (g : Logbook → Logbook) : (s.modLog g).pending = s.pending := rfl
@[simp] theorem modLog_now (s : State) (g : Logbook → Logbook) : (s.modLog g).now = s.now := rfl
@[simp] theorem modLog_completion (s : State) (g : Logbook → Logbook) : (s.modLog g).completion = s.completion := rfl
@[simp] theorem modLog_out (s : State) (g : Logbook → Logbook) : (s.modLog g).out = s.out := rfl
@[simp] theorem modLog_fresh (s : State) (g : Logbook → Logbook) : (s.modLog g).fresh = s.fresh := rfl
@[simp] theorem modLog_regs (s : State) (g : Logbook → Logbook) : (s.modLog g).regs = s.regs := rfl
@[simp] theorem modLog_shadow (s : State) (g : Logbook → Logbook) : (s.modLog g).shadow = s.shadow := rfl
@[simp] theorem modLog_rdLatch (s : State) (g : Logbook → Logbook) : (s.modLog g).rdLatch = s.rdLatch := rfl
@[simp] theorem modLog_wrHold (s : State) (g : Logbook → Logbook) : (s.modLog g).wrHold = s.wrHold := rfl
@[simp] theorem modLog_heldLive (s : State) (g : Logbook → Logbook) : (s.modLog g).heldLive = s.heldLive := rfl
@[simp] theorem modLog_insts (s : State) (g : Logbook → Logbook) : (s.modLog g).insts = s.insts := rfl
@[simp] theorem modLog_dev (s : State) (g : Logbook → Logbook) : (s.modLog g).dev = s.dev := rfl
@[simp] theorem modLog_hbm (s : State) (g : Logbook → Logbook) : (s.modLog g).hbm = s.hbm := rfl
@[simp] theorem modLog_plate (s : State) (g : Logbook → Logbook) : (s.modLog g).plate = s.plate := rfl
@[simp] theorem modLog_raw (s : State) (g : Logbook → Logbook) : (s.modLog g).raw = s.raw := rfl
@[simp] theorem modLog_cfg (s : State) (g : Logbook → Logbook) : (s.modLog g).cfg = s.cfg := rfl
@[simp] theorem modLog_pic (s : State) (g : Logbook → Logbook) : (s.modLog g).pic = s.pic := rfl
@[simp] theorem modLog_chr (s : State) (g : Logbook → Logbook) : (s.modLog g).chr = s.chr := rfl
@[simp] theorem modLog_tri (s : State) (g : Logbook → Logbook) : (s.modLog g).tri = s.tri := rfl
@[simp] theorem modLog_light (s : State) (g : Logbook → Logbook) : (s.modLog g).light = s.light := rfl
@[simp] theorem modLog_hel (s : State) (g : Logbook → Logbook) : (s.modLog g).hel = s.hel := rfl
@[simp] theorem modLog_dp (s : State) (g : Logbook → Logbook) : (s.modLog g).dp = s.dp := rfl
@[simp] theorem modLog_mem (s : State) (g : Logbook → Logbook) : (s.modLog g).mem = s.mem := rfl
@[simp] theorem modLog_trn (s : State) (g : Logbook → Logbook) : (s.modLog g).trn = s.trn := rfl
@[simp] theorem modLog_eph (s : State) (g : Logbook → Logbook) : (s.modLog g).eph = s.eph := rfl
@[simp] theorem modLog_alm (s : State) (g : Logbook → Logbook) : (s.modLog g).alm = s.alm := rfl
@[simp] theorem modLog_arc (s : State) (g : Logbook → Logbook) : (s.modLog g).arc = s.arc := rfl
@[simp] theorem modLog_pwr (s : State) (g : Logbook → Logbook) : (s.modLog g).pwr = s.pwr := rfl
@[simp] theorem modLog_host (s : State) (g : Logbook → Logbook) : (s.modLog g).host = s.host := rfl
@[simp] theorem modLog_chn (s : State) (g : Logbook → Logbook) : (s.modLog g).chn = s.chn := rfl
@[simp] theorem modLog_par (s : State) (g : Logbook → Logbook) : (s.modLog g).par = s.par := rfl
@[simp] theorem modLog_obs (s : State) (g : Logbook → Logbook) : (s.modLog g).obs = s.obs := rfl
@[simp] theorem modLog_heldPermit (s : State) (g : Logbook → Logbook) : (s.modLog g).heldPermit = s.heldPermit := rfl
@[simp] theorem modLog_stopped (s : State) (g : Logbook → Logbook) : (s.modLog g).stopped = s.stopped := rfl
@[simp] theorem modLog_retries (s : State) (g : Logbook → Logbook) : (s.modLog g).retries = s.retries := rfl
@[simp] theorem modLog_log (s : State) (g : Logbook → Logbook) : (s.modLog g).log = g s.log := rfl
@[simp] theorem modLog_rd (s : State) (g : Logbook → Logbook) (h : Fld) (j : Nat) : (s.modLog g).rd h j = s.rd h j := rfl

@[simp] theorem emit_pending (s : State) (o : Output) : (s.emit o).pending = s.pending := rfl
@[simp] theorem emit_now (s : State) (o : Output) : (s.emit o).now = s.now := rfl
@[simp] theorem emit_completion (s : State) (o : Output) : (s.emit o).completion = s.completion := rfl
@[simp] theorem emit_fresh (s : State) (o : Output) : (s.emit o).fresh = s.fresh := rfl
@[simp] theorem emit_regs (s : State) (o : Output) : (s.emit o).regs = s.regs := rfl
@[simp] theorem emit_shadow (s : State) (o : Output) : (s.emit o).shadow = s.shadow := rfl
@[simp] theorem emit_rdLatch (s : State) (o : Output) : (s.emit o).rdLatch = s.rdLatch := rfl
@[simp] theorem emit_wrHold (s : State) (o : Output) : (s.emit o).wrHold = s.wrHold := rfl
@[simp] theorem emit_heldLive (s : State) (o : Output) : (s.emit o).heldLive = s.heldLive := rfl
@[simp] theorem emit_insts (s : State) (o : Output) : (s.emit o).insts = s.insts := rfl
@[simp] theorem emit_dev (s : State) (o : Output) : (s.emit o).dev = s.dev := rfl
@[simp] theorem emit_hbm (s : State) (o : Output) : (s.emit o).hbm = s.hbm := rfl
@[simp] theorem emit_plate (s : State) (o : Output) : (s.emit o).plate = s.plate := rfl
@[simp] theorem emit_raw (s : State) (o : Output) : (s.emit o).raw = s.raw := rfl
@[simp] theorem emit_cfg (s : State) (o : Output) : (s.emit o).cfg = s.cfg := rfl
@[simp] theorem emit_pic (s : State) (o : Output) : (s.emit o).pic = s.pic := rfl
@[simp] theorem emit_chr (s : State) (o : Output) : (s.emit o).chr = s.chr := rfl
@[simp] theorem emit_tri (s : State) (o : Output) : (s.emit o).tri = s.tri := rfl
@[simp] theorem emit_light (s : State) (o : Output) : (s.emit o).light = s.light := rfl
@[simp] theorem emit_hel (s : State) (o : Output) : (s.emit o).hel = s.hel := rfl
@[simp] theorem emit_dp (s : State) (o : Output) : (s.emit o).dp = s.dp := rfl
@[simp] theorem emit_mem (s : State) (o : Output) : (s.emit o).mem = s.mem := rfl
@[simp] theorem emit_trn (s : State) (o : Output) : (s.emit o).trn = s.trn := rfl
@[simp] theorem emit_eph (s : State) (o : Output) : (s.emit o).eph = s.eph := rfl
@[simp] theorem emit_alm (s : State) (o : Output) : (s.emit o).alm = s.alm := rfl
@[simp] theorem emit_log (s : State) (o : Output) : (s.emit o).log = s.log := rfl
@[simp] theorem emit_arc (s : State) (o : Output) : (s.emit o).arc = s.arc := rfl
@[simp] theorem emit_pwr (s : State) (o : Output) : (s.emit o).pwr = s.pwr := rfl
@[simp] theorem emit_host (s : State) (o : Output) : (s.emit o).host = s.host := rfl
@[simp] theorem emit_chn (s : State) (o : Output) : (s.emit o).chn = s.chn := rfl
@[simp] theorem emit_par (s : State) (o : Output) : (s.emit o).par = s.par := rfl
@[simp] theorem emit_obs (s : State) (o : Output) : (s.emit o).obs = s.obs := rfl
@[simp] theorem emit_heldPermit (s : State) (o : Output) : (s.emit o).heldPermit = s.heldPermit := rfl
@[simp] theorem emit_stopped (s : State) (o : Output) : (s.emit o).stopped = s.stopped := rfl
@[simp] theorem emit_retries (s : State) (o : Output) : (s.emit o).retries = s.retries := rfl
@[simp] theorem emit_out (s : State) (o : Output) : (s.emit o).out = s.out ++ [o] := rfl
@[simp] theorem emit_rd (s : State) (o : Output) (h : Fld) (j : Nat) : (s.emit o).rd h j = s.rd h j := rfl

@[simp] theorem advance_pending (s : State) (t : Nat) : (s.advance t).pending = s.pending := rfl
@[simp] theorem advance_completion (s : State) (t : Nat) : (s.advance t).completion = s.completion := rfl
@[simp] theorem advance_fresh (s : State) (t : Nat) : (s.advance t).fresh = s.fresh := rfl
@[simp] theorem advance_regs (s : State) (t : Nat) : (s.advance t).regs = s.regs := rfl
@[simp] theorem advance_shadow (s : State) (t : Nat) : (s.advance t).shadow = s.shadow := rfl
@[simp] theorem advance_rdLatch (s : State) (t : Nat) : (s.advance t).rdLatch = s.rdLatch := rfl
@[simp] theorem advance_wrHold (s : State) (t : Nat) : (s.advance t).wrHold = s.wrHold := rfl
@[simp] theorem advance_heldLive (s : State) (t : Nat) : (s.advance t).heldLive = s.heldLive := rfl
@[simp] theorem advance_insts (s : State) (t : Nat) : (s.advance t).insts = s.insts := rfl
@[simp] theorem advance_dev (s : State) (t : Nat) : (s.advance t).dev = s.dev := rfl
@[simp] theorem advance_hbm (s : State) (t : Nat) : (s.advance t).hbm = s.hbm := rfl
@[simp] theorem advance_plate (s : State) (t : Nat) : (s.advance t).plate = s.plate := rfl
@[simp] theorem advance_raw (s : State) (t : Nat) : (s.advance t).raw = s.raw := rfl
@[simp] theorem advance_cfg (s : State) (t : Nat) : (s.advance t).cfg = s.cfg := rfl
@[simp] theorem advance_pic (s : State) (t : Nat) : (s.advance t).pic = s.pic := rfl
@[simp] theorem advance_chr (s : State) (t : Nat) : (s.advance t).chr = s.chr := rfl
@[simp] theorem advance_tri (s : State) (t : Nat) : (s.advance t).tri = s.tri := rfl
@[simp] theorem advance_light (s : State) (t : Nat) : (s.advance t).light = s.light := rfl
@[simp] theorem advance_hel (s : State) (t : Nat) : (s.advance t).hel = s.hel := rfl
@[simp] theorem advance_dp (s : State) (t : Nat) : (s.advance t).dp = s.dp := rfl
@[simp] theorem advance_mem (s : State) (t : Nat) : (s.advance t).mem = s.mem := rfl
@[simp] theorem advance_trn (s : State) (t : Nat) : (s.advance t).trn = s.trn := rfl
@[simp] theorem advance_eph (s : State) (t : Nat) : (s.advance t).eph = s.eph := rfl
@[simp] theorem advance_alm (s : State) (t : Nat) : (s.advance t).alm = s.alm := rfl
@[simp] theorem advance_log (s : State) (t : Nat) : (s.advance t).log = s.log := rfl
@[simp] theorem advance_arc (s : State) (t : Nat) : (s.advance t).arc = s.arc := rfl
@[simp] theorem advance_pwr (s : State) (t : Nat) : (s.advance t).pwr = s.pwr := rfl
@[simp] theorem advance_host (s : State) (t : Nat) : (s.advance t).host = s.host := rfl
@[simp] theorem advance_chn (s : State) (t : Nat) : (s.advance t).chn = s.chn := rfl
@[simp] theorem advance_par (s : State) (t : Nat) : (s.advance t).par = s.par := rfl
@[simp] theorem advance_obs (s : State) (t : Nat) : (s.advance t).obs = s.obs := rfl
@[simp] theorem advance_heldPermit (s : State) (t : Nat) : (s.advance t).heldPermit = s.heldPermit := rfl
@[simp] theorem advance_stopped (s : State) (t : Nat) : (s.advance t).stopped = s.stopped := rfl
@[simp] theorem advance_retries (s : State) (t : Nat) : (s.advance t).retries = s.retries := rfl
@[simp] theorem advance_now (s : State) (t : Nat) : (s.advance t).now = max s.now t := rfl
@[simp] theorem advance_rd (s : State) (t : Nat) (h : Fld) (j : Nat) : (s.advance t).rd h j = s.rd h j := rfl

@[simp] theorem complete_pending (s : State) (st : BusStatus) (bs : List Nat) : (s.complete st bs).pending = s.pending := rfl
@[simp] theorem modMem_pending (s : State) (g : MemSys → MemSys) : (s.modMem g).pending = s.pending := rfl
@[simp] theorem complete_now (s : State) (st : BusStatus) (bs : List Nat) : (s.complete st bs).now = s.now := rfl
@[simp] theorem modMem_now (s : State) (g : MemSys → MemSys) : (s.modMem g).now = s.now := rfl
@[simp] theorem modMem_completion (s : State) (g : MemSys → MemSys) : (s.modMem g).completion = s.completion := rfl
@[simp] theorem complete_out (s : State) (st : BusStatus) (bs : List Nat) : (s.complete st bs).out = s.out := rfl
@[simp] theorem modMem_out (s : State) (g : MemSys → MemSys) : (s.modMem g).out = s.out := rfl
@[simp] theorem complete_fresh (s : State) (st : BusStatus) (bs : List Nat) : (s.complete st bs).fresh = s.fresh := rfl
@[simp] theorem modMem_fresh (s : State) (g : MemSys → MemSys) : (s.modMem g).fresh = s.fresh := rfl
@[simp] theorem complete_regs (s : State) (st : BusStatus) (bs : List Nat) : (s.complete st bs).regs = s.regs := rfl
@[simp] theorem modMem_regs (s : State) (g : MemSys → MemSys) : (s.modMem g).regs = s.regs := rfl
@[simp] theorem complete_shadow (s : State) (st : BusStatus) (bs : List Nat) : (s.complete st bs).shadow = s.shadow := rfl
@[simp] theorem modMem_shadow (s : State) (g : MemSys → MemSys) : (s.modMem g).shadow = s.shadow := rfl
@[simp] theorem complete_rdLatch (s : State) (st : BusStatus) (bs : List Nat) : (s.complete st bs).rdLatch = s.rdLatch := rfl
@[simp] theorem modMem_rdLatch (s : State) (g : MemSys → MemSys) : (s.modMem g).rdLatch = s.rdLatch := rfl
@[simp] theorem complete_wrHold (s : State) (st : BusStatus) (bs : List Nat) : (s.complete st bs).wrHold = s.wrHold := rfl
@[simp] theorem modMem_wrHold (s : State) (g : MemSys → MemSys) : (s.modMem g).wrHold = s.wrHold := rfl
@[simp] theorem complete_heldLive (s : State) (st : BusStatus) (bs : List Nat) : (s.complete st bs).heldLive = s.heldLive := rfl
@[simp] theorem modMem_heldLive (s : State) (g : MemSys → MemSys) : (s.modMem g).heldLive = s.heldLive := rfl
@[simp] theorem complete_insts (s : State) (st : BusStatus) (bs : List Nat) : (s.complete st bs).insts = s.insts := rfl
@[simp] theorem modMem_insts (s : State) (g : MemSys → MemSys) : (s.modMem g).insts = s.insts := rfl
@[simp] theorem complete_dev (s : State) (st : BusStatus) (bs : List Nat) : (s.complete st bs).dev = s.dev := rfl
@[simp] theorem modMem_dev (s : State) (g : MemSys → MemSys) : (s.modMem g).dev = s.dev := rfl
@[simp] theorem complete_hbm (s : State) (st : BusStatus) (bs : List Nat) : (s.complete st bs).hbm = s.hbm := rfl
@[simp] theorem modMem_hbm (s : State) (g : MemSys → MemSys) : (s.modMem g).hbm = s.hbm := rfl
@[simp] theorem complete_plate (s : State) (st : BusStatus) (bs : List Nat) : (s.complete st bs).plate = s.plate := rfl
@[simp] theorem modMem_plate (s : State) (g : MemSys → MemSys) : (s.modMem g).plate = s.plate := rfl
@[simp] theorem complete_raw (s : State) (st : BusStatus) (bs : List Nat) : (s.complete st bs).raw = s.raw := rfl
@[simp] theorem modMem_raw (s : State) (g : MemSys → MemSys) : (s.modMem g).raw = s.raw := rfl
@[simp] theorem complete_cfg (s : State) (st : BusStatus) (bs : List Nat) : (s.complete st bs).cfg = s.cfg := rfl
@[simp] theorem modMem_cfg (s : State) (g : MemSys → MemSys) : (s.modMem g).cfg = s.cfg := rfl
@[simp] theorem complete_pic (s : State) (st : BusStatus) (bs : List Nat) : (s.complete st bs).pic = s.pic := rfl
@[simp] theorem modMem_pic (s : State) (g : MemSys → MemSys) : (s.modMem g).pic = s.pic := rfl
@[simp] theorem complete_chr (s : State) (st : BusStatus) (bs : List Nat) : (s.complete st bs).chr = s.chr := rfl
@[simp] theorem modMem_chr (s : State) (g : MemSys → MemSys) : (s.modMem g).chr = s.chr := rfl
@[simp] theorem complete_tri (s : State) (st : BusStatus) (bs : List Nat) : (s.complete st bs).tri = s.tri := rfl
@[simp] theorem modMem_tri (s : State) (g : MemSys → MemSys) : (s.modMem g).tri = s.tri := rfl
@[simp] theorem complete_light (s : State) (st : BusStatus) (bs : List Nat) : (s.complete st bs).light = s.light := rfl
@[simp] theorem modMem_light (s : State) (g : MemSys → MemSys) : (s.modMem g).light = s.light := rfl
@[simp] theorem complete_hel (s : State) (st : BusStatus) (bs : List Nat) : (s.complete st bs).hel = s.hel := rfl
@[simp] theorem modMem_hel (s : State) (g : MemSys → MemSys) : (s.modMem g).hel = s.hel := rfl
@[simp] theorem complete_dp (s : State) (st : BusStatus) (bs : List Nat) : (s.complete st bs).dp = s.dp := rfl
@[simp] theorem modMem_dp (s : State) (g : MemSys → MemSys) : (s.modMem g).dp = s.dp := rfl
@[simp] theorem complete_mem (s : State) (st : BusStatus) (bs : List Nat) : (s.complete st bs).mem = s.mem := rfl
@[simp] theorem complete_trn (s : State) (st : BusStatus) (bs : List Nat) : (s.complete st bs).trn = s.trn := rfl
@[simp] theorem modMem_trn (s : State) (g : MemSys → MemSys) : (s.modMem g).trn = s.trn := rfl
@[simp] theorem complete_eph (s : State) (st : BusStatus) (bs : List Nat) : (s.complete st bs).eph = s.eph := rfl
@[simp] theorem modMem_eph (s : State) (g : MemSys → MemSys) : (s.modMem g).eph = s.eph := rfl
@[simp] theorem complete_alm (s : State) (st : BusStatus) (bs : List Nat) : (s.complete st bs).alm = s.alm := rfl
@[simp] theorem modMem_alm (s : State) (g : MemSys → MemSys) : (s.modMem g).alm = s.alm := rfl
@[simp] theorem complete_log (s : State) (st : BusStatus) (bs : List Nat) : (s.complete st bs).log = s.log := rfl
@[simp] theorem modMem_log (s : State) (g : MemSys → MemSys) : (s.modMem g).log = s.log := rfl
@[simp] theorem complete_arc (s : State) (st : BusStatus) (bs : List Nat) : (s.complete st bs).arc = s.arc := rfl
@[simp] theorem modMem_arc (s : State) (g : MemSys → MemSys) : (s.modMem g).arc = s.arc := rfl
@[simp] theorem complete_pwr (s : State) (st : BusStatus) (bs : List Nat) : (s.complete st bs).pwr = s.pwr := rfl
@[simp] theorem modMem_pwr (s : State) (g : MemSys → MemSys) : (s.modMem g).pwr = s.pwr := rfl
@[simp] theorem complete_host (s : State) (st : BusStatus) (bs : List Nat) : (s.complete st bs).host = s.host := rfl
@[simp] theorem modMem_host (s : State) (g : MemSys → MemSys) : (s.modMem g).host = s.host := rfl
@[simp] theorem complete_chn (s : State) (st : BusStatus) (bs : List Nat) : (s.complete st bs).chn = s.chn := rfl
@[simp] theorem modMem_chn (s : State) (g : MemSys → MemSys) : (s.modMem g).chn = s.chn := rfl
@[simp] theorem complete_par (s : State) (st : BusStatus) (bs : List Nat) : (s.complete st bs).par = s.par := rfl
@[simp] theorem modMem_par (s : State) (g : MemSys → MemSys) : (s.modMem g).par = s.par := rfl
@[simp] theorem complete_obs (s : State) (st : BusStatus) (bs : List Nat) : (s.complete st bs).obs = s.obs := rfl
@[simp] theorem modMem_obs (s : State) (g : MemSys → MemSys) : (s.modMem g).obs = s.obs := rfl
@[simp] theorem complete_heldPermit (s : State) (st : BusStatus) (bs : List Nat) : (s.complete st bs).heldPermit = s.heldPermit := rfl
@[simp] theorem modMem_heldPermit (s : State) (g : MemSys → MemSys) : (s.modMem g).heldPermit = s.heldPermit := rfl
@[simp] theorem complete_stopped (s : State) (st : BusStatus) (bs : List Nat) : (s.complete st bs).stopped = s.stopped := rfl
@[simp] theorem modMem_stopped (s : State) (g : MemSys → MemSys) : (s.modMem g).stopped = s.stopped := rfl
@[simp] theorem complete_retries (s : State) (st : BusStatus) (bs : List Nat) : (s.complete st bs).retries = s.retries := rfl
@[simp] theorem modMem_retries (s : State) (g : MemSys → MemSys) : (s.modMem g).retries = s.retries := rfl
@[simp] theorem complete_completion (s : State) (st : BusStatus) (bs : List Nat) : (s.complete st bs).completion = ⟨st, bs⟩ := rfl
@[simp] theorem complete_rd (s : State) (st : BusStatus) (bs : List Nat) (h : Fld) (j : Nat) : (s.complete st bs).rd h j = s.rd h j := rfl
@[simp] theorem modMem_mem (s : State) (g : MemSys → MemSys) : (s.modMem g).mem = g s.mem := rfl
@[simp] theorem modMem_rd (s : State) (g : MemSys → MemSys) (h : Fld) (j : Nat) : (s.modMem g).rd h j = s.rd h j := rfl

end Sys2Proof.Machine.State
end

