-- ==== Sys2Proof/Laws/Events.lean ====
section
/-! SUPPORT. What an event report changes (R16 to R18, R329 to R335, R152) and what it leaves: its steps first, then the report as a whole. -/

namespace Sys2Proof.Machine.State

@[simp] theorem lose_pending (s : State) (cls n : Nat) : (s.lose cls n).pending = s.pending := by
  unfold lose; split <;> rfl
@[simp] theorem lose_now (s : State) (cls n : Nat) : (s.lose cls n).now = s.now := by
  unfold lose; split <;> rfl
@[simp] theorem lose_completion (s : State) (cls n : Nat) : (s.lose cls n).completion = s.completion := by
  unfold lose; split <;> rfl
@[simp] theorem lose_out (s : State) (cls n : Nat) : (s.lose cls n).out = s.out := by
  unfold lose; split <;> rfl
@[simp] theorem lose_fresh (s : State) (cls n : Nat) : (s.lose cls n).fresh = s.fresh := by
  unfold lose; split <;> rfl
@[simp] theorem lose_shadow (s : State) (cls n : Nat) : (s.lose cls n).shadow = s.shadow := by
  unfold lose; split <;> rfl
@[simp] theorem lose_rdLatch (s : State) (cls n : Nat) : (s.lose cls n).rdLatch = s.rdLatch := by
  unfold lose; split <;> rfl
@[simp] theorem lose_wrHold (s : State) (cls n : Nat) : (s.lose cls n).wrHold = s.wrHold := by
  unfold lose; split <;> rfl
@[simp] theorem lose_heldLive (s : State) (cls n : Nat) : (s.lose cls n).heldLive = s.heldLive := by
  unfold lose; split <;> rfl
@[simp] theorem lose_insts (s : State) (cls n : Nat) : (s.lose cls n).insts = s.insts := by
  unfold lose; split <;> rfl
@[simp] theorem lose_dev (s : State) (cls n : Nat) : (s.lose cls n).dev = s.dev := by
  unfold lose; split <;> rfl
@[simp] theorem lose_hbm (s : State) (cls n : Nat) : (s.lose cls n).hbm = s.hbm := by
  unfold lose; split <;> rfl
@[simp] theorem lose_plate (s : State) (cls n : Nat) : (s.lose cls n).plate = s.plate := by
  unfold lose; split <;> rfl
@[simp] theorem lose_raw (s : State) (cls n : Nat) : (s.lose cls n).raw = s.raw := by
  unfold lose; split <;> rfl
@[simp] theorem lose_cfg (s : State) (cls n : Nat) : (s.lose cls n).cfg = s.cfg := by
  unfold lose; split <;> rfl
@[simp] theorem lose_pic (s : State) (cls n : Nat) : (s.lose cls n).pic = s.pic := by
  unfold lose; split <;> rfl
@[simp] theorem lose_chr (s : State) (cls n : Nat) : (s.lose cls n).chr = s.chr := by
  unfold lose; split <;> rfl
@[simp] theorem lose_tri (s : State) (cls n : Nat) : (s.lose cls n).tri = s.tri := by
  unfold lose; split <;> rfl
@[simp] theorem lose_light (s : State) (cls n : Nat) : (s.lose cls n).light = s.light := by
  unfold lose; split <;> rfl
@[simp] theorem lose_hel (s : State) (cls n : Nat) : (s.lose cls n).hel = s.hel := by
  unfold lose; split <;> rfl
@[simp] theorem lose_dp (s : State) (cls n : Nat) : (s.lose cls n).dp = s.dp := by
  unfold lose; split <;> rfl
@[simp] theorem lose_mem (s : State) (cls n : Nat) : (s.lose cls n).mem = s.mem := by
  unfold lose; split <;> rfl
@[simp] theorem lose_trn (s : State) (cls n : Nat) : (s.lose cls n).trn = s.trn := by
  unfold lose; split <;> rfl
@[simp] theorem lose_eph (s : State) (cls n : Nat) : (s.lose cls n).eph = s.eph := by
  unfold lose; split <;> rfl
@[simp] theorem lose_alm (s : State) (cls n : Nat) : (s.lose cls n).alm = s.alm := by
  unfold lose; split <;> rfl
@[simp] theorem lose_arc (s : State) (cls n : Nat) : (s.lose cls n).arc = s.arc := by
  unfold lose; split <;> rfl
@[simp] theorem lose_pwr (s : State) (cls n : Nat) : (s.lose cls n).pwr = s.pwr := by
  unfold lose; split <;> rfl
@[simp] theorem lose_host (s : State) (cls n : Nat) : (s.lose cls n).host = s.host := by
  unfold lose; split <;> rfl
@[simp] theorem lose_chn (s : State) (cls n : Nat) : (s.lose cls n).chn = s.chn := by
  unfold lose; split <;> rfl
@[simp] theorem lose_par (s : State) (cls n : Nat) : (s.lose cls n).par = s.par := by
  unfold lose; split <;> rfl
@[simp] theorem lose_obs (s : State) (cls n : Nat) : (s.lose cls n).obs = s.obs := by
  unfold lose; split <;> rfl
@[simp] theorem lose_heldPermit (s : State) (cls n : Nat) : (s.lose cls n).heldPermit = s.heldPermit := by
  unfold lose; split <;> rfl
@[simp] theorem lose_stopped (s : State) (cls n : Nat) : (s.lose cls n).stopped = s.stopped := by
  unfold lose; split <;> rfl
@[simp] theorem lose_retries (s : State) (cls n : Nat) : (s.lose cls n).retries = s.retries := by
  unfold lose; split <;> rfl

@[simp] theorem setQueue_pending (s : State) (q : List Report) : (s.setQueue q).pending = s.pending := by
  simp only [setQueue]; split <;> rfl
@[simp] theorem setQueue_now (s : State) (q : List Report) : (s.setQueue q).now = s.now := by
  simp only [setQueue]; split <;> rfl
@[simp] theorem setQueue_completion (s : State) (q : List Report) : (s.setQueue q).completion = s.completion := by
  simp only [setQueue]; split <;> rfl
@[simp] theorem setQueue_out (s : State) (q : List Report) : (s.setQueue q).out = s.out := by
  simp only [setQueue]; split <;> rfl
@[simp] theorem setQueue_fresh (s : State) (q : List Report) : (s.setQueue q).fresh = s.fresh := by
  simp only [setQueue]; split <;> rfl
@[simp] theorem setQueue_shadow (s : State) (q : List Report) : (s.setQueue q).shadow = s.shadow := by
  simp only [setQueue]; split <;> rfl
@[simp] theorem setQueue_rdLatch (s : State) (q : List Report) : (s.setQueue q).rdLatch = s.rdLatch := by
  simp only [setQueue]; split <;> rfl
@[simp] theorem setQueue_wrHold (s : State) (q : List Report) : (s.setQueue q).wrHold = s.wrHold := by
  simp only [setQueue]; split <;> rfl
@[simp] theorem setQueue_heldLive (s : State) (q : List Report) : (s.setQueue q).heldLive = s.heldLive := by
  simp only [setQueue]; split <;> rfl
@[simp] theorem setQueue_insts (s : State) (q : List Report) : (s.setQueue q).insts = s.insts := by
  simp only [setQueue]; split <;> rfl
@[simp] theorem setQueue_dev (s : State) (q : List Report) : (s.setQueue q).dev = s.dev := by
  simp only [setQueue]; split <;> rfl
@[simp] theorem setQueue_hbm (s : State) (q : List Report) : (s.setQueue q).hbm = s.hbm := by
  simp only [setQueue]; split <;> rfl
@[simp] theorem setQueue_plate (s : State) (q : List Report) : (s.setQueue q).plate = s.plate := by
  simp only [setQueue]; split <;> rfl
@[simp] theorem setQueue_raw (s : State) (q : List Report) : (s.setQueue q).raw = s.raw := by
  simp only [setQueue]; split <;> rfl
@[simp] theorem setQueue_cfg (s : State) (q : List Report) : (s.setQueue q).cfg = s.cfg := by
  simp only [setQueue]; split <;> rfl
@[simp] theorem setQueue_pic (s : State) (q : List Report) : (s.setQueue q).pic = s.pic := by
  simp only [setQueue]; split <;> rfl
@[simp] theorem setQueue_chr (s : State) (q : List Report) : (s.setQueue q).chr = s.chr := by
  simp only [setQueue]; split <;> rfl
@[simp] theorem setQueue_tri (s : State) (q : List Report) : (s.setQueue q).tri = s.tri := by
  simp only [setQueue]; split <;> rfl
@[simp] theorem setQueue_light (s : State) (q : List Report) : (s.setQueue q).light = s.light := by
  simp only [setQueue]; split <;> rfl
@[simp] theorem setQueue_hel (s : State) (q : List Report) : (s.setQueue q).hel = s.hel := by
  simp only [setQueue]; split <;> rfl
@[simp] theorem setQueue_dp (s : State) (q : List Report) : (s.setQueue q).dp = s.dp := by
  simp only [setQueue]; split <;> rfl
@[simp] theorem setQueue_mem (s : State) (q : List Report) : (s.setQueue q).mem = s.mem := by
  simp only [setQueue]; split <;> rfl
@[simp] theorem setQueue_trn (s : State) (q : List Report) : (s.setQueue q).trn = s.trn := by
  simp only [setQueue]; split <;> rfl
@[simp] theorem setQueue_eph (s : State) (q : List Report) : (s.setQueue q).eph = s.eph := by
  simp only [setQueue]; split <;> rfl
@[simp] theorem setQueue_alm (s : State) (q : List Report) : (s.setQueue q).alm = s.alm := by
  simp only [setQueue]; split <;> rfl
@[simp] theorem setQueue_arc (s : State) (q : List Report) : (s.setQueue q).arc = s.arc := by
  simp only [setQueue]; split <;> rfl
@[simp] theorem setQueue_pwr (s : State) (q : List Report) : (s.setQueue q).pwr = s.pwr := by
  simp only [setQueue]; split <;> rfl
@[simp] theorem setQueue_host (s : State) (q : List Report) : (s.setQueue q).host = s.host := by
  simp only [setQueue]; split <;> rfl
@[simp] theorem setQueue_chn (s : State) (q : List Report) : (s.setQueue q).chn = s.chn := by
  simp only [setQueue]; split <;> rfl
@[simp] theorem setQueue_par (s : State) (q : List Report) : (s.setQueue q).par = s.par := by
  simp only [setQueue]; split <;> rfl
@[simp] theorem setQueue_obs (s : State) (q : List Report) : (s.setQueue q).obs = s.obs := by
  simp only [setQueue]; split <;> rfl
@[simp] theorem setQueue_heldPermit (s : State) (q : List Report) : (s.setQueue q).heldPermit = s.heldPermit := by
  simp only [setQueue]; split <;> rfl
@[simp] theorem setQueue_stopped (s : State) (q : List Report) : (s.setQueue q).stopped = s.stopped := by
  simp only [setQueue]; split <;> rfl
@[simp] theorem setQueue_retries (s : State) (q : List Report) : (s.setQueue q).retries = s.retries := by
  simp only [setQueue]; split <;> rfl

@[simp] theorem logTrigger_pending (s : State) (c : Nat) : (s.logTrigger c).pending = s.pending := by
  simp only [logTrigger]; split
  · rfl
  · split <;> rfl
@[simp] theorem logTrigger_now (s : State) (c : Nat) : (s.logTrigger c).now = s.now := by
  simp only [logTrigger]; split
  · rfl
  · split <;> rfl
@[simp] theorem logTrigger_completion (s : State) (c : Nat) : (s.logTrigger c).completion = s.completion := by
  simp only [logTrigger]; split
  · rfl
  · split <;> rfl
@[simp] theorem logTrigger_out (s : State) (c : Nat) : (s.logTrigger c).out = s.out := by
  simp only [logTrigger]; split
  · rfl
  · split <;> rfl
@[simp] theorem logTrigger_fresh (s : State) (c : Nat) : (s.logTrigger c).fresh = s.fresh := by
  simp only [logTrigger]; split
  · rfl
  · split <;> rfl
@[simp] theorem logTrigger_shadow (s : State) (c : Nat) : (s.logTrigger c).shadow = s.shadow := by
  simp only [logTrigger]; split
  · rfl
  · split <;> rfl
@[simp] theorem logTrigger_rdLatch (s : State) (c : Nat) : (s.logTrigger c).rdLatch = s.rdLatch := by
  simp only [logTrigger]; split
  · rfl
  · split <;> rfl
@[simp] theorem logTrigger_wrHold (s : State) (c : Nat) : (s.logTrigger c).wrHold = s.wrHold := by
  simp only [logTrigger]; split
  · rfl
  · split <;> rfl
@[simp] theorem logTrigger_heldLive (s : State) (c : Nat) : (s.logTrigger c).heldLive = s.heldLive := by
  simp only [logTrigger]; split
  · rfl
  · split <;> rfl
@[simp] theorem logTrigger_insts (s : State) (c : Nat) : (s.logTrigger c).insts = s.insts := by
  simp only [logTrigger]; split
  · rfl
  · split <;> rfl
@[simp] theorem logTrigger_dev (s : State) (c : Nat) : (s.logTrigger c).dev = s.dev := by
  simp only [logTrigger]; split
  · rfl
  · split <;> rfl
@[simp] theorem logTrigger_hbm (s : State) (c : Nat) : (s.logTrigger c).hbm = s.hbm := by
  simp only [logTrigger]; split
  · rfl
  · split <;> rfl
@[simp] theorem logTrigger_plate (s : State) (c : Nat) : (s.logTrigger c).plate = s.plate := by
  simp only [logTrigger]; split
  · rfl
  · split <;> rfl
@[simp] theorem logTrigger_raw (s : State) (c : Nat) : (s.logTrigger c).raw = s.raw := by
  simp only [logTrigger]; split
  · rfl
  · split <;> rfl
@[simp] theorem logTrigger_cfg (s : State) (c : Nat) : (s.logTrigger c).cfg = s.cfg := by
  simp only [logTrigger]; split
  · rfl
  · split <;> rfl
@[simp] theorem logTrigger_pic (s : State) (c : Nat) : (s.logTrigger c).pic = s.pic := by
  simp only [logTrigger]; split
  · rfl
  · split <;> rfl
@[simp] theorem logTrigger_chr (s : State) (c : Nat) : (s.logTrigger c).chr = s.chr := by
  simp only [logTrigger]; split
  · rfl
  · split <;> rfl
@[simp] theorem logTrigger_tri (s : State) (c : Nat) : (s.logTrigger c).tri = s.tri := by
  simp only [logTrigger]; split
  · rfl
  · split <;> rfl
@[simp] theorem logTrigger_light (s : State) (c : Nat) : (s.logTrigger c).light = s.light := by
  simp only [logTrigger]; split
  · rfl
  · split <;> rfl
@[simp] theorem logTrigger_hel (s : State) (c : Nat) : (s.logTrigger c).hel = s.hel := by
  simp only [logTrigger]; split
  · rfl
  · split <;> rfl
@[simp] theorem logTrigger_dp (s : State) (c : Nat) : (s.logTrigger c).dp = s.dp := by
  simp only [logTrigger]; split
  · rfl
  · split <;> rfl
@[simp] theorem logTrigger_mem (s : State) (c : Nat) : (s.logTrigger c).mem = s.mem := by
  simp only [logTrigger]; split
  · rfl
  · split <;> rfl
@[simp] theorem logTrigger_trn (s : State) (c : Nat) : (s.logTrigger c).trn = s.trn := by
  simp only [logTrigger]; split
  · rfl
  · split <;> rfl
@[simp] theorem logTrigger_eph (s : State) (c : Nat) : (s.logTrigger c).eph = s.eph := by
  simp only [logTrigger]; split
  · rfl
  · split <;> rfl
@[simp] theorem logTrigger_alm (s : State) (c : Nat) : (s.logTrigger c).alm = s.alm := by
  simp only [logTrigger]; split
  · rfl
  · split <;> rfl
@[simp] theorem logTrigger_arc (s : State) (c : Nat) : (s.logTrigger c).arc = s.arc := by
  simp only [logTrigger]; split
  · rfl
  · split <;> rfl
@[simp] theorem logTrigger_pwr (s : State) (c : Nat) : (s.logTrigger c).pwr = s.pwr := by
  simp only [logTrigger]; split
  · rfl
  · split <;> rfl
@[simp] theorem logTrigger_host (s : State) (c : Nat) : (s.logTrigger c).host = s.host := by
  simp only [logTrigger]; split
  · rfl
  · split <;> rfl
@[simp] theorem logTrigger_chn (s : State) (c : Nat) : (s.logTrigger c).chn = s.chn := by
  simp only [logTrigger]; split
  · rfl
  · split <;> rfl
@[simp] theorem logTrigger_par (s : State) (c : Nat) : (s.logTrigger c).par = s.par := by
  simp only [logTrigger]; split
  · rfl
  · split <;> rfl
@[simp] theorem logTrigger_obs (s : State) (c : Nat) : (s.logTrigger c).obs = s.obs := by
  simp only [logTrigger]; split
  · rfl
  · split <;> rfl
@[simp] theorem logTrigger_heldPermit (s : State) (c : Nat) : (s.logTrigger c).heldPermit = s.heldPermit := by
  simp only [logTrigger]; split
  · rfl
  · split <;> rfl
@[simp] theorem logTrigger_stopped (s : State) (c : Nat) : (s.logTrigger c).stopped = s.stopped := by
  simp only [logTrigger]; split
  · rfl
  · split <;> rfl
@[simp] theorem logTrigger_retries (s : State) (c : Nat) : (s.logTrigger c).retries = s.retries := by
  simp only [logTrigger]; split
  · rfl
  · split <;> rfl

@[simp] theorem wakeHeld_pending (s : State) (c : Fin 4) (n : Nat) : (s.wakeHeld c n).pending = s.pending := by
  unfold wakeHeld; split
  · split <;> rfl
  · rfl
@[simp] theorem wakeHeld_now (s : State) (c : Fin 4) (n : Nat) : (s.wakeHeld c n).now = s.now := by
  unfold wakeHeld; split
  · split <;> rfl
  · rfl
@[simp] theorem wakeHeld_completion (s : State) (c : Fin 4) (n : Nat) : (s.wakeHeld c n).completion = s.completion := by
  unfold wakeHeld; split
  · split <;> rfl
  · rfl
@[simp] theorem wakeHeld_out (s : State) (c : Fin 4) (n : Nat) : (s.wakeHeld c n).out = s.out := by
  unfold wakeHeld; split
  · split <;> rfl
  · rfl
@[simp] theorem wakeHeld_fresh (s : State) (c : Fin 4) (n : Nat) : (s.wakeHeld c n).fresh = s.fresh := by
  unfold wakeHeld; split
  · split <;> rfl
  · rfl
@[simp] theorem wakeHeld_shadow (s : State) (c : Fin 4) (n : Nat) : (s.wakeHeld c n).shadow = s.shadow := by
  unfold wakeHeld; split
  · split <;> rfl
  · rfl
@[simp] theorem wakeHeld_rdLatch (s : State) (c : Fin 4) (n : Nat) : (s.wakeHeld c n).rdLatch = s.rdLatch := by
  unfold wakeHeld; split
  · split <;> rfl
  · rfl
@[simp] theorem wakeHeld_wrHold (s : State) (c : Fin 4) (n : Nat) : (s.wakeHeld c n).wrHold = s.wrHold := by
  unfold wakeHeld; split
  · split <;> rfl
  · rfl
@[simp] theorem wakeHeld_heldLive (s : State) (c : Fin 4) (n : Nat) : (s.wakeHeld c n).heldLive = s.heldLive := by
  unfold wakeHeld; split
  · split <;> rfl
  · rfl
@[simp] theorem wakeHeld_insts (s : State) (c : Fin 4) (n : Nat) : (s.wakeHeld c n).insts = s.insts := by
  unfold wakeHeld; split
  · split <;> rfl
  · rfl
@[simp] theorem wakeHeld_dev (s : State) (c : Fin 4) (n : Nat) : (s.wakeHeld c n).dev = s.dev := by
  unfold wakeHeld; split
  · split <;> rfl
  · rfl
@[simp] theorem wakeHeld_hbm (s : State) (c : Fin 4) (n : Nat) : (s.wakeHeld c n).hbm = s.hbm := by
  unfold wakeHeld; split
  · split <;> rfl
  · rfl
@[simp] theorem wakeHeld_plate (s : State) (c : Fin 4) (n : Nat) : (s.wakeHeld c n).plate = s.plate := by
  unfold wakeHeld; split
  · split <;> rfl
  · rfl
@[simp] theorem wakeHeld_raw (s : State) (c : Fin 4) (n : Nat) : (s.wakeHeld c n).raw = s.raw := by
  unfold wakeHeld; split
  · split <;> rfl
  · rfl
@[simp] theorem wakeHeld_cfg (s : State) (c : Fin 4) (n : Nat) : (s.wakeHeld c n).cfg = s.cfg := by
  unfold wakeHeld; split
  · split <;> rfl
  · rfl
@[simp] theorem wakeHeld_pic (s : State) (c : Fin 4) (n : Nat) : (s.wakeHeld c n).pic = s.pic := by
  unfold wakeHeld; split
  · split <;> rfl
  · rfl
@[simp] theorem wakeHeld_tri (s : State) (c : Fin 4) (n : Nat) : (s.wakeHeld c n).tri = s.tri := by
  unfold wakeHeld; split
  · split <;> rfl
  · rfl
@[simp] theorem wakeHeld_light (s : State) (c : Fin 4) (n : Nat) : (s.wakeHeld c n).light = s.light := by
  unfold wakeHeld; split
  · split <;> rfl
  · rfl
@[simp] theorem wakeHeld_hel (s : State) (c : Fin 4) (n : Nat) : (s.wakeHeld c n).hel = s.hel := by
  unfold wakeHeld; split
  · split <;> rfl
  · rfl
@[simp] theorem wakeHeld_dp (s : State) (c : Fin 4) (n : Nat) : (s.wakeHeld c n).dp = s.dp := by
  unfold wakeHeld; split
  · split <;> rfl
  · rfl
@[simp] theorem wakeHeld_mem (s : State) (c : Fin 4) (n : Nat) : (s.wakeHeld c n).mem = s.mem := by
  unfold wakeHeld; split
  · split <;> rfl
  · rfl
@[simp] theorem wakeHeld_trn (s : State) (c : Fin 4) (n : Nat) : (s.wakeHeld c n).trn = s.trn := by
  unfold wakeHeld; split
  · split <;> rfl
  · rfl
@[simp] theorem wakeHeld_eph (s : State) (c : Fin 4) (n : Nat) : (s.wakeHeld c n).eph = s.eph := by
  unfold wakeHeld; split
  · split <;> rfl
  · rfl
@[simp] theorem wakeHeld_alm (s : State) (c : Fin 4) (n : Nat) : (s.wakeHeld c n).alm = s.alm := by
  unfold wakeHeld; split
  · split <;> rfl
  · rfl
@[simp] theorem wakeHeld_log (s : State) (c : Fin 4) (n : Nat) : (s.wakeHeld c n).log = s.log := by
  unfold wakeHeld; split
  · split <;> rfl
  · rfl
@[simp] theorem wakeHeld_arc (s : State) (c : Fin 4) (n : Nat) : (s.wakeHeld c n).arc = s.arc := by
  unfold wakeHeld; split
  · split <;> rfl
  · rfl
@[simp] theorem wakeHeld_pwr (s : State) (c : Fin 4) (n : Nat) : (s.wakeHeld c n).pwr = s.pwr := by
  unfold wakeHeld; split
  · split <;> rfl
  · rfl
@[simp] theorem wakeHeld_host (s : State) (c : Fin 4) (n : Nat) : (s.wakeHeld c n).host = s.host := by
  unfold wakeHeld; split
  · split <;> rfl
  · rfl
@[simp] theorem wakeHeld_chn (s : State) (c : Fin 4) (n : Nat) : (s.wakeHeld c n).chn = s.chn := by
  unfold wakeHeld; split
  · split <;> rfl
  · rfl
@[simp] theorem wakeHeld_par (s : State) (c : Fin 4) (n : Nat) : (s.wakeHeld c n).par = s.par := by
  unfold wakeHeld; split
  · split <;> rfl
  · rfl
@[simp] theorem wakeHeld_obs (s : State) (c : Fin 4) (n : Nat) : (s.wakeHeld c n).obs = s.obs := by
  unfold wakeHeld; split
  · split <;> rfl
  · rfl
@[simp] theorem wakeHeld_heldPermit (s : State) (c : Fin 4) (n : Nat) : (s.wakeHeld c n).heldPermit = s.heldPermit := by
  unfold wakeHeld; split
  · split <;> rfl
  · rfl
@[simp] theorem wakeHeld_stopped (s : State) (c : Fin 4) (n : Nat) : (s.wakeHeld c n).stopped = s.stopped := by
  unfold wakeHeld; split
  · split <;> rfl
  · rfl
@[simp] theorem wakeHeld_retries (s : State) (c : Fin 4) (n : Nat) : (s.wakeHeld c n).retries = s.retries := by
  unfold wakeHeld; split
  · split <;> rfl
  · rfl

@[simp] theorem enqueue_pending (s : State) (r : Report) : (s.enqueue r).pending = s.pending := by
  unfold enqueue; dsimp only; split
  · rfl
  · split
    · simp
    · split
      · split
        · simp
        · split <;> simp
      · split <;> simp
@[simp] theorem enqueue_now (s : State) (r : Report) : (s.enqueue r).now = s.now := by
  unfold enqueue; dsimp only; split
  · rfl
  · split
    · simp
    · split
      · split
        · simp
        · split <;> simp
      · split <;> simp
@[simp] theorem enqueue_completion (s : State) (r : Report) : (s.enqueue r).completion = s.completion := by
  unfold enqueue; dsimp only; split
  · rfl
  · split
    · simp
    · split
      · split
        · simp
        · split <;> simp
      · split <;> simp
@[simp] theorem enqueue_out (s : State) (r : Report) : (s.enqueue r).out = s.out := by
  unfold enqueue; dsimp only; split
  · rfl
  · split
    · simp
    · split
      · split
        · simp
        · split <;> simp
      · split <;> simp
@[simp] theorem enqueue_fresh (s : State) (r : Report) : (s.enqueue r).fresh = s.fresh := by
  unfold enqueue; dsimp only; split
  · rfl
  · split
    · simp
    · split
      · split
        · simp
        · split <;> simp
      · split <;> simp
@[simp] theorem enqueue_shadow (s : State) (r : Report) : (s.enqueue r).shadow = s.shadow := by
  unfold enqueue; dsimp only; split
  · rfl
  · split
    · simp
    · split
      · split
        · simp
        · split <;> simp
      · split <;> simp
@[simp] theorem enqueue_rdLatch (s : State) (r : Report) : (s.enqueue r).rdLatch = s.rdLatch := by
  unfold enqueue; dsimp only; split
  · rfl
  · split
    · simp
    · split
      · split
        · simp
        · split <;> simp
      · split <;> simp
@[simp] theorem enqueue_wrHold (s : State) (r : Report) : (s.enqueue r).wrHold = s.wrHold := by
  unfold enqueue; dsimp only; split
  · rfl
  · split
    · simp
    · split
      · split
        · simp
        · split <;> simp
      · split <;> simp
@[simp] theorem enqueue_heldLive (s : State) (r : Report) : (s.enqueue r).heldLive = s.heldLive := by
  unfold enqueue; dsimp only; split
  · rfl
  · split
    · simp
    · split
      · split
        · simp
        · split <;> simp
      · split <;> simp
@[simp] theorem enqueue_insts (s : State) (r : Report) : (s.enqueue r).insts = s.insts := by
  unfold enqueue; dsimp only; split
  · rfl
  · split
    · simp
    · split
      · split
        · simp
        · split <;> simp
      · split <;> simp
@[simp] theorem enqueue_dev (s : State) (r : Report) : (s.enqueue r).dev = s.dev := by
  unfold enqueue; dsimp only; split
  · rfl
  · split
    · simp
    · split
      · split
        · simp
        · split <;> simp
      · split <;> simp
@[simp] theorem enqueue_hbm (s : State) (r : Report) : (s.enqueue r).hbm = s.hbm := by
  unfold enqueue; dsimp only; split
  · rfl
  · split
    · simp
    · split
      · split
        · simp
        · split <;> simp
      · split <;> simp
@[simp] theorem enqueue_plate (s : State) (r : Report) : (s.enqueue r).plate = s.plate := by
  unfold enqueue; dsimp only; split
  · rfl
  · split
    · simp
    · split
      · split
        · simp
        · split <;> simp
      · split <;> simp
@[simp] theorem enqueue_raw (s : State) (r : Report) : (s.enqueue r).raw = s.raw := by
  unfold enqueue; dsimp only; split
  · rfl
  · split
    · simp
    · split
      · split
        · simp
        · split <;> simp
      · split <;> simp
@[simp] theorem enqueue_cfg (s : State) (r : Report) : (s.enqueue r).cfg = s.cfg := by
  unfold enqueue; dsimp only; split
  · rfl
  · split
    · simp
    · split
      · split
        · simp
        · split <;> simp
      · split <;> simp
@[simp] theorem enqueue_pic (s : State) (r : Report) : (s.enqueue r).pic = s.pic := by
  unfold enqueue; dsimp only; split
  · rfl
  · split
    · simp
    · split
      · split
        · simp
        · split <;> simp
      · split <;> simp
@[simp] theorem enqueue_chr (s : State) (r : Report) : (s.enqueue r).chr = s.chr := by
  unfold enqueue; dsimp only; split
  · rfl
  · split
    · simp
    · split
      · split
        · simp
        · split <;> simp
      · split <;> simp
@[simp] theorem enqueue_tri (s : State) (r : Report) : (s.enqueue r).tri = s.tri := by
  unfold enqueue; dsimp only; split
  · rfl
  · split
    · simp
    · split
      · split
        · simp
        · split <;> simp
      · split <;> simp
@[simp] theorem enqueue_light (s : State) (r : Report) : (s.enqueue r).light = s.light := by
  unfold enqueue; dsimp only; split
  · rfl
  · split
    · simp
    · split
      · split
        · simp
        · split <;> simp
      · split <;> simp
@[simp] theorem enqueue_hel (s : State) (r : Report) : (s.enqueue r).hel = s.hel := by
  unfold enqueue; dsimp only; split
  · rfl
  · split
    · simp
    · split
      · split
        · simp
        · split <;> simp
      · split <;> simp
@[simp] theorem enqueue_dp (s : State) (r : Report) : (s.enqueue r).dp = s.dp := by
  unfold enqueue; dsimp only; split
  · rfl
  · split
    · simp
    · split
      · split
        · simp
        · split <;> simp
      · split <;> simp
@[simp] theorem enqueue_mem (s : State) (r : Report) : (s.enqueue r).mem = s.mem := by
  unfold enqueue; dsimp only; split
  · rfl
  · split
    · simp
    · split
      · split
        · simp
        · split <;> simp
      · split <;> simp
@[simp] theorem enqueue_trn (s : State) (r : Report) : (s.enqueue r).trn = s.trn := by
  unfold enqueue; dsimp only; split
  · rfl
  · split
    · simp
    · split
      · split
        · simp
        · split <;> simp
      · split <;> simp
@[simp] theorem enqueue_eph (s : State) (r : Report) : (s.enqueue r).eph = s.eph := by
  unfold enqueue; dsimp only; split
  · rfl
  · split
    · simp
    · split
      · split
        · simp
        · split <;> simp
      · split <;> simp
@[simp] theorem enqueue_alm (s : State) (r : Report) : (s.enqueue r).alm = s.alm := by
  unfold enqueue; dsimp only; split
  · rfl
  · split
    · simp
    · split
      · split
        · simp
        · split <;> simp
      · split <;> simp
@[simp] theorem enqueue_arc (s : State) (r : Report) : (s.enqueue r).arc = s.arc := by
  unfold enqueue; dsimp only; split
  · rfl
  · split
    · simp
    · split
      · split
        · simp
        · split <;> simp
      · split <;> simp
@[simp] theorem enqueue_pwr (s : State) (r : Report) : (s.enqueue r).pwr = s.pwr := by
  unfold enqueue; dsimp only; split
  · rfl
  · split
    · simp
    · split
      · split
        · simp
        · split <;> simp
      · split <;> simp
@[simp] theorem enqueue_host (s : State) (r : Report) : (s.enqueue r).host = s.host := by
  unfold enqueue; dsimp only; split
  · rfl
  · split
    · simp
    · split
      · split
        · simp
        · split <;> simp
      · split <;> simp
@[simp] theorem enqueue_chn (s : State) (r : Report) : (s.enqueue r).chn = s.chn := by
  unfold enqueue; dsimp only; split
  · rfl
  · split
    · simp
    · split
      · split
        · simp
        · split <;> simp
      · split <;> simp
@[simp] theorem enqueue_par (s : State) (r : Report) : (s.enqueue r).par = s.par := by
  unfold enqueue; dsimp only; split
  · rfl
  · split
    · simp
    · split
      · split
        · simp
        · split <;> simp
      · split <;> simp
@[simp] theorem enqueue_obs (s : State) (r : Report) : (s.enqueue r).obs = s.obs := by
  unfold enqueue; dsimp only; split
  · rfl
  · split
    · simp
    · split
      · split
        · simp
        · split <;> simp
      · split <;> simp
@[simp] theorem enqueue_heldPermit (s : State) (r : Report) : (s.enqueue r).heldPermit = s.heldPermit := by
  unfold enqueue; dsimp only; split
  · rfl
  · split
    · simp
    · split
      · split
        · simp
        · split <;> simp
      · split <;> simp
@[simp] theorem enqueue_stopped (s : State) (r : Report) : (s.enqueue r).stopped = s.stopped := by
  unfold enqueue; dsimp only; split
  · rfl
  · split
    · simp
    · split
      · split
        · simp
        · split <;> simp
      · split <;> simp
@[simp] theorem enqueue_retries (s : State) (r : Report) : (s.enqueue r).retries = s.retries := by
  unfold enqueue; dsimp only; split
  · rfl
  · split
    · simp
    · split
      · split
        · simp
        · split <;> simp
      · split <;> simp

theorem rd_lose (s : State) (cls n : Nat) {f : Fld} {i : Nat} (h : f.part ≠ .reg .log) : (s.lose cls n).rd f i = s.rd f i := by
  unfold lose
  split
  case h_4 => rfl
  all_goals
    simp only [modLog_rd]
    exact rd_wr_ne _ (by rintro ⟨rfl, -⟩; exact h rfl)

theorem rd_setQueue (s : State) (q : List Report) {f : Fld} {i : Nat} (h : f.part ≠ .reg .log) : (s.setQueue q).rd f i = s.rd f i := by
  have h1 : ∀ (a : State) (v : Nat), (a.wr (.log .queueDepth) 0 v).rd f i = a.rd f i := fun a v => rd_wr_ne _ (by rintro ⟨rfl, -⟩; exact h rfl)
  have h2 : ∀ (a : State) (v : Nat), (a.wr (.log .queueHigh) 0 v).rd f i = a.rd f i := fun a v => rd_wr_ne _ (by rintro ⟨rfl, -⟩; exact h rfl)
  simp only [setQueue]
  split <;> simp [h1, h2]

theorem rd_logTrigger (s : State) (c : Nat) {f : Fld} {i : Nat} (h : f.part ≠ .reg .log) : (s.logTrigger c).rd f i = s.rd f i := by
  simp only [logTrigger]
  split
  · exact rd_wr_ne _ (by rintro ⟨rfl, -⟩; exact h rfl)
  · split <;> rfl

theorem rd_wakeHeld (s : State) (c : Fin 4) (n : Nat) {f : Fld} {i : Nat} (h : f ≠ .chr .heldWake) : (s.wakeHeld c n).rd f i = s.rd f i := by
  unfold wakeHeld
  split
  · split
    · rfl
    · exact rd_wr_ne _ (by rintro ⟨rfl, -⟩; exact h rfl)
  · rfl

theorem rd_enqueue (s : State) (r : Report) {f : Fld} {i : Nat} (h : f.part ≠ .reg .log) : (s.enqueue r).rd f i = s.rd f i := by
  unfold enqueue
  dsimp only
  split
  · rfl
  · split
    · exact rd_setQueue _ _ h
    · split
      · split
        · exact rd_setQueue _ _ h
        · split
          · rw [rd_setQueue _ _ h, rd_lose _ _ _ h]
          · rfl
      · split
        · exact rd_setQueue _ _ h
        · exact rd_lose _ _ _ h

/-- The part of a report that writes the unit's status word. -/
theorem reportSub_status (s : State) (u : UType) (i sub code : Nat) (items : List (Nat × Nat)) {f : Fld} {j : Nat} (hf : s.fusedOff u i = false) (h : f.part = .status) :
    (s.reportSub u i sub code items).rd f j =
      (let a := (s.wr (.st u .lastclass) i (code / 4096)).bump (.st u .errcnt) i
       if code / 4096 == 4 && decide (6 ≤ u.code) then (a.wr (.st u .fatal) i 1).rd f j else a.rd f j) := by
  have hl : f.part ≠ .reg .log := by rw [h]; exact fun e => nomatch e
  have hh : f ≠ .chr .heldWake := by rintro rfl; exact nomatch h
  unfold reportSub
  rw [if_neg (by simp [hf])]
  extract_lets cls r s1 sf s2 s3 p3 s4 s5 s6 p6
  have h6 : s6.rd f j = s2.rd f j := by
    have e6 : s6.rd f j = s5.rd f j := by
      simp only [s6]
      split
      · exact rd_wakeHeld _ _ _ hh
      · rfl
    have e5 : s5.rd f j = s4.rd f j := rd_enqueue _ _ hl
    have e4 : s4.rd f j = s3.rd f j := by
      simp only [s4]
      split <;> rfl
    rw [e6, e5, e4]
    rfl
  have hr : (if cls == 5 then (({ s6 with pwr := { s6.pwr with xEvents := satN 16 (s6.pwr.xEvents + 1), faultOut := true } } : State).emit
      (.faultOut true)).logTrigger 1 else s6).rd f j = s6.rd f j := by
    split
    · rw [rd_logTrigger _ _ hl]
      rfl
    · rfl
  refine hr.trans (h6.trans ?_)
  simp only [s2]
  split <;> rfl

theorem reportSub_rd (s : State) (u : UType) (i sub code : Nat) (items : List (Nat × Nat)) {f : Fld} {j : Nat} (hs : f.part ≠ .status)
    (hl : f.part ≠ .reg .log) (hh : f ≠ .chr .heldWake) : (s.reportSub u i sub code items).rd f j = s.rd f j := by
  by_cases hf : s.fusedOff u i
  · rw [reportSub, if_pos hf]
  have hw : ∀ (a : State) (x : StF) (v : Nat), (a.wr (.st u x) i v).rd f j = a.rd f j :=
    fun a x v => rd_wr_ne _ (by rintro ⟨rfl, -⟩; exact hs rfl)
  have hb : ∀ (a : State) (x : StF), (a.bump (.st u x) i).rd f j = a.rd f j := fun a x => hw a x _
  unfold reportSub
  rw [if_neg (by simp [hf])]
  extract_lets cls r s1 sf s2 s3 p3 s4 s5 s6 p6
  have h6 : s6.rd f j = s2.rd f j := by
    have e6 : s6.rd f j = s5.rd f j := by
      simp only [s6]
      split
      · exact rd_wakeHeld _ _ _ hh
      · rfl
    have e5 : s5.rd f j = s4.rd f j := rd_enqueue _ _ hl
    have e4 : s4.rd f j = s3.rd f j := by
      simp only [s4]
      split <;> rfl
    rw [e6, e5, e4]
    rfl
  have hr : (if cls == 5 then (({ s6 with pwr := { s6.pwr with xEvents := satN 16 (s6.pwr.xEvents + 1), faultOut := true } } : State).emit
      (.faultOut true)).logTrigger 1 else s6).rd f j = s6.rd f j := by
    split
    · rw [rd_logTrigger _ _ hl]
      rfl
    · rfl
  refine hr.trans (h6.trans ?_)
  have e1 : s1.rd f j = s.rd f j := by
    show State.rd (State.bump _ _ _) _ _ = _
    rw [hb, hw]
  rw [← e1]
  simp only [s2]
  split
  · exact (show sf.rd f j = s1.rd f j from hw _ _ _)
  · rfl

theorem reportSub_errcnt (s : State) (u : UType) (i sub code : Nat) (items : List (Nat × Nat)) (hf : s.fusedOff u i = false) :
    (s.reportSub u i sub code items).rd (.st u .errcnt) i = satN 16 (s.rd (.st u .errcnt) i + 1) := by
  rw [reportSub_status _ _ _ _ _ _ hf rfl]
  have : ∀ x, satN 16 x < 65536 := fun x => by unfold satN; omega
  split_ifs <;> simp [bump, bumpBy, rd_wr, Fld.info, StF.info] <;> exact this _

theorem reportSub_lastclass (s : State) (u : UType) (i sub code : Nat) (items : List (Nat × Nat)) (hf : s.fusedOff u i = false) (h : code < 0x8000) :
    (s.reportSub u i sub code items).rd (.st u .lastclass) i = code / 4096 := by
  rw [reportSub_status _ _ _ _ _ _ hf rfl]
  split_ifs <;> simp [bump, bumpBy, rd_wr, Fld.info, StF.info] <;> omega

/-- The status fields that a report of a unit leaves alone: every other unit's, MARK and DEGR. -/
theorem reportSub_other (s : State) (u v : UType) (i j sub code : Nat) (items : List (Nat × Nat)) (x : StF)
    (h : ¬ (v = u ∧ j = i) ∨ x = .degr ∨ x = .mark) : (s.reportSub u i sub code items).rd (.st v x) j = s.rd (.st v x) j := by
  by_cases hf : s.fusedOff u i
  · rw [reportSub, if_pos hf]
  rw [reportSub_status _ _ _ _ _ _ (by simpa using hf) rfl]
  rcases h with h | rfl | rfl
  · split_ifs <;> simp only [bump, bumpBy] <;> repeat rw [rd_wr_ne _ (by rintro ⟨e, rfl⟩; injection e with e1 e2; exact h ⟨e1, rfl⟩)]
  · split_ifs <;> simp [bump, bumpBy, rd_wr]
  · split_ifs <;> simp [bump, bumpBy, rd_wr]

@[simp] theorem reportSub_pending (s : State) (u : UType) (i sub code : Nat) (items : List (Nat × Nat)) : (s.reportSub u i sub code items).pending = s.pending := by
  unfold reportSub; dsimp only; split_ifs <;> simp
@[simp] theorem reportSub_now (s : State) (u : UType) (i sub code : Nat) (items : List (Nat × Nat)) : (s.reportSub u i sub code items).now = s.now := by
  unfold reportSub; dsimp only; split_ifs <;> simp
@[simp] theorem reportSub_completion (s : State) (u : UType) (i sub code : Nat) (items : List (Nat × Nat)) : (s.reportSub u i sub code items).completion = s.completion := by
  unfold reportSub; dsimp only; split_ifs <;> simp
@[simp] theorem reportSub_fresh (s : State) (u : UType) (i sub code : Nat) (items : List (Nat × Nat)) : (s.reportSub u i sub code items).fresh = s.fresh := by
  unfold reportSub; dsimp only; split_ifs <;> simp
@[simp] theorem reportSub_shadow (s : State) (u : UType) (i sub code : Nat) (items : List (Nat × Nat)) : (s.reportSub u i sub code items).shadow = s.shadow := by
  unfold reportSub; dsimp only; split_ifs <;> simp
@[simp] theorem reportSub_rdLatch (s : State) (u : UType) (i sub code : Nat) (items : List (Nat × Nat)) : (s.reportSub u i sub code items).rdLatch = s.rdLatch := by
  unfold reportSub; dsimp only; split_ifs <;> simp
@[simp] theorem reportSub_wrHold (s : State) (u : UType) (i sub code : Nat) (items : List (Nat × Nat)) : (s.reportSub u i sub code items).wrHold = s.wrHold := by
  unfold reportSub; dsimp only; split_ifs <;> simp
@[simp] theorem reportSub_heldLive (s : State) (u : UType) (i sub code : Nat) (items : List (Nat × Nat)) : (s.reportSub u i sub code items).heldLive = s.heldLive := by
  unfold reportSub; dsimp only; split_ifs <;> simp
@[simp] theorem reportSub_insts (s : State) (u : UType) (i sub code : Nat) (items : List (Nat × Nat)) : (s.reportSub u i sub code items).insts = s.insts := by
  unfold reportSub; dsimp only; split_ifs <;> simp
@[simp] theorem reportSub_dev (s : State) (u : UType) (i sub code : Nat) (items : List (Nat × Nat)) : (s.reportSub u i sub code items).dev = s.dev := by
  unfold reportSub; dsimp only; split_ifs <;> simp
@[simp] theorem reportSub_hbm (s : State) (u : UType) (i sub code : Nat) (items : List (Nat × Nat)) : (s.reportSub u i sub code items).hbm = s.hbm := by
  unfold reportSub; dsimp only; split_ifs <;> simp
@[simp] theorem reportSub_plate (s : State) (u : UType) (i sub code : Nat) (items : List (Nat × Nat)) : (s.reportSub u i sub code items).plate = s.plate := by
  unfold reportSub; dsimp only; split_ifs <;> simp
@[simp] theorem reportSub_raw (s : State) (u : UType) (i sub code : Nat) (items : List (Nat × Nat)) : (s.reportSub u i sub code items).raw = s.raw := by
  unfold reportSub; dsimp only; split_ifs <;> simp
@[simp] theorem reportSub_cfg (s : State) (u : UType) (i sub code : Nat) (items : List (Nat × Nat)) : (s.reportSub u i sub code items).cfg = s.cfg := by
  unfold reportSub; dsimp only; split_ifs <;> simp
@[simp] theorem reportSub_pic (s : State) (u : UType) (i sub code : Nat) (items : List (Nat × Nat)) : (s.reportSub u i sub code items).pic = s.pic := by
  unfold reportSub; dsimp only; split_ifs <;> simp
@[simp] theorem reportSub_tri (s : State) (u : UType) (i sub code : Nat) (items : List (Nat × Nat)) : (s.reportSub u i sub code items).tri = s.tri := by
  unfold reportSub; dsimp only; split_ifs <;> simp
@[simp] theorem reportSub_light (s : State) (u : UType) (i sub code : Nat) (items : List (Nat × Nat)) : (s.reportSub u i sub code items).light = s.light := by
  unfold reportSub; dsimp only; split_ifs <;> simp
@[simp] theorem reportSub_hel (s : State) (u : UType) (i sub code : Nat) (items : List (Nat × Nat)) : (s.reportSub u i sub code items).hel = s.hel := by
  unfold reportSub; dsimp only; split_ifs <;> simp
@[simp] theorem reportSub_dp (s : State) (u : UType) (i sub code : Nat) (items : List (Nat × Nat)) : (s.reportSub u i sub code items).dp = s.dp := by
  unfold reportSub; dsimp only; split_ifs <;> simp
@[simp] theorem reportSub_mem (s : State) (u : UType) (i sub code : Nat) (items : List (Nat × Nat)) : (s.reportSub u i sub code items).mem = s.mem := by
  unfold reportSub; dsimp only; split_ifs <;> simp
@[simp] theorem reportSub_trn (s : State) (u : UType) (i sub code : Nat) (items : List (Nat × Nat)) : (s.reportSub u i sub code items).trn = s.trn := by
  unfold reportSub; dsimp only; split_ifs <;> simp
@[simp] theorem reportSub_eph (s : State) (u : UType) (i sub code : Nat) (items : List (Nat × Nat)) : (s.reportSub u i sub code items).eph = s.eph := by
  unfold reportSub; dsimp only; split_ifs <;> simp
@[simp] theorem reportSub_alm (s : State) (u : UType) (i sub code : Nat) (items : List (Nat × Nat)) : (s.reportSub u i sub code items).alm = s.alm := by
  unfold reportSub; dsimp only; split_ifs <;> simp
@[simp] theorem reportSub_arc (s : State) (u : UType) (i sub code : Nat) (items : List (Nat × Nat)) : (s.reportSub u i sub code items).arc = s.arc := by
  unfold reportSub; dsimp only; split_ifs <;> simp
@[simp] theorem reportSub_host (s : State) (u : UType) (i sub code : Nat) (items : List (Nat × Nat)) : (s.reportSub u i sub code items).host = s.host := by
  unfold reportSub; dsimp only; split_ifs <;> simp
@[simp] theorem reportSub_chn (s : State) (u : UType) (i sub code : Nat) (items : List (Nat × Nat)) : (s.reportSub u i sub code items).chn = s.chn := by
  unfold reportSub; dsimp only; split_ifs <;> simp
@[simp] theorem reportSub_par (s : State) (u : UType) (i sub code : Nat) (items : List (Nat × Nat)) : (s.reportSub u i sub code items).par = s.par := by
  unfold reportSub; dsimp only; split_ifs <;> simp
@[simp] theorem reportSub_obs (s : State) (u : UType) (i sub code : Nat) (items : List (Nat × Nat)) : (s.reportSub u i sub code items).obs = s.obs := by
  unfold reportSub; dsimp only; split_ifs <;> simp
@[simp] theorem reportSub_heldPermit (s : State) (u : UType) (i sub code : Nat) (items : List (Nat × Nat)) : (s.reportSub u i sub code items).heldPermit = s.heldPermit := by
  unfold reportSub; dsimp only; split_ifs <;> simp
@[simp] theorem reportSub_retries (s : State) (u : UType) (i sub code : Nat) (items : List (Nat × Nat)) : (s.reportSub u i sub code items).retries = s.retries := by
  unfold reportSub; dsimp only; split_ifs <;> simp

@[simp] theorem report_pending (s : State) (u : UType) (i code : Nat) (items : List (Nat × Nat)) : (s.report u i code items).pending = s.pending :=
  reportSub_pending ..
@[simp] theorem report_now (s : State) (u : UType) (i code : Nat) (items : List (Nat × Nat)) : (s.report u i code items).now = s.now :=
  reportSub_now ..
@[simp] theorem report_completion (s : State) (u : UType) (i code : Nat) (items : List (Nat × Nat)) : (s.report u i code items).completion = s.completion :=
  reportSub_completion ..
@[simp] theorem report_fresh (s : State) (u : UType) (i code : Nat) (items : List (Nat × Nat)) : (s.report u i code items).fresh = s.fresh :=
  reportSub_fresh ..
@[simp] theorem report_shadow (s : State) (u : UType) (i code : Nat) (items : List (Nat × Nat)) : (s.report u i code items).shadow = s.shadow :=
  reportSub_shadow ..
@[simp] theorem report_rdLatch (s : State) (u : UType) (i code : Nat) (items : List (Nat × Nat)) : (s.report u i code items).rdLatch = s.rdLatch :=
  reportSub_rdLatch ..
@[simp] theorem report_wrHold (s : State) (u : UType) (i code : Nat) (items : List (Nat × Nat)) : (s.report u i code items).wrHold = s.wrHold :=
  reportSub_wrHold ..
@[simp] theorem report_heldLive (s : State) (u : UType) (i code : Nat) (items : List (Nat × Nat)) : (s.report u i code items).heldLive = s.heldLive :=
  reportSub_heldLive ..
@[simp] theorem report_insts (s : State) (u : UType) (i code : Nat) (items : List (Nat × Nat)) : (s.report u i code items).insts = s.insts :=
  reportSub_insts ..
@[simp] theorem report_dev (s : State) (u : UType) (i code : Nat) (items : List (Nat × Nat)) : (s.report u i code items).dev = s.dev :=
  reportSub_dev ..
@[simp] theorem report_hbm (s : State) (u : UType) (i code : Nat) (items : List (Nat × Nat)) : (s.report u i code items).hbm = s.hbm :=
  reportSub_hbm ..
@[simp] theorem report_plate (s : State) (u : UType) (i code : Nat) (items : List (Nat × Nat)) : (s.report u i code items).plate = s.plate :=
  reportSub_plate ..
@[simp] theorem report_raw (s : State) (u : UType) (i code : Nat) (items : List (Nat × Nat)) : (s.report u i code items).raw = s.raw :=
  reportSub_raw ..
@[simp] theorem report_cfg (s : State) (u : UType) (i code : Nat) (items : List (Nat × Nat)) : (s.report u i code items).cfg = s.cfg :=
  reportSub_cfg ..
@[simp] theorem report_pic (s : State) (u : UType) (i code : Nat) (items : List (Nat × Nat)) : (s.report u i code items).pic = s.pic :=
  reportSub_pic ..
@[simp] theorem report_tri (s : State) (u : UType) (i code : Nat) (items : List (Nat × Nat)) : (s.report u i code items).tri = s.tri :=
  reportSub_tri ..
@[simp] theorem report_light (s : State) (u : UType) (i code : Nat) (items : List (Nat × Nat)) : (s.report u i code items).light = s.light :=
  reportSub_light ..
@[simp] theorem report_hel (s : State) (u : UType) (i code : Nat) (items : List (Nat × Nat)) : (s.report u i code items).hel = s.hel :=
  reportSub_hel ..
@[simp] theorem report_dp (s : State) (u : UType) (i code : Nat) (items : List (Nat × Nat)) : (s.report u i code items).dp = s.dp :=
  reportSub_dp ..
@[simp] theorem report_mem (s : State) (u : UType) (i code : Nat) (items : List (Nat × Nat)) : (s.report u i code items).mem = s.mem :=
  reportSub_mem ..
@[simp] theorem report_trn (s : State) (u : UType) (i code : Nat) (items : List (Nat × Nat)) : (s.report u i code items).trn = s.trn :=
  reportSub_trn ..
@[simp] theorem report_eph (s : State) (u : UType) (i code : Nat) (items : List (Nat × Nat)) : (s.report u i code items).eph = s.eph :=
  reportSub_eph ..
@[simp] theorem report_alm (s : State) (u : UType) (i code : Nat) (items : List (Nat × Nat)) : (s.report u i code items).alm = s.alm :=
  reportSub_alm ..
@[simp] theorem report_arc (s : State) (u : UType) (i code : Nat) (items : List (Nat × Nat)) : (s.report u i code items).arc = s.arc :=
  reportSub_arc ..
@[simp] theorem report_host (s : State) (u : UType) (i code : Nat) (items : List (Nat × Nat)) : (s.report u i code items).host = s.host :=
  reportSub_host ..
@[simp] theorem report_chn (s : State) (u : UType) (i code : Nat) (items : List (Nat × Nat)) : (s.report u i code items).chn = s.chn :=
  reportSub_chn ..
@[simp] theorem report_par (s : State) (u : UType) (i code : Nat) (items : List (Nat × Nat)) : (s.report u i code items).par = s.par :=
  reportSub_par ..
@[simp] theorem report_obs (s : State) (u : UType) (i code : Nat) (items : List (Nat × Nat)) : (s.report u i code items).obs = s.obs :=
  reportSub_obs ..
@[simp] theorem report_heldPermit (s : State) (u : UType) (i code : Nat) (items : List (Nat × Nat)) : (s.report u i code items).heldPermit = s.heldPermit :=
  reportSub_heldPermit ..
@[simp] theorem report_retries (s : State) (u : UType) (i code : Nat) (items : List (Nat × Nat)) : (s.report u i code items).retries = s.retries :=
  reportSub_retries ..

theorem report_rd (s : State) (u : UType) (i code : Nat) (items : List (Nat × Nat)) {f : Fld} {j : Nat} (hs : f.part ≠ .status)
    (hl : f.part ≠ .reg .log) (hh : f ≠ .chr .heldWake) : (s.report u i code items).rd f j = s.rd f j := reportSub_rd _ _ _ _ _ _ hs hl hh

theorem report_errcnt (s : State) (u : UType) (i code : Nat) (items : List (Nat × Nat)) (hf : s.fusedOff u i = false) :
    (s.report u i code items).rd (.st u .errcnt) i = satN 16 (s.rd (.st u .errcnt) i + 1) := reportSub_errcnt _ _ _ _ _ _ hf

theorem report_lastclass (s : State) (u : UType) (i code : Nat) (items : List (Nat × Nat)) (hf : s.fusedOff u i = false) (h : code < 0x8000) :
    (s.report u i code items).rd (.st u .lastclass) i = code / 4096 := reportSub_lastclass _ _ _ _ _ _ hf h

end Sys2Proof.Machine.State
end

