-- ==== Sys2Proof/Laws/Memory.lean ====
section
/-! SUPPORT. Laws of the byte memories: a read after a write, and the canonical form that every write keeps. -/

namespace Sys2Proof.Machine

/-- Every listed address is at least n. -/
def cellsFrom (n : Nat) (m : List Host.Cell) : Prop := ∀ c ∈ m, n ≤ c.1

theorem memory_wf_cons {c : Host.Cell} {m : List Host.Cell} :
    Memory.wf (c :: m) = true ↔ c.2 ≠ 0 ∧ cellsFrom (c.1 + 1) m ∧ Memory.wf m = true := by
  induction m generalizing c with
  | nil => simp [Memory.wf, cellsFrom]
  | cons d m ih =>
    simp only [Memory.wf, Bool.and_eq_true, decide_eq_true_eq, bne_iff_ne, ne_eq, ih]
    constructor
    · rintro ⟨⟨h1, h2⟩, h3⟩
      refine ⟨h1, fun x hx => ?_, h3⟩
      rcases List.mem_cons.1 hx with rfl | hx
      · exact h2
      · have := h3.2.1 x hx; omega
    · rintro ⟨h1, h2, h3⟩
      exact ⟨⟨h1, by have := h2 d (by simp); omega⟩, h3⟩

theorem cellGet_of_cellsFrom {n a : Nat} {m : List Host.Cell} (h : cellsFrom n m) (ha : a < n) : cellGet m a = 0 := by
  induction m with
  | nil => rfl
  | cons c m ih =>
    have hc := h c (by simp)
    have hn : ¬ c.1 = a := by omega
    simp only [cellGet, beq_iff_eq, hn, if_false]
    exact ih fun x hx => h x (by simp [hx])

theorem mem_cellSet {a : Nat} {b : Byte} {m : List Host.Cell} {x : Host.Cell} (h : x ∈ cellSet m a b) : x = (a, b) ∨ x ∈ m := by
  induction m with
  | nil =>
    simp only [cellSet] at h
    split at h
    · simp at h
    · exact .inl (List.mem_singleton.1 h)
  | cons c m ih =>
    simp only [cellSet] at h
    split_ifs at h
    · exact .inr h
    · exact List.mem_cons.1 h
    · exact .inr (List.mem_cons_of_mem _ h)
    · exact (List.mem_cons.1 h).imp_right (List.mem_cons_of_mem _)
    · rcases List.mem_cons.1 h with rfl | h
      · exact .inr (List.mem_cons_self ..)
      · exact (ih h).imp_right (List.mem_cons_of_mem _)

theorem cellsFrom_cellSet {n a : Nat} {b : Byte} {m : List Host.Cell} (h : cellsFrom n m) (ha : n ≤ a) : cellsFrom n (cellSet m a b) :=
  fun x hx => (mem_cellSet hx).elim (fun e => by rw [e]; exact ha) (h x)

/-- Writing a byte keeps the canonical form. -/
theorem memory_wf_cellSet {a : Nat} {b : Byte} {m : List Host.Cell} (h : Memory.wf m = true) : Memory.wf (cellSet m a b) = true := by
  induction m with
  | nil =>
    simp only [cellSet]
    split <;> simp_all [Memory.wf]
  | cons c m ih =>
    have hc := memory_wf_cons.1 h
    simp only [cellSet]
    split_ifs with h1 h2 h3 h4
    · exact h
    · refine memory_wf_cons.2 ⟨by simpa using h2, fun x hx => ?_, h⟩
      rcases List.mem_cons.1 hx with rfl | hx
      · exact h1
      · have := hc.2.1 x hx; simp only; omega
    · exact hc.2.2
    · have e : a = c.1 := by simpa using h3
      subst e
      exact memory_wf_cons.2 ⟨by simpa using h4, hc.2.1, hc.2.2⟩
    · have e : ¬ a = c.1 := by simpa using h3
      exact memory_wf_cons.2 ⟨hc.1, cellsFrom_cellSet hc.2.1 (by omega), ih hc.2.2⟩

/-- A byte reads back as written. -/
theorem cellGet_cellSet_same {a : Nat} {b : Byte} {m : List Host.Cell} (h : Memory.wf m = true) : cellGet (cellSet m a b) a = b := by
  induction m with
  | nil =>
    simp only [cellSet]
    split <;> simp_all [cellGet]
  | cons c m ih =>
    have hc := memory_wf_cons.1 h
    simp only [cellSet]
    split_ifs with h1 h2 h3 h4
    · have e : b = 0 := by simpa using h2
      subst e
      refine cellGet_of_cellsFrom (n := c.1) (fun x hx => ?_) h1
      rcases List.mem_cons.1 hx with rfl | hx
      · exact Nat.le_refl _
      · have := hc.2.1 x hx; omega
    · simp [cellGet]
    · have e : a = c.1 := by simpa using h3
      have e2 : b = 0 := by simpa using h4
      subst e2
      exact cellGet_of_cellsFrom hc.2.1 (by omega)
    · simp [cellGet]
    · have e : ¬ c.1 = a := fun e => h3 (by simp [e])
      simp only [cellGet, beq_iff_eq, e, if_false]
      exact ih hc.2.2

/-- A write leaves every other byte alone. -/
theorem cellGet_cellSet_ne {a x : Nat} {b : Byte} {m : List Host.Cell} (hx : x ≠ a) : cellGet (cellSet m a b) x = cellGet m x := by
  induction m with
  | nil =>
    simp only [cellSet]
    split
    · rfl
    · simp [cellGet, Ne.symm hx]
  | cons c m ih =>
    simp only [cellSet]
    split_ifs with h1 h2 h3 h4
    · rfl
    · simp [cellGet, Ne.symm hx]
    · have e : ¬ c.1 = x := fun e => hx (by rw [← e]; simpa using (beq_iff_eq.1 h3).symm)
      simp [cellGet, e]
    · have e : ¬ c.1 = x := fun e => hx (by rw [← e]; simpa using (beq_iff_eq.1 h3).symm)
      simp [cellGet, e, Ne.symm hx]
    · simp only [cellGet, ih]

theorem memory_wf_cellStore {a : Nat} {bs : List Nat} {m : List Host.Cell} (h : Memory.wf m = true) : Memory.wf (cellStore m a bs) = true := by
  induction bs generalizing a with
  | nil => exact h
  | cons b bs ih => exact memory_wf_cellSet ih

/-- Bytes outside the stored ones read as before. -/
theorem cellGet_cellStore_out {a x : Nat} {bs : List Nat} {m : List Host.Cell} (hx : x < a ∨ a + bs.length ≤ x) :
    cellGet (cellStore m a bs) x = cellGet m x := by
  induction bs generalizing a with
  | nil => rfl
  | cons b bs ih =>
    have hl : (b :: bs).length = bs.length + 1 := rfl
    simp only [cellStore]
    rw [cellGet_cellSet_ne (by omega), ih (by omega)]

/-- Every stored byte reads back. -/
theorem cellGet_cellStore_in {a i : Nat} {bs : List Nat} {m : List Host.Cell} (h : Memory.wf m = true) (hi : i < bs.length) :
    cellGet (cellStore m a bs) (a + i) = BitVec.ofNat 8 (bs.getD i 0) := by
  induction bs generalizing a i with
  | nil => simp at hi
  | cons b bs ih =>
    simp only [cellStore]
    cases i with
    | zero => simpa using cellGet_cellSet_same (memory_wf_cellStore h)
    | succ i =>
      rw [cellGet_cellSet_ne (by omega)]
      have := ih (a := a + 1) (i := i) (by simpa using hi)
      rw [show a + (i + 1) = a + 1 + i by omega, this]
      simp

theorem memory_wf_filter {m : List Host.Cell} {p : Host.Cell → Bool} (h : Memory.wf m = true) : Memory.wf (m.filter p) = true := by
  induction m with
  | nil => rfl
  | cons c m ih =>
    have hc := memory_wf_cons.1 h
    simp only [List.filter]
    split
    · exact memory_wf_cons.2 ⟨hc.1, fun x hx => hc.2.1 x (List.mem_filter.1 hx).1, ih hc.2.2⟩
    · exact ih hc.2.2

theorem memory_wf_foldl {α : Type} {g : List Host.Cell → α → List Host.Cell} {l : List α} {m : List Host.Cell} (h : Memory.wf m = true)
    (k : ∀ x y, Memory.wf x = true → Memory.wf (g x y) = true) : Memory.wf (l.foldl g m) = true := by
  induction l generalizing m with
  | nil => exact h
  | cons y l ih => exact ih (k m y h)

end Sys2Proof.Machine
end

