-- ==== Sys2Proof/WellFormed.lean ====
section
/-! DEFINITION. Well-formed commands: operands within the ranges that the manual gives the access, message or measurement. -/

namespace Sys2Proof

open Machine

/-- An aligned word of BAR0 (R377, R438). -/
def barWord (a : Nat) : Bool := a % 4 == 0 && decide (a < 2 ^ 26)

/-- A unit exists: its index lies within the status words of its type (R16, R438). -/
def unitOk (u : UType) (i : Nat) : Bool := decide (i < (u.statusPlace.2.map Prod.fst).foldl (· * ·) 1)

/-- DATA of an event: widths of R470, at most 12 bytes in all. -/
def itemsOk (items : List (Nat × Nat)) : Bool :=
  items.all (fun x => x.1 == 1 || x.1 == 2 || x.1 == 4 || x.1 == 8) && decide ((items.map Prod.fst).sum ≤ 12)

/-- A mailbox request: TAG of 16 bits, an address of 64 bits, a length of 32 bits (R383). -/
def mailOk (m : MailReq) : Bool := decide (m.tag < 2 ^ 16) && decide (m.haddr < 2 ^ 64) && decide (m.hlen < 2 ^ 32)

/-- A start-up report: its last step is one of R366's, and the domains and pseudo-channels that it names exist. -/
def reportOk (r : StartReport) : Bool := decide (r.upto ≤ 9) && r.powerBad.all (fun d => decide (d < 50)) && decide (r.hbmBad < 2 ^ 16)

/-- The operands of a command are within their ranges. -/
def Instr.wf (i : Instr) : Bool :=
  match i with
  | .registerWrite _ addr _ => barWord addr
  | .bar0BadAccess _ addr len _ => decide (addr < 2 ^ 26) && !(addr % 4 == 0 && len == 4)
  | .wideLowRead _ addr => barWord addr
  | .rcRead _ addr => barWord addr
  | .retirePop .. => true
  | .fatalClear _ u i => unitOk u i
  | .cntclr _ u i => unitOk u i
  | .applyErrClear .. => true
  | .unitFatalFault _ u i sub code items => unitOk u i && decide (sub < 256) && decide (code < 64) && itemsOk items
  | .d2dCrcRetry .. => true
  | .d2dLinkFailure .. => true
  | .isoWordDiscard .. => true
  | .ephUploadBegin _ m _ _ => mailOk m
  | .ephUploadPage _ m _ data _ => mailOk m && data.length == 4096
  | .ephUploadEnd _ m _ _ _ _ => mailOk m
  | .ephActivate _ m _ => mailOk m
  | .ephSwap _ m _ => mailOk m
  | .ephReselect _ m => mailOk m
  | .fullReload _ r => (match r with | some r => reportOk r | none => true)
  | .presetGo .. => true
  | .dbgUnlock _ m token _ => mailOk m && decide (token.length ≤ 4096)
  | .dbgLock _ m => mailOk m
  | .debugUnlockExpiry .. => true
  | .dpLinkTraining .. => true
  | .dpFrameComplete _ _ w h _ data => data.px.length == w * h
  | .dpFrameDiscard .. => true
  | .dpInputLost .. => true
  | .dpPsrChange .. => true
  | .dpPsr2Update .. => true
  | .hostHbmWrite _ off data => decide (off + data.bytes.length ≤ 2 ^ 34)
  | .hostHbmRead _ off len _ => decide (off + len ≤ 2 ^ 34)
  | .bar4Write _ off data => decide (off + data.bytes.length ≤ 2 ^ 27)
  | .bar4Read _ off len _ => decide (off + len ≤ 2 ^ 27)
  | .layerReadError _ _ _ addr => decide (addr < 2 ^ 34)
  | .fetchLate .. => true
  | .fenceGo .. => true
  | .fenceDone .. => true
  | .tableWindowWrite _ addr _ => barWord addr
  | .meshLoadGo .. => true
  | .meshLoadComplete .. => true
  | .tableParityError .. => true
  | .schedWindowWrite _ addr _ => barWord addr
  | .schedCheckGo .. => true
  | .schedCheckDone .. => true
  | .meridian .. => true
  | .commitRequest .. => true
  | .commitCancel .. => true
  | .frameStart .. => true
  | .segmentStart .. => true
  | .planeReset _ _ first last _ => decide (first ≤ last) && decide (last < 64)
  | .settleComplete _ _ first _ => decide (first < 64)
  | .aWindowStart .. => true
  | .tailStart .. => true
  | .frameClose .. => true
  | .heldWake .. => true
  | .freshnessDeadlineWake .. => true
  | .planeBandRead .. => true
  | .fallbackExtraction .. => true
  | .blockSend .. => true
  | .blockTrailerSent .. => true
  | .echo _ _ m => m.length == 12
  | .echoTimeout .. => true
  | .rsack _ _ m => m.length == 12
  | .rsackTimeout .. => true
  | .status _ _ m => m.length == 12
  | .temp _ _ m => m.length == 12
  | .alarm _ _ m => m.length == 12
  | .ident0 _ _ m => m.length == 12
  | .ident1 _ _ m => m.length == 12
  | .train _ _ m => m.length == 12
  | .returnLaneLockLoss .. => true
  | .statusTimeout .. => true
  | .laneRetire .. => true
  | .laneRetrain .. => true
  | .laneRetrainDone .. => true
  | .triocBringup _ _ r => r.rx.length == 17 && r.skew.length == 17 && r.taps.length == 17 && r.ident0.length == 12 && r.ident1.length == 12
  | .interlockTrip .. => true
  | .interlockRearm .. => true
  | .outputStop .. => true
  | .outputRearm .. => true
  | .channelRearm .. => true
  | .diagnow .. => true
  | .thermistorSample _ _ _ raw _ => decide (raw < 2 ^ 12)
  | .lampFrameSend .. => true
  | .faultWindow _ _ _ pd vstr _ => decide (pd < 2 ^ 14) && decide (vstr < 2 ^ 12)
  | .wearRotation .. => true
  | .heliostatSample _ _ _ code => (match code with | some v => decide (v < 2 ^ 14) | none => true)
  | .slotOutputWrite .. => true
  | .satfaultClear .. => true
  | .colourSensorTxn .. => true
  | .colourResultReady _ _ _ data => decide (data.length ≤ 32)
  | .reaffirmLayer .. => true
  | .reaffirmTileList .. => true
  | .reaffirmListReadDone .. => true
  | .tileTableParityError .. => true
  | .hbmDetectionError _ addr _ => decide (addr < 2 ^ 34)
  | .hbmWriteParityError _ addr _ => decide (addr < 2 ^ 34)
  | .regionFreeze _ _ _ addr _ _ => decide (addr < 2 ^ 34)
  | .freezeRequest .. => true
  | .freezeSnapshotDone .. => true
  | .recover .. => true
  | .recoveryDone .. => true
  | .freqChangeRequest .. => true
  | .freqChangeDone .. => true
  | .pcPowerDown .. => true
  | .pcPowerDownExit .. => true
  | .selfRefreshEntry .. => true
  | .hbmRefresh .. => true
  | .scrubRead .. => true
  | .trainingGo .. => true
  | .trainingAbort .. => true
  | .gatherBurstEnd .. => true
  | .gatherBurstStart .. => true
  | .stagedResultApply .. => true
  | .stagedResultExpiry .. => true
  | .scheduledTraining .. => true
  | .almRawRead _ m _ _ => mailOk m
  | .almRawWrite _ m _ data => mailOk m && decide (data.length ≤ 4096)
  | .objectStore .. => true
  | .checkpoint .. => true
  | .checkpointNow .. => true
  | .errorReport _ u i sub cls _ items => unitOk u i && decide (sub < 256) && cls.val != 0 && itemsOk items
  | .queueDrain .. => true
  | .logTriggerHost .. => true
  | .logFreeze .. => true
  | .logbookSaveDone .. => true
  | .logRelease .. => true
  | .logSlotRead _ m _ => mailOk m
  | .driveAttach .. => true
  | .nvmeCommandTimeout .. => true
  | .smartPoll .. => true
  | .archiveSampleTick .. => true
  | .ringSample .. => true
  | .ringFlushDone .. => true
  | .archiveFlushTick .. => true
  | .archiveFlushDone .. => true
  | .logbookArchiveCopy .. => true
  | .archiveResume .. => true
  | .arcQuery _ m => mailOk m
  | .arcRead _ m _ => mailOk m
  | .arcAnchor _ m => mailOk m
  | .arcInit _ m _ => mailOk m
  | .startup _ r => reportOk r
  | .powerFail _ vin _ _ => decide (vin < 2 ^ 16)
  | .overvoltage _ vin _ _ => decide (vin < 2 ^ 16)
  | .resetIn .. => true
  | .holdupTimeout .. => true
  | .powerGoodTimeout .. => true
  | .pllLockLoss .. => true
  | .frontendRelockTimeout .. => true
  | .refclkValid .. => true
  | .refclkLost .. => true
  | .standbyEnter .. => true
  | .tjSample .. => true
  | .powerShedStep .. => true
  | .pcieReset .. => true
  | .pcieLinkLoss .. => true
  | .evrModerationTimeout .. => true
  | .version _ m => mailOk m
  | .fwUpdateBegin _ m _ => mailOk m
  | .fwUpdatePage _ m _ data _ => mailOk m && data.length == 4096
  | .fwUpdateEnd _ m _ => mailOk m
  | .tagRead _ m _ => mailOk m
  | .tagWrite _ m _ data => mailOk m && decide (data.length ≤ 4096)
  | .telemetry _ m => mailOk m
  | .smbusStatusRead .. => true
  | .smbusTagRead .. => true
  | .smbusStandby .. => true
  | .smbusWake _ _ _ r => reportOk r
  | .smbusThermalRestart _ _ _ r => reportOk r
  | .uartReceive .. => true
  | .headElection .. => true
  | .enumTick .. => true
  | .enum _ m => m.bytes.length == 18 && m.tag.all fun b => b.length == 256
  | .enumdone _ m => m.length == 18
  | .pingTick .. => true
  | .ping _ m _ => m.length == 18
  | .pong _ m _ => m.length == 18
  | .timeTick .. => true
  | .time _ m _ _ => m.length == 18
  | .timeTimeout .. => true
  | .wallTimeSet .. => true
  | .fsyncTick .. => true
  | .fsync _ m => m.length == 18
  | .chainLaneChange .. => true
  | .coherentArm .. => true
  | .armResend .. => true
  | .arm _ m => m.length == 18
  | .commitDecision .. => true
  | .go _ m => m.length == 18
  | .defer _ m => m.length == 18
  | .abort _ m => m.length == 18
  | .trig _ m _ => m.length == 18
  | .chainWakeSend .. => true
  | .wake _ m _ r => m.length == 18 && reportOk r
  | .hb .. => true
  | .hbSend .. => true
  | .heartbeatLoss .. => true
  | .mark .. => true
  | .id .. => true
  | .pend .. => true
  | .crcrep .. => true
  | .map .. => true
  | .chstate .. => true
  | .take .. => true
  | .xfatal .. => true
  | .transitLaneDrop .. => true
  | .handover .. => true
  | .takeoverSwitch .. => true
  | .selPeerChange .. => true
  | .roleTimeout .. => true
  | .selRetryTimeout .. => true
  | .loadWindow _ load => decide (load ≤ 100)
  | .watchdogExpiry .. => true
  | .observerBootDone .. => true
  | .observerFatalClear .. => true
  | .layerFetchDone .. => true
  | .railOutOfRegulation .. => true
  | .pllRelock .. => true
  | .pcieLinkUp .. => true
  | .pcieConfigWrite .. => true
  | .transitLinkUp .. => true
  | .nvmeLinkDown .. => true
  | .nvmeCommandComplete .. => true
  | .dpAuxTransaction .. => true
  | .pwmPeriod .. => true
  | .flashEraseDone .. => true

end Sys2Proof
end

