-- ==== Sys2Proof/Tests/Slice0.lean ====
section
/-! SUPPORT. The model's own tests: worked examples of the spec, an ill-formed command for each check of WellFormed, and for every statement
with hypotheses a state and operands that meet the hypotheses of each of its clauses (theorems `wit_…`). -/

namespace Sys2Proof.Tests

open Machine

/-! ### States -/

/-- The reset state with registers set. -/
def st (l : List (Fld × Nat × Nat)) : State := l.foldl (fun s x => s.wr x.1 x.2.1 x.2.2) State.reset
/-- A running module: every domain on, every PLL locked. -/
def up (l : List (Fld × Nat × Nat)) : State :=
  st ([(.pwr .domOnOn, 0, 2 ^ 50 - 1), (.pwr .stateStep, 0, 9), (.pwr .stateState, 0, 1), (.pwr .pllLock, 0, 255)] ++ l)
/-- A partition at the start of HBM. -/
def part0 : Partition := ⟨0, 4096, 1, 0, 0, 0, none⟩
/-- A frame on its way to the array, composed for output 1. -/
def frame0 : FrameRec :=
  { num := 0, mtime := 0, mclk := 0, kind := .composed, skind := 0, sched := ⟨readHeader fun _ => 0, []⟩, page := 0, marked := [], stale := [], crcs := [],
    flags := ⟨[], [], []⟩, forced := false, lightoff := false, asupp := false, dark := false, cleared := false, dim := 65536, badBands := [],
    placeBase := 0 }
/-- Output 1 composes a frame whose layer 2 fetches. -/
def fetching : State := ((up []).modPic 1 fun p => { p with frames := [frame0] }).modLayer 1 2 fun x => { x with window := true }
/-- Receiver 1 in PSR2 with a frame. -/
def psr : State := (up [(.dpr .linkUp, 1, 1), (.dpr .linkPsr, 1, 2)]).modDp 1 fun d => { d with frames := [⟨0, 0, 0, 2, 1, 0⟩] }
/-- A mesh load of output 1 into page 1 runs. -/
def meshing : State := (up [(.geo .meshLoadBusy, 1, 1)]).modPic 1 fun p => { p with meshLoad := some ⟨1, 256, 2⟩ }
/-- Layer 2 of output 1 holds a lease and is of a class. -/
def leased (cls : Nat) : State := (up [(.pix .layerCfgClass, 10, cls), (.pix .layerCfgSrc, 10, 0)]).modLayer 1 2 fun x => { x with lease := some ⟨0, 255, 0, 0⟩ }
/-- Slot 2 of output 1 runs on its period, with a measurement of the photodiode or of none. -/
def slotOn (mtype : Nat) : State :=
  { up [(.hel .slotCtrlEn, 18, 1), (.hel .trigTmode, 18, 1), (.hel .routeMtype, 18, mtype)] with insts := [(.slot, 18)] }.modSlot 1 2 fun x => { x with gridAt := 5 }
/-- The colour sensor of output 1 runs. -/
def sensor : State := up [(.hel .csCfgEn, 1, 1)]
/-- Engine 1 has staged a result. -/
def staged : State := (up []).modEng 1 fun e => { e with staged := some ⟨0, 3, 1, 0, [4], 2⟩ }
/-- A mailbox request with tag 7. -/
def mr : MailReq := ⟨7, 64, 4096⟩
/-- An empty section of a type. -/
def sec0 (type flags : Nat) : Section := ⟨type, flags, 4096, 0, 0, sha384 [], true⟩
/-- A signed image of empty sections; `patch` is bit 0 of FLAGS. -/
def image0 (patch : Nat) (secs : List Section) : Image :=
  { bytes := List.replicate (64 + 64 * secs.length) 0 ++ List.replicate 96 1 ++ List.replicate 32 0
    hdr := { magic := imageMagic, fmt := 1, flags := patch, keyslot := 0, part := 0x4800, clmask := 0, rsvd := 0, length := 8192, arb := 0,
             seccount := secs.length, build := 0, imageId := List.replicate 16 0, baseId := List.replicate 16 0 }
    secs := secs, signs := none, plan := Plan.empty }
/-- The image with a signature of the factory key that binds it. -/
def signed0 (im : Image) : Image := { im with signs := some ⟨im.digest, 0⟩ }
/-- A full image with every required section. -/
def full0 : Image := signed0 (image0 0 (requiredSections.map fun t => sec0 t (if liveSection t then 2 else 0)))
/-- A patch of the schedules. -/
def patch0 : Image := signed0 (image0 1 [sec0 3 2])
/-- A token that opens the debug port for a minute. -/
def token0 : List Byte := [0x44, 0x42, 0x47, 0x54] ++ List.replicate 16 0 ++ [3, 0, 0, 0, 60, 0, 0, 0] ++ List.replicate 100 0
/-- What a signature of that token by the factory key binds. -/
def sign0 : Option Signed := some ⟨sha384 ((token0.map BitVec.toNat).take 32), 0⟩
/-- An archive drive that meets the requirements. -/
def drive0 (a : Option Superblock) : Drive := ⟨256000000000, 9, false, 131072, true, 4, 4, a, none, [], []⟩
/-- A superblock of the module's own archive. -/
def super0 : Superblock := ⟨9, 3813, 256000000000, 0, 0, 0, 1, 0, 0⟩
/-- A start-up report of a good start up to a step. -/
def start0 (upto : Nat) : StartReport :=
  { vin := 12000, upto := upto, counting := false, startAt := 3, refclk := some 0, holdup := 6000, flashBad := none, fetchBad := [], powerBad := [], hbmBad := 0, taps := [],
    links := [], adc := [] }
/-- The bytes of a message with its CRC. -/
def msg (n : Nat) (l : List Nat) : List Byte :=
  let b := (l ++ List.replicate n 0).take (n - 2)
  (b ++ leBytes 2 (crc16 b)).map (BitVec.ofNat 8)
/-- A schedule of one segment: two T-planes and six A-planes. -/
def sched0 : Schedule :=
  { hdr := { kind := 0, nseg := 1, nent := 10, da := 64, settle := 1600, period := 100000, dump := 4800, bands := 2, minlanes := 1, splitq := 0,
             tform := false, tail := 0 }
    ents := [⟨1, 1, 0, 0, 0, false, false, 0⟩, ⟨2, 1, 15, 0, 0, true, false, 50⟩, ⟨2, 1, 14, 0, 0, true, false, 25⟩]
      ++ (List.range 6).map (fun i => ⟨4, 1, 5 - i, 0, 0, true, false, 0⟩) ++ [⟨0, 0, 0, 0, 0, false, false, 0⟩] }
/-- The frame on display in output 1. -/
def frame1 : FrameRec := { frame0 with num := 1, sched := sched0 }
/-- Output 1 shows a frame: in its first segment, over a working link. -/
def showing : State :=
  { ((((up [(.chr .showFrame, 1, 1), (.tri .stateLink, 1, 2), (.tri .stateWorking, 1, 0x1FFFF)]).modPic 1 fun p => { p with frames := [frame1] }).modChr 1
      fun h => { h with running := true, seg := 1 }).modTri 1 fun t => { t with active := [0, 1] })
    with cfg := (Vector.replicate 4 OutCfg.reset).set 1 { OutCfg.reset with present := true, w := 8, h := 2, bands := 2, cache := 8, settle := 1600 } }
/-- A block sent to the array of output 1. -/
def blk0 : SentBlock :=
  { hdr := ⟨false, true, 9, 0, 0, 0, 0, 1, 1⟩, payload := [7], frame := 1, prim := 1, bitn := 15, lane := 3, trailerAt := 4, padOk := none, echoOk := none,
    echoAt := 0, echoCrc := none, pathFault := false, resetAt := 90000 }
/-- The block is under way. -/
def sending : State := showing.modTri 1 fun t => { t with blocks := [blk0] }
/-- A reset awaits its acknowledgement. -/
def ack0 : PendingAck := ⟨9, 0, 1, 0, 1, false, 4⟩
def awaiting : State := showing.modTri 1 fun t => { t with acks := [ack0] }
/-- Output 1 shows light of channel 2. -/
def lit : State := (((showing.wr (.lsr .chStateState) 8 3).wr (.lsr .intlkTripped) 1 0).modLight 1 fun l => { l with segPrim := 1, segDim := Vector.replicate 3 65535 })
/-- The identity of an array, and the output of it. -/
def ident0 : List Nat := [6, 4, 0, 1, 8, 2, 100, 0, 10]
def bringing : State :=
  { up [] with cfg := (Vector.replicate 4 OutCfg.reset).set 1
                 { OutCfg.reset with present := true, w := 512, h := 256, bands := 8, cache := 2, settle := 1600, cmdlat := 160 } }
/-- The head of the chain, at address 1. -/
def head1 (l : List (Fld × Nat × Nat)) : State := up ([(.chn .addrAddr, 0, 1), (.chn .addrHead, 0, 1)] ++ l)
/-- A module at address 3 of the chain. -/
def third (l : List (Fld × Nat × Nat)) : State := up ([(.chn .addrAddr, 0, 3)] ++ l)
/-- A module of a pair whose Transit link is up. -/
def paired (role : Nat) (l : List (Fld × Nat × Nat)) : State :=
  (up ([(.par .statRole, 0, role)] ++ l)).modPar fun p => { p with linkUp := true, txLanes := 15, rxLanes := 15 }

/-! ### Worked examples of the spec -/

/-- The check value of R257. -/
theorem test_crc64 : crc64 [0x31, 0x32, 0x33, 0x34, 0x35, 0x36, 0x37, 0x38, 0x39] = 0x6C40DF5F0B497347 := by decide +kernel

/-- 01_module_architecture.md: emitter 17 in the green standby bank of cluster 2; ADDR 11 makes it 0x2F8F_0311. -/
theorem test_source_path : pathOf .lsrCh (chanInst 2 3) 17 + 11 * 2 ^ 26 = 0x2F8F0311 := by decide +kernel

/-- 19_register_map.md: KI of slot 9 in cluster 2, PLT_FB_CFG[3], HBM_PC_CNT[11]. -/
theorem test_addresses : Fld.addr (.hel .coefC) (slotInst 2 9 * 8 + 7) = 0x18405BC ∧ Fld.addr (.plt .fbCfgLayer) 3 = 0x2410060
    ∧ Fld.addr (.hbm .pcCntDeterr) 11 = 0x2400138 := by decide +kernel

/-- The address of KI of slot 9 in cluster 2 decodes to that field alone. -/
theorem test_fields_at : fieldsAt 0x18405BC = [(.hel .coefC, slotInst 2 9 * 8 + 7, 0)] := by decide +kernel

/-- 05_bit_planes.md: the dwells, in units of D_A, of a segment of the 240 Hz reference schedule. -/
def refBody : List SchedEntry :=
  [(15, 0, 256), (13, 0, 128), (11, 0, 32), (9, 0, 8), (7, 0, 2), (14, 0, 128), (15, 1, 256), (12, 0, 64), (10, 0, 16), (8, 0, 4), (6, 0, 1), (14, 1, 128)].map
    fun x => ⟨2, 0, x.1, x.2.1, 0, true, false, 64 * x.2.2⟩
/-- The header of the 240 Hz reference schedule. -/
def refHdr : SchedHeader :=
  { kind := 0, nseg := 3, nent := 61, da := 1920, settle := 6400, period := 6666667, dump := 80000, bands := 16, minlanes := 16, splitq := 0,
    tform := false, tail := 0 }
/-- 05_bit_planes.md: T_T = 2,047,360 CCLK and T_seg = 2,097,280 CCLK. -/
theorem test_segment_length : tPortion refHdr refBody = 2047360 ∧ segLen refHdr refBody = 2097280 := by decide +kernel

/-- 04_geometry_and_colour.md: the corrected red row, and a red pixel through it. -/
theorem test_matrix : mtxCoef true 65536 (-5243) 0x20000000 = (64225, false) ∧ mtxCoef true 0 2621 0x20000000 = (655, false)
    ∧ mtxRow 64225 655 0 ⟨40000, 20000, 10000⟩ = (39400, false) := by decide +kernel

/-- 09_heliostat_engine.md: the ramp from 0.5 towards 0.6, and the two samples after 0.52 is asked for. -/
theorem test_ramp : helRamp (2 ^ 24) (2 ^ 30) 1288490189 = (2 ^ 30 + 2 ^ 24, true)
    ∧ helRamp (2 ^ 24) (2 ^ 30 + 4 * 2 ^ 24) 1116691497 = (2 ^ 30 + 3 * 2 ^ 24, true)
    ∧ helRamp (2 ^ 24) (2 ^ 30 + 3 * 2 ^ 24) 1116691497 = (1116691497, false) := by decide +kernel

/-- 14_plate_archive.md: a 2 TB drive has 29,801 extents. -/
theorem test_extents : extentCount 2000000000000 = 29801 := by decide +kernel

/-- 13_almanac_and_logbook.md: a 40-byte write at 0x0F_00F0. -/
theorem test_raw_wrap : rawAddrs 0x0F00F0 40 = (List.range 16).map (0x0F00F0 + ·) ++ (List.range 24).map (0x0F0000 + ·) := by decide +kernel

/-! ### Ill-formed commands -/

/-- A mailbox request whose TAG has 17 bits. -/
def badMail : MailReq := ⟨2 ^ 16, 0, 0⟩

/-- Commands that the checks of a list of commands all refuse. -/
def refused (l : List Instr) : Bool := l.all fun i => !i.wf

theorem test_wf_words : refused [.registerWrite 0 2 0, .wideLowRead 0 2, .rcRead 0 2, .tableWindowWrite 0 2 0, .schedWindowWrite 0 2 0,
    .registerWrite 0 (2 ^ 26) 0, .bar0BadAccess 0 4 4 true, .bar0BadAccess 0 (2 ^ 26) 1 true] = true := by decide +kernel

theorem test_wf_units : refused [.fatalClear 0 .obs 1, .cntclr 0 .chr 4, .unitFatalFault 0 .obs 1 0 0 [], .unitFatalFault 0 .obs 0 256 0 [],
    .unitFatalFault 0 .obs 0 0 64 [], .unitFatalFault 0 .obs 0 0 0 [(3, 0)], .errorReport 0 .obs 1 0 1 0 [], .errorReport 0 .obs 0 256 1 0 [],
    .errorReport 0 .obs 0 0 0 0 [], .errorReport 0 .obs 0 0 1 0 [(8, 0), (8, 0)]] = true := by decide +kernel

theorem test_wf_mail : refused [.version 0 badMail, .version 0 ⟨0, 2 ^ 64, 0⟩, .version 0 ⟨0, 0, 2 ^ 32⟩, .ephUploadBegin 0 badMail 0 1,
    .ephUploadPage 0 badMail 0 (List.replicate 4096 0) true, .ephUploadPage 0 ⟨0, 0, 0⟩ 0 [] true, .ephUploadEnd 0 badMail none [] Plan.empty true,
    .ephActivate 0 badMail ⟨0, []⟩, .ephSwap 0 badMail ⟨0, none⟩, .ephReselect 0 badMail, .dbgLock 0 badMail, .dbgUnlock 0 badMail [] none,
    .dbgUnlock 0 ⟨0, 0, 0⟩ (List.replicate 4097 0) none, .fwUpdateBegin 0 badMail 1, .fwUpdatePage 0 badMail 0 (List.replicate 4096 0) true,
    .fwUpdatePage 0 ⟨0, 0, 0⟩ 0 [] true, .fwUpdateEnd 0 badMail ⟨0, 0, true⟩, .tagRead 0 badMail 0, .tagWrite 0 badMail 0 [],
    .tagWrite 0 ⟨0, 0, 0⟩ 0 (List.replicate 4097 0), .telemetry 0 badMail, .almRawRead 0 badMail 0 1, .almRawWrite 0 badMail 0 [],
    .almRawWrite 0 ⟨0, 0, 0⟩ 0 (List.replicate 4097 0), .logSlotRead 0 badMail 0, .arcQuery 0 badMail, .arcRead 0 badMail (Vector.replicate 6 0),
    .arcAnchor 0 badMail, .arcInit 0 badMail 0] = true := by decide +kernel

theorem test_wf_messages : refused [.enum 0 ⟨[], none⟩, .enumdone 0 [], .ping 0 [] 0, .pong 0 [] 0, .time 0 [] 0 0, .fsync 0 [], .arm 0 [], .go 0 [],
    .defer 0 [], .abort 0 [], .trig 0 [] 0, .wake 0 [] 0 (start0 3), .wake 0 (List.replicate 18 0) 0 (start0 10), .echo 0 0 [], .rsack 0 0 [],
    .status 0 0 [], .temp 0 0 [], .alarm 0 0 [], .ident0 0 0 [], .ident1 0 0 [], .train 0 0 []] = true := by decide +kernel

theorem test_wf_memory : refused [.hostHbmWrite 0 (2 ^ 34) ⟨[0], none, 0⟩, .hostHbmRead 0 (2 ^ 34) 1 ⟨none, 0⟩, .bar4Write 0 (2 ^ 27) ⟨[0], none⟩,
    .bar4Read 0 (2 ^ 27) 1 none, .hbmDetectionError 0 (2 ^ 34) .bar2, .hbmWriteParityError 0 (2 ^ 34) true, .layerReadError 0 0 0 (2 ^ 34),
    .regionFreeze 0 0 0 (2 ^ 34) 0 0] = true := by decide +kernel

theorem test_wf_reports : refused [.startup 0 (start0 10), .smbusWake 0 0 false (start0 10), .smbusThermalRestart 0 0 false (start0 10),
    .fullReload 0 (some (start0 10)), .startup 0 { start0 1 with powerBad := [50] }, .startup 0 { start0 1 with hbmBad := 2 ^ 16 },
    .loadWindow 0 101, .powerFail 0 (2 ^ 16) none .complete, .overvoltage 0 (2 ^ 16) none .complete] = true := by decide +kernel

/-- A bring-up record of the right lengths, with a number of receiver indices. -/
def bring0 (rx skew taps id0 id1 : Nat) : BringUp :=
  ⟨true, 1, 0, List.replicate id0 0, List.replicate id1 0, List.replicate rx 0, List.replicate skew (0, 0), List.replicate taps none, 2, 0⟩

theorem test_wf_output : refused [.planeReset 0 0 2 1 none, .planeReset 0 0 0 64 none, .settleComplete 0 0 64 none, .faultWindow 0 0 0 (2 ^ 14) 0 true,
    .faultWindow 0 0 0 0 (2 ^ 12) true, .heliostatSample 0 0 0 (some (2 ^ 14)), .thermistorSample 0 0 0 (2 ^ 12) 0, .dpFrameComplete 0 0 2 1 0 ⟨.rgb10, [0], 0⟩,
    .colourResultReady 0 0 0 (List.replicate 33 0), .triocBringup 0 0 (bring0 16 17 17 12 12), .triocBringup 0 0 (bring0 17 16 17 12 12),
    .triocBringup 0 0 (bring0 17 17 16 12 12), .triocBringup 0 0 (bring0 17 17 17 11 12), .triocBringup 0 0 (bring0 17 17 17 12 11)] = true := by
  decide +kernel

/-- Well-formed commands of the same kinds pass. -/
theorem test_wf_good : ([.registerWrite 0 4 0, .bar0BadAccess 0 6 4 true, .unitFatalFault 0 .obs 0 255 63 [(8, 1), (4, 2)], .version 0 mr,
    .enum 0 ⟨List.replicate 18 0, none⟩, .echo 0 0 (List.replicate 12 0), .planeReset 0 0 0 63 none, .triocBringup 0 0 (bring0 17 17 17 12 12),
    .startup 0 (start0 9)] : List Instr).all Instr.wf = true := by decide +kernel

/-! ### Witnesses -/

/-- What holds of the cluster that an address lies in, if any. -/
theorem everyCluster {o : Option Nat} {s : State} (h : o.all (fun c => s.clusterOn c) = true) : ∀ c, o = some c → s.clusterOn c = true := by
  intro c hc
  rw [hc] at h
  exact h

/-- A sound state beside the reset state. -/
theorem goodOne : Good { State.reset with now := 1 } where
  hbm := by decide +kernel
  plate := by decide +kernel
  raw := by decide +kernel
  regs := by unfold RegsOk; decide +kernel
  log := by unfold LogOk; decide +kernel

theorem wit_IdleStep : ∃ (s : State), s.pending = [] :=
  ⟨st [], by decide +kernel⟩

theorem wit_GoodKept : ∃ (s : State) (t : State), Good s ∧ step s = .next t :=
  ⟨{ State.reset with now := 1 }, { State.reset with now := 1 }, goodOne, rfl⟩

theorem wit_StepConsumesOne : ∃ (s : State) (t : State), step s = .next t :=
  ⟨State.reset, State.reset, rfl⟩

theorem wit_BadAccessCounted : ∃ (addr : Nat) (len : Nat) (s : State), s.host.d3hot = false ∧ ¬ (addr % 4 = 0 ∧ len = 4) :=
  ⟨6, 4, st [], by decide +kernel⟩

theorem wit_WideLowLatched : ∃ (a : Nat) (s : State), a < bar0End ∧ a % 4 = 0 ∧ s.host.d3hot = false ∧ State.wideLow a = true ∧ (∀ x ∈ s.rdLatch, x.1 ≠ a) :=
  ⟨Fld.addr (.chr .frameFrame) 0, st [], by decide +kernel⟩

theorem wit_LatchedHighRead : ∃ (a : Nat) (v : Nat) (s : State), a < bar0End ∧ a % 4 = 0 ∧ s.host.d3hot = false ∧ (s.rdLatch.find? fun x => x.1 == a) = some (a, v) :=
  ⟨8, 77, {st [] with rdLatch := [(8,77)]}, by decide +kernel⟩

theorem wit_RcFieldsCleared : ∃ (a : Nat) (s : State), a < bar0End ∧ a % 4 = 0 ∧ s.host.d3hot = false ∧ (∀ x ∈ s.rdLatch, x.1 ≠ a) ∧ (∀ c, addrCluster a = some c → s.clusterOn c = true) :=
  ⟨0, st [], by decide +kernel, by decide +kernel, by decide +kernel, by decide +kernel, everyCluster (by decide +kernel)⟩

theorem wit_AccessPastBar0 :
    (∃ (addr : Nat), bar0End ≤ addr)
    ∧ (∃ (c : Instr) (s : State), AddressExists s c) :=
  ⟨⟨bar0End, by decide +kernel⟩,
   ⟨.registerWrite 0 4 0, st [], by unfold AddressExists; decide +kernel⟩⟩

theorem wit_FenceAndPowerStates :
    (∃ (s : State), s.on (.hbm .fenceBusy) 0 = true)
    ∧ (∃ (t : Nat) (p : Fin 16) (s : State), s.rd (.hbm .pcStatePwr) p = 0 ∧ s.regionStopped (p.val / 8) = false ∧ s.gathering (p.val / 2) = false ∧ s.mem.lastReq[p] + 16 * s.rd (.hbm .pwrIdle) (p.val / 8) ≤ max s.now t ∧ (s.advance t).slackOk p = true)
    ∧ (∃ (p : Fin 16) (s : State), s.rd (.hbm .pcStatePwr) p = 1)
    ∧ (∃ (t : Nat) (ch : Fin 8) (s : State), (s.regionClusters (Fin.ofNat 2 (ch.val / 4))).all (fun c => s.on (.chr .heldHeld) c) = true ∧ s.regionStopped (Fin.ofNat 2 (ch.val / 4)) = false ∧ s.gathering ch.val = false ∧ (∀ p : Fin 16, p.val / 2 = ch.val → s.mem.lastReq[p] + usCclk (s.rd (.hbm .pwrSridle) (ch.val / 4)) ≤ max s.now t)) :=
  ⟨⟨st [(.hbm .fenceBusy,0,1)], by decide +kernel⟩,
   ⟨2000000, 9, st [], by decide +kernel⟩,
   ⟨9, st [(.hbm .pcStatePwr,9,1)], by decide +kernel⟩,
   ⟨2000000, 5, st [(.chr .heldHeld,2,1),(.chr .heldHeld,3,1)], by decide +kernel⟩⟩

theorem wit_RefreshAndFrequency :
    (∃ (p : Fin 16) (s : State), s.rd (.hbm .pcStatePwr) p ≠ 2 ∧ s.mem.postponed[p] < 8)
    ∧ (∃ (p : Fin 16) (urgent : Bool) (s : State), s.rd (.hbm .pcStatePwr) p ≠ 2 ∧ (urgent = true → 8 ≤ s.mem.postponed[p]) ∧ (∀ e : Fin 6, ∀ x, s.trn.engines[e].staged = some x → ¬ (x.target ≤ 1 ∧ x.idx = p.val)))
    ∧ (∃ (p : Fin 16) (urgent : Bool) (e : Fin 6) (x : Staged) (s : State), s.rd (.hbm .pcStatePwr) p ≠ 2 ∧ (urgent = true → 8 ≤ s.mem.postponed[p]) ∧ e.val < 4 ∧ s.trn.engines[e].staged = some x ∧ x.target ≤ 1 ∧ x.idx = p.val ∧ s.regionStopped (p.val / 8) = false)
    ∧ (∃ (ch : Fin 8) (set : Fin 4) (s : State), s.on (.hbm .fcElastic) ch = true ∧ set.val < 3 ∧ set.val ≤ s.rd (.hbm .fcMinset) ch ∧ (s.rd (.hbm .rgnStatState) (ch.val / 4) = 0 ∨ s.rd (.hbm .rgnStatState) (ch.val / 4) = 3) ∧ s.on (.hbm .fcBusy) ch = false ∧ s.rd (.hbm .pcStatePwr) (2 * ch.val) ≠ 2 ∧ s.gathering ch = false)
    ∧ (∃ (ch : Fin 8) (s : State), s.on (.hbm .fcElastic) ch = false)
    ∧ (∃ (t : Nat) (set : Nat) (from' : Nat) (ch : Fin 8) (s : State), s.mem.fcBusy.find? (fun x => x.1 == ch.val) = some (ch.val, set, from') ∧ set < 4 ∧ s.mem.fcNext.find? (fun x => x.1 == ch.val) = none ∧ (s.advance t).fcBlocked ch = false) :=
  ⟨⟨9, st [], by decide +kernel⟩,
   ⟨9, false, st [], by decide +kernel⟩,
   ⟨3, false, 1, ⟨0, 3, 1, 0, [4], 2⟩, staged, by decide +kernel⟩,
   ⟨5, 2, st [(.hbm .fcElastic,5,1),(.hbm .fcMinset,5,2)], by decide +kernel⟩,
   ⟨5, st [], by decide +kernel⟩,
   ⟨5, 2, 0, 5, (st []).modMem fun m => {m with fcBusy := [(5,2,0)]}, by decide +kernel⟩⟩

theorem wit_HostHbmRead :
    (∃ (off : Nat) (len : Nat) (a : Nat) (p : Partition) (s : State), s.host.d3hot = false ∧ s.bar2Addr off = some a ∧ a + len ≤ hbmEnd ∧ ¬ (a < 2 ^ 33 ∧ 2 ^ 33 < a + len) ∧ s.partOf a = some p ∧ s.regionStopped (State.regionAt a) = false ∧ s.badBurst a len = none)
    ∧ (∃ (off : Nat) (len : Nat) (a : Nat) (o : Nat) (p : Partition) (s : State), s.host.d3hot = false ∧ s.bar2Addr off = some a ∧ a + len ≤ hbmEnd ∧ ¬ (a < 2 ^ 33 ∧ 2 ^ 33 < a + len) ∧ s.partOf a = some p ∧ s.regionStopped (State.regionAt a) = false ∧ o < len) :=
  ⟨⟨64, 4, 64, part0, (st []).modRegion 0 fun r => {r with parts := [part0]}, by decide +kernel⟩,
   ⟨64, 4, 64, 2, part0, (st []).modRegion 0 fun r => {r with parts := [part0]}, by decide +kernel⟩⟩

theorem wit_HostHbmWrite : ∃ (off : Nat) (a : Nat) (data : List Byte) (p : Partition) (s : State), s.host.d3hot = false ∧ s.bar2Addr off = some a ∧ a + data.length ≤ hbmEnd ∧ ¬ (a < 2 ^ 33 ∧ 2 ^ 33 < a + data.length) ∧ s.partOf a = some p ∧ s.regionStopped (State.regionAt a) = false :=
  ⟨64, 64, [1,2], part0, (st []).modRegion 0 fun r => {r with parts := [part0]}, by decide +kernel⟩

theorem wit_UnmappedAccess :
    (∃ (off : Nat) (len : Nat) (a : Nat) (s : State), s.host.d3hot = false ∧ s.bar2Addr off = some a ∧ a + len ≤ hbmEnd ∧ ¬ (a < 2 ^ 33 ∧ 2 ^ 33 < a + len) ∧ s.partOf a = none)
    ∧ (∃ (off : Nat) (a : Nat) (data : List Byte) (s : State), s.host.d3hot = false ∧ s.bar2Addr off = some a ∧ a + data.length ≤ hbmEnd ∧ ¬ (a < 2 ^ 33 ∧ 2 ^ 33 < a + data.length) ∧ data ≠ [] ∧ s.partOf a = none) :=
  ⟨⟨64, 4, 64, st [], by decide +kernel⟩,
   ⟨64, 64, [1,2], st [], by decide +kernel⟩⟩

theorem wit_PlateAccess :
    (∃ (off : Nat) (len : Nat) (s : State), s.host.d3hot = false ∧ off + len ≤ plateEnd ∧ (s.mem.badPlate.find? fun w => decide (off < 8 * w + 8) && decide (8 * w < off + len)) = none)
    ∧ (∃ (off : Nat) (data : List Byte) (s : State), s.host.d3hot = false ∧ off + data.length ≤ plateEnd) :=
  ⟨⟨64, 4, st [], by decide +kernel⟩,
   ⟨64, [1,2], st [], by decide +kernel⟩⟩

theorem wit_FreezeTaken :
    (∃ (port : Nat) (i : Fin 2) (s : State), (s.rd (.hbm .rgnStatState) i = 0 ∨ s.rd (.hbm .rgnStatState) i = 3) ∧ port < 8)
    ∧ (∃ (i : Fin 2) (s : State), s.rd (.hbm .rgnStatState) i = 1 ∧ s.duty 5 = true ∧ s.on (.hbm .rgnCtrlAutorecover) i = false)
    ∧ (∃ (i : Fin 2) (s : State), s.rd (.hbm .rgnStatState) i = 1 ∧ s.on (.hbm .rgnStatSnap) i = true) :=
  ⟨⟨3, 0, st [], by decide +kernel⟩,
   ⟨0, up [(.hbm .rgnStatState,0,1),(.hbm .rgnCtrlAutorecover,0,0)], by decide +kernel⟩,
   ⟨0, st [(.hbm .rgnStatState,0,1),(.hbm .rgnStatSnap,0,1)], by decide +kernel⟩⟩

theorem wit_RecoveryEnds :
    (∃ (i : Fin 2) (s : State), s.rd (.hbm .rgnStatState) i = 2)
    ∧ (∃ (i : Fin 2) (k : Fin 8) (s : State), s.rd (.hbm .rgnStatState) i = 2 ∧ (∀ x ∈ (s.mem.regions[i]).profiles, x.failed ≠ k.val))
    ∧ (∃ (i : Fin 2) (s : State), s.rd (.hbm .rgnStatState) i = 2 ∧ s.rd (.hbm .rgnStatTries) i < 2)
    ∧ (∃ (i : Fin 2) (s : State), s.rd (.hbm .rgnStatState) i = 2 ∧ s.rd (.hbm .rgnStatTries) i = 2) :=
  ⟨⟨0, st [(.hbm .rgnStatState,0,2)], by decide +kernel⟩,
   ⟨0, 6, st [(.hbm .rgnStatState,0,2)], by decide +kernel⟩,
   ⟨0, st [(.hbm .rgnStatState,0,2),(.hbm .rgnStatTries,0,1)], by decide +kernel⟩,
   ⟨0, st [(.hbm .rgnStatState,0,2),(.hbm .rgnStatTries,0,2)], by decide +kernel⟩⟩

theorem wit_MemoryErrorsCounted :
    (∃ (c : Fin 4) (l : Fin 8) (s : State), s.pic[c].layers[l].window = true ∧ s.composing c = true ∧ s.mem.fallback[c] = false)
    ∧ (∃ (c : Fin 4) (l : Fin 8) (s : State), s.pic[c].layers[l].window = true ∧ s.composing c = true ∧ s.mem.fallback[c] = false ∧ s.clusterOn c = true)
    ∧ (∃ (s : State), 0 < s.rd (.hbm .scrubCfgPltm) 0 ∧ s.domOn 49 = true ∧ s.duty 2 = true ∧ s.rd (.pwr .limitAct) 0 = 0 ∧ s.halted .scrub 0 = false)
    ∧ (∃ (place : Nat) (p : Partition) (s : State), 0 < s.rd (.hbm .scrubCfgHbmh) 0 ∧ s.domOn 49 = true ∧ s.duty 2 = true ∧ s.rd (.pwr .limitAct) 0 = 0 ∧ s.rd (.hbm .pcStatePwr) (s.pcOf (place % hbmEnd)) = 0 ∧ s.partOf (place % hbmEnd) = some p ∧ p.kind ≠ 0 ∧ s.halted .scrub 0 = false)
    ∧ (∃ (s : State), 0 < s.rd (.hbm .scrubCfgAlmh) 0 ∧ s.domOn 49 = true ∧ s.duty 2 = true ∧ s.rd (.pwr .limitAct) 0 = 0 ∧ s.halted .scrub 0 = false ∧ s.log.saving = none) :=
  ⟨⟨1, 2, fetching, by decide +kernel⟩,
   ⟨1, 2, fetching, by decide +kernel⟩,
   ⟨up [(.hbm .scrubCfgPltm,0,1)], by decide +kernel⟩,
   ⟨64, part0, (up [(.hbm .scrubCfgHbmh,0,1)]).modRegion 0 fun r => {r with parts := [part0]}, by decide +kernel⟩,
   ⟨up [(.hbm .scrubCfgAlmh,0,1)], by decide +kernel⟩⟩

theorem wit_InputTrained :
    (∃ (lanes : Nat) (w : Nat) (h : Nat) (i : Fin 4) (s : State), s.on (.dpr .linkHpd) i = true ∧ s.domOn (4 + i.val) = true ∧ s.halted .dpr i = false ∧ unsupported lanes w h = false)
    ∧ (∃ (i : Fin 4) (s : State), s.on (.dpr .linkHpd) i = true ∧ s.domOn (4 + i.val) = true ∧ s.halted .dpr i = false)
    ∧ (∃ (lanes : Nat) (w : Nat) (h : Nat) (i : Fin 4) (s : State), s.on (.dpr .linkHpd) i = true ∧ s.domOn (4 + i.val) = true ∧ s.halted .dpr i = false ∧ unsupported lanes w h = true)
    ∧ (∃ (i : Fin 4) (s : State), s.rd (.dpr .linkUp) i ≠ 0)
    ∧ (∃ (i : Fin 4) (s : State), s.on (.dpr .linkUp) i = true)
    ∧ (∃ (i : Fin 4) (s : State), s.on (.dpr .linkHpd) i = true) :=
  ⟨⟨4, 640, 480, 1, up [(.dpr .linkHpd,1,1)], by decide +kernel⟩,
   ⟨1, up [(.dpr .linkHpd,1,1)], by decide +kernel⟩,
   ⟨3, 640, 480, 1, up [(.dpr .linkHpd,1,1)], by decide +kernel⟩,
   ⟨1, up [(.dpr .linkUp,1,1)], by decide +kernel⟩,
   ⟨1, up [(.dpr .linkUp,1,1)], by decide +kernel⟩,
   ⟨1, up [(.dpr .linkHpd,1,1)], by decide +kernel⟩⟩

theorem wit_FrameTaken :
    (∃ (b : Nat) (i : Fin 4) (s : State), s.on (.dpr .linkUp) i = true ∧ s.rd (.dpr .linkPsr) i = 0 ∧ s.halted .dpr i = false ∧ s.regionStopped (State.addrRegion s.dp[i].base) = false ∧ s.freeBuffer i = some b)
    ∧ (∃ (b : Nat) (i : Fin 4) (f : DpFrame) (s : State), s.dp[i].frames.head? = some f ∧ s.on (.dpr .linkUp) i = true ∧ s.rd (.dpr .linkPsr) i = 2 ∧ s.halted .dpr i = false ∧ s.badBurst (s.dpBuffer i f) (4 * f.w * f.h) = none ∧ s.regionStopped (State.addrRegion s.dp[i].base) = false ∧ s.freeBuffer i = some b)
    ∧ (∃ (i : Fin 4) (f : DpFrame) (s : State), s.dp[i].frames.head? = some f ∧ s.on (.dpr .linkUp) i = true ∧ s.rd (.dpr .linkPsr) i = 2 ∧ s.halted .dpr i = false) :=
  ⟨⟨0, 1, up [(.dpr .linkUp,1,1)], by decide +kernel⟩,
   ⟨1, 1, ⟨0, 0, 0, 2, 1, 0⟩, psr, by decide +kernel⟩,
   ⟨1, ⟨0, 0, 0, 2, 1, 0⟩, psr, by decide +kernel⟩⟩

theorem wit_TableWords :
    (∃ (addr : Nat) (j : Nat) (f : Fld) (c : Fin 4) (s : State), f ∈ ([.geo .ilutEntry, .geo .olutEntry, .geo .blendGain] : List Fld) ∧ addr < bar0End ∧ addr % 4 = 0 ∧ s.host.d3hot = false ∧ statusAt addr = none ∧ addrCluster addr = some c.val ∧ s.clusterOn c = true ∧ fieldsAt addr = [(f, j, 0)] ∧ s.pageLocked f j = false ∧ s.sleeping f j = false)
    ∧ (∃ (addr : Nat) (j : Nat) (f : Fld) (c : Fin 4) (s : State), f ∈ ([.geo .ilutEntry, .geo .olutEntry, .geo .blendGain] : List Fld) ∧ addr < bar0End ∧ addr % 4 = 0 ∧ s.host.d3hot = false ∧ statusAt addr = none ∧ addrCluster addr = some c.val ∧ s.clusterOn c = true ∧ fieldsAt addr = [(f, j, 0)] ∧ s.pageLocked f j = true)
    ∧ (∃ (addr : Nat) (k : Nat) (c : Fin 4) (pg : Fin 2) (s : State), addr < bar0End ∧ addr % 4 = 0 ∧ s.host.d3hot = false ∧ statusAt addr = none ∧ addrCluster addr = some c.val ∧ s.clusterOn c = true ∧ fieldsAt addr = [(.pln .schedWord, c.val * 7680 + pg.val * 3840 + k, 0)] ∧ k < 3840 ∧ s.rd (.pln .ctrlSchedPage) c ≠ pg.val ∧ s.sleeping (.pln .schedWord) (c.val * 7680 + pg.val * 3840 + k) = false)
    ∧ (∃ (c : Fin 4) (s : State), s.on (.pln .schedChkBusy) c = false)
    ∧ (∃ (c : Fin 4) (pg : Fin 2) (s : State), s.pic[c].schedBusy = some pg.val)
    ∧ (∃ (c : Fin 4) (s : State), s.composing c = false) :=
  ⟨⟨Fld.addr (.geo .blendGain) 260, 260, .geo .blendGain, 0, up [], by decide +kernel⟩,
   ⟨Fld.addr (.geo .blendGain) 5, 5, .geo .blendGain, 0, up [], by decide +kernel⟩,
   ⟨Fld.addr (.pln .schedWord) 11523, 3, 1, 1, up [(State.validFld 1, 1, 1)], by decide +kernel⟩,
   ⟨1, up [], by decide +kernel⟩,
   ⟨1, 1, (up [(.pln .schedChkBusy,1,1)]).modPic 1 fun p => {p with schedBusy := some 1}, by decide +kernel⟩,
   ⟨1, up [], by decide +kernel⟩⟩

theorem wit_MeshLoads :
    (∃ (c : Fin 4) (s : State), s.pic[c].meshLoad = none ∧ s.rd (.geo .meshLoadPage) c ≠ s.rd (.geo .ctrlMeshPage) c)
    ∧ (∃ (c : Fin 4) (s : State), s.pic[c].meshLoad = none ∧ s.rd (.geo .meshLoadPage) c = s.rd (.geo .ctrlMeshPage) c)
    ∧ (∃ (c : Fin 4) (pg : Fin 2) (m : MeshLoad) (s : State), s.pic[c].meshLoad = some m ∧ m.page = pg.val ∧ m.count ≤ 40960 ∧ s.regionStopped (State.addrRegion m.src) = false ∧ s.badBurst m.src (4 * m.count) = none)
    ∧ (∃ (c : Fin 4) (m : MeshLoad) (s : State), s.pic[c].meshLoad = some m ∧ s.regionStopped (State.addrRegion m.src) = false) :=
  ⟨⟨1, up [(.geo .meshLoadPage,1,1),(.geo .meshLoadErr,1,1)], by decide +kernel⟩,
   ⟨1, up [], by decide +kernel⟩,
   ⟨1, 1, ⟨1, 256, 2⟩, meshing, by decide +kernel⟩,
   ⟨1, ⟨1, 256, 2⟩, meshing, by decide +kernel⟩⟩

theorem wit_Reaffirmations :
    (∃ (c : Fin 4) (l : Fin 8) (s : State), s.mayReaffirm c l false = false)
    ∧ (∃ (c : Fin 4) (l : Fin 8) (s : State), s.mayReaffirm c l false = true ∧ s.on (.frs .reaffirmStatBusy) c = false ∧ s.inHeld c = false)
    ∧ (∃ (count : Nat) (c : Fin 4) (l : Fin 8) (s : State), s.mayReaffirm c l true = true ∧ 0 < count ∧ count ≤ 4096 ∧ s.on (.frs .reaffirmStatBusy) c = false ∧ s.on (.frs .reaffirmStatQueued) c = false)
    ∧ (∃ (c : Fin 4) (x : TileList) (s : State), (s.pic[c].lists.find? fun y => y.tiles.isNone) = some x ∧ s.regionStopped (State.regionAt x.addr).val = false ∧ s.badBurst x.addr (4 * x.count) = none ∧ (∀ i, i < x.count → cellWord s.hbm (x.addr + 4 * i) 4 < s.pic[c].tiles.length)) :=
  ⟨⟨1, 2, up [], by decide +kernel⟩,
   ⟨1, 2, leased 0, by decide +kernel⟩,
   ⟨3, 1, 2, leased 1, by decide +kernel⟩,
   ⟨1, ⟨2, 3, 1, 64, none, 4⟩, (leased 1).modPic 1 fun p => {p with lists := [⟨2, 3, 1, 64, none, 4⟩], tiles := [Tile.reset]}, by decide +kernel⟩⟩

theorem wit_FreshnessEvents :
    (∃ (tile : Nat) (c : Fin 4) (x : Tile) (s : State), s.pic[c].tiles[tile]? = some x)
    ∧ (∃ (tile : Nat) (c : Fin 4) (x : Tile) (s : State), s.pic[c].tiles[tile]? = some x ∧ s.composing c = false)
    ∧ (∃ (t : Nat) (d : Nat) (c : Fin 4) (h : HeldState) (s : State), s.chr[c].held = some h ∧ h.deadline = some d ∧ h.wake = none ∧ d ≤ max s.now t + 480000)
    ∧ (∃ (c : Fin 4) (l : Fin 8) (s : State), s.pic[c].layers[l].window = true) :=
  ⟨⟨0, 1, Tile.reset, fetching.modPic 1 fun p => {p with tiles := [Tile.reset]}, by decide +kernel⟩,
   ⟨0, 1, Tile.reset, (up []).modPic 1 fun p => {p with tiles := [Tile.reset]}, by decide +kernel⟩,
   ⟨5, 480005, 1, ⟨0, 0, some 480005, none, none, []⟩, (up []).modChr 1 fun h => {h with held := some ⟨0, 0, some 480005, none, none, []⟩}, by decide +kernel⟩,
   ⟨1, 2, fetching, by decide +kernel⟩⟩

theorem wit_HeliostatSamples :
    (∃ (t : Nat) (c : Fin 4) (i : Fin 16) (s : State), s.unitRun .slot (slotInst c i) = true ∧ s.hel[c].slots[i].stopped = false ∧ ((s.advance t).arriveStrobes c).slotTriggers c i = true ∧ s.hel[c].slots[i].due = none ∧ (s.advance t).tooSoon c i = false ∧ (s.slotMeas c (slotInst c i) 0).isSome = true)
    ∧ (∃ (t : Nat) (c : Fin 4) (i : Fin 16) (s : State), s.unitRun .slot (slotInst c i) = true ∧ s.hel[c].slots[i].stopped = false ∧ ((s.advance t).arriveStrobes c).slotTriggers c i = true ∧ s.hel[c].slots[i].due = none ∧ (s.advance t).tooSoon c i = true)
    ∧ (∃ (t : Nat) (a : Nat) (u : Int) (c : Fin 4) (i : Fin 16) (s : State), s.hel[c].slots[i].due = some (a, u) ∧ a ≤ max s.now t)
    ∧ (∃ (c : Fin 4) (i : Fin 16) (s : State), s.on (.hel .slotStatSatfault) (slotInst c i) = true) :=
  ⟨⟨5, 1, 2, slotOn 0, by decide +kernel⟩,
   ⟨37, 1, 2, (slotOn 1).modSlot 1 2 fun x => {x with lastTrig := some 30}, by decide +kernel⟩,
   ⟨5, 3, 9, 1, 2, (slotOn 1).modSlot 1 2 fun x => {x with due := some (3, 9)}, by decide +kernel⟩,
   ⟨1, 2, (slotOn 0).wr (.hel .slotStatSatfault) 18 1, by decide +kernel⟩⟩

theorem wit_ColourAndCooling :
    (∃ (t : Nat) (c : Fin 4) (p : Fin 3) (s : State), s.unitRun .cs c = true ∧ s.hel[c].csBusy = [] ∧ s.hel[c].csDue[p] = some (max s.now t) ∧ (∀ q : Fin 3, q ≠ p → s.hel[c].csDue[q] ≠ some (max s.now t)))
    ∧ (∃ (t : Nat) (c : Fin 4) (p : Fin 3) (s : State), s.hel[c].csBusy.head? = some p.val ∧ s.hel[c].csReadyAt ≤ max s.now t)
    ∧ (∃ (t : Nat) (c : Fin 4) (i : Fin 2) (s : State), (∀ p, s.hel[c].pwmAt[i] = some p → p + pwmPeriod (clampN 10 50 (s.rd (.hel .pwmCfgFreq) c)) ≤ max s.now t) ∧ (∀ n : Fin 16, s.unitEn .slot (slotInst c n) = true → (2, i.val) ∉ s.slotDests (slotInst c n)))
    ∧ (∃ (t : Nat) (c : Fin 4) (i : Fin 2) (n : Fin 16) (s : State), s.domOn (9 + c.val) = true ∧ s.halted .pwm (c.val * 2 + i.val) = false ∧ (∀ p, s.hel[c].pwmAt[i] = some p → p + pwmPeriod (clampN 10 50 (s.rd (.hel .pwmCfgFreq) c)) ≤ max s.now t) ∧ (allSlots.find? fun n => s.unitEn .slot (slotInst c n) && (s.slotDests (slotInst c n)).contains (2, i.val)) = some n ∧ s.halted .slot (slotInst c n) = false ∧ s.hel[c].slots[n].stopped = false) :=
  ⟨⟨5, 1, 2, sensor.modHel 1 fun h => {h with csDue := h.csDue.set 2 (some 5)}, by decide +kernel⟩,
   ⟨5, 1, 2, sensor.modHel 1 fun h => {h with csBusy := [2], csReadyAt := 4}, by decide +kernel⟩,
   ⟨5, 1, 1, up [], by decide +kernel⟩,
   ⟨5, 1, 1, 2, (slotOn 0).wr (.hel .routeD0type) 18 2 |>.wr (.hel .routeD0idx) 18 1, by decide +kernel⟩⟩

theorem wit_TrainingRuns :
    (∃ (e : Fin 6) (host : Bool) (s : State), s.engOwner host = true ∧ (s.rd (.trn .engStatState) e = 0 ∨ s.rd (.trn .engStatState) e = 5) ∧ s.engServes e = true ∧ s.brokenPrecond e = none ∧ s.engTarget e ≠ 4 ∧ s.burstWaits e = false)
    ∧ (∃ (code : Nat) (e : Fin 6) (host : Bool) (s : State), s.engOwner host = true ∧ (s.rd (.trn .engStatState) e = 0 ∨ s.rd (.trn .engStatState) e = 5) ∧ s.engServes e = true ∧ s.brokenPrecond e = some code)
    ∧ (∃ (host : Bool) (s : State), s.engOwner host = true)
    ∧ (∃ (e : Fin 6) (s : State), s.trn.engines[e].held = none ∧ s.rd (.trn .engStatState) e = 1 ∧ s.rd (.trn .engStatBursts) e = 0 ∧ s.brokenPrecond e = none ∧ s.engTarget e ≠ 4 ∧ s.burstWaits e = false)
    ∧ (∃ (t : Nat) (e : Fin 6) (s : State), s.rd (.trn .engStatState) e = 2 ∧ s.engTarget e ≤ 3 ∧ s.trn.engines[e].burstAt + s.burstLen e ≤ max s.now t ∧ s.trn.engines[e].viol = none ∧ s.trn.engines[e].tap < (s.sweepRange e).2)
    ∧ (∃ (t : Nat) (idx : Nat) (e : Fin 6) (target : Fin 7) (c : Fin 4) (temp : Int) (s : State), s.on (.trn .ctrlHost) 0 = false ∧ s.running = true ∧ s.duty 6 = true ∧ s.rd (.pwr .limitAct) 0 < 2 ∧ s.rd (.trn .engStatState) e = 0 ∧ (s.advance t).runDue target idx (target.val + idx % 256 * 2 ^ 8 + c.val * 2 ^ 16) temp = true ∧ idx < 256) :=
  ⟨⟨0, false, up [], by decide +kernel⟩,
   ⟨3, 0, false, up [(.hbm .rgnStatState,0,1)], by decide +kernel⟩,
   ⟨false, up [], by decide +kernel⟩,
   ⟨0, up [(.trn .engStatState,0,1)], by decide +kernel⟩,
   ⟨200000, 0, up [(.trn .engStatState,0,2),(.trn .engRangeLast,0,5)], by decide +kernel⟩,
   ⟨5, 3, 0, 1, 0, 1600, up [(.trn .cfgTdrift,0,1)], by decide +kernel⟩⟩

theorem wit_StagedResults :
    (∃ (t : Nat) (e : Fin 6) (x : Staged) (s : State), s.trn.engines[e].staged = some x ∧ (s.advance t).atBoundary x = true)
    ∧ (∃ (t : Nat) (k : Nat) (v : Nat) (e : Fin 6) (x : Staged) (s : State), s.trn.engines[e].staged = some x ∧ x.target = 0 ∧ x.vals[k]? = some v ∧ s.regionStopped (x.idx / 8) = false ∧ s.mem.lastReq[(Fin.ofNat 16 x.idx)] + 103 ≤ max s.now t)
    ∧ (∃ (t : Nat) (e : Fin 6) (x : Staged) (s : State), s.trn.engines[e].staged = some x ∧ msCclk (s.rd (.trn .schedApplytmo) 0) ≤ max s.now t - x.at') :=
  ⟨⟨200, 1, ⟨0, 3, 1, 0, [4], 2⟩, staged, by decide +kernel⟩,
   ⟨200, 0, 4, 1, ⟨0, 3, 1, 0, [4], 2⟩, staged, by decide +kernel⟩,
   ⟨msCclk 20000, 1, ⟨0, 3, 1, 0, [4], 2⟩, staged, by decide +kernel⟩⟩

theorem wit_ObserverCommands :
    (∃ (load : Nat) (s : State), s.obsOnline = true ∧ load ≤ 100 ∧ (∀ w ∈ s.obs.windows, w ≤ 100) ∧ s.rd (.obs .loadPeak) 0 ≤ 100)
    ∧ (∃ (s : State), s.obsOnline = true)
    ∧ (∃ (b : Nat) (s : State), s.obs.bootingSince = some b)
    ∧ (∃ (s : State), s.obs.heldReset = true) :=
  ⟨⟨20, up [], by decide +kernel⟩,
   ⟨up [], by decide +kernel⟩,
   ⟨1, (up []).modObs fun o => {o with bootingSince := some 1}, by decide +kernel⟩,
   ⟨(up []).modObs fun o => {o with heldReset := true}, by decide +kernel⟩⟩

theorem wit_LoaderMail :
    (∃ (length : Nat) (s : State), MailFree s ∧ 0 < length ∧ length ≤ 2 ^ 24 ∧ s.loaderBusy = false ∧ s.eph.swap = none)
    ∧ (∃ (length : Nat) (s : State), MailFree s ∧ 0 < length ∧ length ≤ 2 ^ 25 ∧ s.loaderBusy = false ∧ (s.slotValid 0 && !s.slotValid 1) = false)
    ∧ (∃ (u : Upload) (s : State), MailFree s ∧ s.host.ephUp = some u ∧ u.erased = true ∧ u.next % 4096 = 0 ∧ u.next < u.length)
    ∧ (∃ (u : Upload) (s : State), MailFree s ∧ s.host.ephUp = some u ∧ u.length ≤ u.next ∧ u.target = .patch)
    ∧ (∃ (slot : Fin 2) (bad : List Nat) (im : Image) (s : State), MailFree s ∧ s.loaderBusy = false ∧ s.eph.slots[slot] = some im ∧ s.imageFault (2 ^ 25) false (im.readBad bad) = none)
    ∧ (∃ (im : Image) (s : State), MailFree s ∧ s.loaderBusy = false ∧ s.eph.swap = none ∧ s.eph.staged = some im ∧ s.stagedBad = [] ∧ s.swapFault im = none)
    ∧ (∃ (s : State), MailFree s ∧ s.loaderBusy = false)
    ∧ (∃ (token : List Byte) (signs : Option Signed) (s : State), MailFree s ∧ token.length = 128 ∧ s.rd (.eph .dbgFails) 0 ≠ 8 ∧ s.tokenGood (token.map BitVec.toNat) signs = true)
    ∧ (∃ (token : List Byte) (signs : Option Signed) (s : State), MailFree s ∧ token.length = 128 ∧ s.rd (.eph .dbgFails) 0 < 8 ∧ s.tokenGood (token.map BitVec.toNat) signs = false)
    ∧ (∃ (s : State), MailFree s)
    ∧ (∃ (length : Nat) (s : State), MailFree s ∧ 0 < length ∧ length ≤ 2 ^ 25 ∧ s.loaderBusy = false ∧ (s.slotValid 1 && !s.slotValid 0) = false)
    ∧ (∃ (u : Upload) (i : Fin 2) (s : State), MailFree s ∧ s.host.ephUp = some u ∧ u.length ≤ u.next ∧ u.target.slot = some i) :=
  ⟨⟨4096, up [], by unfold MailFree; decide +kernel, by decide +kernel⟩,
   ⟨4096, up [], by unfold MailFree; decide +kernel, by decide +kernel⟩,
   ⟨⟨.patch, 8192, 4096, [], [], true⟩, {up [] with host := {HostIf.reset with ephUp := some ⟨.patch, 8192, 4096, [], [], true⟩}}, by unfold MailFree; decide +kernel, by decide +kernel⟩,
   ⟨⟨.patch, 4096, 4096, [], [1], true⟩, {up [] with host := {HostIf.reset with ephUp := some ⟨.patch, 4096, 4096, [], [1], true⟩}}, by unfold MailFree; decide +kernel, by decide +kernel⟩,
   ⟨1, [], full0, (up []).modEph fun e => {e with slots := e.slots.set 1 (some full0)}, by unfold MailFree; decide +kernel, by decide +kernel⟩,
   ⟨patch0, (up []).modEph fun e => {e with inForce := some full0, staged := some patch0}, by unfold MailFree; decide +kernel, by decide +kernel⟩,
   ⟨up [], by unfold MailFree; decide +kernel, by decide +kernel⟩,
   ⟨token0, sign0, up [], by unfold MailFree; decide +kernel, by decide +kernel⟩,
   ⟨token0, none, up [], by unfold MailFree; decide +kernel, by decide +kernel⟩,
   ⟨up [(.eph .dbgOpen,0,1)], by unfold MailFree; decide +kernel⟩,
   ⟨4096, up [], by unfold MailFree; decide +kernel, by decide +kernel⟩,
   ⟨⟨.slotB, 4096, 4096, [], [1], true⟩, 1, {up [] with host := {HostIf.reset with ephUp := some ⟨.slotB, 4096, 4096, [], [1], true⟩}}, by unfold MailFree; decide +kernel, by decide +kernel⟩⟩

theorem wit_HostMail :
    (∃ (s : State), MailFree s)
    ∧ (∃ (length : Nat) (s : State), MailFree s ∧ 0 < length ∧ length ≤ 0x800000)
    ∧ (∃ (u : Upload) (s : State), MailFree s ∧ s.host.fwUp = some u ∧ u.erased = true ∧ u.next < u.length)
    ∧ (∃ (u : Upload) (s : State), MailFree s ∧ s.host.fwUp = some u ∧ u.length ≤ u.next)
    ∧ (∃ (path : Nat) (k : TagKind) (s : State), MailFree s ∧ s.tagKind path = some k ∧ (s.tagBytes k).length ≤ 256)
    ∧ (∃ (path : Nat) (k : Nat) (data : List Byte) (s : State), MailFree s ∧ s.tagKind path = some (.unit k) ∧ data.length = 32)
    ∧ (∃ (s : State), MailFree s ∧ s.rd (.obs .loadShed) 0 < 3) :=
  ⟨⟨up [], by unfold MailFree; decide +kernel⟩,
   ⟨4096, up [], by unfold MailFree; decide +kernel, by decide +kernel⟩,
   ⟨⟨.firmware, 8192, 4096, [], [], true⟩, {up [] with host := {HostIf.reset with fwUp := some ⟨.firmware, 8192, 4096, [], [], true⟩}}, by unfold MailFree; decide +kernel, by decide +kernel⟩,
   ⟨⟨.firmware, 4096, 4096, [], [1], true⟩, {up [] with host := {HostIf.reset with fwUp := some ⟨.firmware, 4096, 4096, [], [1], true⟩}}, by unfold MailFree; decide +kernel, by decide +kernel⟩,
   ⟨0x30000, .die 0, up [], by unfold MailFree; decide +kernel, by decide +kernel⟩,
   ⟨pathOf .obs 0 0xFF, pathOf .obs 0 0xFF, List.replicate 32 7, up [], by unfold MailFree; decide +kernel, by decide +kernel⟩,
   ⟨up [], by unfold MailFree; decide +kernel, by decide +kernel⟩⟩

theorem wit_StoreMail :
    (∃ (addr : Nat) (len : Nat) (s : State), MailFree s ∧ s.log.saving = none ∧ 1 ≤ len ∧ len ≤ 4096 ∧ inRawArea addr len = true)
    ∧ (∃ (addr : Nat) (data : List Byte) (s : State), MailFree s ∧ s.log.saving = none ∧ 1 ≤ data.length ∧ data.length ≤ 256 ∧ inRawArea addr 1 = true)
    ∧ (∃ (s : State), MailFree s ∧ s.log.saving.isSome = true)
    ∧ (∃ (addr : Nat) (data : List Byte) (s : State), MailFree s ∧ s.log.saving = none ∧ 1 ≤ data.length ∧ data.length ≤ 256 ∧ inRawArea addr 1 = false)
    ∧ (∃ (m : MailReq) (slot : Fin 2) (s : State), MailFree s ∧ s.host.busMaster = true ∧ m.haddr % 64 = 0 ∧ s.on (if slot.val == 0 then .log .statValid0 else .log .statValid1) 0 = true)
    ∧ (∃ (s : State), MailFree s)
    ∧ (∃ (m : MailReq) (args : Vector Word 6) (s : State), MailFree s ∧ s.host.busMaster = true ∧ m.haddr % 64 = 0 ∧ s.rd (.arc .stateState) 0 = 3 ∧ bits (args[(0 : Fin 6)]).toNat 16 2 ≠ 3 ∧ (s.driveRecs.filter (s.recWanted (args.toList.map BitVec.toNat))).isEmpty = false)
    ∧ (∃ (s : State), MailFree s ∧ s.arc.drive.isSome = true ∧ s.rd (.arc .stateState) 0 ≠ 5) :=
  ⟨⟨0xE5001, 7, up [], by unfold MailFree; decide +kernel, by decide +kernel⟩,
   ⟨0xE50FE, [1,2,3], up [], by unfold MailFree; decide +kernel, by decide +kernel⟩,
   ⟨(up []).modLog fun l => {l with saving := some (1, 1, 2)}, by unfold MailFree; decide +kernel, by decide +kernel⟩,
   ⟨0xE4FFE, [1,2,3], up [], by unfold MailFree; decide +kernel, by decide +kernel⟩,
   ⟨mr, 1, {up [(.log .statValid1,0,1)] with host := {HostIf.reset with busMaster := true}}, by unfold MailFree; decide +kernel, by decide +kernel⟩,
   ⟨up [], by unfold MailFree; decide +kernel⟩,
   ⟨mr, (Vector.replicate 6 0).set 0 133120, {((up [(.arc .stateState,0,3)]).modArc fun a => {a with drive := some {drive0 none with extents := [⟨0, 1, 1, 0, 1, [], [⟨4, 0, 1, 0, 0, []⟩]⟩]}, written := 1}) with host := {HostIf.reset with busMaster := true}}, by unfold MailFree; decide +kernel, by decide +kernel⟩,
   ⟨(up [(.arc .stateState,0,2)]).modArc fun a => {a with drive := some (drive0 none)}, by unfold MailFree; decide +kernel, by decide +kernel⟩⟩

theorem wit_EndpointCommands :
    (∃ (s : State), s.on (.pci .linkUp) 0 = true)
    ∧ (∃ (width : Nat) (speed : Fin 5) (s : State), s.domOn 2 = true ∧ speed ≠ 0 ∧ width ∈ ([1, 2, 4, 8] : List Nat))
    ∧ (∃ (t : Nat) (f : Nat) (s : State), s.host.firstUnsig = some f ∧ f + usCclk (10 * s.rd (.pci .evrCfgMod) 0) ≤ max s.now t)
    ∧ (∃ (u : Upload) (s : State), s.host.fwUp = some u)
    ∧ (∃ (s : State), s.rd (.pwr .stateState) 0 ≠ 3)
    ∧ (∃ (s : State), s.on (.eph .dbgOpen) 0 = true ∧ s.rd (.eph .dbgScope) 0 ≠ 0)
    ∧ (∃ (s : State), s.on (.eph .dbgOpen) 0 = false)
    ∧ (∃ (s : State), s.host.d3hot = false)
    ∧ (∃ (u : Upload) (s : State), s.host.ephUp = some u) :=
  ⟨⟨up [(.pci .linkUp,0,1)], by decide +kernel⟩,
   ⟨4, 3, up [], by decide +kernel⟩,
   ⟨500000, 3, {up [] with host := {HostIf.reset with firstUnsig := some 3, unsignalled := 2}}, by decide +kernel⟩,
   ⟨⟨.firmware, 4096, 0, [], [], false⟩, {up [] with host := {HostIf.reset with fwUp := some ⟨.firmware, 4096, 0, [], [], false⟩}}, by decide +kernel⟩,
   ⟨up [], by decide +kernel⟩,
   ⟨up [(.eph .dbgOpen,0,1),(.eph .dbgScope,0,2)], by decide +kernel⟩,
   ⟨up [], by decide +kernel⟩,
   ⟨{up [] with host := {HostIf.reset with vecPend := 6, vecMask := 7}}, by decide +kernel⟩,
   ⟨⟨.slotA, 4096, 0, [], [], false⟩, {up [] with host := {HostIf.reset with ephUp := some ⟨.slotA, 4096, 0, [], [], false⟩}}, by decide +kernel⟩⟩

theorem wit_PresetsAndReload :
    (∃ (im : Image) (s : State), s.eph.inForce = some im ∧ s.rd (.eph .presetNum) 0 = 0)
    ∧ (∃ (s : State), s.eph.inForce = none)
    ∧ (∃ (t : Nat) (u : Nat) (s : State), s.eph.dbgUntil = some u ∧ u ≤ max s.now t)
    ∧ (∃ (s : State), s.eph.reload.isSome = true ∧ s.obsOnline = true ∧ s.running = true ∧ s.rd (.eph .statusState) 0 ≠ 3 ∧ s.stopsEnded = true)
    ∧ (∃ (p : Preset) (im : Image) (s : State), s.eph.inForce = some im ∧ s.rd (.eph .presetNum) 0 ≠ 0 ∧ im.plan.presets.find? (fun x => x.num == s.rd (.eph .presetNum) 0) = some p) :=
  ⟨⟨full0, (up []).modEph fun e => {e with inForce := some full0}, by decide +kernel⟩,
   ⟨up [], by decide +kernel⟩,
   ⟨5, 4, (up [(.eph .dbgOpen,0,1)]).modEph fun e => {e with dbgUntil := some 4}, by decide +kernel⟩,
   ⟨(up []).modEph fun e => {e with reload := some none}, by decide +kernel⟩,
   ⟨⟨3, [(0, 7)]⟩, {full0 with plan := {Plan.empty with presets := [⟨3, [(0, 7)]⟩]}}, (up [(.eph .presetNum,0,3)]).modEph fun e => {e with inForce := some {full0 with plan := {Plan.empty with presets := [⟨3, [(0, 7)]⟩]}}}, by decide +kernel⟩⟩

theorem wit_PowerEnds :
    (∃ (vin : Nat) (s : State), vin < 4300 ∧ s.rd (.pwr .stateState) 0 ≠ 3)
    ∧ (∃ (vin : Nat) (s : State), 19000 < vin ∧ s.rd (.pwr .stateState) 0 ≠ 3)
    ∧ (∃ (s : State), s.rd (.pwr .stateState) 0 ≠ 3)
    ∧ (∃ (s : State), s.rd (.pwr .stateState) 0 < 3)
    ∧ (∃ (s : State), s.pllLocked 6 = false ∧ (State.pllDomains 6).any s.domOn = true)
    ∧ (∃ (s : State), s.pllLocked 0 = true)
    ∧ (∃ (s : State), s.domOn 13 = true ∧ s.domOn 14 = true)
    ∧ (∃ (i : Nat) (u : UType) (s : State), s.fusedOff u i = false)
    ∧ (∃ (compute : Vector Int 4) (io : Vector Int 4) (s : State), s.rd (.pwr .stateState) 0 ≠ 3 ∧ s.rd (.pwr .stateState) 0 ≠ 4 ∧ 1760 ≤ max (hottest compute).1 (hottest io).1) :=
  ⟨⟨9, up [], by decide +kernel⟩,
   ⟨19001, up [], by decide +kernel⟩,
   ⟨up [], by decide +kernel⟩,
   ⟨up [], by decide +kernel⟩,
   ⟨up [(.pwr .pllLock,0,0x3F)], by decide +kernel⟩,
   ⟨up [], by decide +kernel⟩,
   ⟨up [], by decide +kernel⟩,
   ⟨0, .obs, up [], by decide +kernel⟩,
   ⟨Vector.replicate 4 1760, Vector.replicate 4 0, up [], by decide +kernel⟩⟩

theorem wit_ClocksAndMonitors :
    (∃ (i : Fin 8) (s : State), s.pllLocked i = true ∧ i ≠ 0)
    ∧ (∃ (i : Fin 8) (s : State), s.pllLocked i = false ∧ (State.pllDomains i).any s.domOn = true ∧ s.rd (.pwr .pllLock) 0 < 2 ^ 8)
    ∧ (∃ (s : State), s.rd (.pwr .stateState) 0 ≠ 3 ∧ s.on (.pwr .stateRefclkOk) 0 = false)
    ∧ (∃ (s : State), s.on (.pwr .stateRefclkOk) 0 = true ∧ s.rd (.pwr .domOnOn) 0 < 4)
    ∧ (∃ (compute : Vector Int 4) (io : Vector Int 4) (s : State), s.rd (.pwr .stateState) 0 ≠ 3 ∧ max (hottest compute).1 (hottest io).1 < 1760)
    ∧ (∃ (s : State), s.rd (.pwr .stateState) 0 < 2)
    ∧ (∃ (s : State), s.rd (.pwr .stateState) 0 = 0 ∧ s.rd (.pwr .stateStep) 0 = 0)
    ∧ (∃ (d : Fin 50) (s : State), s.domOn d = true)
    ∧ (∃ (vin : Nat), 4300 ≤ vin)
    ∧ (∃ (vin : Nat), vin ≤ 19000) :=
  ⟨⟨6, up [], by decide +kernel⟩,
   ⟨6, up [(.pwr .pllLock,0,0x3F)], by decide +kernel⟩,
   ⟨up [(.pwr .stateRefclkOk,0,0)], by decide +kernel⟩,
   ⟨st [(.pwr .stateRefclkOk,0,1),(.pwr .domOnOn,0,3)], by decide +kernel⟩,
   ⟨Vector.replicate 4 1000, Vector.replicate 4 0, up [], by decide +kernel⟩,
   ⟨up [], by decide +kernel⟩,
   ⟨st [], by decide +kernel⟩,
   ⟨49, up [], by decide +kernel⟩,
   ⟨4300, by decide +kernel⟩,
   ⟨19000, by decide +kernel⟩⟩

theorem wit_StartsAndStandby :
    (∃ (x : StartReport) (s : State), s.rd (.pwr .stateState) 0 = 3 ∧ 4450 ≤ x.vin ∧ (s.pwr.overVolt = true → x.vin < 18000) ∧ x.upto = 0)
    ∧ (∃ (s : State), s.running = true ∧ s.pwr.standbyPend = true ∧ s.stopsEnded = true)
    ∧ (∃ (s : State), s.rd (.pwr .stateState) 0 ≠ 3)
    ∧ (∃ (x : StartReport) (s : State), s.rd (.pwr .stateState) 0 = 2 ∧ x.upto ≤ 3)
    ∧ (∃ (x : StartReport) (s : State), s.rd (.pwr .stateState) 0 = 4 ∧ x.upto ≤ 3 ∧ max (s.rdI (.pwr .tempCompute) 0) (s.rdI (.pwr .tempIo) 0) < 1440)
    ∧ (∃ (x : StartReport) (s : State), s.rd (.pwr .stateState) 0 = 3 ∧ (x.vin < 4450 ∨ (s.pwr.overVolt = true ∧ 18000 ≤ x.vin))) :=
  ⟨⟨start0 0, st [(.pwr .stateState,0,3)], by decide +kernel⟩,
   ⟨(up []).modPwr fun p => {p with standbyPend := true}, by decide +kernel⟩,
   ⟨up [], by decide +kernel⟩,
   ⟨start0 3, st [(.pwr .stateState,0,2)], by decide +kernel⟩,
   ⟨start0 3, st [(.pwr .stateState,0,4)], by decide +kernel⟩,
   ⟨{ start0 0 with vin := 4449 }, st [(.pwr .stateState,0,3)], by decide +kernel⟩⟩

theorem wit_LogbookCommands :
    (∃ (cls : Fin 6), 1 ≤ cls.val ∧ cls.val ≤ 3)
    ∧ (∃ (q : Report) (qs : List Report) (s : State), s.ringAccepts = true ∧ s.log.xreg = [] ∧ s.log.queue = q :: qs ∧ s.rd (.log .seqSeq) 0 < 2 ^ 32)
    ∧ (∃ (s : State), s.log.saving = none ∧ s.on (.log .statFrozen) 0 = false)
    ∧ (∃ (t : Nat) (cause : Nat) (due : Nat) (time : Nat) (s : State), s.log.freeze = some (cause, 0, due, time) ∧ (s.advance t).triggerWaits = false)
    ∧ (∃ (cause : Nat) (time : Nat) (slot : Fin 2) (s : State), s.log.saving = some (cause, slot.val, time)) :=
  ⟨⟨2, by decide +kernel⟩,
   ⟨⟨1, 0x1701, 2, [3], 1, false, false, false⟩, [], (up []).modLog fun l => {l with queue := [⟨1, 0x1701, 2, [3], 1, false, false, false⟩]}, by decide +kernel⟩,
   ⟨up [], by decide +kernel⟩,
   ⟨5, 1, 4, 2, (up []).modLog fun l => {l with freeze := some (1, 0, 4, 2)}, by decide +kernel⟩,
   ⟨1, 2, 1, (up [(.log .statSaving,0,1),(.log .statFrozen,0,1)]).modLog fun l => {l with saving := some (1, 1, 2)}, by decide +kernel⟩⟩

theorem wit_AlmanacCommands :
    (∃ (oid : Nat) (x : AlmStore) (s : State), s.alm.stores.find? (fun x => x.oid == oid) = some x ∧ (oid ≤ 0x1B → s.duty 6 = true) ∧ s.log.saving = none)
    ∧ (∃ (s : State), s.log.saving.isSome = true)
    ∧ (∃ (s : State), s.log.saving = none)
    ∧ (∃ (s : State), s.rd (.alm .ckptMin) 0 ≠ 0 ∧ s.domOn 1 = true ∧ s.log.saving = none)
    ∧ (∃ (s : State), s.rd (.alm .ckptMin) 0 = 0) :=
  ⟨⟨0x200, ⟨0x200, [1,2,3,4]⟩, (up [(.alm .busQueued,0,1)]).modAlm fun a => {a with stores := [⟨0x200, [1,2,3,4]⟩]}, by decide +kernel⟩,
   ⟨(up []).modLog fun l => {l with saving := some (1, 1, 2)}, by decide +kernel⟩,
   ⟨up [], by decide +kernel⟩,
   ⟨up [(.alm .ckptMin,0,10)], by decide +kernel⟩,
   ⟨up [(.alm .ckptMin,0,0)], by decide +kernel⟩⟩

theorem wit_ArchiveCommands :
    (∃ (n : Nat) (d : Drive) (s : State), s.domOn 3 = true ∧ (s.running = true → s.heldLive = []) ∧ State.driveFault d = some n)
    ∧ (∃ (d : Drive) (s : State), s.domOn 3 = true ∧ (s.running = true → s.heldLive = []) ∧ State.driveFault d = none ∧ superOf d = none ∧ s.on (.arc .cfgAutoinit) 0 = false)
    ∧ (∃ (id : Nat) (x : NvmeCmd) (s : State), s.arc.cmds.find? (fun y => y.id == id) = some x ∧ x.wasReset = false)
    ∧ (∃ (id : Nat) (x : NvmeCmd) (s : State), s.arc.cmds.find? (fun y => y.id == id) = some x ∧ x.kind ≠ 1 ∧ x.kind ≠ 2)
    ∧ (∃ (s : State), s.rd (.arc .stateState) 0 = 3)
    ∧ (∃ (s : State), s.arc.drive.isSome = true ∧ s.duty 1 = true)
    ∧ (∃ (c : Fin 4) (f : FrameRec) (s : State), s.sampleFrame c = some f ∧ s.recording = true ∧ s.domOn 47 = true ∧ (s.arc.outs[c].samples.any fun x => x.frame == f.num && !x.ring) = false)
    ∧ (∃ (c : Fin 4) (f : FrameRec) (s : State), s.sampleFrame c = some f ∧ s.on (.arc .cfgRingen) 0 = false)
    ∧ (∃ (c : Fin 4) (f : FrameRec) (s : State), s.sampleFrame c = some f ∧ s.on (.arc .cfgRingen) 0 = true ∧ s.domOn 47 = true ∧ s.unitFatal .arc 0 = false ∧ s.ringFrozen = false ∧ (∀ n, (s.makeRoom n s.arc.ring.length s.arc.ring).isSome = true))
    ∧ (∃ (t : Nat) (f : ArcFlush) (s : State), (s.advance t).takeTriggers.runFlush.arc.flush = some f ∧ (s.advance t).takeTriggers.runFlush.flushEnds f = true)
    ∧ (∃ (s : State), s.domOn 1 = true ∧ s.recording = false)
    ∧ (∃ (x : NvmeCmd) (s : State), s.arc.cmds.find? (fun y => y.kind == 2) = some x)
    ∧ (∃ (saveSeq : Nat) (slot : Fin 2) (s : State), s.recording = true ∧ s.duty 5 = true ∧ (s.log.saves[slot]).saveSeq = saveSeq ∧ saveSeq ≠ 0 ∧ (s.log.saves[slot]).valid = true ∧ s.domOn 47 = true ∧ s.arc.logCopied.contains saveSeq = false)
    ∧ (∃ (d : Drive) (s : State), s.arc.drive = some d ∧ s.rd (.arc .stateState) 0 = 2 ∧ (superOf d).isSome = true) :=
  ⟨⟨3, {drive0 none with mdts := 1}, up [], by decide +kernel⟩,
   ⟨drive0 none, up [(.arc .cfgAutoinit,0,0)], by decide +kernel⟩,
   ⟨4, ⟨4, 1, 0, false, 0, [9]⟩, (up []).modArc fun a => {a with cmds := [⟨4, 1, 0, false, 0, [9]⟩]}, by decide +kernel⟩,
   ⟨4, ⟨4, 0, 0, false, 0, [9]⟩, (up []).modArc fun a => {a with cmds := [⟨4, 0, 0, false, 0, [9]⟩]}, by decide +kernel⟩,
   ⟨up [(.arc .stateState,0,3)], by decide +kernel⟩,
   ⟨(up []).modArc fun a => {a with drive := some (drive0 none)}, by decide +kernel⟩,
   ⟨1, frame0, (up [(.arc .stateState,0,3)]).modPic 1 fun p => {p with frames := [frame0]}, by decide +kernel⟩,
   ⟨1, frame0, (up [(.arc .cfgRingen,0,0)]).modPic 1 fun p => {p with frames := [frame0]}, by decide +kernel⟩,
   ⟨1, frame0, (up [(.arc .cfgRingen,0,1)]).modPic 1 fun p => {p with frames := [frame0]}, by decide +kernel, by decide +kernel, by decide +kernel, by decide +kernel, by decide +kernel, fun _ => rfl⟩,
   ⟨1000000, ⟨1, 0, 1, 0, 0⟩, (up []).modArc fun a => {a with flush := some ⟨1, 0, 1, 0, 0⟩}, by decide +kernel⟩,
   ⟨up [], by decide +kernel⟩,
   ⟨⟨4, 2, 0, false, 0, [9]⟩, (up []).modArc fun a => {a with cmds := [⟨4, 2, 0, false, 0, [9]⟩], flushUpto := 8}, by decide +kernel⟩,
   ⟨7, 1, (up [(.arc .stateState,0,3)]).modLog fun l => {l with saves := l.saves.set 1 ⟨7, 0, 0, 0, 1, false, true⟩}, by decide +kernel⟩,
   ⟨drive0 (some super0), (up [(.arc .stateState,0,2)]).modArc fun a => {a with drive := some (drive0 (some super0))}, by decide +kernel⟩⟩

theorem wit_RegisterWrites :
    (∃ (addr : Nat) (data : Word) (s : State), WordAccess s addr ∧ PlainWord s addr data.toNat .meridian ∧ (∀ x ∈ rwFields addr, reservedWrite x.1 (putIn x.1 data.toNat) = false))
    ∧ (∃ (addr : Nat) (data : Word) (s : State), WordAccess s addr ∧ PlainWord s addr data.toNat .meridian ∧ (∃ x ∈ rwFields addr, reservedWrite x.1 (putIn x.1 data.toNat) = true))
    ∧ (∃ (addr : Nat) (data : Word) (s : State), WordAccess s addr ∧ PlainWord s addr data.toNat .live ∧ (∀ x ∈ rwFields addr, State.tableOf x.1 x.2 = none ∧ x.1 ≠ .pln .schedWord ∧ s.sleeping x.1 x.2 = false ∧ reservedWrite x.1 (putIn x.1 data.toNat) = false))
    ∧ (∃ (addr : Nat) (data : Word) (s : State), WordAccess s addr ∧ PlainWord s addr data.toNat .static ∧ (∀ x ∈ rwFields addr, s.staticLocked x.1 x.2 = false ∧ reservedWrite x.1 (putIn x.1 data.toNat) = false))
    ∧ (∃ (addr : Nat) (data : Word) (s : State), WordAccess s addr ∧ PlainWord s addr data.toNat .static ∧ (∀ x ∈ rwFields addr, s.staticLocked x.1 x.2 = true) ∧ (∃ x ∈ rwFields addr, clampWrite x.1 (putIn x.1 data.toNat) ≠ s.rd x.1 x.2))
    ∧ (∃ (addr : Nat) (j : Nat) (v : Nat) (f : Fld) (s : State), WordAccess s addr ∧ fieldsAt addr = [(f, j, 1)] ∧ PlainField f j ∧ 1 < f.info.words ∧ f.info.lo < 32 ∧ 32 < f.info.lo + f.info.width ∧ s.pageLocked f j = false ∧ f.info.apply = .live ∧ State.tableOf f j = none ∧ s.sleeping f j = false ∧ (s.wrHold.find? fun h => h.1 == addr - 4) = some (addr - 4, v))
    ∧ (∃ (addr : Nat) (s : State), WordAccess s addr ∧ fieldsAt addr = [] ∧ roWindow addr = false)
    ∧ (∃ (addr : Nat) (i : Nat) (u : UType) (data : Word) (s : State), addr < bar0End ∧ addr % 4 = 0 ∧ s.host.d3hot = false ∧ statusAt addr = some (u, i) ∧ (∀ c, addrCluster addr = some c → s.clusterOn c = true) ∧ bit data.toNat 2 = true)
    ∧ (∃ (addr : Nat) (j : Nat) (f : Fld) (s : State), WordAccess s addr ∧ fieldsAt addr = [(f, j, 0)] ∧ PlainField f j ∧ 1 < f.info.words ∧ 32 < f.info.lo + f.info.width ∧ s.pageLocked f j = false)
    ∧ (∃ (c : Fin 4) (x : Nat × Nat) (xs : List (Nat × Nat)) (s : State), s.clusterOn c = true ∧ s.host.d3hot = false ∧ (∀ y ∈ s.rdLatch, y.1 ≠ Fld.addr (.pix .layerRetireLayer) c) ∧ s.pic[c].retires = x :: xs ∧ x.1 < 8) :=
  ⟨⟨Fld.addr (.hel .shift0Sff) 3, 0x01020304, up [], ⟨by decide +kernel, by decide +kernel, by decide +kernel, by decide +kernel, everyCluster (by decide +kernel)⟩, by unfold PlainWord PlainField; decide +kernel, by decide +kernel⟩,
   ⟨Fld.addr (.hel .shift0Sff) 3, 0xFFFFFFFF, up [], ⟨by decide +kernel, by decide +kernel, by decide +kernel, by decide +kernel, everyCluster (by decide +kernel)⟩, by unfold PlainWord PlainField; decide +kernel, by decide +kernel⟩,
   ⟨Fld.addr (.obs .wdogTimeout) 0, 7, up [], ⟨by decide +kernel, by decide +kernel, by decide +kernel, by decide +kernel, everyCluster (by decide +kernel)⟩, by unfold PlainWord PlainField; decide +kernel, by decide +kernel⟩,
   ⟨Fld.addr (.hel .trigTsrc) 3, 0x01020304, up [], ⟨by decide +kernel, by decide +kernel, by decide +kernel, by decide +kernel, everyCluster (by decide +kernel)⟩, by unfold PlainWord PlainField; decide +kernel, by decide +kernel⟩,
   ⟨Fld.addr (.hel .trigTsrc) 18, 0x01020304, slotOn 1, ⟨by decide +kernel, by decide +kernel, by decide +kernel, by decide +kernel, everyCluster (by decide +kernel)⟩, by unfold PlainWord PlainField; decide +kernel, by decide +kernel⟩,
   ⟨Fld.addr (.chn .ccMembersMask) 0 + 4, 0, 0x1234, .chn .ccMembersMask, {up [] with wrHold := [(Fld.addr (.chn .ccMembersMask) 0, 0x1234)]}, ⟨by decide +kernel, by decide +kernel, by decide +kernel, by decide +kernel, everyCluster (by decide +kernel)⟩, by decide +kernel, by unfold PlainField; decide +kernel, by decide +kernel⟩,
   ⟨0xFFF0, up [], ⟨by decide +kernel, by decide +kernel, by decide +kernel, by decide +kernel, everyCluster (by decide +kernel)⟩, by decide +kernel⟩,
   ⟨(UType.statusPlace .obs).1, 0, .obs, 4, up [(.st .obs .fatal,0,1)], by decide +kernel, by decide +kernel, by decide +kernel, by decide +kernel, everyCluster (by decide +kernel), by decide +kernel⟩,
   ⟨Fld.addr (.chn .ccMembersMask) 0, 0, .chn .ccMembersMask, up [], ⟨by decide +kernel, by decide +kernel, by decide +kernel, by decide +kernel, everyCluster (by decide +kernel)⟩, by decide +kernel, by unfold PlainField; decide +kernel, by decide +kernel⟩,
   ⟨1, (3, 2), [], (up []).modPic 1 fun p => {p with retires := [(3,2)], retireLost := true}, by decide +kernel⟩⟩

theorem wit_UnitFaults :
    (∃ (i : Nat) (u : UType) (s : State), 6 ≤ u.code ∧ s.fusedOff u i = false)
    ∧ (∃ (u : UType) (c : Fin 4) (s : State), (u = .comp ∨ u = .geo ∨ u = .geoCol ∨ u = .pln ∨ u = .chr) ∧ s.fusedOff u c = false)
    ∧ (∃ (c : Fin 4) (s : State), s.clusterOn c = true) :=
  ⟨⟨0, .alm, up [], by decide +kernel⟩,
   ⟨.pln, 1, lit.modChan 1 2 fun k => {k with len := true}, by decide +kernel⟩,
   ⟨1, lit.modChan 1 2 fun k => {k with len := true}, by decide +kernel⟩⟩

theorem wit_MeridiansAndCommits :
    (∃ (c : Fin 4) (s : State), s.clusterOn c = true ∧ s.cfg[c].present = true ∧ s.rd (.pwr .stateStep) 0 = 9 ∧ s.domOn (38 + c.val) = true ∧ s.cloneSrc c = none ∧ s.unitFatal .chr c = false ∧ s.stopped.contains (.chr, c.val) = false ∧ s.chr[c].running = true)
    ∧ (∃ (c : Fin 4) (s : State), s.clusterOn c = true ∧ s.on (.chr .commitReq) c = false)
    ∧ (∃ (c : Fin 4) (s : State), s.on (.chr .commitReq) c = true)
    ∧ (∃ (t : Nat) (c : Fin 4) (s : State), s.clusterOn c = true ∧ s.on (.chr .commitReq) c = true ∧ (s.advance t).cancelTooLate c = false)
    ∧ (∃ (t : Nat) (c : Fin 4) (f : FrameRec) (fs : List FrameRec) (s : State), s.chr[c].running = true ∧ s.pic[c].frames = f :: fs ∧ f.num < s.rd (.chr .showFrame) c ∧ s.chr[c].lastF + usCclk 2 ≤ max s.now t)
    ∧ (∃ (c : Fin 4) (h : HeldState) (s : State), s.chr[c].held = some h ∧ h.wake.isSome = true ∧ s.heldLive = []) :=
  ⟨⟨1, showing, by decide +kernel⟩,
   ⟨1, up [], by decide +kernel⟩,
   ⟨1, up [(.chr .commitReq,1,1)], by decide +kernel⟩,
   ⟨5, 1, up [(.chr .commitReq,1,1)], by decide +kernel⟩,
   ⟨40000, 1, frame1, [], showing.wr (.chr .showFrame) 1 2, by decide +kernel⟩,
   ⟨1, ⟨0, 0, none, some (4, 2), none, []⟩, (up [(.hbm .pcStatePwr,3,1)]).modChr 1 fun h => {h with held := some ⟨0, 0, none, some (4, 2), none, []⟩}, by decide +kernel⟩⟩

theorem wit_FrameInstants :
    (∃ (n : Nat) (c : Fin 4) (f : FrameRec) (s : State), s.chr[c].running = true ∧ s.nextShown c = some n ∧ n < 2 ^ 32 ∧ (s.wr (.chr .showFrame) c n).shownRec c = some f)
    ∧ (∃ (c : Fin 4) (f : FrameRec) (g : Nat × List SchedEntry) (s : State), s.chr[c].running = true ∧ s.shownRec c = some f ∧ (State.shownSegs f)[s.chr[c].seg]? = some g)
    ∧ (∃ (t : Nat) (first : Nat) (last : Nat) (c : Fin 4) (ent : Option (Nat × Nat)) (f : FrameRec) (s : State), s.chr[c].running = true ∧ s.chr[c].seg ≠ 0 ∧ s.shownRec c = some f ∧ first ≤ last ∧ last < s.cfg[c].bands ∧ s.resetDue c f (max s.now t) first last ent = true ∧ s.arrayFed c = true ∧ s.drives = true)
    ∧ (∃ (t : Nat) (c : Fin 4) (k : Fin 6) (f : FrameRec) (s : State), s.chr[c].running = true ∧ s.chr[c].seg ≠ 0 ∧ s.shownRec c = some f ∧ s.light[c].awin = false ∧ max s.now t = s.chr[c].lastG + f.sched.hdr.settle ∧ k ∈ banksOf (Fin.ofNat 3 s.light[c].segPrim) ∧ s.light[c].chans[k].lostPulse = false ∧ s.gateOpen c k = true ∧ s.light[c].segDim[(Fin.ofNat 3 s.light[c].segPrim : Fin 3)] ≠ 0)
    ∧ (∃ (c : Fin 4) (f : FrameRec) (s : State), s.chr[c].running = true ∧ s.chr[c].seg ≠ 0 ∧ s.shownRec c = some f ∧ f.sched.hdr.tform = false)
    ∧ (∃ (c : Fin 4) (s : State), s.chr[c].running = true ∧ s.chr[c].seg ≠ 0) :=
  ⟨⟨1, 1, frame1, showing.wr (.chr .showFrame) 1 0, by decide +kernel⟩,
   ⟨1, frame1, ((State.shownSegs frame1)[0]?).getD (0, []), showing.modChr 1 fun h => {h with seg := 0}, by decide +kernel⟩,
   ⟨tPortion sched0.hdr ((State.shownSegs frame1)[0]?.getD (0, [])).2, 0, 1, 1, some (5, 0), frame1, showing.modLight 1 fun l => {l with awin := true}, by decide +kernel⟩,
   ⟨1600, 1, 2, frame1, lit, by decide +kernel⟩,
   ⟨1, frame1, lit.modChan 1 2 fun k => {k with len := true}, by decide +kernel⟩,
   ⟨1, lit.modChan 1 2 fun k => {k with len := true}, by decide +kernel⟩⟩

theorem wit_BandsAndBlocks :
    (∃ (t : Nat) (frame : Nat) (prim : Nat) (bitn : Nat) (piece : Nat) (band : Nat) (c : Fin 4) (f : FrameRec) (s : State), s.frameRec c frame = some f ∧ f.kind = .composed ∧ s.domOn (34 + c.val) = true ∧ prim < 3 ∧ bitn < 16 ∧ band < s.cfg[c].bands ∧ s.regionStopped (c.val / 2) = false ∧ s.bandPoison c frame prim bitn band = none ∧ (s.advance t).bandLate c f prim bitn piece band = false)
    ∧ (∃ (t : Nat) (frame : Nat) (prim : Nat) (bitn : Nat) (piece : Nat) (band : Nat) (c : Fin 4) (f : FrameRec) (s : State), s.frameRec c frame = some f ∧ f.kind = .fallback ∧ s.domOn (34 + c.val) = true ∧ prim < 3 ∧ bitn < 16 ∧ band < s.cfg[c].bands ∧ f.badBands.contains band = false ∧ s.bandPlateBad c band = none ∧ (∃ x ∈ (s.advance t).resetsAhead c f prim bitn piece band, (s.advance t).sendDeadline c x = (max s.now t : Nat)))
    ∧ (∃ (t : Nat) (frame : Nat) (seg : Nat) (prim : Nat) (bitn : Nat) (piece : Nat) (band : Nat) (blk : Nat) (resetAt : Nat) (wrap : Bool) (c : Fin 4) (d : BandData) (f : FrameRec) (cut : Nat × Nat) (lane : Nat × Nat) (s : State), (s.tri[c].bands.find? fun x => x.frame == frame && x.prim == prim && x.bitn == bitn && x.piece == piece && x.band == band) = some d ∧ s.frameRec c frame = some f ∧ (cutBand (blockRows (s.cfg[c].w / 8)) (s.cfg[c].h + 1) (bandFirst s.cfg[c].h s.cfg[c].bands band) (bandRows s.cfg[c].h s.cfg[c].bands band).length)[blk]? = some cut ∧ (s.advance t).firstFree c = some lane ∧ s.arrayFed c = true ∧ (s.advance t).linkNow c ≠ 3 ∧ (s.advance t).maySend c f seg prim bitn piece wrap band blk cut.1 (s.placeOf c f.sched f.placeBase seg prim bitn piece wrap) lane.2 resetAt = true)
    ∧ (∃ (t : Nat) (seq : Nat) (bcrc : Nat) (c : Fin 4) (b : SentBlock) (s : State), s.blockOf c seq = some b ∧ b.padOk = none ∧ b.trailerAt ≤ max s.now t ∧ bcrc = blockCrc b.hdr b.payload)
    ∧ (∃ (t : Nat) (seq : Nat) (bcrc : Nat) (c : Fin 4) (b : SentBlock) (s : State), s.blockOf c seq = some b ∧ b.padOk = none ∧ b.trailerAt ≤ max s.now t ∧ bcrc ≠ blockCrc b.hdr b.payload)
    ∧ (∃ (t : Nat) (c : Fin 4) (m : List Byte) (b : SentBlock) (s : State), ReturnMsg s c 1 m ∧ s.blockOf c (fieldOf m 2 2) = some b ∧ b.lane = fieldOf m 1 1 % 32 ∧ fieldOf m 1 1 / 32 = 0 ∧ fieldOf m 4 4 = blockCrc b.hdr b.payload ∧ b.trailerAt ≤ max s.now t ∧ max s.now t ≤ b.trailerAt + s.rd (.tri .echoTmoTmo) c ∧ b.echoOk = none ∧ s.role ≠ 2)
    ∧ (∃ (t : Nat) (seq : Nat) (c : Fin 4) (b : SentBlock) (s : State), s.blockOf c seq = some b ∧ b.echoOk = none ∧ b.trailerAt + s.rd (.tri .echoTmoTmo) c ≤ max s.now t)
    ∧ (∃ (frame : Nat) (prim : Nat) (bitn : Nat) (band : Nat) (c : Fin 4) (f : FrameRec) (s : State), s.frameRec c frame = some f ∧ f.kind = .composed ∧ s.domOn (34 + c.val) = true ∧ prim < 3 ∧ bitn < 16 ∧ band < s.cfg[c].bands ∧ s.regionStopped (c.val / 2) = true ∧ s.bandPlateBad c band = none ∧ (∀ y ∈ bandRows s.cfg[c].h s.cfg[c].bands band, (s.plateRow c y).1 = f.num)) :=
  ⟨⟨5, 1, 1, 15, 0, 1, 1, frame1, showing.modChr 1 fun h => {h with lastF := 100000}, by decide +kernel⟩,
   ⟨85600, 1, 1, 15, 0, 1, 1, {frame1 with kind := .fallback}, (showing.modChr 1 fun h => {h with lastF := 100000}).modPic 1 fun p => {p with frames := [{frame1 with kind := .fallback}]}, by decide +kernel⟩,
   ⟨5, 1, 0, 1, 15, 0, 0, 0, 90000, false, 1, ⟨1, 1, 15, 0, 0, [[7]]⟩, frame1, (0, 1), (0, 5), (showing.modTri 1 fun t => {t with bands := [⟨1, 1, 15, 0, 0, [[7]]⟩]}).wr (.chr .showFrame) 1 0, by decide +kernel⟩,
   ⟨5, 9, blockCrc blk0.hdr blk0.payload, 1, blk0, sending, by decide +kernel⟩,
   ⟨5, 9, blockCrc blk0.hdr blk0.payload + 1, 1, blk0, sending, by decide +kernel⟩,
   ⟨5, 1, msg 12 ([1, 3, 9, 0] ++ leBytes 4 (blockCrc blk0.hdr blk0.payload)), blk0, sending, by unfold ReturnMsg; decide +kernel, by decide +kernel⟩,
   ⟨50000, 9, 1, blk0, sending, by decide +kernel⟩,
   ⟨1, 1, 15, 1, 1, frame1, (showing.wr (.hbm .rgnStatState) 0 1).modPic 1 fun p => {p with composedNum := 1, composedPrevNum := 1}, by decide +kernel⟩⟩

theorem wit_ReturnMessages :
    (∃ (c : Fin 4) (m : List Byte) (a : PendingAck) (s : State), ReturnMsg s c 2 m ∧ (s.tri[c].acks.find? fun a => a.cseq == fieldOf m 4 2) = some a ∧ fieldOf m 8 1 = 0)
    ∧ (∃ (c : Fin 4) (m : List Byte) (a : PendingAck) (s : State), ReturnMsg s c 2 m ∧ (s.tri[c].acks.find? fun a => a.cseq == fieldOf m 4 2) = some a ∧ (fieldOf m 8 1 = 2 ∨ fieldOf m 8 1 = 3))
    ∧ (∃ (t : Nat) (cseq : Nat) (c : Fin 4) (a : PendingAck) (s : State), (s.tri[c].acks.find? fun a => a.cseq == cseq) = some a ∧ a.settleAt + usCclk 1 ≤ max s.now t)
    ∧ (∃ (c : Fin 4) (m : List Byte) (s : State), ReturnMsg s c 3 m)
    ∧ (∃ (c : Fin 4) (m : List Byte) (s : State), ReturnMsg s c 4 m)
    ∧ (∃ (c : Fin 4) (m : List Byte) (s : State), ReturnMsg s c 5 m)
    ∧ (∃ (c : Fin 4) (m : List Byte) (s : State), ReturnMsg s c 6 m)
    ∧ (∃ (c : Fin 4) (m : List Byte) (s : State), ReturnMsg s c 7 m)
    ∧ (∃ (c : Fin 4) (m : List Byte) (s : State), ReturnMsg s c 8 m ∧ fieldOf m 1 1 < 17 ∧ fieldOf m 2 1 = 1)
    ∧ (∃ (c : Fin 4) (m : List Byte) (s : State), ReturnMsg s c 8 m ∧ fieldOf m 1 1 < 17 ∧ fieldOf m 2 1 = 2) :=
  ⟨⟨1, msg 12 [2, 0, 0, 0, 9, 0, 0, 0, 0], ack0, awaiting, by unfold ReturnMsg; decide +kernel, by decide +kernel⟩,
   ⟨1, msg 12 [2, 0, 0, 0, 9, 0, 0, 0, 2], ack0, awaiting, by unfold ReturnMsg; decide +kernel, by decide +kernel⟩,
   ⟨9999, 9, 1, ack0, awaiting, by decide +kernel⟩,
   ⟨1, msg 12 [3], showing, by unfold ReturnMsg; decide +kernel⟩,
   ⟨1, msg 12 [4, 200, 1], showing, by unfold ReturnMsg; decide +kernel⟩,
   ⟨1, msg 12 [5, 1], showing, by unfold ReturnMsg; decide +kernel⟩,
   ⟨1, msg 12 [6, 4], showing, by unfold ReturnMsg; decide +kernel⟩,
   ⟨1, msg 12 [7, 4, 0, 1, 2, 0, 0, 3], showing, by unfold ReturnMsg; decide +kernel⟩,
   ⟨1, msg 12 [8, 4, 1, 7], showing, by unfold ReturnMsg; decide +kernel, by decide +kernel⟩,
   ⟨1, msg 12 [8, 4, 2, 7], showing, by unfold ReturnMsg; decide +kernel, by decide +kernel⟩⟩

theorem wit_LinkFaultsAndTraining :
    (∃ (c : Fin 4) (s : State), s.domOn (42 + c.val) = true ∧ s.rd (.tri .stateLink) c ≠ 0)
    ∧ (∃ (t : Nat) (c : Fin 4) (s : State), (s.rd (.tri .stateLink) c = 2 ∨ s.rd (.tri .stateLink) c = 3 ∨ s.rd (.tri .stateLink) c = 5) ∧ s.tri[c].statusAt + usCclk 250 ≤ max s.now t)
    ∧ (∃ (t : Nat) (c : Fin 4) (lane : Fin 17) (s : State), s.rd (.tri .laneCfgErrlim) c < (s.advance t).mismatches c lane ∧ (s.workingLanes c).contains lane.val = true)
    ∧ (∃ (c : Fin 4) (s : State), s.rd (.tri .ctrlRlane) c < 17 ∧ (s.workingLanes c).contains (s.rd (.tri .ctrlRlane) c) = false)
    ∧ (∃ (t : Nat) (i : Nat) (c : Fin 4) (s : State), s.tri[c].retrain = some i ∧ i < 17 ∧ (s.workingLanes c).contains i = false ∧ (s.advance t).bandsOffNow c = true)
    ∧ (∃ (i : Nat) (c : Fin 4) (s : State), s.tri[c].retrain = some i)
    ∧ (∃ (c : Fin 4) (x : BringUp) (s : State), s.clusterOn c = true ∧ s.cfg[c].present = true ∧ s.heldLive = [] ∧ s.role ≠ 2 ∧ x.retlock = true ∧ x.state2 = 1 ∧ x.state8 = 2 ∧ (∀ i, i < 17 → bit x.locks i = true ∧ (x.taps.getD i none).isSome = true) ∧ s.identFault c (msgField x.ident0 1 1 * 128) (msgField x.ident0 2 2) (msgField x.ident0 4 1) (msgField x.ident0 5 1) (msgField x.ident0 6 2) (msgField x.ident0 8 1) = none) :=
  ⟨⟨1, showing, by decide +kernel⟩,
   ⟨900000, 1, showing, by decide +kernel⟩,
   ⟨5, 1, 3, (showing.modTri 1 fun t => {t with mism := [(3,4)]}).wr (.tri .laneCfgErrlim) 1 0, by decide +kernel⟩,
   ⟨1, (showing.wr (.tri .stateWorking) 1 7).wr (.tri .ctrlRlane) 1 5, by decide +kernel⟩,
   ⟨5, 5, 1, ((showing.modChr 1 fun h => {h with seg := 0}).wr (.tri .stateWorking) 1 7).modTri 1 fun t => {t with retrain := some 5}, by decide +kernel⟩,
   ⟨5, 1, (showing.wr (.tri .stateWorking) 1 7).modTri 1 fun t => {t with retrain := some 5}, by decide +kernel⟩,
   ⟨1, ⟨true, 1, 0x1FFFF, ident0, [], [], [], List.replicate 17 (some (2, 3)), 2, 4⟩, bringing, by decide +kernel⟩⟩

theorem wit_LightCommands :
    (∃ (c : Fin 4) (s : State), s.clusterOn c = true)
    ∧ (∃ (high : Nat) (c : Fin 4) (s : State), msCclk 100 ≤ high ∧ s.on (.lsr .intlkTripped) c = true)
    ∧ (∃ (c : Fin 4) (s : State), s.on (.lsr .outStopped) c = false ∧ s.rd (.lsr .fadeStopT) c ≠ 0)
    ∧ (∃ (c : Fin 4) (s : State), s.on (.lsr .outStopped) c = false ∧ s.rd (.lsr .fadeStopT) c = 0)
    ∧ (∃ (c : Fin 4) (s : State), s.on (.lsr .outStopped) c = true ∧ s.light[c].policyOff = false)
    ∧ (∃ (c : Fin 4) (k : Fin 6) (s : State), s.chState c k = 5 ∧ s.light[c].chans[k].thermal = false) :=
  ⟨⟨1, lit.modChan 1 2 fun k => {k with len := true}, by decide +kernel⟩,
   ⟨msCclk 100, 1, lit.wr (.lsr .intlkTripped) 1 1, by decide +kernel⟩,
   ⟨1, lit.wr (.lsr .fadeStopT) 1 9, by decide +kernel⟩,
   ⟨1, (lit.wr (.lsr .fadeStopT) 1 0).modChan 1 2 fun k => {k with len := true}, by decide +kernel⟩,
   ⟨1, lit.wr (.lsr .outStopped) 1 1, by decide +kernel⟩,
   ⟨1, 2, lit.wr (.lsr .chStateState) 8 5, by decide +kernel⟩⟩

theorem wit_LightMeasurements :
    (∃ (temp : Int) (c : Fin 4) (i : Fin 4) (s : State), s.domOn (9 + c.val) = true ∧ s.halted .tsen (c.val * 4 + i.val) = false ∧ -2 ^ 15 ≤ temp ∧ temp < 2 ^ 15)
    ∧ (∃ (t : Nat) (c : Fin 4) (high : Bool) (s : State), s.light[c].load = none ∧ (if high then s.light[c].pendHigh else s.light[c].pendLow) = true ∧ s.domOn (9 + c.val) = true ∧ s.domOn 8 = true ∧ s.light[c].latchAt ≤ max s.now t ∧ s.light[c].lampEnd + usCclk 10 ≤ max s.now t ∧ s.halted .lamp c = false)
    ∧ (∃ (c : Fin 4) (k : Fin 6) (s : State), s.domOn (9 + c.val) = true ∧ (s.light[c].chans[k].diagOn = true ∨ (s.light[c].chans[k].len = true ∧ 16384 ≤ dimD s.light[c].segDim[primOf k])))
    ∧ (∃ (t : Nat) (c : Fin 4) (s : State), s.rd (.lsr .wearInterval) c ≠ 0 ∧ s.light[c].wearAt + s.rd (.lsr .wearInterval) c * msCclk 60000 ≤ max s.now t ∧ s.light[c].load.isSome = true)
    ∧ (∃ (t : Nat) (c : Fin 4) (s : State), s.rd (.lsr .wearInterval) c ≠ 0 ∧ s.light[c].wearAt + s.rd (.lsr .wearInterval) c * msCclk 60000 ≤ max s.now t ∧ s.light[c].load = none ∧ s.light[c].latchAt ≤ max s.now t ∧ s.light[c].pendHigh = false ∧ s.light[c].pendLow = false ∧ (∀ k : Fin 6, s.light[c].chans[k].search = none) ∧ s.on (.lsr .outLightoff) c = false) :=
  ⟨⟨500, 1, 3, lit, by decide +kernel⟩,
   ⟨20000, 1, true, lit.modLight 1 fun l => {l with pendHigh := true}, by decide +kernel⟩,
   ⟨1, 2, lit.modChan 1 2 fun k => {k with len := true}, by decide +kernel⟩,
   ⟨msCclk 60000, 1, (lit.wr (.lsr .wearInterval) 1 1).modLight 1 fun l => {l with load := some ⟨.high, [], 4, false⟩}, by decide +kernel⟩,
   ⟨msCclk 60000, 1, lit.wr (.lsr .wearInterval) 1 1, by decide +kernel⟩⟩

theorem wit_ChainAddresses :
    (∃ (s : State), s.domOn 8 = true ∧ s.chn.rx[0] = false ∧ s.on (.chn .addrHead) 0 = false)
    ∧ (∃ (t : Nat) (s : State), Head s ∧ (s.advance t).quietCut = false)
    ∧ (∃ (m : List Byte) (s : State), ChainMsg s 0x03 m)
    ∧ (∃ (m : List Byte) (s : State), ChainMsg s 0x04 m ∧ Head s)
    ∧ (∃ (m : List Byte) (s : State), ChainMsg s 0x04 m ∧ ¬ Head s)
    ∧ (∃ (t : Nat) (s : State), s.domOn 8 = true ∧ (s.advance t).quietCut = false)
    ∧ (∃ (m : List Byte) (s : State), ChainMsg s 0x05 m)
    ∧ (∃ (m : List Byte) (s : State), ChainMsg s 0x06 m ∧ fieldOf m 4 4 = s.chn.pingSeq)
    ∧ (∃ (port : Fin 2) (up : Bool) (s : State), s.domOn 8 = true ∧ s.chn.rx[port] ≠ up)
    ∧ (∃ (m : List Byte) (s : State), ChainMsg s 0x0B m)
    ∧ (∃ (m : List Byte) (s : State), ChainMsg s 0x0C m ∧ fieldOf m 4 1 ≠ 0 ∧ fieldOf m 4 1 ≠ s.rd (.chn .addrAddr) 0)
    ∧ (∃ (m : List Byte) (x : StartReport) (s : State), ChainMsg s 0x0C m ∧ (fieldOf m 4 1 = 0 ∨ fieldOf m 4 1 = s.rd (.chn .addrAddr) 0) ∧ s.rd (.pwr .stateState) 0 = 2 ∧ x.upto ≤ 3) :=
  ⟨⟨up [(.chn .addrHead,0,0)], by decide +kernel⟩,
   ⟨5, head1 [], by unfold Head; decide +kernel, by decide +kernel⟩,
   ⟨msg 18 [3, 255, 2, 0, 2, 7], head1 [], by unfold ChainMsg; decide +kernel⟩,
   ⟨msg 18 [4, 1, 9, 0, 9, 7, 1], head1 [], by unfold ChainMsg; decide +kernel, by unfold Head; decide +kernel⟩,
   ⟨msg 18 [4, 1, 9, 0, 9, 7, 1], third [], by unfold ChainMsg; decide +kernel, by unfold Head; decide +kernel⟩,
   ⟨5, third [], by decide +kernel⟩,
   ⟨msg 18 [5, 255, 2, 0, 1, 2, 3, 4], third [], by unfold ChainMsg; decide +kernel⟩,
   ⟨msg 18 [6, 255, 2, 0, 8, 0, 0, 0, 2, 0, 0, 0], (third []).modChn fun x => {x with pingSeq := 8, pingAt := 2}, by unfold ChainMsg; decide +kernel, by decide +kernel⟩,
   ⟨1, true, third [], by decide +kernel⟩,
   ⟨msg 18 [0xB, 0, 2, 0, 8], third [], by unfold ChainMsg; decide +kernel⟩,
   ⟨msg 18 [0xC, 7, 2, 0, 7], third [], by unfold ChainMsg; decide +kernel, by decide +kernel⟩,
   ⟨msg 18 [0xC, 3, 2, 0, 3], start0 3, third [(.pwr .stateState,0,2)], by unfold ChainMsg; decide +kernel, by decide +kernel⟩⟩

theorem wit_ChainTime :
    (∃ (t : Nat) (s : State), Head s ∧ (s.advance t).quietCut = false)
    ∧ (∃ (m : List Byte) (s : State), ChainMsg s 0x01 m ∧ ForUs s m)
    ∧ (∃ (t : Nat) (l : Nat) (s : State), s.chn.lastTime = some l ∧ ¬ Head s ∧ s.chn.timeLost = false ∧ l + msCclk 10 ≤ max s.now t)
    ∧ (∃ (s : State), Head s)
    ∧ (∃ (s : State), Head s ∧ s.on (.chn .fsCfgEn) 0 = true ∧ s.on (.chn .fsCfgSrc) 0 = false ∧ s.chn.fsync = none)
    ∧ (∃ (t : Nat) (x : Fsync) (s : State), Head s ∧ s.on (.chn .fsCfgEn) 0 = true ∧ s.on (.chn .fsCfgSrc) 0 = false ∧ s.chn.fsync = some x ∧ (s.advance t).wall512 / 8 ≤ x.sync + s.rd (.chn .fsPeriodPeriod) 0 ∧ x.sync + s.rd (.chn .fsPeriodPeriod) 0 ≤ (s.advance t).wall512 / 8 + (usCclk 200 : Nat))
    ∧ (∃ (m : List Byte) (s : State), ChainMsg s 0x02 m ∧ ForUs s m)
    ∧ (∃ (m : List Byte) (s : State), ChainMsg s 0x01 m ∧ ¬ ForUs s m)
    ∧ (∃ (m : List Byte) (s : State), ChainMsg s 0x02 m ∧ ¬ ForUs s m) :=
  ⟨⟨5, head1 [(.chn .wtStatValid,0,1)], by unfold Head; decide +kernel, by decide +kernel⟩,
   ⟨msg 18 [1, 0, 2, 1, 8, 0, 0, 0, 2, 0, 0, 0, 1, 2, 0, 0], third [], by unfold ChainMsg; decide +kernel, by unfold ForUs; decide +kernel⟩,
   ⟨msCclk 11, 5, (third []).modChn fun x => {x with lastTime := some 5}, by decide +kernel, by unfold Head; decide +kernel, by decide +kernel⟩,
   ⟨head1 [(.chn .wtSetTime,0,123456789)], by unfold Head; decide +kernel⟩,
   ⟨head1 [(.chn .fsCfgEn,0,1)], by unfold Head; decide +kernel, by decide +kernel⟩,
   ⟨5, ⟨3, 4⟩, (head1 [(.chn .fsCfgEn,0,1),(.chn .fsPeriodPeriod,0,1000)]).modChn fun x => {x with fsync := some ⟨3, 4⟩}, by unfold Head; decide +kernel, by decide +kernel⟩,
   ⟨msg 18 [2, 0, 2, 1, 8, 0, 0, 0, 2, 0, 0, 0, 1, 2, 0, 0], third [], by unfold ChainMsg; decide +kernel, by unfold ForUs; decide +kernel⟩,
   ⟨msg 18 [1, 7, 2, 1, 8, 0, 0, 0, 2, 0, 0, 0, 1, 2, 0, 0], third [], by unfold ChainMsg; decide +kernel, by unfold ForUs; decide +kernel⟩,
   ⟨msg 18 [2, 7, 2, 1, 8, 0, 0, 0, 2, 0, 0, 0, 1, 2, 0, 0], third [], by unfold ChainMsg; decide +kernel, by unfold ForUs; decide +kernel⟩⟩

theorem wit_CoherentCommit :
    (∃ (s : State) (set : List Nat), set = ((allClusters.filter fun (c : Fin 4) => s.clusterOn c && s.on (.chr .commitReq) c && s.on (.chr .commitMode) c).map Fin.val) ∧ set ≠ [] ∧ s.rd (.chn .addrAddr) 0 ≠ 0)
    ∧ (∃ (s : State), (s.rd (.chn .addrAddr) 0 = 0 ∨ (allClusters.filter fun (c : Fin 4) => s.clusterOn c && s.on (.chr .commitReq) c && s.on (.chr .commitMode) c) = []))
    ∧ (∃ (t : Nat) (s : State), s.domOn 8 = true ∧ s.ownArmState ≠ 0 ∧ ¬ Head s ∧ (s.advance t).quietCut = false)
    ∧ (∃ (m : List Byte) (s : State), ChainMsg s 0x07 m ∧ Head s)
    ∧ (∃ (m : List Byte) (s : State), ChainMsg s 0x07 m ∧ ¬ Head s)
    ∧ (∃ (s : State), Head s ∧ s.ccOpen = false)
    ∧ (∃ (f : Nat) (s : State), Head s ∧ s.ccOpen = true ∧ (s.ccExpected.filter fun a => !s.ccArmedAt a) = [] ∧ f = (if 200 < s.rd (.chn .ccCfgCut) 0 then (s.rd (.chn .wframeF) 0 + 1) % 2 ^ 64 else s.rd (.chn .wframeF) 0))
    ∧ (∃ (m : List Byte) (c : Fin 4) (x : Fsync) (s : State), ChainMsg s 0x08 m ∧ ForUs s m ∧ s.chn.armed.contains c.val = true ∧ s.chn.armId = fieldOf m 4 1 ∧ s.chn.fsync = some x ∧ s.wallFrameOf (fieldOf m 5 4) ≤ x.frame)
    ∧ (∃ (m : List Byte) (s : State), ChainMsg s 0x09 m ∧ ForUs s m)
    ∧ (∃ (m : List Byte) (s : State), ChainMsg s 0x0A m ∧ ForUs s m)
    ∧ (∃ (m : List Byte) (c : Fin 4) (s : State), ChainMsg s 0x08 m ∧ ForUs s m ∧ s.chn.armed.contains c.val = true ∧ s.chn.armId = fieldOf m 4 1 ∧ (s.chn.fsync.all fun x => decide (x.frame < s.wallFrameOf (fieldOf m 5 4))) = true)
    ∧ (∃ (m : List Byte) (s : State), ChainMsg s 0x08 m ∧ ¬ ForUs s m)
    ∧ (∃ (m : List Byte) (s : State), ChainMsg s 0x09 m ∧ ¬ ForUs s m)
    ∧ (∃ (m : List Byte) (s : State), ChainMsg s 0x0A m ∧ ¬ ForUs s m) :=
  ⟨⟨third [(.chr .commitReq,1,1),(.chr .commitMode,1,1)], [1], by decide +kernel⟩,
   ⟨up [(.chr .commitReq,1,1),(.chr .commitMode,1,1)], by decide +kernel⟩,
   ⟨5, (third [(.chn .ccArmed,0,1)]).modChn fun x => {x with armed := [1], armId := 4}, by decide +kernel, by decide +kernel, by unfold Head; decide +kernel, by decide +kernel⟩,
   ⟨msg 18 [7, 1, 3, 0, 4, 1, 2], head1 [], by unfold ChainMsg; decide +kernel, by unfold Head; decide +kernel⟩,
   ⟨msg 18 [7, 1, 3, 0, 4, 1, 2], third [], by unfold ChainMsg; decide +kernel, by unfold Head; decide +kernel⟩,
   ⟨head1 [], by unfold Head; decide +kernel, by decide +kernel⟩,
   ⟨0, (head1 [(.chn .ccId,0,4),(.chn .ccMembersMask,0,4)]).modChn fun x => {x with arms := [⟨3, 4, 1, 2⟩]}, by unfold Head; decide +kernel, by decide +kernel⟩,
   ⟨msg 18 [8, 0, 1, 0, 4, 9], 1, ⟨9, 200⟩, (third []).modChn fun x => {x with armed := [1], armId := 4, fsync := some ⟨9, 200⟩}, by unfold ChainMsg; decide +kernel, by unfold ForUs; decide +kernel, by decide +kernel⟩,
   ⟨msg 18 [9, 0, 1, 0, 4, 9, 0, 0, 0, 6], third [], by unfold ChainMsg; decide +kernel, by unfold ForUs; decide +kernel⟩,
   ⟨msg 18 [10, 0, 1, 0, 4], (third [(.chr .commitReq,1,1)]).modChn fun x => {x with armed := [1], armId := 4}, by unfold ChainMsg; decide +kernel, by unfold ForUs; decide +kernel⟩,
   ⟨msg 18 [8, 0, 1, 0, 4, 9], 1, (third []).modChn fun x => {x with armed := [1], armId := 4, fsync := some ⟨8, 200⟩}, by unfold ChainMsg; decide +kernel, by unfold ForUs; decide +kernel, by decide +kernel⟩,
   ⟨msg 18 [8, 7, 1, 0, 4, 9], third [], by unfold ChainMsg; decide +kernel, by unfold ForUs; decide +kernel⟩,
   ⟨msg 18 [9, 7, 1, 0, 4, 9], third [], by unfold ChainMsg; decide +kernel, by unfold ForUs; decide +kernel⟩,
   ⟨msg 18 [10, 7, 1, 0, 4, 9], third [], by unfold ChainMsg; decide +kernel, by unfold ForUs; decide +kernel⟩⟩

theorem wit_PairMessages :
    (∃ (s : State), s.par.linkUp = true)
    ∧ (∃ (t : Nat) (h : Nat) (s : State), s.par.lastHb = some h ∧ s.on (.par .statHbOk) 0 = true ∧ h + usCclk 35 ≤ max s.now t)
    ∧ (∃ (skew : Int) (s : State), s.par.linkUp = true ∧ s.role = 2 ∧ -2 ^ 15 ≤ skew ∧ skew < 2 ^ 15)
    ∧ (∃ (seq : Nat) (c : Fin 4) (s : State), s.par.linkUp = true ∧ s.role = 2 ∧ s.blockOf c seq = none)
    ∧ (∃ (frame : Nat) (c : Fin 4) (s : State), s.par.linkUp = true ∧ s.role = 2 ∧ (s.on (.par .statLockstep) 0 = false ∨ s.rd (.chr .frameFrame) c ≠ frame))
    ∧ (∃ (s : State), s.par.linkUp = true ∧ s.role = 2 ∧ s.on (.par .statLockstep) 0 = true)
    ∧ (∃ (k : Fin 6) (states : List Nat) (s : State), s.par.linkUp = true ∧ s.role = 2 ∧ k.val < states.length)
    ∧ (∃ (s : State), s.par.linkUp = true ∧ s.role = 1) :=
  ⟨⟨paired 2 [], by decide +kernel⟩,
   ⟨500000, 5, (paired 2 [(.par .statHbOk,0,1)]).modPar fun p => {p with lastHb := some 5}, by decide +kernel⟩,
   ⟨-9, paired 2 [], by decide +kernel⟩,
   ⟨3, 1, paired 2 [], by decide +kernel⟩,
   ⟨3, 1, paired 2 [], by decide +kernel⟩,
   ⟨(paired 2 [(.par .statLockstep,0,1)]).modPic 1 fun p => {p with tiles := [Tile.reset, Tile.reset]}, by decide +kernel⟩,
   ⟨2, [1, 2, 3, 0, 0, 0], paired 2 [], by decide +kernel⟩,
   ⟨paired 1 [], by decide +kernel⟩⟩

theorem wit_PairRoles :
    (∃ (lane : Fin 4) (rx : Bool) (s : State), s.par.linkUp = true ∧ bit (if rx then s.par.rxLanes else s.par.txLanes) lane = true)
    ∧ (∃ (tx : Fin 16) (rx : Fin 16) (s : State), s.role ≠ 0 ∧ tx ≠ 0 ∧ rx ≠ 0)
    ∧ (∃ (s : State), s.role = 1 ∧ s.par.linkUp = true)
    ∧ (∃ (s : State), s.role = 2 ∧ s.on (.par .statLockstep) 0 = true ∧ s.on (.par .statReady) 0 = true ∧ s.on (.par .ctrlAllow) 0 = true ∧ s.par.takeover = none)
    ∧ (∃ (t : Nat) (trigger : Nat) (xs : List Nat) (s : State), s.par.takeover = some (trigger, xs) ∧ xs.min?.getD 0 ≤ max s.now t ∧ s.role = 1)
    ∧ (∃ (t : Nat) (xs : List Nat) (s : State), s.par.takeover = some (1, xs) ∧ xs.min?.getD 0 ≤ max s.now t ∧ s.role = 2)
    ∧ (∃ (t : Nat) (a : Nat) (s : State), s.on (.par .statSelOwn) 0 = true ∧ s.par.selAt = some a ∧ a + usCclk 1 < max s.now t)
    ∧ (∃ (t : Nat) (a : Nat) (s : State), s.par.step8At = some a ∧ s.role = 2 ∧ a + msCclk 1000 ≤ max s.now t ∧ s.par.linkUp = false ∧ s.on (.par .statSelPeer) 0 = false ∧ s.par.yielded = false)
    ∧ (∃ (t : Nat) (a : Nat) (s : State), s.par.retryAt = some a ∧ a ≤ max s.now t ∧ s.on (.par .statSelPeer) 0 = false)
    ∧ (∃ (t : Nat) (a : Nat) (s : State), s.par.retryAt = some a ∧ a ≤ max s.now t ∧ s.on (.par .statSelPeer) 0 = true)
    ∧ (∃ (s : State), s.role ≠ 1)
    ∧ (∃ (s : State), s.role = 1 ∧ s.par.step8At.isSome = true ∧ s.par.retryAt = none) :=
  ⟨⟨2, true, paired 1 [], by decide +kernel⟩,
   ⟨3, 1, up [(.par .statRole,0,1)], by decide +kernel⟩,
   ⟨paired 1 [], by decide +kernel⟩,
   ⟨paired 2 [(.par .statReady,0,1),(.par .ctrlAllow,0,1),(.par .statLockstep,0,1)], by decide +kernel⟩,
   ⟨5, 1, [4, 5, 5, 5], (paired 1 [(.par .statSelOwn,0,1)]).modPar fun p => {p with takeover := some (1, [4, 5, 5, 5])}, by decide +kernel⟩,
   ⟨5, [4, 5, 5, 5], (paired 2 [(.par .statLockstep,0,1)]).modPar fun p => {p with takeover := some (1, [4, 5, 5, 5])}, by decide +kernel⟩,
   ⟨5000, 4, (paired 1 [(.par .statSelOwn,0,1)]).modPar fun p => {p with selAt := some 4}, by decide +kernel⟩,
   ⟨msCclk 1001, 4, (up [(.par .statRole,0,2)]).modPar fun p => {p with step8At := some 4}, by decide +kernel⟩,
   ⟨5, 4, (up [(.par .statRole,0,2)]).modPar fun p => {p with retryAt := some 4}, by decide +kernel⟩,
   ⟨5, 4, (up [(.par .statRole,0,1),(.par .statSelPeer,0,1)]).modPar fun p => {p with retryAt := some 4}, by decide +kernel⟩,
   ⟨up [(.par .statRole,0,2),(.par .statSelPeer,0,1)], by decide +kernel⟩,
   ⟨(up [(.par .statRole,0,1),(.par .statSelPeer,0,1)]).modPar fun p => {p with step8At := some 4}, by decide +kernel⟩⟩

end Sys2Proof.Tests
end

section
/-! What a counter's increment reads back as, and where a report's place in the error queue is (R329, R330). -/

namespace Sys2Proof.Machine

theorem satN_lt (w v : Nat) : satN w v < 2 ^ w := by
  have := Nat.two_pow_pos w
  unfold satN
  omega

/-- The place of the queued report that a new one is merged into is the first of its path and code that is no summary. -/
theorem coalesce_eq (r : Report) (q : List Report) :
    coalesce r q = (q.findIdx? fun x => x.path == r.path && x.code == r.code && !x.summary).map fun i =>
      q.modify i fun x => { x with count := min 255 (x.count + r.count), trigger := x.trigger || r.trigger } := by
  induction q with
  | nil => rfl
  | cons x q ih =>
    rw [coalesce, List.findIdx?_cons, ih]
    split
    · rfl
    · simp [Function.comp_def]

/-- SUB 0xFF, which stands for the unit as a whole, is kept for every type of unit (R34). -/
@[simp] theorem subOf_whole (u : UType) : State.subOf u 0xFF = 0xFF := by
  cases u <;> rfl

/-- A field that no report changes is of none of the parts that `report_rd` excepts. -/
theorem part_of_not_eventFld {f : Fld} (h : eventFld f = false) :
    f.part ≠ .status ∧ f.part ≠ .reg .log ∧ f ≠ .chr .heldWake := by
  refine ⟨?_, ?_, ?_⟩
  · cases f <;> simp_all [eventFld]
  · cases f <;> simp_all [eventFld]
  · rintro rfl
    simp [eventFld] at h

namespace State

theorem rd_bump_same (s : State) (f : Fld) (i : Nat) : (s.bump f i).rd f i = satN f.info.width (s.rd f i + 1) := by
  rw [bump, bumpBy, rd_wr_same, Nat.mod_eq_of_lt (satN_lt _ _)]

theorem rd_bump_ne (s : State) {f g : Fld} {i j : Nat} (h : ¬ (f = g ∧ i = j)) : (s.bump g j).rd f i = s.rd f i :=
  rd_wr_ne s h

/-- The wall time depends on one register, the VALID bit of CHN_WT_STAT. -/
theorem wall_bump (s : State) {f : Fld} {i : Nat} (h : f ≠ .chn .wtStatValid) : (s.bump f i).wall = s.wall := by
  have hv : (s.bump f i).on (.chn .wtStatValid) 0 = s.on (.chn .wtStatValid) 0 := by
    unfold on
    rw [rd_bump_ne _ fun e => h e.1.symm]
  simp [wall, hv, wall512]

@[simp] theorem setQueue_queue (s : State) (q : List Report) : (s.setQueue q).log.queue = q := by
  simp only [setQueue]
  split <;> rfl

/-- A report of class A, D or M enters a queue by merging, or at the end where a shared entry is free (R329, R330). -/
theorem enqueue_queue (s : State) (r : Report) (h4 : r.code / 4096 ≠ 4) (h5 : r.code / 4096 ≠ 5) :
    match coalesce r s.log.queue with
    | some q => (s.enqueue r).log.queue = q
    | none => sharedUsed s.log.queue < 240 → s.log.queue.length < 256 → (s.enqueue r).log.queue = s.log.queue ++ [r] := by
  cases hc : coalesce r s.log.queue with
  | some q => simp [enqueue, h5, hc]
  | none =>
    intro hs hl
    simp [enqueue, h4, h5, hc, hs, hl]

theorem enqueued_enqueue {s t : State} {r : Report} (hq : t.log.queue = s.log.queue) (h4 : r.code / 4096 ≠ 4) (h5 : r.code / 4096 ≠ 5)
    (hn : r.count = 1) (ht : r.trigger = false) (hs : r.summary = false) : Enqueued s (t.enqueue r) r.path r.code r.time r.data := by
  have h := enqueue_queue t r h4 h5
  rw [hq, coalesce_eq] at h
  unfold Enqueued
  cases hi : s.log.queue.findIdx? fun x => x.path == r.path && x.code == r.code && !x.summary with
  | some i => simpa [hi, hn, ht] using h
  | none =>
    intro hu hl
    obtain ⟨time, code, path, data, count, trigger, summary, loc⟩ := r
    obtain rfl := hn
    obtain rfl := ht
    obtain rfl := hs
    rw [hi] at h
    exact ⟨loc, h hu hl⟩

/-- An event that is neither of class U nor of class X takes its place in the error queue with its time and DATA (R329, R330). -/
theorem report_enqueued (s : State) (u : UType) (i code : Nat) (items : List (Nat × Nat)) (hf : s.fusedOff u i = false)
    (h4 : code / 4096 ≠ 4) (h5 : code / 4096 ≠ 5) :
    Enqueued s (s.report u i code items) (pathOf u i 0xFF) code s.wall (packData items) := by
  unfold report reportSub
  rw [if_neg (by simp [hf]), subOf_whole]
  extract_lets cls r s1 sf s2 s3 p3 s4 s5 s6 p6
  have e4 : s4.log.queue = s.log.queue := by simp [s4, s3, s2, s1, cls, h4]
  have e6 : s6.log = s5.log := by
    simp only [s6]
    split
    · exact wakeHeld_log ..
    · rfl
  rw [if_neg (by simpa [cls] using h5)]
  have h : Enqueued s s5 r.path r.code r.time r.data := enqueued_enqueue e4 h4 h5 rfl (by simpa [r, cls] using h5) rfl
  unfold Enqueued at h ⊢
  rwa [e6]

theorem report_raised (s : State) (u : UType) (i code : Nat) (items : List (Nat × Nat)) (h : code < 0x8000) :
    Raised s (s.report u i code items) u i code :=
  fun hf => ⟨report_lastclass _ _ _ _ _ hf h, report_errcnt _ _ _ _ _ hf⟩

theorem report_onlyEvents (s : State) (u : UType) (i code : Nat) (items : List (Nat × Nat)) :
    OnlyRegsAndEvents s (s.report u i code items) [] := by
  intro f j _ h
  obtain ⟨hs, hl, hh⟩ := part_of_not_eventFld h
  exact report_rd _ _ _ _ _ hs hl hh

end State

end Sys2Proof.Machine
end

section
/-! HOST_HBM_READ and HOST_HBM_WRITE at an address in no partition (R267). -/

namespace Sys2Proof.Machine

namespace State

/-- What the controller does with an access to an address in no partition (R267): a count, and event 0x1607 with the address and the
direction, 0 read or 1 write. -/
def countUnmapped (s : State) (f : Fld) (a dir : Nat) : State :=
  (s.bump f (regionAt a)).report .hbm (regionAt a) 0x1607 [(4, a / 4), (1, dir)]

theorem hostWritePart_nil (s : State) (a : Nat) (bad : Option Nat) (lat : Nat) : s.hostWritePart a [] bad lat = s := rfl

theorem hostWritePart_unmapped {s : State} {a : Nat} {bs : List Nat} (bad : Option Nat) (lat : Nat) (hb : bs ≠ []) (hp : s.partOf a = none) :
    s.hostWritePart a bs bad lat = s.countUnmapped (.hbm .unmappedWrites) a 1 := by
  simp [hostWritePart, countUnmapped, hb, hp]

/-- An access to an address in no partition, on a state `s₀` that reads as `s` does and whose command then completes. -/
theorem countUnmapped_complete {s s₀ : State} (hrd : ∀ g j, s₀.rd g j = s.rd g j) (hlog : s₀.log = s.log) (hmem : SameMemory s s₀)
    {f : Fld} (hf : f.part = .reg .hbm) (a dir : Nat) (bs : List Nat) :
    let r := (s₀.countUnmapped f a dir).complete .ok bs
    Bumped s r f (regionAt a) ∧ Raised s r .hbm (regionAt a) 0x1607
      ∧ Enqueued s r (pathOf .hbm (regionAt a) 0xFF) 0x1607 s₀.wall (packData [(4, a / 4), (1, dir)])
      ∧ OnlyRegsAndEvents s r [(f, (regionAt a).val)] ∧ SameMemory s r := by
  intro r
  let s₁ := s₀.bump f (regionAt a)
  have hrd₁ : ∀ g j, ¬ (g = f ∧ j = (regionAt a).val) → s₁.rd g j = s.rd g j := fun g j h => (rd_bump_ne _ h).trans (hrd g j)
  have hnd : ∀ x, .st .hbm x ≠ f := by rintro x rfl; exact nomatch hf
  have hwall : s₁.wall = s₀.wall := wall_bump _ (by rintro rfl; exact nomatch hf)
  refine ⟨?_, fun _ => ?_, ?_, fun g j hg he => ?_, ?_⟩
  · calc r.rd f (regionAt a)
      _ = s₁.rd f (regionAt a) := report_rd _ _ _ _ _ (by simp [hf]) (by simp [hf]) (by rintro rfl; exact nomatch hf)
      _ = satN f.info.width (s.rd f (regionAt a) + 1) := by rw [rd_bump_same, hrd]
  · obtain ⟨hclass, hcount⟩ := report_raised s₁ .hbm (regionAt a) 0x1607 [(4, a / 4), (1, dir)] (by decide) rfl
    unfold Bumped at hcount ⊢
    rw [hrd₁ _ _ fun h => hnd _ h.1] at hcount
    exact ⟨hclass, hcount⟩
  · have h := report_enqueued s₁ .hbm (regionAt a) 0x1607 [(4, a / 4), (1, dir)] rfl (by decide) (by decide)
    have hlog₁ : s₁.log = s.log := hlog
    unfold Enqueued at h ⊢
    rwa [hlog₁, hwall] at h
  · calc r.rd g j
      _ = s₁.rd g j := report_onlyEvents _ _ _ _ _ g j (by simp) he
      _ = s.rd g j := hrd₁ g j (by simpa using hg)
  · obtain ⟨hhbm, hplate, hraw⟩ := hmem
    simp [r, countUnmapped, SameMemory, hhbm, hplate, hraw]

end State

theorem execHostHbmRead_unmapped {s : State} {off len a : Nat} (t : Nat) (check : ReadCheck) (hd : s.host.d3hot = false)
    (ho : s.bar2Addr off = some a) (he : a + len ≤ hbmEnd) (hr : ¬ (a < 2 ^ 33 ∧ 2 ^ 33 < a + len)) (hp : s.partOf a = none) :
    execHostHbmRead t off len check s =
      .next ((((s.advance t).complete .ok []).countUnmapped (.hbm .unmappedReads) a 0).complete .ok (List.replicate len 0xFF)) := by
  have ho' : (s.advance t).bar2Addr off = some a := ho
  have hp' : ((s.advance t).complete .ok []).partOf a = none := hp
  simp [-Nat.reducePow, execHostHbmRead, State.countUnmapped, hd, ho', hr, hp', Nat.not_lt.2 he]

theorem execHostHbmWrite_unmapped {s : State} {off a : Nat} (t : Nat) (data : HbmBytes) (hd : s.host.d3hot = false)
    (ho : s.bar2Addr off = some a) (he : a + data.bytes.length ≤ hbmEnd) (hr : ¬ (a < 2 ^ 33 ∧ 2 ^ 33 < a + data.bytes.length))
    (hn : data.bytes ≠ []) (hp : s.partOf a = none) :
    execHostHbmWrite t off data s = .next (((s.advance t).countUnmapped (.hbm .unmappedWrites) a 1).complete .ok []) := by
  have ho' : (s.advance t).bar2Addr off = some a := ho
  have hp' : (s.advance t).partOf a = none := hp
  have hw : (if a < 2 ^ 33 then min data.bytes.length (2 ^ 33 - a) else data.bytes.length) = data.bytes.length := by
    split <;> omega
  have hb : data.bytes.map BitVec.toNat ≠ [] := by simpa using hn
  simp [-Nat.reducePow, execHostHbmWrite, hd, ho', Nat.not_lt.2 he, hw, List.take_of_length_le, List.drop_eq_nil_of_le, State.hostWritePart_nil,
    State.hostWritePart_unmapped _ _ hb hp']

/-- Settles O20: one lemma says what an access to an address in no partition counts, raises and leaves alone; the read and the write are
shown to be that access and their completion. -/
theorem unmappedAccess : Obligations.UnmappedAccess := by
  unfold Obligations.UnmappedAccess
  refine ⟨fun t off len a lat bad s hd ho he hr hp => ?_, fun t off a lat data bad s hd ho he hr hn hp => ?_⟩
  · exact ⟨_, execHostHbmRead_unmapped t ⟨bad, lat⟩ hd ho he hr hp, rfl,
      State.countUnmapped_complete (s₀ := (s.advance t).complete .ok []) (fun _ _ => rfl) rfl ⟨rfl, rfl, rfl⟩ rfl a 0 _⟩
  · exact ⟨_, execHostHbmWrite_unmapped t ⟨data, bad, lat⟩ hd ho he hr hn hp, rfl,
      State.countUnmapped_complete (s₀ := s.advance t) (fun _ _ => rfl) rfl ⟨rfl, rfl, rfl⟩ rfl a 1 _⟩

end Sys2Proof.Machine
end

section
/-! ALM_RAW_WRITE (R315, R320, R383): the course of a mailbox command that the Observer takes, and what the write leaves in the raw area. -/

namespace Sys2Proof.Machine

theorem cellGet_foldl_cellSet_out {x : Nat} {l : List (Nat × Byte)} {m : List Host.Cell} (hx : x ∉ l.map Prod.fst) :
    cellGet (l.foldl (fun m p => cellSet m p.1 p.2) m) x = cellGet m x := by
  induction l generalizing m with
  | nil => rfl
  | cons p l ih =>
    simp only [List.map_cons, List.mem_cons, not_or] at hx
    rw [List.foldl_cons, ih hx.2, cellGet_cellSet_ne hx.1]

/-- Bytes written to addresses that differ all read back, where the memory is in canonical form. -/
theorem cellGet_foldl_cellSet_in {p : Nat × Byte} {l : List (Nat × Byte)} {m : List Host.Cell} (h : Memory.wf m = true)
    (hd : (l.map Prod.fst).Nodup) (hp : p ∈ l) : cellGet (l.foldl (fun m p => cellSet m p.1 p.2) m) p.1 = p.2 := by
  induction l generalizing m with
  | nil => simp at hp
  | cons q l ih =>
    rw [List.map_cons, List.nodup_cons] at hd
    rw [List.foldl_cons]
    rcases List.mem_cons.1 hp with rfl | hp
    · rw [cellGet_foldl_cellSet_out hd.1, cellGet_cellSet_same h]
    · exact ih (memory_wf_cellSet h) hd.2 hp

theorem b2n_le_one (b : Bool) : b2n b ≤ 1 := by
  cases b <;> decide

@[simp] theorem length_rawAddrs (addr n : Nat) : (rawAddrs addr n).length = n := by simp [rawAddrs]

/-- A raw write of at most a page reaches no address twice (R320). -/
theorem nodup_rawAddrs {addr n : Nat} (h : n ≤ 256) : (rawAddrs addr n).Nodup := by
  refine List.Nodup.map_on (fun i hi j hj e => ?_) List.nodup_range
  rw [List.mem_range] at hi hj
  omega

/-- What a raw write leaves in the raw area (R320): the bytes on the addresses of its page, in order. -/
def rawWritten (raw : List Host.Cell) (addr : Nat) (data : List Byte) : List Host.Cell :=
  ((rawAddrs addr data.length).zip data).foldl (fun m p => cellSet m p.1 p.2) raw

theorem map_fst_zip_rawAddrs (addr : Nat) (data : List Byte) :
    ((rawAddrs addr data.length).zip data).map Prod.fst = rawAddrs addr data.length :=
  List.map_fst_zip (by simp)

theorem cellGet_rawWritten_out {raw : List Host.Cell} {addr x : Nat} {data : List Byte} (hx : x ∉ rawAddrs addr data.length) :
    cellGet (rawWritten raw addr data) x = cellGet raw x :=
  cellGet_foldl_cellSet_out (by rwa [map_fst_zip_rawAddrs])

theorem cellGet_rawWritten_in {raw : List Host.Cell} {addr k : Nat} {data : List Byte} (h : Memory.wf raw = true)
    (hn : data.length ≤ 256) (hk : k < data.length) :
    cellGet (rawWritten raw addr data) (addr / 256 * 256 + (addr % 256 + k) % 256) = data.getD k 0 := by
  have hp : (addr / 256 * 256 + (addr % 256 + k) % 256, data.getD k 0) ∈ (rawAddrs addr data.length).zip data := by
    refine List.mem_iff_getElem.2 ⟨k, by simpa using hk, ?_⟩
    simp [rawAddrs, hk]
  exact cellGet_foldl_cellSet_in h (by rw [map_fst_zip_rawAddrs]; exact nodup_rawAddrs hn) hp

namespace State

/-- A state that is another but for registers of the Observer. -/
def ObsRegsOnly (s r : State) : Prop :=
  r = { s with regs := r.regs } ∧ ∀ f i, f.part ≠ .reg .obs → r.rd f i = s.rd f i

theorem ObsRegsOnly.refl (s : State) : ObsRegsOnly s s := ⟨rfl, fun _ _ _ => rfl⟩

theorem ObsRegsOnly.sameMemory {s r : State} (h : ObsRegsOnly s r) : SameMemory s r := by
  rw [h.1]
  exact ⟨rfl, rfl, rfl⟩

theorem ObsRegsOnly.wr {s r : State} (h : ObsRegsOnly s r) (g : ObsF) (i v : Nat) : ObsRegsOnly s (r.wr (.obs g) i v) := by
  refine ⟨?_, fun f j hf => ?_⟩
  · rw [State.wr, h.1]
  · rw [rd_wr_ne r (by rintro ⟨rfl, -⟩; exact hf rfl), h.2 f j hf]

theorem ObsRegsOnly.foldl_wr {s r : State} (h : ObsRegsOnly s r) (g : ObsF) (l : List (Nat × Nat)) :
    ObsRegsOnly s (l.foldl (fun s x => s.wr (.obs g) x.2 x.1) r) := by
  induction l generalizing r with
  | nil => exact h
  | cons x l ih => exact ih (h.wr g x.2 x.1)

theorem ObsRegsOnly.writePage {s r : State} (h : ObsRegsOnly s r) (g : ObsF) (bs : List Nat) :
    ObsRegsOnly s (r.writePage (.obs g) bs) :=
  h.foldl_wr g _

theorem rd_foldl_wr_ne (s : State) {f g : Fld} (h : f ≠ g) (l : List (Nat × Nat)) (i : Nat) :
    (l.foldl (fun s x => s.wr g x.2 x.1) s).rd f i = s.rd f i := by
  induction l generalizing s with
  | nil => rfl
  | cons x l ih => rw [List.foldl_cons, ih, rd_wr_ne s fun e => h e.1]

theorem rd_writePage_ne (s : State) {f g : Fld} (h : f ≠ g) (bs : List Nat) (i : Nat) : (s.writePage g bs).rd f i = s.rd f i :=
  rd_foldl_wr_ne s h _ i

@[simp] theorem signal_rd (s : State) (n : Nat) (f : Fld) (i : Nat) : (s.signal n).rd f i = s.rd f i := by
  unfold signal
  split_ifs <;> rfl

@[simp] theorem signal_hbm (s : State) (n : Nat) : (s.signal n).hbm = s.hbm := by
  unfold signal
  split_ifs <;> rfl

@[simp] theorem signal_plate (s : State) (n : Nat) : (s.signal n).plate = s.plate := by
  unfold signal
  split_ifs <;> rfl

@[simp] theorem signal_raw (s : State) (n : Nat) : (s.signal n).raw = s.raw := by
  unfold signal
  split_ifs <;> rfl

/-- A reply changes registers of the Observer and signals vector 1 (R383). -/
theorem mailReply_eq_signal (s : State) (tag : Nat) (rep : Reply) :
    ∃ x, ObsRegsOnly s x ∧ s.mailReply tag rep = x.signal 1 :=
  ⟨_, (((((((ObsRegsOnly.refl s).wr _ _ _).wr _ _ _).wr _ _ _).writePage _ _).wr _ _ _).wr _ _ _).wr _ _ _, rfl⟩

theorem mailReply_sameMemory (s : State) (tag : Nat) (rep : Reply) : SameMemory s (s.mailReply tag rep) := by
  obtain ⟨x, hx, e⟩ := mailReply_eq_signal s tag rep
  rw [e, SameMemory, signal_hbm, signal_plate, signal_raw]
  exact hx.sameMemory

theorem mailReply_rd (s : State) (tag : Nat) (rep : Reply) {f : Fld} (i : Nat) (hf : f.part ≠ .reg .obs) :
    (s.mailReply tag rep).rd f i = s.rd f i := by
  obtain ⟨x, hx, e⟩ := mailReply_eq_signal s tag rep
  rw [e, signal_rd, hx.2 f i hf]

theorem mailReply_detail (s : State) (tag : Nat) (rep : Reply) :
    (s.mailReply tag rep).rd (.obs .detailDetail) 0 = rep.detail % 2 ^ (Fld.obs .detailDetail).info.width := by
  simp [-Nat.reducePow, mailReply, rd_wr, rd_writePage_ne]

theorem mailReply_answered (s : State) (m : MailReq) (rep : Reply) (h : rep.status < 2 ^ (Fld.obs .replyStatus).info.width) :
    Answered (s.mailReply (m.tag % 65536) rep) m rep.status := by
  have hs : rep.status % 2 ^ (Fld.obs .replyStatus).info.width = rep.status := Nat.mod_eq_of_lt h
  have ht : m.tag % 65536 % 2 ^ (Fld.obs .replyTag).info.width = m.tag % 2 ^ 16 := Nat.mod_mod _ _
  have hd : 1 % 2 ^ (Fld.obs .statusDone).info.width = 1 := rfl
  unfold Answered
  simp [-Nat.reducePow, -Nat.one_mod_two_pow_eq_one, mailReply, rd_wr, rd_writePage_ne, hs, ht, hd]

/-- The state with a mailbox request in its request registers (R383). -/
def mailRequested (s : State) (code : Nat) (m : MailReq) (args page : List Nat) : State :=
  let x := args.zipIdx.foldl (fun s x => s.wr (.obs .argArg) x.2 x.1) ((s.wr (.obs .cmdCmd) 0 code).wr (.obs .cmdTag) 0 m.tag)
  ((x.wr (.obs .haddrAddr) 0 (m.haddr / 64)).wr (.obs .hlenLen) 0 m.hlen).writePage (.obs .reqpageWord) page

theorem mailRequested_obsRegsOnly (s : State) (code : Nat) (m : MailReq) (args page : List Nat) :
    ObsRegsOnly s (s.mailRequested code m args page) :=
  ((((((ObsRegsOnly.refl s).wr _ _ _).wr _ _ _).foldl_wr _ _).wr _ _ _).wr _ _ _).writePage _ _

@[simp] theorem mailRequested_statusOffline (s : State) (code : Nat) (m : MailReq) (args page : List Nat) :
    (s.mailRequested code m args page).on (.obs .statusOffline) 0 = s.on (.obs .statusOffline) 0 := by
  simp [mailRequested, on, rd_writePage_ne, rd_foldl_wr_ne, rd_wr_ne]

@[simp] theorem mailRequested_loadShed (s : State) (code : Nat) (m : MailReq) (args page : List Nat) :
    (s.mailRequested code m args page).rd (.obs .loadShed) 0 = s.rd (.obs .loadShed) 0 := by
  simp [mailRequested, rd_writePage_ne, rd_foldl_wr_ne, rd_wr_ne]

theorem mailTake_of_free {s : State} (h : MailFree s) (code : Nat) (m : MailReq) (args page : List Nat) :
    s.mailTake code m args page = (s.mailRequested code m args page, some (s.mailRequested code m args page)) := by
  obtain ⟨hd, hb, ho, hl⟩ := h
  have ht : (s.mailRequested code m args page).mailTurnedAway (m.tag % 65536) = none := by
    simp [mailTurnedAway, ho, Nat.not_le.2 hl]
  simp only [mailRequested] at ht ⊢
  simp [mailTake, hd, hb, ht]

/-- A mailbox command that the Observer takes runs on the state with its request, and where it sends nothing by DMA its reply follows at
once (R383). -/
theorem mailbox_of_free {s : State} (h : MailFree s) (code : Nat) (m : MailReq) (args page : List Nat) (f : State → State × Reply)
    (hf : (f (s.mailRequested code m args page)).2.dma = none) :
    s.mailbox code m args page false f =
      (f (s.mailRequested code m args page)).1.mailReply (m.tag % 65536) (f (s.mailRequested code m args page)).2 := by
  simp [mailbox, mailTake_of_free h, hf]

end State

/-- ALM_RAW_WRITE of 1 to 256 bytes from an address of the raw area (R315, R320), in whatever form the area is listed. -/
theorem almRawWrite_raw {s : State} (t addr : Nat) (m : MailReq) (data : List Byte) (hm : MailFree s) (hs : s.log.saving = none)
    (h1 : 1 ≤ data.length) (h2 : data.length ≤ 256) (ha : inRawArea addr 1 = true) :
    ∃ r, exec (.almRawWrite t m addr data) s = .next r ∧ Answered r m 0
      ∧ r.rd (.obs .detailDetail) 0 = b2n (256 < addr % 256 + data.length) ∧ r.raw = rawWritten s.raw addr data
      ∧ Bumped s r (.alm .cntRawwr) 0 ∧ r.hbm = s.hbm ∧ r.plate = s.plate := by
  let x := (s.advance t).mailRequested 0x0302 m [addr, data.length] (data.map BitVec.toNat)
  have hx : State.ObsRegsOnly (s.advance t) x := State.mailRequested_obsRegsOnly ..
  let y := ({ x with raw := rawWritten x.raw addr data }).bump (.alm .cntRawwr) 0
  let rep : Reply := { Reply.ok with detail := b2n (256 < addr % 256 + data.length) }
  have hr : exec (.almRawWrite t m addr data) s = .next (y.mailReply (m.tag % 65536) rep) := by
    have hn : (data.length < 1 || 256 < data.length) = false := by simp [h2, List.ne_nil_of_length_pos h1]
    change execAlmRawWrite t m addr data s = _
    rw [execAlmRawWrite, State.rawAccess, if_neg (by simp [hs]), State.mailbox_of_free (s := s.advance t) hm]
      <;> simp only [hn, ha] <;> rfl
  obtain ⟨hhbm, hplate, hraw⟩ := hx.sameMemory
  obtain ⟨hhbm', hplate', hraw'⟩ := State.mailReply_sameMemory y (m.tag % 65536) rep
  refine ⟨_, hr, State.mailReply_answered y m rep (Nat.two_pow_pos _), ?_, ?_, ?_, hhbm'.trans hhbm, hplate'.trans hplate⟩
  · rw [State.mailReply_detail]
    exact Nat.mod_eq_of_lt (Nat.lt_of_le_of_lt (b2n_le_one _) (by decide))
  · exact hraw'.trans (congrArg (rawWritten · addr data) hraw)
  · rw [Bumped, State.mailReply_rd _ _ _ _ (by decide), State.rd_bump_same]
    exact congrArg (fun n => satN _ (n + 1)) (hx.2 _ _ (by decide))

/-- R320 on every state whose raw area is in canonical form, as it is in every sound state: what `not_storeMail` refutes of an arbitrary
list of bytes holds there. -/
theorem almRawWrite_stores {s : State} (t addr : Nat) (m : MailReq) (data : List Byte) (hraw : Memory.wf s.raw = true) (hm : MailFree s)
    (hs : s.log.saving = none) (h1 : 1 ≤ data.length) (h2 : data.length ≤ 256) (ha : inRawArea addr 1 = true) :
    ∃ r, exec (.almRawWrite t m addr data) s = .next r ∧ Answered r m 0
      ∧ r.rd (.obs .detailDetail) 0 = b2n (256 < addr % 256 + data.length)
      ∧ (∀ k, k < data.length → cellGet r.raw (addr / 256 * 256 + (addr % 256 + k) % 256) = data.getD k 0)
      ∧ (∀ x, x ∉ rawAddrs addr data.length → cellGet r.raw x = cellGet s.raw x)
      ∧ Bumped s r (.alm .cntRawwr) 0 ∧ r.hbm = s.hbm ∧ r.plate = s.plate := by
  obtain ⟨r, e, hans, hdetail, hw, hframe⟩ := almRawWrite_raw t addr m data hm hs h1 h2 ha
  refine ⟨r, e, hans, hdetail, fun k hk => ?_, fun x hx => ?_, hframe⟩
  · rw [hw, cellGet_rawWritten_in hraw h2 hk]
  · rw [hw, cellGet_rawWritten_out hx]

/-- Refutes O38: ALM_RAW_WRITE is claimed of every state, also of one whose raw area is not in canonical form. Where 0x0E_5002 is listed
before 0x0E_5001, a zero written to 0x0E_5001 leaves the byte there as it was. -/
theorem not_storeMail : ¬ Obligations.StoreMail := by
  intro h
  unfold Obligations.StoreMail at h
  obtain ⟨-, hwrite, -⟩ := h
  let s : State := { State.reset with raw := [(0xE5002, 1), (0xE5001, 1)] }
  have hm : MailFree s := ⟨rfl, rfl, rfl, by decide⟩
  obtain ⟨r, e, -, -, hstored, -⟩ := hwrite 0 0xE5001 ⟨0, 0, 0⟩ [0] s hm rfl (by decide) (by decide) rfl
  obtain ⟨r', e', -, -, hraw, -⟩ := almRawWrite_raw (s := s) 0 0xE5001 ⟨0, 0, 0⟩ [0] hm rfl (by decide) (by decide) rfl
  obtain rfl := Host.Outcome.next.inj (e'.symm.trans e)
  have hzero : cellGet r'.raw 0xE5001 = 0 := hstored 0 Nat.one_pos
  have hone : cellGet r'.raw 0xE5001 = 1 := by rw [hraw]; rfl
  exact absurd (hone.symm.trans hzero) (by decide)

end Sys2Proof.Machine
end

section
/-! What every operation of the block keeps: the queue, the clock, the device's constants, and the canonical forms of the invariant `Good`. -/

namespace Sys2Proof.Machine

set_option Elab.async false

/-- From s to t the queue and the device's constants stay, time does not run back, and what `Good` asks for is kept; and where `m` is
false no byte of memory changes. -/
structure Keeps (m : Bool) (s t : State) : Prop where
  pending : t.pending = s.pending
  now : s.now ≤ t.now
  dev : t.dev = s.dev
  regs : RegsOk s.regs → RegsOk t.regs
  log : LogOk s.log → LogOk t.log
  hbm : Memory.wf s.hbm = true → Memory.wf t.hbm = true
  plate : Memory.wf s.plate = true → Memory.wf t.plate = true
  raw : Memory.wf s.raw = true → Memory.wf t.raw = true
  memory : m = false → SameMemory s t

/-- A command's answer keeps what `Keeps` names, if it is a next state. -/
def KeepsNext (m : Bool) (s : State) : Result → Prop
  | .next t => Keeps m s t
  | .fault _ | .refused _ => True

namespace Keeps

variable {m : Bool} {s t u : State}

theorem refl : Keeps m s s :=
  ⟨rfl, Nat.le_refl _, rfl, id, id, id, id, id, fun _ => ⟨rfl, rfl, rfl⟩⟩

theorem trans (h : Keeps m s t) (k : Keeps m t u) : Keeps m s u where
  pending := k.pending.trans h.pending
  now := h.now.trans k.now
  dev := k.dev.trans h.dev
  regs := k.regs ∘ h.regs
  log := k.log ∘ h.log
  hbm := k.hbm ∘ h.hbm
  plate := k.plate ∘ h.plate
  raw := k.raw ∘ h.raw
  memory := fun e =>
    let ⟨hh, hp, hr⟩ := h.memory e
    let ⟨kh, kp, kr⟩ := k.memory e
    ⟨kh.trans hh, kp.trans hp, kr.trans hr⟩

theorem sameMemory (h : Keeps false s t) : SameMemory s t := h.memory rfl

theorem good (h : Keeps m s t) (hs : Good s) : Good t :=
  ⟨h.hbm hs.hbm, h.plate hs.plate, h.raw hs.raw, h.regs hs.regs, h.log hs.log⟩

theorem weaken (h : Keeps false s t) : Keeps m s t :=
  { h with memory := fun _ => h.sameMemory }

end Keeps

namespace Keeps

variable {m : Bool} {s t u : State}

/-- A change of the parts that `Keeps` does not speak of. -/
theorem update
    {completion out fresh shadow rdLatch wrHold heldLive insts cfg pic chr tri light hel dp mem trn eph alm arc pwr host chn par obs
    heldPermit stopped retries} (h : Keeps m s t) :
    Keeps m s
      { t with
        completion, out, fresh, shadow, rdLatch, wrHold, heldLive, insts, cfg, pic, chr, tri, light, hel, dp, mem, trn, eph, alm, arc,
        pwr, host, chn, par, obs, heldPermit, stopped, retries } :=
  h.trans ⟨rfl, Nat.le_refl _, rfl, id, id, id, id, id, fun _ => ⟨rfl, rfl, rfl⟩⟩

/-- A change of the Logbook. -/
theorem setLog {l : Logbook} (h : Keeps m s t) (k : LogOk t.log → LogOk l) : Keeps m s { t with log := l } :=
  h.trans ⟨rfl, Nat.le_refl _, rfl, id, k, id, id, id, fun _ => ⟨rfl, rfl, rfl⟩⟩

theorem wr {f : Fld} {i v : Nat} (h : Keeps m s t) : Keeps m s (t.wr f i v) :=
  h.trans ⟨rfl, Nat.le_refl _, rfl, State.regsOk_wr, id, id, id, id, fun _ => ⟨rfl, rfl, rfl⟩⟩

/-- Register cells are taken out of the file. -/
theorem filterRegs {p : RegCell → Bool} (h : Keeps m s t) : Keeps m s { t with regs := t.regs.filter p } :=
  h.trans ⟨rfl, Nat.le_refl _, rfl, (RegsOk.filter · p), id, id, id, id, fun _ => ⟨rfl, rfl, rfl⟩⟩

/-- HBM takes a new content, and with it what the memory system knows of it. -/
theorem setHbm {x : List Host.Cell} {mem} (h : Keeps true s t) (k : Memory.wf t.hbm = true → Memory.wf x = true) :
    Keeps true s { t with hbm := x, mem := mem } :=
  h.trans ⟨rfl, Nat.le_refl _, rfl, id, id, k, id, id, nofun⟩

/-- The plate store takes a new content, and with it what the memory system knows of it. -/
theorem setPlate {x : List Host.Cell} {mem} (h : Keeps true s t) (k : Memory.wf t.plate = true → Memory.wf x = true) :
    Keeps true s { t with plate := x, mem := mem } :=
  h.trans ⟨rfl, Nat.le_refl _, rfl, id, id, id, k, id, nofun⟩

/-- The raw area takes a new content. -/
theorem setRaw {x : List Host.Cell} (h : Keeps true s t) (k : Memory.wf t.raw = true → Memory.wf x = true) :
    Keeps true s { t with raw := x } :=
  h.trans ⟨rfl, Nat.le_refl _, rfl, id, id, id, id, k, nofun⟩

theorem ite {c : Prop} [Decidable c] (h : Keeps m s t) (k : Keeps m s u) : Keeps m s (if c then t else u) := by
  split
  · exact h
  · exact k

theorem mkSnd {α : Type} {a : α} (h : Keeps m s t) : Keeps m s (a, t).2 := h

theorem mkFst {α : Type} {a : α} (h : Keeps m s t) : Keeps m s (t, a).1 := h

theorem foldl {α : Type} {g : State → α → State} {l : List α} (h : Keeps m s t)
    (k : ∀ x a, Keeps m s x → Keeps m s (g x a)) : Keeps m s (l.foldl g t) := by
  induction l generalizing t with
  | nil => exact h
  | cons a l ih => exact ih (k t a h)

theorem advance {n : Nat} (h : Keeps m s t) : Keeps m s (t.advance n) :=
  h.trans ⟨rfl, Nat.le_max_left .., rfl, id, id, id, id, id, fun _ => ⟨rfl, rfl, rfl⟩⟩

/-- A Logbook update that leaves its queues alone. -/
theorem modLog {g : Logbook → Logbook} (h : Keeps m s t)
    (e : ∀ l, ((g l).queue, (g l).xreg, (g l).upend) = (l.queue, l.xreg, l.upend)) : Keeps m s (t.modLog g) := by
  refine h.setLog (l := g t.log) fun k => ?_
  obtain ⟨eq, ex, eu⟩ : (g t.log).queue = t.log.queue ∧ (g t.log).xreg = t.log.xreg ∧ (g t.log).upend = t.log.upend := by
    simpa using e t.log
  rwa [LogOk, eq, ex, eu]

theorem forClusters {l : List (Fin 4)} {f : State → Fin 4 → State} (h : Keeps m s t)
    (k : ∀ x c, Keeps m s x → Keeps m s (f x c)) : Keeps m s (t.forClusters l f) :=
  h.foldl k

/-- A pair's state goes through a fold. -/
theorem foldlSnd {α β : Type} {g : β × State → α → β × State} {l : List α} {p : β × State} (h : Keeps m s p.2)
    (k : ∀ p a, Keeps m s p.2 → Keeps m s (g p a).2) : Keeps m s (l.foldl g p).2 := by
  induction l generalizing p with
  | nil => exact h
  | cons a l ih => exact ih (k p a h)

end Keeps

/-! ### The error queue (R329 to R331) -/

theorem State.setQueue_log (s : State) (q : List Report) : (s.setQueue q).log = { s.log with queue := q } := by
  simp only [State.setQueue]
  split <;> rfl


@[simp] theorem State.lose_queue (s : State) (cls n : Nat) : (s.lose cls n).log.queue = s.log.queue := by
  unfold State.lose
  split <;> rfl

/-- The bounds of the error queue (R330). -/
def QueueOk (q : List Report) : Prop := q.length ≤ 256 ∧ State.sharedUsed q ≤ 240

theorem LogOk.queue {l : Logbook} (h : LogOk l) : QueueOk l.queue := ⟨h.1, h.2.1⟩

theorem LogOk.withQueue {l : Logbook} {q : List Report} (h : LogOk l) (hq : QueueOk q) : LogOk { l with queue := q } :=
  ⟨hq.1, hq.2, h.2.2⟩

theorem sharedUsed_append (q : List Report) (r : Report) :
    State.sharedUsed (q ++ [r]) = State.sharedUsed q + if r.code / 4096 = 4 then 0 else 1 := by
  by_cases h : r.code / 4096 = 4 <;> simp [State.sharedUsed, h]

theorem sharedUsed_sublist {q p : List Report} (h : p.Sublist q) : State.sharedUsed p ≤ State.sharedUsed q :=
  (h.filter _).length_le

theorem QueueOk.sublist {q p : List Report} (h : QueueOk q) (k : p.Sublist q) : QueueOk p :=
  ⟨k.length_le.trans h.1, (sharedUsed_sublist k).trans h.2⟩

theorem QueueOk.appendU {q : List Report} {r : Report} (h : QueueOk q) (hr : r.code / 4096 = 4) (hl : q.length < 256) :
    QueueOk (q ++ [r]) := by
  refine ⟨by simpa using hl, ?_⟩
  rw [sharedUsed_append, if_pos hr]
  exact h.2

theorem QueueOk.appendShared {q : List Report} {r : Report} (hs : State.sharedUsed q < 240) (hl : q.length < 256) :
    QueueOk (q ++ [r]) := by
  refine ⟨by simpa using hl, ?_⟩
  rw [sharedUsed_append]
  split <;> omega

theorem QueueOk.congrCodes {q p : List Report} (h : QueueOk q) (e : p.map Report.code = q.map Report.code) : QueueOk p := by
  have hlen : p.length = q.length := by simpa using congrArg List.length e
  have hshared (l : List Report) : State.sharedUsed l = ((l.map Report.code).filter fun c => c / 4096 != 4).length := by
    simp [State.sharedUsed, List.filter_map, Function.comp_def]
  rwa [QueueOk, hlen, hshared, e, ← hshared]

theorem coalesce_codes {r : Report} {q p : List Report} (h : coalesce r q = some p) : p.map Report.code = q.map Report.code := by
  rw [coalesce_eq] at h
  obtain ⟨i, -, rfl⟩ := Option.map_eq_some_iff.1 h
  refine List.ext_getElem (by simp) fun n h₁ h₂ => ?_
  simp only [List.getElem_map, List.getElem_modify]
  split <;> rfl

theorem dropYoungest_sublist {cls : Nat} {q p : List Report} {v : Report} (h : dropYoungest cls q = some (v, p)) :
    p.Sublist q ∧ p.length + 1 = q.length := by
  unfold dropYoungest at h
  split at h
  · exact nomatch h
  · rename_i w hw
    obtain ⟨-, rfl⟩ := Prod.mk.inj (Option.some.inj h)
    have hq : q ≠ [] := by rintro rfl; exact nomatch hw
    have hpos := List.length_pos_iff.2 hq
    refine ⟨List.eraseIdx_sublist .., ?_⟩
    rw [List.length_eraseIdx_of_lt (by omega)]
    omega

namespace KeepsNext

variable {m : Bool} {s t : State} {o p : Result}

theorem next (h : Keeps m s t) : KeepsNext m s (.next t) := h

theorem fault {r : Fault} : KeepsNext m s (.fault r) := trivial

theorem refused {r : Refusal} : KeepsNext m s (.refused r) := trivial

theorem ite {c : Prop} [Decidable c] (h : KeepsNext m s o) (k : KeepsNext m s p) : KeepsNext m s (if c then o else p) := by
  split
  · exact h
  · exact k

end KeepsNext

namespace Keeps

variable {m : Bool} {s t u : State}

theorem wrb {f i b} (h : Keeps m s t) : Keeps m s (t.wrb f i b) := .wr h

theorem bumpBy {f i n} (h : Keeps m s t) : Keeps m s (t.bumpBy f i n) := .wr h

theorem bump {f i} (h : Keeps m s t) : Keeps m s (t.bump f i) := .bumpBy h

theorem wrI {f i v} (h : Keeps m s t) : Keeps m s (t.wrI f i v) := .wr h

theorem wrs {l} (h : Keeps m s t) : Keeps m s (t.wrs l) := .foldl h (fun _ _ hx => .wr hx)

theorem modPic {c f} (h : Keeps m s t) : Keeps m s (t.modPic c f) := .update h

theorem modChr {c f} (h : Keeps m s t) : Keeps m s (t.modChr c f) := .update h

theorem modTri {c f} (h : Keeps m s t) : Keeps m s (t.modTri c f) := .update h

theorem modLight {c f} (h : Keeps m s t) : Keeps m s (t.modLight c f) := .update h

theorem modHel {c f} (h : Keeps m s t) : Keeps m s (t.modHel c f) := .update h

theorem modDp {i f} (h : Keeps m s t) : Keeps m s (t.modDp i f) := .update h

theorem modRegion {r f} (h : Keeps m s t) : Keeps m s (t.modRegion r f) := by
  unfold State.modRegion
  extract_lets x
  exact .update h

theorem modLayer {c l f} (h : Keeps m s t) : Keeps m s (t.modLayer c l f) := .modPic h

theorem modChan {c k f} (h : Keeps m s t) : Keeps m s (t.modChan c k f) := .modLight h

theorem modSlot {c i f} (h : Keeps m s t) : Keeps m s (t.modSlot c i f) := .modHel h

theorem emit {o} (h : Keeps m s t) : Keeps m s (t.emit o) := .update h

theorem freeBits {w} (h : Keeps m s t) : Keeps m s (t.freeBits w).2 := .mkSnd (.update h)

theorem lose {cls n} (h : Keeps m s t) : Keeps m s (t.lose cls n) := by
  unfold State.lose
  split
  · exact .modLog (.bumpBy h) (fun _ => rfl)
  · exact .modLog (.bumpBy h) (fun _ => rfl)
  · exact .modLog (.bumpBy h) (fun _ => rfl)
  · exact h

theorem setQueue {q} (h : Keeps m s t) (k : LogOk t.log → QueueOk q) : Keeps m s (t.setQueue q) := by
  unfold State.setQueue
  extract_lets s1
  have hs1 : Keeps m s s1 := .wr (.setLog h (fun hl => hl.withQueue (k hl)))
  exact .ite (.wr hs1) hs1

theorem placeSummary (h : Keeps m s t) : Keeps m s t.placeSummary := by
  unfold State.placeSummary
  split
  · exact h
  · rename_i hfree
    simp only [Bool.or_eq_true, decide_eq_true_eq, not_or, Nat.not_le] at hfree
    obtain ⟨⟨-, hs⟩, hl⟩ := hfree
    exact .modLog (.setQueue h fun _ => .appendShared hs hl) (fun _ => rfl)

/-- The X register takes a report of class X (R329). -/
theorem enqueueX {r : Report} (h : Keeps m s t) :
    Keeps m s (t.modLog fun l =>
      if l.xreg.length < 4 then { l with xreg := l.xreg ++ [r] }
      else { l with xreg := l.xreg.dropLast ++ (l.xreg.getLast?.map fun x =>
        { x with count := min 255 (x.count + r.count), trigger := x.trigger || r.trigger }).toList }) := by
  refine .setLog h (fun hl => ?_)
  obtain ⟨hlen, hshared, hx, hu⟩ := hl
  dsimp only
  split
  · refine ⟨hlen, hshared, ?_, hu⟩
    simp only [List.length_append, List.length_singleton]
    omega
  · refine ⟨hlen, hshared, ?_, hu⟩
    have hone : ∀ o : Option Report, o.toList.length ≤ 1 := by
      intro o
      cases o <;> simp
    have := hone (t.log.xreg.getLast?.map fun x => { x with count := min 255 (x.count + r.count), trigger := x.trigger || r.trigger })
    simp only [List.length_append, List.length_dropLast]
    omega

/-- A report of class U enters a full queue in the place of another report, or waits in its unit (R330). -/
theorem enqueueFull {r : Report} (h : Keeps m s t) (hr : r.code / 4096 = 4) :
    Keeps m s (match (dropYoungest 1 t.log.queue) <|> (dropYoungest 2 t.log.queue) <|> (dropYoungest 3 t.log.queue) with
      | some (v, q) => (t.lose (v.code / 4096) v.count).setQueue (q ++ [r])
      | none => t.modLog fun l => { l with upend := l.upend ++ [r] }) := by
  split
  · rename_i v q hd
    have hq : q.Sublist t.log.queue ∧ q.length + 1 = t.log.queue.length := by
      rcases (Option.orElse_eq_some _ _ _).1 hd with hd | ⟨-, hd⟩
      · exact dropYoungest_sublist hd
      · rcases (Option.orElse_eq_some _ _ _).1 hd with hd | ⟨-, hd⟩
        · exact dropYoungest_sublist hd
        · exact dropYoungest_sublist hd
    obtain ⟨hsub, hlen⟩ := hq
    refine (h.trans (.setQueue (.lose .refl) fun hl => ?_))
    have hl' : QueueOk t.log.queue := State.lose_queue t _ _ ▸ hl.queue
    have := hl'.1
    exact (hl'.sublist hsub).appendU hr (by omega)
  · refine .setLog h (fun hl => ?_)
    obtain ⟨hlen, hshared, hx, hu⟩ := hl
    refine ⟨hlen, hshared, hx, fun x hx => ?_⟩
    rcases List.mem_append.1 hx with hx | hx
    · exact hu x hx
    · rw [List.mem_singleton.1 hx, hr]

theorem enqueue {r} (h : Keeps m s t) : Keeps m s (t.enqueue r) := by
  unfold State.enqueue
  extract_lets cls
  split
  · exact h.enqueueX
  · split
    · rename_i q hq
      exact .setQueue h fun hl => hl.queue.congrCodes (coalesce_codes hq)
    · split
      · rename_i hu
        have hu : r.code / 4096 = 4 := by simpa [cls] using hu
        split
        · rename_i hfree
          exact .setQueue h fun hl => hl.queue.appendU hu hfree
        · exact h.enqueueFull hu
      · split
        · rename_i hfree
          simp only [Bool.and_eq_true, decide_eq_true_eq] at hfree
          exact .setQueue h fun _ => .appendShared hfree.1 hfree.2
        · exact .lose h

theorem logTrigger {cause} (h : Keeps m s t) : Keeps m s (t.logTrigger cause) := by
  unfold State.logTrigger
  extract_lets s1
  have hs1 : Keeps m s s1 := .modLog h (fun _ => rfl)
  split
  · exact .wr (.modLog hs1 (fun _ => rfl))
  · split
    · exact .modLog hs1 (fun _ => rfl)
    · exact .modLog hs1 (fun _ => rfl)

theorem wakeHeld {c cause} (h : Keeps m s t) : Keeps m s (t.wakeHeld c cause) := by
  unfold State.wakeHeld
  split
  · exact .ite h (.wr (.modChr h))
  · exact h

theorem reportSub {u i sub code items} (h : Keeps m s t) : Keeps m s (t.reportSub u i sub code items) :=
  .ite h (by
    extract_lets cls r s1 s2 s3 s4 x s5 s6 s7 x1
    have hs1 : Keeps m s s1 := .bump (.wr h)
    have hs2 : Keeps m s s2 := .wr hs1
    have hs3 : Keeps m s s3 := .ite (.update hs2) hs1
    have hs4 : Keeps m s s4 := .modLog hs3 (fun _ => rfl)
    have hs5 : Keeps m s s5 := .ite (.update hs4) hs4
    have hs6 : Keeps m s s6 := .enqueue hs5
    have hs7 : Keeps m s s7 := .ite (.wakeHeld hs6) hs6
    exact .ite (.logTrigger (.emit (.update hs7))) hs7)

theorem report {u i code items} (h : Keeps m s t) : Keeps m s (t.report u i code items) := .reportSub h

theorem applyErr {addr cause src} (h : Keeps m s t) : Keeps m s (t.applyErr addr cause src) := by
  unfold State.applyErr
  extract_lets s1 s2 s3
  have hs1 : Keeps m s s1 := .ite h (.wr (.wr (.wr (.wr h))))
  have hs2 : Keeps m s s2 := .wr (.wr (.wr hs1))
  have hs3 : Keeps m s s3 := .ite (.wr hs2) hs2
  exact .bump hs3

theorem wrShadow {f i v} (h : Keeps m s t) : Keeps m s (t.wrShadow f i v) := .update h

theorem wrSwap {f i v} (h : Keeps m s t) : Keeps m s (t.wrSwap f i v) := .update h

theorem storeLive {f i v} (h : Keeps m s t) : Keeps m s (t.storeLive f i v) := by
  unfold State.storeLive
  extract_lets s1 s2 c pg s3 c1 pg1
  have hs1 : Keeps m s s1 := .wr h
  have hs2 : Keeps m s s2 := by
    simp only [s2]
    split
    · exact .modPic hs1
    · exact hs1
  have hs3 : Keeps m s s3 := .modPic hs2
  split
  · exact .wr hs3
  · exact .modPic (.wr hs2)
  · exact hs2

theorem writeField {pre f i v} (h : Keeps m s t) : Keeps m s (t.writeField pre f i v).1 := by
  unfold State.writeField
  extract_lets x cause
  split
  · split
    · exact .mkFst h
    · exact .mkFst (by
        split
        · exact .wrShadow h
        · exact .storeLive h)
  · split
    · exact .mkFst (.wrShadow h)
    · split
      · exact .mkFst h
      · split
        · exact .mkFst h
        · exact .mkFst (.wr h)
    · exact .mkFst (.ite (.update h) (.storeLive h))

theorem applyErrClear (h : Keeps m s t) : Keeps m s t.applyErrClear := .foldl h (fun _ _ hx => .wr hx)

theorem writeOne {pre a data acc x} (h : Keeps m s acc.s) : Keeps m s (State.writeOne pre a data acc x).s := by
  unfold State.writeOne
  extract_lets t f i part more pull
  have hpull : Keeps m s pull.s := by
    simp only [pull]
    split
    · exact h
    · exact h
  clear_value f
  split
  · exact h
  · exact h
  · split
    · split
      · exact .applyErrClear h
      · exact h
    · split
      · exact .wr h
      · exact h
  · split
    · exact .wr h
    · exact hpull
  · exact hpull
  · split
    · exact h
    · split
      · extract_lets r
        split
        · exact h
        · exact .writeField h
      · exact h

theorem foldlWriteOne {pre a data} {l : List (Fld × Nat × Nat)} {acc : State.WordWrite} (h : Keeps m s acc.s) :
    Keeps m s (l.foldl (State.writeOne pre a data) acc).s := by
  induction l generalizing acc with
  | nil => exact h
  | cons x l ih => exact ih h.writeOne

theorem busWriteGo {a data src} (h : Keeps m s t) : Keeps m s (State.busWrite.go a data src t).1 := by
  unfold State.busWrite.go
  split
  · exact h
  · extract_lets fs r pre s1 wide lowWord
    have hr : Keeps m s r.s := .foldlWriteOne h
    have hs1 : Keeps m s s1 := .ite hr (.applyErr hr)
    split
    · split
      · exact h
      · exact .applyErr h
    · split
      · exact .applyErr h
      · exact .update hs1

theorem busWrite {a data src} (h : Keeps m s t) : Keeps m s (t.busWrite a data src).1 := by
  unfold State.busWrite
  split
  · split
    · exact .applyErr h
    · exact .busWriteGo h
  · exact .busWriteGo h

theorem modArc {f} (h : Keeps m s t) : Keeps m s (t.modArc f) := .update h

theorem modOut {c f} (h : Keeps m s t) : Keeps m s (t.modOut c f) := .modArc h

theorem sendNvme {kind n data} (h : Keeps m s t) : Keeps m s (t.sendNvme kind n data) := by
  unfold State.sendNvme
  extract_lets cmd
  exact .emit (.modArc h)

theorem writeSuper {tail tailSeq} (h : Keeps m s t) : Keeps m s (t.writeSuper tail tailSeq) := by
  unfold State.writeSuper
  split
  · exact h
  · split
    · exact h
    · extract_lets n d1
      exact .sendNvme (.wr (.modArc h))

theorem openExtent {r} (h : Keeps m s t) : Keeps m s (t.openExtent r) := by
  unfold State.openExtent
  split
  · exact h
  · extract_lets n last idx s1 e
    have hs1 : Keeps m s s1 := by
      simp only [s1]
      split
      · exact .ite h (.writeSuper (.modArc h))
      · exact h
    exact .wr (.modArc hs1)

theorem placeRec {r} (h : Keeps m s t) : Keeps m s (t.placeRec r).2 := by
  unfold State.placeRec
  extract_lets fresh s1 head put
  have hs1 : Keeps m s s1 := .ite (.modArc (.openExtent h)) h
  exact .mkSnd (.modArc hs1)

theorem issueWrite (h : Keeps m s t) : Keeps m s t.issueWrite := by
  unfold State.issueWrite
  split
  · exact h
  · extract_lets l r
    have hr : Keeps m s r.2 := .foldlSnd h fun _ _ hp => hp.placeRec
    exact .sendNvme hr

theorem stageRec {rtype rflags time src body} (h : Keeps m s t) : Keeps m s (t.stageRec rtype rflags time src body) :=
  .ite h (by
    extract_lets r used pad pads s1
    have hs1 : Keeps m s s1 := .ite (.modArc h) (.modArc h)
    exact .ite (.report (.bump (.modArc h))) (.issueWrite hs1))

theorem stageNote {kind data} (h : Keeps m s t) : Keeps m s (t.stageNote kind data) := .stageRec h

theorem gatherDigests {c} (h : Keeps m s t) : Keeps m s (t.gatherDigests c) := by
  unfold State.gatherDigests
  extract_lets o next
  split
  · exact h
  · extract_lets s1
    have hs1 : Keeps m s s1 := .stageRec h
    exact .modOut hs1

theorem takeDigest {c bytes d frame mtime} (h : Keeps m s t) : Keeps m s (t.takeDigest c bytes d frame mtime) := by
  unfold State.takeDigest
  extract_lets s1
  have hs1 : Keeps m s s1 := .modOut h
  exact .ite (.gatherDigests hs1) hs1

theorem feedFlush {fuel} (h : Keeps m s t) : Keeps m s (State.feedFlush fuel t) := by
  induction fuel generalizing t with
  | zero => exact h
  | succ fuel ih =>
    unfold State.feedFlush
    split
    · exact h
    · split
      · exact h
      · split
        · exact h
        · extract_lets mark s1
          have hs1 : Keeps m s s1 := .modArc h
          exact ih (.ite hs1 (.stageRec hs1))

theorem runFlush (h : Keeps m s t) : Keeps m s t.runFlush := .feedFlush h

theorem loseRing (h : Keeps m s t) : Keeps m s t.loseRing := .modArc h

theorem ringStop {cause} (h : Keeps m s t) : Keeps m s (t.ringStop cause) := .ite h (.stageNote (.report (.wr h)))

theorem ringError {kind} (h : Keeps m s t) : Keeps m s (t.ringError kind) :=
  .ite (.ringStop h) (.ite h (by
    split
    · exact h
    · exact .modArc h))

theorem modMem {f} (h : Keeps m s t) : Keeps m s (t.modMem f) := .update h

theorem signal {n} (h : Keeps m s t) : Keeps m s (t.signal n) :=
  .ite h (.ite (by
    extract_lets x
    exact .update h) (.emit h))

theorem signalCluster {c base en} (h : Keeps m s t) : Keeps m s (t.signalCluster c base en) := .ite (.signal h) h

theorem showCache {r} (h : Keeps m s t) : Keeps m s (t.showCache r) := .wr (.wr h)

theorem dropCopies {f} (h : Keeps m s t) : Keeps m s (t.dropCopies f) := by
  unfold State.dropCopies
  extract_lets gone s1
  have hs1 : Keeps m s s1 := .modMem h
  exact .ite h (.foldl hs1 (fun _ _ hx => .showCache (.bumpBy hx)))

theorem takeStaging {length} (h : Keeps m s t) : Keeps m s (t.takeStaging length) := by
  unfold State.takeStaging
  extract_lets n free s1 got x s2
  have hs1 : Keeps m s s1 := .ite h (.dropCopies h)
  have hs2 : Keeps m s s2 := .update hs1
  exact .foldl (.modMem hs2) (fun _ _ hx1 => .showCache hx1)

theorem dropTileReaff {c l} (h : Keeps m s t) : Keeps m s (t.dropTileReaff c l) := .modPic h

theorem dropReaff {c l} (h : Keeps m s t) : Keeps m s (t.dropReaff c l) := .modPic (.dropTileReaff (.modLayer h))

theorem postRetire {c l le} (h : Keeps m s t) : Keeps m s (t.postRetire c l le) := by
  unfold State.postRetire
  extract_lets s1
  have hs1 : Keeps m s s1 := .modPic h
  exact .signalCluster (.report hs1)

theorem retireAll {c ended l} (h : Keeps m s t) : Keeps m s (t.retireAll c ended l) := by
  induction l generalizing t with
  | nil => exact h
  | cons x rest ih =>
    unfold State.retireAll
    extract_lets same le keep0 keep s1
    have hs1 : Keeps m s s1 := .ite (.forClusters h fun _ _ hx => .modPic hx) (.postRetire h)
    split
    · exact ih h
    · exact ih hs1

theorem endLeases {c ls new} (h : Keeps m s t) : Keeps m s (t.endLeases c ls new) := by
  unfold State.endLeases
  extract_lets ended s1 s2
  have hs1 : Keeps m s s1 := .foldl h (fun _ _ hx => .dropCopies (.dropReaff (.modLayer hx)))
  have hs2 : Keeps m s s2 := .foldl hs1 (fun _ _ hx => .modLayer hx)
  exact .retireAll hs2

theorem setRange {c at' high} (h : Keeps m s t) : Keeps m s (t.setRange c at' high) := by
  unfold State.setRange
  extract_lets base
  exact .emit (.modLight h)

theorem strobe {c tsrc prim at'} (h : Keeps m s t) : Keeps m s (t.strobe c tsrc prim at') := by
  unfold State.strobe
  extract_lets r i
  exact .emit (.modHel h)

theorem releaseLref {c k} (h : Keeps m s t) : Keeps m s (t.releaseLref c k) := by
  unfold State.releaseLref
  split
  · exact .ite h (by
      extract_lets s1
      have hs1 : Keeps m s s1 := .modChan h
      exact .ite (.emit hs1) hs1)
  · exact h

theorem takeLref {c k code} (h : Keeps m s t) : Keeps m s (t.takeLref c k code) := by
  unfold State.takeLref
  extract_lets s1 x s2 holds
  have hs1 : Keeps m s s1 := .releaseLref h
  have hs2 : Keeps m s s2 := .modChan hs1
  exact .ite (.modChan hs1) (.ite (.emit hs2) hs2)

theorem deliver {c u d} (h : Keeps m s t) : Keeps m s (t.deliver c u d) := by
  unfold State.deliver
  split
  · exact .ite (.takeLref h) h
  · exact .ite (.modHel h) h
  · exact h

theorem writeOut {c i u} (h : Keeps m s t) : Keeps m s (t.writeOut c i u) := by
  unfold State.writeOut
  extract_lets j was s1 s2 tol
  have hs1 : Keeps m s s1 := .modSlot (.wrI h)
  have hs2 : Keeps m s s2 := .foldl hs1 (fun _ _ hx => .deliver hx)
  exact .ite (.wakeHeld hs2) hs2

theorem writeSafe {c i} (h : Keeps m s t) : Keeps m s (t.writeSafe c i) := .writeOut h

theorem noteTonly {c} (h : Keeps m s t) : Keeps m s (t.noteTonly c) := by
  unfold State.noteTonly
  extract_lets cause n
  exact .modChr h

theorem showOpen {c i} (h : Keeps m s t) : Keeps m s (t.showOpen c i) := .noteTonly (.wrb h)

theorem stopSlot {c i} (h : Keeps m s t) : Keeps m s (t.stopSlot c i) := .showOpen (.writeSafe h)

theorem sendCommand {c op first last place hold replay pid at'} (h : Keeps m s t) :
    Keeps m s (t.sendCommand c op first last place hold replay pid at') := by
  unfold State.sendCommand
  extract_lets run lanes cmd s1
  have hs1 : Keeps m s s1 := .modTri h
  exact .ite (.emit hs1) hs1

theorem dumpNow {c} (h : Keeps m s t) : Keeps m s (t.dumpNow c) := .sendCommand h

theorem sendDump {c} (h : Keeps m s t) : Keeps m s (t.sendDump c) := .ite h (.dumpNow h)

theorem modEng {e f} (h : Keeps m s t) : Keeps m s (t.modEng e f) := by
  unfold State.modEng
  extract_lets x
  exact .update h

theorem violate {code hit} (h : Keeps m s t) : Keeps m s (t.violate code hit) :=
  .foldl h (fun _ _ hx => by
    extract_lets st
    exact .ite (.modEng hx) hx)

theorem noTapEvent {die key} (h : Keeps m s t) : Keeps m s (t.noTapEvent die key) := by
  unfold State.noTapEvent
  extract_lets b w
  exact .report (.freeBits (.freeBits h))

theorem addLit {c k n pat} (h : Keeps m s t) : Keeps m s (t.addLit c k n pat) := by
  unfold State.addLit
  extract_lets i x em s1 s2
  have hs1 : Keeps m s s1 := .wr h
  have hs2 : Keeps m s s2 := .foldl hs1 (fun _ _ hx1 => .ite hx1 (.wr hx1))
  exact .modChan hs2

theorem litUntil {c k from' upto} (h : Keeps m s t) : Keeps m s (t.litUntil c k from' upto) := by
  unfold State.litUntil
  extract_lets l dim r
  exact .addLit (.modLight h)

theorem setLenAt {c k v dly} (h : Keeps m s t) : Keeps m s (t.setLenAt c k v dly) :=
  .ite h (by
    extract_lets s1 edge was s2 s3
    have hs1 : Keeps m s s1 := .ite (.violate h) h
    have hs2 : Keeps m s s2 := .ite hs1 (.litUntil hs1)
    have hs3 : Keeps m s s3 := .modChan hs2
    exact .ite hs3 (.ite (.emit hs3) (.emit hs3)))

theorem setLen {c k v} (h : Keeps m s t) : Keeps m s (t.setLen c k v) := .setLenAt h

theorem cutDiag {c k} (h : Keeps m s t) : Keeps m s (t.cutDiag c k) := by
  unfold State.cutDiag
  extract_lets x s1 upto s2
  have hs1 : Keeps m s s1 := .addLit h
  have hs2 : Keeps m s s2 := .modChan hs1
  exact .ite h (.ite (.emit hs2) hs2)

theorem contentLow {c} (h : Keeps m s t) : Keeps m s (t.contentLow c) := .foldl h (fun _ _ hx => .setLen hx)

theorem lensLow {c} (h : Keeps m s t) : Keeps m s (t.lensLow c) := .foldl h (fun _ _ hx => .cutDiag (.setLen hx))

theorem markAllTiles {c} (h : Keeps m s t) : Keeps m s (t.markAllTiles c) := by
  unfold State.markAllTiles
  extract_lets s1
  have hs1 : Keeps m s s1 := .modPic h
  exact .wr hs1

theorem abandonFade {c} (h : Keeps m s t) : Keeps m s (t.abandonFade c) := .ite h (.wr (.wr (.wr (.modLight h))))

theorem darken {c fault u i code} (h : Keeps m s t) : Keeps m s (t.darken c fault u i code) :=
  .ite h (by
    extract_lets s1 s2 s3
    have hs1 : Keeps m s s1 := .wr (.markAllTiles (.sendDump (.lensLow h)))
    have hs2 : Keeps m s s2 := .abandonFade (.modLight hs1)
    have hs3 : Keeps m s s3 := .endLeases (.modTri hs2)
    exact .ite (.report hs3) (.report hs3))

theorem dropFrames {c} (h : Keeps m s t) : Keeps m s (t.dropFrames c) := by
  unfold State.dropFrames
  extract_lets n due
  exact .modPic h

theorem stopCluster {c} (h : Keeps m s t) : Keeps m s (t.stopCluster c) := by
  unfold State.stopCluster
  extract_lets s1 s2 s3 s4 s5
  have hs1 : Keeps m s s1 := .dropFrames (.sendDump (.lensLow h))
  have hs2 : Keeps m s s2 := .modChr hs1
  have hs3 : Keeps m s s3 := .ite (.wr (.wr hs2)) hs2
  have hs4 : Keeps m s s4 := .modPic hs3
  have hs5 : Keeps m s s5 := .modTri hs4
  exact .wr (.wr hs5)

theorem keepDomains {mask} (h : Keeps true s t) : Keeps true s (t.keepDomains mask) := by
  unfold State.keepDomains
  extract_lets on s1 s2 x s3 y s4 need
  have hs1 : Keeps true s s1 := .wr h
  have hs2 : Keeps true s s2 := .forClusters hs1 fun x c hx => by
    extract_lets y
    have hy : Keeps true s y := .ite hx (.lensLow hx)
    exact .ite hy (.stopCluster hy)
  have hs3 : Keeps true s s3 := .ite hs2 (.setHbm hs2 (fun _ => rfl))
  have hs4 : Keeps true s s4 := .setPlate hs3 memory_wf_filter
  exact .wr hs4

theorem powerOn {mask} (h : Keeps m s t) : Keeps m s (t.powerOn mask) := by
  unfold State.powerOn
  extract_lets s1 due s2
  have hs1 : Keeps m s s1 := .wr h
  have hs2 : Keeps m s s2 := .update hs1
  exact .foldl hs2 (fun _ _ hx => .storeLive hx)

theorem setSel {v} (h : Keeps m s t) : Keeps m s (t.setSel v) :=
  .ite h (by
    extract_lets x
    exact .emit (.wrb (.update h)))

theorem haltChronograph {c} (h : Keeps m s t) : Keeps m s (t.haltChronograph c) := by
  unfold State.haltChronograph
  extract_lets s1 s2
  have hs1 : Keeps m s s1 := .dropFrames h
  have hs2 : Keeps m s s2 := .modChr hs1
  exact .wr (.wr hs2)

theorem unitFault {u i sub code items} (h : Keeps m s t) : Keeps m s (t.unitFault u i sub code items) :=
  .ite h (by
    extract_lets s1 c
    have hs1 : Keeps m s s1 := .reportSub h
    split
    · exact .darken hs1
    · exact .darken hs1
    · exact .darken hs1
    · exact .darken hs1
    · exact .haltChronograph (.darken hs1)
    · exact .ite (.darken hs1) hs1
    · exact .cutDiag (.setLen hs1)
    · exact .stopSlot hs1
    · exact .lensLow hs1
    · exact .forClusters hs1 (fun _ _ hx => .modPic hx)
    · exact hs1)

theorem moduleFatal {code} (h : Keeps true s t) : Keeps true s (t.moduleFatal code) := by
  unfold State.moduleFatal
  extract_lets s1 s2 s3
  have hs1 : Keeps true s s1 := .forClusters h (fun _ _ hx => .sendDump (.lensLow hx))
  have hs2 : Keeps true s s2 := .setSel hs1
  have hs3 : Keeps true s s3 := .ite (.ite (.emit hs2) hs2) hs1
  exact .wr (.keepDomains hs3)

theorem fatalEvent {u i code items} (h : Keeps true s t) : Keeps true s (t.fatalEvent u i code items) := .moduleFatal (.report h)

theorem writePage {f bs} (h : Keeps m s t) : Keeps m s (t.writePage f bs) := .foldl h (fun _ _ hx => .wr hx)

theorem mailReply {tag r} (h : Keeps m s t) : Keeps m s (t.mailReply tag r) := by
  unfold State.mailReply
  extract_lets s1 s2
  have hs1 : Keeps m s s1 := .wr (.wr (.wr h))
  have hs2 : Keeps m s s2 := .wr (.writePage hs1)
  exact .signal (.wr (.wr hs2))

theorem mailCollide (h : Keeps m s t) : Keeps m s t.mailCollide := .report (.wr h)

theorem mailTurnedAway {tag} (h : Keeps m s t) (e : t.mailTurnedAway tag = some u) : Keeps m s u := by
  unfold State.mailTurnedAway at e
  split at e
  · obtain rfl := Option.some.inj e
    exact .mailReply h
  · split at e
    · obtain rfl := Option.some.inj e
      exact .mailReply (.bump (.wr h))
    · exact nomatch e

/-- The state with a request in its registers, and the one that the Observer works on where it takes the request. -/
theorem mailTake_both {code m' args page} (h : Keeps m s t) :
    Keeps m s (t.mailTake code m' args page).1 ∧ ∀ x, (t.mailTake code m' args page).2 = some x → Keeps m s x := by
  unfold State.mailTake
  extract_lets busy mine s1 s2 s3
  have hs3 : Keeps m s s3 := .writePage (.wr (.wr (.foldl (.wr (.wr h)) fun _ _ hx => .wr hx)))
  split
  · exact ⟨.update h, by simp⟩
  · split
    · exact ⟨.mailCollide h, by simp⟩
    · split
      · rename_i x e
        refine ⟨?_, by simp⟩
        split at e
        · exact nomatch e
        · exact hs3.mailTurnedAway e
      · exact ⟨hs3, fun _ e => Option.some.inj e ▸ hs3⟩

theorem mailTake {code m' args page} (h : Keeps m s t) : Keeps m s (t.mailTake code m' args page).1 := h.mailTake_both.1

theorem mailWait {code m' args page} (h : Keeps m s t) : Keeps m s (t.mailWait code m' args page) := by
  obtain ⟨h₁, h₂⟩ := h.mailTake_both (code := code) (m' := m') (args := args) (page := page)
  unfold State.mailWait
  split
  · rename_i x e
    rwa [e] at h₁
  · rename_i y x e
    exact .wr (h₂ x (by rw [e]))

theorem mailbox {code m' args page dma} {f : State → State × Reply} (h : Keeps m s t) (k : ∀ x, Keeps m s x → Keeps m s (f x).1) :
    Keeps m s (t.mailbox code m' args page dma f) := by
  obtain ⟨h₁, h₂⟩ := h.mailTake_both (code := code) (m' := m') (args := args) (page := page)
  unfold State.mailbox
  extract_lets tag
  split
  · rename_i x e
    rwa [e] at h₁
  · rename_i y x e
    have hx : Keeps m s x := h₂ x (by rw [e])
    split
    · exact .mailReply hx
    · extract_lets r
      have hr : Keeps m s r.1 := k x hx
      split
      · exact .mailReply hr
      · exact .mailReply (.emit hr)

theorem evrSignal (h : Keeps m s t) : Keeps m s t.evrSignal := by
  unfold State.evrSignal
  extract_lets x
  exact .update (.signal h)

theorem evrOffer {r} (h : Keeps m s t) : Keeps m s (t.evrOffer r) := by
  unfold State.evrOffer
  extract_lets cls n prod cons s1 s2 s3 x s4
  have hs1 : Keeps m s s1 := .wr (.bump h)
  have hs2 : Keeps m s s2 := .emit h
  have hs3 : Keeps m s s3 := .wrb (.wr hs2)
  have hs4 : Keeps m s s4 := .update hs3
  exact .ite h (.ite (.bump h) (.ite (.ite hs1 (.report hs1)) (.ite (.evrSignal hs4) hs4)))

theorem writeRecord {r} (h : Keeps m s t) : Keeps m s (t.writeRecord r).1 := by
  unfold State.writeRecord
  extract_lets addr rec' s1
  have hs1 : Keeps m s s1 := .modLog h (fun _ => rfl)
  exact .mkFst (.wr hs1)

theorem refill (h : Keeps m s t) : Keeps m s t.refill := by
  unfold State.refill
  extract_lets s1
  have hs1 : Keeps m s s1 := by
    simp only [s1]
    split
    · exact h
    · rename_i r rest e
      split
      · rename_i hfree
        refine .setLog (.setQueue h fun hl => hl.queue.appendU (hl.2.2.2 r (by simp [e])) hfree) (fun hl => ?_)
        rw [State.setQueue_log] at hl ⊢
        obtain ⟨hlen, hshared, hx, hu⟩ := hl
        exact ⟨hlen, hshared, hx, fun x _ => hu x (by simp_all)⟩
      · exact h
  exact .placeSummary hs1

theorem drainOne (h : Keeps m s t) : Keeps m s t.drainOne := by
  unfold State.drainOne
  split
  · exact h
  · extract_lets pick
    have hpick : ∀ r x, pick = some (r, x) → Keeps m s x := by
      intro r x e
      simp only [pick] at e
      split at e
      · rename_i r' rest hx
        obtain ⟨-, rfl⟩ := Prod.mk.inj (Option.some.inj e)
        refine .setLog h (fun hl => ?_)
        obtain ⟨hlen, hshared, hx4, hu⟩ := hl
        rw [hx, List.length_cons] at hx4
        exact ⟨hlen, hshared, by simp only; omega, hu⟩
      · split at e
        · rename_i r' rest hq
          obtain ⟨-, rfl⟩ := Prod.mk.inj (Option.some.inj e)
          exact .setQueue h fun hl => hl.queue.sublist (by simp [hq])
        · exact nomatch e
    clear_value pick
    split
    · exact h
    · rename_i r x
      extract_lets used s2 w s3
      have hx : Keeps m s x := hpick r x rfl
      have hs2 : Keeps m s s2 := .modLog hx (fun _ => rfl)
      have hw : Keeps m s w.1 := .writeRecord hs2
      have hs3 : Keeps m s s3 := .emit (.evrOffer hw)
      exact .refill (.ite (.emit hs3) hs3)

theorem markTrigger {path code} (h : Keeps m s t) : Keeps m s (t.markTrigger path code) := by
  refine .setLog h (fun hl => hl.withQueue (hl.queue.congrCodes ?_))
  rw [List.map_map]
  refine List.map_congr_left fun r _ => ?_
  simp only [Function.comp_apply]
  split <;> rfl

theorem modAlm {f} (h : Keeps m s t) : Keeps m s (t.modAlm f) := .update h

theorem setVal {oid v} (h : Keeps m s t) : Keeps m s (t.setVal oid v) := .modAlm h

theorem almWrite {oid payload} (h : Keeps m s t) : Keeps m s (t.almWrite oid payload) := by
  unfold State.almWrite
  extract_lets s1
  have hs1 : Keeps m s s1 := .modAlm h
  exact .wr (.bump hs1)

theorem almRequest {oid payload} (h : Keeps m s t) : Keeps m s (t.almRequest oid payload) := by
  unfold State.almRequest
  extract_lets st s1
  have hs1 : Keeps m s s1 := .modAlm h
  exact .wr hs1

theorem saveShadow {kind} (h : Keeps m s t) : Keeps m s (t.saveShadow kind) := by
  unfold State.saveShadow
  extract_lets s1
  have hs1 : Keeps m s s1 := .almWrite h
  exact .ite (.wr (.wr hs1)) hs1

theorem checkpoint (h : Keeps m s t) : Keeps m s t.checkpoint := .ite (.wr h) (.saveShadow h)

theorem countStored {oid} (h : Keeps m s t) : Keeps m s (t.countStored oid) := .ite h (.wr (.wr h))

theorem loadShadow {p} (h : Keeps m s t) : Keeps m s (t.loadShadow p) := by
  unfold State.loadShadow
  extract_lets f s1 s2 life s3 s4 slotSeq base s5 arc x s6
  have hs1 : Keeps m s s1 := .foldl h (fun _ _ hx1 => .wr hx1)
  have hs2 : Keeps m s s2 := .foldl hs1 (fun _ _ hx1 => .wr hx1)
  have hs3 : Keeps m s s3 := .modLog hs2 (fun _ => rfl)
  have hs4 : Keeps m s s4 := .wr (.wr (.wr hs3))
  have hs5 : Keeps m s s5 := .wr hs4
  have hs6 : Keeps m s s6 := .update hs5
  exact .ite (.report (.wr hs6)) hs6

theorem showSaves (h : Keeps m s t) : Keeps m s t.showSaves := by
  unfold State.showSaves
  extract_lets newer1 s1 ok
  have hs1 : Keeps m s s1 := .ite (.wrb h) h
  exact .wrb (.wrb (.wrb (.wrb hs1)))

theorem saveRing {slot cause time} (h : Keeps m s t) : Keeps m s (t.saveRing slot cause time) := by
  unfold State.saveRing
  extract_lets recs entry s1 s2
  have hs1 : Keeps m s s1 := .modLog h (fun _ => rfl)
  have hs2 : Keeps m s s2 := .almWrite hs1
  exact .wr (.wr (.showSaves hs2))

theorem resumeRing (h : Keeps m s t) : Keeps m s t.resumeRing := by
  unfold State.resumeRing
  extract_lets s1 s2
  have hs1 : Keeps m s s1 := .modLog h (fun _ => rfl)
  have hs2 : Keeps m s s2 := .wr (.wr (.wr (.wr hs1)))
  exact .ite (.saveShadow hs2) hs2

theorem sendTrig {ports origin cause} (h : Keeps m s t) : Keeps m s (t.sendTrig ports origin cause) := by
  unfold State.sendTrig
  extract_lets body msg s1
  have hs1 : Keeps m s s1 := .foldl h (fun _ _ hx => .emit hx)
  exact .report hs1

theorem startFlush {cause time} (h : Keeps m s t) : Keeps m s (t.startFlush cause time) :=
  .ite h (by
    extract_lets upto from' s1 fl window lost frames body s2
    have hs1 : Keeps m s s1 := .ite h (.modArc h)
    have hs2 : Keeps m s s2 := .wr (.modArc hs1)
    exact .runFlush (.stageRec hs2))

theorem takeTriggers (h : Keeps m s t) : Keeps m s t.takeTriggers := by
  unfold State.takeTriggers
  extract_lets l
  exact .foldl (.modLog h (fun _ => rfl)) (fun _ _ hx => .startFlush hx)

theorem freezeRing {cause time} (h : Keeps m s t) : Keeps m s (t.freezeRing cause time) := by
  unfold State.freezeRing
  extract_lets s1 s2 s3
  have hs1 : Keeps m s s1 := .wr (.modLog h (fun _ => rfl))
  have hs2 : Keeps m s s2 := .ite (.sendTrig hs1) hs1
  have hs3 : Keeps m s s3 := .takeTriggers hs2
  split
  · exact .resumeRing (.report (.bump hs3))
  · exact .wr (.wr (.wr (.modLog hs3 (fun _ => rfl))))

theorem rawAccess {code m' args page} {f : State → State × Reply} (h : Keeps m s t) (k : ∀ x, Keeps m s x → Keeps m s (f x).1) :
    Keeps m s (t.rawAccess code m' args page f) :=
  .ite (.mailWait h) (.mailbox h k)

end Keeps

namespace KeepsNext

variable {m : Bool} {s t u : State}

theorem execAlmRawRead {t' m' addr len} (h : Keeps m s t) : KeepsNext m s (Machine.execAlmRawRead t' m' addr len t) :=
  .next (.rawAccess (.advance h) (fun _ hx => by
    split
    · exact .mkFst hx
    · split
      · exact .mkFst hx
      · exact .mkFst hx))

theorem execAlmRawWrite {t' m' addr data} (h : Keeps true s t) : KeepsNext true s (Machine.execAlmRawWrite t' m' addr data t) := by
  refine .next (.rawAccess (.advance h) fun x hx => ?_)
  split
  · exact .mkFst hx
  · split
    · exact .mkFst hx
    · extract_lets raw rep
      exact .mkFst (.bump (.setRaw hx fun hw => memory_wf_foldl hw fun x y hx => memory_wf_cellSet hx))

theorem execObjectStore {t' oid} (h : Keeps m s t) : KeepsNext m s (Machine.execObjectStore t' oid t) := by
  unfold Machine.execObjectStore
  extract_lets s1
  have hs1 : Keeps m s s1 := .advance h
  split
  · exact .next hs1
  · exact .ite (.next hs1) (.next (.countStored (.almWrite hs1)))

theorem execCheckpoint {t'} (h : Keeps m s t) : KeepsNext m s (Machine.execCheckpoint t' t) := by
  unfold Machine.execCheckpoint
  extract_lets s1
  have hs1 : Keeps m s s1 := .advance h
  exact .next (.ite hs1 (.checkpoint hs1))

theorem execCheckpointNow {t'} (h : Keeps m s t) : KeepsNext m s (Machine.execCheckpointNow t' t) := .next (.checkpoint (.advance h))

theorem execQueueDrain {t'} (h : Keeps m s t) : KeepsNext m s (Machine.execQueueDrain t' t) := by
  unfold Machine.execQueueDrain
  extract_lets s1 d
  have hs1 : Keeps m s s1 := .advance h
  have hd : Keeps m s d := .drainOne hs1
  exact .next (by
      split
      · exact .ite (.stageNote hd) hd
      · exact hd)

theorem execLogTriggerHost {t'} (h : Keeps m s t) : KeepsNext m s (Machine.execLogTriggerHost t' t) := by
  unfold Machine.execLogTriggerHost
  extract_lets s1
  have hs1 : Keeps m s s1 := .report (.advance h)
  exact .next (.takeTriggers (.logTrigger (.markTrigger hs1)))

theorem execLogFreeze {t'} (h : Keeps m s t) : KeepsNext m s (Machine.execLogFreeze t' t) := by
  unfold Machine.execLogFreeze
  extract_lets s1
  have hs1 : Keeps m s s1 := .advance h
  split
  · exact .next (.ite (.freezeRing hs1) hs1)
  · exact .next hs1

theorem execLogbookSaveDone {t'} (h : Keeps m s t) : KeepsNext m s (Machine.execLogbookSaveDone t' t) := by
  unfold Machine.execLogbookSaveDone
  extract_lets s1
  have hs1 : Keeps m s s1 := .advance h
  split
  · exact .next hs1
  · extract_lets slot1 s2
    have hs2 : Keeps m s s2 := .resumeRing (.saveRing hs1)
    exact .next (.report hs2)

theorem execLogRelease {t' slot} (h : Keeps m s t) : KeepsNext m s (Machine.execLogRelease t' slot t) := by
  unfold Machine.execLogRelease
  extract_lets s1
  have hs1 : Keeps m s s1 := .modLog (.advance h) (fun _ => rfl)
  exact .next (.almRequest (.showSaves hs1))

theorem execLogSlotRead {t' m' slot} (h : Keeps m s t) : KeepsNext m s (Machine.execLogSlotRead t' m' slot t) :=
  .next (.mailbox (.advance h) (fun _ hx => by
    split
    · exact .mkFst hx
    · extract_lets i x1
      split
      · split
        · exact .mkFst hx
        · exact .mkFst hx
      · split
        · exact .mkFst hx
        · exact .mkFst hx))

end KeepsNext

namespace Keeps

variable {m : Bool} {s t u : State}

theorem sendPend {c} (h : Keeps m s t) : Keeps m s (t.sendPend c) :=
  .ite h (by
    extract_lets p waited x s1
    have hs1 : Keeps m s s1 := .update h
    exact .ite (.emit hs1) hs1)

theorem requestCommit {c} (h : Keeps m s t) : Keeps m s (t.requestCommit c) :=
  .ite h (by
    extract_lets s1
    have hs1 : Keeps m s s1 := .modChr (.wr h)
    exact .sendPend (.wakeHeld hs1))

theorem withdrawCommit {c} (h : Keeps m s t) : Keeps m s (t.withdrawCommit c) := by
  unfold State.withdrawCommit
  extract_lets s1
  have hs1 : Keeps m s s1 := .modChr (.wr (.wr h))
  exact .sendPend (.report hs1)

theorem setArmed {l} (h : Keeps m s t) : Keeps m s (t.setArmed l) := by
  unfold State.setArmed
  extract_lets x s1
  have hs1 : Keeps m s s1 := .update h
  exact .wrb (.foldl hs1 (fun _ _ hx1 => .wrb hx1))

theorem cancelCommit {c} (h : Keeps m s t) : Keeps m s (t.cancelCommit c) :=
  .ite h (by
    extract_lets s1
    have hs1 : Keeps m s s1 := .withdrawCommit h
    exact .ite (.setArmed hs1) hs1)

theorem lockLost {c cause} (h : Keeps m s t) : Keeps m s (t.lockLost c cause) := by
  unfold State.lockLost
  extract_lets s1
  have hs1 : Keeps m s s1 := .modChr h
  exact .ite hs1 (.report (.wr (.modChr (.wakeHeld hs1))))

theorem nextAdj {c tail} (h : Keeps m s t) : Keeps m s (t.nextAdj c tail).2 := by
  unfold State.nextAdj
  extract_lets a slew pull bound back f
  split
  · exact .mkSnd h
  · split
    · exact .mkSnd h
    · split
      · exact .mkSnd h
      · split
        · exact .mkSnd h
        · exact .mkSnd (.freeBits h)

theorem lockUpdate {c} (h : Keeps m s t) : Keeps m s (t.lockUpdate c) :=
  .ite h (.ite (.lockLost h) (by
    split
    · exact h
    · extract_lets s1 k s2 n s3
      have hs1 : Keeps m s s1 := .wr h
      have hs2 : Keeps m s s2 := .modChr hs1
      have hs3 : Keeps m s s3 := .modChr hs1
      exact .ite (.ite (.report (.wr hs2)) hs2) (.ite (.lockLost hs3) hs3)))

theorem shiftStamps {d} (h : Keeps m s t) : Keeps m s (t.shiftStamps d) := by
  unfold State.shiftStamps
  extract_lets f s1
  have hs1 : Keeps m s s1 := .forClusters h (fun _ _ hx => .modPic hx)
  exact .update hs1

theorem foldTrim (h : Keeps m s t) : Keeps m s t.foldTrim := by
  unfold State.foldTrim
  extract_lets gone part x
  exact .update h

theorem stepWall {d} (h : Keeps m s t) : Keeps m s (t.stepWall d) := by
  unfold State.stepWall
  extract_lets s1 before x s2 ticks
  have hs1 : Keeps m s s1 := .foldTrim h
  have hs2 : Keeps m s s2 := .update hs1
  exact .report (.bump (.shiftStamps hs2))

theorem modChn {f} (h : Keeps m s t) : Keeps m s (t.modChn f) := .update h

theorem sendChain {port type dest flags payload} (h : Keeps m s t) : Keeps m s (t.sendChain port type dest flags payload) := .emit h

theorem chainRecv {type m'} {f : State → State} (h : Keeps m s t) (k : ∀ x, Keeps m s x → Keeps m s (f x)) :
    Keeps m s (t.chainRecv type m' f) :=
  .ite h (.ite (.bump h) (.ite h (k t h)))

theorem chainDown {type m'} {onward : State → List Nat} {f : State → State} (h : Keeps m s t)
    (k : ∀ x, Keeps m s x → Keeps m s (f x)) : Keeps m s (t.chainDown type m' onward f) :=
  .chainRecv h fun x hx => .emit (.ite (k x hx) hx)

theorem showArms (h : Keeps m s t) : Keeps m s t.showArms := .ite (.wr h) h

theorem sendArm (h : Keeps m s t) : Keeps m s t.sendArm := .ite (.showArms (.modChn h)) (.ite h (.sendChain h))

theorem abortCoherent {id f outcome} (h : Keeps m s t) : Keeps m s (t.abortCoherent id f outcome) := by
  unfold State.abortCoherent
  extract_lets armed s1 s2
  have hs1 : Keeps m s s1 := .foldl h (fun _ _ hx => .withdrawCommit hx)
  have hs2 : Keeps m s s2 := .wr (.setArmed hs1)
  exact .report hs2

theorem enumAbort (h : Keeps m s t) : Keeps m s t.enumAbort := by
  unfold State.enumAbort
  extract_lets s1
  have hs1 : Keeps m s s1 := .showArms (.modChn h)
  exact .ite hs1 (.wr (.abortCoherent hs1))

theorem landFrom {sync} (h : Keeps m s t) : Keeps m s (t.landFrom sync) := .foldl h (fun _ _ hx => .modChr hx)

theorem takeGo {id f} (h : Keeps m s t) : Keeps m s (t.takeGo id f) :=
  .ite h (by
    extract_lets s1 known
    have hs1 : Keeps m s s1 := .foldl h (fun _ _ hx => .modChr hx)
    exact .wr (by
        clear_value known
        split
        · exact .landFrom hs1
        · exact .modChn hs1))

theorem forgetArmed {all} (h : Keeps m s t) : Keeps m s (t.forgetArmed all) := .showArms (.modChn h)

theorem takeDefer {count} (h : Keeps m s t) : Keeps m s (t.takeDefer count) := .wr h

theorem setAddr {a gen} (h : Keeps m s t) : Keeps m s (t.setAddr a gen) := by
  unfold State.setAddr
  extract_lets old s1
  have hs1 : Keeps m s s1 := .wr h
  exact .ite hs1 (.enumAbort (.report (.bump (.wr hs1))))

theorem sendEnum (h : Keeps m s t) : Keeps m s t.sendEnum := .sendChain h

theorem enumerate (h : Keeps m s t) : Keeps m s t.enumerate := by
  unfold State.enumerate
  extract_lets s1
  have hs1 : Keeps m s s1 := .sendEnum h
  split
  · exact .emit hs1
  · exact hs1

theorem takeLength {n past} (h : Keeps m s t) : Keeps m s (t.takeLength n past) := by
  unfold State.takeLength
  extract_lets old s1
  have hs1 : Keeps m s s1 := .wrb (.wr h)
  exact .ite hs1 (.enumAbort (.enumerate (.wr hs1)))

theorem takeFsync {f sync} (h : Keeps m s t) : Keeps m s (t.takeFsync f sync) := by
  unfold State.takeFsync
  extract_lets s1
  have hs1 : Keeps m s s1 := .modChn (.wr (.wr h))
  split
  · exact .ite (.modChn (.landFrom hs1)) hs1
  · exact hs1

end Keeps

namespace KeepsNext

variable {m : Bool} {s t u : State}

theorem execHeadElection {t'} (h : Keeps m s t) : KeepsNext m s (Machine.execHeadElection t' t) := by
  unfold Machine.execHeadElection
  extract_lets s1
  have hs1 : Keeps m s s1 := .advance h
  exact .ite (.next hs1) (.next (.report (.wr (.setAddr hs1))))

theorem execEnumTick {t'} (h : Keeps m s t) : KeepsNext m s (Machine.execEnumTick t' t) := by
  unfold Machine.execEnumTick
  extract_lets s1 s2
  have hs1 : Keeps m s s1 := .advance h
  have hs2 : Keeps m s s2 := .enumerate hs1
  exact .ite (.next hs1) (.next (.ite hs2 (.takeLength hs2)))

theorem execEnum {t' m'} (h : Keeps m s t) : KeepsNext m s (Machine.execEnum t' m' t) := by
  unfold Machine.execEnum
  extract_lets tag m1 from' gen a first
  exact .next (.chainRecv (.advance h) (fun _ hx => by
      extract_lets s1 s2 s3 s4 s5 s6
      have hs1 : Keeps m s s1 := .ite (.report (.wr (.wr hx))) hx
      have hs2 : Keeps m s s2 := by
        simp only [s2]
        clear_value tag
        split
        · exact .modChn hs1
        · exact hs1
      have hs3 : Keeps m s s3 := .setAddr hs2
      have hs4 : Keeps m s s4 := .ite (.report hs3) hs3
      have hs5 : Keeps m s s5 := .modChn hs4
      have hs6 : Keeps m s s6 := .sendEnum hs5
      exact .ite hs6 (.ite (.sendChain hs6) (.ite (.sendChain hs6) hs6))))

theorem execEnumdone {t' m'} (h : Keeps m s t) : KeepsNext m s (Machine.execEnumdone t' m' t) := by
  unfold Machine.execEnumdone
  extract_lets m1
  exact .next (.chainRecv (.advance h) (fun _ hx => .ite (.takeLength hx) (.emit hx)))

theorem execPingTick {t'} (h : Keeps m s t) : KeepsNext m s (Machine.execPingTick t' t) := by
  unfold Machine.execPingTick
  extract_lets s1 s2
  have hs1 : Keeps m s s1 := .advance h
  have hs2 : Keeps m s s2 := .modChn hs1
  exact .ite (.next hs1) (.next (.sendChain hs2))

theorem execPing {t' m' turn} (h : Keeps m s t) : KeepsNext m s (Machine.execPing t' m' turn t) := by
  unfold Machine.execPing
  extract_lets m1
  exact .next (.chainRecv (.advance h) (fun _ hx => .sendChain hx))

theorem execPong {t' m' sub} (h : Keeps m s t) : KeepsNext m s (Machine.execPong t' m' sub t) := by
  unfold Machine.execPong
  extract_lets m1
  exact .next (.chainRecv (.advance h) (fun _ hx => .ite hx (by
      extract_lets trip hops
      exact .wr (.modChn hx))))

theorem execTimeTick {t'} (h : Keeps m s t) : KeepsNext m s (Machine.execTimeTick t' t) := by
  unfold Machine.execTimeTick
  extract_lets s1
  have hs1 : Keeps m s s1 := .advance h
  exact .ite (.next hs1) (.next (.sendChain hs1))

theorem execTime {t' m' sub fwd} (h : Keeps m s t) : KeepsNext m s (Machine.execTime t' m' sub fwd t) := by
  unfold Machine.execTime
  extract_lets m1 out
  exact .next (.chainDown (.advance h) (fun _ hx => by
      extract_lets lat corr err s1 s2 s3 s4 x1 x2
      have hs1 : Keeps m s s1 := .wr (.wr hx)
      have hs2 : Keeps m s s2 := .modChn hs1
      have hs3 : Keeps m s s3 := .foldTrim hs2
      have hs4 : Keeps m s s4 := .ite (.stepWall hs2) (.modChn hs3)
      have hx1 : Keeps m s x1 := .wr hs4
      exact .ite (.update hx1) hs4))

theorem execTimeTimeout {t'} (h : Keeps m s t) : KeepsNext m s (Machine.execTimeTimeout t' t) := by
  unfold Machine.execTimeTimeout
  extract_lets s1
  have hs1 : Keeps m s s1 := .advance h
  split
  · exact .next (.ite hs1 (.report (.modChn hs1)))
  · exact .next hs1

theorem execWallTimeSet {t'} (h : Keeps m s t) : KeepsNext m s (Machine.execWallTimeSet t' t) := by
  unfold Machine.execWallTimeSet
  extract_lets s1 d
  have hs1 : Keeps m s s1 := .advance h
  exact .ite (.next hs1) (.next (.wr (.stepWall hs1)))

theorem execFsyncTick {t'} (h : Keeps m s t) : KeepsNext m s (Machine.execFsyncTick t' t) := by
  unfold Machine.execFsyncTick
  extract_lets s1 c own sync early f
  have hs1 : Keeps m s s1 := .advance h
  exact .ite (.next hs1) (.ite (.next hs1) (.next (.sendChain (.takeFsync hs1))))

theorem execFsync {t' m'} (h : Keeps m s t) : KeepsNext m s (Machine.execFsync t' m' t) := by
  unfold Machine.execFsync
  extract_lets m1
  exact .next (.chainDown (.advance h) (fun _ hx => .takeFsync hx))

theorem execChainLaneChange {t' port up} (h : Keeps m s t) : KeepsNext m s (Machine.execChainLaneChange t' port up t) := by
  unfold Machine.execChainLaneChange
  extract_lets s1 s2 d s3 s4
  have hs1 : Keeps m s s1 := .advance h
  have hs2 : Keeps m s s2 := .modChn hs1
  have hs3 : Keeps m s s3 := .report (.freeBits hs2)
  have hs4 : Keeps m s s4 := .enumerate (.wr hs3)
  exact .ite (.next hs1) (.next (.ite (.ite hs4 (.takeLength hs4)) hs3))

theorem execCoherentArm {t'} (h : Keeps m s t) : KeepsNext m s (Machine.execCoherentArm t' t) := by
  unfold Machine.execCoherentArm
  extract_lets s1 set s2
  have hs1 : Keeps m s s1 := .advance h
  have hs2 : Keeps m s s2 := .modChn (.setArmed (.wr hs1))
  exact .ite (.next (.wr hs1)) (.next (.sendArm hs2))

theorem execArmResend {t'} (h : Keeps m s t) : KeepsNext m s (Machine.execArmResend t' t) := by
  unfold Machine.execArmResend
  extract_lets s1
  have hs1 : Keeps m s s1 := .advance h
  exact .next (.ite hs1 (.sendArm hs1))

theorem execArm {t' m'} (h : Keeps m s t) : KeepsNext m s (Machine.execArm t' m' t) := by
  unfold Machine.execArm
  extract_lets m1
  exact .next (.chainRecv (.advance h) (fun _ hx => .ite (.showArms (.modChn hx)) (.emit hx)))

theorem execCommitDecision {t'} (h : Keeps m s t) : KeepsNext m s (Machine.execCommitDecision t' t) := by
  unfold Machine.execCommitDecision
  extract_lets s1 id f n missing s2 s3 s4
  have hs1 : Keeps m s s1 := .advance h
  have hs2 : Keeps m s s2 := .wr (.takeGo (.sendChain hs1))
  have hs3 : Keeps m s s3 := .takeDefer (.sendChain hs1)
  have hs4 : Keeps m s s4 := .abortCoherent (.sendChain hs1)
  exact .ite (.next hs1) (.ite (.next (.wr hs1)) (.ite (.next (.forgetArmed hs2)) (.ite (.next (.ite (.report hs3) hs3)) (.next
      (.forgetArmed (.wr hs4))))))

theorem execGo {t' m'} (h : Keeps m s t) : KeepsNext m s (Machine.execGo t' m' t) := by
  unfold Machine.execGo
  extract_lets m1
  exact .next (.chainDown (.advance h) (fun _ hx => .wr (.takeGo hx)))

theorem execDefer {t' m'} (h : Keeps m s t) : KeepsNext m s (Machine.execDefer t' m' t) := by
  unfold Machine.execDefer
  extract_lets m1
  exact .next (.chainDown (.advance h) (fun _ hx => .takeDefer hx))

theorem execAbort {t' m'} (h : Keeps m s t) : KeepsNext m s (Machine.execAbort t' m' t) := by
  unfold Machine.execAbort
  extract_lets m1
  exact .next (.chainDown (.advance h) (fun _ hx => .wr (.abortCoherent hx)))

theorem execTrig {t' m' port} (h : Keeps m s t) : KeepsNext m s (Machine.execTrig t' m' port t) := by
  unfold Machine.execTrig
  extract_lets m1
  exact .next (.chainRecv (.advance h) (fun _ hx => by
      extract_lets s1
      have hs1 : Keeps m s s1 := .report (.emit hx)
      exact .takeTriggers (.logTrigger (.markTrigger hs1))))

theorem execChainWakeSend {t'} (h : Keeps m s t) : KeepsNext m s (Machine.execChainWakeSend t' t) := by
  unfold Machine.execChainWakeSend
  extract_lets s1 a
  have hs1 : Keeps m s s1 := .advance h
  exact .next (.foldl hs1 (fun _ _ hx => .sendChain hx))

end KeepsNext

namespace Keeps

variable {m : Bool} {s t u : State}

theorem flagTiles {c num k tiles} (h : Keeps m s t) : Keeps m s (t.flagTiles c num k tiles) := .modPic h

theorem blameUnit {c num tiles u i} (h : Keeps m s t) : Keeps m s (t.blameUnit c num tiles u i) := .ite h (.modPic h)

theorem flagBy {c num k tiles u i} (h : Keeps m s t) : Keeps m s (t.flagBy c num k tiles u i) := .blameUnit (.flagTiles h)

theorem modFrame {c num f} (h : Keeps m s t) : Keeps m s (t.modFrame c num f) := .modPic h

theorem writeTag {path bytes} (h : Keeps m s t) : Keeps m s (t.writeTag path bytes).1 := by
  unfold State.writeTag
  split
  · exact .mkFst h
  · split
    · exact .mkFst h
    · split
      · exact .mkFst h
      · extract_lets s1 x1
        have hs1 : Keeps m s s1 := .almRequest h
        exact .mkFst (.ite (.update hs1) (.ite (.emit hs1) hs1))
  · split
    · exact .mkFst h
    · split
      · exact .mkFst h
      · exact .mkFst (.almRequest h)
  · split
    · exact .mkFst h
    · exact .mkFst (by
        extract_lets x1
        exact .update h)

theorem badWordUsed {c b} (h : Keeps m s t) : Keeps m s (t.badWordUsed c b) := by
  unfold State.badWordUsed
  extract_lets ts s1 s2
  have hs1 : Keeps m s s1 := .ite (.flagBy h) (.flagBy h)
  have hs2 : Keeps m s s2 := .modPic hs1
  exact .ite h (.ite hs1 (.ite (.report (.bump hs2)) (.report hs2)))

theorem wakePc {p} (h : Keeps m s t) : Keeps m s (t.wakePc p) := by
  unfold State.wakePc
  extract_lets s1 ch s2 s3
  have hs1 : Keeps m s s1 := .modMem h
  have hs2 : Keeps m s s2 := .wr (.wr hs1)
  have hs3 : Keeps m s s3 := .modMem hs2
  exact .ite (.wr hs1) (.ite (by
      split
      · exact hs2
      · extract_lets s4 us
        have hs4 : Keeps m s s4 := .bump (.wr (.wr (.wr hs3)))
        exact .report (.freeBits hs4)) hs1)

theorem request {a n} (h : Keeps m s t) : Keeps m s (t.request a n) := .ite h (.foldl h (fun _ _ hx => .wakePc hx))

theorem served {r q lat} (h : Keeps m s t) : Keeps m s (t.served r q lat) := by
  unfold State.served
  extract_lets i s1
  have hs1 : Keeps m s s1 := .wr h
  exact .ite (.bump hs1) hs1

theorem layerAges' {c tm per l} (h : Keeps m s t) : Keeps m s (t.layerAges' c tm per l) := by
  unfold State.layerAges'
  extract_lets i mine ages age stale was lack reaff s1 s2
  have hs1 : Keeps m s s1 := .wrb (.wrb (.wrb (.wr h)))
  have hs2 : Keeps m s s2 := .wrb hs1
  exact .ite (.report hs2) (.ite (.report hs2) hs2)

theorem markEvents {c causes tiles} (h : Keeps m s t) : Keeps m s (t.markEvents c causes tiles) := by
  unfold State.markEvents
  extract_lets m3 was s1
  have hs1 : Keeps m s s1 := .modPic h
  exact .ite (.report hs1) (.ite (.report hs1) hs1)

theorem showDeadline {c d} (h : Keeps m s t) : Keeps m s (t.showDeadline c d) := .wr h

theorem showBlame {c} (h : Keeps m s t) : Keeps m s (t.showBlame c) := by
  unfold State.showBlame
  extract_lets other s1
  have hs1 : Keeps m s s1 := .foldl h (fun _ _ hx => .wrb hx)
  exact .modPic hs1

theorem showMarks {c} (h : Keeps m s t) : Keeps m s (t.showMarks c) := by
  unfold State.showMarks
  extract_lets dark s1 s2 off s3 s4
  have hs1 : Keeps m s s1 := .foldl h (fun _ _ hx => .wrb hx)
  have hs2 : Keeps m s s2 := .foldl hs1 (fun _ _ hx => .wrb hx)
  have hs3 : Keeps m s s3 := .foldl hs2 (fun _ _ hx => by
      extract_lets i
      exact .wrb hx)
  have hs4 : Keeps m s s4 := .wrb hs3
  exact .showBlame (.wrb hs4)

theorem evaluateTiles {c} (h : Keeps m s t) : Keeps m s (t.evaluateTiles c).2.2 := by
  unfold State.evaluateTiles
  extract_lets tm whole all per judged marked stale causes s1 s2 s3 s4 s5
  split
  · exact Keeps.showMarks (.modPic (.wr (.wr h)))
  · have hs1 : Keeps m s s1 := .modPic h
    have hs2 : Keeps m s s2 := .wr (.wr hs1)
    have hs3 : Keeps m s s3 := .foldl hs2 fun _ _ hx => .layerAges' hx
    have hs4 : Keeps m s s4 := .showMarks hs3
    have hs5 : Keeps m s s5 := .showDeadline (.markEvents hs4)
    exact hs5

theorem reAge {c ts} (h : Keeps m s t) : Keeps m s (t.reAge c ts) :=
  .forClusters h (fun _ _ hx => by
    extract_lets tm
    exact .modPic hx)

theorem writePlane {a bs} (h : Keeps true s t) : Keeps true s (t.writePlane a bs) := by
  unfold State.writePlane
  extract_lets s1
  have hs1 : Keeps true s s1 := .request h
  exact .setHbm hs1 memory_wf_cellStore

theorem recompose {c prevCrcs} (h : Keeps true s t) : Keeps true s (t.recompose c prevCrcs) := by
  unfold State.recompose
  extract_lets w h1 comp out crcs s1 s2
  have hs1 : Keeps true s s1 := .modPic h
  have hs2 : Keeps true s s2 := .wr hs1
  exact .ite hs2 (by
      split
      · exact hs2
      · exact .foldl hs2 (fun _ _ hx1 => .foldl hx1 (fun _ _ hx2 => .writePlane hx2)))

theorem judgeWords {c} (h : Keeps m s t) : Keeps m s (t.judgeWords c) := .foldl h (fun _ _ hx => .badWordUsed hx)

theorem recomposeAll {c} (h : Keeps true s t) : Keeps true s (t.recomposeAll c) := .forClusters h (fun _ _ hx => .ite (.judgeWords
    (.recompose hx)) hx)

theorem setPcs {r pwr} (h : Keeps m s t) : Keeps m s (t.setPcs r pwr) := .foldl h (fun _ _ hx => .wr hx)

theorem captureFreeze {r pc a kind port path} (h : Keeps m s t) : Keeps m s (t.captureFreeze r pc a kind port path) := by
  unfold State.captureFreeze
  extract_lets rq wq s1 s2
  have hs1 : Keeps m s s1 := .wr (.wr (.wr (.freeBits (.freeBits h))))
  have hs2 : Keeps m s s2 := .wr (.wr hs1)
  exact .wr (.wr (.wr (.wr hs2)))

theorem recoveryFailed {r} (h : Keeps m s t) : Keeps m s (t.recoveryFailed r) := by
  unfold State.recoveryFailed
  extract_lets n s1
  have hs1 : Keeps m s s1 := .setPcs (.wr h)
  exact .ite (.report (.wr hs1)) (.wr hs1)

theorem lateLines {c l y0 y1} (h : Keeps true s t) : Keeps true s (t.lateLines c l y0 y1) := by
  unfold State.lateLines
  extract_lets r s1 s2
  have hs1 : Keeps true s s1 := .modLayer h
  have hs2 : Keeps true s s2 := .flagBy (.recomposeAll hs1)
  exact .report (.bump hs2)

theorem lateFetches {r} (h : Keeps true s t) : Keeps true s (t.lateFetches r) :=
  .forClusters h (fun _ _ hx => .ite hx (.foldl hx (fun _ _ hx1 => by
    extract_lets rect line
    exact .ite (.lateLines hx1) hx1)))

theorem freeze {r cause pc a kind port path} (h : Keeps true s t) : Keeps true s (t.freeze r cause pc a kind port path) := by
  unfold State.freeze
  extract_lets st s1 s2 s3 s4 s5 s6 s7 s8
  have hs1 : Keeps true s s1 := .wr h
  have hs2 : Keeps true s s2 := .wr (.captureFreeze hs1)
  have hs3 : Keeps true s s3 := .setPcs (.wr (.wr hs2))
  have hs4 : Keeps true s s4 := .modRegion hs3
  have hs5 : Keeps true s s5 := .foldl hs4 (fun _ _ hx => .modMem hx)
  have hs6 : Keeps true s s6 := .dropCopies hs5
  have hs7 : Keeps true s s7 := .violate hs6
  have hs8 : Keeps true s s8 := .lateFetches (.report hs7)
  exact .ite hs1 (.ite (.recoveryFailed hs2) (.forClusters hs8 (fun _ _ hx => .wakeHeld hx)))

theorem countDetErr {pc} (h : Keeps m s t) : Keeps m s (t.countDetErr pc) := by
  unfold State.countDetErr
  extract_lets r s1 l n s2
  have hs1 : Keeps m s s1 := .bump h
  have hs2 : Keeps m s s2 := .modRegion hs1
  exact .ite (.report (.wr hs2)) (.modRegion hs1)

theorem poisonBurst {b} (h : Keeps m s t) : Keeps m s (t.poisonBurst b) := by
  unfold State.poisonBurst
  extract_lets s1
  have hs1 : Keeps m s s1 := .bump h
  exact .ite hs1 (.modMem hs1)

theorem hbmStore {a bs} (h : Keeps true s t) : Keeps true s (t.hbmStore a bs) := by
  unfold State.hbmStore
  extract_lets touched whole s1 s2
  have hs1 : Keeps true s s1 := .setHbm h memory_wf_cellStore
  have hs2 : Keeps true s s2 := .modMem hs1
  exact .foldl hs2 fun _ _ hx => .poisonBurst (.countDetErr hx)

theorem rmwFails {a n bad} (h : Keeps m s t) : Keeps m s (t.rmwFails a n bad) := by
  unfold State.rmwFails
  split
  · exact h
  · extract_lets b
    exact .ite h (.poisonBurst (.countDetErr h))

theorem leaseWrite {c a n} (h : Keeps m s t) : Keeps m s (t.leaseWrite c a n) :=
  .foldl h (fun _ _ hx => by
    split
    · exact hx
    · exact .ite hx (.ite (.wakeHeld hx) (.ite hx (by
        extract_lets k f s1
        have hs1 : Keeps m s s1 := .flagBy hx
        exact .report (.bump hs1)))))

theorem placeInput {i parts} (h : Keeps m s t) : Keeps m s (t.placeInput i parts) := by
  unfold State.placeInput
  extract_lets part
  exact .modDp h

theorem storeMeshes {p r} (h : Keeps true s t) : Keeps true s (t.storeMeshes p r) :=
  .foldl h fun _ _ hx => .setHbm hx memory_wf_cellStore

theorem hostWritePart {a bs bad lat} (h : Keeps true s t) : Keeps true s (t.hostWritePart a bs bad lat) :=
  .ite h (by
    extract_lets r s1 s2 s3
    have hs1 : Keeps true s s1 := .bump h
    have hs2 : Keeps true s s2 := .modMem hs1
    have hs3 : Keeps true s s3 := .dropCopies (.served (.rmwFails (.hbmStore (.request h))))
    split
    · exact .report (.bump h)
    · exact .ite (.report hs2) (.forClusters hs3 (fun _ _ hx1 => .leaseWrite hx1)))

theorem complete {st bs} (h : Keeps m s t) : Keeps m s (t.complete st bs) := .update h

theorem report2641 {a port} (h : Keeps m s t) : Keeps m s (t.report2641 a port) := .ite h (.report h)

theorem detectionError {a port path} (h : Keeps true s t) : Keeps true s (t.detectionError a port path) := by
  unfold State.detectionError
  extract_lets r pc kind s1
  have hs1 : Keeps true s s1 := .countDetErr h
  exact .ite (.freeze hs1) (.ite (.freeze hs1) hs1)

theorem layerReadError {c l a} (h : Keeps true s t) : Keeps true s (t.layerReadError c l a) := by
  unfold State.layerReadError
  extract_lets k i f s1 y s2 img s3 ts rects s4
  have hs1 : Keeps true s s1 := .bump h
  have hs2 : Keeps true s s2 := .ite (.bump hs1) hs1
  have hs3 : Keeps true s s3 := .modLayer hs2
  have hs4 : Keeps true s s4 := .modLayer hs1
  exact .ite (.report (.recomposeAll (.reAge hs3))) (.report (.recomposeAll (.reAge hs4)))

theorem meshLoadError {c a} (h : Keeps m s t) : Keeps m s (t.meshLoadError c a) := by
  unfold State.meshLoadError
  split
  · exact h
  · extract_lets s1
    have hs1 : Keeps m s s1 := .wr (.modPic h)
    exact .report (.wr hs1)

theorem startRecovery {r} (h : Keeps m s t) : Keeps m s (t.startRecovery r) := by
  unfold State.startRecovery
  extract_lets s1 s2
  have hs1 : Keeps m s s1 := .wr h
  have hs2 : Keeps m s s2 := .setPcs (.wr hs1)
  exact .ite (.forClusters hs2 (fun _ _ hx => by
      split
      · exact .ite (.wr (.wr (.modPic hx))) hx
      · exact hx)) hs1

theorem regionReady {r} (h : Keeps m s t) : Keeps m s (t.regionReady r) := by
  unfold State.regionReady
  extract_lets s1 s2 s3 cs x x1
  have hs1 : Keeps m s s1 := .modRegion (.setPcs h)
  have hs2 : Keeps m s s2 := .foldl hs1 (fun _ _ hx2 => .wr hx2)
  have hs3 : Keeps m s s3 := .foldl hs2 (fun _ _ hx2 => .wr hx2)
  have hx : Keeps m s x := .wr hs3
  exact .ite (.wr hs3) (.update hx)

theorem loseRegion {r} (h : Keeps true s t) : Keeps true s (t.loseRegion r) :=
  .setHbm h memory_wf_filter

theorem reject44 {sec} (h : Keeps m s t) : Keeps m s (t.reject44 sec) := by
  unfold State.reject44
  extract_lets slot s1
  have hs1 : Keeps m s s1 := .wr (.wr (.wr h))
  exact .report (.wr hs1)

theorem applyProfile {r num pf meshBad} (h : Keeps true s t) : Keeps true s (t.applyProfile r num pf meshBad) := by
  unfold State.applyProfile
  extract_lets pc old lost s1 s2 s3 s4 s5
  have hs1 : Keeps true s s1 := .loseRegion (.modRegion h)
  have hs2 : Keeps true s s2 := .ite (.loseRing hs1) hs1
  have hs3 : Keeps true s s3 := .ite (.reject44 hs2) (by
      split
      · exact .storeMeshes hs2
      · exact hs2)
  have hs4 : Keeps true s s4 := .foldl hs3 (fun _ _ hx => .ite (.placeInput hx) hx)
  have hs5 : Keeps true s s5 := .wr (.wr (.wr (.wr hs4)))
  exact .report (.wr hs5)

theorem regionTrained {r failed meshBad} (h : Keeps true s t) : Keeps true s (t.regionTrained r failed meshBad).2 := by
  unfold State.regionTrained
  extract_lets bad s1 s2
  have hs1 : Keeps true s s1 := .wr h
  have hs2 : Keeps true s s2 := .foldl hs1 (fun _ _ hx => .noTapEvent (.wr hx))
  clear_value bad
  split
  · exact .mkSnd hs2
  · split
    · exact .mkSnd (.applyProfile hs2)
    · exact .mkSnd (.report (.wr hs2))
  · exact .mkSnd (.report (.wr hs2))

theorem startFc {ch set} (h : Keeps m s t) : Keeps m s (t.startFc ch set) :=
  .ite (.wr (.modMem h)) (.ite (.wr (.modMem h)) (by
    extract_lets s1
    have hs1 : Keeps m s s1 := .modMem h
    exact .wr (.wr hs1)))

theorem requestSet {ch set} (h : Keeps m s t) : Keeps m s (t.requestSet ch set) := by
  unfold State.requestSet
  extract_lets s1 st
  have hs1 : Keeps m s s1 := .wr (.wr h)
  exact .ite (.report (.wr hs1)) (.ite (.modMem hs1) (.startFc hs1))

theorem plateFails {a} (h : Keeps m s t) : Keeps m s (t.plateFails a) := by
  unfold State.plateFails
  extract_lets s1
  have hs1 : Keeps m s s1 := .bump h
  exact .modMem hs1

theorem plateError {a} (h : Keeps m s t) : Keeps m s (t.plateError a) := by
  unfold State.plateError
  extract_lets code
  exact .report (.plateFails (.freeBits h))

theorem plateRmwFails {a n bad} (h : Keeps m s t) : Keeps m s (t.plateRmwFails a n bad) := by
  unfold State.plateRmwFails
  split
  · exact h
  · extract_lets w
    exact .ite h (.bump (.modMem h))

theorem plateStore {a bs} (h : Keeps true s t) : Keeps true s (t.plateStore a bs) := by
  unfold State.plateStore
  extract_lets touched whole s1 s2
  have hs1 : Keeps true s s1 := .setPlate h memory_wf_cellStore
  have hs2 : Keeps true s s2 := .modMem hs1
  exact .foldl hs2 fun _ _ hx => .bump hx

theorem hostPlaneWrite {c a n} (h : Keeps m s t) : Keeps m s (t.hostPlaneWrite c a n) := by
  unfold State.hostPlaneWrite
  extract_lets s1 l f s2
  have hs1 : Keeps m s s1 := .modMem h
  have hs2 : Keeps m s s2 := .bump (.flagBy hs1)
  exact .ite hs1 (.report hs2)

end Keeps

namespace KeepsNext

variable {m : Bool} {s t u : State}

theorem execHostHbmWrite {t' off data} (h : Keeps true s t) : KeepsNext true s (Machine.execHostHbmWrite t' off data t) := by
  unfold Machine.execHostHbmWrite
  extract_lets s1 bad bs
  have hs1 : Keeps true s s1 := .advance h
  exact .ite (.next (.complete hs1)) (by
      split
      · exact .fault
      · exact .ite .fault (by
          extract_lets n
          exact .next (.complete (.hostWritePart (.hostWritePart hs1)))))

theorem execHostHbmRead {t' off len check} (h : Keeps true s t) : KeepsNext true s (Machine.execHostHbmRead t' off len check t) := by
  unfold Machine.execHostHbmRead
  extract_lets s1
  have hs1 : Keeps true s s1 := .advance h
  exact .ite (.next (.complete hs1)) (by
      split
      · exact .fault
      · exact .ite .fault (by
          extract_lets parts
          exact .next (.foldl (.complete hs1) (fun _ _ hx1 => by
              extract_lets r old worse hit bytes s2
              have hs2 : Keeps true s s2 := .served (.request hx1)
              split
              · exact .complete (.report (.bump hx1))
              · exact .ite (.complete (.bump hx1)) (by
                  clear_value hit
                  split
                  · exact .complete hs2
                  · extract_lets s3
                    have hs3 : Keeps true s s3 := .report2641 (.detectionError hs2)
                    exact .complete (.bump hs3))))))

theorem execBar4Write {t' off data} (h : Keeps true s t) : KeepsNext true s (Machine.execBar4Write t' off data t) := by
  unfold Machine.execBar4Write
  extract_lets s1 n bytes ok s11 s12
  have hs1 : Keeps true s s1 := .advance h
  have hs11 : Keeps true s s11 := .foldl hs1 (fun _ _ hx => .plateRmwFails (.plateStore hx))
  have hs12 : Keeps true s s12 := .forClusters hs11 (fun _ _ hx => .ite (.hostPlaneWrite hx) hx)
  exact .ite (.next (.complete hs1)) (.ite .fault (by
      split
      · exact .next (.complete hs12)
      · extract_lets r
        exact .next (.complete (.report (.bump hs12)))))

theorem execBar4Read {t' off len bad} (h : Keeps m s t) : KeepsNext m s (Machine.execBar4Read t' off len bad t) := by
  unfold Machine.execBar4Read
  extract_lets s1 bytes known
  have hs1 : Keeps m s s1 := .advance h
  exact .ite (.next (.complete hs1)) (.ite .fault (by
      split
      · exact .next (.complete hs1)
      · exact .next (.complete (.bump (.plateError hs1)))))

theorem execHbmWriteParityError {t' addr again} (h : Keeps m s t) : KeepsNext m s (Machine.execHbmWriteParityError t' addr again t) := by
  unfold Machine.execHbmWriteParityError
  extract_lets a s1
  have hs1 : Keeps m s s1 := .bump (.advance h)
  exact .next (.ite (.poisonBurst (.bump hs1)) hs1)

theorem execLayerReadError {t' c l addr} (h : Keeps true s t) : KeepsNext true s (Machine.execLayerReadError t' c l addr t) := by
  unfold Machine.execLayerReadError
  extract_lets s1 a
  have hs1 : Keeps true s s1 := .advance h
  exact .ite (.next hs1) (.next (.layerReadError (.detectionError hs1)))

theorem execFetchLate {t' c l y0 y1} (h : Keeps true s t) : KeepsNext true s (Machine.execFetchLate t' c l y0 y1 t) := by
  unfold Machine.execFetchLate
  extract_lets s1 k
  have hs1 : Keeps true s s1 := .advance h
  exact .ite (.next hs1) (.next (.lateLines (.served hs1)))

theorem execFenceGo {t'} (h : Keeps m s t) : KeepsNext m s (Machine.execFenceGo t' t) := by
  unfold Machine.execFenceGo
  extract_lets s1
  have hs1 : Keeps m s s1 := .wr (.wr (.advance h))
  exact .next (.modMem hs1)

theorem execFenceDone {t'} (h : Keeps m s t) : KeepsNext m s (Machine.execFenceDone t' t) := by
  unfold Machine.execFenceDone
  extract_lets s1 s2
  have hs1 : Keeps m s s1 := .advance h
  have hs2 : Keeps m s s2 := .wrb (.wr (.wr hs1))
  exact .ite (.next hs1) (.next (.signal (.modMem hs2)))

theorem execRegionFreeze {t' r pc addr port path} (h : Keeps true s t) :
    KeepsNext true s (Machine.execRegionFreeze t' r pc addr port path t) := by
  unfold Machine.execRegionFreeze
  extract_lets s1 cause
  have hs1 : Keeps true s s1 := .advance h
  exact .next (.freeze hs1)

theorem execFreezeRequest {t' r} (h : Keeps m s t) : KeepsNext m s (Machine.execFreezeRequest t' r t) := .next (.wr (.advance h))

theorem execFreezeSnapshotDone {t' r} (h : Keeps m s t) : KeepsNext m s (Machine.execFreezeSnapshotDone t' r t) := by
  unfold Machine.execFreezeSnapshotDone
  extract_lets s1 s2
  have hs1 : Keeps m s s1 := .advance h
  have hs2 : Keeps m s s2 := .wr (.modRegion hs1)
  exact .ite (.next hs1) (.next (.ite (.startRecovery hs2) hs2))

theorem execRecover {t' r} (h : Keeps m s t) : KeepsNext m s (Machine.execRecover t' r t) := .next (.startRecovery (.advance h))

end KeepsNext

namespace Keeps

variable {m : Bool} {s t u : State}

theorem keepTaps {r taps} (h : Keeps m s t) : Keeps m s (t.keepTaps r taps) := by
  unfold State.keepTaps
  extract_lets mine s1
  have hs1 : Keeps m s s1 := .foldl h (fun _ _ hx => .wr (.wr hx))
  exact .foldl hs1 (fun _ _ hx => .ite (.almRequest hx) hx)

end Keeps

namespace KeepsNext

variable {m : Bool} {s t u : State}

theorem execRecoveryDone {t' r e} (h : Keeps true s t) : KeepsNext true s (Machine.execRecoveryDone t' r e t) := by
  unfold Machine.execRecoveryDone
  extract_lets s1
  have hs1 : Keeps true s s1 := .advance h
  exact .ite (.next hs1) (by
      split
      · extract_lets a
        exact .next (.recoveryFailed (.wr (.captureFreeze hs1)))
      · extract_lets x x1 s2 s3
        have hs2 : Keeps true s s2 := .regionReady (.mkSnd (.keepTaps (.regionTrained hs1)))
        have hs3 : Keeps true s s3 := .wr hs2
        exact .ite (.next (.report hs3)) (.next (.mkSnd (.keepTaps (.regionTrained hs1)))))

theorem execFreqChangeRequest {t' ch set} (h : Keeps m s t) : KeepsNext m s (Machine.execFreqChangeRequest t' ch set t) := .next
    (.requestSet (.advance h))

theorem execFreqChangeDone {t' ch} (h : Keeps m s t) : KeepsNext m s (Machine.execFreqChangeDone t' ch t) := by
  unfold Machine.execFreqChangeDone
  extract_lets s1 next s2
  have hs1 : Keeps m s s1 := .advance h
  have hs2 : Keeps m s s2 := .modMem hs1
  split
  · exact .next hs1
  · exact .ite (.next hs1) (by
      extract_lets s3 s4 s5
      have hs3 : Keeps m s s3 := .wr (.bump (.wr hs2))
      have hs4 : Keeps m s s4 := .wr (.wr hs3)
      have hs5 : Keeps m s s5 := .report hs4
      exact .next (by
          clear_value next
          split
          · exact .startFc hs5
          · exact hs5))

theorem execPcPowerDown {t' p} (h : Keeps m s t) : KeepsNext m s (Machine.execPcPowerDown t' p t) := by
  unfold Machine.execPcPowerDown
  extract_lets s1 idle
  have hs1 : Keeps m s s1 := .advance h
  exact .next (.ite (.wr hs1) hs1)

theorem execPcPowerDownExit {t' p} (h : Keeps m s t) : KeepsNext m s (Machine.execPcPowerDownExit t' p t) := by
  unfold Machine.execPcPowerDownExit
  extract_lets s1
  have hs1 : Keeps m s s1 := .advance h
  exact .next (.ite (.wr hs1) hs1)

theorem execSelfRefreshEntry {t' ch} (h : Keeps m s t) : KeepsNext m s (Machine.execSelfRefreshEntry t' ch t) := by
  unfold Machine.execSelfRefreshEntry
  extract_lets s1 r since
  have hs1 : Keeps m s s1 := .advance h
  exact .ite (.next (.wr (.wr hs1))) (.next hs1)

end KeepsNext

namespace Keeps

variable {m : Bool} {s t u : State}

theorem lapDone {st cycle} (h : Keeps m s t) : Keeps m s (t.lapDone st cycle) := by
  unfold State.lapDone
  extract_lets i lap start secs late s1
  have hs1 : Keeps m s s1 := .wr h
  exact .report (.modMem hs1)

theorem almScrubError {place copyB} (h : Keeps m s t) : Keeps m s (t.almScrubError place copyB) :=
  .ite (by
    extract_lets i s1
    have hs1 : Keeps m s s1 := .modLog h (fun _ => rfl)
    exact .report (.showSaves hs1)) (by
    extract_lets o v s1
    have hs1 : Keeps m s s1 := .modAlm h
    exact .report (.almWrite hs1))

end Keeps

namespace KeepsNext

variable {m : Bool} {s t u : State}

theorem execScrubRead {t' st place err copyB last} (h : Keeps m s t) :
    KeepsNext m s (Machine.execScrubRead t' st place err copyB last t) := by
  unfold Machine.execScrubRead
  extract_lets s1 i cycle a blocked s2 copy i1 bad s3 pc s4 s5
  have hs1 : Keeps m s s1 := .advance h
  have hs2 : Keeps m s s2 := .modMem hs1
  have hs3 : Keeps m s s3 := .modMem hs2
  have hs4 : Keeps m s s4 := .bump (.bump hs3)
  have hs5 : Keeps m s s5 := .ite hs2 (by
      split
      · exact .report hs4
      · exact .bump (.plateError hs3)
      · exact .bump (.almScrubError hs3))
  exact .ite (.next hs1) (.ite (.next hs1) (.next (.ite (.lapDone hs5) hs5)))

end KeepsNext

namespace Keeps

variable {m : Bool} {s t u : State}

theorem validatePage {c page} (h : Keeps m s t) : Keeps m s (t.validatePage c page) := by
  unfold State.validatePage
  extract_lets f s1 s2
  have hs1 : Keeps m s s1 := .wrb h
  have hs2 : Keeps m s s2 := .wr (.wr hs1)
  exact .modPic hs2

theorem copyMesh {c m'} (h : Keeps m s t) : Keeps m s (t.copyMesh c m') := by
  unfold State.copyMesh
  extract_lets pg word clamped s1
  have hs1 : Keeps m s s1 := .foldl h (fun _ _ hx => by
      extract_lets inst
      exact .wr (.wr hx))
  exact .wr (.modPic hs1)

end Keeps

namespace KeepsNext

variable {m : Bool} {s t u : State}

theorem execTableWindowWrite {t' addr data} (h : Keeps m s t) : KeepsNext m s (Machine.execTableWindowWrite t' addr data t) := by
  unfold Machine.execTableWindowWrite
  extract_lets s1 a
  have hs1 : Keeps m s s1 := .advance h
  exact .ite (.next (.complete hs1)) (.next (.ite (.busWrite hs1) hs1))

theorem execSchedWindowWrite {t' addr data} (h : Keeps m s t) : KeepsNext m s (Machine.execSchedWindowWrite t' addr data t) := by
  unfold Machine.execSchedWindowWrite
  extract_lets s1 a
  have hs1 : Keeps m s s1 := .advance h
  exact .ite (.next (.complete hs1)) (.next (.ite (.busWrite hs1) hs1))

theorem execMeshLoadGo {t' c} (h : Keeps m s t) : KeepsNext m s (Machine.execMeshLoadGo t' c t) := by
  unfold Machine.execMeshLoadGo
  extract_lets s1 pg s2 m1
  have hs1 : Keeps m s s1 := .advance h
  have hs2 : Keeps m s s2 := .wr hs1
  exact .ite (.next hs1) (.ite (.next (.applyErr (.wr hs2))) (.next (.wr (.modPic hs2))))

theorem execMeshLoadComplete {t' c err} (h : Keeps true s t) : KeepsNext true s (Machine.execMeshLoadComplete t' c err t) := by
  unfold Machine.execMeshLoadComplete
  extract_lets s1
  have hs1 : Keeps true s s1 := .advance h
  split
  · exact .next hs1
  · exact .ite (.next hs1) (by
      split
      · exact .next (.meshLoadError (.detectionError hs1))
      · exact .next (.wr (.copyMesh hs1)))

theorem execTableParityError {t' c table index word} (h : Keeps true s t) :
    KeepsNext true s (Machine.execTableParityError t' c table index word t) := by
  unfold Machine.execTableParityError
  extract_lets s1 pg b i s2 known s3
  have hs1 : Keeps true s s1 := .advance h
  have hs2 : Keeps true s s2 := by
    simp only [s2]
    split
    · exact .wr (.wr hs1)
    · exact .wr hs1
    · exact .wr hs1
    · exact .wr hs1
    · exact .wr hs1
  have hs3 : Keeps true s s3 := .modPic hs2
  exact .next (.ite hs3 (.ite (.recompose hs3) (.badWordUsed (.recompose hs3))))

theorem execSchedCheckGo {t' c} (h : Keeps m s t) : KeepsNext m s (Machine.execSchedCheckGo t' c t) := by
  unfold Machine.execSchedCheckGo
  extract_lets s1
  have hs1 : Keeps m s s1 := .advance h
  exact .ite (.next hs1) (.next (.wr (.modPic hs1)))

theorem execSchedCheckDone {t' c} (h : Keeps m s t) : KeepsNext m s (Machine.execSchedCheckDone t' c t) := by
  unfold Machine.execSchedCheckDone
  extract_lets s1
  have hs1 : Keeps m s s1 := .advance h
  split
  · exact .next hs1
  · exact .next (.wr (.modPic (.validatePage hs1)))

end KeepsNext

namespace Keeps

variable {m : Bool} {s t u : State}

theorem wakeInput {i} (h : Keeps m s t) : Keeps m s (t.wakeInput i) := .forClusters h (fun _ _ hx => .wakeHeld hx)

theorem showCover {i} (h : Keeps m s t) : Keeps m s (t.showCover i) := by
  unfold State.showCover
  extract_lets w h1
  exact .wrb h

theorem loseInput {i cause} (h : Keeps m s t) : Keeps m s (t.loseInput i cause) := by
  unfold State.loseInput
  extract_lets s1 s2
  have hs1 : Keeps m s s1 := .wr (.wr (.wr h))
  have hs2 : Keeps m s s2 := .showCover (.wakeInput (.report hs1))
  exact .forClusters hs2 (fun _ _ hx => .ite (.lockLost hx) hx)

theorem discardFrame {i} (h : Keeps m s t) : Keeps m s (t.discardFrame i) := by
  unfold State.discardFrame
  extract_lets f
  exact .report (.bump (.freeBits h))

theorem fillFallback {c w h' px} (h : Keeps true s t) : Keeps true s (t.fillFallback c w h' px) := by
  unfold State.fillFallback
  extract_lets j cx cy wh
  exact .foldl h (fun _ _ hx => .ite hx (.plateStore hx))

theorem tearFallback {c line} (h : Keeps m s t) : Keeps m s (t.tearFallback c line) :=
  .foldl h (fun _ _ hx => by
    split
    · exact hx
    · extract_lets row ts
      exact .bump (.flagBy hx))

theorem feedFallback {i w h' line px} (h : Keeps true s t) : Keeps true s (t.feedFallback i w h' line px) := .modDp (.forClusters h
    (fun _ _ hx => .ite (.tearFallback (.fillFallback hx)) hx))

theorem completeFrame {i w h' line px} (h : Keeps true s t) : Keeps true s (t.completeFrame i w h' line px) := by
  unfold State.completeFrame
  extract_lets s1
  have hs1 : Keeps true s s1 := .feedFallback h
  exact .ite (.discardFrame hs1) (by
      split
      · exact .report (.bump hs1)
      · extract_lets f s2 per s3
        have hs2 : Keeps true s s2 := .hbmStore (.request hs1)
        have hs3 : Keeps true s s3 := .modDp hs2
        exact .wakeInput (.wr (.wr hs3)))

end Keeps

namespace KeepsNext

variable {m : Bool} {s t u : State}

theorem execDpLinkTraining {t' i fit rate lanes w h' dsc} (h : Keeps m s t) :
    KeepsNext m s (Machine.execDpLinkTraining t' i fit rate lanes w h' dsc t) := by
  unfold Machine.execDpLinkTraining
  extract_lets s1 was s2 s3 s4
  have hs1 : Keeps m s s1 := .advance h
  have hs2 : Keeps m s s2 := .wrb (.wr (.wr (.wr hs1)))
  have hs3 : Keeps m s s3 := .showCover (.wr (.wr hs2))
  have hs4 : Keeps m s s4 := .ite (.report hs3) hs3
  exact .ite (.next hs1) (.ite (.next (.loseInput hs1)) (.ite (.next (.loseInput hs1)) (.next (.ite (.report hs4) hs4))))

theorem execDpFrameComplete {t' i w h' line data} (h : Keeps true s t) :
    KeepsNext true s (Machine.execDpFrameComplete t' i w h' line data t) := by
  unfold Machine.execDpFrameComplete
  extract_lets s1
  have hs1 : Keeps true s s1 := .advance h
  exact .ite (.next hs1) (.next (.completeFrame (.served hs1)))

theorem execDpFrameDiscard {t' i} (h : Keeps m s t) : KeepsNext m s (Machine.execDpFrameDiscard t' i t) := .next (.discardFrame
    (.advance h))

theorem execDpInputLost {t' i cause} (h : Keeps m s t) : KeepsNext m s (Machine.execDpInputLost t' i cause t) := by
  unfold Machine.execDpInputLost
  extract_lets s1
  have hs1 : Keeps m s s1 := .advance h
  exact .ite (.next hs1) (.next (.loseInput hs1))

theorem execDpPsrChange {t' i psr} (h : Keeps m s t) : KeepsNext m s (Machine.execDpPsrChange t' i psr t) := by
  unfold Machine.execDpPsrChange
  extract_lets s1 was s2
  have hs1 : Keeps m s s1 := .advance h
  have hs2 : Keeps m s s2 := .wr hs1
  exact .ite (.next hs1) (.next (.ite (.wakeInput hs2) hs2))

theorem execDpPsr2Update {t' i y0 line data bad} (h : Keeps true s t) :
    KeepsNext true s (Machine.execDpPsr2Update t' i y0 line data bad t) := by
  unfold Machine.execDpPsr2Update
  extract_lets s1 s2 old
  have hs1 : Keeps true s s1 := .advance h
  have hs2 : Keeps true s s2 := .served hs1
  split
  · exact .next hs1
  · exact .ite (.next hs1) (by
      extract_lets base first
      split
      · exact .next (.discardFrame (.detectionError hs2))
      · exact .next (.completeFrame hs2))

theorem execDpAuxTransaction {t' i edid off len} (h : Keeps m s t) :
    KeepsNext m s (Machine.execDpAuxTransaction t' i edid off len t) := by
  unfold Machine.execDpAuxTransaction
  extract_lets s1 r
  have hs1 : Keeps m s s1 := .advance h
  have hr : Keeps m s r.2 := .foldlSnd hs1 fun _ _ hp => .mkSnd (.freeBits hp)
  split
  · exact .next hs1
  · split
    · exact .next (.emit hs1)
    · exact .next (.emit hr)

end KeepsNext

namespace Keeps

variable {m : Bool} {s t u : State}

theorem modPar {f} (h : Keeps m s t) : Keeps m s (t.modPar f) := .update h

theorem sendTransit {kind fields} (h : Keeps m s t) : Keeps m s (t.sendTransit kind fields) := .ite (.emit h) h

theorem endLockstep (h : Keeps m s t) : Keeps m s t.endLockstep :=
  .ite h (by
    extract_lets f
    exact .report (.modPar (.freeBits (.wr h))))

theorem compareIds (h : Keeps m s t) : Keeps m s t.compareIds := by
  unfold State.compareIds
  split
  · exact h
  · extract_lets own eq1 s1
    have hs1 : Keeps m s s1 := .wrb h
    exact .ite hs1 (.endLockstep (.report hs1))

theorem updateReady (h : Keeps m s t) : Keeps m s t.updateReady := by
  unfold State.updateReady
  extract_lets ok was s1
  have hs1 : Keeps m s s1 := .wrb h
  exact .ite hs1 (.forClusters hs1 (fun _ _ hx => by
      extract_lets s2
      have hs2 : Keeps m s s2 := .wrb hx
      exact .ite (.wr hs2) (.ite (.wr hs2) hs2)))

theorem checkLockstep (h : Keeps m s t) : Keeps m s t.checkLockstep := .ite (.report (.modPar (.wr h))) h

theorem takeOver {trigger} (h : Keeps m s t) : Keeps m s (t.takeOver trigger) :=
  .ite h (by
    extract_lets xs s1
    have hs1 : Keeps m s s1 := .modPar h
    exact .ite hs1 (.sendTransit hs1))

theorem settleRole {r cause} (h : Keeps m s t) : Keeps m s (t.settleRole r cause) := by
  unfold State.settleRole
  extract_lets s1
  have hs1 : Keeps m s s1 := .wr h
  exact .updateReady (.report hs1)

theorem mayRaiseSel (h : Keeps m s t) : Keeps m s t.mayRaiseSel := .ite (.setSel h) h

theorem collisionWait (h : Keeps m s t) : Keeps m s (t.collisionWait).2 := by
  unfold State.collisionWait
  extract_lets strap base n f
  split
  · exact .mkSnd h
  · exact .mkSnd (.freeBits h)

theorem differs {c seq} (h : Keeps m s t) : Keeps m s (t.differs c seq) := by
  unfold State.differs
  split
  · exact .modPar h
  · exact h

theorem pairVerdict {c seq e2 pp ea} (h : Keeps m s t) : Keeps m s (t.pairVerdict c seq e2 pp ea) :=
  .ite (.ite h (by
    extract_lets s1
    have hs1 : Keeps m s s1 := .differs h
    exact .modTri hs1)) (by
    extract_lets s1
    have hs1 : Keeps m s s1 := .differs h
    exact .ite (.endLockstep (.report (.bump hs1))) (.ite (.report (.bump hs1)) (.bump hs1)))

theorem tryVerdict {c seq} (h : Keeps m s t) : Keeps m s (t.tryVerdict c seq) :=
  .ite h (by
    split
    · split
      · exact .pairVerdict (.modPar h)
      · exact h
    · exact h)

theorem countPathPlane {c key bad} (h : Keeps m s t) : Keeps m s (t.countPathPlane c key bad) :=
  .ite h (by
    extract_lets l l1 s1 run
    have hs1 : Keeps m s s1 := .modPar h
    exact .ite (.takeOver hs1) hs1)

theorem applyMap {c frame} (h : Keeps m s t) : Keeps m s (t.applyMap c frame) := by
  unfold State.applyMap
  split
  · exact h
  · exact .ite h (by
      extract_lets diff s1 s2
      have hs1 : Keeps m s s1 := .modPar (.bumpBy h)
      have hs2 : Keeps m s s2 := .modPic hs1
      exact .wr (.modFrame hs2))

theorem secondWaits {c m'} (h : Keeps m s t) : Keeps m s (t.secondWaits c m') := by
  unfold State.secondWaits
  extract_lets asked goes
  exact .ite h (.ite (.endLockstep (.modPar h)) (.modPar h))

theorem pairAllows {c m'} (h : Keeps m s t) : Keeps m s (t.pairAllows c m').2 := by
  unfold State.pairAllows
  split
  · exact .mkSnd h
  · split
    · exact .mkSnd (.checkLockstep (.modPar h))
    · split
      · exact .mkSnd h
      · split
        · extract_lets s1
          have hs1 : Keeps m s s1 := .modPar h
          exact .mkSnd (.endLockstep (.report hs1))
        · exact .mkSnd (.modPar h)

theorem heartbeatLost (h : Keeps m s t) : Keeps m s t.heartbeatLost :=
  .ite h (by
    extract_lets s1
    have hs1 : Keeps m s s1 := .wr h
    exact .ite hs1 (.ite (.takeOver hs1) (.report hs1)))

theorem setWorking {c l} (h : Keeps m s t) : Keeps m s (t.setWorking c l) := .wr (.wr h)

theorem setActive {c l} (h : Keeps m s t) : Keeps m s (t.setActive c l) := by
  unfold State.setActive
  extract_lets s1
  have hs1 : Keeps m s s1 := .violate h
  exact .wrb (.modTri hs1)

theorem occupyLane {c lane start h' payload} (h : Keeps m s t) : Keeps m s (t.occupyLane c lane start h' payload) := by
  unfold State.occupyLane
  extract_lets n r s1
  have hs1 : Keeps m s s1 := .modTri h
  exact .ite (.emit hs1) hs1

theorem resend {c b} (h : Keeps m s t) : Keeps m s (t.resend c b).2 := by
  unfold State.resend
  split
  · exact .mkSnd h
  · extract_lets ends x1 h1 s1
    have hs1 : Keeps m s s1 := .bump (.occupyLane h)
    split
    · exact .mkSnd h
    · exact .mkSnd (.modTri hs1)

theorem mismatch {c lane pad} (h : Keeps m s t) : Keeps m s (t.mismatch c lane pad) := by
  unfold State.mismatch
  extract_lets s1
  have hs1 : Keeps m s s1 := .bump h
  exact .modTri hs1

theorem resendAfter {c b pad estat} (h : Keeps m s t) : Keeps m s (t.resendAfter c b pad estat) := by
  unfold State.resendAfter
  extract_lets r
  exact .ite (.resend h) (.ite (.report (.resend h)) (.report (.resend h)))

theorem retireOutcome {c lane} (h : Keeps m s t) : Keeps m s (t.retireOutcome c lane) := by
  unfold State.retireOutcome
  extract_lets l n s1 s2 s3 gone s4 s5
  have hs1 : Keeps m s s1 := .setActive h
  have hs2 : Keeps m s s2 := .ite (.wr hs1) hs1
  have hs3 : Keeps m s s3 := .report hs2
  have hs4 : Keeps m s s4 := .foldl hs3 (fun _ _ hx => .wr hx)
  have hs5 : Keeps m s s5 := .update hs4
  exact .ite (.ite h (by
      split
      · exact .wr (.setActive h)
      · exact .setActive h)) (.ite (.report (.wr hs1)) (.darken hs5))

theorem retireLane {c lane cause} (h : Keeps m s t) : Keeps m s (t.retireLane c lane cause) := by
  unfold State.retireLane
  extract_lets l s1 s2 s3
  have hs1 : Keeps m s s1 := .setWorking h
  have hs2 : Keeps m s s2 := .report hs1
  have hs3 : Keeps m s s3 := .retireOutcome hs2
  exact .ite h (.foldl hs3 (fun _ _ hx => .resend hx))

theorem takeIdent0 {c m'} (h : Keeps m s t) : Keeps m s (t.takeIdent0 c m') := by
  unfold State.takeIdent0
  extract_lets w h1 b p settle lat s1 s2 s3
  have hs1 : Keeps m s s1 := .wr (.wr (.wr h))
  have hs2 : Keeps m s s2 := .wr (.wr hs1)
  have hs3 : Keeps m s s3 := .wr (.dumpNow hs2)
  split
  · exact hs2
  · exact .unitFault hs3

theorem takeIdent1 {c m'} (h : Keeps m s t) : Keeps m s (t.takeIdent1 c m') := .wr (.wr h)

theorem setTaps {c lane pre post} (h : Keeps m s t) : Keeps m s (t.setTaps c lane pre post) := .wr (.wr h)

theorem comparePost {c lane post} (h : Keeps m s t) : Keeps m s (t.comparePost c lane post) := by
  unfold State.comparePost
  split
  · exact .ite (.report h) h
  · exact h

theorem returnLaneFault {c code items} (h : Keeps m s t) : Keeps m s (t.returnLaneFault c code items) := by
  unfold State.returnLaneFault
  extract_lets s1
  have hs1 : Keeps m s s1 := .violate h
  exact .unitFault (.wr hs1)

theorem failBands {c frame first last} (h : Keeps m s t) : Keeps m s (t.failBands c frame first last) := by
  unfold State.failBands
  extract_lets b y0 y1
  exact .flagBy h

theorem resetFailed {c a rstat} (h : Keeps m s t) : Keeps m s (t.resetFailed c a rstat) := by
  unfold State.resetFailed
  extract_lets s1 s2
  have hs1 : Keeps m s s1 := .modTri h
  have hs2 : Keeps m s s2 := .ite hs1 (.bump (.failBands hs1))
  exact .report hs2

theorem modEph {f} (h : Keeps m s t) : Keeps m s (t.modEph f) := .update h

theorem enrolKey {e} (h : Keeps m s t) : Keeps m s (t.enrolKey e) :=
  .ite h (by
    extract_lets i k
    exact .almRequest (.modEph h))

theorem imageLanded (h : Keeps m s t) : Keeps m s t.imageLanded := by
  unfold State.imageLanded
  split
  · exact h
  · extract_lets s1
    have hs1 : Keeps m s s1 := .ite (.almRequest (.wr h)) h
    exact .foldl (.wr hs1) (fun _ _ hx1 => .enrolKey hx1)

theorem firstLanding {c} (h : Keeps m s t) : Keeps m s (t.firstLanding c) :=
  .ite h (by
    extract_lets s1 due s2
    have hs1 : Keeps m s s1 := .modEph h
    have hs2 : Keeps m s s2 := .ite (.sendArm hs1) hs1
    exact .ite (.imageLanded hs2) hs2)

theorem swapLanded {c n} (h : Keeps m s t) : Keeps m s (t.swapLanded c n) := by
  unfold State.swapLanded
  split
  · exact h
  · exact .ite h (by
      extract_lets s1 left s2
      have hs1 : Keeps m s s1 := .wr (.wr h)
      have hs2 : Keeps m s s2 := .modEph hs1
      exact .ite (.wr (.wr hs2)) (.modEph hs1))

theorem refuseReaffirm {c l result} (h : Keeps m s t) : Keeps m s (t.refuseReaffirm c l result) := .report (.wr h)

theorem reaffirmed {c} (h : Keeps m s t) : Keeps m s (t.reaffirmed c) := .wr (.wr h)

theorem applyLayerReaff {c l time} (h : Keeps m s t) : Keeps m s (t.applyLayerReaff c l time) := .reaffirmed (.dropTileReaff (.modLayer h))

theorem applyTileList {c x} (h : Keeps m s t) : Keeps m s (t.applyTileList c x) := by
  unfold State.applyTileList
  extract_lets ts mark
  exact .reaffirmed (.modPic h)

theorem heldDeadline {c} (h : Keeps m s t) : Keeps m s (t.heldDeadline c) := by
  unfold State.heldDeadline
  split
  · exact h
  · extract_lets d
    exact .showDeadline (.modChr h)

theorem listFailed {c} (h : Keeps m s t) : Keeps m s (t.listFailed c) := by
  unfold State.listFailed
  split
  · exact h
  · exact .refuseReaffirm (.wr (.modPic h))

end Keeps

namespace KeepsNext

variable {m : Bool} {s t u : State}

theorem execReaffirmLayer {t' c l} (h : Keeps m s t) : KeepsNext m s (Machine.execReaffirmLayer t' c l t) := by
  unfold Machine.execReaffirmLayer
  extract_lets s1 time
  have hs1 : Keeps m s s1 := .advance h
  exact .ite (.next (.refuseReaffirm hs1)) (.ite (.next (.refuseReaffirm hs1)) (.ite (.next (.heldDeadline (.applyLayerReaff hs1))) (.next
      (.modLayer hs1))))

theorem execReaffirmTileList {t' c l count} (h : Keeps m s t) : KeepsNext m s (Machine.execReaffirmTileList t' c l count t) := by
  unfold Machine.execReaffirmTileList
  extract_lets s1 x
  have hs1 : Keeps m s s1 := .advance h
  exact .ite (.next (.refuseReaffirm hs1)) (.ite (.next (.refuseReaffirm hs1)) (.ite (.next (.refuseReaffirm hs1)) (.ite (.next
      (.refuseReaffirm hs1)) (.next (.wr (.modPic hs1))))))

theorem execReaffirmListReadDone {t' c err} (h : Keeps true s t) : KeepsNext true s (Machine.execReaffirmListReadDone t' c err t) := by
  unfold Machine.execReaffirmListReadDone
  extract_lets s1 s2 rest gone
  have hs1 : Keeps true s s1 := .advance h
  have hs2 : Keeps true s s2 := .wr hs1
  have hgone : Keeps true s gone := .modPic hs2
  split
  · exact .next hs2
  · extract_lets old tiles s3
    have hs3 : Keeps true s s3 := .modPic hs2
    exact .ite (.next (.refuseReaffirm hgone)) (by
        clear_value old
        split
        · exact .next (.refuseReaffirm (.detectionError hgone))
        · exact .ite (.next (.refuseReaffirm hgone)) (.next (.ite (.wr hs3) hs3)))

theorem execTileTableParityError {t' c tile} (h : Keeps true s t) : KeepsNext true s (Machine.execTileTableParityError t' c tile t) := by
  unfold Machine.execTileTableParityError
  extract_lets s1 n
  have hs1 : Keeps true s s1 := .advance h
  split
  · exact .next hs1
  · extract_lets s2 s3 s4 s5 s6
    have hs2 : Keeps true s s2 := .modPic hs1
    have hs3 : Keeps true s s3 := .ite hs2 (.wr hs2)
    have hs4 : Keeps true s s4 := .wr hs3
    have hs5 : Keeps true s s5 := .modFrame hs4
    have hs6 : Keeps true s s6 := .ite (.recompose hs5) hs5
    exact .next (.report hs6)

theorem execFreshnessDeadlineWake {t' c} (h : Keeps m s t) : KeepsNext m s (Machine.execFreshnessDeadlineWake t' c t) := by
  unfold Machine.execFreshnessDeadlineWake
  extract_lets s1
  have hs1 : Keeps m s s1 := .advance h
  exact .next (by
      split
      · exact .ite (.wakeHeld hs1) hs1
      · exact hs1)

theorem execLayerFetchDone {t' c l} (h : Keeps m s t) : KeepsNext m s (Machine.execLayerFetchDone t' c l t) := by
  unfold Machine.execLayerFetchDone
  extract_lets s1 n
  have hs1 : Keeps m s s1 := .advance h
  exact .ite (.next hs1) (.next (.modLayer hs1))

end KeepsNext

namespace Keeps

variable {m : Bool} {s t u : State}

theorem sendChState {c} (h : Keeps m s t) : Keeps m s (t.sendChState c) := .ite h (.sendTransit h)

theorem askRun {target c k at'} (h : Keeps m s t) : Keeps m s (t.askRun target c k at') := by
  unfold State.askRun
  extract_lets x
  exact .update h

theorem setChState {c k st} (h : Keeps m s t) : Keeps m s (t.setChState c k st) := .ite h (.noteTonly (.sendChState (.wr h)))

theorem setCh {c k st cause} (h : Keeps m s t) : Keeps m s (t.setCh c k st cause) := .wr (.setChState h)

theorem showPend {c} (h : Keeps m s t) : Keeps m s (t.showPend c) := .wrb h

theorem wantPatterns {c k hi lo} (h : Keeps m s t) : Keeps m s (t.wantPatterns c k hi lo) := by
  unfold State.wantPatterns
  extract_lets x s1
  have hs1 : Keeps m s s1 := .modLight h
  exact .showPend (.modChan hs1)

theorem choosePatterns {c k} (h : Keeps m s t) : Keeps m s (t.choosePatterns c k) := .wantPatterns h

theorem showOut {c} (h : Keeps m s t) : Keeps m s (t.showOut c) := by
  unfold State.showOut
  extract_lets cause
  exact .wr (.wrb h)

theorem dropSearch {c k} (h : Keeps m s t) : Keeps m s (t.dropSearch c k) :=
  .ite h (by
    extract_lets s1 w
    have hs1 : Keeps m s s1 := .wr (.setChState (.modChan h))
    exact .ite (.wantPatterns hs1) hs1)

theorem abandonSearches {c} (h : Keeps m s t) : Keeps m s (t.abandonSearches c) := .foldl h (fun _ _ hx => .dropSearch hx)

theorem lightGoesOff {c trip} (h : Keeps m s t) : Keeps m s (t.lightGoesOff c trip) := by
  unfold State.lightGoesOff
  extract_lets s1 s2
  have hs1 : Keeps m s s1 := .violate h
  have hs2 : Keeps m s s2 := .ite (.lensLow hs1) (.contentLow hs1)
  exact .showOut (.abandonSearches (.abandonFade hs2))

theorem outputStopped {c} (h : Keeps m s t) : Keeps m s (t.outputStopped c) := by
  unfold State.outputStopped
  extract_lets s1
  have hs1 : Keeps m s s1 := .violate h
  exact .sendDump (.showOut (.abandonSearches (.contentLow (.wr hs1))))

theorem policyLightOff {c k cause} (h : Keeps m s t) : Keeps m s (t.policyLightOff c k cause) := .ite h (.report (.lightGoesOff
    (.modLight h)))

theorem showDim {c} (h : Keeps m s t) : Keeps m s (t.showDim c) := by
  unfold State.showDim
  extract_lets d
  exact .wr (.wr h)

theorem startFade {c kind} (h : Keeps m s t) : Keeps m s (t.startFade c kind) := by
  unfold State.startFade
  extract_lets l n d dur target s1
  have hs1 : Keeps m s s1 := .wr (.modLight h)
  split
  · exact .modChr (.modPic hs1)
  · exact hs1

theorem beginStop {c} (h : Keeps m s t) : Keeps m s (t.beginStop c) := .ite (.startFade h) (.outputStopped (.showDim (.wr (.modLight h))))

theorem fadeStep {c} (h : Keeps m s t) : Keeps m s (t.fadeStep c) := by
  unfold State.fadeStep
  split
  · exact .showDim h
  · extract_lets acc v fin s1 s2
    have hs1 : Keeps m s s1 := .wrb (.modLight h)
    have hs2 : Keeps m s s2 := .showDim hs1
    exact .ite (.outputStopped hs2) hs2

theorem dimChanged {c} (h : Keeps m s t) : Keeps m s (t.dimChanged c) := by
  unfold State.dimChanged
  split
  · exact .ite h (.ite (by
      extract_lets l
      exact .modLight h) (.startFade h))
  · exact .ite h (.startFade h)

theorem loseLatch {c ld} (h : Keeps m s t) : Keeps m s (t.loseLatch c ld) := by
  unfold State.loseLatch
  extract_lets hi cur moved lit s1 again
  have hs1 : Keeps m s s1 := .foldl h (fun _ _ hx => .modChan hx)
  exact .wr (.modLight hs1)

theorem latchLoad {c ld at'} (h : Keeps m s t) : Keeps m s (t.latchLoad c ld at') := by
  unfold State.latchLoad
  extract_lets hi before s1 s2
  have hs1 : Keeps m s s1 := .violate h
  have hs2 : Keeps m s s2 := .foldl hs1 (fun _ _ hx => by
      extract_lets k i1 old s3 again
      have hs3 : Keeps m s s3 := .wr (.wr hx)
      exact .modChan hs3)
  exact .wr (.modLight hs2)

theorem undoLatch {c} (h : Keeps m s t) : Keeps m s (t.undoLatch c) := by
  unfold State.undoLatch
  split
  · exact .modLight h
  · exact .ite (.modLight h) (by
      extract_lets hi s1 s2 s3
      have hs1 : Keeps m s s1 := .foldl h (fun _ _ hx1 => by
          extract_lets i1
          exact .wr (.wr hx1))
      have hs2 : Keeps m s s2 := .foldl hs1 (fun _ _ hx1 => .modChan hx1)
      have hs3 : Keeps m s s3 := .loseLatch (.modLight hs2)
      exact .ite (.emit hs3) hs3)

theorem noteWear {c} (h : Keeps m s t) : Keeps m s (t.noteWear c) := .foldl h (fun _ _ hx => .ite hx (.report (.modChan hx)))

theorem quietInterval {c r dump high} (h : Keeps m s t) : Keeps m s (t.quietInterval c r dump high) := by
  unfold State.quietInterval
  split
  · extract_lets s1 s2
    have hs1 : Keeps m s s1 := .setRange h
    have hs2 : Keeps m s s2 := .ite (.loseLatch hs1) (.latchLoad (.emit hs1))
    exact .setRange (.showPend hs2)
  · exact .ite h (.setRange h)

theorem updateCeiling {c} (h : Keeps m s t) : Keeps m s (t.updateCeiling c) := by
  unfold State.updateCeiling
  extract_lets s1 terms best s2 cur inc
  have hs1 : Keeps m s s1 := .foldl h (fun _ _ hx => .wr hx)
  have hs2 : Keeps m s s2 := .wr (.wr hs1)
  exact .ite (.modLight (.wr hs2)) (.ite hs2 (.modLight (.wr hs2)))

theorem endDiag {c k} (h : Keeps m s t) : Keeps m s (t.endDiag c k) := by
  unfold State.endDiag
  extract_lets s1
  have hs1 : Keeps m s s1 := .ite (.modChan (.addLit h)) h
  exact .releaseLref hs1

theorem takeCalibration {c} (h : Keeps m s t) : Keeps m s (t.takeCalibration c) :=
  .foldl h (fun _ _ hx => by
    extract_lets i
    exact .ite hx (.modChan hx))

theorem storeBad {c} (h : Keeps m s t) : Keeps m s (t.storeBad c) := .almRequest h

theorem searchStep {c k} (h : Keeps m s t) : Keeps m s (t.searchStep c k) := by
  unfold State.searchStep
  split
  · exact h
  · exact .ite h (by
      extract_lets half s1 full n
      have hs1 : Keeps m s s1 := .modChan h
      exact .wantPatterns hs1)

theorem startSearch {c k short} (h : Keeps m s t) : Keeps m s (t.startSearch c k short) := by
  unfold State.startSearch
  extract_lets cands s1
  have hs1 : Keeps m s s1 := .modChan h
  exact .searchStep (.wr hs1)

theorem selectStandby {c p k} (h : Keeps m s t) : Keeps m s (t.selectStandby c p k) := .modLight h

theorem faultCounter {c k cause} (h : Keeps m s t) : Keeps m s (t.faultCounter c k cause) := by
  unfold State.faultCounter
  extract_lets i
  split
  · exact .bump h
  · exact .bump h
  · exact .bump h
  · exact h

theorem channelFault {c k cause} (h : Keeps m s t) : Keeps m s (t.channelFault c k cause) := by
  unfold State.channelFault
  extract_lets st i hot off p s1 s2 s3 search tol s4 s5 s6 pend s7 s8 s9
  have hs1 : Keeps m s s1 := .violate h
  have hs2 : Keeps m s s2 := .modChan (.faultCounter hs1)
  have hs3 : Keeps m s s3 := .ite (.dropSearch (.modChan hs2)) hs2
  have hs4 : Keeps m s s4 := .setCh hs3
  have hs5 : Keeps m s s5 := .cutDiag (.setLen hs4)
  have hs6 : Keeps m s s6 := .ite (.flagBy hs5) hs5
  have hs7 : Keeps m s s7 := .ite (.modLight hs6) hs6
  have hs8 : Keeps m s s8 := .ite (.policyLightOff hs7) (.ite (by
      split
      · exact .modLight (.selectStandby hs7)
      · exact .ite hs7 (.policyLightOff hs7)) hs7)
  have hs9 : Keeps m s s9 := .ite (.startSearch hs8) hs8
  exact .ite h (.ite (.modChan h) (.updateCeiling hs9))

theorem searchDone {c k sr em} (h : Keeps m s t) : Keeps m s (t.searchDone c k sr em) := by
  unfold State.searchDone
  extract_lets i s1 s2 s3 w s4
  have hs1 : Keeps m s s1 := .modChan h
  have hs2 : Keeps m s s2 := .wr (.wr (.wr hs1))
  have hs3 : Keeps m s s3 := .reportSub (.storeBad hs2)
  have hs4 : Keeps m s s4 := .choosePatterns hs3
  exact .ite (.wantPatterns hs3) (.ite (.setChState hs4) (.modChan hs4))

theorem searchJudge {c k sr pd vstr} (h : Keeps m s t) : Keeps m s (t.searchJudge c k sr pd vstr) := by
  unfold State.searchJudge
  extract_lets s1 f among left sr1
  have hs1 : Keeps m s s1 := .modChan h
  exact .ite (.searchDone hs1) (.searchStep (.modChan hs1))

theorem diagPass {c k} (h : Keeps m s t) : Keeps m s (t.diagPass c k) := by
  unfold State.diagPass
  extract_lets i x shown s1 p s2 s3
  have hs1 : Keeps m s s1 := .modChan h
  have hs2 : Keeps m s s2 := .askRun (.setCh hs1)
  have hs3 : Keeps m s s3 := .ite (.report hs2) (.ite (.report (.askRun (.modChan (.setCh hs1)))) hs1)
  exact .ite h (.ite (.selectStandby hs3) hs3)

theorem lightBanks {c frame} (h : Keeps m s t) : Keeps m s (t.lightBanks c frame) :=
  .foldl h (fun _ _ hx => by
    split
    · exact hx
    · exact .ite hx (by
        extract_lets k old moved s1 failed s2 s3 s4
        have hs1 : Keeps m s s1 := .modLight hx
        have hs2 : Keeps m s s2 := by
          simp only [s2]
          clear_value old
          split
          · exact .setChState hs1
          · exact hs1
        have hs3 : Keeps m s s3 := .askRun (.sendChState (.wr (.setChState hs2)))
        have hs4 : Keeps m s s4 := .violate hs3
        exact .ite hs1 (by
            clear_value old
            clear_value failed
            split
            · extract_lets s5
              have hs5 : Keeps m s s5 := .flagBy hs4
              exact .ite (.report hs5) hs5
            · exact hs4)))

theorem tearUnlit {c frame} (h : Keeps m s t) : Keeps m s (t.tearUnlit c frame) := .ite h (.foldl h (fun _ _ hx => .flagBy hx))

theorem fillPrimaries {c} (h : Keeps m s t) : Keeps m s (t.fillPrimaries c) :=
  .foldl h (fun _ _ hx => .ite hx (by
    split
    · exact .selectStandby hx
    · exact hx))

theorem flushOut {c i} (h : Keeps m s t) : Keeps m s (t.flushOut c i) := by
  unfold State.flushOut
  split
  · exact .ite (.writeOut h) h
  · exact h

theorem cascadeStrobe {c at' j scale} (h : Keeps m s t) : Keeps m s (t.cascadeStrobe c at' j scale) := .modHel h

theorem arriveStrobes {c} (h : Keeps m s t) : Keeps m s (t.arriveStrobes c) := .foldl (.modHel h) (fun _ _ hx => .modHel hx)

theorem loadInit {c i} (h : Keeps m s t) : Keeps m s (t.loadInit c i) := by
  unfold State.loadInit
  extract_lets v
  exact .wrI (.modSlot h)

theorem clearSatfault {c i} (h : Keeps m s t) : Keeps m s (t.clearSatfault c i) := by
  unfold State.clearSatfault
  extract_lets j s1
  have hs1 : Keeps m s s1 := .loadInit (.modSlot (.wr h))
  exact .ite h (.showOpen (.report hs1))

theorem enableSlot {c i} (h : Keeps m s t) : Keeps m s (t.enableSlot c i) := by
  unfold State.enableSlot
  extract_lets j s1 s2 s3
  have hs1 : Keeps m s s1 := .modSlot (.arriveStrobes h)
  have hs2 : Keeps m s s2 := .wrI (.wr (.wr hs1))
  have hs3 : Keeps m s s3 := .loadInit hs2
  exact .showOpen (.ite hs3 (.writeOut hs3))

theorem overrun {c i} (h : Keeps m s t) : Keeps m s (t.overrun c i) := by
  unfold State.overrun
  extract_lets j first s1 s2 s3 n
  have hs1 : Keeps m s s1 := .bump (.bump h)
  have hs2 : Keeps m s s2 := .modSlot hs1
  have hs3 : Keeps m s s3 := .ite (.report hs2) hs2
  exact .ite hs3 (.unitFault hs3)

theorem satFault {c i u} (h : Keeps m s t) : Keeps m s (t.satFault c i u) := by
  unfold State.satFault
  extract_lets j act s1 s2 s3
  have hs1 : Keeps m s s1 := .modSlot (.wr h)
  have hs2 : Keeps m s s2 := .report hs1
  have hs3 : Keeps m s s3 := .ite hs2 (.foldl hs2 (fun _ _ hx => .channelFault hx))
  exact .showOpen (.ite hs3 (.writeSafe hs3))

theorem moveSetpoint {c i} (h : Keeps m s t) : Keeps m s (t.moveSetpoint c i) := by
  unfold State.moveSetpoint
  extract_lets j x src req s1 want r
  have hs1 : Keeps m s s1 := .modSlot h
  exact .wrb (.wrI hs1)

theorem pdLost {c i} (h : Keeps m s t) : Keeps m s (t.pdLost c i) := by
  unfold State.pdLost
  extract_lets j n s1
  have hs1 : Keeps m s s1 := .bump (.modSlot h)
  exact .ite (.report hs1) hs1

theorem acceptSample {c i code} (h : Keeps m s t) : Keeps m s (t.acceptSample c i code) := by
  unfold State.acceptSample
  extract_lets j x s1 s2 s3 s4 wr s5 s6 s7 lit pd gone s8 dark m1 r s9 s10 s11 n s12
  have hs1 : Keeps m s s1 := .ite h (.wr h)
  have hs2 : Keeps m s s2 := .modSlot hs1
  have hs3 : Keeps m s s3 := by
    simp only [s3]
    split
    · exact .ite (.loadInit hs2) hs2
    · exact hs2
  have hs4 : Keeps m s s4 := .moveSetpoint hs3
  have hs5 : Keeps m s s5 := .ite hs4 (.report hs4)
  have hs6 : Keeps m s s6 := .modSlot (.wr hs5)
  have hs7 : Keeps m s s7 := .ite hs4 (.report (.wr (.modSlot hs4)))
  have hs8 : Keeps m s s8 := .ite (.pdLost hs7) (.ite (.modSlot hs7) hs7)
  have hs9 : Keeps m s s9 := by
    simp only [s9]
    clear_value m1
    split
    · exact .wrI hs8
    · exact hs8
  have hs10 : Keeps m s s10 := .wrI (.modSlot hs9)
  have hs11 : Keeps m s s11 := .showOpen (.wrb hs10)
  have hs12 : Keeps m s s12 := .modSlot (.wrb hs11)
  exact .ite (.showOpen hs6) (.ite hs11 (.ite (.satFault hs12) hs12))

theorem refuseLit {c l p} (h : Keeps m s t) : Keeps m s (t.refuseLit c l p).2 := by
  unfold State.refuseLit
  extract_lets k
  split
  · exact .mkSnd h
  · exact .mkSnd (.applyErr h)

theorem refuseSched {c l} (h : Keeps m s t) : Keeps m s (t.refuseSched c l).2 := by
  unfold State.refuseSched
  extract_lets pg why
  split
  · exact .mkSnd h
  · exact .mkSnd (.report (.applyErr h))

theorem refuseMesh {c l} (h : Keeps m s t) : Keeps m s (t.refuseMesh c l).2 := by
  unfold State.refuseMesh
  extract_lets pg
  split
  · exact .mkSnd h
  · exact .mkSnd (.applyErr h)

theorem refuseOcc {c l} (h : Keeps m s t) : Keeps m s (t.refuseOcc c l).2 := by
  unfold State.refuseOcc
  extract_lets v near
  split
  · exact .mkSnd (.applyErr h)
  · exact .mkSnd h

theorem refusals {c l} (h : Keeps m s t) : Keeps m s (t.refusals c l).2 := by
  unfold State.refusals
  extract_lets r1 r2 r3
  have hr1 : Keeps m s r1.2 := .foldlSnd h fun _ _ hp => .refuseLit hp
  have hr2 : Keeps m s r2.2 := .refuseSched hr1
  have hr3 : Keeps m s r3.2 := .refuseMesh hr2
  exact .refuseOcc hr3

theorem publish {c l stamp} (h : Keeps m s t) : Keeps m s (t.publish c l stamp) := by
  unfold State.publish
  extract_lets m1 s1
  have hs1 : Keeps m s s1 := .dropReaff (.modLayer h)
  exact .ite (.report hs1) hs1

theorem landLayers {c n old} (h : Keeps m s t) : Keeps m s (t.landLayers c n old) := by
  unfold State.landLayers
  extract_lets moved s1 s2 s21
  have hs1 : Keeps m s s1 := .endLeases h
  have hs2 : Keeps m s s2 := .foldl hs1 (fun _ _ hx => by
      extract_lets k
      exact .modLayer hx)
  have hs21 : Keeps m s s21 := .foldl hs2 (fun _ _ hx => by
      extract_lets k
      exact .ite hx (.modLayer hx))
  exact .foldl hs21 (fun _ _ hx => by
      extract_lets k
      exact .ite (.publish hx) hx)

theorem landFresh {old c} (h : Keeps m s t) : Keeps m s (t.landFresh old c) :=
  .ite h (by
    extract_lets s1 g s2
    have hs1 : Keeps m s s1 := .foldl h (fun _ _ hx => by
        extract_lets i note
        exact .ite (.ite hx (.ite hx (.report hx))) (.report (.ite hx (.ite hx (.report hx)))))
    have hs2 : Keeps m s s2 := .ite hs1 (.report hs1)
    exact .ite hs2 (.report hs2))

theorem landChannel {old c k} (h : Keeps m s t) : Keeps m s (t.landChannel old c k) := by
  unfold State.landChannel
  extract_lets i was is s1 searched s2 w s3 p s4
  have hs1 : Keeps m s s1 := .violate h
  have hs2 : Keeps m s s2 := .modChan (.setLen hs1)
  have hs3 : Keeps m s s3 := .ite (.wantPatterns hs2) hs2
  have hs4 : Keeps m s s4 := .ite (.modLight hs3) hs3
  exact .ite h (.ite (.modChan (.setCh h)) (.setCh hs4))

theorem landLit {old c n p} (h : Keeps m s t) : Keeps m s (t.landLit old c n p) := by
  unfold State.landLit
  extract_lets k
  exact .ite h (.modLight h)

theorem landSlot {old c i} (h : Keeps m s t) : Keeps m s (t.landSlot old c i) := by
  unfold State.landSlot
  extract_lets j was is s1
  have hs1 : Keeps m s s1 := .ite (.enableSlot h) (.ite (.writeSafe h) (.ite (.ite h (.writeOut h)) (.ite h (.writeSafe h))))
  exact .ite hs1 (.clearSatfault (.loadInit (.wr hs1)))

theorem landLock {old c} (h : Keeps m s t) : Keeps m s (t.landLock old c) := by
  unfold State.landLock
  extract_lets same
  exact .ite h (.modChr (.wakeHeld (.lockLost h)))

theorem restartUnits {c} (h : Keeps m s t) : Keeps m s (t.restartUnits c) := .update h

theorem restartEngine {c} (h : Keeps m s t) : Keeps m s (t.restartEngine c) := .ite (.modPic h) h

theorem restartOutput {c n} (h : Keeps m s t) : Keeps m s (t.restartOutput c n) :=
  .ite h (by
    extract_lets s1
    have hs1 : Keeps m s s1 := .modPic (.modLight h)
    exact .report (.startFade hs1))

theorem lateWrites {c n late} (h : Keeps m s t) : Keeps m s (t.lateWrites c n late) := by
  unfold State.lateWrites
  extract_lets s1
  have hs1 : Keeps m s s1 := .wrb h
  split
  · exact hs1
  · exact .report (.bumpBy hs1)

theorem coherentLanded {c} (h : Keeps m s t) : Keeps m s (t.coherentLanded c) :=
  .ite h (by
    extract_lets left s1
    have hs1 : Keeps m s s1 := .setArmed h
    exact .ite (.report (.wr hs1)) hs1)

theorem recordLanding {c n} (h : Keeps m s t) : Keeps m s (t.recordLanding c n) := by
  unfold State.recordLanding
  extract_lets k s1 s2 s3 s4
  have hs1 : Keeps m s s1 := .wr (.wr (.wr h))
  have hs2 : Keeps m s s2 := .wr (.wrb (.wrb hs1))
  have hs3 : Keeps m s s3 := by
    simp only [s3]
    split
    · exact .report hs2
    · exact hs2
  have hs4 : Keeps m s s4 := .ite (.report hs3) hs3
  exact .modChr (.signalCluster hs4)

theorem meshTaken {old c} (h : Keeps m s t) : Keeps m s (t.meshTaken old c) := by
  unfold State.meshTaken
  extract_lets pg n
  exact .ite h (.report h)

theorem raiseHpd {c} (h : Keeps m s t) : Keeps m s (t.raiseHpd c) := .ite h (.foldl h (fun _ _ hx => .ite (.emit (.wr hx)) hx))

theorem landCommit {c n first} (h : Keeps m s t) : Keeps m s (t.landCommit c n first) := by
  unfold State.landCommit
  extract_lets due late old r s1 s2 s3 s4 s5 s6 s7 s8 s9 s10 s11 s12 s13 s14 s15 s16 s17
  have hs1 : Keeps m s s1 := .refusals h
  have hs2 : Keeps m s s2 := .update hs1
  have hs3 : Keeps m s s3 := .foldl hs2 (fun _ _ hx => .wr hx)
  have hs4 : Keeps m s s4 := .lateWrites hs3
  have hs5 : Keeps m s s5 := .restartEngine (.restartUnits hs4)
  have hs6 : Keeps m s s6 := .landLayers hs5
  have hs7 : Keeps m s s7 := .foldl hs6 (fun _ _ hx => .showCover hx)
  have hs8 : Keeps m s s8 := .landFresh hs7
  have hs9 : Keeps m s s9 := .foldl hs8 (fun _ _ hx => .landChannel hx)
  have hs10 : Keeps m s s10 := .foldl hs9 (fun _ _ hx => .landLit hx)
  have hs11 : Keeps m s s11 := .ite hs10 (.dimChanged hs10)
  have hs12 : Keeps m s s12 := .foldl hs11 (fun _ _ hx => .landSlot hx)
  have hs13 : Keeps m s s13 := .meshTaken (.landLock hs12)
  have hs14 : Keeps m s s14 := .swapLanded (.recordLanding (.coherentLanded hs13))
  have hs15 : Keeps m s s15 := .firstLanding (.raiseHpd hs14)
  have hs16 : Keeps m s s16 := .restartOutput hs15
  have hs17 : Keeps m s s17 := .ite (.darken hs16) hs16
  exact .ite (.darken hs17) hs17

theorem commitLands {c n} (h : Keeps m s t) : Keeps m s (t.commitLands c n).2 := by
  unfold State.commitLands
  extract_lets k
  split
  · exact .mkSnd h
  · split
    · exact .mkSnd (.modChr h)
    · split
      · split
        · exact .mkSnd (.modChr h)
        · split
          · exact .mkSnd (.modChr h)
          · exact .pairAllows h
      · split
        · exact .mkSnd (.modChr h)
        · split
          · exact .mkSnd (.modChr h)
          · exact .pairAllows h

theorem expectMeridian {c m'} (h : Keeps m s t) : Keeps m s (t.expectMeridian c m') := .wr (.modChr h)

theorem countMeridian {c} (h : Keeps m s t) : Keeps m s (t.countMeridian c) := by
  unfold State.countMeridian
  extract_lets s1 s2 s3
  have hs1 : Keeps m s s1 := .wr (.wr h)
  have hs2 : Keeps m s s2 := .modChr hs1
  have hs3 : Keeps m s s3 := .expectMeridian hs2
  exact .signalCluster (.strobe hs3)

theorem enterFallback {c} (h : Keeps m s t) : Keeps m s (t.enterFallback c) := by
  unfold State.enterFallback
  extract_lets frz due l k
  exact .ite h (.modMem h)

theorem leaveFallback {c} (h : Keeps m s t) : Keeps m s (t.leaveFallback c) := by
  unfold State.leaveFallback
  extract_lets r s1
  have hs1 : Keeps m s s1 := .modMem h
  exact .ite h (.ite hs1 (.wr hs1))

theorem showSchedule {c n kind sch pg tcause} (h : Keeps m s t) : Keeps m s (t.showSchedule c n kind sch pg tcause) := by
  unfold State.showSchedule
  extract_lets was red s1 s2 s3 s4 s5
  have hs1 : Keeps m s s1 := .wr (.wr h)
  have hs2 : Keeps m s s2 := .wr (.wrb hs1)
  have hs3 : Keeps m s s3 := .ite (.bump hs2) hs2
  have hs4 : Keeps m s s4 := .ite (.report hs3) hs3
  have hs5 : Keeps m s s5 := .ite (.modChr hs4) (.ite (.report (.modChr hs4)) hs4)
  exact .ite (.report (.modChr hs5)) (.ite (.report (.modChr hs5)) hs5)

theorem takeDpFrame {c l i f} (h : Keeps m s t) : Keeps m s (t.takeDpFrame c l i f) := by
  unfold State.takeDpFrame
  extract_lets j s1
  have hs1 : Keeps m s s1 := by
    simp only [s1]
    split
    · exact .ite (.bump h) (.bumpBy h)
    · exact h
  exact .modLayer hs1

theorem psrReaffirm {c l i} (h : Keeps m s t) : Keeps m s (t.psrReaffirm c l i) := .ite (.modLayer h) h

theorem rememberLayers {c} (h : Keeps m s t) : Keeps m s (t.rememberLayers c) := .foldl h (fun _ _ hx => .modLayer hx)

theorem beginLayer {c l n} (h : Keeps m s t) : Keeps m s (t.beginLayer c l n) := by
  unfold State.beginLayer
  extract_lets k s1 up fr s2 s3 reads s4 img
  have hs1 : Keeps m s s1 := .modLayer h
  have hs2 : Keeps m s s2 := by
    simp only [s2]
    clear_value fr
    split
    · exact .ite (.takeDpFrame hs1) hs1
    · exact hs1
  have hs3 : Keeps m s s3 := .ite (.psrReaffirm hs2) hs2
  have hs4 : Keeps m s s4 := .ite hs3 (by
      clear_value fr
      split
      · exact .request hs3
      · exact .request hs3
      · exact hs3)
  exact .modLayer hs4

theorem fillCache {c l} (h : Keeps m s t) : Keeps m s (t.fillCache c l) := by
  unfold State.fillCache
  extract_lets k r free
  split
  · exact h
  · extract_lets n copy
    exact .ite h (.ite h (.showCache (.modMem h)))

theorem checkCopy {c l} (h : Keeps m s t) : Keeps m s (t.checkCopy c l) := by
  unfold State.checkCopy
  split
  · exact h
  · extract_lets bad
    exact .ite h (.dropCopies (.foldl h (fun _ _ hx1 => .plateError hx1)))

theorem applyPending {c} (h : Keeps m s t) : Keeps m s (t.applyPending c) := by
  unfold State.applyPending
  extract_lets due
  exact .foldl h (fun _ _ hx => by
      extract_lets ps
      exact .foldl (.modLayer hx) (fun _ _ hx1 => .applyLayerReaff hx1))

theorem psrLayers {c} (h : Keeps m s t) : Keeps m s (t.psrLayers c) :=
  .ite h (.foldl h (fun _ _ hx => by
    extract_lets k
    exact .ite (.psrReaffirm hx) hx))

theorem applyReaffirms {c} (h : Keeps m s t) : Keeps m s (t.applyReaffirms c) := by
  unfold State.applyReaffirms
  extract_lets s1 queued ripe ls s2
  have hs1 : Keeps m s s1 := .applyPending h
  have hs2 : Keeps m s s2 := .modPic hs1
  exact .wr (.foldl hs2 (fun _ _ hx => .applyTileList hx))

theorem beginLayers {c n} (h : Keeps m s t) : Keeps m s (t.beginLayers c n) :=
  .ite h (.ite (by
    extract_lets s1
    have hs1 : Keeps m s s1 := .foldl h (fun _ _ hx => .modLayer hx)
    exact .ite hs1 (.psrReaffirm hs1)) (.foldl h (fun _ _ hx => .fillCache (.beginLayer (.checkCopy hx)))))

theorem poisonedReads {c} (h : Keeps true s t) : Keeps true s (t.poisonedReads c) := .ite h (.foldl h (fun _ _ hx => .foldl hx
    (fun _ _ hx1 => .layerReadError (.detectionError hx1))))

theorem latchCorr {c vs} (h : Keeps m s t) : Keeps m s (t.latchCorr c vs) := .foldl h (fun _ _ hx => .wr hx)

theorem countSaturated {c n} (h : Keeps m s t) : Keeps m s (t.countSaturated c n) :=
  .ite (.wr h) (by
    extract_lets sat s1
    have hs1 : Keeps m s s1 := .wr h
    exact .foldl hs1 (fun _ _ hx => .report hx))

theorem ensureTiles {c} (h : Keeps m s t) : Keeps m s (t.ensureTiles c) := .ite h (.modPic h)

theorem rewritePlate {c} (h : Keeps m s t) : Keeps m s (t.rewritePlate c) := by
  unfold State.rewritePlate
  extract_lets base pitch mine
  exact .ite h (.modMem h)

theorem fbBadWords {c} (h : Keeps m s t) : Keeps m s (t.fbBadWords c) :=
  .ite h (by
    extract_lets wh bad
    exact .foldl h (fun _ _ hx => .flagBy (.plateError hx)))

theorem composeFrame {c n} (h : Keeps true s t) : Keeps true s (t.composeFrame c n) :=
  .ite h (by
    extract_lets s1 s2
    have hs1 : Keeps true s s1 := .fbBadWords (.rewritePlate h)
    have hs2 : Keeps true s s2 := .modPic hs1
    exact .judgeWords (.poisonedReads (.recompose hs2)))

theorem runFrame {c n corr} (h : Keeps true s t) : Keeps true s (t.runFrame c n corr) := by
  unfold State.runFrame
  extract_lets x s1 s2 s3 s4 s5 e s6 s7 s8 s9
  have hs1 : Keeps true s s1 := .ensureTiles (.showSchedule h)
  have hs2 : Keeps true s s2 := .countSaturated (.latchCorr (.beginLayers hs1))
  have hs3 : Keeps true s s3 := .modPic hs2
  have hs4 : Keeps true s s4 := .modTri hs3
  have hs5 : Keeps true s s5 := .ite (.modPic hs4) hs4
  have hs6 : Keeps true s s6 := .modFrame (.evaluateTiles hs5)
  have hs7 : Keeps true s s7 := .applyMap hs6
  have hs8 : Keeps true s s8 := .ite (.sendTransit hs7) hs7
  have hs9 : Keeps true s s9 := .fadeStep (.composeFrame hs8)
  exact .modFrame hs9

theorem enterHeld {c m'} (h : Keeps true s t) : Keeps true s (t.enterHeld c m') := by
  unfold State.enterHeld
  extract_lets s1 d h1 s2 s3 s4
  have hs1 : Keeps true s s1 := .psrLayers h
  have hs2 : Keeps true s s2 := .modPic (.modChr hs1)
  have hs3 : Keeps true s s3 := .showDeadline (.bump (.wr (.wr hs2)))
  have hs4 : Keeps true s s4 := .modHel hs3
  exact .keepDomains hs4

theorem applyHeldFlags {c} (h : Keeps m s t) : Keeps m s (t.applyHeldFlags c) := by
  unfold State.applyHeldFlags
  extract_lets f
  exact .modPic h

theorem showRing (h : Keeps m s t) : Keeps m s t.showRing := by
  unfold State.showRing
  extract_lets l newest oldest pend
  exact .wr (.wr h)

theorem ringBlocked (h : Keeps m s t) : Keeps m s t.ringBlocked := .ite h (.stageNote (.report (.wr h)))

theorem ringWrite {c x r} (h : Keeps m s t) : Keeps m s (t.ringWrite c x r) := by
  unfold State.ringWrite
  split
  · exact .ringBlocked h
  · extract_lets e
    exact .showRing (.wr (.modArc h))

theorem finishSample {c x flags tileSec} (h : Keeps m s t) : Keeps m s (t.finishSample c x flags tileSec) := by
  unfold State.finishSample
  extract_lets src
  exact .foldl h (fun _ _ hx1 => .ite (.ringWrite hx1) (.stageRec hx1))

theorem finishSamples {c num flags tileSec} (h : Keeps m s t) : Keeps m s (t.finishSamples c num flags tileSec) := by
  unfold State.finishSamples
  extract_lets mine s1
  have hs1 : Keeps m s s1 := .modOut h
  exact .foldl hs1 (fun _ _ hx => .finishSample hx)

theorem stageAnchor (h : Keeps m s t) : Keeps m s t.stageAnchor := .stageRec h

theorem badTiles {c want found} (h : Keeps m s t) : Keeps m s (t.badTiles c want found).2 := by
  unfold State.badTiles
  extract_lets shows known fresh words
  exact .mkSnd (.foldl h (fun _ _ hx => .plateError hx))

theorem takeSample {c f late found} (h : Keeps m s t) : Keeps m s (t.takeSample c f late found) := by
  unfold State.takeSample
  extract_lets o every key want read bad s1 ok got done lost cause x s2 s3 s4 s5
  have hs1 : Keeps m s s1 := .badTiles h
  have hs2 : Keeps m s s2 := .modOut hs1
  have hs3 : Keeps m s s3 := .update hs2
  have hs4 : Keeps m s s4 := .modPic hs3
  have hs5 : Keeps m s s5 := .ite (.stageAnchor hs4) hs4
  exact .ite hs5 (.stageNote (.report (.modArc (.bump hs5))))

theorem takeRing {c f} (h : Keeps m s t) : Keeps m s (t.takeRing c f) := by
  unfold State.takeRing
  extract_lets o crc want x s1
  have hs1 : Keeps m s s1 := .modOut h
  exact .ite (.ringBlocked h) (.update hs1)

theorem startRecording {note data adopted} (h : Keeps m s t) : Keeps m s (t.startRecording note data adopted) := by
  unfold State.startRecording
  extract_lets s1 s2 s3
  have hs1 : Keeps m s s1 := .wr h
  have hs2 : Keeps m s s2 := .modArc hs1
  have hs3 : Keeps m s s3 := .stageAnchor (.stageNote hs2)
  exact .report hs3

theorem initArchive (h : Keeps m s t) : Keeps m s t.initArchive := by
  unfold State.initArchive
  split
  · exact h
  · extract_lets lo hi id sb s1 s2 s3
    have hs1 : Keeps m s s1 := .modArc (.freeBits (.freeBits h))
    have hs2 : Keeps m s s2 := .wr (.wr (.wr hs1))
    have hs3 : Keeps m s s3 := .report (.sendNvme hs2)
    exact .startRecording hs3

theorem driveFailed {cause} (h : Keeps m s t) : Keeps m s (t.driveFailed cause) := by
  unfold State.driveFailed
  extract_lets st s1
  have hs1 : Keeps m s s1 := .modArc h
  exact .ite h (.report (.wr (.wr (.wr hs1))))

theorem commandFailed {x cause} (h : Keeps m s t) : Keeps m s (t.commandFailed x cause) := by
  unfold State.commandFailed
  extract_lets n y s1
  have hs1 : Keeps m s s1 := .modArc h
  exact .ite (.driveFailed h) (.emit (.emit hs1))

theorem showRate {n} (h : Keeps m s t) : Keeps m s (t.showRate n) := by
  unfold State.showRate
  extract_lets l
  exact .wr (.modArc h)

theorem writeDone {x} (h : Keeps m s t) : Keeps m s (t.writeDone x) := by
  unfold State.writeDone
  extract_lets l s1 s2 s3
  have hs1 : Keeps m s s1 := .modArc h
  have hs2 : Keeps m s s2 := .showRate hs1
  have hs3 : Keeps m s s3 := .ite (.stageNote (.modArc hs2)) hs2
  exact .issueWrite (.runFlush hs3)

theorem storeDigests (h : Keeps m s t) : Keeps m s t.storeDigests :=
  .foldl h (fun _ _ hx => by
    extract_lets o
    exact .ite hx (.almRequest hx))

theorem storeHead (h : Keeps m s t) : Keeps m s t.storeHead := by
  unfold State.storeHead
  split
  · exact h
  · extract_lets e
    exact .almRequest h

theorem storeIndex (h : Keeps m s t) : Keeps m s t.storeIndex := by
  unfold State.storeIndex
  split
  · exact h
  · extract_lets k
    exact .almRequest h

theorem flushMarks (h : Keeps m s t) : Keeps m s t.flushMarks := by
  unfold State.flushMarks
  extract_lets n
  exact .foldl h (fun _ _ hx => .modOut hx)

theorem flushed (h : Keeps m s t) : Keeps m s t.flushed := by
  unfold State.flushed
  extract_lets s1 s2
  have hs1 : Keeps m s s1 := .flushMarks (.wr h)
  have hs2 : Keeps m s s2 := .storeHead (.storeDigests hs1)
  exact .ite hs1 (.ite (.storeIndex hs2) hs2)

end Keeps

namespace KeepsNext

variable {m : Bool} {s t u : State}

theorem execDriveAttach {t' d} (h : Keeps m s t) : KeepsNext m s (Machine.execDriveAttach t' d t) := by
  unfold Machine.execDriveAttach
  extract_lets s1 s2 s3 gb s4 s5
  have hs1 : Keeps m s s1 := .advance h
  have hs2 : Keeps m s s2 := .ite (.powerOn hs1) hs1
  have hs3 : Keeps m s s3 := .modArc hs2
  have hs4 : Keeps m s s4 := .report (.wr hs3)
  have hs5 : Keeps m s s5 := .modArc hs4
  exact .ite (.next hs2) (by
      split
      · exact .next (.report (.wr hs3))
      · split
        · exact .next (.ite (.initArchive hs5) (.wr hs5))
        · exact .ite (.next (.report (.wr hs5))) (.next (.wr (.wr (.modArc hs5)))))

theorem execNvmeCommandTimeout {t' id} (h : Keeps m s t) : KeepsNext m s (Machine.execNvmeCommandTimeout t' id t) := by
  unfold Machine.execNvmeCommandTimeout
  extract_lets s1
  have hs1 : Keeps m s s1 := .advance h
  split
  · exact .next (.commandFailed hs1)
  · exact .next hs1

theorem execNvmeLinkDown {t'} (h : Keeps m s t) : KeepsNext m s (Machine.execNvmeLinkDown t' t) := by
  unfold Machine.execNvmeLinkDown
  extract_lets s1
  have hs1 : Keeps m s s1 := .driveFailed (.advance h)
  exact .next (.modArc hs1)

theorem execNvmeCommandComplete {t' id ok} (h : Keeps m s t) : KeepsNext m s (Machine.execNvmeCommandComplete t' id ok t) := by
  unfold Machine.execNvmeCommandComplete
  extract_lets s1 s2
  have hs1 : Keeps m s s1 := .advance h
  have hs2 : Keeps m s s2 := .modArc hs1
  split
  · exact .next hs1
  · exact .ite (.next (.commandFailed hs1)) (.ite (.next hs1) (.next (.ite (.writeDone hs2) hs2)))

theorem execSmartPoll {t' m'} (h : Keeps m s t) : KeepsNext m s (Machine.execSmartPoll t' m' t) := by
  unfold Machine.execSmartPoll
  extract_lets s1 s2 s3
  have hs1 : Keeps m s s1 := .advance h
  have hs2 : Keeps m s s2 := .wr (.wr hs1)
  have hs3 : Keeps m s s3 := .ite (.report hs2) hs2
  exact .ite (.next hs1) (.next (.ite (.driveFailed hs3) hs3))

theorem execArchiveSampleTick {t' c late bad} (h : Keeps m s t) : KeepsNext m s (Machine.execArchiveSampleTick t' c late bad t) := by
  unfold Machine.execArchiveSampleTick
  extract_lets s1
  have hs1 : Keeps m s s1 := .advance h
  split
  · exact .next (.ite (.takeSample hs1) hs1)
  · exact .next hs1

theorem execRingSample {t' c} (h : Keeps m s t) : KeepsNext m s (Machine.execRingSample t' c t) := by
  unfold Machine.execRingSample
  extract_lets s1
  have hs1 : Keeps m s s1 := .advance h
  split
  · exact .next hs1
  · exact .ite (.next (.wr hs1)) (.ite (.next (.ringStop hs1)) (.next (.takeRing (.wr hs1))))

theorem execRingFlushDone {t'} (h : Keeps m s t) : KeepsNext m s (Machine.execRingFlushDone t' t) := by
  unfold Machine.execRingFlushDone
  extract_lets s1 s2
  have hs1 : Keeps m s s1 := .runFlush (.takeTriggers (.advance h))
  have hs2 : Keeps m s s2 := .wr (.modArc hs1)
  split
  · exact .next hs1
  · exact .ite (.next hs1) (.next (.report (.showRing hs2)))

theorem execArchiveFlushTick {t'} (h : Keeps m s t) : KeepsNext m s (Machine.execArchiveFlushTick t' t) := by
  unfold Machine.execArchiveFlushTick
  extract_lets s1 s2 s3 s4
  have hs1 : Keeps m s s1 := .advance h
  have hs2 : Keeps m s s2 := .foldl hs1 (fun _ _ hx => .gatherDigests hx)
  have hs3 : Keeps m s s3 := .foldl hs2 (fun _ _ hx => .modOut hx)
  have hs4 : Keeps m s s4 := .issueWrite hs2
  exact .ite (.next hs1) (.ite (.next (.ite (.storeDigests hs3) hs3)) (.ite (.next hs4) (.next (.sendNvme (.modArc hs4)))))

theorem execArchiveFlushDone {t'} (h : Keeps m s t) : KeepsNext m s (Machine.execArchiveFlushDone t' t) := by
  unfold Machine.execArchiveFlushDone
  extract_lets s1
  have hs1 : Keeps m s s1 := .advance h
  split
  · exact .next hs1
  · exact .next (.flushed (.modArc hs1))

theorem execLogbookArchiveCopy {t' slot saveSeq} (h : Keeps m s t) : KeepsNext m s (Machine.execLogbookArchiveCopy t' slot saveSeq t) := by
  unfold Machine.execLogbookArchiveCopy
  extract_lets s1 body
  have hs1 : Keeps m s s1 := .advance h
  exact .ite (.next hs1) (.ite (.next (.stageNote hs1)) (.ite (.next hs1) (.next (.stageRec (.modArc hs1)))))

theorem execArchiveResume {t'} (h : Keeps m s t) : KeepsNext m s (Machine.execArchiveResume t' t) := by
  unfold Machine.execArchiveResume
  extract_lets s1 obj mine
  have hs1 : Keeps m s s1 := .advance h
  split
  · exact .next hs1
  · exact .ite (.next hs1) (by
      extract_lets recs first flushed last keep d1 used lastTime s2 s3
      have hs2 : Keeps m s s2 := .modArc hs1
      have hs3 : Keeps m s s3 := .wr (.wr hs2)
      exact .next (.startRecording hs3))

theorem execArcQuery {t' m'} (h : Keeps m s t) : KeepsNext m s (Machine.execArcQuery t' m' t) :=
  .next (.mailbox (.advance h) (fun _ hx => by
    extract_lets recs word body x1
    exact .mkFst hx))

theorem execArcRead {t' m' args} (h : Keeps m s t) : KeepsNext m s (Machine.execArcRead t' m' args t) :=
  .next (.mailbox (.advance h) (fun _ hx => by
    extract_lets st want got more next body x1
    split
    · exact .mkFst hx
    · split
      · exact .mkFst hx
      · split
        · exact .mkFst hx
        · exact .mkFst hx))

theorem execArcAnchor {t' m'} (h : Keeps m s t) : KeepsNext m s (Machine.execArcAnchor t' m' t) :=
  .next (.mailbox (.advance h) (fun _ hx => by
    extract_lets obj body x1
    exact .mkFst hx))

theorem execArcInit {t' m' serial} (h : Keeps m s t) : KeepsNext m s (Machine.execArcInit t' m' serial t) :=
  .next (.mailbox (.advance h) (fun _ hx => by
    split
    · exact .mkFst hx
    · split
      · exact .mkFst hx
      · exact .mkFst (.initArchive hx)))

end KeepsNext

namespace Keeps

variable {m : Bool} {s t u : State}

theorem produceDigest {c frame mtime rec'} (h : Keeps m s t) : Keeps m s (t.produceDigest c frame mtime rec') := by
  unfold State.produceDigest
  extract_lets d s1 s2
  have hs1 : Keeps m s s1 := .modPic h
  have hs2 : Keeps m s s2 := .foldl hs1 (fun _ _ hx => .wr hx)
  exact .takeDigest (.wr hs2)

theorem closeDigest {c f fl} (h : Keeps m s t) : Keeps m s (t.closeDigest c f fl) :=
  .ite h (by
    extract_lets n flags aux
    exact .produceDigest h)

theorem heldDigest {c h' w f} (h : Keeps m s t) : Keeps m s (t.heldDigest c h' w f) :=
  .ite h (by
    extract_lets fl flags
    exact .produceDigest h)

theorem endInterval {c h' w} (h : Keeps m s t) : Keeps m s (t.endInterval c h' w) := .modPic h

theorem heldRecord {c upto} (h : Keeps m s t) : Keeps m s (t.heldRecord c upto) := by
  unfold State.heldRecord
  split
  · exact h
  · exact .ite h (.heldDigest (.modPic h))

theorem pairFrame {c num} (h : Keeps m s t) : Keeps m s (t.pairFrame c num) := .ite h (.checkLockstep (.modPar h))

theorem allHeldOff (h : Keeps true s t) : Keeps true s t.allHeldOff := .ite (.keepDomains h) h

theorem closeFrame {c f} (h : Keeps true s t) : Keeps true s (t.closeFrame c f) := by
  unfold State.closeFrame
  extract_lets src fl s1 s2 s3 s4
  have hs1 : Keeps true s s1 := .modPic h
  have hs2 : Keeps true s s2 := .wrb (.wr hs1)
  have hs3 : Keeps true s s3 := .pairFrame (.heldRecord (.closeDigest (.heldRecord hs2)))
  have hs4 : Keeps true s s4 := .finishSamples hs3
  split
  · exact .ite hs4 (.allHeldOff (.modPic hs4))
  · exact hs4

theorem closeAll {c} (h : Keeps true s t) : Keeps true s (t.closeAll c) := .heldRecord (.foldl h (fun _ _ hx => .closeFrame hx))

theorem sendMark {c} (h : Keeps m s t) : Keeps m s (t.sendMark c) := .ite (.sendTransit h) h

theorem resetBands {c first last place hold pid} (h : Keeps m s t) : Keeps m s (t.resetBands c first last place hold pid) :=
  .ite h (by
    extract_lets rep q s1
    have hs1 : Keeps m s s1 := .sendCommand h
    exact .ite hs1 (.modTri hs1))

theorem resetOff {c} (h : Keeps m s t) : Keeps m s (t.resetOff c) := .resetBands h

theorem settleBlocks {c pid first last key} (h : Keeps m s t) : Keeps m s (t.settleBlocks c pid first last key).2 := by
  unfold State.settleBlocks
  extract_lets at' mine all bad path g rows s1
  have hs1 : Keeps m s s1 := .countPathPlane (.modTri h)
  exact .mkSnd (.foldl hs1 (fun _ _ hx => .report (.bump (.flagBy hx))))

theorem resetPlane {c f first last hold ent} (h : Keeps m s t) : Keeps m s (t.resetPlane c f first last hold ent).2 := by
  unfold State.resetPlane
  split
  · exact .mkSnd (.resetBands h)
  · extract_lets p pid seg s1
    have hs1 : Keeps m s s1 := .resetBands h
    split
    · exact .mkSnd hs1
    · exact .settleBlocks hs1

theorem lensFall {c} (h : Keeps m s t) : Keeps m s (t.lensFall c) := .foldl h (fun _ _ hx => .setLenAt hx)

theorem lensRise {c} (h : Keeps m s t) : Keeps m s (t.lensRise c) := by
  unfold State.lensRise
  extract_lets p
  exact .foldl h (fun _ _ hx => .ite (.modChan hx) (.ite (.setLenAt hx) hx))

theorem placeDiag {c k} (h : Keeps m s t) : Keeps m s (t.placeDiag c k) := by
  unfold State.placeDiag
  extract_lets i code at' taken s1 s2
  have hs1 : Keeps m s s1 := .violate h
  have hs2 : Keeps m s s2 := .modChan hs1
  exact .ite hs2 (.emit (.emit (.emit hs2)))

theorem dumpDiags {c n f} (h : Keeps m s t) : Keeps m s (t.dumpDiags c n f) := by
  unfold State.dumpDiags
  extract_lets short was s1 s2
  have hs1 : Keeps m s s1 := .wrb h
  have hs2 : Keeps m s s2 := .ite hs1 (by
      split
      · exact .report hs1
      · exact hs1)
  exact .ite hs2 (.foldl hs2 (fun _ _ hx => .placeDiag hx))

theorem endAsupp {c f} (h : Keeps m s t) : Keeps m s (t.endAsupp c f) := by
  unfold State.endAsupp
  extract_lets s1
  have hs1 : Keeps m s s1 := .modChr h
  exact .ite (.wr hs1) hs1

theorem suppress {c f} (h : Keeps m s t) : Keeps m s (t.suppress c f) := by
  unfold State.suppress
  extract_lets n s1
  have hs1 : Keeps m s s1 := by
    simp only [s1]
    split
    · exact .ite h (.report (.wr h))
    · exact h
  exact .ite hs1 (.modFrame (.bump hs1))

theorem frameTiming {c f} (h : Keeps m s t) : Keeps m s (t.frameTiming c f) := by
  unfold State.frameTiming
  extract_lets k s1 r s2 next g
  have hs1 : Keeps m s s1 := .ite h (.wr h)
  have hs2 : Keeps m s s2 := .wrI (.modChr (.nextAdj hs1))
  exact .expectMeridian hs2

theorem idleLanes {c} (h : Keeps m s t) : Keeps m s (t.idleLanes c) :=
  .ite h (by
    extract_lets s1
    have hs1 : Keeps m s s1 := .wr (.modTri h)
    exact .ite hs1 (.foldl hs1 (fun _ _ hx => .emit hx)))

theorem heldAtF {c n} (h : Keeps true s t) : Keeps true s (t.heldAtF c n) := by
  unfold State.heldAtF
  split
  · exact h
  · exact .ite h (by
      extract_lets s1 s2
      have hs1 : Keeps true s s1 := .idleLanes (.wr (.wr (.wr h)))
      have hs2 : Keeps true s s2 := .report hs1
      exact .ite (.keepDomains hs2) hs2)

theorem compareVerdicts {c} (h : Keeps m s t) : Keeps m s (t.compareVerdicts c) :=
  .ite h (.foldl h (fun _ _ hx => by
    split
    · exact hx
    · exact .report (.modChan hx)))

theorem frameStart {c n} (h : Keeps true s t) : Keeps true s (t.frameStart c n) := by
  unfold State.frameStart
  extract_lets s1
  have hs1 : Keeps true s s1 := .wr h
  split
  · exact hs1
  · extract_lets s2 s3 s4 s5 s6
    have hs2 : Keeps true s s2 := .sendMark (.heldAtF (.frameTiming hs1))
    have hs3 : Keeps true s s3 := .modLight (.takeCalibration (.lensFall hs2))
    have hs4 : Keeps true s s4 := .endAsupp (.resetOff hs3)
    have hs5 : Keeps true s s5 := .wr (.wr (.wr hs4))
    have hs6 : Keeps true s s6 := .quietInterval hs5
    exact .strobe (.compareVerdicts (.dumpDiags hs6))

theorem nameBanks {c} (h : Keeps m s t) : Keeps m s (t.nameBanks c) :=
  .ite h (.foldl h (fun _ _ hx => by
    extract_lets k
    exact .ite (.selectStandby hx) hx))

theorem leaveHeld {c n} (h : Keeps m s t) : Keeps m s (t.leaveHeld c n) := by
  unfold State.leaveHeld
  split
  · exact h
  · exact .ite h (by
      extract_lets s1 s2 w s3
      have hs1 : Keeps m s s1 := .modPic (.modChr h)
      have hs2 : Keeps m s s2 := .applyHeldFlags (.wr hs1)
      have hs3 : Keeps m s s3 := .report hs2
      exact .ite hs3 (.report (.bump hs3)))

theorem notePicture {c} (h : Keeps m s t) : Keeps m s (t.notePicture c) :=
  .ite h (by
    extract_lets x
    exact .wr (.update h))

theorem segmentBanks {c n} (h : Keeps m s t) : Keeps m s (t.segmentBanks c n) := by
  unfold State.segmentBanks
  extract_lets was s1 s2
  have hs1 : Keeps m s s1 := .tearUnlit (.lightBanks (.nameBanks h))
  have hs2 : Keeps m s s2 := .foldl hs1 (fun _ _ hx => by
      split
      · exact .modSlot hx
      · exact hx)
  exact .updateCeiling hs2

theorem endSegment {c f} (h : Keeps m s t) : Keeps m s (t.endSegment c f) :=
  .ite h (by
    extract_lets p frac at'
    exact .ite h (.modHel h))

theorem segmentStart {c f prim body} (h : Keeps m s t) : Keeps m s (t.segmentStart c f prim body) := by
  unfold State.segmentStart
  extract_lets n s1 s2 s3 p locked s4 s5 b s6 l s7
  have hs1 : Keeps m s s1 := .endSegment (.foldl h (fun _ _ hx => .endDiag hx))
  have hs2 : Keeps m s s2 := .ite (.noteWear (.notePicture (.leaveHeld hs1))) hs1
  have hs3 : Keeps m s s3 := .modChr (.takeCalibration (.lensFall hs2))
  have hs4 : Keeps m s s4 := .segmentBanks (.modLight hs3)
  have hs5 : Keeps m s s5 := .modLight hs4
  have hs6 : Keeps m s s6 := .foldl hs5 (fun _ _ hx => .resetPlane hx)
  have hs7 : Keeps m s s7 := .cascadeStrobe (.quietInterval (.sendMark hs6))
  exact .strobe (.noteTonly hs7)

theorem stopAt {c n} (h : Keeps m s t) : Keeps m s (t.stopAt c n) := by
  unfold State.stopAt
  extract_lets x x1 gone s1 s2 s3
  have hs1 : Keeps m s s1 := .modPic h
  have hs2 : Keeps m s s2 := .modChr hs1
  have hs3 : Keeps m s s3 := .lensLow (.modPic (.wr (.wr hs2)))
  exact .darken hs3

theorem landIf {c n} (h : Keeps m s t) : Keeps m s (t.landIf c n) := by
  unfold State.landIf
  extract_lets r
  exact .ite (.leaveFallback (.landCommit (.commitLands (.secondWaits h)))) (.commitLands (.secondWaits h))

theorem heldFade {c} (h : Keeps m s t) : Keeps m s (t.heldFade c) := by
  unfold State.heldFade
  extract_lets s1 n d
  have hs1 : Keeps m s s1 := .fadeStep h
  exact .modChr hs1

theorem heldMeridian {c} (h : Keeps m s t) : Keeps m s (t.heldMeridian c) := by
  unfold State.heldMeridian
  extract_lets s1
  have hs1 : Keeps m s s1 := .heldFade (.heldDeadline (.psrLayers (.applyPending (.lockUpdate (.countMeridian h)))))
  exact .ite hs1 (.modChr hs1)

theorem freshMeridian {c n} (h : Keeps m s t) : Keeps m s (t.freshMeridian c n) := by
  unfold State.freshMeridian
  split
  · exact h
  · exact .ite h (by
      extract_lets s1
      have hs1 : Keeps m s s1 := .applyHeldFlags (.heldRecord (.endInterval h))
      exact .modChr hs1)

theorem runMeridian {c} (h : Keeps true s t) : Keeps true s (t.runMeridian c) := by
  unfold State.runMeridian
  extract_lets awake corr s1 n s2 s3
  have hs1 : Keeps true s s1 := .lockUpdate (.countMeridian h)
  have hs2 : Keeps true s s2 := .landIf (.enterFallback (.rememberLayers (.freshMeridian hs1)))
  have hs3 : Keeps true s s3 := .noteTonly (.applyReaffirms hs2)
  exact .ite (.heldMeridian h) (.ite (.stopAt (.latchCorr hs2)) (.ite (.enterHeld hs3) (.runFrame hs3)))

theorem firstMeridian {c} (h : Keeps true s t) : Keeps true s (t.firstMeridian c) := by
  unfold State.firstMeridian
  extract_lets s1 corr s2 n s3 s4 s5
  have hs1 : Keeps true s s1 := .modChr h
  have hs2 : Keeps true s s2 := .countMeridian hs1
  have hs3 : Keeps true s s3 := .landCommit (.enterFallback (.rememberLayers hs2))
  have hs4 : Keeps true s s4 := .modPic (.leaveFallback hs3)
  have hs5 : Keeps true s s5 := .ite hs4 (.startFade hs4)
  exact .runFrame (.noteTonly (.applyReaffirms hs5))

theorem lastMeridian {c} (h : Keeps m s t) : Keeps m s (t.lastMeridian c) := by
  unfold State.lastMeridian
  extract_lets corr s1
  have hs1 : Keeps m s s1 := .countMeridian h
  exact .modChr (.latchCorr (.landIf hs1))

theorem takesNumber {c} (h : Keeps m s t) : Keeps m s (t.takesNumber c) := by
  unfold State.takesNumber
  split
  · exact .ite (.wr h) h
  · exact h

theorem meridianOf {c} (h : Keeps true s t) : Keeps true s (t.meridianOf c) := .ite (.lastMeridian (.takesNumber h)) (.ite h (.ite
    (.runMeridian (.takesNumber h)) (.ite (.ite (.modChr h) (.firstMeridian (.takesNumber h))) h)))

theorem followMeridian {c d} (h : Keeps true s t) : Keeps true s (t.followMeridian c d) := .ite h (.meridianOf h)

theorem aPlaneReset {c f first last e} (h : Keeps m s t) : Keeps m s (t.aPlaneReset c f first last e) := by
  unfold State.aPlaneReset
  extract_lets s1 r s2 n s3
  have hs1 : Keeps m s s1 := .takeCalibration (.lensFall h)
  have hs2 : Keeps m s s2 := .modLight (.resetPlane hs1)
  have hs3 : Keeps m s s3 := .ite hs2 (.report (.flagBy hs2))
  exact .strobe (.cascadeStrobe (.quietInterval hs3))

theorem resumeLanes {c} (h : Keeps m s t) : Keeps m s (t.resumeLanes c) :=
  .ite h (by
    extract_lets s1
    have hs1 : Keeps m s s1 := .modTri h
    exact .ite hs1 (.foldl hs1 (fun _ _ hx => .emit hx)))

end Keeps

namespace KeepsNext

variable {m : Bool} {s t u : State}

theorem execMeridian {t' c} (h : Keeps true s t) : KeepsNext true s (Machine.execMeridian t' c t) := by
  unfold Machine.execMeridian
  extract_lets s1 follows n s2
  have hs1 : Keeps true s s1 := .advance h
  have hs2 : Keeps true s s2 := .meridianOf hs1
  exact .ite (.next hs1) (.next (.ite hs2 (.foldl hs2 (fun _ _ hx => .followMeridian hx))))

theorem execCommitRequest {t' c} (h : Keeps m s t) : KeepsNext m s (Machine.execCommitRequest t' c t) := by
  unfold Machine.execCommitRequest
  extract_lets s1
  have hs1 : Keeps m s s1 := .advance h
  exact .next (.ite (.requestCommit hs1) hs1)

theorem execCommitCancel {t' c} (h : Keeps m s t) : KeepsNext m s (Machine.execCommitCancel t' c t) := by
  unfold Machine.execCommitCancel
  extract_lets s1
  have hs1 : Keeps m s s1 := .advance h
  exact .next (.ite (.cancelCommit hs1) hs1)

theorem execFrameStart {t' c} (h : Keeps true s t) : KeepsNext true s (Machine.execFrameStart t' c t) := by
  unfold Machine.execFrameStart
  extract_lets s1
  have hs1 : Keeps true s s1 := .advance h
  split
  · exact .next (.ite (.frameStart hs1) hs1)
  · exact .next hs1

theorem execSegmentStart {t' c} (h : Keeps m s t) : KeepsNext m s (Machine.execSegmentStart t' c t) := by
  unfold Machine.execSegmentStart
  extract_lets s1
  have hs1 : Keeps m s s1 := .advance h
  split
  · exact .next hs1
  · split
    · exact .next (.ite (.segmentStart hs1) hs1)
    · exact .next hs1

theorem execPlaneReset {t' c first last ent} (h : Keeps m s t) : KeepsNext m s (Machine.execPlaneReset t' c first last ent t) := by
  unfold Machine.execPlaneReset
  extract_lets s1 s2
  have hs1 : Keeps m s s1 := .advance h
  have hs2 : Keeps m s s2 := .sendMark hs1
  split
  · exact .next hs1
  · exact .ite (.next hs1) (by
      split
      · exact .next (.aPlaneReset hs2)
      · exact .next (.takeCalibration (.resetPlane hs2)))

theorem execSettleComplete {t' c first ent} (h : Keeps m s t) : KeepsNext m s (Machine.execSettleComplete t' c first ent t) := by
  unfold Machine.execSettleComplete
  extract_lets s1 a
  have hs1 : Keeps m s s1 := .advance h
  split
  · exact .next hs1
  · exact .ite (.next hs1) (by
      extract_lets r due lit s2
      have hs2 : Keeps m s s2 := .ite (.lensRise hs1) hs1
      exact .ite (.next hs1) (by
          split
          · exact .next (.ite (.strobe hs2) hs2)
          · exact .next hs2))

theorem execAWindowStart {t' c} (h : Keeps m s t) : KeepsNext m s (Machine.execAWindowStart t' c t) := by
  unfold Machine.execAWindowStart
  extract_lets s1 s2
  have hs1 : Keeps m s s1 := .advance h
  have hs2 : Keeps m s s2 := .noteTonly (.modLight (.lensFall hs1))
  split
  · exact .next hs1
  · exact .ite (.next hs1) (.next (.suppress hs2))

theorem execTailStart {t' c} (h : Keeps m s t) : KeepsNext m s (Machine.execTailStart t' c t) := by
  unfold Machine.execTailStart
  extract_lets s1 s2 s3
  have hs1 : Keeps m s s1 := .advance h
  have hs2 : Keeps m s s2 := by
    simp only [s2]
    split
    · exact .endSegment hs1
    · exact hs1
  have hs3 : Keeps m s s3 := .modLight (.takeCalibration (.lensFall hs2))
  exact .ite (.next hs1) (.next (.quietInterval (.resetOff (.sendMark hs3))))

theorem execFrameClose {t' c} (h : Keeps true s t) : KeepsNext true s (Machine.execFrameClose t' c t) := by
  unfold Machine.execFrameClose
  extract_lets s1
  have hs1 : Keeps true s s1 := .advance h
  split
  · exact .next (.ite hs1 (.heldRecord hs1))
  · exact .next (.ite (.closeFrame hs1) hs1)

theorem execHeldWake {t' c} (h : Keeps m s t) : KeepsNext m s (Machine.execHeldWake t' c t) := by
  unfold Machine.execHeldWake
  extract_lets s1 scrub s2
  have hs1 : Keeps m s s1 := .advance h
  have hs2 : Keeps m s s2 := .resumeLanes (.powerOn hs1)
  split
  · exact .next hs1
  · exact .next (.foldl hs2 (fun _ _ hx1 => .wakePc hx1))

end KeepsNext

namespace Keeps

variable {m : Bool} {s t u : State}

theorem readyBand {c d} (h : Keeps m s t) : Keeps m s (t.readyBand c d) := .modTri h

theorem recomputeBand {c f p j b plateBad} (h : Keeps m s t) : Keeps m s (t.recomputeBand c f p j b plateBad).2 := by
  unfold State.recomputeBand
  extract_lets rows nums other s1 s2 s21
  have hs1 : Keeps m s s1 := .bump (.flagTiles h)
  have hs2 : Keeps m s s2 := .bump (.flagBy hs1)
  have hs21 : Keeps m s s21 := .ite (.flagBy hs1) hs1
  split
  · exact .mkSnd (.reportSub hs2)
  · exact .mkSnd (.reportSub hs21)

theorem modBlock {c seq f} (h : Keeps m s t) : Keeps m s (t.modBlock c seq f) := .modTri h

theorem returnMsg {c type m'} {f : State → State} (h : Keeps m s t) (k : ∀ x, Keeps m s x → Keeps m s (f x)) :
    Keeps m s (t.returnMsg c type m' f) :=
  .ite h (.ite (.bump h) (.ite h (k t h)))

theorem takeStatus {c m'} (h : Keeps m s t) : Keeps m s (t.takeStatus c m') := by
  unfold State.takeStatus
  extract_lets st locks s1 watched bad again s2 s3 s4
  have hs1 : Keeps m s s1 := .wr (.modTri h)
  have hs2 : Keeps m s s2 := .modTri hs1
  have hs3 : Keeps m s s3 := .violate hs2
  have hs4 : Keeps m s s4 := .foldl hs3 (fun _ _ hx => .retireLane hx)
  exact .ite (.returnLaneFault hs4) hs4

theorem linkUp {c r} (h : Keeps m s t) : Keeps m s (t.linkUp c r) := by
  unfold State.linkUp
  extract_lets pass s1 lanes s2 s3 s4 s5 s6 s7 s8
  have hs1 : Keeps m s s1 := .foldl h (fun _ _ hx => by
      extract_lets j s9 s10
      have hs9 : Keeps m s s9 := .wr hx
      have hs10 : Keeps m s s10 := .wr (.wr hs9)
      split
      · exact .setTaps hs10
      · exact hs10)
  have hs2 : Keeps m s s2 := .setActive (.setWorking hs1)
  have hs3 : Keeps m s s3 := .modTri hs2
  have hs4 : Keeps m s s4 := .wr (.wr hs3)
  have hs5 : Keeps m s s5 := .sendDump hs4
  have hs6 : Keeps m s s6 := .ite (.report (.wr hs5)) (.returnLaneFault hs5)
  have hs7 : Keeps m s s7 := .foldl hs6 (fun _ _ hx => .retireLane (.noTapEvent hx))
  have hs8 : Keeps m s s8 := .foldl hs7 (fun _ _ hx => by
      split
      · exact .comparePost hx
      · exact hx)
  exact .almRequest hs8

theorem failBand {c f prim bitn piece band plateBad} (h : Keeps m s t) : Keeps m s (t.failBand c f prim bitn piece band plateBad) := by
  unfold State.failBand
  extract_lets pb s1 r
  have hs1 : Keeps m s s1 := by
    simp only [s1]
    clear_value pb
    split
    · exact .plateFails h
    · exact h
  exact .readyBand (.recomputeBand hs1)

end Keeps

namespace KeepsNext

variable {m : Bool} {s t u : State}

theorem execPlaneBandRead {t' c frame prim bitn piece band bad plate} (h : Keeps true s t) :
    KeepsNext true s (Machine.execPlaneBandRead t' c frame prim bitn piece band bad plate t) := by
  unfold Machine.execPlaneBandRead
  extract_lets s1 stopped first err s2 s3
  have hs1 : Keeps true s s1 := .advance h
  have hs2 : Keeps true s s2 := .ite hs1 (.served (.request hs1))
  have hs3 : Keeps true s s3 := by
    simp only [s3]
    clear_value err
    split
    · exact .detectionError hs2
    · exact hs2
  split
  · exact .next hs1
  · exact .ite (.next hs1) (.ite (.next (.readyBand hs3)) (.next (.failBand hs3)))

theorem execFallbackExtraction {t' c frame prim bitn piece band plateBad} (h : Keeps m s t) :
    KeepsNext m s (Machine.execFallbackExtraction t' c frame prim bitn piece band plateBad t) := by
  unfold Machine.execFallbackExtraction
  extract_lets s1 data
  have hs1 : Keeps m s s1 := .advance h
  split
  · exact .next hs1
  · extract_lets due known err rows
    exact .ite (.next hs1) (by
        clear_value err
        split
        · extract_lets s2 s3 s4 s5
          have hs2 : Keeps m s s2 := .plateFails hs1
          have hs3 : Keeps m s s3 := .modFrame hs2
          have hs4 : Keeps m s s4 := .bump (.flagBy hs3)
          have hs5 : Keeps m s s5 := .reportSub hs4
          exact .next (.readyBand hs5)
        · exact .next (.readyBand hs1))

end KeepsNext

namespace Keeps

variable {m : Bool} {s t u : State}

theorem usePlace {c f seg prim bitn piece wrap band place resetAt} (h : Keeps m s t) :
    Keeps m s (t.usePlace c f seg prim bitn piece wrap band place resetAt) := by
  unfold State.usePlace
  extract_lets off last
  exact .modTri h

end Keeps

namespace KeepsNext

variable {m : Bool} {s t u : State}

theorem execBlockSend {t' c frame seg prim bitn piece wrap band blk resetAt} (h : Keeps m s t) :
    KeepsNext m s (Machine.execBlockSend t' c frame seg prim bitn piece wrap band blk resetAt t) := by
  unfold Machine.execBlockSend
  extract_lets s1 rb r0 cuts last
  have hs1 : Keeps m s s1 := .advance h
  split
  · extract_lets place h1 payload b s2
    have hs2 : Keeps m s s2 := .modTri (.occupyLane (.usePlace hs1))
    exact .ite (.next hs1) (.next hs2)
  · exact .next hs1

theorem execBlockTrailerSent {t' c seq bcrc} (h : Keeps m s t) : KeepsNext m s (Machine.execBlockTrailerSent t' c seq bcrc t) := by
  unfold Machine.execBlockTrailerSent
  extract_lets s1
  have hs1 : Keeps m s s1 := .advance h
  split
  · exact .next hs1
  · exact .ite (.next hs1) (by
      extract_lets own s2 s3
      have hs2 : Keeps m s s2 := .ite (.sendTransit hs1) hs1
      have hs3 : Keeps m s s3 := .mismatch (.modBlock hs2)
      exact .ite (.next (.modBlock hs2)) (.next (.ite (.resendAfter hs3) hs3)))

theorem execEcho {t' c m'} (h : Keeps m s t) : KeepsNext m s (Machine.execEcho t' c m' t) := by
  unfold Machine.execEcho
  extract_lets m1 lane estat seq crc
  exact .next (.returnMsg (.advance h) (fun _ hx => by
      split
      · exact hx
      · extract_lets ok x1 first s1 s2
        have hs1 : Keeps m s s1 := .mismatch (.modBlock hx)
        have hs2 : Keeps m s s2 := .tryVerdict hs1
        exact .ite (.ite hx (.mismatch hx)) (.ite hx (.ite (.tryVerdict (.modBlock hx)) (.ite (.resendAfter hs2) hs2)))))

theorem execEchoTimeout {t' c seq} (h : Keeps m s t) : KeepsNext m s (Machine.execEchoTimeout t' c seq t) := by
  unfold Machine.execEchoTimeout
  extract_lets s1
  have hs1 : Keeps m s s1 := .advance h
  split
  · exact .next hs1
  · exact .ite (.next hs1) (by
      extract_lets s2
      have hs2 : Keeps m s s2 := .mismatch (.modBlock hs1)
      exact .next (.ite (.resendAfter hs2) hs2))

theorem execRsack {t' c m'} (h : Keeps m s t) : KeepsNext m s (Machine.execRsack t' c m' t) := by
  unfold Machine.execRsack
  extract_lets m1 rstat
  exact .next (.returnMsg (.advance h) (fun _ hx => by
      split
      · exact hx
      · exact .ite (.resetFailed hx) (.modTri hx)))

theorem execRsackTimeout {t' c cseq} (h : Keeps m s t) : KeepsNext m s (Machine.execRsackTimeout t' c cseq t) := by
  unfold Machine.execRsackTimeout
  extract_lets s1
  have hs1 : Keeps m s s1 := .advance h
  split
  · exact .next hs1
  · exact .next (.ite hs1 (.resetFailed hs1))

theorem execStatus {t' c m'} (h : Keeps m s t) : KeepsNext m s (Machine.execStatus t' c m' t) := by
  unfold Machine.execStatus
  extract_lets m1
  exact .next (.returnMsg (.advance h) (fun _ hx => .takeStatus hx))

theorem execTemp {t' c m'} (h : Keeps m s t) : KeepsNext m s (Machine.execTemp t' c m' t) := by
  unfold Machine.execTemp
  extract_lets m1
  exact .next (.returnMsg (.advance h) (fun _ hx => .modTri (.wr hx)))

theorem execAlarm {t' c m'} (h : Keeps m s t) : KeepsNext m s (Machine.execAlarm t' c m' t) := by
  unfold Machine.execAlarm
  extract_lets m1 code
  exact .next (.returnMsg (.advance h) (fun _ hx => by
      extract_lets s1
      have hs1 : Keeps m s s1 := .bump hx
      split
      · exact .report hs1
      · exact .returnLaneFault hs1
      · exact hs1))

theorem execIdent0 {t' c m'} (h : Keeps m s t) : KeepsNext m s (Machine.execIdent0 t' c m' t) := by
  unfold Machine.execIdent0
  extract_lets m1
  exact .next (.returnMsg (.advance h) (fun _ hx => .takeIdent0 hx))

theorem execIdent1 {t' c m'} (h : Keeps m s t) : KeepsNext m s (Machine.execIdent1 t' c m' t) := by
  unfold Machine.execIdent1
  extract_lets m1
  exact .next (.returnMsg (.advance h) (fun _ hx => .takeIdent1 hx))

theorem execTrain {t' c m'} (h : Keeps m s t) : KeepsNext m s (Machine.execTrain t' c m' t) := by
  unfold Machine.execTrain
  extract_lets m1 lane v
  exact .next (.returnMsg (.advance h) (fun _ hx => .ite hx (by
      split
      · exact .wr hx
      · extract_lets d f
        exact .wr (.wr (.freeBits (.freeBits hx)))
      · exact .foldl hx (fun _ _ hx1 => .ite (.modEng (.bumpBy hx1)) hx1)
      · exact hx)))

theorem execReturnLaneLockLoss {t' c} (h : Keeps m s t) : KeepsNext m s (Machine.execReturnLaneLockLoss t' c t) := by
  unfold Machine.execReturnLaneLockLoss
  extract_lets s1
  have hs1 : Keeps m s s1 := .advance h
  exact .next (.ite hs1 (.returnLaneFault (.wr hs1)))

theorem execStatusTimeout {t' c} (h : Keeps m s t) : KeepsNext m s (Machine.execStatusTimeout t' c t) := by
  unfold Machine.execStatusTimeout
  extract_lets s1 link
  have hs1 : Keeps m s s1 := .advance h
  exact .next (.ite hs1 (.returnLaneFault hs1))

theorem execLaneRetire {t' c lane} (h : Keeps m s t) : KeepsNext m s (Machine.execLaneRetire t' c lane t) := by
  unfold Machine.execLaneRetire
  extract_lets s1
  have hs1 : Keeps m s s1 := .advance h
  exact .next (.ite hs1 (.retireLane hs1))

theorem execLaneRetrain {t' c} (h : Keeps m s t) : KeepsNext m s (Machine.execLaneRetrain t' c t) := by
  unfold Machine.execLaneRetrain
  extract_lets s1 i
  have hs1 : Keeps m s s1 := .advance h
  exact .next (.ite hs1 (.modTri hs1))

theorem execLaneRetrainDone {t' c taps} (h : Keeps m s t) : KeepsNext m s (Machine.execLaneRetrainDone t' c taps t) := by
  unfold Machine.execLaneRetrainDone
  extract_lets s1 s2
  have hs1 : Keeps m s s1 := .advance h
  have hs2 : Keeps m s s2 := .modTri hs1
  split
  · exact .next hs1
  · exact .ite (.next hs1) (by
      split
      · exact .next (.noTapEvent hs2)
      · extract_lets s3 l s4 s5 s6 s7 s8
        have hs3 : Keeps m s s3 := .setTaps hs2
        have hs4 : Keeps m s s4 := .setWorking hs3
        have hs5 : Keeps m s s5 := .modTri hs4
        have hs6 : Keeps m s s6 := .ite (.setActive hs5) hs5
        have hs7 : Keeps m s s7 := .ite (.wr hs6) hs6
        have hs8 : Keeps m s s8 := .report hs7
        exact .next (.almRequest hs8))

end KeepsNext

namespace Keeps

variable {m : Bool} {s t u : State}

theorem bringUp {c r} (h : Keeps m s t) : Keeps m s (t.bringUp c r) :=
  .ite h (by
    extract_lets s1 s2
    have hs1 : Keeps m s s1 := .wr (.powerOn h)
    have hs2 : Keeps m s s2 := .takeIdent0 (.setWorking (.wr hs1))
    exact .ite (.returnLaneFault hs1) (.ite hs2 (.linkUp (.takeIdent1 hs2))))

end Keeps

namespace KeepsNext

variable {m : Bool} {s t u : State}

theorem execTriocBringup {t' c r} (h : Keeps m s t) : KeepsNext m s (Machine.execTriocBringup t' c r t) := .next (.bringUp (.advance h))

theorem execHbmDetectionError {t' addr reader} (h : Keeps true s t) :
    KeepsNext true s (Machine.execHbmDetectionError t' addr reader t) := by
  unfold Machine.execHbmDetectionError
  extract_lets s1 a
  have hs1 : Keeps true s s1 := .advance h
  exact .next (by
      split
      · extract_lets s2
        have hs2 : Keeps true s s2 := .detectionError hs1
        split
        · exact .ite hs2 (.failBand hs2)
        · exact hs2
      · exact .layerReadError (.detectionError hs1)
      · exact .discardFrame (.detectionError hs1)
      · exact .report2641 (.detectionError hs1)
      · exact .listFailed (.detectionError hs1)
      · exact .meshLoadError (.detectionError hs1)
      · exact .report2641 (.ringError (.detectionError hs1))
      · exact .report2641 (.detectionError hs1))

end KeepsNext

namespace Keeps

variable {m : Bool} {s t u : State}

theorem sendSpi {c p} (h : Keeps m s t) : Keeps m s (t.sendSpi c p) := by
  unfold State.sendSpi
  extract_lets i div n s1
  have hs1 : Keeps m s s1 := .modHel h
  exact .emit hs1

theorem endSpi {c p} (h : Keeps m s t) : Keeps m s (t.endSpi c p) := by
  unfold State.endSpi
  extract_lets was now s1
  have hs1 : Keeps m s s1 := .modHel h
  clear_value was
  clear_value now
  split
  · exact .ite (.sendSpi hs1) hs1
  · exact hs1

theorem rawSpi {c} (h : Keeps m s t) : Keeps m s (t.rawSpi c) :=
  .ite h (by
    extract_lets s1 f
    have hs1 : Keeps m s s1 := .emit h
    exact .wr (.freeBits hs1))

theorem showCs {c p ok} (h : Keeps m s t) : Keeps m s (t.showCs c p ok) := by
  unfold State.showCs
  extract_lets s1
  have hs1 : Keeps m s s1 := .wr h
  exact .wr hs1

theorem csInvalid {c p cause} (h : Keeps m s t) : Keeps m s (t.csInvalid c p cause) := by
  unfold State.csInvalid
  extract_lets n s1 s2 mask
  have hs1 : Keeps m s s1 := .showCs (.modHel h)
  have hs2 : Keeps m s s2 := .modHel hs1
  exact .ite hs1 (.wr (.report hs2))

theorem startTxn {c p} (h : Keeps m s t) : Keeps m s (t.startTxn c p) := by
  unfold State.startTxn
  extract_lets s1 idle s2
  have hs1 : Keeps m s s1 := .ite (.csInvalid (.bump (.endSpi h))) h
  have hs2 : Keeps m s s2 := .modHel hs1
  exact .ite (.sendSpi hs2) hs2

theorem csValid {c p m'} (h : Keeps m s t) : Keeps m s (t.csValid c p m') := by
  unfold State.csValid
  extract_lets s1 s2 s3
  have hs1 : Keeps m s s1 := .showCs (.modHel h)
  have hs2 : Keeps m s s2 := .strobe hs1
  have hs3 : Keeps m s s3 := .wr (.modHel hs2)
  exact .ite hs2 (.report hs3)

end Keeps

namespace KeepsNext

variable {m : Bool} {s t u : State}

theorem execHeliostatSample {t' c i code} (h : Keeps m s t) : KeepsNext m s (Machine.execHeliostatSample t' c i code t) := by
  unfold Machine.execHeliostatSample
  extract_lets s1 j s2
  have hs1 : Keeps m s s1 := .arriveStrobes (.advance h)
  have hs2 : Keeps m s s2 := .flushOut hs1
  exact .ite (.next hs1) (.ite (.next (.overrun hs2)) (.ite (.next hs2) (.next (.acceptSample hs2))))

theorem execSlotOutputWrite {t' c i} (h : Keeps m s t) : KeepsNext m s (Machine.execSlotOutputWrite t' c i t) := by
  unfold Machine.execSlotOutputWrite
  extract_lets s1
  have hs1 : Keeps m s s1 := .advance h
  exact .next (.flushOut hs1)

theorem execSatfaultClear {t' c i} (h : Keeps m s t) : KeepsNext m s (Machine.execSatfaultClear t' c i t) := by
  unfold Machine.execSatfaultClear
  extract_lets s1
  have hs1 : Keeps m s s1 := .advance h
  exact .next (.clearSatfault hs1)

theorem execColourSensorTxn {t' c p} (h : Keeps m s t) : KeepsNext m s (Machine.execColourSensorTxn t' c p t) := by
  unfold Machine.execColourSensorTxn
  extract_lets s1
  have hs1 : Keeps m s s1 := .advance h
  exact .ite (.next hs1) (.next (.foldl hs1 (fun _ _ hx => .startTxn hx)))

theorem execColourResultReady {t' c p data} (h : Keeps m s t) : KeepsNext m s (Machine.execColourResultReady t' c p data t) := by
  unfold Machine.execColourResultReady
  extract_lets s1 i o b word s2 f lit
  have hs1 : Keeps m s s1 := .advance h
  have hs2 : Keeps m s s2 := .wr (.endSpi hs1)
  exact .ite (.next hs1) (.next (by
      split
      · exact .csValid hs2
      · exact .csInvalid hs2))

theorem execPwmPeriod {t' c i} (h : Keeps m s t) : KeepsNext m s (Machine.execPwmPeriod t' c i t) := by
  unfold Machine.execPwmPeriod
  extract_lets s1 j freq s2 drv full duty was s3 f s4
  have hs1 : Keeps m s s1 := .advance h
  have hs2 : Keeps m s s2 := .modHel hs1
  have hs3 : Keeps m s s3 := .wrb (.wr hs2)
  have hs4 : Keeps m s s4 := .ite hs3 (.report (.freeBits hs3))
  exact .ite (.next hs1) (.next (.ite (.emit hs4) hs4))

end KeepsNext

namespace Keeps

variable {m : Bool} {s t u : State}

theorem resetFlds {l} (h : Keeps m s t) : Keeps m s (t.resetFlds l) := .foldl h (fun _ _ hx => .foldl hx (fun _ _ hx1 => .wr hx1))

theorem endpointReset (h : Keeps m s t) : Keeps m s t.endpointReset := by
  unfold State.endpointReset
  extract_lets x
  exact .update (.resetFlds h)

theorem uploadRefused {reason} (h : Keeps m s t) : Keeps m s (t.uploadRefused reason).1 := .mkFst (.wr (.wr (.wr (.wr h))))

theorem uploadPage {u' off data progOk v} (h : Keeps m s t) (e : t.uploadPage u' off data progOk = some v) : Keeps m s v.2.1 := by
  unfold State.uploadPage at e
  split at e
  · obtain rfl := Option.some.inj e
    exact h.wr
  · split at e
    · obtain rfl := Option.some.inj e
      exact h
    · split at e
      · exact nomatch e
      · split at e
        · obtain rfl := Option.some.inj e
          exact .uploadRefused h
        · obtain rfl := Option.some.inj e
          exact h

end Keeps

namespace KeepsNext

variable {m : Bool} {s t u : State}

theorem execPcieReset {t' kind} (h : Keeps m s t) : KeepsNext m s (Machine.execPcieReset t' kind t) := .next (.report (.endpointReset
    (.advance h)))

theorem execPcieLinkLoss {t'} (h : Keeps m s t) : KeepsNext m s (Machine.execPcieLinkLoss t' t) := by
  unfold Machine.execPcieLinkLoss
  extract_lets s1 items
  have hs1 : Keeps m s s1 := .advance h
  exact .ite (.next hs1) (.next (.report (.wr (.endpointReset hs1))))

theorem execPcieLinkUp {t' speed width} (h : Keeps m s t) : KeepsNext m s (Machine.execPcieLinkUp t' speed width t) := by
  unfold Machine.execPcieLinkUp
  extract_lets s1 s2
  have hs1 : Keeps m s s1 := .advance h
  have hs2 : Keeps m s s2 := .wr (.wr (.wr hs1))
  exact .ite (.next hs1) (.next (.report hs2))

theorem execPcieConfigWrite {t' w} (h : Keeps m s t) : KeepsNext m s (Machine.execPcieConfigWrite t' w t) := by
  unfold Machine.execPcieConfigWrite
  extract_lets s1 x pend s2
  have hs1 : Keeps m s s1 := .advance h
  have hs2 : Keeps m s s2 := .update hs1
  split
  · exact .next (.update hs1)
  · exact .next (.update hs1)
  · exact .next (.update hs1)
  · exact .next (.update hs1)
  · exact .next (.foldl hs2 (fun _ _ hx1 => .ite (.signal hx1) hx1))

theorem execEvrModerationTimeout {t'} (h : Keeps m s t) : KeepsNext m s (Machine.execEvrModerationTimeout t' t) := by
  unfold Machine.execEvrModerationTimeout
  extract_lets s1
  have hs1 : Keeps m s s1 := .advance h
  split
  · exact .next (.ite (.evrSignal hs1) hs1)
  · exact .next hs1

theorem execVersion {t' m'} (h : Keeps m s t) : KeepsNext m s (Machine.execVersion t' m' t) :=
  .next (.mailbox (.advance h) (fun _ hx => by
    extract_lets fw cap x1
    exact .mkFst (.freeBits hx)))

theorem execFwUpdateBegin {t' m' length} (h : Keeps m s t) : KeepsNext m s (Machine.execFwUpdateBegin t' m' length t) :=
  .next (.mailbox (.advance h) (fun _ hx => by
    split
    · exact .mkFst hx
    · extract_lets i x1
      exact .mkFst (.update hx)))

theorem execFwUpdatePage {t' m' off data progOk} (h : Keeps m s t) :
    KeepsNext m s (Machine.execFwUpdatePage t' m' off data progOk t) := by
  refine .next (.mailbox (.advance h) fun x hx => ?_)
  split
  · exact .uploadRefused hx
  · split
    · rename_i e
      exact .mkFst (.update (hx.uploadPage e))
    · exact .uploadRefused hx

theorem execFwUpdateEnd {t' m' copy} (h : Keeps m s t) : KeepsNext m s (Machine.execFwUpdateEnd t' m' copy t) :=
  .next (.mailbox (.advance h) (fun _ hx => by
    split
    · exact .uploadRefused hx
    · split
      · exact .uploadRefused hx
      · extract_lets i x1 s1 x2
        have hs1 : Keeps m s s1 := .update hx
        exact .mkFst (.report hs1)))

theorem execFlashEraseDone {t' firmware} (h : Keeps m s t) : KeepsNext m s (Machine.execFlashEraseDone t' firmware t) := by
  unfold Machine.execFlashEraseDone
  extract_lets s1 done x
  have hs1 : Keeps m s s1 := .advance h
  exact .next (.update hs1)

theorem execTagRead {t' m' path} (h : Keeps m s t) : KeepsNext m s (Machine.execTagRead t' m' path t) :=
  .next (.mailbox (.advance h) (fun _ hx => by
    split
    · exact .mkFst hx
    · exact .mkFst hx))

theorem execTagWrite {t' m' path data} (h : Keeps m s t) : KeepsNext m s (Machine.execTagWrite t' m' path data t) := .next (.mailbox
    (.advance h) (fun _ hx => .writeTag hx))

theorem execTelemetry {t' m'} (h : Keeps m s t) : KeepsNext m s (Machine.execTelemetry t' m' t) :=
  .next (.mailbox (.advance h) (fun _ hx => by
    split
    · exact .mkFst (.wr hx)
    · extract_lets page x1
      exact .mkFst hx))

end KeepsNext

namespace Keeps

variable {m : Bool} {s t u : State}

theorem smbIgnored {cmd cause} (h : Keeps m s t) : Keeps m s (t.smbIgnored cmd cause) := .report h

end Keeps

namespace KeepsNext

variable {m : Bool} {s t u : State}

theorem execSmbusStatusRead {t' write} (h : Keeps m s t) : KeepsNext m s (Machine.execSmbusStatusRead t' write t) := by
  unfold Machine.execSmbusStatusRead
  extract_lets s1
  have hs1 : Keeps m s s1 := .advance h
  exact .ite (.next hs1) (.next (.ite (.smbIgnored hs1) (.emit hs1)))

theorem execSmbusTagRead {t' i write} (h : Keeps m s t) : KeepsNext m s (Machine.execSmbusTagRead t' i write t) := by
  unfold Machine.execSmbusTagRead
  extract_lets s1
  have hs1 : Keeps m s s1 := .advance h
  exact .ite (.next hs1) (.next (.ite (.smbIgnored hs1) (.emit hs1)))

theorem execUartReceive {t' byte} (h : Keeps m s t) : KeepsNext m s (Machine.execUartReceive t' byte t) := by
  unfold Machine.execUartReceive
  extract_lets s1
  have hs1 : Keeps m s s1 := .advance h
  exact .next (.ite (.emit hs1) hs1)

end KeepsNext

namespace Keeps

variable {m : Bool} {s t u : State}

theorem patternBad {c k rng} (h : Keeps m s t) : Keeps m s (t.patternBad c k rng) := by
  unfold State.patternBad
  extract_lets code s1 s2 s3
  have hs1 : Keeps m s s1 := .reportSub (.bump h)
  have hs2 : Keeps m s s2 := .modChan h
  have hs3 : Keeps m s s3 := .modLight hs2
  exact .ite (.channelFault hs1) (.report (.bump (.showPend hs3)))

theorem windowFault {c k pd vstr ve miss rng} (h : Keeps m s t) : Keeps m s (t.windowFault c k pd vstr ve miss rng).2 := by
  unfold State.windowFault
  extract_lets x step comp sh mi again pa s1
  have hs1 : Keeps m s s1 := .modChan h
  exact .mkSnd hs1

theorem faultEvent {c k cause pd expd vstr ve diag} (h : Keeps m s t) : Keeps m s (t.faultEvent c k cause pd expd vstr ve diag) := by
  unfold State.faultEvent
  extract_lets i f
  split
  · exact .report h
  · exact .report h
  · exact .report h
  · exact h

theorem judgeWindow {c k pd vstr last} (h : Keeps m s t) : Keeps m s (t.judgeWindow c k pd vstr last) := by
  unfold State.judgeWindow
  extract_lets i x diag s1 hi1 expd miss rng check due ve off s2 v st s3
  have hs1 : Keeps m s s1 := .wr h
  have hs2 : Keeps m s s2 := .ite (.modChan hs1) hs1
  have hs3 : Keeps m s s3 := .cutDiag (.modChan (.windowFault hs2))
  split
  · exact .ite hs1 (.searchJudge hs1)
  · exact .ite hs1 (.ite (.patternBad hs1) (by
      split
      · exact .ite (.diagPass (.windowFault hs2)) (.windowFault hs2)
      · exact .ite (.modChan hs3) (.ite (.modChan hs3) (.ite (.patternBad hs3) (.channelFault (.faultEvent hs3))))))

theorem tsenValidity {c i raw ok} (h : Keeps m s t) : Keeps m s (t.tsenValidity c i raw ok) := by
  unfold State.tsenValidity
  extract_lets was s1
  have hs1 : Keeps m s s1 := .wrb (.modLight h)
  exact .ite (.report hs1) hs1

theorem bankTemp {c k t'} (h : Keeps m s t) : Keeps m s (t.bankTemp c k t') := by
  unfold State.bankTemp
  extract_lets i knee cut s1 x st
  have hs1 : Keeps m s s1 := .ite (.report (.modChan h)) (.ite (.report (.modChan h)) h)
  exact .ite (.channelFault (.report hs1)) hs1

end Keeps

namespace KeepsNext

variable {m : Bool} {s t u : State}

theorem execInterlockTrip {t' c} (h : Keeps m s t) : KeepsNext m s (Machine.execInterlockTrip t' c t) := by
  unfold Machine.execInterlockTrip
  extract_lets s1 s2 was s3
  have hs1 : Keeps m s s1 := .advance h
  have hs2 : Keeps m s s2 := .wr (.modLight hs1)
  have hs3 : Keeps m s s3 := .lightGoesOff (.wr hs2)
  exact .ite (.next hs2) (.next (.ite hs3 (.report (.bump hs3))))

theorem execInterlockRearm {t' c high} (h : Keeps m s t) : KeepsNext m s (Machine.execInterlockRearm t' c high t) := by
  unfold Machine.execInterlockRearm
  extract_lets s1 s2 s3 s4
  have hs1 : Keeps m s s1 := .advance h
  have hs2 : Keeps m s s2 := .wrb (.modLight hs1)
  have hs3 : Keeps m s s3 := .showOut (.wr hs2)
  have hs4 : Keeps m s s4 := .ite hs3 (.startFade hs3)
  exact .ite (.next hs2) (.next (.report hs4))

theorem execOutputStop {t' c} (h : Keeps m s t) : KeepsNext m s (Machine.execOutputStop t' c t) := by
  unfold Machine.execOutputStop
  extract_lets s1
  have hs1 : Keeps m s s1 := .advance h
  exact .next (.ite hs1 (.beginStop hs1))

theorem execOutputRearm {t' c} (h : Keeps m s t) : KeepsNext m s (Machine.execOutputRearm t' c t) := by
  unfold Machine.execOutputRearm
  extract_lets s1 stopped policy s2 s3
  have hs1 : Keeps m s s1 := .advance h
  have hs2 : Keeps m s s2 := .fillPrimaries (.wr (.modLight hs1))
  have hs3 : Keeps m s s3 := .showOut hs2
  exact .ite (.next hs1) (.next (.ite hs3 (.startFade hs3)))

theorem execChannelRearm {t' c k} (h : Keeps m s t) : KeepsNext m s (Machine.execChannelRearm t' c k t) := by
  unfold Machine.execChannelRearm
  extract_lets s1 i j hot w s2
  have hs1 : Keeps m s s1 := .advance h
  have hs2 : Keeps m s s2 := .askRun (.modChan hs1)
  exact .next (.ite hs1 (.ite hs2 (.wantPatterns hs2)))

theorem execDiagnow {t' c k} (h : Keeps m s t) : KeepsNext m s (Machine.execDiagnow t' c k t) := .next (.modChan (.advance h))

theorem execThermistorSample {t' c i raw temp} (h : Keeps m s t) : KeepsNext m s (Machine.execThermistorSample t' c i raw temp t) := by
  unfold Machine.execThermistorSample
  extract_lets s1 ok s2 s3 mine s4 s5
  have hs1 : Keeps m s s1 := .advance h
  have hs2 : Keeps m s s2 := .tsenValidity (.wrI hs1)
  have hs3 : Keeps m s s3 := .ite (.modLight hs2) hs2
  have hs4 : Keeps m s s4 := .strobe hs3
  have hs5 : Keeps m s s5 := .ite (.foldl hs4 (fun _ _ hx => .bankTemp hx)) hs4
  exact .ite (.next hs1) (.next (.updateCeiling hs5))

theorem execLampFrameSend {t' c high} (h : Keeps m s t) : KeepsNext m s (Machine.execLampFrameSend t' c high t) := by
  unfold Machine.execLampFrameSend
  extract_lets s1 l pat seq only ld s2 s3 s4
  have hs1 : Keeps m s s1 := .advance h
  have hs2 : Keeps m s s2 := .violate hs1
  have hs3 : Keeps m s s3 := .modLight hs2
  have hs4 : Keeps m s s4 := .showPend (.wr (.wr hs3))
  exact .ite (.next hs1) (.next (.ite (.emit hs4) hs4))

theorem execFaultWindow {t' c k pd vstr last} (h : Keeps m s t) : KeepsNext m s (Machine.execFaultWindow t' c k pd vstr last t) := by
  unfold Machine.execFaultWindow
  extract_lets s1 x chopped s2
  have hs1 : Keeps m s s1 := .advance h
  have hs2 : Keeps m s s2 := .judgeWindow hs1
  exact .ite (.next hs1) (.next (.ite (.endDiag hs2) hs2))

theorem execWearRotation {t' c} (h : Keeps m s t) : KeepsNext m s (Machine.execWearRotation t' c t) := by
  unfold Machine.execWearRotation
  extract_lets s1 n busy s2 s3
  have hs1 : Keeps m s s1 := .advance h
  have hs2 : Keeps m s s2 := .modLight hs1
  have hs3 : Keeps m s s3 := .wr hs2
  exact .ite (.next hs1) (.ite (.next (.bump (.wr hs2))) (.next (.foldl hs3 (fun _ _ hx => by
      extract_lets i lo s4
      have hs4 : Keeps m s s4 := .modLight (.modChan hx)
      exact .ite hx (.wantPatterns hs4)))))

end KeepsNext

namespace Keeps

variable {m : Bool} {s t u : State}

theorem reject {r source} (h : Keeps m s t) : Keeps m s (t.reject r source) := by
  unfold State.reject
  extract_lets s1
  have hs1 : Keeps m s s1 := .wr (.wr (.wr h))
  exact .report (.wr hs1)

theorem transitRecv {f : State → State} (h : Keeps m s t) (k : ∀ x, Keeps m s x → Keeps m s (f x)) : Keeps m s (t.transitRecv f) :=
  .ite (k t h) h

theorem yieldAtStart (h : Keeps m s t) : Keeps m s t.yieldAtStart := .ite (.updateReady (.wr h)) h

theorem transitDown (h : Keeps m s t) : Keeps m s t.transitDown := by
  unfold State.transitDown
  extract_lets s1
  have hs1 : Keeps m s s1 := .modPar h
  exact .updateReady (.endLockstep (.heartbeatLost (.report hs1)))

end Keeps

namespace KeepsNext

variable {m : Bool} {s t u : State}

theorem execHb {t' role sel lockstep ready classX handover} (h : Keeps m s t) :
    KeepsNext m s (Machine.execHb t' role sel lockstep ready classX handover t) :=
  .next (.transitRecv (.advance h) (fun _ hx => by
    extract_lets x1 s1 s2
    have hs1 : Keeps m s s1 := .modPar hx
    have hs2 : Keeps m s s2 := .yieldAtStart (.wr hs1)
    exact .ite (.takeOver hs2) (.ite (.takeOver hs2) hs2)))

theorem execHbSend {t'} (h : Keeps m s t) : KeepsNext m s (Machine.execHbSend t' t) := by
  unfold Machine.execHbSend
  extract_lets s1
  have hs1 : Keeps m s s1 := .advance h
  exact .next (.sendTransit hs1)

theorem execHeartbeatLoss {t'} (h : Keeps m s t) : KeepsNext m s (Machine.execHeartbeatLoss t' t) := by
  unfold Machine.execHeartbeatLoss
  extract_lets s1
  have hs1 : Keeps m s s1 := .advance h
  split
  · exact .next (.ite (.heartbeatLost (.bumpBy hs1)) hs1)
  · exact .next hs1

theorem execMark {t' c skew} (h : Keeps m s t) : KeepsNext m s (Machine.execMark t' c skew t) :=
  .next (.transitRecv (.advance h) (fun _ hx => .ite hx (by
    extract_lets s1
    have hs1 : Keeps m s s1 := .modPar (.wr hx)
    exact .updateReady hs1)))

theorem execId {t' imageId serial strap} (h : Keeps m s t) : KeepsNext m s (Machine.execId t' imageId serial strap t) :=
  .next (.transitRecv (.advance h) (fun _ hx => by
    extract_lets s1 s2 mine s3
    have hs1 : Keeps m s s1 := .compareIds (.modPar hx)
    have hs2 : Keeps m s s2 := .ite hs1 (.report hs1)
    have hs3 : Keeps m s s3 := .ite (.mayRaiseSel (.settleRole hs2)) hs2
    exact .updateReady hs3))

theorem execPend {t' c req crc sentAt} (h : Keeps m s t) : KeepsNext m s (Machine.execPend t' c req crc sentAt t) := .next (.transitRecv
    (.advance h) (fun _ hx => .modPar hx))

theorem execCrcrep {t' c seq gen pad} (h : Keeps m s t) : KeepsNext m s (Machine.execCrcrep t' c seq gen pad t) := .next (.transitRecv
    (.advance h) (fun _ hx => .ite hx (.tryVerdict (.modPar hx))))

theorem execMap {t' c frame marked} (h : Keeps m s t) : KeepsNext m s (Machine.execMap t' c frame marked t) := .next (.transitRecv
    (.advance h) (fun _ hx => .ite hx (.applyMap (.modPar hx))))

end KeepsNext

namespace Keeps

variable {m : Bool} {s t u : State}

theorem followChannel {c k st} (h : Keeps m s t) : Keeps m s (t.followChannel c k st) := by
  unfold State.followChannel
  extract_lets was s1 s2
  have hs1 : Keeps m s s1 := .noteTonly (.wr h)
  have hs2 : Keeps m s s2 := .ite (by
      split
      · exact .modSlot hs1
      · exact hs1) hs1
  exact .ite hs2 (.ite (.modChan hs2) (.report hs2))

end Keeps

namespace KeepsNext

variable {m : Bool} {s t u : State}

theorem execChstate {t' c states lit} (h : Keeps m s t) : KeepsNext m s (Machine.execChstate t' c states lit t) :=
  .next (.transitRecv (.advance h) (fun _ hx => .ite hx (by
    extract_lets s1
    have hs1 : Keeps m s s1 := .foldl hx (fun _ _ hx1 => .followChannel hx1)
    exact .foldl hs1 (fun _ _ hx1 => .wr hx1))))

theorem execTake {t' trigger xs} (h : Keeps m s t) : KeepsNext m s (Machine.execTake t' trigger xs t) := .next (.transitRecv (.advance h)
    (fun _ hx => .ite hx (.modPar hx)))

theorem execXfatal {t' code} (h : Keeps m s t) : KeepsNext m s (Machine.execXfatal t' code t) :=
  .next (.transitRecv (.advance h) (fun _ hx => by
    extract_lets x1
    exact .takeOver (.modPar hx)))

theorem execTransitLaneDrop {t' lane rx} (h : Keeps m s t) : KeepsNext m s (Machine.execTransitLaneDrop t' lane rx t) :=
  .next (.transitRecv (.advance h) (fun _ hx => .ite hx (by
    extract_lets s1 s2
    have hs1 : Keeps m s s1 := .ite (.modPar hx) (.modPar hx)
    have hs2 : Keeps m s s2 := .reportSub (.wr hs1)
    exact .ite (.transitDown hs2) hs2)))

theorem execTransitLinkUp {t' tx rx} (h : Keeps m s t) : KeepsNext m s (Machine.execTransitLinkUp t' tx rx t) := by
  unfold Machine.execTransitLinkUp
  extract_lets s1 strap s2 s3 id
  have hs1 : Keeps m s s1 := .advance h
  have hs2 : Keeps m s s2 := .wr (.modPar hs1)
  have hs3 : Keeps m s s3 := .report hs2
  exact .ite (.next hs1) (.ite (.next hs1) (.next (.yieldAtStart (.sendTransit hs3))))

theorem execHandover {t'} (h : Keeps m s t) : KeepsNext m s (Machine.execHandover t' t) := by
  unfold Machine.execHandover
  extract_lets s1
  have hs1 : Keeps m s s1 := .advance h
  exact .next (.ite (.sendTransit hs1) (.ite (.takeOver hs1) hs1))

theorem execTakeoverSwitch {t'} (h : Keeps m s t) : KeepsNext m s (Machine.execTakeoverSwitch t' t) := by
  unfold Machine.execTakeoverSwitch
  extract_lets s1 s2
  have hs1 : Keeps m s s1 := .advance h
  have hs2 : Keeps m s s2 := .setSel (.modPar hs1)
  split
  · exact .next hs1
  · exact .ite (.next hs1) (.ite (.next (.updateReady (.wr (.setSel (.modPar hs1))))) (.ite (.next hs1) (by
      extract_lets s3 s4 s5 frames
      have hs3 : Keeps m s s3 := .bump (.wr (.wr hs2))
      have hs4 : Keeps m s s4 := .wr hs3
      have hs5 : Keeps m s s5 := .forClusters hs4 (fun _ _ hx1 => .flagBy hx1)
      exact .next (.updateReady (.endLockstep (.report hs5))))))

theorem execSelPeerChange {t' high} (h : Keeps m s t) : KeepsNext m s (Machine.execSelPeerChange t' high t) := by
  unfold Machine.execSelPeerChange
  extract_lets s1 fresh s2 s3 w s4
  have hs1 : Keeps m s s1 := .wrb (.advance h)
  have hs2 : Keeps m s s2 := .setSel hs1
  have hs3 : Keeps m s s3 := .modPar hs2
  have hs4 : Keeps m s s4 := .wr (.wr (.modPar hs2))
  exact .ite (.next (.mayRaiseSel hs1)) (.ite (.next (.yieldAtStart hs1)) (.ite (.next (.modPar (.collisionWait hs3))) (.next
      (.updateReady (.report hs4)))))

theorem execRoleTimeout {t'} (h : Keeps m s t) : KeepsNext m s (Machine.execRoleTimeout t' t) := by
  unfold Machine.execRoleTimeout
  extract_lets s1
  have hs1 : Keeps m s s1 := .advance h
  split
  · exact .next (.ite (.mayRaiseSel (.settleRole hs1)) hs1)
  · exact .next hs1

theorem execSelRetryTimeout {t'} (h : Keeps m s t) : KeepsNext m s (Machine.execSelRetryTimeout t' t) := by
  unfold Machine.execSelRetryTimeout
  extract_lets s1 s2
  have hs1 : Keeps m s s1 := .advance h
  have hs2 : Keeps m s s2 := .modPar hs1
  split
  · exact .ite (.next hs1) (.next (.ite (.settleRole (.wr hs2)) (.settleRole (.setSel hs2))))
  · exact .next hs1

end KeepsNext

namespace Keeps

variable {m : Bool} {s t u : State}

theorem stepOff {e} (h : Keeps m s t) : Keeps m s (t.stepOff e) := .ite (.emit h) h

theorem endRun {e pass} (h : Keeps m s t) : Keeps m s (t.endRun e pass) := .wrb (.wr (.wr h))

theorem notRefused {e} (h : Keeps m s t) : Keeps m s (t.notRefused e) := by
  unfold State.notRefused
  extract_lets x
  exact .update h

theorem releaseFc {e} (h : Keeps m s t) : Keeps m s (t.releaseFc e) :=
  .ite h (by
    split
    · exact .startFc h
    · exact h)

theorem precondFail {e code at'} (h : Keeps m s t) : Keeps m s (t.precondFail e code at') := by
  unfold State.precondFail
  extract_lets s1 key s2 n rest x
  have hs1 : Keeps m s s1 := .wr (.wr (.endRun h))
  have hs2 : Keeps m s s2 := .report hs1
  exact .ite (.report (.update hs2)) (.update hs2)

theorem stimulate {e} (h : Keeps m s t) : Keeps m s (t.stimulate e) := by
  unfold State.stimulate
  extract_lets g n x s1
  have hs1 : Keeps m s s1 := .ite (.update h) h
  split
  · exact .emit hs1
  · exact .emit hs1
  · exact .emit hs1
  · exact .emit hs1
  · exact hs1

theorem startBurst {e temp pd} (h : Keeps m s t) : Keeps m s (t.startBurst e temp pd) := by
  unfold State.startBurst
  extract_lets first ch broken cur s1 s2
  have hs1 : Keeps m s s1 := .wr (.notRefused (.endRun h))
  have hs2 : Keeps m s s2 := .modEng h
  clear_value broken
  split
  · exact .precondFail h
  · exact .ite (by
      split
      · exact .wr (.modEng h)
      · exact .ite (.precondFail h) (.wr h)) (.ite (.report hs1) (.wr (.bump (.stimulate hs2))))

theorem goEngine {e temp pd} (h : Keeps m s t) : Keeps m s (t.goEngine e temp pd) := by
  unfold State.goEngine
  extract_lets st s1 x s2
  have hs1 : Keeps m s s1 := .wrs h
  have hs2 : Keeps m s s2 := .modEng hs1
  exact .ite h (.startBurst hs2)

theorem showResult {e maps rs} (h : Keeps m s t) : Keeps m s (t.showResult e maps rs) := by
  unfold State.showResult
  extract_lets b r s1
  have hs1 : Keeps m s s1 := .wrs h
  exact .foldl hs1 (fun _ _ hx => .wr hx)

theorem setOfs {c k ofs} (h : Keeps m s t) : Keeps m s (t.setOfs c k ofs) := .foldl h (fun _ _ hx => .wr hx)

theorem loadFrontEnd {c p} (h : Keeps m s t) : Keeps m s (t.loadFrontEnd c p) :=
  .foldl h (fun _ _ hx => by
    extract_lets i f
    exact .setOfs (.wrs hx))

theorem loadHbmTaps {r set p} (h : Keeps m s t) : Keeps m s (t.loadHbmTaps r set p) :=
  .foldl h (fun _ _ hx => by
    extract_lets j
    exact .wr (.wr hx))

theorem setPhase {c k p} (h : Keeps m s t) : Keeps m s (t.setPhase c k p) := by
  unfold State.setPhase
  extract_lets i was s1 s2
  have hs1 : Keeps m s s1 := .wr (.wr h)
  have hs2 : Keeps m s s2 := .ite (.report hs1) hs1
  exact .foldl hs2 (fun _ _ hx => .showOpen hx)

theorem applyResult {r} (h : Keeps m s t) : Keeps m s (t.applyResult r) := by
  unfold State.applyResult
  extract_lets c k i v fe f s1 s2
  have hs1 : Keeps m s s1 := .foldl h (fun _ _ hx => .wr hx)
  have hs2 : Keeps m s s2 := .setTaps h
  split
  · exact .almRequest hs1
  · exact .almRequest hs1
  · exact .almRequest hs2
  · exact .almRequest (.setPhase (.wr h))
  · exact .almRequest (.setOfs (.wr h))
  · exact .almRequest (.wr (.wr h))
  · exact .almRequest (.wr h)

theorem stageResult {e vals} (h : Keeps m s t) : Keeps m s (t.stageResult e vals) := by
  unfold State.stageResult
  extract_lets r s1 s2
  have hs1 : Keeps m s s1 := .wr (.wr (.notRefused h))
  have hs2 : Keeps m s s2 := .ite (.wr hs1) hs1
  exact .ite (.wr (.applyResult hs1)) (.ite (.wr (.modEng hs1)) (.wr (.modEng hs2)))

theorem noTap {e b w} (h : Keeps m s t) : Keeps m s (t.noTap e b w) := by
  unfold State.noTap
  extract_lets s1 i c k was s2
  have hs1 : Keeps m s s1 := .report (.notRefused (.endRun h))
  have hs2 : Keeps m s s2 := .foldl (.wr hs1) (fun _ _ hx => .showOpen hx)
  split
  · exact .wr (.wr hs1)
  · exact .wr (.wr hs1)
  · exact .retireLane hs1
  · split
    · exact .wr hs1
    · exact .ite hs2 (.report hs2)

theorem recordTap {e errs} (h : Keeps m s t) : Keeps m s (t.recordTap e errs) := by
  unfold State.recordTap
  extract_lets t1 old maps
  exact .modEng h

theorem countErrs {e errs} (h : Keeps m s t) : Keeps m s (t.countErrs e errs) := .foldl h (fun _ _ hx => .ite (.bumpBy hx) hx)

theorem endSweep {e} (h : Keeps m s t) : Keeps m s (t.endSweep e) := by
  unfold State.endSweep
  extract_lets g rng rs s1 b
  have hs1 : Keeps m s s1 := .showResult h
  exact .ite (.noTap hs1) (.ite (.wr (.modEng hs1)) (.stageResult hs1))

theorem endBurst {e g} (h : Keeps m s t) : Keeps m s (t.endBurst e g) := by
  unfold State.endBurst
  extract_lets sweep errs s1 s2 s3 last fin
  have hs1 : Keeps m s s1 := .wr (.stepOff h)
  have hs2 : Keeps m s s2 := .releaseFc hs1
  have hs3 : Keeps m s s3 := .ite (.recordTap (.ite hs2 (.countErrs hs2))) hs2
  split
  · exact .precondFail hs3
  · exact .ite (.modEng hs3) (by
      split
      · exact .precondFail hs3
      · exact .ite (.endSweep hs3) (.stageResult hs3))

theorem applyStaged {e r} (h : Keeps m s t) : Keeps m s (t.applyStaged e r) := .wr (.applyResult (.modEng h))

theorem expireResult {e r} (h : Keeps m s t) : Keeps m s (t.expireResult e r) := by
  unfold State.expireResult
  extract_lets s1 s2 s3
  have hs1 : Keeps m s s1 := .modEng h
  have hs2 : Keeps m s s2 := .ite (.wr hs1) hs1
  have hs3 : Keeps m s s3 := .wr (.wr hs2)
  exact .report hs3

theorem releaseHeld (h : Keeps m s t) : Keeps m s t.releaseHeld :=
  .foldl h (fun _ _ hx => by
    split
    · exact hx
    · extract_lets s1
      have hs1 : Keeps m s s1 := .ite (.wr hx) hx
      exact .wr (.modEng hs1))

end Keeps

namespace KeepsNext

variable {m : Bool} {s t u : State}

theorem execTrainingGo {t' e host temp pd} (h : Keeps m s t) : KeepsNext m s (Machine.execTrainingGo t' e host temp pd t) := by
  unfold Machine.execTrainingGo
  extract_lets s1
  have hs1 : Keeps m s s1 := .advance h
  exact .ite (.next (.ite (.applyErr hs1) hs1)) (.next (.goEngine hs1))

theorem execTrainingAbort {t' e host} (h : Keeps m s t) : KeepsNext m s (Machine.execTrainingAbort t' e host t) := by
  unfold Machine.execTrainingAbort
  extract_lets s1 s2 s3
  have hs1 : Keeps m s s1 := .advance h
  have hs2 : Keeps m s s2 := by
    simp only [s2]
    split
    · exact .ite (.wr hs1) hs1
    · exact hs1
  have hs3 : Keeps m s s3 := .wr (.modEng (.stepOff hs2))
  exact .ite (.next (.ite (.applyErr hs1) hs1)) (.next (.releaseFc hs3))

theorem execGatherBurstStart {t' e temp pd} (h : Keeps m s t) : KeepsNext m s (Machine.execGatherBurstStart t' e temp pd t) := by
  unfold Machine.execGatherBurstStart
  extract_lets s1 st due
  have hs1 : Keeps m s s1 := .advance h
  exact .next (.ite (.startBurst hs1) hs1)

theorem execGatherBurstEnd {t' e g} (h : Keeps m s t) : KeepsNext m s (Machine.execGatherBurstEnd t' e g t) := by
  unfold Machine.execGatherBurstEnd
  extract_lets s1 from' low whole
  have hs1 : Keeps m s s1 := .advance h
  exact .next (.ite (.endBurst hs1) hs1)

theorem execStagedResultApply {t' e} (h : Keeps m s t) : KeepsNext m s (Machine.execStagedResultApply t' e t) := by
  unfold Machine.execStagedResultApply
  extract_lets s1
  have hs1 : Keeps m s s1 := .advance h
  exact .next (by
      split
      · exact .ite (.applyStaged hs1) hs1
      · exact hs1)

theorem execHbmRefresh {t' p urgent} (h : Keeps m s t) : KeepsNext m s (Machine.execHbmRefresh t' p urgent t) := by
  unfold Machine.execHbmRefresh
  extract_lets s1 n s2
  have hs1 : Keeps m s s1 := .advance h
  have hs2 : Keeps m s s2 := .modMem hs1
  exact .ite (.next hs1) (.ite (.next (.modMem hs1)) (.next (.foldl hs2 (fun _ _ hx => by
      split
      · exact .ite (.applyStaged hx) hx
      · exact hx))))

theorem execStagedResultExpiry {t' e} (h : Keeps m s t) : KeepsNext m s (Machine.execStagedResultExpiry t' e t) := by
  unfold Machine.execStagedResultExpiry
  extract_lets s1
  have hs1 : Keeps m s s1 := .advance h
  exact .next (by
      split
      · exact .ite (.expireResult hs1) hs1
      · exact hs1)

theorem execScheduledTraining {t' e target idx c temp pd} (h : Keeps m s t) :
    KeepsNext m s (Machine.execScheduledTraining t' e target idx c temp pd t) := by
  unfold Machine.execScheduledTraining
  extract_lets s1 st key up s2 x s3
  have hs1 : Keeps m s s1 := .advance h
  have hs2 : Keeps m s s2 := .wrs hs1
  have hs3 : Keeps m s s3 := .update hs2
  exact .ite (.next hs1) (.next (.goEngine hs3))

end KeepsNext

namespace Keeps

variable {m : Bool} {s t u : State}

theorem modObs {f} (h : Keeps m s t) : Keeps m s (t.modObs f) := .update h

theorem modPwr {f} (h : Keeps m s t) : Keeps m s (t.modPwr f) := .update h

theorem setShed {new} (h : Keeps m s t) : Keeps m s (t.setShed new) := by
  unfold State.setShed
  extract_lets old mean since s1 s2
  have hs1 : Keeps m s s1 := .wrb (.wr h)
  have hs2 : Keeps m s s2 := .modObs hs1
  exact .ite h (.ite (.report (.bump hs2)) (.ite (.releaseHeld (.report hs2)) (.report hs2)))

theorem dropRun {e} (h : Keeps m s t) : Keeps m s (t.dropRun e) := by
  unfold State.dropRun
  extract_lets st
  exact .ite (.releaseFc (.wr (.modEng (.stepOff h)))) h

theorem observerDown {boots} (h : Keeps m s t) : Keeps m s (t.observerDown boots) := by
  unfold State.observerDown
  extract_lets s1 x s2 s3 s4
  have hs1 : Keeps m s s1 := .ite (.mailReply h) h
  have hs2 : Keeps m s s2 := .update hs1
  have hs3 : Keeps m s s3 := .ite hs2 (.foldl hs2 (fun _ _ hx1 => .dropRun hx1))
  have hs4 : Keeps m s s4 := .wr (.setShed hs3)
  exact .modObs hs4

theorem observerUp (h : Keeps m s t) : Keeps m s t.observerUp := by
  unfold State.observerUp
  split
  · exact h
  · extract_lets s1
    have hs1 : Keeps m s s1 := .wr (.modObs h)
    exact .report hs1

theorem beginStops (h : Keeps m s t) : Keeps m s t.beginStops := .forClusters h (fun _ _ hx => .ite hx (.modEph (.beginStop hx)))

theorem clearStops (h : Keeps m s t) : Keeps m s t.clearStops := by
  unfold State.clearStops
  extract_lets l s1
  have hs1 : Keeps m s s1 := .forClusters h (fun _ _ hx => .showOut (.abandonFade (.wr hx)))
  exact .modEph hs1

theorem inputsDown (h : Keeps m s t) : Keeps m s t.inputsDown :=
  .foldl h (fun _ _ hx => by
    extract_lets s1 s2
    have hs1 : Keeps m s s1 := .ite (.emit hx) hx
    have hs2 : Keeps m s s2 := .ite hs1 (.report (.wr (.wr hs1)))
    exact .modDp (.wr (.wr hs2)))

theorem archiveOff (h : Keeps m s t) : Keeps m s t.archiveOff := by
  unfold State.archiveOff
  extract_lets s1
  have hs1 : Keeps m s s1 := .modArc h
  exact .wr (.wr hs1)

theorem linksOff (h : Keeps m s t) : Keeps m s t.linksOff := .forClusters h (fun _ _ hx => .wr (.wr hx))

theorem pcieOff (h : Keeps m s t) : Keeps m s t.pcieOff := .wr (.endpointReset h)

theorem standbyNow (h : Keeps true s t) : Keeps true s t.standbyNow := by
  unfold State.standbyNow
  extract_lets s1 s2 s3
  have hs1 : Keeps true s s1 := .pcieOff (.archiveOff (.inputsDown (.observerDown (.checkpoint h))))
  have hs2 : Keeps true s s2 := .linksOff (.keepDomains hs1)
  have hs3 : Keeps true s s3 := .wr (.modPwr hs2)
  exact .report hs3

theorem enterStandby (h : Keeps true s t) : Keeps true s t.enterStandby :=
  .ite h (by
    extract_lets s1
    have hs1 : Keeps true s s1 := .ite h (.beginStops (.modPwr h))
    exact .ite (.standbyNow hs1) hs1)

theorem powerFailRecord {vin cause} (h : Keeps m s t) : Keeps m s (t.powerFailRecord vin cause) := by
  unfold State.powerFailRecord
  extract_lets r s1 s2
  have hs1 : Keeps m s s1 := .bump (.wr h)
  have hs2 : Keeps m s s2 := .modLog hs1 (fun _ => rfl)
  exact .wr (.writeRecord hs2)

theorem tearObj {oid payload n} (h : Keeps m s t) : Keeps m s (t.tearObj oid payload n) := .modAlm h

theorem cutBus {cut} (h : Keeps true s t) : Keeps true s (t.cutBus cut) := by
  unfold State.cutBus
  split
  · split
    · exact h
    · exact .tearObj h
  · split
    · exact .modLog h (fun _ => rfl)
    · exact h
  · exact .ite h (.tearObj h)
  · extract_lets addr len data
    split
    · exact h
    · exact .setRaw h (fun hw => memory_wf_foldl hw fun x y hx => memory_wf_cellSet hx)

theorem dropRaw (h : Keeps m s t) : Keeps m s t.dropRaw := .ite (.wr h) h

theorem powerSave {e joined} (h : Keeps m s t) : Keeps m s (t.powerSave e joined) := by
  unfold State.powerSave
  extract_lets time image s1 s2
  have hs1 : Keeps m s s1 := .saveShadow h
  have hs2 : Keeps m s s2 := .report (.bump hs1)
  split
  · exact .wr (.tearObj h)
  · split
    · exact .wr (.wr hs2)
    · split
      · exact .wr (.wr (.saveRing hs1))
      · extract_lets mixed
        exact .wr (.modLog hs1 (fun _ => rfl))
      · extract_lets whole s3
        have hs3 : Keeps m s s3 := .modLog hs1 (fun _ => rfl)
        exact .wr (.tearObj hs3)
      · exact hs1

theorem powerDown {vin cause cut e} (h : Keeps true s t) : Keeps true s (t.powerDown vin cause cut e) :=
  .ite h (by
    extract_lets early last s1 joined s2 s3 s4 s5 s6 s7 s8 s9 s10 s11 s12
    have hs1 : Keeps true s s1 := .forClusters h (fun _ _ hx => .lensLow hx)
    have hs2 : Keeps true s s2 := by
      simp only [s2]
      split
      · exact .cutBus hs1
      · exact hs1
    have hs3 : Keeps true s s3 := .dropRaw hs2
    have hs4 : Keeps true s s4 := .ite hs3 (.wr (.powerFailRecord hs3))
    have hs5 : Keeps true s s5 := .ite (.sendTrig hs4) hs4
    have hs6 : Keeps true s s6 := .forClusters hs5 (fun _ _ hx => .sendDump hx)
    have hs7 : Keeps true s s7 := .ite hs6 (.powerSave hs6)
    have hs8 : Keeps true s s8 := .modAlm hs7
    have hs9 : Keeps true s s9 := .pcieOff (.archiveOff (.inputsDown (.observerDown hs8)))
    have hs10 : Keeps true s s10 := .linksOff (.keepDomains hs9)
    have hs11 : Keeps true s s11 := .modPwr (.emit (.setSel hs10))
    have hs12 : Keeps true s s12 := .ite hs11 (.wr hs11)
    exact .wr (.wr hs12))

theorem fatalSignals {code} (h : Keeps m s t) : Keeps m s (t.fatalSignals code) := by
  unfold State.fatalSignals
  extract_lets s1 s2
  have hs1 : Keeps m s s1 := .forClusters h (fun _ _ hx => .sendDump (.lensLow hx))
  have hs2 : Keeps m s s2 := .setSel hs1
  exact .ite hs1 (.ite (.emit hs2) hs2)

theorem powerGoodFail {d} (h : Keeps true s t) : Keeps true s (t.powerGoodFail d) := by
  unfold State.powerGoodFail
  extract_lets s1 c
  have hs1 : Keeps true s s1 := .keepDomains h
  clear_value c
  split
  · exact .darken (.reportSub hs1)
  · exact .fatalEvent hs1

theorem lockPlls (h : Keeps m s t) : Keeps m s t.lockPlls := .wr h

theorem powerUpPlls {old} (h : Keeps m s t) : Keeps m s (State.powerUpPlls old t) := .wr h

theorem refclkValid {err} (h : Keeps m s t) : Keeps m s (t.refclkValid err) :=
  .ite h (by
    extract_lets s1
    have hs1 : Keeps m s s1 := .wr h
    exact .report hs1)

theorem holdupAt {energy} (h : Keeps m s t) : Keeps m s (t.holdupAt energy) := by
  unfold State.holdupAt
  extract_lets s1
  have hs1 : Keeps m s s1 := .wrb (.wr h)
  exact .ite hs1 (.report (.modPwr hs1))

theorem shedSets (h : Keeps m s t) : Keeps m s t.shedSets := .foldl (.modPwr h) (fun _ _ hx => .ite hx (.requestSet (.modPwr hx)))

theorem restoreSets (h : Keeps m s t) : Keeps m s t.restoreSets :=
  .foldl (.modPwr h) (fun _ _ hx => by
    extract_lets ch
    exact .ite (.requestSet hx) hx)

theorem shedAction {step taken} (h : Keeps true s t) : Keeps true s (t.shedAction step taken) := by
  unfold State.shedAction
  split
  · exact .ite (.keepDomains h) (.ite (.powerOn h) h)
  · exact .ite (.shedSets h) (.restoreSets h)
  · exact h

theorem shedStep {step taken} (h : Keeps true s t) : Keeps true s (t.shedStep step taken) := by
  unfold State.shedStep
  extract_lets s1 s2
  have hs1 : Keeps true s s1 := .wr (.shedAction h)
  have hs2 : Keeps true s s2 := .modPwr hs1
  exact .report hs2

theorem andRun {f : State → Result} (h : Keeps m s t) (k : ∀ x, Keeps m s x → KeepsNext m s (f x)) : Keeps m s (t.andRun f) := by
  have hf := k t h
  unfold State.andRun
  split
  · rename_i r e
    rw [e] at hf
    exact .update hf
  · exact h

theorem clearFatal {u i} (h : Keeps m s t) : Keeps m s (t.clearFatal u i) := by
  unfold State.clearFatal
  extract_lets s1 s2
  have hs1 : Keeps m s s1 := .wr h
  have hs2 : Keeps m s s2 := .ite (.showOpen hs1) hs1
  exact .ite hs2 (.wr (.modObs hs2))

theorem clearCounters {u i} (h : Keeps m s t) : Keeps m s (t.clearCounters u i) := .foldl (.wr h) (fun _ _ hx => .wr hx)

theorem ringDoorbell (h : Keeps m s t) : Keeps m s t.ringDoorbell := by
  unfold State.ringDoorbell
  split
  · exact .mailCollide h
  · split
    · rename_i x e
      exact h.mailTurnedAway e
    · exact .ite (.wr h) (.mailReply h)

theorem pull {src x} (h : Keeps true s t) : Keeps true s (t.pull src x) := by
  unfold State.pull
  extract_lets t1 i c l f n
  split
  · exact .clearFatal h
  · exact .clearCounters h
  · exact .andRun h (fun _ hx1 => .execMeshLoadGo hx1)
  · exact .andRun h (fun _ hx1 => .execSchedCheckGo hx1)
  · exact .requestCommit h
  · exact .cancelCommit h
  · exact .ite (.wakeHeld h) h
  · exact .andRun h (fun _ hx1 => .execLaneRetrain hx1)
  · exact .andRun h (fun _ hx1 => .execOutputRearm hx1)
  · exact .andRun h (fun _ hx1 => .execOutputStop hx1)
  · exact .andRun h (fun _ hx1 => .execInterlockRearm hx1)
  · exact .andRun h (fun _ hx1 => .execChannelRearm hx1)
  · exact .andRun h (fun _ hx1 => .execDiagnow hx1)
  · exact .andRun h (fun _ hx1 => .execSatfaultClear hx1)
  · exact .ite (.andRun h (fun _ hx1 => .execReaffirmTileList hx1)) (.andRun h (fun _ hx1 => .execReaffirmLayer hx1))
  · exact .andRun h (fun _ hx1 => .execFenceGo hx1)
  · exact .andRun h (fun _ hx1 => .execFreezeRequest hx1)
  · exact .andRun h (fun _ hx1 => .execRecover hx1)
  · exact .rawSpi h
  · exact .requestSet h
  · exact .andRun (.freeBits h) (fun _ hx1 => .execTrainingGo hx1)
  · exact .andRun h (fun _ hx1 => .execTrainingAbort hx1)
  · exact .checkpoint h
  · exact .andRun h (fun _ hx1 => .execLogTriggerHost hx1)
  · exact .andRun h (fun _ hx1 => .execLogRelease hx1)
  · exact .andRun h (fun _ hx1 => .execLogRelease hx1)
  · exact .enterStandby h
  · exact .ringDoorbell h
  · exact .andRun h (fun _ hx1 => .execWallTimeSet hx1)
  · exact .andRun h (fun _ hx1 => .execChainWakeSend hx1)
  · exact .andRun h (fun _ hx1 => .execCoherentArm hx1)
  · exact .ite (.applyErr h) h
  · exact .andRun h (fun _ hx1 => .execHandover hx1)
  · exact .wrb h
  · exact h

theorem busWriteAll {a data src} (h : Keeps true s t) : Keeps true s (t.busWriteAll a data src) := by
  unfold State.busWriteAll
  extract_lets r
  exact .foldl (.busWrite h) (fun _ _ hx => .pull hx)

theorem trySlots {bad l} (h : Keeps m s t) : Keeps m s (t.trySlots bad l).1 := by
  induction l generalizing t with
  | nil => exact h
  | cons i rest ih =>
    unfold State.trySlots
    split
    · exact ih (.reject h)
    · exact h

theorem selectSlot {bad among} (h : Keeps m s t) : Keeps m s (t.selectSlot bad among).1 := by
  unfold State.selectSlot
  extract_lets s1 good
  have hs1 : Keeps m s s1 := .foldl h (fun _ _ hx => by
      split
      · exact .reject hx
      · exact hx)
  exact .trySlots hs1

theorem chooseSlot {bad named} (h : Keeps m s t) : Keeps m s (t.chooseSlot bad named).1 := by
  unfold State.chooseSlot
  split
  · exact .selectSlot h
  · extract_lets r
    split
    · exact .trySlots h
    · exact .selectSlot (.trySlots h)

theorem clearForLoad (h : Keeps m s t) : Keeps m s t.clearForLoad := .update (.filterRegs h)

theorem channelsFound (h : Keeps m s t) : Keeps m s t.channelsFound :=
  .forClusters h (fun _ _ hx => .foldl hx (fun _ _ hx1 => by
    extract_lets i
    exact .wr (.wr hx1)))

theorem clearProfile {r} (h : Keeps m s t) : Keeps m s (t.clearProfile r) := by
  unfold State.clearProfile
  extract_lets s1
  have hs1 : Keeps m s s1 := .foldl h (fun _ _ hx => by
      extract_lets pc
      exact .ite (.wr (.wr hx)) hx)
  exact .wr hs1

theorem loadMap {p} (h : Keeps m s t) : Keeps m s (t.loadMap p) := by
  unfold State.loadMap
  extract_lets s1 s2 s3
  have hs1 : Keeps m s s1 := .foldl h (fun _ _ hx => .clearProfile hx)
  have hs2 : Keeps m s s2 := .foldl hs1 (fun _ _ hx => .modRegion hx)
  have hs3 : Keeps m s s3 := .modMem hs2
  exact .foldl hs3 (fun _ _ hx => by
      split
      · exact .wr (.wr hx)
      · exact .wr (.wr hx))

theorem loadInputs {p} (h : Keeps m s t) : Keeps m s (t.loadInputs p) := .foldl h (fun _ _ hx => .modDp (.placeInput hx))

theorem writeSchedules {p c page} (h : Keeps m s t) : Keeps m s (t.writeSchedules p c page) := by
  unfold State.writeSchedules
  extract_lets base s1 mine s2 f
  have hs1 : Keeps m s s1 := .filterRegs h
  have hs2 : Keeps m s s2 := .foldl hs1 fun _ _ hx => .foldl hx fun _ _ hy => .wr hy
  exact .modPic (.wrb hs2)

theorem loadTags {p} (h : Keeps m s t) : Keeps m s (t.loadTags p) := by
  unfold State.loadTags
  extract_lets x s1
  have hs1 : Keeps m s s1 := .update h
  exact .foldl hs1 (fun _ _ hx1 => by
      split
      · exact .ite hx1 (.almRequest hx1)
      · exact .ite hx1 (.almRequest hx1)
      · extract_lets x2
        exact .update hx1
      · exact hx1)

theorem showImage {im slot} (h : Keeps m s t) : Keeps m s (t.showImage im slot) := by
  unfold State.showImage
  extract_lets s1 s2
  have hs1 : Keeps m s s1 := .foldl h (fun _ _ hx => .wr hx)
  have hs2 : Keeps m s s2 := .wr (.wr (.wr hs1))
  exact .wr (.wr (.wr hs2))

theorem unknownSections {im} (h : Keeps m s t) : Keeps m s (t.unknownSections im) := .foldl h (fun _ _ hx => .report hx)

theorem beginSlots {c} (h : Keeps m s t) : Keeps m s (t.beginSlots c) := .foldl h (fun _ _ hx => .ite hx (.ite (.enableSlot hx)
    (.writeSafe hx)))

theorem install {im slot} (h : Keeps true s t) : Keeps true s (t.install im slot) := by
  unfold State.install
  extract_lets p s1 s2 s3 s4 s5 s6 s7 s8 s9 s10
  have hs1 : Keeps true s s1 := .clearForLoad h
  have hs2 : Keeps true s s2 := .update hs1
  have hs3 : Keeps true s s3 := .forClusters hs2 (fun _ _ hx => .modLight hx)
  have hs4 : Keeps true s s4 := .modEph hs3
  have hs5 : Keeps true s s5 := .channelsFound (.wr (.wrs hs4))
  have hs6 : Keeps true s s6 := .loadTags (.loadInputs (.loadMap hs5))
  have hs7 : Keeps true s s7 := .showImage (.forClusters hs6 (fun _ _ hx => .writeSchedules hx))
  have hs8 : Keeps true s s8 := .forClusters hs7 (fun _ _ hx => .beginSlots hx)
  have hs9 : Keeps true s s9 := .unknownSections hs8
  have hs10 : Keeps true s s10 := .foldl hs9 (fun _ _ hx => .busWriteAll hx)
  exact .updateReady (.compareIds (.report hs10))

theorem noImage {bad} (h : Keeps m s t) : Keeps m s (t.noImage bad) := by
  unfold State.noImage
  extract_lets why s1 s2
  have hs1 : Keeps m s s1 := .wr (.modEph (.clearForLoad h))
  have hs2 : Keeps m s s2 := .forClusters hs1 (fun _ _ hx => .lensLow hx)
  exact .unitFault (.wr hs2)

theorem loadImage {bad named} (h : Keeps true s t) : Keeps true s (t.loadImage bad named) := by
  unfold State.loadImage
  extract_lets s1 r
  have hs1 : Keeps true s s1 := .wr h
  split
  · exact .noImage (.chooseSlot hs1)
  · split
    · exact .install (.chooseSlot hs1)
    · exact .noImage (.chooseSlot hs1)

theorem cancelSwap (h : Keeps m s t) : Keeps m s t.cancelSwap := by
  unfold State.cancelSwap
  split
  · exact h
  · extract_lets s1 s2
    have hs1 : Keeps m s s1 := .foldl h (fun _ _ hx1 => .wr hx1)
    have hs2 : Keeps m s s2 := .update hs1
    exact .wr (.modEph hs2)

theorem placeHelcoef {p c} (h : Keeps m s t) : Keeps m s (t.placeHelcoef p c) :=
  .foldl h (fun _ _ hx => .foldl hx (fun _ _ hx1 => .foldl hx1 (fun _ _ hx2 => by
    extract_lets inst
    exact .wrSwap hx2)))

theorem placeTable {p f c page size} (h : Keeps m s t) : Keeps m s (t.placeTable p f c page size) := by
  unfold State.placeTable
  extract_lets from' base s1
  have hs1 : Keeps m s s1 := .filterRegs h
  exact .foldl hs1 fun _ _ hx => .wr hx

theorem copyBlend {c page} (h : Keeps m s t) : Keeps m s (t.copyBlend c page) := by
  unfold State.copyBlend
  extract_lets old
  exact .foldl h (fun _ _ hx => .wr hx)

theorem placeColour {p c} (h : Keeps m s t) : Keeps m s (t.placeColour p c) := by
  unfold State.placeColour
  extract_lets lut uni s1 s2 s3 s4 s5
  have hs1 : Keeps m s s1 := .copyBlend (.placeTable (.placeTable h))
  have hs2 : Keeps m s s2 := .placeTable hs1
  have hs3 : Keeps m s s3 := .modPic hs2
  have hs4 : Keeps m s s4 := .wrSwap (.wrSwap hs3)
  have hs5 : Keeps m s s5 := .foldl hs4 (fun _ _ hx => by
      extract_lets i
      exact .wrSwap (.wrSwap hx))
  exact .foldl hs5 (fun _ _ hx => .wrSwap hx)

theorem placeSchedules {p c} (h : Keeps m s t) : Keeps m s (t.placeSchedules p c) := by
  unfold State.placeSchedules
  extract_lets pg
  exact .wrSwap (.writeSchedules h)

theorem placePatch {im c} (h : Keeps m s t) : Keeps m s (t.placePatch im c) := by
  unfold State.placePatch
  extract_lets s1 s2
  have hs1 : Keeps m s s1 := .ite (.placeSchedules h) h
  have hs2 : Keeps m s s2 := .ite (.placeHelcoef hs1) hs1
  exact .ite (.placeColour hs2) hs2

theorem beginSwap {im auto} (h : Keeps m s t) : Keeps m s (t.beginSwap im auto) := by
  unfold State.beginSwap
  extract_lets cs asked s1 s2 s3
  have hs1 : Keeps m s s1 := .unknownSections (.forClusters h (fun _ _ hx => .placePatch hx))
  have hs2 : Keeps m s s2 := .wr (.modEph hs1)
  have hs3 : Keeps m s s3 := .report hs2
  exact .ite (.forClusters hs3 (fun _ _ hx => .requestCommit hx)) hs3

theorem coldState {startAt} (h : Keeps true s t) : Keeps true s (t.coldState startAt) := by
  unfold State.coldState
  extract_lets f old x l a q p d k s1 s2
  have hold : Keeps true s old := .freeBits h
  have hs1 : Keeps true old s1 :=
    ⟨rfl, Nat.le_refl _, rfl, fun _ => ⟨fun _ h => absurd h List.not_mem_nil, .nil⟩,
      fun _ => ⟨Nat.zero_le _, Nat.zero_le _, Nat.zero_le _, fun _ h => absurd h List.not_mem_nil⟩, fun _ => rfl, fun _ => rfl, fun w => w, nofun⟩
  exact .wr (.wr (.wr (.wr (hold.trans hs1))))

theorem recoverObj {oid} (h : Keeps m s t) : Keeps m s (t.recoverObj oid) := by
  unfold State.recoverObj
  extract_lets r s1 s2 s3 s4
  have hs1 : Keeps m s s1 := .modAlm h
  have hs2 : Keeps m s s2 := .bump hs1
  have hs3 : Keeps m s s3 := by
    simp only [s3]
    split
    · exact .report (.bump hs2)
    · exact hs2
  have hs4 : Keeps m s s4 := by
    simp only [s4]
    split
    · exact .report (.bump hs3)
    · exact hs3
  exact .ite (.report (.bump hs4)) hs4

theorem loadSaves (h : Keeps m s t) : Keeps m s t.loadSaves := by
  unfold State.loadSaves
  extract_lets p entry s1
  have hs1 : Keeps m s s1 := .showSaves (.modLog h (fun _ => rfl))
  exact .foldl hs1 (fun _ _ hx => .wr hx)

theorem applyRecovered (h : Keeps m s t) : Keeps m s t.applyRecovered := by
  unfold State.applyRecovered
  extract_lets key s1 s2 x x1
  have hs1 : Keeps m s s1 := .wr (.modEph h)
  have hs2 : Keeps m s s2 := .foldl hs1 (fun _ _ hx2 => .wr hx2)
  have hx : Keeps m s x := .loadSaves hs2
  exact .update hx

theorem startStep3 {cold counting} (h : Keeps m s t) : Keeps m s (t.startStep3 cold counting) := by
  unfold State.startStep3
  extract_lets s1 s2 s3 s4 n
  have hs1 : Keeps m s s1 := .lockPlls (.wr (.wr h))
  have hs2 : Keeps m s s2 := .foldl hs1 (fun _ _ hx => .wr hx)
  have hs3 : Keeps m s s3 := .applyRecovered (.foldl hs2 (fun _ _ hx => .recoverObj hx))
  have hs4 : Keeps m s s4 := by
    simp only [s4]
    split
    · exact .loadShadow hs3
    · exact hs3
  exact .ite hs3 (.ite (.almRequest hs4) (.countStored (.almWrite hs4)))

theorem flashUnusable {jedec item} (h : Keeps m s t) : Keeps m s (t.flashUnusable jedec item) := by
  unfold State.flashUnusable
  extract_lets s1 s2 s3
  have hs1 : Keeps m s s1 := .report h
  have hs2 : Keeps m s s2 := .reject (.reject hs1)
  have hs3 : Keeps m s s3 := .wr (.modEph (.clearForLoad hs2))
  exact .unitFault (.wr hs3)

theorem fatalAtBoot (h : Keeps true s t) : Keeps true s t.fatalAtBoot := .emit (.wr (.keepDomains (.forClusters h
    (fun _ _ hx => .lensLow hx))))

theorem startStep5 (h : Keeps true s t) : Keeps true s t.startStep5 :=
  .ite h (by
    split
    · exact .fatalAtBoot h
    · extract_lets s1 x1
      have hs1 : Keeps true s s1 := .wr (.wr (.wr h))
      exact .update hs1)

theorem startStep6 {r} (h : Keeps true s t) : Keeps true s (t.startStep6 r) := by
  unfold State.startStep6
  extract_lets old s1 s2
  have hold : Keeps true s old := .keepDomains h
  have hs1 : Keeps true s s1 := .powerUpPlls (.powerOn hold)
  have hs2 : Keeps true s s2 := .ite (.wr hs1) hs1
  exact .foldl hs2 (fun _ _ hx => .ite hx (.powerGoodFail hx))

theorem loadRegionTaps {reg} (h : Keeps m s t) : Keeps m s (t.loadRegionTaps reg) :=
  .foldl h (fun _ _ hx => by
    extract_lets oid
    split
    · exact .loadHbmTaps hx
    · exact .report hx)

theorem startRegion {r reg} (h : Keeps true s t) : Keeps true s (t.startRegion r reg) :=
  .ite (.wr (.wr (.modRegion h))) (by
    extract_lets s1 s2 t1 t2 s3 s4 s5
    have hs1 : Keeps true s s1 := .loadRegionTaps h
    have hs2 : Keeps true s s2 := .foldl hs1 (fun _ _ hx => .wr hx)
    have hs3 : Keeps true s s3 := .wr (.modRegion (.mkSnd (.keepTaps (.regionTrained hs2))))
    have hs4 : Keeps true s s4 := .foldl hs3 (fun _ _ hx => .wr hx)
    have hs5 : Keeps true s s5 := .foldl hs4 (fun _ _ hx => .wr hx)
    exact .ite (.wr (.setPcs hs5)) hs5)

theorem startStep7 {r} (h : Keeps true s t) : Keeps true s (t.startStep7 r) := by
  unfold State.startStep7
  extract_lets s1 s2
  have hs1 : Keeps true s s1 := .foldl h (fun _ _ hx => .startRegion hx)
  have hs2 : Keeps true s s2 := by
    simp only [s2]
    split
    · exact .ite (.storeMeshes hs1) hs1
    · exact hs1
  exact .foldl hs2 (fun _ _ hx => by
      extract_lets oid s3
      have hs3 : Keeps true s s3 := .ite (.report hx) hx
      exact .bringUp hs3)

theorem startAdc {a} (h : Keeps m s t) : Keeps m s (t.startAdc a) := by
  unfold State.startAdc
  extract_lets i s1 s2
  have hs1 : Keeps m s s1 := .setOfs (.wr h)
  have hs2 : Keeps m s s2 := .report hs1
  split
  · exact .setPhase hs1
  · split
    · exact .setPhase hs2
    · exact .foldl (.report (.wr hs2)) (fun _ _ hx1 => .showOpen hx1)

theorem startFrontEnd {r c} (h : Keeps m s t) : Keeps m s (t.startFrontEnd r c) :=
  .ite h (by
    extract_lets s1 mine s2 s3 s4
    have hs1 : Keeps m s s1 := by
      simp only [s1]
      split
      · exact .loadFrontEnd h
      · exact .report h
    have hs2 : Keeps m s s2 := .foldl hs1 (fun _ _ hx => .startAdc hx)
    have hs3 : Keeps m s s3 := .ite hs2 (.almRequest hs2)
    have hs4 : Keeps m s s4 := .foldl hs3 (fun _ _ hx => .ite hx (.choosePatterns hx))
    split
    · exact .andRun hs4 (fun _ hx1 => .execInterlockRearm hx1)
    · exact hs4)

theorem startStep8 {r} (h : Keeps m s t) : Keeps m s (t.startStep8 r) := by
  unfold State.startStep8
  extract_lets s1 strap
  have hs1 : Keeps m s s1 := .forClusters h (fun _ _ hx => .startFrontEnd hx)
  exact .ite hs1 (.mayRaiseSel (.modPar hs1))

theorem startStep9 {kind} (h : Keeps m s t) : Keeps m s (t.startStep9 kind) := by
  unfold State.startStep9
  extract_lets s1 s2
  have hs1 : Keeps m s s1 := .wr (.wr (.wr h))
  have hs2 : Keeps m s s2 := .forClusters hs1 (fun _ _ hx => .requestCommit hx)
  split
  · exact hs2
  · exact .report hs2

theorem startStep {r kind k} (h : Keeps true s t) : Keeps true s (t.startStep r kind k) := by
  unfold State.startStep
  extract_lets done s1 s2 s3
  have hs1 : Keeps true s s1 := .startStep3 h
  have hs2 : Keeps true s s2 := .startStep5 h
  have hs3 : Keeps true s s3 := .startStep6 h
  split
  · split
    · exact .wr (.holdupAt (.refclkValid h))
    · exact h
  · exact .wr (.wr (.wr (.wr h)))
  · split
    · exact .countStored (.almWrite h)
    · exact .ite hs1 (.wr hs1)
  · split
    · exact .wr (.flashUnusable h)
    · exact .wr (.loadImage h)
  · exact .ite (.fatalAtBoot h) (.ite hs2 (.wr hs2))
  · exact .ite hs3 (.ite (.wr (.wr hs3)) (.wr hs3))
  · exact .wr (.startStep7 h)
  · exact .wr (.startStep8 h)
  · exact .startStep9 h

theorem runSteps {r kind} (h : Keeps true s t) : Keeps true s (t.runSteps r kind) := .foldl h (fun _ _ hx => .ite (.startStep hx) hx)

theorem lockDebug (h : Keeps m s t) : Keeps m s t.lockDebug := .modEph (.wr (.wr h))

theorem restart {r} (h : Keeps true s t) : Keeps true s (t.restart r) := by
  unfold State.restart
  extract_lets x x1 s1 s2
  have hx : Keeps true s x := .emit h
  have hs1 : Keeps true s s1 := .ite (.update hx) h
  have hs2 : Keeps true s s2 := .wr (.wr (.wr hs1))
  exact .runSteps (.modEph (.lockDebug (.clearStops hs2)))

theorem stopUnits {c} (h : Keeps true s t) : Keeps true s (t.stopUnits c) := by
  unfold State.stopUnits
  extract_lets s1 s2 s3
  have hs1 : Keeps true s s1 := .abandonFade (.closeAll (.stopCluster h))
  have hs2 : Keeps true s s2 := .modLight hs1
  have hs3 : Keeps true s s3 := .modHel hs2
  exact .foldl hs3 (fun _ _ hx => .ite (.writeSafe hx) hx)

theorem beginReload (h : Keeps true s t) : Keeps true s t.beginReload := by
  unfold State.beginReload
  extract_lets s1 s2 s3
  have hs1 : Keeps true s s1 := .wr (.wr h)
  have hs2 : Keeps true s s2 := .forClusters hs1 (fun _ _ hx => .stopUnits hx)
  have hs3 : Keeps true s s3 := .endLockstep (.modEph (.inputsDown hs2))
  exact .ite hs3 (.sendArm hs3)

theorem endReload {r} (h : Keeps true s t) : Keeps true s (t.endReload r) := by
  unfold State.endReload
  extract_lets named s1
  have hs1 : Keeps true s s1 := .modEph (.runSteps h)
  exact .ite (.clearStops hs1) hs1

theorem openUpload {tg length} (h : Keeps m s t) : Keeps m s (t.openUpload tg length) := by
  unfold State.openUpload
  extract_lets s1 s2 x
  have hs1 : Keeps m s s1 := .modEph h
  have hs2 : Keeps m s s2 := .ite (.takeStaging hs1) hs1
  exact .update hs2

theorem holdPart {u} (h : Keeps m s t) : Keeps m s (t.holdPart u) := by
  unfold State.holdPart
  split
  · extract_lets key
    exact .ite h (.modEph h)
  · exact h

theorem refuseImage {r source} (h : Keeps m s t) : Keeps m s (t.refuseImage r source).1 := .mkFst (.reject h)

theorem askReload {slot} (h : Keeps m s t) : Keeps m s (t.askReload slot) := .beginStops (.modEph (.cancelSwap h))

end Keeps

namespace KeepsNext

variable {m : Bool} {s t u : State}

theorem execEphUploadBegin {t' m' target length} (h : Keeps m s t) : KeepsNext m s (Machine.execEphUploadBegin t' m' target length t) :=
  .next (.mailbox (.advance h) (fun _ hx => by
    split
    · exact .mkFst hx
    · split
      · exact .uploadRefused hx
      · split
        · split
          · exact .uploadRefused hx
          · split
            · split
              · exact .uploadRefused hx
              · exact .mkFst (.openUpload hx)
            · split
              · exact .uploadRefused hx
              · exact .mkFst (.openUpload hx)
            · exact .mkFst (.openUpload hx)
        · split
          · exact .uploadRefused hx
          · split
            · split
              · exact .uploadRefused hx
              · exact .mkFst (.openUpload hx)
            · split
              · exact .uploadRefused hx
              · exact .mkFst (.openUpload hx)
            · exact .mkFst (.openUpload hx)))

theorem execEphUploadPage {t' m' off data progOk} (h : Keeps m s t) :
    KeepsNext m s (Machine.execEphUploadPage t' m' off data progOk t) := by
  refine .next (.mailbox (.advance h) fun x hx => ?_)
  split
  · exact .mkFst hx
  · split
    · exact .uploadRefused hx
    · split
      · rename_i e
        exact .mkFst (.update (.holdPart (hx.uploadPage e)))
      · exact .uploadRefused hx

theorem execEphUploadEnd {t' m' signs hashOk plan readOk} (h : Keeps m s t) :
    KeepsNext m s (Machine.execEphUploadEnd t' m' signs hashOk plan readOk t) := by
  refine .next (.mailbox (.advance h) fun x hx => ?_)
  split
  · exact .uploadRefused hx
  · split
    · exact .uploadRefused hx
    · split
      · exact .uploadRefused hx
      · extract_lets im x s1 s2 rep
        have hs1 : Keeps m s s1 := .update hx
        have hs2 : Keeps m s s2 := .modEph hs1
        split
        · exact .refuseImage hs2
        · exact .mkFst hs2

theorem execEphActivate {t' m' slot} (h : Keeps m s t) : KeepsNext m s (Machine.execEphActivate t' m' slot t) := by
  unfold Machine.execEphActivate
  extract_lets bad slot1
  exact .next (.mailbox (.advance h) (fun _ hx => by
      split
      · exact .mkFst hx
      · split
        · exact .refuseImage hx
        · split
          · exact .refuseImage hx
          · split
            · exact .refuseImage hx
            · exact .mkFst (.askReload hx)))

theorem execEphSwap {t' m' commit} (h : Keeps m s t) : KeepsNext m s (Machine.execEphSwap t' m' commit t) := by
  unfold Machine.execEphSwap
  extract_lets bad commit1
  exact .next (.mailbox (.advance h) (fun _ hx => by
      split
      · exact .mkFst hx
      · split
        · exact .refuseImage hx
        · split
          · exact .mkFst hx
          · extract_lets words r s1
            have hs1 : Keeps m s s1 := .foldl hx (fun _ _ hx1 => .plateError hx1)
            clear_value r
            split
            · exact .refuseImage hs1
            · exact .mkFst (.beginSwap hs1)))

theorem execEphReselect {t' m'} (h : Keeps m s t) : KeepsNext m s (Machine.execEphReselect t' m' t) :=
  .next (.mailbox (.advance h) (fun _ hx => by
    split
    · exact .uploadRefused hx
    · exact .mkFst (.askReload hx)))

theorem execFullReload {t' r} (h : Keeps true s t) : KeepsNext true s (Machine.execFullReload t' r t) := by
  unfold Machine.execFullReload
  extract_lets s1 under s2
  have hs1 : Keeps true s s1 := .advance h
  have hs2 : Keeps true s s2 := .ite hs1 (.beginReload hs1)
  exact .ite (.next hs1) (.ite (.next hs1) (.next (by
      split
      · exact .endReload hs2
      · exact hs2)))

end KeepsNext

namespace Keeps

variable {m : Bool} {s t u : State}

theorem presetSetting {x} (h : Keeps m s t) : Keeps m s (t.presetSetting x) := by
  unfold State.presetSetting
  split
  · exact .wrShadow h
  · exact .storeLive h
  · exact h

theorem presetEntry {x} (h : Keeps true s t) : Keeps true s (t.presetEntry x) := by
  unfold State.presetEntry
  extract_lets a keep data
  exact .ite h (.busWriteAll h)

theorem applyPreset {p n} (h : Keeps true s t) (e : t.applyPreset p n = some u) : Keeps true s u := by
  unfold State.applyPreset at e
  split at e
  · obtain rfl := Option.some.inj e
    exact .forClusters (.foldl (.foldl h fun x a hx => .presetSetting hx) fun x a hx => .presetEntry hx) fun x c hx => .requestCommit hx
  · split at e
    · exact nomatch e
    · obtain rfl := Option.some.inj e
      exact .forClusters (.foldl h fun x _ hx => .presetEntry hx) fun x c hx => .requestCommit hx

theorem presetGo (h : Keeps true s t) : Keeps true s t.presetGo := by
  unfold State.presetGo
  extract_lets n
  split
  · rename_i x e
    obtain ⟨im, -, e⟩ := Option.bind_eq_some_iff.1 e
    exact .modEph (.wr (h.applyPreset e))
  · exact .wr (.wr h)

end Keeps

namespace KeepsNext

variable {m : Bool} {s t u : State}

theorem execPresetGo {t'} (h : Keeps true s t) : KeepsNext true s (Machine.execPresetGo t' t) := .next (.presetGo (.advance h))

theorem execDbgUnlock {t' m' token signs} (h : Keeps m s t) : KeepsNext m s (Machine.execDbgUnlock t' m' token signs t) := by
  unfold Machine.execDbgUnlock
  extract_lets b scope secs
  exact .next (.mailbox (.advance h) (fun _ hx => by
      split
      · exact .mkFst hx
      · split
        · exact .mkFst hx
        · extract_lets good f s1 s2 s3 n s4
          have hs1 : Keeps m s s1 := .wr (.freeBits hx)
          have hs2 : Keeps m s s2 := .wr (.wr hs1)
          have hs3 : Keeps m s s3 := .modEph hs2
          have hs4 : Keeps m s s4 := .wr hs1
          split
          · exact .mkFst (.report hs3)
          · exact .mkFst (.ite (.report hs4) hs4)))

theorem execDbgLock {t' m'} (h : Keeps m s t) : KeepsNext m s (Machine.execDbgLock t' m' t) := .next (.mailbox (.advance h)
    (fun _ hx => .mkFst (.lockDebug hx)))

theorem execDebugUnlockExpiry {t'} (h : Keeps m s t) : KeepsNext m s (Machine.execDebugUnlockExpiry t' t) := by
  unfold Machine.execDebugUnlockExpiry
  extract_lets s1
  have hs1 : Keeps m s s1 := .advance h
  exact .next (by
      split
      · exact .ite (.lockDebug hs1) hs1
      · exact hs1)

end KeepsNext

namespace Keeps

variable {m : Bool} {s t u : State}

theorem stopLane {c lane} (h : Keeps m s t) : Keeps m s (t.stopLane c lane) := by
  unfold State.stopLane
  extract_lets l s1
  have hs1 : Keeps m s s1 := .retireOutcome (.setWorking h)
  exact .ite h (.foldl hs1 (fun _ _ hx => .resend hx))

theorem stopPwm {j} (h : Keeps m s t) : Keeps m s (t.stopPwm j) := by
  unfold State.stopPwm
  extract_lets s1
  have hs1 : Keeps m s s1 := .wr (.wr h)
  exact .ite (.emit hs1) hs1

theorem stopTsen {j} (h : Keeps m s t) : Keeps m s (t.stopTsen j) := by
  unfold State.stopTsen
  extract_lets c
  exact .updateCeiling (.modLight (.wr h))

theorem unitDown {u i sub code items} (h : Keeps m s t) : Keeps m s (t.unitDown u i sub code items) :=
  .ite h (by
    extract_lets s1 s2
    have hs1 : Keeps m s s1 := .ite (.modObs (.observerDown h)) h
    have hs2 : Keeps m s s2 := .unitFault hs1
    split
    · exact .ite hs2 (.stopLane hs2)
    · exact .stopPwm hs2
    · exact .stopTsen hs2
    · exact hs2)

end Keeps

namespace KeepsNext

variable {m : Bool} {s t u : State}

theorem execLoadWindow {t' load} (h : Keeps m s t) : KeepsNext m s (Machine.execLoadWindow t' load t) := by
  unfold Machine.execLoadWindow
  extract_lets s1 load1 s2 w near s3 level since
  have hs1 : Keeps m s s1 := .advance h
  have hs2 : Keeps m s s2 := .modObs hs1
  have hs3 : Keeps m s s3 := .wr (.wr (.wr hs2))
  exact .ite (.next hs1) (.next (.ite (.setShed hs3) (.ite (.setShed hs3) hs3)))

theorem execWatchdogExpiry {t' code} (h : Keeps m s t) : KeepsNext m s (Machine.execWatchdogExpiry t' code t) := by
  unfold Machine.execWatchdogExpiry
  extract_lets s1 s2 past s3
  have hs1 : Keeps m s s1 := .advance h
  have hs2 : Keeps m s s2 := .report hs1
  have hs3 : Keeps m s s3 := .bump (.wr (.modObs hs2))
  exact .ite (.next hs1) (.ite (.next (.observerDown hs3)) (.next (.unitDown hs3)))

theorem execErrorReport {t' u i sub cls n items} (h : Keeps true s t) :
    KeepsNext true s (Machine.execErrorReport t' u i sub cls n items t) := by
  unfold Machine.execErrorReport
  extract_lets s1 code
  have hs1 : Keeps true s s1 := .advance h
  exact .ite (.next hs1) (.ite (.next (.moduleFatal (.reportSub hs1))) (.ite (.next (.unitDown hs1)) (.next (.reportSub (.ite
      (.bump hs1) hs1)))))

theorem execObserverBootDone {t'} (h : Keeps m s t) : KeepsNext m s (Machine.execObserverBootDone t' t) := .next (.observerUp (.advance h))

theorem execObserverFatalClear {t'} (h : Keeps m s t) : KeepsNext m s (Machine.execObserverFatalClear t' t) := .next (.clearFatal
    (.advance h))

theorem execStartup {t' r} (h : Keeps true s t) : KeepsNext true s (Machine.execStartup t' r t) := by
  unfold Machine.execStartup
  extract_lets s1 st
  have hs1 : Keeps true s s1 := .advance h
  exact .ite (.next (.ite (.runSteps (.wr (.coldState hs1))) hs1)) (.ite (.next (.runSteps hs1)) (.next hs1))

theorem execPowerFail {t' vin cut e} (h : Keeps true s t) : KeepsNext true s (Machine.execPowerFail t' vin cut e t) := by
  unfold Machine.execPowerFail
  extract_lets s1
  have hs1 : Keeps true s s1 := .wr (.advance h)
  exact .next (.ite (.powerDown hs1) hs1)

theorem execOvervoltage {t' vin cut e} (h : Keeps true s t) : KeepsNext true s (Machine.execOvervoltage t' vin cut e t) := by
  unfold Machine.execOvervoltage
  extract_lets s1
  have hs1 : Keeps true s s1 := .wr (.advance h)
  exact .ite (.next hs1) (.next (.modPwr (.powerDown (.fatalSignals (.report hs1)))))

theorem execResetIn {t' cut e} (h : Keeps true s t) : KeepsNext true s (Machine.execResetIn t' cut e t) := by
  unfold Machine.execResetIn
  extract_lets s1
  have hs1 : Keeps true s s1 := .advance h
  exact .next (.powerDown hs1)

theorem execHoldupTimeout {t' energy} (h : Keeps m s t) : KeepsNext m s (Machine.execHoldupTimeout t' energy t) := by
  unfold Machine.execHoldupTimeout
  extract_lets s1
  have hs1 : Keeps m s s1 := .advance h
  exact .next (.ite (.holdupAt hs1) hs1)

theorem execPowerGoodTimeout {t' d} (h : Keeps true s t) : KeepsNext true s (Machine.execPowerGoodTimeout t' d t) := by
  unfold Machine.execPowerGoodTimeout
  extract_lets s1
  have hs1 : Keeps true s s1 := .advance h
  exact .next (.ite (.powerGoodFail hs1) hs1)

theorem execRailOutOfRegulation {t' rail value} (h : Keeps true s t) :
    KeepsNext true s (Machine.execRailOutOfRegulation t' rail value t) := by
  unfold Machine.execRailOutOfRegulation
  extract_lets s1
  have hs1 : Keeps true s s1 := .advance h
  exact .next (.ite hs1 (.fatalEvent hs1))

end KeepsNext

namespace Keeps

variable {m : Bool} {s t u : State}

theorem pllLost {i} (h : Keeps m s t) : Keeps m s (t.pllLost i) := by
  unfold State.pllLost
  split
  · exact h
  · exact .andRun h (fun _ hx => .execFreezeRequest hx)
  · exact .andRun h (fun _ hx => .execFreezeRequest hx)
  · exact .forClusters h (fun _ _ hx => .darken hx)
  · exact .forClusters h (fun _ _ hx => .darken hx)
  · exact h
  · exact .forClusters h (fun _ _ hx => .modLight (.lensLow hx))
  · extract_lets s1 s2
    have hs1 : Keeps m s s1 := .driveFailed h
    have hs2 : Keeps m s s2 := .modArc hs1
    exact .foldl hs2 (fun _ _ hx1 => .andRun hx1 (fun _ hx2 => .execChainLaneChange hx2))

end Keeps

namespace KeepsNext

variable {m : Bool} {s t u : State}

theorem execPllLockLoss {t' i} (h : Keeps true s t) : KeepsNext true s (Machine.execPllLockLoss t' i t) := by
  unfold Machine.execPllLockLoss
  extract_lets s1 s2
  have hs1 : Keeps true s s1 := .advance h
  have hs2 : Keeps true s s2 := .bump (.wr hs1)
  exact .ite (.next hs1) (.ite (.next (.fatalEvent hs2)) (.next (.pllLost (.report hs2))))

theorem execPllRelock {t' i} (h : Keeps m s t) : KeepsNext m s (Machine.execPllRelock t' i t) := by
  unfold Machine.execPllRelock
  extract_lets s1 s2
  have hs1 : Keeps m s s1 := .advance h
  have hs2 : Keeps m s s2 := .wr hs1
  exact .ite (.next hs1) (.next (.report hs2))

theorem execFrontendRelockTimeout {t'} (h : Keeps true s t) : KeepsNext true s (Machine.execFrontendRelockTimeout t' t) := by
  unfold Machine.execFrontendRelockTimeout
  extract_lets s1
  have hs1 : Keeps true s s1 := .advance h
  exact .next (.ite hs1 (.fatalEvent hs1))

theorem execRefclkValid {t' err} (h : Keeps m s t) : KeepsNext m s (Machine.execRefclkValid t' err t) := by
  unfold Machine.execRefclkValid
  extract_lets s1
  have hs1 : Keeps m s s1 := .advance h
  exact .next (.ite hs1 (.refclkValid hs1))

theorem execRefclkLost {t'} (h : Keeps true s t) : KeepsNext true s (Machine.execRefclkLost t' t) := by
  unfold Machine.execRefclkLost
  extract_lets s1 s2
  have hs1 : Keeps true s s1 := .advance h
  have hs2 : Keeps true s s2 := .modPwr (.wr hs1)
  exact .ite (.next hs1) (.next (.ite hs2 (.fatalEvent hs2)))

theorem execStandbyEnter {t'} (h : Keeps true s t) : KeepsNext true s (Machine.execStandbyEnter t' t) := .next (.enterStandby (.advance h))

end KeepsNext

namespace Keeps

variable {m : Bool} {s t u : State}

theorem smbKeyed {cmd want key pecBad} {f : State → State} (h : Keeps m s t) (k : ∀ x, Keeps m s x → Keeps m s (f x)) :
    Keeps m s (t.smbKeyed cmd want key pecBad f) :=
  .ite h (.ite (.smbIgnored h) (.ite (.smbIgnored h) (k t h)))

theorem wake {source r} (h : Keeps true s t) : Keeps true s (t.wake source r) := .ite h (.restart (.report h))

end Keeps

namespace KeepsNext

variable {m : Bool} {s t u : State}

theorem execSmbusStandby {t' key pecBad} (h : Keeps true s t) :
    KeepsNext true s (Machine.execSmbusStandby t' key pecBad t) := .next (.smbKeyed (.advance h) (fun _ hx => .enterStandby hx))

theorem execSmbusWake {t' key pecBad r} (h : Keeps true s t) :
    KeepsNext true s (Machine.execSmbusWake t' key pecBad r t) := .next (.smbKeyed (.advance h) (fun _ hx => .wake hx))

theorem execSmbusThermalRestart {t' key pecBad r} (h : Keeps true s t) :
    KeepsNext true s (Machine.execSmbusThermalRestart t' key pecBad r t) := .next (.smbKeyed (.advance h) (fun _ hx => .ite hx
        (.restart hx)))

theorem execWake {t' m' port r} (h : Keeps true s t) : KeepsNext true s (Machine.execWake t' m' port r t) := by
  unfold Machine.execWake
  extract_lets m1 dest
  exact .next (.chainRecv (.advance h) (fun _ hx => by
      extract_lets s1
      have hs1 : Keeps true s s1 := .emit hx
      exact .ite (.wake hs1) hs1))

end KeepsNext

namespace Keeps

variable {m : Bool} {s t u : State}

theorem thermalOff {die sensor tj} (h : Keeps true s t) : Keeps true s (t.thermalOff die sensor tj) := by
  unfold State.thermalOff
  extract_lets s1 s2
  have hs1 : Keeps true s s1 := .fatalSignals (.report h)
  have hs2 : Keeps true s s2 := .pcieOff (.archiveOff (.inputsDown (.observerDown hs1)))
  exact .wr (.linksOff (.keepDomains hs2))

theorem thermalAlarm {die tj} (h : Keeps m s t) : Keeps m s (t.thermalAlarm die tj) := .ite (.ite (.report (.wr h)) h) (.ite (.report
    (.bump (.wr h))) h)

end Keeps

namespace KeepsNext

variable {m : Bool} {s t u : State}

theorem execTjSample {t' compute io hbm} (h : Keeps true s t) : KeepsNext true s (Machine.execTjSample t' compute io hbm t) := by
  unfold Machine.execTjSample
  extract_lets s1 st a b die tj s2 s3 s4
  have hs1 : Keeps true s s1 := .advance h
  have hs2 : Keeps true s s2 := .wrI (.wrI (.wrI hs1))
  have hs3 : Keeps true s s3 := .wrI hs2
  have hs4 : Keeps true s s4 := .thermalAlarm hs3
  exact .ite (.next hs1) (.next (.ite (.thermalOff hs4) hs4))

theorem execPowerShedStep {t' pin vin iin} (h : Keeps true s t) : KeepsNext true s (Machine.execPowerShedStep t' pin vin iin t) := by
  unfold Machine.execPowerShedStep
  extract_lets s1 s2 s3 lim s4 act
  have hs1 : Keeps true s s1 := .advance h
  have hs2 : Keeps true s s2 := .wr (.wr hs1)
  have hs3 : Keeps true s s3 := .wr (.wr hs2)
  have hs4 : Keeps true s s4 := .modPwr hs3
  exact .ite (.next hs1) (.next (.ite (.shedStep hs4) (.ite (.shedStep hs4) hs4)))

end KeepsNext

namespace Keeps

variable {m : Bool} {s t u : State}

theorem popRetire {c} (h : Keeps m s t) : Keeps m s (t.popRetire c) := .modPic h

theorem clearRead {a} (h : Keeps m s t) : Keeps m s (t.clearRead a) :=
  .foldl h (fun _ _ hx => by
    split
    · exact .popRetire hx
    · exact hx
    · exact .ite hx (.wr hx)
    · exact hx)

theorem busRead {a} (h : Keeps m s t) : Keeps m s (t.busRead a).1 := by
  unfold State.busRead
  split
  · exact .mkFst (.update h)
  · extract_lets v s' off
    have hs' : Keeps m s s' := .ite (.update h) h
    exact .mkFst (.ite hs' (.clearRead hs'))

end Keeps

namespace KeepsNext

variable {m : Bool} {s t u : State}

theorem readWord {a} (h : Keeps m s t) : KeepsNext m s (t.readWord a) :=
  .ite .fault (.ite (.next (.complete h)) (by
    extract_lets r
    exact .next (.complete (.busRead h))))

end KeepsNext

namespace Keeps

variable {m : Bool} {s t u : State}

theorem hostWrite {a data} (h : Keeps true s t) : Keeps true s (t.hostWrite a data) := by
  unfold State.hostWrite
  extract_lets r s1
  have hs1 : Keeps true s s1 := .foldl (.busWrite h) (fun _ _ hx => by
      split
      · exact .presetGo hx
      · exact .pull hx)
  exact .ite (.forClusters hs1 (fun _ _ hx => .noteTonly hx)) hs1

end Keeps

namespace KeepsNext

variable {m : Bool} {s t u : State}

theorem execRegisterWrite {t' addr data} (h : Keeps true s t) : KeepsNext true s (Machine.execRegisterWrite t' addr data t) := by
  unfold Machine.execRegisterWrite
  extract_lets s1
  have hs1 : Keeps true s s1 := .advance h
  exact .ite .fault (.ite (.next (.complete hs1)) (.next (.complete (.hostWrite hs1))))

theorem execBar0BadAccess {t' addr len write} (h : Keeps m s t) : KeepsNext m s (Machine.execBar0BadAccess t' addr len write t) := by
  unfold Machine.execBar0BadAccess
  extract_lets s1 x
  have hs1 : Keeps m s s1 := .advance h
  exact .ite (.next (.complete hs1)) (.ite (.next hs1) (.next (.complete (.bump hs1))))

theorem execWideLowRead {t' addr} (h : Keeps m s t) : KeepsNext m s (Machine.execWideLowRead t' addr t) := .readWord (.advance h)

theorem execRcRead {t' addr} (h : Keeps m s t) : KeepsNext m s (Machine.execRcRead t' addr t) := .readWord (.advance h)

theorem execRetirePop {t' c} (h : Keeps m s t) : KeepsNext m s (Machine.execRetirePop t' c t) := .readWord (.advance h)

theorem execFatalClear {t' u i} (h : Keeps m s t) : KeepsNext m s (Machine.execFatalClear t' u i t) := .next (.clearFatal (.advance h))

theorem execCntclr {t' u i} (h : Keeps m s t) : KeepsNext m s (Machine.execCntclr t' u i t) := .next (.clearCounters (.advance h))

theorem execApplyErrClear {t'} (h : Keeps m s t) : KeepsNext m s (Machine.execApplyErrClear t' t) := .next (.applyErrClear (.advance h))

theorem execUnitFatalFault {t' u i sub code items} (h : Keeps m s t) :
    KeepsNext m s (Machine.execUnitFatalFault t' u i sub code items t) := .next (.unitDown (.advance h))

theorem execD2dCrcRetry {t' d lane} (h : Keeps m s t) : KeepsNext m s (Machine.execD2dCrcRetry t' d lane t) := by
  unfold Machine.execD2dCrcRetry
  extract_lets s1 l
  have hs1 : Keeps m s s1 := .bump (.advance h)
  exact .ite (.next (.update hs1)) (.next (.reportSub (.update hs1)))

theorem execD2dLinkFailure {t' d laneLock} (h : Keeps true s t) : KeepsNext true s (Machine.execD2dLinkFailure t' d laneLock t) := by
  unfold Machine.execD2dLinkFailure
  extract_lets s1
  have hs1 : Keeps true s s1 := .advance h
  exact .ite (.next hs1) (.next (.fatalEvent hs1))

end KeepsNext

namespace Keeps

variable {m : Bool} {s t u : State}

theorem loseDescriptor {c k} (h : Keeps m s t) : Keeps m s (t.loseDescriptor c k) := by
  unfold State.loseDescriptor
  extract_lets x n s1 s2
  have hs1 : Keeps m s s1 := .report (.bump h)
  have hs2 : Keeps m s s2 := .modChan hs1
  exact .ite (.ite (.emit (.emit hs2)) hs2) (.flagBy (.modChan hs1))

end Keeps

namespace KeepsNext

variable {m : Bool} {s t u : State}

theorem execIsoWordDiscard {t' d word} (h : Keeps m s t) : KeepsNext m s (Machine.execIsoWordDiscard t' d word t) := by
  unfold Machine.execIsoWordDiscard
  extract_lets s1
  have hs1 : Keeps m s s1 := .report (.advance h)
  split
  · exact .next hs1
  · exact .next (.modChan hs1)
  · exact .next (.loseDescriptor hs1)
  · extract_lets n s2
    have hs2 : Keeps m s s2 := .modLight (.lensLow hs1)
    exact .next (.report (.flagBy hs2))
  · extract_lets n
    exact .next (.report (.flagBy (.undoLatch hs1)))

theorem exec {i} (h : Keeps true s t) : KeepsNext true s (Machine.exec i t) := by
  cases i with
  | registerWrite => exact .execRegisterWrite h
  | bar0BadAccess _ _ _ write => exact .execBar0BadAccess (write := write) h
  | wideLowRead => exact .execWideLowRead h
  | rcRead => exact .execRcRead h
  | retirePop => exact .execRetirePop h
  | fatalClear => exact .execFatalClear h
  | cntclr => exact .execCntclr h
  | applyErrClear => exact .execApplyErrClear h
  | unitFatalFault => exact .execUnitFatalFault h
  | d2dCrcRetry => exact .execD2dCrcRetry h
  | d2dLinkFailure => exact .execD2dLinkFailure h
  | isoWordDiscard => exact .execIsoWordDiscard h
  | ephUploadBegin => exact .execEphUploadBegin h
  | ephUploadPage => exact .execEphUploadPage h
  | ephUploadEnd => exact .execEphUploadEnd h
  | ephActivate => exact .execEphActivate h
  | ephSwap => exact .execEphSwap h
  | ephReselect => exact .execEphReselect h
  | fullReload => exact .execFullReload h
  | presetGo => exact .execPresetGo h
  | dbgUnlock => exact .execDbgUnlock h
  | dbgLock => exact .execDbgLock h
  | debugUnlockExpiry => exact .execDebugUnlockExpiry h
  | dpLinkTraining => exact .execDpLinkTraining h
  | dpFrameComplete => exact .execDpFrameComplete h
  | dpFrameDiscard => exact .execDpFrameDiscard h
  | dpInputLost => exact .execDpInputLost h
  | dpPsrChange => exact .execDpPsrChange h
  | dpPsr2Update => exact .execDpPsr2Update h
  | hostHbmWrite => exact .execHostHbmWrite h
  | hostHbmRead => exact .execHostHbmRead h
  | bar4Write => exact .execBar4Write h
  | bar4Read => exact .execBar4Read h
  | layerReadError => exact .execLayerReadError h
  | fetchLate => exact .execFetchLate h
  | fenceGo => exact .execFenceGo h
  | fenceDone => exact .execFenceDone h
  | tableWindowWrite => exact .execTableWindowWrite h
  | meshLoadGo => exact .execMeshLoadGo h
  | meshLoadComplete => exact .execMeshLoadComplete h
  | tableParityError => exact .execTableParityError h
  | schedWindowWrite => exact .execSchedWindowWrite h
  | schedCheckGo => exact .execSchedCheckGo h
  | schedCheckDone => exact .execSchedCheckDone h
  | meridian => exact .execMeridian h
  | commitRequest => exact .execCommitRequest h
  | commitCancel => exact .execCommitCancel h
  | frameStart => exact .execFrameStart h
  | segmentStart => exact .execSegmentStart h
  | planeReset => exact .execPlaneReset h
  | settleComplete => exact .execSettleComplete h
  | aWindowStart => exact .execAWindowStart h
  | tailStart => exact .execTailStart h
  | frameClose => exact .execFrameClose h
  | heldWake => exact .execHeldWake h
  | freshnessDeadlineWake => exact .execFreshnessDeadlineWake h
  | planeBandRead => exact .execPlaneBandRead h
  | fallbackExtraction => exact .execFallbackExtraction h
  | blockSend => exact .execBlockSend h
  | blockTrailerSent => exact .execBlockTrailerSent h
  | echo => exact .execEcho h
  | echoTimeout => exact .execEchoTimeout h
  | rsack => exact .execRsack h
  | rsackTimeout => exact .execRsackTimeout h
  | status => exact .execStatus h
  | temp => exact .execTemp h
  | alarm => exact .execAlarm h
  | ident0 => exact .execIdent0 h
  | ident1 => exact .execIdent1 h
  | train => exact .execTrain h
  | returnLaneLockLoss => exact .execReturnLaneLockLoss h
  | statusTimeout => exact .execStatusTimeout h
  | laneRetire => exact .execLaneRetire h
  | laneRetrain => exact .execLaneRetrain h
  | laneRetrainDone => exact .execLaneRetrainDone h
  | triocBringup => exact .execTriocBringup h
  | interlockTrip => exact .execInterlockTrip h
  | interlockRearm => exact .execInterlockRearm h
  | outputStop => exact .execOutputStop h
  | outputRearm => exact .execOutputRearm h
  | channelRearm => exact .execChannelRearm h
  | diagnow => exact .execDiagnow h
  | thermistorSample => exact .execThermistorSample h
  | lampFrameSend => exact .execLampFrameSend h
  | faultWindow => exact .execFaultWindow h
  | wearRotation => exact .execWearRotation h
  | heliostatSample => exact .execHeliostatSample h
  | slotOutputWrite => exact .execSlotOutputWrite h
  | satfaultClear => exact .execSatfaultClear h
  | colourSensorTxn => exact .execColourSensorTxn h
  | colourResultReady => exact .execColourResultReady h
  | reaffirmLayer => exact .execReaffirmLayer h
  | reaffirmTileList => exact .execReaffirmTileList h
  | reaffirmListReadDone => exact .execReaffirmListReadDone h
  | tileTableParityError => exact .execTileTableParityError h
  | hbmDetectionError => exact .execHbmDetectionError h
  | hbmWriteParityError => exact .execHbmWriteParityError h
  | regionFreeze => exact .execRegionFreeze h
  | freezeRequest => exact .execFreezeRequest h
  | freezeSnapshotDone => exact .execFreezeSnapshotDone h
  | recover => exact .execRecover h
  | recoveryDone => exact .execRecoveryDone h
  | freqChangeRequest => exact .execFreqChangeRequest h
  | freqChangeDone => exact .execFreqChangeDone h
  | pcPowerDown => exact .execPcPowerDown h
  | pcPowerDownExit => exact .execPcPowerDownExit h
  | selfRefreshEntry => exact .execSelfRefreshEntry h
  | hbmRefresh => exact .execHbmRefresh h
  | scrubRead => exact .execScrubRead h
  | trainingGo => exact .execTrainingGo h
  | trainingAbort => exact .execTrainingAbort h
  | gatherBurstEnd => exact .execGatherBurstEnd h
  | gatherBurstStart => exact .execGatherBurstStart h
  | stagedResultApply => exact .execStagedResultApply h
  | stagedResultExpiry => exact .execStagedResultExpiry h
  | scheduledTraining => exact .execScheduledTraining h
  | almRawRead => exact .execAlmRawRead h
  | almRawWrite => exact .execAlmRawWrite h
  | objectStore => exact .execObjectStore h
  | checkpoint => exact .execCheckpoint h
  | checkpointNow => exact .execCheckpointNow h
  | errorReport => exact .execErrorReport h
  | queueDrain => exact .execQueueDrain h
  | logTriggerHost => exact .execLogTriggerHost h
  | logFreeze => exact .execLogFreeze h
  | logbookSaveDone => exact .execLogbookSaveDone h
  | logRelease => exact .execLogRelease h
  | logSlotRead => exact .execLogSlotRead h
  | driveAttach => exact .execDriveAttach h
  | nvmeCommandTimeout => exact .execNvmeCommandTimeout h
  | smartPoll => exact .execSmartPoll h
  | archiveSampleTick => exact .execArchiveSampleTick h
  | ringSample => exact .execRingSample h
  | ringFlushDone => exact .execRingFlushDone h
  | archiveFlushTick => exact .execArchiveFlushTick h
  | archiveFlushDone => exact .execArchiveFlushDone h
  | logbookArchiveCopy => exact .execLogbookArchiveCopy h
  | archiveResume => exact .execArchiveResume h
  | arcQuery => exact .execArcQuery h
  | arcRead => exact .execArcRead h
  | arcAnchor => exact .execArcAnchor h
  | arcInit => exact .execArcInit h
  | startup => exact .execStartup h
  | powerFail => exact .execPowerFail h
  | overvoltage => exact .execOvervoltage h
  | resetIn => exact .execResetIn h
  | holdupTimeout => exact .execHoldupTimeout h
  | powerGoodTimeout => exact .execPowerGoodTimeout h
  | pllLockLoss => exact .execPllLockLoss h
  | frontendRelockTimeout => exact .execFrontendRelockTimeout h
  | refclkValid => exact .execRefclkValid h
  | refclkLost => exact .execRefclkLost h
  | standbyEnter => exact .execStandbyEnter h
  | tjSample => exact .execTjSample h
  | powerShedStep => exact .execPowerShedStep h
  | pcieReset => exact .execPcieReset h
  | pcieLinkLoss => exact .execPcieLinkLoss h
  | evrModerationTimeout => exact .execEvrModerationTimeout h
  | version => exact .execVersion h
  | fwUpdateBegin => exact .execFwUpdateBegin h
  | fwUpdatePage => exact .execFwUpdatePage h
  | fwUpdateEnd => exact .execFwUpdateEnd h
  | tagRead => exact .execTagRead h
  | tagWrite => exact .execTagWrite h
  | telemetry => exact .execTelemetry h
  | smbusStatusRead => exact .execSmbusStatusRead h
  | smbusTagRead => exact .execSmbusTagRead h
  | smbusStandby => exact .execSmbusStandby h
  | smbusWake => exact .execSmbusWake h
  | smbusThermalRestart => exact .execSmbusThermalRestart h
  | uartReceive => exact .execUartReceive h
  | headElection => exact .execHeadElection h
  | enumTick => exact .execEnumTick h
  | enum => exact .execEnum h
  | enumdone => exact .execEnumdone h
  | pingTick => exact .execPingTick h
  | ping => exact .execPing h
  | pong => exact .execPong h
  | timeTick => exact .execTimeTick h
  | time => exact .execTime h
  | timeTimeout => exact .execTimeTimeout h
  | wallTimeSet => exact .execWallTimeSet h
  | fsyncTick => exact .execFsyncTick h
  | fsync => exact .execFsync h
  | chainLaneChange => exact .execChainLaneChange h
  | coherentArm => exact .execCoherentArm h
  | armResend => exact .execArmResend h
  | arm => exact .execArm h
  | commitDecision => exact .execCommitDecision h
  | go => exact .execGo h
  | defer => exact .execDefer h
  | abort => exact .execAbort h
  | trig => exact .execTrig h
  | chainWakeSend => exact .execChainWakeSend h
  | wake => exact .execWake h
  | hb _ _ sel lockstep => exact .execHb (sel := sel) (lockstep := lockstep) h
  | hbSend => exact .execHbSend h
  | heartbeatLoss => exact .execHeartbeatLoss h
  | mark => exact .execMark h
  | id => exact .execId h
  | pend => exact .execPend h
  | crcrep => exact .execCrcrep h
  | map => exact .execMap h
  | chstate => exact .execChstate h
  | take => exact .execTake h
  | xfatal _ code => exact .execXfatal (code := code) h
  | transitLaneDrop => exact .execTransitLaneDrop h
  | handover => exact .execHandover h
  | takeoverSwitch => exact .execTakeoverSwitch h
  | selPeerChange => exact .execSelPeerChange h
  | roleTimeout => exact .execRoleTimeout h
  | selRetryTimeout => exact .execSelRetryTimeout h
  | loadWindow => exact .execLoadWindow h
  | watchdogExpiry => exact .execWatchdogExpiry h
  | observerBootDone => exact .execObserverBootDone h
  | observerFatalClear => exact .execObserverFatalClear h
  | layerFetchDone => exact .execLayerFetchDone h
  | railOutOfRegulation => exact .execRailOutOfRegulation h
  | pllRelock => exact .execPllRelock h
  | pcieLinkUp => exact .execPcieLinkUp h
  | pcieConfigWrite => exact .execPcieConfigWrite h
  | transitLinkUp => exact .execTransitLinkUp h
  | nvmeLinkDown => exact .execNvmeLinkDown h
  | nvmeCommandComplete => exact .execNvmeCommandComplete h
  | dpAuxTransaction => exact .execDpAuxTransaction h
  | pwmPeriod => exact .execPwmPeriod h
  | flashEraseDone => exact .execFlashEraseDone h

end KeepsNext

namespace Keeps

variable {m : Bool} {s t u : State}

theorem countUnmapped {f a dir} (h : Keeps m s t) : Keeps m s (t.countUnmapped f a dir) := .report (.bump h)

theorem mailRequested {code m' args page} (h : Keeps m s t) : Keeps m s (t.mailRequested code m' args page) := by
  unfold State.mailRequested
  extract_lets x
  have hx : Keeps m s x := .foldl (.wr (.wr h)) (fun _ _ hx1 => .wr hx1)
  exact .writePage (.wr (.wr hx))

end Keeps

/-! ### Steps -/

/-- What a step keeps of the state that it starts from, but for the command that it takes. -/
theorem step_keeps {s t : State} (h : step s = .next t) : Keeps true { s with pending := s.pending.tail } t := by
  unfold step at h
  split at h
  · rename_i e
    obtain rfl := Host.Outcome.next.inj h
    exact ⟨by simp [e], Nat.le_refl _, rfl, id, id, id, id, id, nofun⟩
  · rename_i c rest e
    have hexec : KeepsNext true { s with pending := rest } (exec c { s with pending := rest }) := .exec .refl
    rw [h] at hexec
    rw [e]
    exact hexec

/-- Settles O4: every operation of the model keeps the canonical forms and the bounds (`Keeps`), and so does a step, which is made of them. -/
theorem goodKept : Obligations.GoodKept := by
  unfold Obligations.GoodKept
  rintro s t ⟨hhbm, hplate, hraw, hregs, hlog⟩ h
  exact (step_keeps h).good ⟨hhbm, hplate, hraw, hregs, hlog⟩

/-- Settles O5: the queue, the clock and the device's constants are among what every operation keeps. -/
theorem stepConsumesOne : Obligations.StepConsumesOne := by
  unfold Obligations.StepConsumesOne
  intro s t h
  obtain ⟨hpending, hnow, hdev, -⟩ := step_keeps h
  exact ⟨hpending, hnow, hdev⟩

/-- Settles O3: the reset state lists nothing. -/
theorem goodAtReset : Obligations.GoodAtReset := by
  unfold Obligations.GoodAtReset
  exact ⟨rfl, rfl, rfl, ⟨fun _ h => absurd h List.not_mem_nil, .nil⟩, ⟨Nat.zero_le _, Nat.zero_le _, Nat.zero_le _, fun _ h => absurd h List.not_mem_nil⟩⟩

/-- Settles O1: the front of the queue is what `step` runs. -/
theorem stepRunsFront : Obligations.StepRunsFront := by
  unfold Obligations.StepRunsFront
  intro c s
  rfl

/-- Settles O2: `step` of an empty queue. -/
theorem idleStep : Obligations.IdleStep := by
  unfold Obligations.IdleStep
  intro s h
  rw [step, h]

end Sys2Proof.Machine
end

section
/-! What a command's operations leave of the registers: one relation, with a rule for each plain operation, from which the frames `OnlyRegs`
and `OnlyRegsAndEvents` follow. -/

namespace Sys2Proof.Machine

set_option Elab.async false

/-- From s to t no register outside P changes. -/
def WritesOnly (P : Fld → Nat → Prop) (s t : State) : Prop := ∀ f i, ¬ P f i → t.rd f i = s.rd f i

namespace WritesOnly

variable {P Q : Fld → Nat → Prop} {s t u : State}

theorem refl : WritesOnly P s s := fun _ _ _ => rfl

theorem trans (h : WritesOnly P s t) (k : WritesOnly P t u) : WritesOnly P s u :=
  fun f i hf => (k f i hf).trans (h f i hf)

theorem mono (h : WritesOnly P s t) (k : ∀ f i, P f i → Q f i) : WritesOnly Q s t :=
  fun f i hf => h f i fun hp => hf (k f i hp)

/-- Whatever leaves every register alone. -/
theorem same (h : WritesOnly P s t) (e : ∀ f i, u.rd f i = t.rd f i) : WritesOnly P s u :=
  fun f i hf => (e f i).trans (h f i hf)

theorem wr {g : Fld} {j v : Nat} (h : WritesOnly P s t) (hp : P g j) : WritesOnly P s (t.wr g j v) :=
  h.trans fun f i hf => State.rd_wr_ne t (by rintro ⟨rfl, rfl⟩; exact hf hp)

theorem wrb {g : Fld} {j : Nat} {b : Bool} (h : WritesOnly P s t) (hp : P g j) : WritesOnly P s (t.wrb g j b) := h.wr hp

theorem wrI {g : Fld} {j : Nat} {v : Int} (h : WritesOnly P s t) (hp : P g j) : WritesOnly P s (t.wrI g j v) := h.wr hp

theorem bump {g : Fld} {j : Nat} (h : WritesOnly P s t) (hp : P g j) : WritesOnly P s (t.bump g j) := h.wr hp

theorem reportSub {ut : UType} {j sub code : Nat} {items : List (Nat × Nat)} (h : WritesOnly P s t)
    (he : ∀ f i, eventFld f = true → P f i) : WritesOnly P s (t.reportSub ut j sub code items) :=
  h.trans fun f i hf => by
    obtain ⟨hs, hl, hh⟩ := part_of_not_eventFld (f := f) (by simpa using fun e => hf (he f i e))
    exact State.reportSub_rd _ _ _ _ _ _ hs hl hh

theorem report {ut : UType} {j code : Nat} {items : List (Nat × Nat)} (h : WritesOnly P s t)
    (he : ∀ f i, eventFld f = true → P f i) : WritesOnly P s (t.report ut j code items) := h.reportSub he

theorem ite {c : Prop} [Decidable c] (h : WritesOnly P s t) (k : WritesOnly P s u) : WritesOnly P s (if c then t else u) := by
  split
  · exact h
  · exact k

theorem foldl {α : Type} {g : State → α → State} {l : List α} (h : WritesOnly P s t)
    (k : ∀ x, ∀ a ∈ l, WritesOnly P s x → WritesOnly P s (g x a)) : WritesOnly P s (l.foldl g t) := by
  induction l generalizing t with
  | nil => exact h
  | cons a l ih =>
    exact ih (k t a (List.mem_cons_self ..) h) fun x b hb => k x b (List.mem_cons_of_mem _ hb)

theorem foldl' {α : Type} {g : State → α → State} {l : List α} (h : WritesOnly P s t)
    (k : ∀ x a, WritesOnly P s x → WritesOnly P s (g x a)) : WritesOnly P s (l.foldl g t) :=
  h.foldl fun x a _ => k x a

end WritesOnly

/-- The registers of a list, and no other. -/
abbrev inList (d : List (Fld × Nat)) (f : Fld) (i : Nat) : Prop := (f, i) ∈ d

/-- The registers of a list, and those that a report may change. -/
abbrev inListOrEvent (d : List (Fld × Nat)) (f : Fld) (i : Nat) : Prop := (f, i) ∈ d ∨ eventFld f = true

theorem inListOrEvent_event {d : List (Fld × Nat)} (f : Fld) (i : Nat) (h : eventFld f = true) : inListOrEvent d f i := .inr h

theorem WritesOnly.onlyRegs {s t : State} {d : List (Fld × Nat)} (h : WritesOnly (inList d) s t) : OnlyRegs s t d := h

theorem WritesOnly.onlyRegsAndEvents {s t : State} {d : List (Fld × Nat)} (h : WritesOnly (inListOrEvent d) s t) : OnlyRegsAndEvents s t d :=
  fun f i hd he => h f i (by simp [inListOrEvent, hd, he])

namespace State

@[simp] theorem signal_regs (s : State) (n : Nat) : (s.signal n).regs = s.regs := by
  unfold signal
  split_ifs <;> rfl

@[simp] theorem bump_rd_same (s : State) (f : Fld) (i : Nat) : (s.bump f i).rd f i = satN f.info.width (s.rd f i + 1) := rd_bump_same s f i

/-- A fold that clears registers. -/
theorem rd_foldl_clear (s : State) (l : List (Fld × Nat)) (f : Fld) (i : Nat) :
    (l.foldl (fun s x => s.wr x.1 x.2 0) s).rd f i = if (f, i) ∈ l then 0 else s.rd f i := by
  induction l generalizing s with
  | nil => simp
  | cons x l ih =>
    rw [List.foldl_cons, ih, rd_wr]
    by_cases hx : f = x.1 ∧ i = x.2
    · obtain ⟨rfl, rfl⟩ := hx
      simp
    · have hne : (f, i) ≠ x := fun e => hx ⟨congrArg Prod.fst e, congrArg Prod.snd e⟩
      simp [hx, hne]

end State

end Sys2Proof.Machine
end

section
/-! The bus of BAR0 (R9, R10, R377, R441), APPLY_ERR_CLEAR (R444), CNTCLR and the clearing of FATAL (R16). -/

namespace Sys2Proof.Machine

set_option Elab.async false

/-- Settles O7: `execBar0BadAccess` counts in PCI_ERR.BADACC alone. -/
theorem badAccessCounted : Obligations.BadAccessCounted := by
  unfold Obligations.BadAccessCounted
  intro t addr len write s hd hn
  have hr : exec (.bar0BadAccess t addr len write) s = .next (((s.advance t).bump (.pci .errBadacc) 0).complete .ur []) := by
    change execBar0BadAccess t addr len write s = _
    simp [execBar0BadAccess, hd, hn]
  exact ⟨_, hr, rfl, State.rd_bump_same .., fun f i h => State.rd_bump_ne _ h⟩

/-- APPLY_ERR_CLEAR clears the fields of the record one by one. -/
theorem applyErrClear_eq (s : State) :
    s.applyErrClear = (applyErrFields.map fun f => (f, 0)).foldl (fun s x => s.wr x.1 x.2 0) s := rfl

/-- Settles O8: the fields of the record are what `applyErrClear` folds over. -/
theorem applyErrCleared : Obligations.ApplyErrCleared := by
  unfold Obligations.ApplyErrCleared
  intro t s
  obtain ⟨hhbm, hplate, hraw⟩ := (Keeps.applyErrClear (.advance .refl) : Keeps false s (s.advance t).applyErrClear).sameMemory
  refine ⟨_, rfl, fun f hf => ?_, fun f i h => ?_, hhbm, hplate, hraw⟩
  · rw [applyErrClear_eq, State.rd_foldl_clear, if_pos (List.mem_map_of_mem hf)]
  · rw [applyErrClear_eq, State.rd_foldl_clear, if_neg, State.advance_rd]
    rintro hm
    obtain ⟨g, hg, e⟩ := List.mem_map.1 hm
    obtain ⟨rfl, rfl⟩ := Prod.mk.inj e
    exact h ⟨hg, rfl⟩

/-- Settles O9: a unit's counters are what `clearCounters` folds over, after ERRCNT. -/
theorem unitCountersCleared : Obligations.UnitCountersCleared := by
  unfold Obligations.UnitCountersCleared
  intro t u i s
  have hrd (f : Fld) (j : Nat) : ((s.advance t).clearCounters u i).rd f j =
      if (f, j) ∈ clearedCounters u i then 0 else if f = .st u .errcnt ∧ j = i then 0 else s.rd f j := by
    rw [State.clearCounters, State.rd_foldl_clear, State.rd_wr, Nat.zero_mod]
    rfl
  refine ⟨_, rfl, ?_, fun x hx => ?_, fun f j he hc => ?_⟩
  · rw [hrd]
    simp
  · rw [hrd, if_pos hx]
  · rw [hrd, if_neg hc, if_neg he]

/-- What the clearing of FATAL leaves of the registers beside FATAL itself: of a slot OPENLOOP follows (R227), and the Observer's count of
expiries begins anew (R430). -/
theorem clearFatal_writesOnly (s : State) (u : UType) (i : Nat) :
    WritesOnly (fun f _ => (u = .slot ∧ f = .hel .slotStatOpenloop) ∨ (u = .obs ∧ f = .obs .wdogRecent)) (s.wr (.st u .fatal) i 0)
      (s.clearFatal u i) := by
  unfold State.clearFatal
  extract_lets s1 s2
  have h2 : WritesOnly (fun f _ => (u = .slot ∧ f = .hel .slotStatOpenloop) ∨ (u = .obs ∧ f = .obs .wdogRecent)) s1 s2 := by
    simp only [s2]
    split
    · rename_i hu
      exact .same (.wrb .refl (.inl ⟨by simpa using hu, rfl⟩)) fun _ _ => rfl
    · exact .refl
  split
  · exact h2
  · rename_i hu
    exact .wr (.same h2 fun _ _ => rfl) (.inr ⟨by simp_all, rfl⟩)

/-- Settles O10: what `clearFatal` writes beside FATAL. -/
theorem fatalCleared : Obligations.FatalCleared := by
  unfold Obligations.FatalCleared
  intro t u i s
  have h := clearFatal_writesOnly (s.advance t) u i
  refine ⟨_, rfl, ?_, fun hu f j hf hs => ?_⟩
  · rw [h _ _ (by simp), State.rd_wr_same, Nat.zero_mod]
  · rw [h _ _ (by simp [hu]; exact hs), State.rd_wr_ne _ hf, State.advance_rd]

namespace State

/-- An address of a cluster that is fused off (R448). -/
def absentAt (s : State) (a : Nat) : Bool := match addrCluster a with | some c => !s.clusterOn c | none => false

/-- A read of the low word of a wide value latches the high word (R10). -/
def latchHigh (s : State) (a : Nat) : State :=
  if wideLow a then { s with rdLatch := (a + 4, s.peek (a + 4)) :: s.rdLatch.filter fun y => y.1 != a + 4 } else s

/-- What the reading of a word does to one of its fields (R441). -/
def clearField (s : State) (x : Fld × Nat × Nat) : State :=
  match x.1.info.acc, x.1 with
  | .rc, .pix .layerRetireLayer => s.popRetire (Fin.ofNat 4 x.2.1)
  | .rc, .pix _ => s
  | .rc, f => if (wordSlice f.info x.2.2).2.2 == 0 then s else s.wr f x.2.1 0
  | _, _ => s

theorem clearRead_eq (s : State) (a : Nat) : s.clearRead a = (fieldsAt a).foldl clearField s := rfl

theorem busRead_of_latched {s : State} {a : Nat} {x : Nat × Nat} (h : (s.rdLatch.find? fun x => x.1 == a) = some x) :
    s.busRead a = ({ s with rdLatch := s.rdLatch.filter fun y => y.1 != a }, x.2) := by
  rw [busRead, h]

theorem busRead_of_unlatched {s : State} {a : Nat} (h : (s.rdLatch.find? fun x => x.1 == a) = none) :
    s.busRead a = (if s.absentAt a then s.latchHigh a else (s.latchHigh a).clearRead a, s.peek a) := by
  rw [busRead, h]
  rfl

theorem clearField_cases (s : State) (x : Fld × Nat × Nat) :
    s.clearField x = s ∨ (∃ c, s.clearField x = s.popRetire c) ∨ (x.1.info.acc = .rc ∧ s.clearField x = s.wr x.1 x.2.1 0) := by
  unfold clearField
  split
  · exact .inr (.inl ⟨_, rfl⟩)
  · exact .inl rfl
  · rename_i hacc _ _
    split
    · exact .inl rfl
    · exact .inr (.inr ⟨hacc, rfl⟩)
  · exact .inl rfl

theorem clearField_rc {s : State} {x : Fld × Nat × Nat} (hacc : x.1.info.acc = .rc) (hp : x.1.part ≠ .reg .pix)
    (hw : (wordSlice x.1.info x.2.2).2.2 ≠ 0) : s.clearField x = s.wr x.1 x.2.1 0 := by
  unfold clearField
  split
  · rename_i e
    simp [e] at hp
  · rename_i e
    simp [e] at hp
  · simp [hw]
  · simp_all

@[simp] theorem clearField_rdLatch (s : State) (x : Fld × Nat × Nat) : (s.clearField x).rdLatch = s.rdLatch := by
  rcases s.clearField_cases x with e | ⟨c, e⟩ | ⟨-, e⟩ <;> rw [e] <;> rfl

/-- A field that is not of type RC keeps its value. -/
theorem clearField_rd_of_not_rc (s : State) (x : Fld × Nat × Nat) {f : Fld} (i : Nat) (hf : f.info.acc ≠ .rc) :
    (s.clearField x).rd f i = s.rd f i := by
  rcases s.clearField_cases x with e | ⟨c, e⟩ | ⟨hacc, e⟩
  · rw [e]
  · rw [e]
    rfl
  · rw [e]
    exact rd_wr_ne _ (by rintro ⟨rfl, -⟩; exact hf hacc)

/-- A register that is 0 stays 0. -/
theorem clearField_rd_zero {s : State} (x : Fld × Nat × Nat) {f : Fld} {i : Nat} (h : s.rd f i = 0) : (s.clearField x).rd f i = 0 := by
  rcases s.clearField_cases x with e | ⟨c, e⟩ | ⟨-, e⟩
  · rwa [e]
  · rwa [e]
  · rw [e, rd_wr]
    split
    · exact Nat.zero_mod _
    · exact h

theorem clearRead_rdLatch (s : State) (a : Nat) : (s.clearRead a).rdLatch = s.rdLatch := by
  rw [clearRead_eq]
  generalize fieldsAt a = l
  induction l generalizing s with
  | nil => rfl
  | cons x l ih => rw [List.foldl_cons, ih, clearField_rdLatch]

theorem clearRead_rd_of_not_rc (s : State) (a : Nat) {f : Fld} (i : Nat) (hf : f.info.acc ≠ .rc) : (s.clearRead a).rd f i = s.rd f i := by
  rw [clearRead_eq]
  generalize fieldsAt a = l
  induction l generalizing s with
  | nil => rfl
  | cons x l ih => rw [List.foldl_cons, ih, clearField_rd_of_not_rc _ _ _ hf]

theorem clearRead_rd_rc (s : State) (a : Nat) {x : Fld × Nat × Nat} (hx : x ∈ fieldsAt a) (hacc : x.1.info.acc = .rc)
    (hp : x.1.part ≠ .reg .pix) (hw : (wordSlice x.1.info x.2.2).2.2 ≠ 0) : (s.clearRead a).rd x.1 x.2.1 = 0 := by
  rw [clearRead_eq]
  generalize fieldsAt a = l at hx
  have hzero (l : List (Fld × Nat × Nat)) : ∀ s : State, s.rd x.1 x.2.1 = 0 → (l.foldl clearField s).rd x.1 x.2.1 = 0 := by
    induction l with
    | nil => exact fun _ h => h
    | cons y l ih => exact fun s h => ih _ (clearField_rd_zero y h)
  induction l generalizing s with
  | nil => exact nomatch hx
  | cons y l ih =>
    rcases List.mem_cons.1 hx with rfl | hx
    · refine hzero l _ ?_
      rw [clearField_rc hacc hp hw, rd_wr_same, Nat.zero_mod]
    · exact ih _ hx

@[simp] theorem latchHigh_rd (s : State) (a : Nat) (f : Fld) (i : Nat) : (s.latchHigh a).rd f i = s.rd f i := by
  unfold latchHigh
  split <;> rfl

theorem readWord_eq {s : State} {a : Nat} (ha : a < bar0End) (h4 : a % 4 = 0) (hd : s.host.d3hot = false) :
    s.readWord a = .next ((s.busRead a).1.complete .ok (leBytes 4 (s.busRead a).2)) := by
  have e : a / 4 * 4 = a := by omega
  simp [readWord, Nat.not_le.2 ha, hd, e]

end State

theorem find?_rdLatch_none {s : State} {a : Nat} (h : ∀ x ∈ s.rdLatch, x.1 ≠ a) : (s.rdLatch.find? fun x => x.1 == a) = none := by
  simpa using fun x y hx => h (x, y) hx

/-- Settles O12: `busRead` of a low word without a latched word at its address. -/
theorem wideLowLatched : Obligations.WideLowLatched := by
  unfold Obligations.WideLowLatched
  intro t a s ha h4 hd hw hl
  have hread := State.busRead_of_unlatched (find?_rdLatch_none (s := s.advance t) hl)
  have hlatch : ((s.advance t).latchHigh a).rdLatch.find? (fun x => x.1 == a + 4) = some (a + 4, (s.advance t).peek (a + 4)) := by
    rw [State.latchHigh, if_pos hw]
    simp
  refine ⟨_, State.readWord_eq (s := s.advance t) ha h4 hd, ?_, ?_⟩
  · rw [hread]
    rfl
  · rw [hread, State.complete_rdLatch]
    split
    · exact hlatch
    · rw [State.clearRead_rdLatch]
      exact hlatch

/-- Settles O13: `busRead` of an address whose word is latched. -/
theorem latchedHighRead : Obligations.LatchedHighRead := by
  unfold Obligations.LatchedHighRead
  intro t a v s ha h4 hd hl
  have hread := State.busRead_of_latched (s := s.advance t) hl
  refine ⟨_, State.readWord_eq (s := s.advance t) ha h4 hd, ?_, fun x hx => ?_, fun f i => ?_⟩
  · rw [hread]
    rfl
  · rw [hread] at hx
    simpa using (List.mem_filter.1 hx).2
  · rw [hread]
    rfl

/-- Settles O14: what `clearRead` clears and what it leaves. -/
theorem rcFieldsCleared : Obligations.RcFieldsCleared := by
  unfold Obligations.RcFieldsCleared
  intro t a s ha h4 hd hl hon
  have habsent : (s.advance t).absentAt a = false := by
    unfold State.absentAt
    split
    · rename_i c e
      have h : (s.advance t).clusterOn c = true := hon c e
      simp [h]
    · rfl
  have hread : (s.advance t).busRead a = (((s.advance t).latchHigh a).clearRead a, (s.advance t).peek a) := by
    rw [State.busRead_of_unlatched (find?_rdLatch_none (s := s.advance t) hl), habsent]
    rfl
  refine ⟨_, State.readWord_eq (s := s.advance t) ha h4 hd, ?_, fun x hx hacc hp hw => ?_, fun f i hf => ?_⟩
  · rw [hread]
    rfl
  · rw [State.complete_rd, hread]
    exact State.clearRead_rd_rc _ a hx hacc hp hw
  · rw [State.complete_rd, hread, State.clearRead_rd_of_not_rc _ a i hf, State.latchHigh_rd, State.advance_rd]

end Sys2Proof.Machine
end

section
/-! Which parts of the state an operation may change (`Part`): the frames of the invariant's operations, part by part. -/

namespace Sys2Proof.Machine

set_option Elab.async false

/-- From s to t no part of the state outside a list has changed. -/
def Touches (ps : List Part) (s t : State) : Prop := ∀ p, p ∉ ps → SameOn p s t

theorem sameOn_refl {p : Part} {s : State} : SameOn p s s := by
  unfold SameOn
  split
  · exact fun _ _ _ => rfl
  · exact fun _ _ _ => rfl
  all_goals rfl

theorem sameOn_trans {p : Part} {s t u : State} (h : SameOn p s t) (k : SameOn p t u) : SameOn p s u := by
  unfold SameOn at *
  split at h
  · exact fun f i hf => (k f i hf).trans (h f i hf)
  · exact fun f i hf => (k f i hf).trans (h f i hf)
  all_goals exact k.trans h

/-- What a register reads where its part is the same. -/
theorem SameOn.rd {p : Part} {s t : State} (h : SameOn p s t) {f : Fld} (i : Nat) (hf : f.part = p) : t.rd f i = s.rd f i := by
  subst hf
  cases f <;> exact h _ i rfl

theorem sameOn_of_rd {f : Fld} {s t : State} (h : ∀ g i, g.part = f.part → t.rd g i = s.rd g i) : SameOn f.part s t := by
  cases f <;> exact h

/-- States that differ in no more than the registers. -/
theorem sameOn_of_regs {p : Part} {s : State} {r : List RegCell} (h : ∀ f : Fld, f.part = p → ∀ i, ({ s with regs := r } : State).rd f i = s.rd f i) :
    SameOn p s { s with regs := r } := by
  cases p <;> first | exact rfl | exact fun f i e => h f e i

namespace Touches

variable {ps qs : List Part} {s t u : State}

theorem refl : Touches ps s s := fun _ _ => sameOn_refl

theorem trans (h : Touches ps s t) (k : Touches ps t u) : Touches ps s u := fun p hp => sameOn_trans (h p hp) (k p hp)

theorem mono (h : Touches ps s t) (k : ps ⊆ qs) : Touches qs s t := fun p hp => h p fun e => hp (k e)

theorem after (h : Touches qs s t) (k : Touches ps t u) (hp : ps ⊆ qs) : Touches qs s u := h.trans (k.mono hp)

theorem rd (h : Touches ps s t) (f : Fld) (i : Nat) (hf : f.part ∉ ps := by decide) : t.rd f i = s.rd f i := (h _ hf).rd i rfl

theorem wr {f : Fld} {i v : Nat} (h : Touches ps s t) (hp : f.part ∈ ps := by dsimp only [Fld.part]; decide) : Touches ps s (t.wr f i v) :=
  h.trans fun p hn => sameOn_of_regs fun g hg j => State.rd_wr_ne t (by
    rintro ⟨rfl, rfl⟩
    exact hn (hg ▸ hp))

theorem wrb {f : Fld} {i : Nat} {b : Bool} (h : Touches ps s t) (hp : f.part ∈ ps := by dsimp only [Fld.part]; decide) : Touches ps s (t.wrb f i b) := h.wr hp

theorem wrI {f : Fld} {i : Nat} {v : Int} (h : Touches ps s t) (hp : f.part ∈ ps := by dsimp only [Fld.part]; decide) : Touches ps s (t.wrI f i v) := h.wr hp

theorem bumpBy {f : Fld} {i n : Nat} (h : Touches ps s t) (hp : f.part ∈ ps := by dsimp only [Fld.part]; decide) : Touches ps s (t.bumpBy f i n) := h.wr hp

theorem bump {f : Fld} {i : Nat} (h : Touches ps s t) (hp : f.part ∈ ps := by dsimp only [Fld.part]; decide) : Touches ps s (t.bump f i) := h.wr hp

theorem ite {c : Prop} [Decidable c] (h : Touches ps s t) (k : Touches ps s u) : Touches ps s (if c then t else u) := by
  split
  · exact h
  · exact k

theorem mkSnd {α : Type} {a : α} (h : Touches ps s t) : Touches ps s (a, t).2 := h

theorem mkFst {α : Type} {a : α} (h : Touches ps s t) : Touches ps s (t, a).1 := h

theorem foldl {α : Type} {g : State → α → State} {l : List α} (h : Touches ps s t)
    (k : ∀ x a, Touches ps s x → Touches ps s (g x a)) : Touches ps s (l.foldl g t) := by
  induction l generalizing t with
  | nil => exact h
  | cons a l ih => exact ih (k t a h)

/-- Registers that are set one after another. -/
theorem wrs {l : List Setting} (h : Touches ps s t) (hp : ∀ x ∈ l, x.fld.part ∈ ps) : Touches ps s (t.wrs l) := by
  unfold State.wrs
  induction l generalizing t with
  | nil => exact h
  | cons a l ih => exact ih (h.wr (hp a (List.mem_cons_self ..))) fun x hx => hp x (List.mem_cons_of_mem _ hx)

theorem foldlSnd {α β : Type} {g : β × State → α → β × State} {l : List α} {p : β × State} (h : Touches ps s p.2)
    (k : ∀ x a, Touches ps s x.2 → Touches ps s (g x a).2) : Touches ps s (l.foldl g p).2 := by
  induction l generalizing p with
  | nil => exact h
  | cons a l ih => exact ih (k p a h)

theorem forClusters {l : List (Fin 4)} {f : State → Fin 4 → State} (h : Touches ps s t)
    (k : ∀ x c, Touches ps s x → Touches ps s (f x c)) : Touches ps s (t.forClusters l f) := h.foldl k

theorem foldlFst {α β : Type} {g : State × β → α → State × β} {l : List α} {p : State × β} (h : Touches ps s p.1)
    (k : ∀ x a, Touches ps s x.1 → Touches ps s (g x a).1) : Touches ps s (l.foldl g p).1 := by
  induction l generalizing p with
  | nil => exact h
  | cons a l ih => exact ih (k p a h)

/-! A change of one component, and of what no part speaks of. -/

theorem setRest {pending now completion out fresh dev} (h : Touches ps s t) :
    Touches ps s { t with pending, now, completion, out, fresh, dev } :=
  h.trans fun p _ => by cases p <;> first | exact rfl | exact fun _ _ _ => rfl

theorem setShadow {x} (h : Touches ps s t) (hp : Part.shadow ∈ ps := by decide) : Touches ps s { t with shadow := x } :=
  h.trans fun p hn => by cases p <;> first | exact (hn hp).elim | exact rfl | exact fun _ _ _ => rfl

theorem setRdLatch {x} (h : Touches ps s t) (hp : Part.rdLatch ∈ ps := by decide) : Touches ps s { t with rdLatch := x } :=
  h.trans fun p hn => by cases p <;> first | exact (hn hp).elim | exact rfl | exact fun _ _ _ => rfl

theorem setWrHold {x} (h : Touches ps s t) (hp : Part.wrHold ∈ ps := by decide) : Touches ps s { t with wrHold := x } :=
  h.trans fun p hn => by cases p <;> first | exact (hn hp).elim | exact rfl | exact fun _ _ _ => rfl

theorem setHeldLive {x} (h : Touches ps s t) (hp : Part.heldLive ∈ ps := by decide) : Touches ps s { t with heldLive := x } :=
  h.trans fun p hn => by cases p <;> first | exact (hn hp).elim | exact rfl | exact fun _ _ _ => rfl

theorem setInsts {x} (h : Touches ps s t) (hp : Part.insts ∈ ps := by decide) : Touches ps s { t with insts := x } :=
  h.trans fun p hn => by cases p <;> first | exact (hn hp).elim | exact rfl | exact fun _ _ _ => rfl

theorem setHbm {x} (h : Touches ps s t) (hp : Part.hbm ∈ ps := by decide) : Touches ps s { t with hbm := x } :=
  h.trans fun p hn => by cases p <;> first | exact (hn hp).elim | exact rfl | exact fun _ _ _ => rfl

theorem setPlate {x} (h : Touches ps s t) (hp : Part.plate ∈ ps := by decide) : Touches ps s { t with plate := x } :=
  h.trans fun p hn => by cases p <;> first | exact (hn hp).elim | exact rfl | exact fun _ _ _ => rfl

theorem setRaw {x} (h : Touches ps s t) (hp : Part.raw ∈ ps := by decide) : Touches ps s { t with raw := x } :=
  h.trans fun p hn => by cases p <;> first | exact (hn hp).elim | exact rfl | exact fun _ _ _ => rfl

theorem setCfg {x} (h : Touches ps s t) (hp : Part.cfg ∈ ps := by decide) : Touches ps s { t with cfg := x } :=
  h.trans fun p hn => by cases p <;> first | exact (hn hp).elim | exact rfl | exact fun _ _ _ => rfl

theorem setPic {x} (h : Touches ps s t) (hp : Part.pic ∈ ps := by decide) : Touches ps s { t with pic := x } :=
  h.trans fun p hn => by cases p <;> first | exact (hn hp).elim | exact rfl | exact fun _ _ _ => rfl

theorem setChr {x} (h : Touches ps s t) (hp : Part.chr ∈ ps := by decide) : Touches ps s { t with chr := x } :=
  h.trans fun p hn => by cases p <;> first | exact (hn hp).elim | exact rfl | exact fun _ _ _ => rfl

theorem setTri {x} (h : Touches ps s t) (hp : Part.tri ∈ ps := by decide) : Touches ps s { t with tri := x } :=
  h.trans fun p hn => by cases p <;> first | exact (hn hp).elim | exact rfl | exact fun _ _ _ => rfl

theorem setLight {x} (h : Touches ps s t) (hp : Part.light ∈ ps := by decide) : Touches ps s { t with light := x } :=
  h.trans fun p hn => by cases p <;> first | exact (hn hp).elim | exact rfl | exact fun _ _ _ => rfl

theorem setHel {x} (h : Touches ps s t) (hp : Part.hel ∈ ps := by decide) : Touches ps s { t with hel := x } :=
  h.trans fun p hn => by cases p <;> first | exact (hn hp).elim | exact rfl | exact fun _ _ _ => rfl

theorem setDp {x} (h : Touches ps s t) (hp : Part.dp ∈ ps := by decide) : Touches ps s { t with dp := x } :=
  h.trans fun p hn => by cases p <;> first | exact (hn hp).elim | exact rfl | exact fun _ _ _ => rfl

theorem setMem {x} (h : Touches ps s t) (hp : Part.mem ∈ ps := by decide) : Touches ps s { t with mem := x } :=
  h.trans fun p hn => by cases p <;> first | exact (hn hp).elim | exact rfl | exact fun _ _ _ => rfl

theorem setHbmMem {x y} (h : Touches ps s t) (hx : Part.hbm ∈ ps := by decide) (hy : Part.mem ∈ ps := by decide) :
    Touches ps s { t with hbm := x, mem := y } := (h.setHbm (x := x) hx).setMem hy

theorem setPlateMem {x y} (h : Touches ps s t) (hx : Part.plate ∈ ps := by decide) (hy : Part.mem ∈ ps := by decide) :
    Touches ps s { t with plate := x, mem := y } := (h.setPlate (x := x) hx).setMem hy

theorem setTrn {x} (h : Touches ps s t) (hp : Part.trn ∈ ps := by decide) : Touches ps s { t with trn := x } :=
  h.trans fun p hn => by cases p <;> first | exact (hn hp).elim | exact rfl | exact fun _ _ _ => rfl

theorem setEph {x} (h : Touches ps s t) (hp : Part.eph ∈ ps := by decide) : Touches ps s { t with eph := x } :=
  h.trans fun p hn => by cases p <;> first | exact (hn hp).elim | exact rfl | exact fun _ _ _ => rfl

theorem setAlm {x} (h : Touches ps s t) (hp : Part.alm ∈ ps := by decide) : Touches ps s { t with alm := x } :=
  h.trans fun p hn => by cases p <;> first | exact (hn hp).elim | exact rfl | exact fun _ _ _ => rfl

theorem setLog {x} (h : Touches ps s t) (hp : Part.log ∈ ps := by decide) : Touches ps s { t with log := x } :=
  h.trans fun p hn => by cases p <;> first | exact (hn hp).elim | exact rfl | exact fun _ _ _ => rfl

theorem setArc {x} (h : Touches ps s t) (hp : Part.arc ∈ ps := by decide) : Touches ps s { t with arc := x } :=
  h.trans fun p hn => by cases p <;> first | exact (hn hp).elim | exact rfl | exact fun _ _ _ => rfl

theorem setPwr {x} (h : Touches ps s t) (hp : Part.pwr ∈ ps := by decide) : Touches ps s { t with pwr := x } :=
  h.trans fun p hn => by cases p <;> first | exact (hn hp).elim | exact rfl | exact fun _ _ _ => rfl

theorem setHost {x} (h : Touches ps s t) (hp : Part.host ∈ ps := by decide) : Touches ps s { t with host := x } :=
  h.trans fun p hn => by cases p <;> first | exact (hn hp).elim | exact rfl | exact fun _ _ _ => rfl

theorem setChn {x} (h : Touches ps s t) (hp : Part.chn ∈ ps := by decide) : Touches ps s { t with chn := x } :=
  h.trans fun p hn => by cases p <;> first | exact (hn hp).elim | exact rfl | exact fun _ _ _ => rfl

theorem setPar {x} (h : Touches ps s t) (hp : Part.par ∈ ps := by decide) : Touches ps s { t with par := x } :=
  h.trans fun p hn => by cases p <;> first | exact (hn hp).elim | exact rfl | exact fun _ _ _ => rfl

theorem setObs {x} (h : Touches ps s t) (hp : Part.obs ∈ ps := by decide) : Touches ps s { t with obs := x } :=
  h.trans fun p hn => by cases p <;> first | exact (hn hp).elim | exact rfl | exact fun _ _ _ => rfl

theorem setHostObs {x y} (h : Touches ps s t) (hx : Part.host ∈ ps := by decide) (hy : Part.obs ∈ ps := by decide) :
    Touches ps s { t with host := x, obs := y } := (h.setHost (x := x) hx).setObs hy

theorem setHeldPermit {x} (h : Touches ps s t) (hp : Part.heldPermit ∈ ps := by decide) : Touches ps s { t with heldPermit := x } :=
  h.trans fun p hn => by cases p <;> first | exact (hn hp).elim | exact rfl | exact fun _ _ _ => rfl

theorem setStopped {x} (h : Touches ps s t) (hp : Part.stopped ∈ ps := by decide) : Touches ps s { t with stopped := x } :=
  h.trans fun p hn => by cases p <;> first | exact (hn hp).elim | exact rfl | exact fun _ _ _ => rfl

theorem setRetries {x} (h : Touches ps s t) (hp : Part.retries ∈ ps := by decide) : Touches ps s { t with retries := x } :=
  h.trans fun p hn => by cases p <;> first | exact (hn hp).elim | exact rfl | exact fun _ _ _ => rfl

end Touches

/-- A command's answer leaves what `Touches` does not name, if it is a next state. -/
def TouchesNext (ps : List Part) (s : State) : Result → Prop
  | .next t => Touches ps s t
  | .fault _ | .refused _ => True

namespace TouchesNext

variable {ps : List Part} {s t : State} {a b : Result}

theorem next (h : Touches ps s t) : TouchesNext ps s (.next t) := h

theorem fault {e} : TouchesNext ps s (.fault e) := trivial

theorem refused {e} : TouchesNext ps s (.refused e) := trivial

theorem after {qs : List Part} (h : Touches qs s t) (k : TouchesNext ps t a) (hp : ps ⊆ qs) : TouchesNext qs s a := by
  cases a with
  | next u => exact h.after k hp
  | fault e => trivial
  | refused e => trivial

theorem ite {c : Prop} [Decidable c] (h : TouchesNext ps s a) (k : TouchesNext ps s b) : TouchesNext ps s (if c then a else b) := by
  split
  · exact h
  · exact k

end TouchesNext

namespace Touches

variable {ps : List Part} {s t : State}

def Parts.modPic : List Part := [.pic]

theorem modPic {c f} (h : Touches ps s t) (hp : Parts.modPic ⊆ ps := by decide) : Touches ps s (t.modPic c f) :=
  h.after (.setPic .refl) hp

def Parts.modChr : List Part := [.chr]

theorem modChr {c f} (h : Touches ps s t) (hp : Parts.modChr ⊆ ps := by decide) : Touches ps s (t.modChr c f) :=
  h.after (.setChr .refl) hp

def Parts.modTri : List Part := [.tri]

theorem modTri {c f} (h : Touches ps s t) (hp : Parts.modTri ⊆ ps := by decide) : Touches ps s (t.modTri c f) :=
  h.after (.setTri .refl) hp

def Parts.modLight : List Part := [.light]

theorem modLight {c f} (h : Touches ps s t) (hp : Parts.modLight ⊆ ps := by decide) : Touches ps s (t.modLight c f) :=
  h.after (.setLight .refl) hp

def Parts.modHel : List Part := [.hel]

theorem modHel {c f} (h : Touches ps s t) (hp : Parts.modHel ⊆ ps := by decide) : Touches ps s (t.modHel c f) :=
  h.after (.setHel .refl) hp

def Parts.modDp : List Part := [.dp]

theorem modDp {i f} (h : Touches ps s t) (hp : Parts.modDp ⊆ ps := by decide) : Touches ps s (t.modDp i f) :=
  h.after (.setDp .refl) hp

def Parts.modRegion : List Part := [.mem]

theorem modRegion {r f} (h : Touches ps s t) (hp : Parts.modRegion ⊆ ps := by decide) : Touches ps s (t.modRegion r f) := by
  refine h.after ?_ hp
  unfold State.modRegion
  extract_lets x
  exact .setMem .refl

def Parts.modLayer : List Part := [.pic]

theorem modLayer {c l f} (h : Touches ps s t) (hp : Parts.modLayer ⊆ ps := by decide) : Touches ps s (t.modLayer c l f) :=
  h.after (.modPic .refl) hp

def Parts.modChan : List Part := [.light]

theorem modChan {c k f} (h : Touches ps s t) (hp : Parts.modChan ⊆ ps := by decide) : Touches ps s (t.modChan c k f) :=
  h.after (.modLight .refl) hp

def Parts.modSlot : List Part := [.hel]

theorem modSlot {c i f} (h : Touches ps s t) (hp : Parts.modSlot ⊆ ps := by decide) : Touches ps s (t.modSlot c i f) :=
  h.after (.modHel .refl) hp

def Parts.emit : List Part := []

theorem emit {o} (h : Touches ps s t) (hp : Parts.emit ⊆ ps := by decide) : Touches ps s (t.emit o) :=
  h.after (.setRest .refl) hp

def Parts.freeBits : List Part := []

theorem freeBits {w} (h : Touches ps s t) (hp : Parts.freeBits ⊆ ps := by decide) : Touches ps s (t.freeBits w).2 :=
  h.after (.mkSnd (.setRest .refl)) hp

def Parts.advance : List Part := []

theorem advance {t'} (h : Touches ps s t) (hp : Parts.advance ⊆ ps := by decide) : Touches ps s (t.advance t') :=
  h.after (.setRest .refl) hp

def Parts.modLog : List Part := [.log]

theorem modLog {f} (h : Touches ps s t) (hp : Parts.modLog ⊆ ps := by decide) : Touches ps s (t.modLog f) :=
  h.after (.setLog .refl) hp

def Parts.lose : List Part := [.reg .log, .log]

theorem lose {cls n} (h : Touches ps s t) (hp : Parts.lose ⊆ ps := by decide) : Touches ps s (t.lose cls n) := by
  refine h.after ?_ hp
  unfold State.lose
  split
  · exact .modLog (.bumpBy .refl)
  · exact .modLog (.bumpBy .refl)
  · exact .modLog (.bumpBy .refl)
  · exact .refl

def Parts.setQueue : List Part := [.reg .log, .log]

theorem setQueue {q} (h : Touches ps s t) (hp : Parts.setQueue ⊆ ps := by decide) : Touches ps s (t.setQueue q) := by
  refine h.after ?_ hp
  unfold State.setQueue
  extract_lets s1
  have hs1 : Touches Parts.setQueue t s1 := .wr (.modLog .refl)
  exact .ite (.wr hs1) hs1

def Parts.enqueue : List Part := [.reg .log, .log]

theorem enqueue {r} (h : Touches ps s t) (hp : Parts.enqueue ⊆ ps := by decide) : Touches ps s (t.enqueue r) := by
  refine h.after ?_ hp
  unfold State.enqueue
  extract_lets cls
  exact .ite (.modLog .refl) (by
      split
      · exact .setQueue .refl
      · exact .ite (.ite (.setQueue .refl) (by
          split
          · exact .setQueue (.lose .refl)
          · exact .modLog .refl)) (.ite (.setQueue .refl) (.lose .refl)))

def Parts.logTrigger : List Part := [.reg .log, .log]

theorem logTrigger {cause} (h : Touches ps s t) (hp : Parts.logTrigger ⊆ ps := by decide) : Touches ps s (t.logTrigger cause) := by
  refine h.after ?_ hp
  unfold State.logTrigger
  extract_lets s1
  have hs1 : Touches Parts.logTrigger t s1 := .modLog .refl
  exact .ite (.wr (.modLog hs1)) (by
      split
      · exact .modLog hs1
      · exact .modLog hs1)

def Parts.wakeHeld : List Part := [.reg .chr, .chr]

theorem wakeHeld {c cause} (h : Touches ps s t) (hp : Parts.wakeHeld ⊆ ps := by decide) : Touches ps s (t.wakeHeld c cause) := by
  refine h.after ?_ hp
  unfold State.wakeHeld
  split
  · exact .ite .refl (.wr (.modChr .refl))
  · exact .refl

def Parts.reportSub : List Part := [.reg .log, .reg .chr, .status, .chr, .log, .pwr, .stopped]

theorem reportSub {u i sub code items} (h : Touches ps s t) (hp : Parts.reportSub ⊆ ps := by decide) :
    Touches ps s (t.reportSub u i sub code items) :=
  h.after (.ite .refl (by
    extract_lets cls r s1 s2 s3 s4 x s5 s6 s7 x1
    have hs1 : Touches Parts.reportSub t s1 := .bump (.wr .refl)
    have hs2 : Touches Parts.reportSub t s2 := .wr hs1
    have hs3 : Touches Parts.reportSub t s3 := .ite (.setStopped hs2) hs1
    have hs4 : Touches Parts.reportSub t s4 := .modLog hs3
    have hs5 : Touches Parts.reportSub t s5 := .ite (.setPwr hs4) hs4
    have hs6 : Touches Parts.reportSub t s6 := .enqueue hs5
    have hs7 : Touches Parts.reportSub t s7 := .ite (.wakeHeld hs6) hs6
    exact .ite (.logTrigger (.emit (.setPwr hs7))) hs7)) hp

def Parts.report : List Part := [.reg .log, .reg .chr, .status, .chr, .log, .pwr, .stopped]

theorem report {u i code items} (h : Touches ps s t) (hp : Parts.report ⊆ ps := by decide) : Touches ps s (t.report u i code items) :=
  h.after (.reportSub .refl) hp

def Parts.applyErr : List Part := [.reg .glb]

theorem applyErr {addr cause src} (h : Touches ps s t) (hp : Parts.applyErr ⊆ ps := by decide) :
    Touches ps s (t.applyErr addr cause src) := by
  refine h.after ?_ hp
  unfold State.applyErr
  extract_lets s1 s2 s3
  have hs1 : Touches Parts.applyErr t s1 := .ite .refl (.wr (.wr (.wr (.wr .refl))))
  have hs2 : Touches Parts.applyErr t s2 := .wr (.wr (.wr hs1))
  have hs3 : Touches Parts.applyErr t s3 := .ite (.wr hs2) hs2
  exact .bump hs3

def Parts.wrShadow : List Part := [.shadow]

theorem wrShadow {f i v} (h : Touches ps s t) (hp : Parts.wrShadow ⊆ ps := by decide) : Touches ps s (t.wrShadow f i v) :=
  h.after (.setShadow .refl) hp

def Parts.wrSwap : List Part := [.shadow]

theorem wrSwap {f i v} (h : Touches ps s t) (hp : Parts.wrSwap ⊆ ps := by decide) : Touches ps s (t.wrSwap f i v) :=
  h.after (.setShadow .refl) hp

def Parts.modArc : List Part := [.arc]

theorem modArc {f} (h : Touches ps s t) (hp : Parts.modArc ⊆ ps := by decide) : Touches ps s (t.modArc f) :=
  h.after (.setArc .refl) hp

def Parts.modOut : List Part := [.arc]

theorem modOut {c f} (h : Touches ps s t) (hp : Parts.modOut ⊆ ps := by decide) : Touches ps s (t.modOut c f) :=
  h.after (.modArc .refl) hp

def Parts.sendNvme : List Part := [.arc]

theorem sendNvme {kind n data} (h : Touches ps s t) (hp : Parts.sendNvme ⊆ ps := by decide) : Touches ps s (t.sendNvme kind n data) := by
  refine h.after ?_ hp
  unfold State.sendNvme
  extract_lets cmd
  exact .emit (.modArc .refl)

def Parts.writeSuper : List Part := [.reg .arc, .arc]

theorem writeSuper {tail tailSeq} (h : Touches ps s t) (hp : Parts.writeSuper ⊆ ps := by decide) :
    Touches ps s (t.writeSuper tail tailSeq) := by
  refine h.after ?_ hp
  unfold State.writeSuper
  split
  · exact .refl
  · split
    · exact .refl
    · extract_lets n d1
      exact .sendNvme (.wr (.modArc .refl))

def Parts.openExtent : List Part := [.reg .arc, .arc]

theorem openExtent {r} (h : Touches ps s t) (hp : Parts.openExtent ⊆ ps := by decide) : Touches ps s (t.openExtent r) := by
  refine h.after ?_ hp
  unfold State.openExtent
  split
  · exact .refl
  · extract_lets n last idx s1 e
    have hs1 : Touches Parts.openExtent t s1 := by
      simp only [s1]
      split
      · exact .ite .refl (.writeSuper (.modArc .refl))
      · exact .refl
    exact .wr (.modArc hs1)

def Parts.placeRec : List Part := [.reg .arc, .arc]

theorem placeRec {r} (h : Touches ps s t) (hp : Parts.placeRec ⊆ ps := by decide) : Touches ps s (t.placeRec r).2 := by
  refine h.after ?_ hp
  unfold State.placeRec
  extract_lets fresh s1 head put
  have hs1 : Touches Parts.placeRec t s1 := .ite (.modArc (.openExtent .refl)) .refl
  exact .mkSnd (.modArc hs1)

def Parts.issueWrite : List Part := [.reg .arc, .arc]

theorem issueWrite (h : Touches ps s t) (hp : Parts.issueWrite ⊆ ps := by decide) : Touches ps s t.issueWrite :=
  h.after (.ite .refl (by
    extract_lets l r
    exact .sendNvme (.foldlSnd (.mkSnd .refl) (fun _ _ hz => by
        extract_lets p
        exact .mkSnd (.placeRec hz))))) hp

def Parts.stageRec : List Part := [.reg .log, .reg .arc, .reg .chr, .status, .chr, .log, .arc, .pwr, .stopped]

theorem stageRec {rtype rflags time src body} (h : Touches ps s t) (hp : Parts.stageRec ⊆ ps := by decide) :
    Touches ps s (t.stageRec rtype rflags time src body) :=
  h.after (.ite .refl (by
    extract_lets r used pad pads s1
    have hs1 : Touches Parts.stageRec t s1 := .ite (.modArc .refl) (.modArc .refl)
    exact .ite (.report (.bump (.modArc .refl))) (.issueWrite hs1))) hp

def Parts.stageNote : List Part := [.reg .log, .reg .arc, .reg .chr, .status, .chr, .log, .arc, .pwr, .stopped]

theorem stageNote {kind data} (h : Touches ps s t) (hp : Parts.stageNote ⊆ ps := by decide) : Touches ps s (t.stageNote kind data) :=
  h.after (.stageRec .refl) hp

def Parts.gatherDigests : List Part := [.reg .log, .reg .arc, .reg .chr, .status, .chr, .log, .arc, .pwr, .stopped]

theorem gatherDigests {c} (h : Touches ps s t) (hp : Parts.gatherDigests ⊆ ps := by decide) : Touches ps s (t.gatherDigests c) := by
  refine h.after ?_ hp
  unfold State.gatherDigests
  extract_lets o next
  split
  · exact .refl
  · extract_lets s1
    have hs1 : Touches Parts.gatherDigests t s1 := .stageRec .refl
    exact .modOut hs1

def Parts.takeDigest : List Part := [.reg .log, .reg .arc, .reg .chr, .status, .chr, .log, .arc, .pwr, .stopped]

theorem takeDigest {c bytes d frame mtime} (h : Touches ps s t) (hp : Parts.takeDigest ⊆ ps := by decide) :
    Touches ps s (t.takeDigest c bytes d frame mtime) := by
  refine h.after ?_ hp
  unfold State.takeDigest
  extract_lets s1
  have hs1 : Touches Parts.takeDigest t s1 := .modOut .refl
  exact .ite (.gatherDigests hs1) hs1

def Parts.loseRing : List Part := [.arc]

theorem loseRing (h : Touches ps s t) (hp : Parts.loseRing ⊆ ps := by decide) : Touches ps s t.loseRing :=
  h.after (.modArc .refl) hp

def Parts.modMem : List Part := [.mem]

theorem modMem {f} (h : Touches ps s t) (hp : Parts.modMem ⊆ ps := by decide) : Touches ps s (t.modMem f) :=
  h.after (.setMem .refl) hp

def Parts.signal : List Part := [.host]

theorem signal {n} (h : Touches ps s t) (hp : Parts.signal ⊆ ps := by decide) : Touches ps s (t.signal n) :=
  h.after (.ite .refl (.ite (by
    extract_lets x
    exact .setHost .refl) (.emit .refl))) hp

def Parts.signalCluster : List Part := [.host]

theorem signalCluster {c base en} (h : Touches ps s t) (hp : Parts.signalCluster ⊆ ps := by decide) :
    Touches ps s (t.signalCluster c base en) :=
  h.after (.ite (.signal .refl) .refl) hp

def Parts.showCache : List Part := [.reg .plt]

theorem showCache {r} (h : Touches ps s t) (hp : Parts.showCache ⊆ ps := by decide) : Touches ps s (t.showCache r) :=
  h.after (.wr (.wr .refl)) hp

def Parts.dropCopies : List Part := [.reg .plt, .mem]

theorem dropCopies {f} (h : Touches ps s t) (hp : Parts.dropCopies ⊆ ps := by decide) : Touches ps s (t.dropCopies f) := by
  refine h.after ?_ hp
  unfold State.dropCopies
  extract_lets gone s1
  have hs1 : Touches Parts.dropCopies t s1 := .modMem .refl
  exact .ite .refl (.foldl hs1 (fun _ _ hx => .showCache (.bumpBy hx)))

def Parts.takeStaging : List Part := [.reg .plt, .mem, .eph]

theorem takeStaging {length} (h : Touches ps s t) (hp : Parts.takeStaging ⊆ ps := by decide) : Touches ps s (t.takeStaging length) := by
  refine h.after ?_ hp
  unfold State.takeStaging
  extract_lets n free s1 got x s2
  have hs1 : Touches Parts.takeStaging t s1 := .ite .refl (.dropCopies .refl)
  have hs2 : Touches Parts.takeStaging t s2 := .setEph hs1
  exact .foldl (.modMem hs2) (fun _ _ hx1 => .showCache hx1)

def Parts.dropTileReaff : List Part := [.pic]

theorem dropTileReaff {c l} (h : Touches ps s t) (hp : Parts.dropTileReaff ⊆ ps := by decide) : Touches ps s (t.dropTileReaff c l) :=
  h.after (.modPic .refl) hp

def Parts.dropReaff : List Part := [.pic]

theorem dropReaff {c l} (h : Touches ps s t) (hp : Parts.dropReaff ⊆ ps := by decide) : Touches ps s (t.dropReaff c l) :=
  h.after (.modPic (.dropTileReaff (.modLayer .refl))) hp

def Parts.postRetire : List Part := [.reg .log, .reg .chr, .status, .pic, .chr, .log, .pwr, .host, .stopped]

theorem postRetire {c l le} (h : Touches ps s t) (hp : Parts.postRetire ⊆ ps := by decide) : Touches ps s (t.postRetire c l le) := by
  refine h.after ?_ hp
  unfold State.postRetire
  extract_lets s1
  have hs1 : Touches Parts.postRetire t s1 := .modPic .refl
  exact .signalCluster (.report hs1)

def Parts.retireAll : List Part := [.reg .log, .reg .chr, .status, .pic, .chr, .log, .pwr, .host, .stopped]

theorem retireAll {c ended l} (h : Touches ps s t) (hp : Parts.retireAll ⊆ ps := by decide) : Touches ps s (t.retireAll c ended l) := by
  induction l generalizing t with
  | nil => exact h
  | cons x rest ih =>
    unfold State.retireAll
    extract_lets same le keep0 keep s1
    have hs1 : Touches Parts.retireAll t s1 := .ite (.forClusters .refl fun _ _ hx => .modPic hx) (.postRetire .refl)
    split
    · exact ih h
    · exact ih (h.after hs1 hp)

def Parts.endLeases : List Part := [.reg .log, .reg .chr, .reg .plt, .status, .pic, .chr, .mem, .log, .pwr, .host, .stopped]

theorem endLeases {c ls new} (h : Touches ps s t) (hp : Parts.endLeases ⊆ ps := by decide) : Touches ps s (t.endLeases c ls new) := by
  refine h.after ?_ hp
  unfold State.endLeases
  extract_lets ended s1 s2
  have hs1 : Touches Parts.endLeases t s1 := .foldl .refl (fun _ _ hx => .dropCopies (.dropReaff (.modLayer hx)))
  have hs2 : Touches Parts.endLeases t s2 := .foldl hs1 (fun _ _ hx => .modLayer hx)
  exact .retireAll hs2

def Parts.setRange : List Part := [.light]

theorem setRange {c at' high} (h : Touches ps s t) (hp : Parts.setRange ⊆ ps := by decide) : Touches ps s (t.setRange c at' high) := by
  refine h.after ?_ hp
  unfold State.setRange
  extract_lets base
  exact .emit (.modLight .refl)

def Parts.strobe : List Part := [.hel]

theorem strobe {c tsrc prim at'} (h : Touches ps s t) (hp : Parts.strobe ⊆ ps := by decide) : Touches ps s (t.strobe c tsrc prim at') := by
  refine h.after ?_ hp
  unfold State.strobe
  extract_lets r i
  exact .emit (.modHel .refl)

def Parts.releaseLref : List Part := [.light]

theorem releaseLref {c k} (h : Touches ps s t) (hp : Parts.releaseLref ⊆ ps := by decide) : Touches ps s (t.releaseLref c k) := by
  refine h.after ?_ hp
  unfold State.releaseLref
  split
  · exact .ite .refl (by
      extract_lets s1
      have hs1 : Touches Parts.releaseLref t s1 := .modChan .refl
      exact .ite (.emit hs1) hs1)
  · exact .refl

def Parts.takeLref : List Part := [.light]

theorem takeLref {c k code} (h : Touches ps s t) (hp : Parts.takeLref ⊆ ps := by decide) : Touches ps s (t.takeLref c k code) := by
  refine h.after ?_ hp
  unfold State.takeLref
  extract_lets s1 x s2 holds
  have hs1 : Touches Parts.takeLref t s1 := .releaseLref .refl
  have hs2 : Touches Parts.takeLref t s2 := .modChan hs1
  exact .ite (.modChan hs1) (.ite (.emit hs2) hs2)

def Parts.deliver : List Part := [.light, .hel]

theorem deliver {c u d} (h : Touches ps s t) (hp : Parts.deliver ⊆ ps := by decide) : Touches ps s (t.deliver c u d) := by
  refine h.after ?_ hp
  unfold State.deliver
  split
  · exact .ite (.takeLref .refl) .refl
  · exact .ite (.modHel .refl) .refl
  · exact .refl

def Parts.writeOut : List Part := [.reg .chr, .reg .hel, .chr, .light, .hel]

theorem writeOut {c i u} (h : Touches ps s t) (hp : Parts.writeOut ⊆ ps := by decide) : Touches ps s (t.writeOut c i u) := by
  refine h.after ?_ hp
  unfold State.writeOut
  extract_lets j was s1 s2 tol
  have hs1 : Touches Parts.writeOut t s1 := .modSlot (.wrI .refl)
  have hs2 : Touches Parts.writeOut t s2 := .foldl hs1 (fun _ _ hx => .deliver hx)
  exact .ite (.wakeHeld hs2) hs2

def Parts.writeSafe : List Part := [.reg .chr, .reg .hel, .chr, .light, .hel]

theorem writeSafe {c i} (h : Touches ps s t) (hp : Parts.writeSafe ⊆ ps := by decide) : Touches ps s (t.writeSafe c i) :=
  h.after (.writeOut .refl) hp

def Parts.noteTonly : List Part := [.chr]

theorem noteTonly {c} (h : Touches ps s t) (hp : Parts.noteTonly ⊆ ps := by decide) : Touches ps s (t.noteTonly c) := by
  refine h.after ?_ hp
  unfold State.noteTonly
  extract_lets cause n
  exact .modChr .refl

def Parts.showOpen : List Part := [.reg .hel, .chr]

theorem showOpen {c i} (h : Touches ps s t) (hp : Parts.showOpen ⊆ ps := by decide) : Touches ps s (t.showOpen c i) :=
  h.after (.noteTonly (.wrb .refl)) hp

def Parts.stopSlot : List Part := [.reg .chr, .reg .hel, .chr, .light, .hel]

theorem stopSlot {c i} (h : Touches ps s t) (hp : Parts.stopSlot ⊆ ps := by decide) : Touches ps s (t.stopSlot c i) :=
  h.after (.showOpen (.writeSafe .refl)) hp

def Parts.sendCommand : List Part := [.tri]

theorem sendCommand {c op first last place hold replay pid at'} (h : Touches ps s t) (hp : Parts.sendCommand ⊆ ps := by decide) :
    Touches ps s (t.sendCommand c op first last place hold replay pid at') := by
  refine h.after ?_ hp
  unfold State.sendCommand
  extract_lets run lanes cmd s1
  have hs1 : Touches Parts.sendCommand t s1 := .modTri .refl
  exact .ite (.emit hs1) hs1

def Parts.dumpNow : List Part := [.tri]

theorem dumpNow {c} (h : Touches ps s t) (hp : Parts.dumpNow ⊆ ps := by decide) : Touches ps s (t.dumpNow c) :=
  h.after (.sendCommand .refl) hp

def Parts.sendDump : List Part := [.tri]

theorem sendDump {c} (h : Touches ps s t) (hp : Parts.sendDump ⊆ ps := by decide) : Touches ps s (t.sendDump c) :=
  h.after (.ite .refl (.dumpNow .refl)) hp

def Parts.modEng : List Part := [.trn]

theorem modEng {e f} (h : Touches ps s t) (hp : Parts.modEng ⊆ ps := by decide) : Touches ps s (t.modEng e f) := by
  refine h.after ?_ hp
  unfold State.modEng
  extract_lets x
  exact .setTrn .refl

def Parts.violate : List Part := [.trn]

theorem violate {code hit} (h : Touches ps s t) (hp : Parts.violate ⊆ ps := by decide) : Touches ps s (t.violate code hit) :=
  h.after (.foldl .refl (fun _ _ hx => by
    extract_lets st
    exact .ite (.modEng hx) hx)) hp

def Parts.noTapEvent : List Part := [.reg .log, .reg .chr, .status, .chr, .log, .pwr, .stopped]

theorem noTapEvent {die key} (h : Touches ps s t) (hp : Parts.noTapEvent ⊆ ps := by decide) : Touches ps s (t.noTapEvent die key) := by
  refine h.after ?_ hp
  unfold State.noTapEvent
  extract_lets b w
  exact .report (.freeBits (.freeBits .refl))

def Parts.addLit : List Part := [.reg .lsr, .light]

theorem addLit {c k n pat} (h : Touches ps s t) (hp : Parts.addLit ⊆ ps := by decide) : Touches ps s (t.addLit c k n pat) := by
  refine h.after ?_ hp
  unfold State.addLit
  extract_lets i x em s1 s2
  have hs1 : Touches Parts.addLit t s1 := .wr .refl
  have hs2 : Touches Parts.addLit t s2 := .foldl hs1 (fun _ _ hx1 => .ite hx1 (.wr hx1))
  exact .modChan hs2

def Parts.litUntil : List Part := [.reg .lsr, .light]

theorem litUntil {c k from' upto} (h : Touches ps s t) (hp : Parts.litUntil ⊆ ps := by decide) :
    Touches ps s (t.litUntil c k from' upto) := by
  refine h.after ?_ hp
  unfold State.litUntil
  extract_lets l dim r
  exact .addLit (.modLight .refl)

def Parts.setLenAt : List Part := [.reg .lsr, .light, .trn]

theorem setLenAt {c k v dly} (h : Touches ps s t) (hp : Parts.setLenAt ⊆ ps := by decide) : Touches ps s (t.setLenAt c k v dly) :=
  h.after (.ite .refl (by
    extract_lets s1 edge was s2 s3
    have hs1 : Touches Parts.setLenAt t s1 := .ite (.violate .refl) .refl
    have hs2 : Touches Parts.setLenAt t s2 := .ite hs1 (.litUntil hs1)
    have hs3 : Touches Parts.setLenAt t s3 := .modChan hs2
    exact .ite hs3 (.ite (.emit hs3) (.emit hs3)))) hp

def Parts.setLen : List Part := [.reg .lsr, .light, .trn]

theorem setLen {c k v} (h : Touches ps s t) (hp : Parts.setLen ⊆ ps := by decide) : Touches ps s (t.setLen c k v) :=
  h.after (.setLenAt .refl) hp

def Parts.cutDiag : List Part := [.reg .lsr, .light]

theorem cutDiag {c k} (h : Touches ps s t) (hp : Parts.cutDiag ⊆ ps := by decide) : Touches ps s (t.cutDiag c k) := by
  refine h.after ?_ hp
  unfold State.cutDiag
  extract_lets x s1 upto s2
  have hs1 : Touches Parts.cutDiag t s1 := .addLit .refl
  have hs2 : Touches Parts.cutDiag t s2 := .modChan hs1
  exact .ite .refl (.ite (.emit hs2) hs2)

def Parts.contentLow : List Part := [.reg .lsr, .light, .trn]

theorem contentLow {c} (h : Touches ps s t) (hp : Parts.contentLow ⊆ ps := by decide) : Touches ps s (t.contentLow c) :=
  h.after (.foldl .refl (fun _ _ hx => .setLen hx)) hp

def Parts.lensLow : List Part := [.reg .lsr, .light, .trn]

theorem lensLow {c} (h : Touches ps s t) (hp : Parts.lensLow ⊆ ps := by decide) : Touches ps s (t.lensLow c) :=
  h.after (.foldl .refl (fun _ _ hx => .cutDiag (.setLen hx))) hp

def Parts.markAllTiles : List Part := [.reg .frs, .pic]

theorem markAllTiles {c} (h : Touches ps s t) (hp : Parts.markAllTiles ⊆ ps := by decide) : Touches ps s (t.markAllTiles c) := by
  refine h.after ?_ hp
  unfold State.markAllTiles
  extract_lets s1
  have hs1 : Touches Parts.markAllTiles t s1 := .modPic .refl
  exact .wr hs1

def Parts.abandonFade : List Part := [.reg .lsr, .light]

theorem abandonFade {c} (h : Touches ps s t) (hp : Parts.abandonFade ⊆ ps := by decide) : Touches ps s (t.abandonFade c) :=
  h.after (.ite .refl (.wr (.wr (.wr (.modLight .refl))))) hp

def Parts.darken : List Part := [.reg .log, .reg .frs, .reg .chr, .reg .lsr, .reg .plt, .status, .pic, .chr, .tri, .light, .mem, .trn,
    .log, .pwr, .host, .stopped]

theorem darken {c fault u i code} (h : Touches ps s t) (hp : Parts.darken ⊆ ps := by decide) : Touches ps s (t.darken c fault u i code) :=
  h.after (.ite .refl (by
    extract_lets s1 s2 s3
    have hs1 : Touches Parts.darken t s1 := .wr (.markAllTiles (.sendDump (.lensLow .refl)))
    have hs2 : Touches Parts.darken t s2 := .abandonFade (.modLight hs1)
    have hs3 : Touches Parts.darken t s3 := .endLeases (.modTri hs2)
    exact .ite (.report hs3) (.report hs3))) hp

def Parts.dropFrames : List Part := [.pic]

theorem dropFrames {c} (h : Touches ps s t) (hp : Parts.dropFrames ⊆ ps := by decide) : Touches ps s (t.dropFrames c) := by
  refine h.after ?_ hp
  unfold State.dropFrames
  extract_lets n due
  exact .modPic .refl

def Parts.stopCluster : List Part := [.reg .chr, .reg .lsr, .reg .geo, .pic, .chr, .tri, .light, .trn]

theorem stopCluster {c} (h : Touches ps s t) (hp : Parts.stopCluster ⊆ ps := by decide) : Touches ps s (t.stopCluster c) := by
  refine h.after ?_ hp
  unfold State.stopCluster
  extract_lets s1 s2 s3 s4 s5
  have hs1 : Touches Parts.stopCluster t s1 := .dropFrames (.sendDump (.lensLow .refl))
  have hs2 : Touches Parts.stopCluster t s2 := .modChr hs1
  have hs3 : Touches Parts.stopCluster t s3 := .ite (.wr (.wr hs2)) hs2
  have hs4 : Touches Parts.stopCluster t s4 := .modPic hs3
  have hs5 : Touches Parts.stopCluster t s5 := .modTri hs4
  exact .wr (.wr hs5)

def Parts.keepDomains : List Part := [.reg .pwr, .reg .chr, .reg .lsr, .reg .geo, .hbm, .plate, .pic, .chr, .tri, .light, .mem, .trn]

theorem keepDomains {mask} (h : Touches ps s t) (hp : Parts.keepDomains ⊆ ps := by decide) : Touches ps s (t.keepDomains mask) := by
  refine h.after ?_ hp
  unfold State.keepDomains
  extract_lets on s1 s2 x s3 x1 s4 need
  have hs1 : Touches Parts.keepDomains t s1 := .wr .refl
  have hs2 : Touches Parts.keepDomains t s2 := .forClusters hs1 (fun _ _ hx2 => by
      extract_lets s5
      have hs5 : Touches Parts.keepDomains t s5 := .ite hx2 (.lensLow hx2)
      exact .ite hs5 (.stopCluster hs5))
  have hs3 : Touches Parts.keepDomains t s3 := .ite hs2 (.setHbmMem hs2)
  have hs4 : Touches Parts.keepDomains t s4 := .setPlateMem hs3
  exact .wr hs4

def Parts.setSel : List Part := [.reg .par, .par]

theorem setSel {v} (h : Touches ps s t) (hp : Parts.setSel ⊆ ps := by decide) : Touches ps s (t.setSel v) :=
  h.after (.ite .refl (by
    extract_lets x
    exact .emit (.wrb (.setPar .refl)))) hp

def Parts.haltChronograph : List Part := [.reg .chr, .pic, .chr]

theorem haltChronograph {c} (h : Touches ps s t) (hp : Parts.haltChronograph ⊆ ps := by decide) : Touches ps s (t.haltChronograph c) := by
  refine h.after ?_ hp
  unfold State.haltChronograph
  extract_lets s1 s2
  have hs1 : Touches Parts.haltChronograph t s1 := .dropFrames .refl
  have hs2 : Touches Parts.haltChronograph t s2 := .modChr hs1
  exact .wr (.wr hs2)

def Parts.unitFault : List Part := [.reg .log, .reg .frs, .reg .chr, .reg .lsr, .reg .hel, .reg .plt, .status, .pic, .chr, .tri, .light,
    .hel, .mem, .trn, .log, .pwr, .host, .stopped]

theorem unitFault {u i sub code items} (h : Touches ps s t) (hp : Parts.unitFault ⊆ ps := by decide) :
    Touches ps s (t.unitFault u i sub code items) :=
  h.after (.ite .refl (by
    extract_lets s1 c
    have hs1 : Touches Parts.unitFault t s1 := .reportSub .refl
    split
    · exact .darken hs1
    · exact .darken hs1
    · exact .darken hs1
    · exact .darken hs1
    · exact .haltChronograph (.darken hs1)
    · exact .ite (.darken hs1) hs1
    · exact .cutDiag (.setLen hs1)
    · exact .stopSlot hs1
    · exact .lensLow hs1
    · exact .forClusters hs1 (fun _ _ hx => .modPic hx)
    · exact hs1)) hp

def Parts.moduleFatal : List Part := [.reg .pwr, .reg .par, .reg .chr, .reg .lsr, .reg .geo, .hbm, .plate, .pic, .chr, .tri, .light, .mem,
    .trn, .par]

theorem moduleFatal {code} (h : Touches ps s t) (hp : Parts.moduleFatal ⊆ ps := by decide) : Touches ps s (t.moduleFatal code) := by
  refine h.after ?_ hp
  unfold State.moduleFatal
  extract_lets s1 s2 s3
  have hs1 : Touches Parts.moduleFatal t s1 := .forClusters .refl (fun _ _ hx => .sendDump (.lensLow hx))
  have hs2 : Touches Parts.moduleFatal t s2 := .setSel hs1
  have hs3 : Touches Parts.moduleFatal t s3 := .ite (.ite (.emit hs2) hs2) hs1
  exact .wr (.keepDomains hs3)

def Parts.fatalEvent : List Part := [.reg .pwr, .reg .log, .reg .par, .reg .chr, .reg .lsr, .reg .geo, .status, .hbm, .plate, .pic, .chr,
    .tri, .light, .mem, .trn, .log, .pwr, .par, .stopped]

theorem fatalEvent {u i code items} (h : Touches ps s t) (hp : Parts.fatalEvent ⊆ ps := by decide) :
    Touches ps s (t.fatalEvent u i code items) :=
  h.after (.moduleFatal (.report .refl)) hp

theorem writePage {f bs} (h : Touches ps s t) (hp : f.part ∈ ps := by dsimp only [Fld.part]; decide) : Touches ps s (t.writePage f bs) :=
  .foldl h (fun _ _ hx => .wr hx hp)

def Parts.mailReply : List Part := [.reg .obs, .host]

theorem mailReply {tag r} (h : Touches ps s t) (hp : Parts.mailReply ⊆ ps := by decide) : Touches ps s (t.mailReply tag r) := by
  refine h.after ?_ hp
  unfold State.mailReply
  extract_lets s1 s2
  have hs1 : Touches Parts.mailReply t s1 := .wr (.wr (.wr .refl))
  have hs2 : Touches Parts.mailReply t s2 := .wr (.writePage hs1)
  exact .signal (.wr (.wr hs2))

def Parts.writeRecord : List Part := [.reg .log, .log]

theorem writeRecord {r} (h : Touches ps s t) (hp : Parts.writeRecord ⊆ ps := by decide) : Touches ps s (t.writeRecord r).1 := by
  refine h.after ?_ hp
  unfold State.writeRecord
  extract_lets addr rec' s1
  have hs1 : Touches Parts.writeRecord t s1 := .modLog .refl
  exact .mkFst (.wr hs1)

def Parts.modAlm : List Part := [.alm]

theorem modAlm {f} (h : Touches ps s t) (hp : Parts.modAlm ⊆ ps := by decide) : Touches ps s (t.modAlm f) :=
  h.after (.setAlm .refl) hp

def Parts.almWrite : List Part := [.reg .alm, .alm]

theorem almWrite {oid payload} (h : Touches ps s t) (hp : Parts.almWrite ⊆ ps := by decide) : Touches ps s (t.almWrite oid payload) := by
  refine h.after ?_ hp
  unfold State.almWrite
  extract_lets s1
  have hs1 : Touches Parts.almWrite t s1 := .modAlm .refl
  exact .wr (.bump hs1)

def Parts.almRequest : List Part := [.reg .alm, .alm]

theorem almRequest {oid payload} (h : Touches ps s t) (hp : Parts.almRequest ⊆ ps := by decide) :
    Touches ps s (t.almRequest oid payload) := by
  refine h.after ?_ hp
  unfold State.almRequest
  extract_lets st s1
  have hs1 : Touches Parts.almRequest t s1 := .modAlm .refl
  exact .wr hs1

def Parts.saveShadow : List Part := [.reg .alm, .alm]

theorem saveShadow {kind} (h : Touches ps s t) (hp : Parts.saveShadow ⊆ ps := by decide) : Touches ps s (t.saveShadow kind) := by
  refine h.after ?_ hp
  unfold State.saveShadow
  extract_lets s1
  have hs1 : Touches Parts.saveShadow t s1 := .almWrite .refl
  exact .ite (.wr (.wr hs1)) hs1

def Parts.checkpoint : List Part := [.reg .alm, .alm]

theorem checkpoint (h : Touches ps s t) (hp : Parts.checkpoint ⊆ ps := by decide) : Touches ps s t.checkpoint :=
  h.after (.ite (.wr .refl) (.saveShadow .refl)) hp

def Parts.countStored : List Part := [.reg .pwr, .reg .alm]

theorem countStored {oid} (h : Touches ps s t) (hp : Parts.countStored ⊆ ps := by decide) : Touches ps s (t.countStored oid) :=
  h.after (.ite .refl (.wr (.wr .refl))) hp

def Parts.loadShadow : List Part := [.reg .alm, .reg .log, .reg .chr, .reg .lsr, .status, .chr, .log, .arc, .pwr, .stopped]

theorem loadShadow {p} (h : Touches ps s t) (hp : Parts.loadShadow ⊆ ps := by decide) : Touches ps s (t.loadShadow p) := by
  refine h.after ?_ hp
  unfold State.loadShadow
  extract_lets f s1 s2 life s3 s4 slotSeq base s5 arc x s6
  have hs1 : Touches Parts.loadShadow t s1 := .foldl .refl (fun _ _ hx1 => .wr hx1)
  have hs2 : Touches Parts.loadShadow t s2 := .foldl hs1 (fun _ _ hx1 => .wr hx1)
  have hs3 : Touches Parts.loadShadow t s3 := .modLog hs2
  have hs4 : Touches Parts.loadShadow t s4 := .wr (.wr (.wr hs3))
  have hs5 : Touches Parts.loadShadow t s5 := .wr hs4
  have hs6 : Touches Parts.loadShadow t s6 := .setArc hs5
  exact .ite (.report (.wr hs6)) hs6

def Parts.showSaves : List Part := [.reg .log]

theorem showSaves (h : Touches ps s t) (hp : Parts.showSaves ⊆ ps := by decide) : Touches ps s t.showSaves := by
  refine h.after ?_ hp
  unfold State.showSaves
  extract_lets newer1 s1 ok
  have hs1 : Touches Parts.showSaves t s1 := .ite (.wrb .refl) .refl
  exact .wrb (.wrb (.wrb (.wrb hs1)))

def Parts.saveRing : List Part := [.reg .alm, .reg .log, .alm, .log]

theorem saveRing {slot cause time} (h : Touches ps s t) (hp : Parts.saveRing ⊆ ps := by decide) :
    Touches ps s (t.saveRing slot cause time) := by
  refine h.after ?_ hp
  unfold State.saveRing
  extract_lets recs entry s1 s2
  have hs1 : Touches Parts.saveRing t s1 := .modLog .refl
  have hs2 : Touches Parts.saveRing t s2 := .almWrite hs1
  exact .wr (.wr (.showSaves hs2))

def Parts.sendTrig : List Part := [.reg .log, .reg .chr, .status, .chr, .log, .pwr, .stopped]

theorem sendTrig {ports origin cause} (h : Touches ps s t) (hp : Parts.sendTrig ⊆ ps := by decide) :
    Touches ps s (t.sendTrig ports origin cause) := by
  refine h.after ?_ hp
  unfold State.sendTrig
  extract_lets body msg s1
  have hs1 : Touches Parts.sendTrig t s1 := .foldl .refl (fun _ _ hx => .emit hx)
  exact .report hs1

def Parts.sendPend : List Part := [.par]

theorem sendPend {c} (h : Touches ps s t) (hp : Parts.sendPend ⊆ ps := by decide) : Touches ps s (t.sendPend c) :=
  h.after (.ite .refl (by
    extract_lets p waited x s1
    have hs1 : Touches Parts.sendPend t s1 := .setPar .refl
    exact .ite (.emit hs1) hs1)) hp

def Parts.requestCommit : List Part := [.reg .chr, .chr, .par]

theorem requestCommit {c} (h : Touches ps s t) (hp : Parts.requestCommit ⊆ ps := by decide) : Touches ps s (t.requestCommit c) :=
  h.after (.ite .refl (by
    extract_lets s1
    have hs1 : Touches Parts.requestCommit t s1 := .modChr (.wr .refl)
    exact .sendPend (.wakeHeld hs1))) hp

def Parts.withdrawCommit : List Part := [.reg .log, .reg .chr, .status, .chr, .log, .pwr, .par, .stopped]

theorem withdrawCommit {c} (h : Touches ps s t) (hp : Parts.withdrawCommit ⊆ ps := by decide) : Touches ps s (t.withdrawCommit c) := by
  refine h.after ?_ hp
  unfold State.withdrawCommit
  extract_lets s1
  have hs1 : Touches Parts.withdrawCommit t s1 := .modChr (.wr (.wr .refl))
  exact .sendPend (.report hs1)

def Parts.setArmed : List Part := [.reg .chn, .reg .chr, .chn]

theorem setArmed {l} (h : Touches ps s t) (hp : Parts.setArmed ⊆ ps := by decide) : Touches ps s (t.setArmed l) := by
  refine h.after ?_ hp
  unfold State.setArmed
  extract_lets x s1
  have hs1 : Touches Parts.setArmed t s1 := .setChn .refl
  exact .wrb (.foldl hs1 (fun _ _ hx1 => .wrb hx1))

def Parts.cancelCommit : List Part := [.reg .log, .reg .chn, .reg .chr, .status, .chr, .log, .pwr, .chn, .par, .stopped]

theorem cancelCommit {c} (h : Touches ps s t) (hp : Parts.cancelCommit ⊆ ps := by decide) : Touches ps s (t.cancelCommit c) :=
  h.after (.ite .refl (by
    extract_lets s1
    have hs1 : Touches Parts.cancelCommit t s1 := .withdrawCommit .refl
    exact .ite (.setArmed hs1) hs1)) hp

def Parts.lockLost : List Part := [.reg .log, .reg .chr, .status, .chr, .log, .pwr, .stopped]

theorem lockLost {c cause} (h : Touches ps s t) (hp : Parts.lockLost ⊆ ps := by decide) : Touches ps s (t.lockLost c cause) := by
  refine h.after ?_ hp
  unfold State.lockLost
  extract_lets s1
  have hs1 : Touches Parts.lockLost t s1 := .modChr .refl
  exact .ite hs1 (.report (.wr (.modChr (.wakeHeld hs1))))

def Parts.nextAdj : List Part := []

theorem nextAdj {c tail} (h : Touches ps s t) (hp : Parts.nextAdj ⊆ ps := by decide) : Touches ps s (t.nextAdj c tail).2 := by
  refine h.after ?_ hp
  unfold State.nextAdj
  extract_lets a slew pull bound back f
  split
  · exact .mkSnd .refl
  · split
    · exact .mkSnd .refl
    · split
      · exact .mkSnd .refl
      · split
        · exact .mkSnd .refl
        · exact .mkSnd (.freeBits .refl)

def Parts.modChn : List Part := [.chn]

theorem modChn {f} (h : Touches ps s t) (hp : Parts.modChn ⊆ ps := by decide) : Touches ps s (t.modChn f) :=
  h.after (.setChn .refl) hp

def Parts.sendChain : List Part := []

theorem sendChain {port type dest flags payload} (h : Touches ps s t) (hp : Parts.sendChain ⊆ ps := by decide) :
    Touches ps s (t.sendChain port type dest flags payload) :=
  h.after (.emit .refl) hp

def Parts.showArms : List Part := [.reg .chn]

theorem showArms (h : Touches ps s t) (hp : Parts.showArms ⊆ ps := by decide) : Touches ps s t.showArms :=
  h.after (.ite (.wr .refl) .refl) hp

def Parts.sendArm : List Part := [.reg .chn, .chn]

theorem sendArm (h : Touches ps s t) (hp : Parts.sendArm ⊆ ps := by decide) : Touches ps s t.sendArm :=
  h.after (.ite (.showArms (.modChn .refl)) (.ite .refl (.sendChain .refl))) hp

def Parts.abortCoherent : List Part := [.reg .log, .reg .chn, .reg .chr, .status, .chr, .log, .pwr, .chn, .par, .stopped]

theorem abortCoherent {id f outcome} (h : Touches ps s t) (hp : Parts.abortCoherent ⊆ ps := by decide) :
    Touches ps s (t.abortCoherent id f outcome) := by
  refine h.after ?_ hp
  unfold State.abortCoherent
  extract_lets armed s1 s2
  have hs1 : Touches Parts.abortCoherent t s1 := .foldl .refl (fun _ _ hx => .withdrawCommit hx)
  have hs2 : Touches Parts.abortCoherent t s2 := .wr (.setArmed hs1)
  exact .report hs2

def Parts.landFrom : List Part := [.chr]

theorem landFrom {sync} (h : Touches ps s t) (hp : Parts.landFrom ⊆ ps := by decide) : Touches ps s (t.landFrom sync) :=
  h.after (.foldl .refl (fun _ _ hx => .modChr hx)) hp

def Parts.takeGo : List Part := [.reg .chn, .chr, .chn]

theorem takeGo {id f} (h : Touches ps s t) (hp : Parts.takeGo ⊆ ps := by decide) : Touches ps s (t.takeGo id f) :=
  h.after (.ite .refl (by
    extract_lets s1 known
    have hs1 : Touches Parts.takeGo t s1 := .foldl .refl (fun _ _ hx => .modChr hx)
    exact .wr (by
        clear_value known
        split
        · exact .landFrom hs1
        · exact .modChn hs1))) hp

def Parts.forgetArmed : List Part := [.reg .chn, .chn]

theorem forgetArmed {all} (h : Touches ps s t) (hp : Parts.forgetArmed ⊆ ps := by decide) : Touches ps s (t.forgetArmed all) :=
  h.after (.showArms (.modChn .refl)) hp

def Parts.takeDefer : List Part := [.reg .chn]

theorem takeDefer {count} (h : Touches ps s t) (hp : Parts.takeDefer ⊆ ps := by decide) : Touches ps s (t.takeDefer count) :=
  h.after (.wr .refl) hp

def Parts.flagTiles : List Part := [.pic]

theorem flagTiles {c num k tiles} (h : Touches ps s t) (hp : Parts.flagTiles ⊆ ps := by decide) :
    Touches ps s (t.flagTiles c num k tiles) :=
  h.after (.modPic .refl) hp

def Parts.blameUnit : List Part := [.pic]

theorem blameUnit {c num tiles u i} (h : Touches ps s t) (hp : Parts.blameUnit ⊆ ps := by decide) :
    Touches ps s (t.blameUnit c num tiles u i) :=
  h.after (.ite .refl (.modPic .refl)) hp

def Parts.flagBy : List Part := [.pic]

theorem flagBy {c num k tiles u i} (h : Touches ps s t) (hp : Parts.flagBy ⊆ ps := by decide) : Touches ps s (t.flagBy c num k tiles u i) :=
  h.after (.blameUnit (.flagTiles .refl)) hp

def Parts.modFrame : List Part := [.pic]

theorem modFrame {c num f} (h : Touches ps s t) (hp : Parts.modFrame ⊆ ps := by decide) : Touches ps s (t.modFrame c num f) :=
  h.after (.modPic .refl) hp

def Parts.badWordUsed : List Part := [.reg .log, .reg .chr, .reg .geo, .status, .pic, .chr, .log, .pwr, .stopped]

theorem badWordUsed {c b} (h : Touches ps s t) (hp : Parts.badWordUsed ⊆ ps := by decide) : Touches ps s (t.badWordUsed c b) := by
  refine h.after ?_ hp
  unfold State.badWordUsed
  extract_lets ts s1 s2
  have hs1 : Touches Parts.badWordUsed t s1 := .ite (.flagBy .refl) (.flagBy .refl)
  have hs2 : Touches Parts.badWordUsed t s2 := .modPic hs1
  exact .ite .refl (.ite hs1 (.ite (.report (.bump hs2)) (.report hs2)))

def Parts.wakePc : List Part := [.reg .log, .reg .hbm, .reg .chr, .status, .chr, .mem, .log, .pwr, .stopped]

theorem wakePc {p} (h : Touches ps s t) (hp : Parts.wakePc ⊆ ps := by decide) : Touches ps s (t.wakePc p) := by
  refine h.after ?_ hp
  unfold State.wakePc
  extract_lets s1 ch s2 s3
  have hs1 : Touches Parts.wakePc t s1 := .modMem .refl
  have hs2 : Touches Parts.wakePc t s2 := .wr (.wr hs1)
  have hs3 : Touches Parts.wakePc t s3 := .modMem hs2
  exact .ite (.wr hs1) (.ite (by
      split
      · exact hs2
      · extract_lets s4 us
        have hs4 : Touches Parts.wakePc t s4 := .bump (.wr (.wr (.wr hs3)))
        exact .report (.freeBits hs4)) hs1)

def Parts.request : List Part := [.reg .log, .reg .hbm, .reg .chr, .status, .chr, .mem, .log, .pwr, .stopped]

theorem request {a n} (h : Touches ps s t) (hp : Parts.request ⊆ ps := by decide) : Touches ps s (t.request a n) :=
  h.after (.ite .refl (.foldl .refl (fun _ _ hx => .wakePc hx))) hp

def Parts.served : List Part := [.reg .hbm]

theorem served {r q lat} (h : Touches ps s t) (hp : Parts.served ⊆ ps := by decide) : Touches ps s (t.served r q lat) := by
  refine h.after ?_ hp
  unfold State.served
  extract_lets i s1
  have hs1 : Touches Parts.served t s1 := .wr .refl
  exact .ite (.bump hs1) hs1

def Parts.writePlane : List Part := [.reg .log, .reg .hbm, .reg .chr, .status, .hbm, .chr, .mem, .log, .pwr, .stopped]

theorem writePlane {a bs} (h : Touches ps s t) (hp : Parts.writePlane ⊆ ps := by decide) : Touches ps s (t.writePlane a bs) := by
  refine h.after ?_ hp
  unfold State.writePlane
  extract_lets s1 x
  have hs1 : Touches Parts.writePlane t s1 := .request .refl
  exact .setHbmMem hs1

def Parts.recompose : List Part := [.reg .log, .reg .hbm, .reg .chr, .reg .geo, .status, .hbm, .pic, .chr, .mem, .log, .pwr, .stopped]

theorem recompose {c prevCrcs} (h : Touches ps s t) (hp : Parts.recompose ⊆ ps := by decide) : Touches ps s (t.recompose c prevCrcs) := by
  refine h.after ?_ hp
  unfold State.recompose
  extract_lets w h1 comp out crcs s1 s2
  have hs1 : Touches Parts.recompose t s1 := .modPic .refl
  have hs2 : Touches Parts.recompose t s2 := .wr hs1
  exact .ite hs2 (by
      split
      · exact hs2
      · exact .foldl hs2 (fun _ _ hx1 => .foldl hx1 (fun _ _ hx2 => .writePlane hx2)))

def Parts.judgeWords : List Part := [.reg .log, .reg .chr, .reg .geo, .status, .pic, .chr, .log, .pwr, .stopped]

theorem judgeWords {c} (h : Touches ps s t) (hp : Parts.judgeWords ⊆ ps := by decide) : Touches ps s (t.judgeWords c) :=
  h.after (.foldl .refl (fun _ _ hx => .badWordUsed hx)) hp

def Parts.recomposeAll : List Part := [.reg .log, .reg .hbm, .reg .chr, .reg .geo, .status, .hbm, .pic, .chr, .mem, .log, .pwr, .stopped]

theorem recomposeAll {c} (h : Touches ps s t) (hp : Parts.recomposeAll ⊆ ps := by decide) : Touches ps s (t.recomposeAll c) :=
  h.after (.forClusters .refl (fun _ _ hx => .ite (.judgeWords (.recompose hx)) hx)) hp

def Parts.setPcs : List Part := [.reg .hbm]

theorem setPcs {r pwr} (h : Touches ps s t) (hp : Parts.setPcs ⊆ ps := by decide) : Touches ps s (t.setPcs r pwr) :=
  h.after (.foldl .refl (fun _ _ hx => .wr hx)) hp

def Parts.captureFreeze : List Part := [.reg .hbm]

theorem captureFreeze {r pc a kind port path} (h : Touches ps s t) (hp : Parts.captureFreeze ⊆ ps := by decide) :
    Touches ps s (t.captureFreeze r pc a kind port path) := by
  refine h.after ?_ hp
  unfold State.captureFreeze
  extract_lets rq wq s1 s2
  have hs1 : Touches Parts.captureFreeze t s1 := .wr (.wr (.wr (.freeBits (.freeBits .refl))))
  have hs2 : Touches Parts.captureFreeze t s2 := .wr (.wr hs1)
  exact .wr (.wr (.wr (.wr hs2)))

def Parts.recoveryFailed : List Part := [.reg .log, .reg .hbm, .reg .chr, .status, .chr, .log, .pwr, .stopped]

theorem recoveryFailed {r} (h : Touches ps s t) (hp : Parts.recoveryFailed ⊆ ps := by decide) : Touches ps s (t.recoveryFailed r) := by
  refine h.after ?_ hp
  unfold State.recoveryFailed
  extract_lets n s1
  have hs1 : Touches Parts.recoveryFailed t s1 := .setPcs (.wr .refl)
  exact .ite (.report (.wr hs1)) (.wr hs1)

def Parts.lateLines : List Part := [.reg .log, .reg .hbm, .reg .pix, .reg .chr, .reg .geo, .status, .hbm, .pic, .chr, .mem, .log, .pwr,
    .stopped]

theorem lateLines {c l y0 y1} (h : Touches ps s t) (hp : Parts.lateLines ⊆ ps := by decide) : Touches ps s (t.lateLines c l y0 y1) := by
  refine h.after ?_ hp
  unfold State.lateLines
  extract_lets r s1 s2
  have hs1 : Touches Parts.lateLines t s1 := .modLayer .refl
  have hs2 : Touches Parts.lateLines t s2 := .flagBy (.recomposeAll hs1)
  exact .report (.bump hs2)

def Parts.lateFetches : List Part := [.reg .log, .reg .hbm, .reg .pix, .reg .chr, .reg .geo, .status, .hbm, .pic, .chr, .mem, .log, .pwr,
    .stopped]

theorem lateFetches {r} (h : Touches ps s t) (hp : Parts.lateFetches ⊆ ps := by decide) : Touches ps s (t.lateFetches r) :=
  h.after (.forClusters .refl (fun _ _ hx => .ite hx (.foldl hx (fun _ _ hx1 => by
    extract_lets rect line
    exact .ite (.lateLines hx1) hx1)))) hp

def Parts.freeze : List Part := [.reg .log, .reg .hbm, .reg .pix, .reg .chr, .reg .geo, .reg .plt, .status, .hbm, .pic, .chr, .mem, .trn,
    .log, .pwr, .stopped]

theorem freeze {r cause pc a kind port path} (h : Touches ps s t) (hp : Parts.freeze ⊆ ps := by decide) :
    Touches ps s (t.freeze r cause pc a kind port path) := by
  refine h.after ?_ hp
  unfold State.freeze
  extract_lets st s1 s2 s3 s4 s5 s6 s7 s8
  have hs1 : Touches Parts.freeze t s1 := .wr .refl
  have hs2 : Touches Parts.freeze t s2 := .wr (.captureFreeze hs1)
  have hs3 : Touches Parts.freeze t s3 := .setPcs (.wr (.wr hs2))
  have hs4 : Touches Parts.freeze t s4 := .modRegion hs3
  have hs5 : Touches Parts.freeze t s5 := .foldl hs4 (fun _ _ hx => .modMem hx)
  have hs6 : Touches Parts.freeze t s6 := .dropCopies hs5
  have hs7 : Touches Parts.freeze t s7 := .violate hs6
  have hs8 : Touches Parts.freeze t s8 := .lateFetches (.report hs7)
  exact .ite hs1 (.ite (.recoveryFailed hs2) (.forClusters hs8 (fun _ _ hx => .wakeHeld hx)))

def Parts.countDetErr : List Part := [.reg .log, .reg .hbm, .reg .chr, .status, .chr, .mem, .log, .pwr, .stopped]

theorem countDetErr {pc} (h : Touches ps s t) (hp : Parts.countDetErr ⊆ ps := by decide) : Touches ps s (t.countDetErr pc) := by
  refine h.after ?_ hp
  unfold State.countDetErr
  extract_lets r s1 l n s2
  have hs1 : Touches Parts.countDetErr t s1 := .bump .refl
  have hs2 : Touches Parts.countDetErr t s2 := .modRegion hs1
  exact .ite (.report (.wr hs2)) (.modRegion hs1)

def Parts.placeInput : List Part := [.dp]

theorem placeInput {i parts} (h : Touches ps s t) (hp : Parts.placeInput ⊆ ps := by decide) : Touches ps s (t.placeInput i parts) := by
  refine h.after ?_ hp
  unfold State.placeInput
  extract_lets part
  exact .modDp .refl

def Parts.storeMeshes : List Part := [.hbm]

theorem storeMeshes {p r} (h : Touches ps s t) (hp : Parts.storeMeshes ⊆ ps := by decide) : Touches ps s (t.storeMeshes p r) :=
  h.after (.foldl .refl (fun _ _ hx => .setHbm hx)) hp

def Parts.complete : List Part := []

theorem complete {st bs} (h : Touches ps s t) (hp : Parts.complete ⊆ ps := by decide) : Touches ps s (t.complete st bs) :=
  h.after (.setRest .refl) hp

def Parts.report2641 : List Part := [.reg .log, .reg .chr, .status, .chr, .log, .pwr, .stopped]

theorem report2641 {a port} (h : Touches ps s t) (hp : Parts.report2641 ⊆ ps := by decide) : Touches ps s (t.report2641 a port) :=
  h.after (.ite .refl (.report .refl)) hp

def Parts.detectionError : List Part := [.reg .log, .reg .hbm, .reg .pix, .reg .chr, .reg .geo, .reg .plt, .status, .hbm, .pic, .chr, .mem,
    .trn, .log, .pwr, .stopped]

theorem detectionError {a port path} (h : Touches ps s t) (hp : Parts.detectionError ⊆ ps := by decide) :
    Touches ps s (t.detectionError a port path) := by
  refine h.after ?_ hp
  unfold State.detectionError
  extract_lets r pc kind s1
  have hs1 : Touches Parts.detectionError t s1 := .countDetErr .refl
  exact .ite (.freeze hs1) (.ite (.freeze hs1) hs1)

def Parts.meshLoadError : List Part := [.reg .log, .reg .chr, .reg .geo, .status, .pic, .chr, .log, .pwr, .stopped]

theorem meshLoadError {c a} (h : Touches ps s t) (hp : Parts.meshLoadError ⊆ ps := by decide) : Touches ps s (t.meshLoadError c a) := by
  refine h.after ?_ hp
  unfold State.meshLoadError
  split
  · exact .refl
  · extract_lets s1
    have hs1 : Touches Parts.meshLoadError t s1 := .wr (.modPic .refl)
    exact .report (.wr hs1)

def Parts.startRecovery : List Part := [.reg .hbm, .reg .geo, .pic]

theorem startRecovery {r} (h : Touches ps s t) (hp : Parts.startRecovery ⊆ ps := by decide) : Touches ps s (t.startRecovery r) := by
  refine h.after ?_ hp
  unfold State.startRecovery
  extract_lets s1 s2
  have hs1 : Touches Parts.startRecovery t s1 := .wr .refl
  have hs2 : Touches Parts.startRecovery t s2 := .setPcs (.wr hs1)
  exact .ite (.forClusters hs2 (fun _ _ hx => by
      split
      · exact .ite (.wr (.wr (.modPic hx))) hx
      · exact hx)) hs1

def Parts.regionReady : List Part := [.reg .hbm, .mem]

theorem regionReady {r} (h : Touches ps s t) (hp : Parts.regionReady ⊆ ps := by decide) : Touches ps s (t.regionReady r) := by
  refine h.after ?_ hp
  unfold State.regionReady
  extract_lets s1 s2 s3 cs x x1
  have hs1 : Touches Parts.regionReady t s1 := .modRegion (.setPcs .refl)
  have hs2 : Touches Parts.regionReady t s2 := .foldl hs1 (fun _ _ hx2 => .wr hx2)
  have hs3 : Touches Parts.regionReady t s3 := .foldl hs2 (fun _ _ hx2 => .wr hx2)
  have hx : Touches Parts.regionReady t x := .wr hs3
  exact .ite (.wr hs3) (.setMem hx)

def Parts.loseRegion : List Part := [.hbm, .mem]

theorem loseRegion {r} (h : Touches ps s t) (hp : Parts.loseRegion ⊆ ps := by decide) : Touches ps s (t.loseRegion r) := by
  refine h.after ?_ hp
  unfold State.loseRegion
  extract_lets x
  exact .setHbmMem .refl

def Parts.reject44 : List Part := [.reg .eph, .reg .log, .reg .chr, .status, .chr, .log, .pwr, .stopped]

theorem reject44 {sec} (h : Touches ps s t) (hp : Parts.reject44 ⊆ ps := by decide) : Touches ps s (t.reject44 sec) := by
  refine h.after ?_ hp
  unfold State.reject44
  extract_lets slot s1
  have hs1 : Touches Parts.reject44 t s1 := .wr (.wr (.wr .refl))
  exact .report (.wr hs1)

def Parts.applyProfile : List Part := [.reg .eph, .reg .log, .reg .hbm, .reg .chr, .status, .hbm, .chr, .dp, .mem, .log, .arc, .pwr,
    .stopped]

theorem applyProfile {r num pf meshBad} (h : Touches ps s t) (hp : Parts.applyProfile ⊆ ps := by decide) :
    Touches ps s (t.applyProfile r num pf meshBad) := by
  refine h.after ?_ hp
  unfold State.applyProfile
  extract_lets pc old lost s1 s2 s3 s4 s5
  have hs1 : Touches Parts.applyProfile t s1 := .loseRegion (.modRegion .refl)
  have hs2 : Touches Parts.applyProfile t s2 := .ite (.loseRing hs1) hs1
  have hs3 : Touches Parts.applyProfile t s3 := .ite (.reject44 hs2) (by
      split
      · exact .storeMeshes hs2
      · exact hs2)
  have hs4 : Touches Parts.applyProfile t s4 := .foldl hs3 (fun _ _ hx => .ite (.placeInput hx) hx)
  have hs5 : Touches Parts.applyProfile t s5 := .wr (.wr (.wr (.wr hs4)))
  exact .report (.wr hs5)

def Parts.regionTrained : List Part := [.reg .eph, .reg .log, .reg .hbm, .reg .chr, .status, .hbm, .chr, .dp, .mem, .log, .arc, .pwr,
    .stopped]

theorem regionTrained {r failed meshBad} (h : Touches ps s t) (hp : Parts.regionTrained ⊆ ps := by decide) :
    Touches ps s (t.regionTrained r failed meshBad).2 := by
  refine h.after ?_ hp
  unfold State.regionTrained
  extract_lets bad s1 s2
  have hs1 : Touches Parts.regionTrained t s1 := .wr .refl
  have hs2 : Touches Parts.regionTrained t s2 := .foldl hs1 (fun _ _ hx => .noTapEvent (.wr hx))
  clear_value bad
  split
  · exact .mkSnd hs2
  · split
    · exact .mkSnd (.applyProfile hs2)
    · exact .mkSnd (.report (.wr hs2))
  · exact .mkSnd (.report (.wr hs2))

def Parts.startFc : List Part := [.reg .hbm, .mem]

theorem startFc {ch set} (h : Touches ps s t) (hp : Parts.startFc ⊆ ps := by decide) : Touches ps s (t.startFc ch set) :=
  h.after (.ite (.wr (.modMem .refl)) (.ite (.wr (.modMem .refl)) (by
    extract_lets s1
    have hs1 : Touches Parts.startFc t s1 := .modMem .refl
    exact .wr (.wr hs1)))) hp

def Parts.requestSet : List Part := [.reg .log, .reg .hbm, .reg .chr, .status, .chr, .mem, .log, .pwr, .stopped]

theorem requestSet {ch set} (h : Touches ps s t) (hp : Parts.requestSet ⊆ ps := by decide) : Touches ps s (t.requestSet ch set) := by
  refine h.after ?_ hp
  unfold State.requestSet
  extract_lets s1 st
  have hs1 : Touches Parts.requestSet t s1 := .wr (.wr .refl)
  exact .ite (.report (.wr hs1)) (.ite (.modMem hs1) (.startFc hs1))

def Parts.keepTaps : List Part := [.reg .alm, .reg .trn, .alm]

theorem keepTaps {r taps} (h : Touches ps s t) (hp : Parts.keepTaps ⊆ ps := by decide) : Touches ps s (t.keepTaps r taps) := by
  refine h.after ?_ hp
  unfold State.keepTaps
  extract_lets mine s1
  have hs1 : Touches Parts.keepTaps t s1 := .foldl .refl (fun _ _ hx => .wr (.wr hx))
  exact .foldl hs1 (fun _ _ hx => .ite (.almRequest hx) hx)

def Parts.validatePage : List Part := [.reg .pln, .pic]

theorem validatePage {c page} (h : Touches ps s t) (hp : Parts.validatePage ⊆ ps := by decide) : Touches ps s (t.validatePage c page) := by
  refine h.after ?_ hp
  unfold State.validatePage
  extract_lets f s1 s2
  have hs1 : Touches Parts.validatePage t s1 := .wrb .refl (by unfold State.validFld; split <;> decide)
  have hs2 : Touches Parts.validatePage t s2 := .wr (.wr hs1)
  exact .modPic hs2

def Parts.wakeInput : List Part := [.reg .chr, .chr]

theorem wakeInput {i} (h : Touches ps s t) (hp : Parts.wakeInput ⊆ ps := by decide) : Touches ps s (t.wakeInput i) :=
  h.after (.forClusters .refl (fun _ _ hx => .wakeHeld hx)) hp

def Parts.showCover : List Part := [.status]

theorem showCover {i} (h : Touches ps s t) (hp : Parts.showCover ⊆ ps := by decide) : Touches ps s (t.showCover i) := by
  refine h.after ?_ hp
  unfold State.showCover
  extract_lets w h1
  exact .wrb .refl

def Parts.loseInput : List Part := [.reg .log, .reg .dpr, .reg .chr, .status, .chr, .log, .pwr, .stopped]

theorem loseInput {i cause} (h : Touches ps s t) (hp : Parts.loseInput ⊆ ps := by decide) : Touches ps s (t.loseInput i cause) := by
  refine h.after ?_ hp
  unfold State.loseInput
  extract_lets s1 s2
  have hs1 : Touches Parts.loseInput t s1 := .wr (.wr (.wr .refl))
  have hs2 : Touches Parts.loseInput t s2 := .showCover (.wakeInput (.report hs1))
  exact .forClusters hs2 (fun _ _ hx => .ite (.lockLost hx) hx)

def Parts.discardFrame : List Part := [.reg .log, .reg .dpr, .reg .chr, .status, .chr, .log, .pwr, .stopped]

theorem discardFrame {i} (h : Touches ps s t) (hp : Parts.discardFrame ⊆ ps := by decide) : Touches ps s (t.discardFrame i) := by
  refine h.after ?_ hp
  unfold State.discardFrame
  extract_lets f
  exact .report (.bump (.freeBits .refl))

def Parts.modPar : List Part := [.par]

theorem modPar {f} (h : Touches ps s t) (hp : Parts.modPar ⊆ ps := by decide) : Touches ps s (t.modPar f) :=
  h.after (.setPar .refl) hp

def Parts.sendTransit : List Part := []

theorem sendTransit {kind fields} (h : Touches ps s t) (hp : Parts.sendTransit ⊆ ps := by decide) :
    Touches ps s (t.sendTransit kind fields) :=
  h.after (.ite (.emit .refl) .refl) hp

def Parts.endLockstep : List Part := [.reg .log, .reg .par, .reg .chr, .status, .chr, .log, .pwr, .par, .stopped]

theorem endLockstep (h : Touches ps s t) (hp : Parts.endLockstep ⊆ ps := by decide) : Touches ps s t.endLockstep :=
  h.after (.ite .refl (by
    extract_lets f
    exact .report (.modPar (.freeBits (.wr .refl))))) hp

def Parts.checkLockstep : List Part := [.reg .log, .reg .par, .reg .chr, .status, .chr, .log, .pwr, .par, .stopped]

theorem checkLockstep (h : Touches ps s t) (hp : Parts.checkLockstep ⊆ ps := by decide) : Touches ps s t.checkLockstep :=
  h.after (.ite (.report (.modPar (.wr .refl))) .refl) hp

def Parts.takeOver : List Part := [.par]

theorem takeOver {trigger} (h : Touches ps s t) (hp : Parts.takeOver ⊆ ps := by decide) : Touches ps s (t.takeOver trigger) :=
  h.after (.ite .refl (by
    extract_lets xs s1
    have hs1 : Touches Parts.takeOver t s1 := .modPar .refl
    exact .ite hs1 (.sendTransit hs1))) hp

def Parts.mayRaiseSel : List Part := [.reg .par, .par]

theorem mayRaiseSel (h : Touches ps s t) (hp : Parts.mayRaiseSel ⊆ ps := by decide) : Touches ps s t.mayRaiseSel :=
  h.after (.ite (.setSel .refl) .refl) hp

def Parts.countPathPlane : List Part := [.par]

theorem countPathPlane {c key bad} (h : Touches ps s t) (hp : Parts.countPathPlane ⊆ ps := by decide) :
    Touches ps s (t.countPathPlane c key bad) :=
  h.after (.ite .refl (by
    extract_lets l l1 s1 run
    have hs1 : Touches Parts.countPathPlane t s1 := .modPar .refl
    exact .ite (.takeOver hs1) hs1)) hp

def Parts.setWorking : List Part := [.reg .tri]

theorem setWorking {c l} (h : Touches ps s t) (hp : Parts.setWorking ⊆ ps := by decide) : Touches ps s (t.setWorking c l) :=
  h.after (.wr (.wr .refl)) hp

def Parts.setActive : List Part := [.reg .tri, .tri, .trn]

theorem setActive {c l} (h : Touches ps s t) (hp : Parts.setActive ⊆ ps := by decide) : Touches ps s (t.setActive c l) := by
  refine h.after ?_ hp
  unfold State.setActive
  extract_lets s1
  have hs1 : Touches Parts.setActive t s1 := .violate .refl
  exact .wrb (.modTri hs1)

def Parts.occupyLane : List Part := [.tri]

theorem occupyLane {c lane start h' payload} (h : Touches ps s t) (hp : Parts.occupyLane ⊆ ps := by decide) :
    Touches ps s (t.occupyLane c lane start h' payload) := by
  refine h.after ?_ hp
  unfold State.occupyLane
  extract_lets n r s1
  have hs1 : Touches Parts.occupyLane t s1 := .modTri .refl
  exact .ite (.emit hs1) hs1

def Parts.resend : List Part := [.reg .tri, .tri]

theorem resend {c b} (h : Touches ps s t) (hp : Parts.resend ⊆ ps := by decide) : Touches ps s (t.resend c b).2 := by
  refine h.after ?_ hp
  unfold State.resend
  split
  · exact .mkSnd .refl
  · extract_lets ends x1 h1 s1
    have hs1 : Touches Parts.resend t s1 := .bump (.occupyLane .refl)
    split
    · exact .mkSnd .refl
    · exact .mkSnd (.modTri hs1)

def Parts.retireOutcome : List Part := [.reg .log, .reg .frs, .reg .chr, .reg .tri, .reg .lsr, .reg .pln, .reg .plt, .status, .pic, .chr,
    .tri, .light, .mem, .trn, .log, .pwr, .host, .stopped]

theorem retireOutcome {c lane} (h : Touches ps s t) (hp : Parts.retireOutcome ⊆ ps := by decide) :
    Touches ps s (t.retireOutcome c lane) := by
  refine h.after ?_ hp
  unfold State.retireOutcome
  extract_lets l n s1 s2 s3 gone s4 s5
  have hs1 : Touches Parts.retireOutcome t s1 := .setActive .refl
  have hs2 : Touches Parts.retireOutcome t s2 := .ite (.wr hs1) hs1
  have hs3 : Touches Parts.retireOutcome t s3 := .report hs2
  have hs4 : Touches Parts.retireOutcome t s4 := .foldl hs3 (fun _ _ hx => .wr hx)
  have hs5 : Touches Parts.retireOutcome t s5 := .setStopped hs4
  exact .ite (.ite .refl (by
      split
      · exact .wr (.setActive .refl)
      · exact .setActive .refl)) (.ite (.report (.wr hs1)) (.darken hs5))

def Parts.retireLane : List Part := [.reg .log, .reg .frs, .reg .chr, .reg .tri, .reg .lsr, .reg .pln, .reg .plt, .status, .pic, .chr,
    .tri, .light, .mem, .trn, .log, .pwr, .host, .stopped]

theorem retireLane {c lane cause} (h : Touches ps s t) (hp : Parts.retireLane ⊆ ps := by decide) :
    Touches ps s (t.retireLane c lane cause) := by
  refine h.after ?_ hp
  unfold State.retireLane
  extract_lets l s1 s2 s3
  have hs1 : Touches Parts.retireLane t s1 := .setWorking .refl
  have hs2 : Touches Parts.retireLane t s2 := .report hs1
  have hs3 : Touches Parts.retireLane t s3 := .retireOutcome hs2
  exact .ite .refl (.foldl hs3 (fun _ _ hx => .resend hx))

def Parts.takeIdent0 : List Part := [.reg .log, .reg .frs, .reg .chr, .reg .tri, .reg .lsr, .reg .hel, .reg .plt, .status, .pic, .chr,
    .tri, .light, .hel, .mem, .trn, .log, .pwr, .host, .stopped]

theorem takeIdent0 {c m'} (h : Touches ps s t) (hp : Parts.takeIdent0 ⊆ ps := by decide) : Touches ps s (t.takeIdent0 c m') := by
  refine h.after ?_ hp
  unfold State.takeIdent0
  extract_lets w h1 b p settle lat s1 s2 s3
  have hs1 : Touches Parts.takeIdent0 t s1 := .wr (.wr (.wr .refl))
  have hs2 : Touches Parts.takeIdent0 t s2 := .wr (.wr hs1)
  have hs3 : Touches Parts.takeIdent0 t s3 := .wr (.dumpNow hs2)
  split
  · exact hs2
  · exact .unitFault hs3

def Parts.takeIdent1 : List Part := [.reg .tri]

theorem takeIdent1 {c m'} (h : Touches ps s t) (hp : Parts.takeIdent1 ⊆ ps := by decide) : Touches ps s (t.takeIdent1 c m') :=
  h.after (.wr (.wr .refl)) hp

def Parts.setTaps : List Part := [.reg .tri]

theorem setTaps {c lane pre post} (h : Touches ps s t) (hp : Parts.setTaps ⊆ ps := by decide) : Touches ps s (t.setTaps c lane pre post) :=
  h.after (.wr (.wr .refl)) hp

def Parts.comparePost : List Part := [.reg .log, .reg .chr, .status, .chr, .log, .pwr, .stopped]

theorem comparePost {c lane post} (h : Touches ps s t) (hp : Parts.comparePost ⊆ ps := by decide) :
    Touches ps s (t.comparePost c lane post) := by
  refine h.after ?_ hp
  unfold State.comparePost
  split
  · exact .ite (.report .refl) .refl
  · exact .refl

def Parts.returnLaneFault : List Part := [.reg .log, .reg .frs, .reg .chr, .reg .tri, .reg .lsr, .reg .hel, .reg .plt, .status, .pic, .chr,
    .tri, .light, .hel, .mem, .trn, .log, .pwr, .host, .stopped]

theorem returnLaneFault {c code items} (h : Touches ps s t) (hp : Parts.returnLaneFault ⊆ ps := by decide) :
    Touches ps s (t.returnLaneFault c code items) := by
  refine h.after ?_ hp
  unfold State.returnLaneFault
  extract_lets s1
  have hs1 : Touches Parts.returnLaneFault t s1 := .violate .refl
  exact .unitFault (.wr hs1)

def Parts.failBands : List Part := [.pic]

theorem failBands {c frame first last} (h : Touches ps s t) (hp : Parts.failBands ⊆ ps := by decide) :
    Touches ps s (t.failBands c frame first last) := by
  refine h.after ?_ hp
  unfold State.failBands
  extract_lets b y0 y1
  exact .flagBy .refl

def Parts.resetFailed : List Part := [.reg .log, .reg .chr, .reg .tri, .status, .pic, .chr, .tri, .log, .pwr, .stopped]

theorem resetFailed {c a rstat} (h : Touches ps s t) (hp : Parts.resetFailed ⊆ ps := by decide) :
    Touches ps s (t.resetFailed c a rstat) := by
  refine h.after ?_ hp
  unfold State.resetFailed
  extract_lets s1 s2
  have hs1 : Touches Parts.resetFailed t s1 := .modTri .refl
  have hs2 : Touches Parts.resetFailed t s2 := .ite hs1 (.bump (.failBands hs1))
  exact .report hs2

def Parts.modEph : List Part := [.eph]

theorem modEph {f} (h : Touches ps s t) (hp : Parts.modEph ⊆ ps := by decide) : Touches ps s (t.modEph f) :=
  h.after (.setEph .refl) hp

def Parts.refuseReaffirm : List Part := [.reg .log, .reg .frs, .reg .chr, .status, .chr, .log, .pwr, .stopped]

theorem refuseReaffirm {c l result} (h : Touches ps s t) (hp : Parts.refuseReaffirm ⊆ ps := by decide) :
    Touches ps s (t.refuseReaffirm c l result) :=
  h.after (.report (.wr .refl)) hp

def Parts.sendChState : List Part := []

theorem sendChState {c} (h : Touches ps s t) (hp : Parts.sendChState ⊆ ps := by decide) : Touches ps s (t.sendChState c) :=
  h.after (.ite .refl (.sendTransit .refl)) hp

def Parts.askRun : List Part := [.trn]

theorem askRun {target c k at'} (h : Touches ps s t) (hp : Parts.askRun ⊆ ps := by decide) : Touches ps s (t.askRun target c k at') := by
  refine h.after ?_ hp
  unfold State.askRun
  extract_lets x
  exact .setTrn .refl

def Parts.setChState : List Part := [.reg .lsr, .chr]

theorem setChState {c k st} (h : Touches ps s t) (hp : Parts.setChState ⊆ ps := by decide) : Touches ps s (t.setChState c k st) :=
  h.after (.ite .refl (.noteTonly (.sendChState (.wr .refl)))) hp

def Parts.setCh : List Part := [.reg .lsr, .chr]

theorem setCh {c k st cause} (h : Touches ps s t) (hp : Parts.setCh ⊆ ps := by decide) : Touches ps s (t.setCh c k st cause) :=
  h.after (.wr (.setChState .refl)) hp

def Parts.showPend : List Part := [.reg .lsr]

theorem showPend {c} (h : Touches ps s t) (hp : Parts.showPend ⊆ ps := by decide) : Touches ps s (t.showPend c) :=
  h.after (.wrb .refl) hp

def Parts.wantPatterns : List Part := [.reg .lsr, .light]

theorem wantPatterns {c k hi lo} (h : Touches ps s t) (hp : Parts.wantPatterns ⊆ ps := by decide) :
    Touches ps s (t.wantPatterns c k hi lo) := by
  refine h.after ?_ hp
  unfold State.wantPatterns
  extract_lets x s1
  have hs1 : Touches Parts.wantPatterns t s1 := .modLight .refl
  exact .showPend (.modChan hs1)

def Parts.choosePatterns : List Part := [.reg .lsr, .light]

theorem choosePatterns {c k} (h : Touches ps s t) (hp : Parts.choosePatterns ⊆ ps := by decide) : Touches ps s (t.choosePatterns c k) :=
  h.after (.wantPatterns .refl) hp

def Parts.showOut : List Part := [.reg .lsr]

theorem showOut {c} (h : Touches ps s t) (hp : Parts.showOut ⊆ ps := by decide) : Touches ps s (t.showOut c) := by
  refine h.after ?_ hp
  unfold State.showOut
  extract_lets cause
  exact .wr (.wrb .refl)

def Parts.dropSearch : List Part := [.reg .lsr, .chr, .light]

theorem dropSearch {c k} (h : Touches ps s t) (hp : Parts.dropSearch ⊆ ps := by decide) : Touches ps s (t.dropSearch c k) :=
  h.after (.ite .refl (by
    extract_lets s1 w
    have hs1 : Touches Parts.dropSearch t s1 := .wr (.setChState (.modChan .refl))
    exact .ite (.wantPatterns hs1) hs1)) hp

def Parts.abandonSearches : List Part := [.reg .lsr, .chr, .light]

theorem abandonSearches {c} (h : Touches ps s t) (hp : Parts.abandonSearches ⊆ ps := by decide) : Touches ps s (t.abandonSearches c) :=
  h.after (.foldl .refl (fun _ _ hx => .dropSearch hx)) hp

def Parts.lightGoesOff : List Part := [.reg .lsr, .chr, .light, .trn]

theorem lightGoesOff {c trip} (h : Touches ps s t) (hp : Parts.lightGoesOff ⊆ ps := by decide) : Touches ps s (t.lightGoesOff c trip) := by
  refine h.after ?_ hp
  unfold State.lightGoesOff
  extract_lets s1 s2
  have hs1 : Touches Parts.lightGoesOff t s1 := .violate .refl
  have hs2 : Touches Parts.lightGoesOff t s2 := .ite (.lensLow hs1) (.contentLow hs1)
  exact .showOut (.abandonSearches (.abandonFade hs2))

def Parts.outputStopped : List Part := [.reg .lsr, .chr, .tri, .light, .trn]

theorem outputStopped {c} (h : Touches ps s t) (hp : Parts.outputStopped ⊆ ps := by decide) : Touches ps s (t.outputStopped c) := by
  refine h.after ?_ hp
  unfold State.outputStopped
  extract_lets s1
  have hs1 : Touches Parts.outputStopped t s1 := .violate .refl
  exact .sendDump (.showOut (.abandonSearches (.contentLow (.wr hs1))))

def Parts.policyLightOff : List Part := [.reg .log, .reg .chr, .reg .lsr, .status, .chr, .light, .trn, .log, .pwr, .stopped]

theorem policyLightOff {c k cause} (h : Touches ps s t) (hp : Parts.policyLightOff ⊆ ps := by decide) :
    Touches ps s (t.policyLightOff c k cause) :=
  h.after (.ite .refl (.report (.lightGoesOff (.modLight .refl)))) hp

def Parts.showDim : List Part := [.reg .lsr]

theorem showDim {c} (h : Touches ps s t) (hp : Parts.showDim ⊆ ps := by decide) : Touches ps s (t.showDim c) := by
  refine h.after ?_ hp
  unfold State.showDim
  extract_lets d
  exact .wr (.wr .refl)

def Parts.startFade : List Part := [.reg .lsr, .pic, .chr, .light]

theorem startFade {c kind} (h : Touches ps s t) (hp : Parts.startFade ⊆ ps := by decide) : Touches ps s (t.startFade c kind) := by
  refine h.after ?_ hp
  unfold State.startFade
  extract_lets l n d dur target s1
  have hs1 : Touches Parts.startFade t s1 := .wr (.modLight .refl)
  split
  · exact .modChr (.modPic hs1)
  · exact hs1

def Parts.beginStop : List Part := [.reg .lsr, .pic, .chr, .tri, .light, .trn]

theorem beginStop {c} (h : Touches ps s t) (hp : Parts.beginStop ⊆ ps := by decide) : Touches ps s (t.beginStop c) :=
  h.after (.ite (.startFade .refl) (.outputStopped (.showDim (.wr (.modLight .refl))))) hp

def Parts.loseLatch : List Part := [.reg .lsr, .light]

theorem loseLatch {c ld} (h : Touches ps s t) (hp : Parts.loseLatch ⊆ ps := by decide) : Touches ps s (t.loseLatch c ld) := by
  refine h.after ?_ hp
  unfold State.loseLatch
  extract_lets hi cur moved lit s1 again
  have hs1 : Touches Parts.loseLatch t s1 := .foldl .refl (fun _ _ hx => .modChan hx)
  exact .wr (.modLight hs1)

def Parts.latchLoad : List Part := [.reg .lsr, .light, .trn]

theorem latchLoad {c ld at'} (h : Touches ps s t) (hp : Parts.latchLoad ⊆ ps := by decide) : Touches ps s (t.latchLoad c ld at') := by
  refine h.after ?_ hp
  unfold State.latchLoad
  extract_lets hi before s1 s2
  have hs1 : Touches Parts.latchLoad t s1 := .violate .refl
  have hs2 : Touches Parts.latchLoad t s2 := .foldl hs1 (fun _ _ hx => by
      extract_lets k i1 old s3 again
      have hs3 : Touches Parts.latchLoad t s3 := .wr (.wr hx (by cases hi <;> decide)) (by cases hi <;> decide)
      exact .modChan hs3)
  exact .wr (.modLight hs2) (by cases hi <;> decide)

def Parts.noteWear : List Part := [.reg .log, .reg .chr, .status, .chr, .light, .log, .pwr, .stopped]

theorem noteWear {c} (h : Touches ps s t) (hp : Parts.noteWear ⊆ ps := by decide) : Touches ps s (t.noteWear c) :=
  h.after (.foldl .refl (fun _ _ hx => .ite hx (.report (.modChan hx)))) hp

def Parts.quietInterval : List Part := [.reg .lsr, .light, .trn]

theorem quietInterval {c r dump high} (h : Touches ps s t) (hp : Parts.quietInterval ⊆ ps := by decide) :
    Touches ps s (t.quietInterval c r dump high) := by
  refine h.after ?_ hp
  unfold State.quietInterval
  split
  · extract_lets s1 s2
    have hs1 : Touches Parts.quietInterval t s1 := .setRange .refl
    have hs2 : Touches Parts.quietInterval t s2 := .ite (.loseLatch hs1) (.latchLoad (.emit hs1))
    exact .setRange (.showPend hs2)
  · exact .ite .refl (.setRange .refl)

def Parts.updateCeiling : List Part := [.reg .lsr, .light]

theorem updateCeiling {c} (h : Touches ps s t) (hp : Parts.updateCeiling ⊆ ps := by decide) : Touches ps s (t.updateCeiling c) := by
  refine h.after ?_ hp
  unfold State.updateCeiling
  extract_lets s1 terms best s2 cur inc
  have hs1 : Touches Parts.updateCeiling t s1 := .foldl .refl (fun _ _ hx => .wr hx)
  have hs2 : Touches Parts.updateCeiling t s2 := .wr (.wr hs1)
  exact .ite (.modLight (.wr hs2)) (.ite hs2 (.modLight (.wr hs2)))

def Parts.endDiag : List Part := [.reg .lsr, .light]

theorem endDiag {c k} (h : Touches ps s t) (hp : Parts.endDiag ⊆ ps := by decide) : Touches ps s (t.endDiag c k) := by
  refine h.after ?_ hp
  unfold State.endDiag
  extract_lets s1
  have hs1 : Touches Parts.endDiag t s1 := .ite (.modChan (.addLit .refl)) .refl
  exact .releaseLref hs1

def Parts.takeCalibration : List Part := [.light]

theorem takeCalibration {c} (h : Touches ps s t) (hp : Parts.takeCalibration ⊆ ps := by decide) : Touches ps s (t.takeCalibration c) :=
  h.after (.foldl .refl (fun _ _ hx => by
    extract_lets i
    exact .ite hx (.modChan hx))) hp

def Parts.storeBad : List Part := [.reg .alm, .alm]

theorem storeBad {c} (h : Touches ps s t) (hp : Parts.storeBad ⊆ ps := by decide) : Touches ps s (t.storeBad c) :=
  h.after (.almRequest .refl) hp

def Parts.searchStep : List Part := [.reg .lsr, .light]

theorem searchStep {c k} (h : Touches ps s t) (hp : Parts.searchStep ⊆ ps := by decide) : Touches ps s (t.searchStep c k) := by
  refine h.after ?_ hp
  unfold State.searchStep
  split
  · exact .refl
  · exact .ite .refl (by
      extract_lets half s1 full n
      have hs1 : Touches Parts.searchStep t s1 := .modChan .refl
      exact .wantPatterns hs1)

def Parts.startSearch : List Part := [.reg .lsr, .light]

theorem startSearch {c k short} (h : Touches ps s t) (hp : Parts.startSearch ⊆ ps := by decide) :
    Touches ps s (t.startSearch c k short) := by
  refine h.after ?_ hp
  unfold State.startSearch
  extract_lets cands s1
  have hs1 : Touches Parts.startSearch t s1 := .modChan .refl
  exact .searchStep (.wr hs1)

def Parts.selectStandby : List Part := [.light]

theorem selectStandby {c p k} (h : Touches ps s t) (hp : Parts.selectStandby ⊆ ps := by decide) : Touches ps s (t.selectStandby c p k) :=
  h.after (.modLight .refl) hp

def Parts.faultCounter : List Part := [.reg .lsr]

theorem faultCounter {c k cause} (h : Touches ps s t) (hp : Parts.faultCounter ⊆ ps := by decide) :
    Touches ps s (t.faultCounter c k cause) := by
  refine h.after ?_ hp
  unfold State.faultCounter
  extract_lets i
  split
  · exact .bump .refl
  · exact .bump .refl
  · exact .bump .refl
  · exact .refl

def Parts.channelFault : List Part := [.reg .log, .reg .chr, .reg .lsr, .status, .pic, .chr, .light, .trn, .log, .pwr, .stopped]

theorem channelFault {c k cause} (h : Touches ps s t) (hp : Parts.channelFault ⊆ ps := by decide) :
    Touches ps s (t.channelFault c k cause) := by
  refine h.after ?_ hp
  unfold State.channelFault
  extract_lets st i hot off p s1 s2 s3 search tol s4 s5 s6 pend s7 s8 s9
  have hs1 : Touches Parts.channelFault t s1 := .violate .refl
  have hs2 : Touches Parts.channelFault t s2 := .modChan (.faultCounter hs1)
  have hs3 : Touches Parts.channelFault t s3 := .ite (.dropSearch (.modChan hs2)) hs2
  have hs4 : Touches Parts.channelFault t s4 := .setCh hs3
  have hs5 : Touches Parts.channelFault t s5 := .cutDiag (.setLen hs4)
  have hs6 : Touches Parts.channelFault t s6 := .ite (.flagBy hs5) hs5
  have hs7 : Touches Parts.channelFault t s7 := .ite (.modLight hs6) hs6
  have hs8 : Touches Parts.channelFault t s8 := .ite (.policyLightOff hs7) (.ite (by
      split
      · exact .modLight (.selectStandby hs7)
      · exact .ite hs7 (.policyLightOff hs7)) hs7)
  have hs9 : Touches Parts.channelFault t s9 := .ite (.startSearch hs8) hs8
  exact .ite .refl (.ite (.modChan .refl) (.updateCeiling hs9))

def Parts.searchDone : List Part := [.reg .alm, .reg .log, .reg .chr, .reg .lsr, .status, .chr, .light, .alm, .log, .pwr, .stopped]

theorem searchDone {c k sr em} (h : Touches ps s t) (hp : Parts.searchDone ⊆ ps := by decide) : Touches ps s (t.searchDone c k sr em) := by
  refine h.after ?_ hp
  unfold State.searchDone
  extract_lets i s1 s2 s3 w s4
  have hs1 : Touches Parts.searchDone t s1 := .modChan .refl
  have hs2 : Touches Parts.searchDone t s2 := .wr (.wr (.wr hs1))
  have hs3 : Touches Parts.searchDone t s3 := .reportSub (.storeBad hs2)
  have hs4 : Touches Parts.searchDone t s4 := .choosePatterns hs3
  exact .ite (.wantPatterns hs3) (.ite (.setChState hs4) (.modChan hs4))

def Parts.searchJudge : List Part := [.reg .alm, .reg .log, .reg .chr, .reg .lsr, .status, .chr, .light, .alm, .log, .pwr, .stopped]

theorem searchJudge {c k sr pd vstr} (h : Touches ps s t) (hp : Parts.searchJudge ⊆ ps := by decide) :
    Touches ps s (t.searchJudge c k sr pd vstr) := by
  refine h.after ?_ hp
  unfold State.searchJudge
  extract_lets s1 f among left sr1
  have hs1 : Touches Parts.searchJudge t s1 := .modChan .refl
  exact .ite (.searchDone hs1) (.searchStep (.modChan hs1))

def Parts.diagPass : List Part := [.reg .log, .reg .chr, .reg .lsr, .status, .chr, .light, .trn, .log, .pwr, .stopped]

theorem diagPass {c k} (h : Touches ps s t) (hp : Parts.diagPass ⊆ ps := by decide) : Touches ps s (t.diagPass c k) := by
  refine h.after ?_ hp
  unfold State.diagPass
  extract_lets i x shown s1 p s2 s3
  have hs1 : Touches Parts.diagPass t s1 := .modChan .refl
  have hs2 : Touches Parts.diagPass t s2 := .askRun (.setCh hs1)
  have hs3 : Touches Parts.diagPass t s3 := .ite (.report hs2) (.ite (.report (.askRun (.modChan (.setCh hs1)))) hs1)
  exact .ite .refl (.ite (.selectStandby hs3) hs3)

def Parts.lightBanks : List Part := [.reg .log, .reg .chr, .reg .lsr, .status, .pic, .chr, .light, .trn, .log, .pwr, .stopped]

theorem lightBanks {c frame} (h : Touches ps s t) (hp : Parts.lightBanks ⊆ ps := by decide) : Touches ps s (t.lightBanks c frame) :=
  h.after (.foldl .refl (fun _ _ hx => by
    split
    · exact hx
    · exact .ite hx (by
        extract_lets k old moved s1 failed s2 s3 s4
        have hs1 : Touches Parts.lightBanks t s1 := .modLight hx
        have hs2 : Touches Parts.lightBanks t s2 := by
          simp only [s2]
          clear_value old
          split
          · exact .setChState hs1
          · exact hs1
        have hs3 : Touches Parts.lightBanks t s3 := .askRun (.sendChState (.wr (.setChState hs2) (by unfold litFld; split <;> decide)))
        have hs4 : Touches Parts.lightBanks t s4 := .violate hs3
        exact .ite hs1 (by
            clear_value old
            clear_value failed
            split
            · extract_lets s5
              have hs5 : Touches Parts.lightBanks t s5 := .flagBy hs4
              exact .ite (.report hs5) hs5
            · exact hs4)))) hp

def Parts.tearUnlit : List Part := [.pic]

theorem tearUnlit {c frame} (h : Touches ps s t) (hp : Parts.tearUnlit ⊆ ps := by decide) : Touches ps s (t.tearUnlit c frame) :=
  h.after (.ite .refl (.foldl .refl (fun _ _ hx => .flagBy hx))) hp

def Parts.fillPrimaries : List Part := [.light]

theorem fillPrimaries {c} (h : Touches ps s t) (hp : Parts.fillPrimaries ⊆ ps := by decide) : Touches ps s (t.fillPrimaries c) :=
  h.after (.foldl .refl (fun _ _ hx => .ite hx (by
    split
    · exact .selectStandby hx
    · exact hx))) hp

def Parts.flushOut : List Part := [.reg .chr, .reg .hel, .chr, .light, .hel]

theorem flushOut {c i} (h : Touches ps s t) (hp : Parts.flushOut ⊆ ps := by decide) : Touches ps s (t.flushOut c i) := by
  refine h.after ?_ hp
  unfold State.flushOut
  split
  · exact .ite (.writeOut .refl) .refl
  · exact .refl

def Parts.cascadeStrobe : List Part := [.hel]

theorem cascadeStrobe {c at' j scale} (h : Touches ps s t) (hp : Parts.cascadeStrobe ⊆ ps := by decide) :
    Touches ps s (t.cascadeStrobe c at' j scale) :=
  h.after (.modHel .refl) hp

def Parts.arriveStrobes : List Part := [.hel]

theorem arriveStrobes {c} (h : Touches ps s t) (hp : Parts.arriveStrobes ⊆ ps := by decide) : Touches ps s (t.arriveStrobes c) :=
  h.after (.foldl (.modHel .refl) (fun _ _ hx => .modHel hx)) hp

def Parts.loadInit : List Part := [.reg .hel, .hel]

theorem loadInit {c i} (h : Touches ps s t) (hp : Parts.loadInit ⊆ ps := by decide) : Touches ps s (t.loadInit c i) := by
  refine h.after ?_ hp
  unfold State.loadInit
  extract_lets v
  exact .wrI (.modSlot .refl)

def Parts.overrun : List Part := [.reg .log, .reg .frs, .reg .chr, .reg .lsr, .reg .hel, .reg .plt, .status, .pic, .chr, .tri, .light,
    .hel, .mem, .trn, .log, .pwr, .host, .stopped]

theorem overrun {c i} (h : Touches ps s t) (hp : Parts.overrun ⊆ ps := by decide) : Touches ps s (t.overrun c i) := by
  refine h.after ?_ hp
  unfold State.overrun
  extract_lets j first s1 s2 s3 n
  have hs1 : Touches Parts.overrun t s1 := .bump (.bump .refl)
  have hs2 : Touches Parts.overrun t s2 := .modSlot hs1
  have hs3 : Touches Parts.overrun t s3 := .ite (.report hs2) hs2
  exact .ite hs3 (.unitFault hs3)

def Parts.satFault : List Part := [.reg .log, .reg .chr, .reg .lsr, .reg .hel, .status, .pic, .chr, .light, .hel, .trn, .log, .pwr,
    .stopped]

theorem satFault {c i u} (h : Touches ps s t) (hp : Parts.satFault ⊆ ps := by decide) : Touches ps s (t.satFault c i u) := by
  refine h.after ?_ hp
  unfold State.satFault
  extract_lets j act s1 s2 s3
  have hs1 : Touches Parts.satFault t s1 := .modSlot (.wr .refl)
  have hs2 : Touches Parts.satFault t s2 := .report hs1
  have hs3 : Touches Parts.satFault t s3 := .ite hs2 (.foldl hs2 (fun _ _ hx => .channelFault hx))
  exact .showOpen (.ite hs3 (.writeSafe hs3))

def Parts.moveSetpoint : List Part := [.reg .hel, .hel]

theorem moveSetpoint {c i} (h : Touches ps s t) (hp : Parts.moveSetpoint ⊆ ps := by decide) : Touches ps s (t.moveSetpoint c i) := by
  refine h.after ?_ hp
  unfold State.moveSetpoint
  extract_lets j x src req s1 want r
  have hs1 : Touches Parts.moveSetpoint t s1 := .modSlot .refl
  exact .wrb (.wrI hs1)

def Parts.pdLost : List Part := [.reg .log, .reg .chr, .reg .hel, .status, .chr, .hel, .log, .pwr, .stopped]

theorem pdLost {c i} (h : Touches ps s t) (hp : Parts.pdLost ⊆ ps := by decide) : Touches ps s (t.pdLost c i) := by
  refine h.after ?_ hp
  unfold State.pdLost
  extract_lets j n s1
  have hs1 : Touches Parts.pdLost t s1 := .bump (.modSlot .refl)
  exact .ite (.report hs1) hs1

def Parts.acceptSample : List Part := [.reg .log, .reg .chr, .reg .lsr, .reg .hel, .status, .pic, .chr, .light, .hel, .trn, .log, .pwr,
    .stopped]

theorem acceptSample {c i code} (h : Touches ps s t) (hp : Parts.acceptSample ⊆ ps := by decide) :
    Touches ps s (t.acceptSample c i code) := by
  refine h.after ?_ hp
  unfold State.acceptSample
  extract_lets j x s1 s2 s3 s4 wr s5 s6 s7 lit pd gone s8 dark m1 r s9 s10 s11 n s12
  have hs1 : Touches Parts.acceptSample t s1 := .ite .refl (.wr .refl)
  have hs2 : Touches Parts.acceptSample t s2 := .modSlot hs1
  have hs3 : Touches Parts.acceptSample t s3 := by
    simp only [s3]
    split
    · exact .ite (.loadInit hs2) hs2
    · exact hs2
  have hs4 : Touches Parts.acceptSample t s4 := .moveSetpoint hs3
  have hs5 : Touches Parts.acceptSample t s5 := .ite hs4 (.report hs4)
  have hs6 : Touches Parts.acceptSample t s6 := .modSlot (.wr hs5)
  have hs7 : Touches Parts.acceptSample t s7 := .ite hs4 (.report (.wr (.modSlot hs4)))
  have hs8 : Touches Parts.acceptSample t s8 := .ite (.pdLost hs7) (.ite (.modSlot hs7) hs7)
  have hs9 : Touches Parts.acceptSample t s9 := by
    simp only [s9]
    clear_value m1
    split
    · exact .wrI hs8
    · exact hs8
  have hs10 : Touches Parts.acceptSample t s10 := .wrI (.modSlot hs9)
  have hs11 : Touches Parts.acceptSample t s11 := .showOpen (.wrb hs10)
  have hs12 : Touches Parts.acceptSample t s12 := .modSlot (.wrb hs11)
  exact .ite (.showOpen hs6) (.ite hs11 (.ite (.satFault hs12) hs12))

def Parts.expectMeridian : List Part := [.reg .chr, .chr]

theorem expectMeridian {c m'} (h : Touches ps s t) (hp : Parts.expectMeridian ⊆ ps := by decide) : Touches ps s (t.expectMeridian c m') :=
  h.after (.wr (.modChr .refl)) hp

def Parts.applyHeldFlags : List Part := [.pic]

theorem applyHeldFlags {c} (h : Touches ps s t) (hp : Parts.applyHeldFlags ⊆ ps := by decide) : Touches ps s (t.applyHeldFlags c) := by
  refine h.after ?_ hp
  unfold State.applyHeldFlags
  extract_lets f
  exact .modPic .refl

def Parts.showRing : List Part := [.reg .arc]

theorem showRing (h : Touches ps s t) (hp : Parts.showRing ⊆ ps := by decide) : Touches ps s t.showRing := by
  refine h.after ?_ hp
  unfold State.showRing
  extract_lets l newest oldest pend
  exact .wr (.wr .refl)

def Parts.ringBlocked : List Part := [.reg .log, .reg .arc, .reg .chr, .status, .chr, .log, .arc, .pwr, .stopped]

theorem ringBlocked (h : Touches ps s t) (hp : Parts.ringBlocked ⊆ ps := by decide) : Touches ps s t.ringBlocked :=
  h.after (.ite .refl (.stageNote (.report (.wr .refl)))) hp

def Parts.ringWrite : List Part := [.reg .log, .reg .arc, .reg .chr, .status, .chr, .log, .arc, .pwr, .stopped]

theorem ringWrite {c x r} (h : Touches ps s t) (hp : Parts.ringWrite ⊆ ps := by decide) : Touches ps s (t.ringWrite c x r) := by
  refine h.after ?_ hp
  unfold State.ringWrite
  split
  · exact .ringBlocked .refl
  · extract_lets e
    exact .showRing (.wr (.modArc .refl))

def Parts.finishSample : List Part := [.reg .log, .reg .arc, .reg .chr, .status, .chr, .log, .arc, .pwr, .stopped]

theorem finishSample {c x flags tileSec} (h : Touches ps s t) (hp : Parts.finishSample ⊆ ps := by decide) :
    Touches ps s (t.finishSample c x flags tileSec) := by
  refine h.after ?_ hp
  unfold State.finishSample
  extract_lets src
  exact .foldl .refl (fun _ _ hx1 => .ite (.ringWrite hx1) (.stageRec hx1))

def Parts.finishSamples : List Part := [.reg .log, .reg .arc, .reg .chr, .status, .chr, .log, .arc, .pwr, .stopped]

theorem finishSamples {c num flags tileSec} (h : Touches ps s t) (hp : Parts.finishSamples ⊆ ps := by decide) :
    Touches ps s (t.finishSamples c num flags tileSec) := by
  refine h.after ?_ hp
  unfold State.finishSamples
  extract_lets mine s1
  have hs1 : Touches Parts.finishSamples t s1 := .modOut .refl
  exact .foldl hs1 (fun _ _ hx => .finishSample hx)

def Parts.stageAnchor : List Part := [.reg .log, .reg .arc, .reg .chr, .status, .chr, .log, .arc, .pwr, .stopped]

theorem stageAnchor (h : Touches ps s t) (hp : Parts.stageAnchor ⊆ ps := by decide) : Touches ps s t.stageAnchor :=
  h.after (.stageRec .refl) hp

def Parts.startRecording : List Part := [.reg .log, .reg .arc, .reg .chr, .status, .chr, .log, .arc, .pwr, .stopped]

theorem startRecording {note data adopted} (h : Touches ps s t) (hp : Parts.startRecording ⊆ ps := by decide) :
    Touches ps s (t.startRecording note data adopted) := by
  refine h.after ?_ hp
  unfold State.startRecording
  extract_lets s1 s2 s3
  have hs1 : Touches Parts.startRecording t s1 := .wr .refl
  have hs2 : Touches Parts.startRecording t s2 := .modArc hs1
  have hs3 : Touches Parts.startRecording t s3 := .stageAnchor (.stageNote hs2)
  exact .report hs3

def Parts.produceDigest : List Part := [.reg .log, .reg .arc, .reg .frs, .reg .chr, .status, .pic, .chr, .log, .arc, .pwr, .stopped]

theorem produceDigest {c frame mtime rec'} (h : Touches ps s t) (hp : Parts.produceDigest ⊆ ps := by decide) :
    Touches ps s (t.produceDigest c frame mtime rec') := by
  refine h.after ?_ hp
  unfold State.produceDigest
  extract_lets d s1 s2
  have hs1 : Touches Parts.produceDigest t s1 := .modPic .refl
  have hs2 : Touches Parts.produceDigest t s2 := .foldl hs1 (fun _ _ hx => .wr hx)
  exact .takeDigest (.wr hs2)

def Parts.closeDigest : List Part := [.reg .log, .reg .arc, .reg .frs, .reg .chr, .status, .pic, .chr, .log, .arc, .pwr, .stopped]

theorem closeDigest {c f fl} (h : Touches ps s t) (hp : Parts.closeDigest ⊆ ps := by decide) : Touches ps s (t.closeDigest c f fl) :=
  h.after (.ite .refl (by
    extract_lets n flags aux
    exact .produceDigest .refl)) hp

def Parts.heldDigest : List Part := [.reg .log, .reg .arc, .reg .frs, .reg .chr, .status, .pic, .chr, .log, .arc, .pwr, .stopped]

theorem heldDigest {c h' w f} (h : Touches ps s t) (hp : Parts.heldDigest ⊆ ps := by decide) : Touches ps s (t.heldDigest c h' w f) :=
  h.after (.ite .refl (by
    extract_lets fl flags
    exact .produceDigest .refl)) hp

def Parts.heldRecord : List Part := [.reg .log, .reg .arc, .reg .frs, .reg .chr, .status, .pic, .chr, .log, .arc, .pwr, .stopped]

theorem heldRecord {c upto} (h : Touches ps s t) (hp : Parts.heldRecord ⊆ ps := by decide) : Touches ps s (t.heldRecord c upto) := by
  refine h.after ?_ hp
  unfold State.heldRecord
  split
  · exact .refl
  · exact .ite .refl (.heldDigest (.modPic .refl))

def Parts.pairFrame : List Part := [.reg .log, .reg .par, .reg .chr, .status, .chr, .log, .pwr, .par, .stopped]

theorem pairFrame {c num} (h : Touches ps s t) (hp : Parts.pairFrame ⊆ ps := by decide) : Touches ps s (t.pairFrame c num) :=
  h.after (.ite .refl (.checkLockstep (.modPar .refl))) hp

def Parts.allHeldOff : List Part := [.reg .pwr, .reg .chr, .reg .lsr, .reg .geo, .hbm, .plate, .pic, .chr, .tri, .light, .mem, .trn]

theorem allHeldOff (h : Touches ps s t) (hp : Parts.allHeldOff ⊆ ps := by decide) : Touches ps s t.allHeldOff :=
  h.after (.ite (.keepDomains .refl) .refl) hp

def Parts.closeFrame : List Part := [.reg .pwr, .reg .log, .reg .arc, .reg .par, .reg .frs, .reg .chr, .reg .lsr, .reg .pln, .reg .geo,
    .status, .hbm, .plate, .pic, .chr, .tri, .light, .mem, .trn, .log, .arc, .pwr, .par, .stopped]

theorem closeFrame {c f} (h : Touches ps s t) (hp : Parts.closeFrame ⊆ ps := by decide) : Touches ps s (t.closeFrame c f) := by
  refine h.after ?_ hp
  unfold State.closeFrame
  extract_lets src fl s1 s2 s3 s4
  have hs1 : Touches Parts.closeFrame t s1 := .modPic .refl
  have hs2 : Touches Parts.closeFrame t s2 := .wrb (.wr hs1)
  have hs3 : Touches Parts.closeFrame t s3 := .pairFrame (.heldRecord (.closeDigest (.heldRecord hs2)))
  have hs4 : Touches Parts.closeFrame t s4 := .finishSamples hs3
  split
  · exact .ite hs4 (.allHeldOff (.modPic hs4))
  · exact hs4

def Parts.closeAll : List Part := [.reg .pwr, .reg .log, .reg .arc, .reg .par, .reg .frs, .reg .chr, .reg .lsr, .reg .pln, .reg .geo,
    .status, .hbm, .plate, .pic, .chr, .tri, .light, .mem, .trn, .log, .arc, .pwr, .par, .stopped]

theorem closeAll {c} (h : Touches ps s t) (hp : Parts.closeAll ⊆ ps := by decide) : Touches ps s (t.closeAll c) :=
  h.after (.heldRecord (.foldl .refl (fun _ _ hx => .closeFrame hx))) hp

def Parts.sendMark : List Part := []

theorem sendMark {c} (h : Touches ps s t) (hp : Parts.sendMark ⊆ ps := by decide) : Touches ps s (t.sendMark c) :=
  h.after (.ite (.sendTransit .refl) .refl) hp

def Parts.resetBands : List Part := [.tri]

theorem resetBands {c first last place hold pid} (h : Touches ps s t) (hp : Parts.resetBands ⊆ ps := by decide) :
    Touches ps s (t.resetBands c first last place hold pid) :=
  h.after (.ite .refl (by
    extract_lets rep q s1
    have hs1 : Touches Parts.resetBands t s1 := .sendCommand .refl
    exact .ite hs1 (.modTri hs1))) hp

def Parts.resetOff : List Part := [.tri]

theorem resetOff {c} (h : Touches ps s t) (hp : Parts.resetOff ⊆ ps := by decide) : Touches ps s (t.resetOff c) :=
  h.after (.resetBands .refl) hp

def Parts.settleBlocks : List Part := [.reg .log, .reg .chr, .reg .tri, .status, .pic, .chr, .tri, .log, .pwr, .par, .stopped]

theorem settleBlocks {c pid first last key} (h : Touches ps s t) (hp : Parts.settleBlocks ⊆ ps := by decide) :
    Touches ps s (t.settleBlocks c pid first last key).2 := by
  refine h.after ?_ hp
  unfold State.settleBlocks
  extract_lets at' mine all bad path g rows s1
  have hs1 : Touches Parts.settleBlocks t s1 := .countPathPlane (.modTri .refl)
  exact .mkSnd (.foldl hs1 (fun _ _ hx => .report (.bump (.flagBy hx))))

def Parts.resetPlane : List Part := [.reg .log, .reg .chr, .reg .tri, .status, .pic, .chr, .tri, .log, .pwr, .par, .stopped]

theorem resetPlane {c f first last hold ent} (h : Touches ps s t) (hp : Parts.resetPlane ⊆ ps := by decide) :
    Touches ps s (t.resetPlane c f first last hold ent).2 := by
  refine h.after ?_ hp
  unfold State.resetPlane
  split
  · exact .mkSnd (.resetBands .refl)
  · extract_lets p pid seg s1
    have hs1 : Touches Parts.resetPlane t s1 := .resetBands .refl
    split
    · exact .mkSnd hs1
    · exact .settleBlocks hs1

def Parts.lensFall : List Part := [.reg .lsr, .light, .trn]

theorem lensFall {c} (h : Touches ps s t) (hp : Parts.lensFall ⊆ ps := by decide) : Touches ps s (t.lensFall c) :=
  h.after (.foldl .refl (fun _ _ hx => .setLenAt hx)) hp

def Parts.lensRise : List Part := [.reg .lsr, .light, .trn]

theorem lensRise {c} (h : Touches ps s t) (hp : Parts.lensRise ⊆ ps := by decide) : Touches ps s (t.lensRise c) := by
  refine h.after ?_ hp
  unfold State.lensRise
  extract_lets p
  exact .foldl .refl (fun _ _ hx => .ite (.modChan hx) (.ite (.setLenAt hx) hx))

def Parts.placeDiag : List Part := [.light, .trn]

theorem placeDiag {c k} (h : Touches ps s t) (hp : Parts.placeDiag ⊆ ps := by decide) : Touches ps s (t.placeDiag c k) := by
  refine h.after ?_ hp
  unfold State.placeDiag
  extract_lets i code at' taken s1 s2
  have hs1 : Touches Parts.placeDiag t s1 := .violate .refl
  have hs2 : Touches Parts.placeDiag t s2 := .modChan hs1
  exact .ite hs2 (.emit (.emit (.emit hs2)))

def Parts.dumpDiags : List Part := [.reg .log, .reg .chr, .reg .lsr, .status, .chr, .light, .trn, .log, .pwr, .stopped]

theorem dumpDiags {c n f} (h : Touches ps s t) (hp : Parts.dumpDiags ⊆ ps := by decide) : Touches ps s (t.dumpDiags c n f) := by
  refine h.after ?_ hp
  unfold State.dumpDiags
  extract_lets short was s1 s2
  have hs1 : Touches Parts.dumpDiags t s1 := .wrb .refl
  have hs2 : Touches Parts.dumpDiags t s2 := .ite hs1 (by
      split
      · exact .report hs1
      · exact hs1)
  exact .ite hs2 (.foldl hs2 (fun _ _ hx => .placeDiag hx))

def Parts.endAsupp : List Part := [.reg .pln, .chr]

theorem endAsupp {c f} (h : Touches ps s t) (hp : Parts.endAsupp ⊆ ps := by decide) : Touches ps s (t.endAsupp c f) := by
  refine h.after ?_ hp
  unfold State.endAsupp
  extract_lets s1
  have hs1 : Touches Parts.endAsupp t s1 := .modChr .refl
  exact .ite (.wr hs1) hs1

def Parts.suppress : List Part := [.reg .log, .reg .chr, .reg .pln, .status, .pic, .chr, .log, .pwr, .stopped]

theorem suppress {c f} (h : Touches ps s t) (hp : Parts.suppress ⊆ ps := by decide) : Touches ps s (t.suppress c f) := by
  refine h.after ?_ hp
  unfold State.suppress
  extract_lets n s1
  have hs1 : Touches Parts.suppress t s1 := by
    simp only [s1]
    split
    · exact .ite .refl (.report (.wr .refl))
    · exact .refl
  exact .ite hs1 (.modFrame (.bump hs1))

def Parts.frameTiming : List Part := [.reg .chr, .chr]

theorem frameTiming {c f} (h : Touches ps s t) (hp : Parts.frameTiming ⊆ ps := by decide) : Touches ps s (t.frameTiming c f) := by
  refine h.after ?_ hp
  unfold State.frameTiming
  extract_lets k s1 r s2 next g
  have hs1 : Touches Parts.frameTiming t s1 := .ite .refl (.wr .refl)
  have hs2 : Touches Parts.frameTiming t s2 := .wrI (.modChr (.nextAdj hs1))
  exact .expectMeridian hs2

def Parts.idleLanes : List Part := [.reg .tri, .tri]

theorem idleLanes {c} (h : Touches ps s t) (hp : Parts.idleLanes ⊆ ps := by decide) : Touches ps s (t.idleLanes c) :=
  h.after (.ite .refl (by
    extract_lets s1
    have hs1 : Touches Parts.idleLanes t s1 := .wr (.modTri .refl)
    exact .ite hs1 (.foldl hs1 (fun _ _ hx => .emit hx)))) hp

def Parts.heldAtF : List Part := [.reg .pwr, .reg .log, .reg .chr, .reg .tri, .reg .lsr, .reg .geo, .status, .hbm, .plate, .pic, .chr,
    .tri, .light, .mem, .trn, .log, .pwr, .stopped]

theorem heldAtF {c n} (h : Touches ps s t) (hp : Parts.heldAtF ⊆ ps := by decide) : Touches ps s (t.heldAtF c n) := by
  refine h.after ?_ hp
  unfold State.heldAtF
  split
  · exact .refl
  · exact .ite .refl (by
      extract_lets s1 s2
      have hs1 : Touches Parts.heldAtF t s1 := .idleLanes (.wr (.wr (.wr .refl)))
      have hs2 : Touches Parts.heldAtF t s2 := .report hs1
      exact .ite (.keepDomains hs2) hs2)

def Parts.compareVerdicts : List Part := [.reg .log, .reg .chr, .status, .chr, .light, .log, .pwr, .stopped]

theorem compareVerdicts {c} (h : Touches ps s t) (hp : Parts.compareVerdicts ⊆ ps := by decide) : Touches ps s (t.compareVerdicts c) :=
  h.after (.ite .refl (.foldl .refl (fun _ _ hx => by
    split
    · exact hx
    · exact .report (.modChan hx)))) hp

def Parts.frameStart : List Part := [.reg .pwr, .reg .log, .reg .chr, .reg .tri, .reg .lsr, .reg .pln, .reg .geo, .status, .hbm, .plate,
    .pic, .chr, .tri, .light, .hel, .mem, .trn, .log, .pwr, .stopped]

theorem frameStart {c n} (h : Touches ps s t) (hp : Parts.frameStart ⊆ ps := by decide) : Touches ps s (t.frameStart c n) := by
  refine h.after ?_ hp
  unfold State.frameStart
  extract_lets s1
  have hs1 : Touches Parts.frameStart t s1 := .wr .refl
  split
  · exact hs1
  · extract_lets s2 s3 s4 s5 s6
    have hs2 : Touches Parts.frameStart t s2 := .sendMark (.heldAtF (.frameTiming hs1))
    have hs3 : Touches Parts.frameStart t s3 := .modLight (.takeCalibration (.lensFall hs2))
    have hs4 : Touches Parts.frameStart t s4 := .endAsupp (.resetOff hs3)
    have hs5 : Touches Parts.frameStart t s5 := .wr (.wr (.wr hs4))
    have hs6 : Touches Parts.frameStart t s6 := .quietInterval hs5
    exact .strobe (.compareVerdicts (.dumpDiags hs6))

def Parts.nameBanks : List Part := [.light]

theorem nameBanks {c} (h : Touches ps s t) (hp : Parts.nameBanks ⊆ ps := by decide) : Touches ps s (t.nameBanks c) :=
  h.after (.ite .refl (.foldl .refl (fun _ _ hx => by
    extract_lets k
    exact .ite (.selectStandby hx) hx))) hp

def Parts.leaveHeld : List Part := [.reg .log, .reg .chr, .status, .pic, .chr, .log, .pwr, .stopped]

theorem leaveHeld {c n} (h : Touches ps s t) (hp : Parts.leaveHeld ⊆ ps := by decide) : Touches ps s (t.leaveHeld c n) := by
  refine h.after ?_ hp
  unfold State.leaveHeld
  split
  · exact .refl
  · exact .ite .refl (by
      extract_lets s1 s2 w s3
      have hs1 : Touches Parts.leaveHeld t s1 := .modPic (.modChr .refl)
      have hs2 : Touches Parts.leaveHeld t s2 := .applyHeldFlags (.wr hs1)
      have hs3 : Touches Parts.leaveHeld t s3 := .report hs2
      exact .ite hs3 (.report (.bump hs3)))

def Parts.notePicture : List Part := [.reg .pwr, .pwr]

theorem notePicture {c} (h : Touches ps s t) (hp : Parts.notePicture ⊆ ps := by decide) : Touches ps s (t.notePicture c) :=
  h.after (.ite .refl (by
    extract_lets x
    exact .wr (.setPwr .refl))) hp

def Parts.segmentBanks : List Part := [.reg .log, .reg .chr, .reg .lsr, .status, .pic, .chr, .light, .hel, .trn, .log, .pwr, .stopped]

theorem segmentBanks {c n} (h : Touches ps s t) (hp : Parts.segmentBanks ⊆ ps := by decide) : Touches ps s (t.segmentBanks c n) := by
  refine h.after ?_ hp
  unfold State.segmentBanks
  extract_lets was s1 s2
  have hs1 : Touches Parts.segmentBanks t s1 := .tearUnlit (.lightBanks (.nameBanks .refl))
  have hs2 : Touches Parts.segmentBanks t s2 := .foldl hs1 (fun _ _ hx => by
      split
      · exact .modSlot hx
      · exact hx)
  exact .updateCeiling hs2

def Parts.endSegment : List Part := [.hel]

theorem endSegment {c f} (h : Touches ps s t) (hp : Parts.endSegment ⊆ ps := by decide) : Touches ps s (t.endSegment c f) :=
  h.after (.ite .refl (by
    extract_lets p frac at'
    exact .ite .refl (.modHel .refl))) hp

def Parts.segmentStart : List Part := [.reg .pwr, .reg .log, .reg .chr, .reg .tri, .reg .lsr, .status, .pic, .chr, .tri, .light, .hel,
    .trn, .log, .pwr, .par, .stopped]

theorem segmentStart {c f prim body} (h : Touches ps s t) (hp : Parts.segmentStart ⊆ ps := by decide) :
    Touches ps s (t.segmentStart c f prim body) := by
  refine h.after ?_ hp
  unfold State.segmentStart
  extract_lets n s1 s2 s3 p locked s4 s5 b s6 l s7
  have hs1 : Touches Parts.segmentStart t s1 := .endSegment (.foldl .refl (fun _ _ hx => .endDiag hx))
  have hs2 : Touches Parts.segmentStart t s2 := .ite (.noteWear (.notePicture (.leaveHeld hs1))) hs1
  have hs3 : Touches Parts.segmentStart t s3 := .modChr (.takeCalibration (.lensFall hs2))
  have hs4 : Touches Parts.segmentStart t s4 := .segmentBanks (.modLight hs3)
  have hs5 : Touches Parts.segmentStart t s5 := .modLight hs4
  have hs6 : Touches Parts.segmentStart t s6 := .foldl hs5 (fun _ _ hx => .resetPlane hx)
  have hs7 : Touches Parts.segmentStart t s7 := .cascadeStrobe (.quietInterval (.sendMark hs6))
  exact .strobe (.noteTonly hs7)

def Parts.aPlaneReset : List Part := [.reg .log, .reg .chr, .reg .tri, .reg .lsr, .status, .pic, .chr, .tri, .light, .hel, .trn, .log,
    .pwr, .par, .stopped]

theorem aPlaneReset {c f first last e} (h : Touches ps s t) (hp : Parts.aPlaneReset ⊆ ps := by decide) :
    Touches ps s (t.aPlaneReset c f first last e) := by
  refine h.after ?_ hp
  unfold State.aPlaneReset
  extract_lets s1 r s2 n s3
  have hs1 : Touches Parts.aPlaneReset t s1 := .takeCalibration (.lensFall .refl)
  have hs2 : Touches Parts.aPlaneReset t s2 := .modLight (.resetPlane hs1)
  have hs3 : Touches Parts.aPlaneReset t s3 := .ite hs2 (.report (.flagBy hs2))
  exact .strobe (.cascadeStrobe (.quietInterval hs3))

def Parts.takeStatus : List Part := [.reg .log, .reg .frs, .reg .chr, .reg .tri, .reg .lsr, .reg .hel, .reg .pln, .reg .plt, .status, .pic,
    .chr, .tri, .light, .hel, .mem, .trn, .log, .pwr, .host, .stopped]

theorem takeStatus {c m'} (h : Touches ps s t) (hp : Parts.takeStatus ⊆ ps := by decide) : Touches ps s (t.takeStatus c m') := by
  refine h.after ?_ hp
  unfold State.takeStatus
  extract_lets st locks s1 watched bad again s2 s3 s4
  have hs1 : Touches Parts.takeStatus t s1 := .wr (.modTri .refl)
  have hs2 : Touches Parts.takeStatus t s2 := .modTri hs1
  have hs3 : Touches Parts.takeStatus t s3 := .violate hs2
  have hs4 : Touches Parts.takeStatus t s4 := .foldl hs3 (fun _ _ hx => .retireLane hx)
  exact .ite (.returnLaneFault hs4) hs4

def Parts.linkUp : List Part := [.reg .alm, .reg .log, .reg .frs, .reg .chr, .reg .tri, .reg .lsr, .reg .hel, .reg .pln, .reg .plt,
    .status, .pic, .chr, .tri, .light, .hel, .mem, .trn, .alm, .log, .pwr, .host, .stopped]

theorem linkUp {c r} (h : Touches ps s t) (hp : Parts.linkUp ⊆ ps := by decide) : Touches ps s (t.linkUp c r) := by
  refine h.after ?_ hp
  unfold State.linkUp
  extract_lets pass s1 lanes s2 s3 s4 s5 s6 s7 s8
  have hs1 : Touches Parts.linkUp t s1 := .foldl .refl (fun _ _ hx => by
      extract_lets j s9 s10
      have hs9 : Touches Parts.linkUp t s9 := .wr hx
      have hs10 : Touches Parts.linkUp t s10 := .wr (.wr hs9)
      split
      · exact .setTaps hs10
      · exact hs10)
  have hs2 : Touches Parts.linkUp t s2 := .setActive (.setWorking hs1)
  have hs3 : Touches Parts.linkUp t s3 := .modTri hs2
  have hs4 : Touches Parts.linkUp t s4 := .wr (.wr hs3)
  have hs5 : Touches Parts.linkUp t s5 := .sendDump hs4
  have hs6 : Touches Parts.linkUp t s6 := .ite (.report (.wr hs5)) (.returnLaneFault hs5)
  have hs7 : Touches Parts.linkUp t s7 := .foldl hs6 (fun _ _ hx => .retireLane (.noTapEvent hx))
  have hs8 : Touches Parts.linkUp t s8 := .foldl hs7 (fun _ _ hx => by
      split
      · exact .comparePost hx
      · exact hx)
  exact .almRequest hs8

def Parts.sendSpi : List Part := [.hel]

theorem sendSpi {c p} (h : Touches ps s t) (hp : Parts.sendSpi ⊆ ps := by decide) : Touches ps s (t.sendSpi c p) := by
  refine h.after ?_ hp
  unfold State.sendSpi
  extract_lets i div n s1
  have hs1 : Touches Parts.sendSpi t s1 := .modHel .refl
  exact .emit hs1

def Parts.endSpi : List Part := [.hel]

theorem endSpi {c p} (h : Touches ps s t) (hp : Parts.endSpi ⊆ ps := by decide) : Touches ps s (t.endSpi c p) := by
  refine h.after ?_ hp
  unfold State.endSpi
  extract_lets was now s1
  have hs1 : Touches Parts.endSpi t s1 := .modHel .refl
  clear_value was
  clear_value now
  split
  · exact .ite (.sendSpi hs1) hs1
  · exact hs1

def Parts.rawSpi : List Part := [.reg .hel]

theorem rawSpi {c} (h : Touches ps s t) (hp : Parts.rawSpi ⊆ ps := by decide) : Touches ps s (t.rawSpi c) :=
  h.after (.ite .refl (by
    extract_lets s1 f
    have hs1 : Touches Parts.rawSpi t s1 := .emit .refl
    exact .wr (.freeBits hs1))) hp

def Parts.showCs : List Part := [.reg .hel]

theorem showCs {c p ok} (h : Touches ps s t) (hp : Parts.showCs ⊆ ps := by decide) : Touches ps s (t.showCs c p ok) := by
  refine h.after ?_ hp
  unfold State.showCs
  extract_lets s1
  have hs1 : Touches Parts.showCs t s1 := .wr .refl
  exact .wr hs1

def Parts.csInvalid : List Part := [.reg .log, .reg .chr, .reg .hel, .status, .chr, .hel, .log, .pwr, .stopped]

theorem csInvalid {c p cause} (h : Touches ps s t) (hp : Parts.csInvalid ⊆ ps := by decide) : Touches ps s (t.csInvalid c p cause) := by
  refine h.after ?_ hp
  unfold State.csInvalid
  extract_lets n s1 s2 mask
  have hs1 : Touches Parts.csInvalid t s1 := .showCs (.modHel .refl)
  have hs2 : Touches Parts.csInvalid t s2 := .modHel hs1
  exact .ite hs1 (.wr (.report hs2))

def Parts.startTxn : List Part := [.reg .log, .reg .chr, .reg .hel, .status, .chr, .hel, .log, .pwr, .stopped]

theorem startTxn {c p} (h : Touches ps s t) (hp : Parts.startTxn ⊆ ps := by decide) : Touches ps s (t.startTxn c p) := by
  refine h.after ?_ hp
  unfold State.startTxn
  extract_lets s1 idle s2
  have hs1 : Touches Parts.startTxn t s1 := .ite (.csInvalid (.bump (.endSpi .refl))) .refl
  have hs2 : Touches Parts.startTxn t s2 := .modHel hs1
  exact .ite (.sendSpi hs2) hs2

def Parts.csValid : List Part := [.reg .log, .reg .chr, .reg .hel, .status, .chr, .hel, .log, .pwr, .stopped]

theorem csValid {c p m'} (h : Touches ps s t) (hp : Parts.csValid ⊆ ps := by decide) : Touches ps s (t.csValid c p m') := by
  refine h.after ?_ hp
  unfold State.csValid
  extract_lets s1 s2 s3
  have hs1 : Touches Parts.csValid t s1 := .showCs (.modHel .refl)
  have hs2 : Touches Parts.csValid t s2 := .strobe hs1
  have hs3 : Touches Parts.csValid t s3 := .wr (.modHel hs2)
  exact .ite hs2 (.report hs3)

def Parts.patternBad : List Part := [.reg .log, .reg .chr, .reg .lsr, .status, .pic, .chr, .light, .trn, .log, .pwr, .stopped]

theorem patternBad {c k rng} (h : Touches ps s t) (hp : Parts.patternBad ⊆ ps := by decide) : Touches ps s (t.patternBad c k rng) := by
  refine h.after ?_ hp
  unfold State.patternBad
  extract_lets code s1 s2 s3
  have hs1 : Touches Parts.patternBad t s1 := .reportSub (.bump .refl)
  have hs2 : Touches Parts.patternBad t s2 := .modChan .refl
  have hs3 : Touches Parts.patternBad t s3 := .modLight hs2
  exact .ite (.channelFault hs1) (.report (.bump (.showPend hs3)))

def Parts.windowFault : List Part := [.light]

theorem windowFault {c k pd vstr ve miss rng} (h : Touches ps s t) (hp : Parts.windowFault ⊆ ps := by decide) :
    Touches ps s (t.windowFault c k pd vstr ve miss rng).2 := by
  refine h.after ?_ hp
  unfold State.windowFault
  extract_lets x step comp sh mi again pa s1
  have hs1 : Touches Parts.windowFault t s1 := .modChan .refl
  exact .mkSnd hs1

def Parts.faultEvent : List Part := [.reg .log, .reg .chr, .status, .chr, .log, .pwr, .stopped]

theorem faultEvent {c k cause pd expd vstr ve diag} (h : Touches ps s t) (hp : Parts.faultEvent ⊆ ps := by decide) :
    Touches ps s (t.faultEvent c k cause pd expd vstr ve diag) := by
  refine h.after ?_ hp
  unfold State.faultEvent
  extract_lets i f
  split
  · exact .report .refl
  · exact .report .refl
  · exact .report .refl
  · exact .refl

def Parts.judgeWindow : List Part := [.reg .alm, .reg .log, .reg .chr, .reg .lsr, .status, .pic, .chr, .light, .trn, .alm, .log, .pwr,
    .stopped]

theorem judgeWindow {c k pd vstr last} (h : Touches ps s t) (hp : Parts.judgeWindow ⊆ ps := by decide) :
    Touches ps s (t.judgeWindow c k pd vstr last) := by
  refine h.after ?_ hp
  unfold State.judgeWindow
  extract_lets i x diag s1 hi1 expd miss rng check due ve off s2 v st s3
  have hs1 : Touches Parts.judgeWindow t s1 := .wr .refl
  have hs2 : Touches Parts.judgeWindow t s2 := .ite (.modChan hs1) hs1
  have hs3 : Touches Parts.judgeWindow t s3 := .cutDiag (.modChan (.windowFault hs2))
  split
  · exact .ite hs1 (.searchJudge hs1)
  · exact .ite hs1 (.ite (.patternBad hs1) (by
      split
      · exact .ite (.diagPass (.windowFault hs2)) (.windowFault hs2)
      · exact .ite (.modChan hs3) (.ite (.modChan hs3) (.ite (.patternBad hs3) (.channelFault (.faultEvent hs3))))))

def Parts.tsenValidity : List Part := [.reg .log, .reg .chr, .reg .lsr, .status, .chr, .light, .log, .pwr, .stopped]

theorem tsenValidity {c i raw ok} (h : Touches ps s t) (hp : Parts.tsenValidity ⊆ ps := by decide) :
    Touches ps s (t.tsenValidity c i raw ok) := by
  refine h.after ?_ hp
  unfold State.tsenValidity
  extract_lets was s1
  have hs1 : Touches Parts.tsenValidity t s1 := .wrb (.modLight .refl)
  exact .ite (.report hs1) hs1

def Parts.bankTemp : List Part := [.reg .log, .reg .chr, .reg .lsr, .status, .pic, .chr, .light, .trn, .log, .pwr, .stopped]

theorem bankTemp {c k t'} (h : Touches ps s t) (hp : Parts.bankTemp ⊆ ps := by decide) : Touches ps s (t.bankTemp c k t') := by
  refine h.after ?_ hp
  unfold State.bankTemp
  extract_lets i knee cut s1 x st
  have hs1 : Touches Parts.bankTemp t s1 := .ite (.report (.modChan .refl)) (.ite (.report (.modChan .refl)) .refl)
  exact .ite (.channelFault (.report hs1)) hs1

def Parts.reject : List Part := [.reg .eph, .reg .log, .reg .chr, .status, .chr, .log, .pwr, .stopped]

theorem reject {r source} (h : Touches ps s t) (hp : Parts.reject ⊆ ps := by decide) : Touches ps s (t.reject r source) := by
  refine h.after ?_ hp
  unfold State.reject
  extract_lets s1
  have hs1 : Touches Parts.reject t s1 := .wr (.wr (.wr .refl))
  exact .report (.wr hs1)

def Parts.stepOff : List Part := []

theorem stepOff {e} (h : Touches ps s t) (hp : Parts.stepOff ⊆ ps := by decide) : Touches ps s (t.stepOff e) :=
  h.after (.ite (.emit .refl) .refl) hp

def Parts.endRun : List Part := [.reg .trn]

theorem endRun {e pass} (h : Touches ps s t) (hp : Parts.endRun ⊆ ps := by decide) : Touches ps s (t.endRun e pass) :=
  h.after (.wrb (.wr (.wr .refl))) hp

def Parts.notRefused : List Part := [.trn]

theorem notRefused {e} (h : Touches ps s t) (hp : Parts.notRefused ⊆ ps := by decide) : Touches ps s (t.notRefused e) := by
  refine h.after ?_ hp
  unfold State.notRefused
  extract_lets x
  exact .setTrn .refl

def Parts.releaseFc : List Part := [.reg .hbm, .mem]

theorem releaseFc {e} (h : Touches ps s t) (hp : Parts.releaseFc ⊆ ps := by decide) : Touches ps s (t.releaseFc e) :=
  h.after (.ite .refl (by
    split
    · exact .startFc .refl
    · exact .refl)) hp

def Parts.precondFail : List Part := [.reg .log, .reg .chr, .reg .trn, .status, .chr, .trn, .log, .pwr, .stopped]

theorem precondFail {e code at'} (h : Touches ps s t) (hp : Parts.precondFail ⊆ ps := by decide) :
    Touches ps s (t.precondFail e code at') := by
  refine h.after ?_ hp
  unfold State.precondFail
  extract_lets s1 key s2 n rest x
  have hs1 : Touches Parts.precondFail t s1 := .wr (.wr (.endRun .refl))
  have hs2 : Touches Parts.precondFail t s2 := .report hs1
  exact .ite (.report (.setTrn hs2)) (.setTrn hs2)

def Parts.stimulate : List Part := [.trn]

theorem stimulate {e} (h : Touches ps s t) (hp : Parts.stimulate ⊆ ps := by decide) : Touches ps s (t.stimulate e) := by
  refine h.after ?_ hp
  unfold State.stimulate
  extract_lets g n x s1
  have hs1 : Touches Parts.stimulate t s1 := .ite (.setTrn .refl) .refl
  split
  · exact .emit hs1
  · exact .emit hs1
  · exact .emit hs1
  · exact .emit hs1
  · exact hs1

def Parts.startBurst : List Part := [.reg .log, .reg .chr, .reg .trn, .status, .chr, .trn, .log, .pwr, .stopped]

theorem startBurst {e temp pd} (h : Touches ps s t) (hp : Parts.startBurst ⊆ ps := by decide) : Touches ps s (t.startBurst e temp pd) := by
  refine h.after ?_ hp
  unfold State.startBurst
  extract_lets first ch broken cur s1 s2
  have hs1 : Touches Parts.startBurst t s1 := .wr (.notRefused (.endRun .refl))
  have hs2 : Touches Parts.startBurst t s2 := .modEng .refl
  clear_value broken
  split
  · exact .precondFail .refl
  · exact .ite (by
      split
      · exact .wr (.modEng .refl)
      · exact .ite (.precondFail .refl) (.wr .refl)) (.ite (.report hs1) (.wr (.bump (.stimulate hs2))))

def Parts.goEngine : List Part := [.reg .log, .reg .chr, .reg .trn, .status, .chr, .trn, .log, .pwr, .stopped]

theorem goEngine {e temp pd} (h : Touches ps s t) (hp : Parts.goEngine ⊆ ps := by decide) : Touches ps s (t.goEngine e temp pd) := by
  refine h.after ?_ hp
  unfold State.goEngine
  extract_lets st s1 x s2
  have hs1 : Touches Parts.goEngine t s1 := .wrs .refl (by simp; decide)
  have hs2 : Touches Parts.goEngine t s2 := .modEng hs1
  exact .ite .refl (.startBurst hs2)

def Parts.showResult : List Part := [.reg .trn]

theorem showResult {e maps rs} (h : Touches ps s t) (hp : Parts.showResult ⊆ ps := by decide) : Touches ps s (t.showResult e maps rs) := by
  refine h.after ?_ hp
  unfold State.showResult
  extract_lets b r s1
  have hs1 : Touches Parts.showResult t s1 := .wrs .refl (by simp; decide)
  exact .foldl hs1 (fun _ _ hx => .wr hx)

def Parts.setOfs : List Part := [.reg .hel]

theorem setOfs {c k ofs} (h : Touches ps s t) (hp : Parts.setOfs ⊆ ps := by decide) : Touches ps s (t.setOfs c k ofs) :=
  h.after (.foldl .refl (fun _ _ hx => .wr hx)) hp

def Parts.loadFrontEnd : List Part := [.reg .lsr, .reg .hel, .reg .trn]

theorem loadFrontEnd {c p} (h : Touches ps s t) (hp : Parts.loadFrontEnd ⊆ ps := by decide) : Touches ps s (t.loadFrontEnd c p) :=
  h.after (.foldl .refl (fun _ _ hx => by
    extract_lets i f
    exact .setOfs (.wrs hx (by simp; decide)))) hp

def Parts.loadHbmTaps : List Part := [.reg .trn]

theorem loadHbmTaps {r set p} (h : Touches ps s t) (hp : Parts.loadHbmTaps ⊆ ps := by decide) : Touches ps s (t.loadHbmTaps r set p) :=
  h.after (.foldl .refl (fun _ _ hx => by
    extract_lets j
    exact .wr (.wr hx))) hp

def Parts.setPhase : List Part := [.reg .log, .reg .chr, .reg .hel, .reg .trn, .status, .chr, .log, .pwr, .stopped]

theorem setPhase {c k p} (h : Touches ps s t) (hp : Parts.setPhase ⊆ ps := by decide) : Touches ps s (t.setPhase c k p) := by
  refine h.after ?_ hp
  unfold State.setPhase
  extract_lets i was s1 s2
  have hs1 : Touches Parts.setPhase t s1 := .wr (.wr .refl)
  have hs2 : Touches Parts.setPhase t s2 := .ite (.report hs1) hs1
  exact .foldl hs2 (fun _ _ hx => .showOpen hx)

def Parts.applyResult : List Part := [.reg .alm, .reg .log, .reg .chr, .reg .tri, .reg .lsr, .reg .hel, .reg .trn, .status, .chr, .alm,
    .log, .pwr, .stopped]

theorem applyResult {r} (h : Touches ps s t) (hp : Parts.applyResult ⊆ ps := by decide) : Touches ps s (t.applyResult r) := by
  refine h.after ?_ hp
  unfold State.applyResult
  extract_lets c k i v fe f s1 s2
  have hs1 : Touches Parts.applyResult t s1 := .foldl .refl (fun _ _ hx => .wr hx (by simp only [f]; split <;> decide))
  have hs2 : Touches Parts.applyResult t s2 := .setTaps .refl
  split
  · exact .almRequest hs1
  · exact .almRequest hs1
  · exact .almRequest hs2
  · exact .almRequest (.setPhase (.wr .refl))
  · exact .almRequest (.setOfs (.wr .refl))
  · exact .almRequest (.wr (.wr .refl))
  · exact .almRequest (.wr .refl)

def Parts.stageResult : List Part := [.reg .alm, .reg .log, .reg .chr, .reg .tri, .reg .lsr, .reg .hel, .reg .trn, .status, .chr, .trn,
    .alm, .log, .pwr, .stopped]

theorem stageResult {e vals} (h : Touches ps s t) (hp : Parts.stageResult ⊆ ps := by decide) : Touches ps s (t.stageResult e vals) := by
  refine h.after ?_ hp
  unfold State.stageResult
  extract_lets r s1 s2
  have hs1 : Touches Parts.stageResult t s1 := .wr (.wr (.notRefused .refl))
  have hs2 : Touches Parts.stageResult t s2 := .ite (.wr hs1) hs1
  exact .ite (.wr (.applyResult hs1)) (.ite (.wr (.modEng hs1)) (.wr (.modEng hs2)))

def Parts.noTap : List Part := [.reg .log, .reg .frs, .reg .hbm, .reg .chr, .reg .tri, .reg .lsr, .reg .hel, .reg .pln, .reg .plt, .reg
    .trn, .status, .pic, .chr, .tri, .light, .mem, .trn, .log, .pwr, .host, .stopped]

theorem noTap {e b w} (h : Touches ps s t) (hp : Parts.noTap ⊆ ps := by decide) : Touches ps s (t.noTap e b w) := by
  refine h.after ?_ hp
  unfold State.noTap
  extract_lets s1 i c k was s2
  have hs1 : Touches Parts.noTap t s1 := .report (.notRefused (.endRun .refl))
  have hs2 : Touches Parts.noTap t s2 := .foldl (.wr hs1) (fun _ _ hx => .showOpen hx)
  split
  · exact .wr (.wr hs1)
  · exact .wr (.wr hs1)
  · exact .retireLane hs1
  · split
    · exact .wr hs1
    · exact .ite hs2 (.report hs2)

def Parts.recordTap : List Part := [.trn]

theorem recordTap {e errs} (h : Touches ps s t) (hp : Parts.recordTap ⊆ ps := by decide) : Touches ps s (t.recordTap e errs) := by
  refine h.after ?_ hp
  unfold State.recordTap
  extract_lets t1 old maps
  exact .modEng .refl

def Parts.countErrs : List Part := [.reg .trn]

theorem countErrs {e errs} (h : Touches ps s t) (hp : Parts.countErrs ⊆ ps := by decide) : Touches ps s (t.countErrs e errs) :=
  h.after (.foldl .refl (fun _ _ hx => .ite (.bumpBy hx) hx)) hp

def Parts.endSweep : List Part := [.reg .alm, .reg .log, .reg .frs, .reg .hbm, .reg .chr, .reg .tri, .reg .lsr, .reg .hel, .reg .pln, .reg
    .plt, .reg .trn, .status, .pic, .chr, .tri, .light, .mem, .trn, .alm, .log, .pwr, .host, .stopped]

theorem endSweep {e} (h : Touches ps s t) (hp : Parts.endSweep ⊆ ps := by decide) : Touches ps s (t.endSweep e) := by
  refine h.after ?_ hp
  unfold State.endSweep
  extract_lets g rng rs s1 b
  have hs1 : Touches Parts.endSweep t s1 := .showResult .refl
  exact .ite (.noTap hs1) (.ite (.wr (.modEng hs1)) (.stageResult hs1))

def Parts.endBurst : List Part := [.reg .alm, .reg .log, .reg .frs, .reg .hbm, .reg .chr, .reg .tri, .reg .lsr, .reg .hel, .reg .pln, .reg
    .plt, .reg .trn, .status, .pic, .chr, .tri, .light, .mem, .trn, .alm, .log, .pwr, .host, .stopped]

theorem endBurst {e g} (h : Touches ps s t) (hp : Parts.endBurst ⊆ ps := by decide) : Touches ps s (t.endBurst e g) := by
  refine h.after ?_ hp
  unfold State.endBurst
  extract_lets sweep errs s1 s2 s3 last fin
  have hs1 : Touches Parts.endBurst t s1 := .wr (.stepOff .refl)
  have hs2 : Touches Parts.endBurst t s2 := .releaseFc hs1
  have hs3 : Touches Parts.endBurst t s3 := .ite (.recordTap (.ite hs2 (.countErrs hs2))) hs2
  split
  · exact .precondFail hs3
  · exact .ite (.modEng hs3) (by
      split
      · exact .precondFail hs3
      · exact .ite (.endSweep hs3) (.stageResult hs3))

def Parts.applyStaged : List Part := [.reg .alm, .reg .log, .reg .chr, .reg .tri, .reg .lsr, .reg .hel, .reg .trn, .status, .chr, .trn,
    .alm, .log, .pwr, .stopped]

theorem applyStaged {e r} (h : Touches ps s t) (hp : Parts.applyStaged ⊆ ps := by decide) : Touches ps s (t.applyStaged e r) :=
  h.after (.wr (.applyResult (.modEng .refl))) hp

def Parts.expireResult : List Part := [.reg .log, .reg .chr, .reg .trn, .status, .chr, .trn, .log, .pwr, .stopped]

theorem expireResult {e r} (h : Touches ps s t) (hp : Parts.expireResult ⊆ ps := by decide) : Touches ps s (t.expireResult e r) := by
  refine h.after ?_ hp
  unfold State.expireResult
  extract_lets s1 s2 s3
  have hs1 : Touches Parts.expireResult t s1 := .modEng .refl
  have hs2 : Touches Parts.expireResult t s2 := .ite (.wr hs1) hs1
  have hs3 : Touches Parts.expireResult t s3 := .wr (.wr hs2)
  exact .report hs3

def Parts.releaseHeld : List Part := [.reg .trn, .trn]

theorem releaseHeld (h : Touches ps s t) (hp : Parts.releaseHeld ⊆ ps := by decide) : Touches ps s t.releaseHeld :=
  h.after (.foldl .refl (fun _ _ hx => by
    split
    · exact hx
    · extract_lets s1
      have hs1 : Touches Parts.releaseHeld t s1 := .ite (.wr hx) hx
      exact .wr (.modEng hs1))) hp

def Parts.modObs : List Part := [.obs]

theorem modObs {f} (h : Touches ps s t) (hp : Parts.modObs ⊆ ps := by decide) : Touches ps s (t.modObs f) :=
  h.after (.setObs .refl) hp

def Parts.modPwr : List Part := [.pwr]

theorem modPwr {f} (h : Touches ps s t) (hp : Parts.modPwr ⊆ ps := by decide) : Touches ps s (t.modPwr f) :=
  h.after (.setPwr .refl) hp

def Parts.setShed : List Part := [.reg .log, .reg .chr, .reg .trn, .reg .obs, .status, .chr, .trn, .log, .pwr, .obs, .stopped]

theorem setShed {new} (h : Touches ps s t) (hp : Parts.setShed ⊆ ps := by decide) : Touches ps s (t.setShed new) := by
  refine h.after ?_ hp
  unfold State.setShed
  extract_lets old mean since s1 s2
  have hs1 : Touches Parts.setShed t s1 := .wrb (.wr .refl)
  have hs2 : Touches Parts.setShed t s2 := .modObs hs1
  exact .ite .refl (.ite (.report (.bump hs2)) (.ite (.releaseHeld (.report hs2)) (.report hs2)))

def Parts.dropRun : List Part := [.reg .hbm, .reg .trn, .mem, .trn]

theorem dropRun {e} (h : Touches ps s t) (hp : Parts.dropRun ⊆ ps := by decide) : Touches ps s (t.dropRun e) := by
  refine h.after ?_ hp
  unfold State.dropRun
  extract_lets st
  exact .ite (.releaseFc (.wr (.modEng (.stepOff .refl)))) .refl

def Parts.observerDown : List Part := [.reg .log, .reg .hbm, .reg .chr, .reg .trn, .reg .obs, .status, .chr, .mem, .trn, .log, .pwr, .host,
    .obs, .stopped]

theorem observerDown {boots} (h : Touches ps s t) (hp : Parts.observerDown ⊆ ps := by decide) : Touches ps s (t.observerDown boots) := by
  refine h.after ?_ hp
  unfold State.observerDown
  extract_lets s1 x s2 s3 s4
  have hs1 : Touches Parts.observerDown t s1 := .ite (.mailReply .refl) .refl
  have hs2 : Touches Parts.observerDown t s2 := .setHost hs1
  have hs3 : Touches Parts.observerDown t s3 := .ite hs2 (.foldl hs2 (fun _ _ hx1 => .dropRun hx1))
  have hs4 : Touches Parts.observerDown t s4 := .wr (.setShed hs3)
  exact .modObs hs4

def Parts.beginStops : List Part := [.reg .lsr, .pic, .chr, .tri, .light, .trn, .eph]

theorem beginStops (h : Touches ps s t) (hp : Parts.beginStops ⊆ ps := by decide) : Touches ps s t.beginStops :=
  h.after (.forClusters .refl (fun _ _ hx => .ite hx (.modEph (.beginStop hx)))) hp

def Parts.clearStops : List Part := [.reg .lsr, .light, .eph]

theorem clearStops (h : Touches ps s t) (hp : Parts.clearStops ⊆ ps := by decide) : Touches ps s t.clearStops := by
  refine h.after ?_ hp
  unfold State.clearStops
  extract_lets l s1
  have hs1 : Touches Parts.clearStops t s1 := .forClusters .refl (fun _ _ hx => .showOut (.abandonFade (.wr hx)))
  exact .modEph hs1

def Parts.inputsDown : List Part := [.reg .log, .reg .dpr, .reg .chr, .status, .chr, .dp, .log, .pwr, .stopped]

theorem inputsDown (h : Touches ps s t) (hp : Parts.inputsDown ⊆ ps := by decide) : Touches ps s t.inputsDown :=
  h.after (.foldl .refl (fun _ _ hx => by
    extract_lets s1 s2
    have hs1 : Touches Parts.inputsDown t s1 := .ite (.emit hx) hx
    have hs2 : Touches Parts.inputsDown t s2 := .ite hs1 (.report (.wr (.wr hs1)))
    exact .modDp (.wr (.wr hs2)))) hp

def Parts.archiveOff : List Part := [.reg .arc, .arc]

theorem archiveOff (h : Touches ps s t) (hp : Parts.archiveOff ⊆ ps := by decide) : Touches ps s t.archiveOff := by
  refine h.after ?_ hp
  unfold State.archiveOff
  extract_lets s1
  have hs1 : Touches Parts.archiveOff t s1 := .modArc .refl
  exact .wr (.wr hs1)

def Parts.linksOff : List Part := [.reg .tri]

theorem linksOff (h : Touches ps s t) (hp : Parts.linksOff ⊆ ps := by decide) : Touches ps s t.linksOff :=
  h.after (.forClusters .refl (fun _ _ hx => .wr (.wr hx))) hp

def Parts.powerFailRecord : List Part := [.reg .log, .status, .log]

theorem powerFailRecord {vin cause} (h : Touches ps s t) (hp : Parts.powerFailRecord ⊆ ps := by decide) :
    Touches ps s (t.powerFailRecord vin cause) := by
  refine h.after ?_ hp
  unfold State.powerFailRecord
  extract_lets r s1 s2
  have hs1 : Touches Parts.powerFailRecord t s1 := .bump (.wr .refl)
  have hs2 : Touches Parts.powerFailRecord t s2 := .modLog hs1
  exact .wr (.writeRecord hs2)

def Parts.tearObj : List Part := [.alm]

theorem tearObj {oid payload n} (h : Touches ps s t) (hp : Parts.tearObj ⊆ ps := by decide) : Touches ps s (t.tearObj oid payload n) :=
  h.after (.modAlm .refl) hp

def Parts.cutBus : List Part := [.raw, .alm, .log]

theorem cutBus {cut} (h : Touches ps s t) (hp : Parts.cutBus ⊆ ps := by decide) : Touches ps s (t.cutBus cut) := by
  refine h.after ?_ hp
  unfold State.cutBus
  split
  · split
    · exact .refl
    · exact .tearObj .refl
  · split
    · exact .modLog .refl
    · exact .refl
  · exact .ite .refl (.tearObj .refl)
  · extract_lets addr len data
    exact .ite .refl (.setRaw .refl)

def Parts.dropRaw : List Part := [.reg .obs]

theorem dropRaw (h : Touches ps s t) (hp : Parts.dropRaw ⊆ ps := by decide) : Touches ps s t.dropRaw :=
  h.after (.ite (.wr .refl) .refl) hp

def Parts.powerSave : List Part := [.reg .alm, .reg .log, .reg .chr, .status, .chr, .alm, .log, .pwr, .stopped]

theorem powerSave {e joined} (h : Touches ps s t) (hp : Parts.powerSave ⊆ ps := by decide) : Touches ps s (t.powerSave e joined) := by
  refine h.after ?_ hp
  unfold State.powerSave
  extract_lets time image s1 s2
  have hs1 : Touches Parts.powerSave t s1 := .saveShadow .refl
  have hs2 : Touches Parts.powerSave t s2 := .report (.bump hs1)
  split
  · exact .wr (.tearObj .refl)
  · split
    · exact .wr (.wr hs2)
    · split
      · exact .wr (.wr (.saveRing hs1))
      · extract_lets mixed
        exact .wr (.modLog hs1)
      · extract_lets whole s3
        have hs3 : Touches Parts.powerSave t s3 := .modLog hs1
        exact .wr (.tearObj hs3)
      · exact hs1

def Parts.fatalSignals : List Part := [.reg .par, .reg .lsr, .tri, .light, .trn, .par]

theorem fatalSignals {code} (h : Touches ps s t) (hp : Parts.fatalSignals ⊆ ps := by decide) : Touches ps s (t.fatalSignals code) := by
  refine h.after ?_ hp
  unfold State.fatalSignals
  extract_lets s1 s2
  have hs1 : Touches Parts.fatalSignals t s1 := .forClusters .refl (fun _ _ hx => .sendDump (.lensLow hx))
  have hs2 : Touches Parts.fatalSignals t s2 := .setSel hs1
  exact .ite hs1 (.ite (.emit hs2) hs2)

def Parts.powerGoodFail : List Part := [.reg .pwr, .reg .log, .reg .par, .reg .frs, .reg .chr, .reg .lsr, .reg .geo, .reg .plt, .status,
    .hbm, .plate, .pic, .chr, .tri, .light, .mem, .trn, .log, .pwr, .host, .par, .stopped]

theorem powerGoodFail {d} (h : Touches ps s t) (hp : Parts.powerGoodFail ⊆ ps := by decide) : Touches ps s (t.powerGoodFail d) := by
  refine h.after ?_ hp
  unfold State.powerGoodFail
  extract_lets s1 c
  have hs1 : Touches Parts.powerGoodFail t s1 := .keepDomains .refl
  clear_value c
  split
  · exact .darken (.reportSub hs1)
  · exact .fatalEvent hs1

def Parts.lockPlls : List Part := [.reg .pwr]

theorem lockPlls (h : Touches ps s t) (hp : Parts.lockPlls ⊆ ps := by decide) : Touches ps s t.lockPlls :=
  h.after (.wr .refl) hp

def Parts.powerUpPlls : List Part := [.reg .pwr]

theorem powerUpPlls {old} (h : Touches ps s t) (hp : Parts.powerUpPlls ⊆ ps := by decide) : Touches ps s (State.powerUpPlls old t) :=
  h.after (.wr .refl) hp

def Parts.refclkValid : List Part := [.reg .pwr, .reg .log, .reg .chr, .status, .chr, .log, .pwr, .stopped]

theorem refclkValid {err} (h : Touches ps s t) (hp : Parts.refclkValid ⊆ ps := by decide) : Touches ps s (t.refclkValid err) :=
  h.after (.ite .refl (by
    extract_lets s1
    have hs1 : Touches Parts.refclkValid t s1 := .wr .refl
    exact .report hs1)) hp

def Parts.holdupAt : List Part := [.reg .pwr, .reg .log, .reg .chr, .status, .chr, .log, .pwr, .stopped]

theorem holdupAt {energy} (h : Touches ps s t) (hp : Parts.holdupAt ⊆ ps := by decide) : Touches ps s (t.holdupAt energy) := by
  refine h.after ?_ hp
  unfold State.holdupAt
  extract_lets s1
  have hs1 : Touches Parts.holdupAt t s1 := .wrb (.wr .refl)
  exact .ite hs1 (.report (.modPwr hs1))

def Parts.clearFatal : List Part := [.reg .hel, .reg .obs, .status, .chr, .obs]

theorem clearFatal {u i} (h : Touches ps s t) (hp : Parts.clearFatal ⊆ ps := by decide) : Touches ps s (t.clearFatal u i) := by
  refine h.after ?_ hp
  unfold State.clearFatal
  extract_lets s1 s2
  have hs1 : Touches Parts.clearFatal t s1 := .wr .refl
  have hs2 : Touches Parts.clearFatal t s2 := .ite (.showOpen hs1) hs1
  exact .ite hs2 (.wr (.modObs hs2))

def Parts.unknownSections : List Part := [.reg .log, .reg .chr, .status, .chr, .log, .pwr, .stopped]

theorem unknownSections {im} (h : Touches ps s t) (hp : Parts.unknownSections ⊆ ps := by decide) : Touches ps s (t.unknownSections im) :=
  h.after (.foldl .refl (fun _ _ hx => .report hx)) hp

def Parts.cancelSwap : List Part := [.reg .eph, .shadow, .eph]

theorem cancelSwap (h : Touches ps s t) (hp : Parts.cancelSwap ⊆ ps := by decide) : Touches ps s t.cancelSwap := by
  refine h.after ?_ hp
  unfold State.cancelSwap
  split
  · exact .refl
  · extract_lets s1 s2
    have hs1 : Touches Parts.cancelSwap t s1 := .foldl .refl (fun _ _ hx1 => .wr hx1)
    have hs2 : Touches Parts.cancelSwap t s2 := .setShadow hs1
    exact .wr (.modEph hs2)

def Parts.placeHelcoef : List Part := [.shadow]

theorem placeHelcoef {p c} (h : Touches ps s t) (hp : Parts.placeHelcoef ⊆ ps := by decide) : Touches ps s (t.placeHelcoef p c) :=
  h.after (.foldl .refl (fun _ _ hx => .foldl hx (fun _ _ hx1 => .foldl hx1 (fun _ _ hx2 => by
    extract_lets inst
    exact .wrSwap hx2)))) hp

def Parts.copyBlend : List Part := [.reg .geo]

theorem copyBlend {c page} (h : Touches ps s t) (hp : Parts.copyBlend ⊆ ps := by decide) : Touches ps s (t.copyBlend c page) := by
  refine h.after ?_ hp
  unfold State.copyBlend
  extract_lets old
  exact .foldl .refl (fun _ _ hx => .wr hx)

def Parts.recoverObj : List Part := [.reg .alm, .reg .log, .reg .chr, .status, .chr, .alm, .log, .pwr, .stopped]

theorem recoverObj {oid} (h : Touches ps s t) (hp : Parts.recoverObj ⊆ ps := by decide) : Touches ps s (t.recoverObj oid) := by
  refine h.after ?_ hp
  unfold State.recoverObj
  extract_lets r s1 s2 s3 s4
  have hs1 : Touches Parts.recoverObj t s1 := .modAlm .refl
  have hs2 : Touches Parts.recoverObj t s2 := .bump hs1
  have hs3 : Touches Parts.recoverObj t s3 := by
    simp only [s3]
    split
    · exact .report (.bump hs2)
    · exact hs2
  have hs4 : Touches Parts.recoverObj t s4 := by
    simp only [s4]
    split
    · exact .report (.bump hs3)
    · exact hs3
  exact .ite (.report (.bump hs4)) hs4

def Parts.loadSaves : List Part := [.reg .log, .log]

theorem loadSaves (h : Touches ps s t) (hp : Parts.loadSaves ⊆ ps := by decide) : Touches ps s t.loadSaves := by
  refine h.after ?_ hp
  unfold State.loadSaves
  extract_lets p entry s1
  have hs1 : Touches Parts.loadSaves t s1 := .showSaves (.modLog .refl)
  exact .foldl hs1 (fun _ _ hx => .wr hx)

def Parts.applyRecovered : List Part := [.reg .eph, .reg .log, .reg .lsr, .eph, .log, .host]

theorem applyRecovered (h : Touches ps s t) (hp : Parts.applyRecovered ⊆ ps := by decide) : Touches ps s t.applyRecovered := by
  refine h.after ?_ hp
  unfold State.applyRecovered
  extract_lets key s1 s2 x x1
  have hs1 : Touches Parts.applyRecovered t s1 := .wr (.modEph .refl)
  have hs2 : Touches Parts.applyRecovered t s2 := .foldl hs1 (fun _ _ hx2 => .wr hx2)
  have hx : Touches Parts.applyRecovered t x := .loadSaves hs2
  exact .setHost hx

def Parts.startStep3 : List Part := [.reg .eph, .reg .pwr, .reg .alm, .reg .log, .reg .chr, .reg .lsr, .reg .obs, .status, .chr, .eph,
    .alm, .log, .arc, .pwr, .host, .stopped]

theorem startStep3 {cold counting} (h : Touches ps s t) (hp : Parts.startStep3 ⊆ ps := by decide) :
    Touches ps s (t.startStep3 cold counting) := by
  refine h.after ?_ hp
  unfold State.startStep3
  extract_lets s1 s2 s3 s4 n
  have hs1 : Touches Parts.startStep3 t s1 := .lockPlls (.wr (.wr .refl))
  have hs2 : Touches Parts.startStep3 t s2 := .foldl hs1 (fun _ _ hx => .wr hx)
  have hs3 : Touches Parts.startStep3 t s3 := .applyRecovered (.foldl hs2 (fun _ _ hx => .recoverObj hx))
  have hs4 : Touches Parts.startStep3 t s4 := by
    simp only [s4]
    split
    · exact .loadShadow hs3
    · exact hs3
  exact .ite hs3 (.ite (.almRequest hs4) (.countStored (.almWrite hs4)))

def Parts.fatalAtBoot : List Part := [.reg .pwr, .reg .chr, .reg .lsr, .reg .geo, .hbm, .plate, .pic, .chr, .tri, .light, .mem, .trn]

theorem fatalAtBoot (h : Touches ps s t) (hp : Parts.fatalAtBoot ⊆ ps := by decide) : Touches ps s t.fatalAtBoot :=
  h.after (.emit (.wr (.keepDomains (.forClusters .refl (fun _ _ hx => .lensLow hx))))) hp

def Parts.startStep5 : List Part := [.reg .pwr, .reg .chr, .reg .lsr, .reg .geo, .reg .obs, .hbm, .plate, .pic, .chr, .tri, .light, .mem,
    .trn, .host, .obs]

theorem startStep5 (h : Touches ps s t) (hp : Parts.startStep5 ⊆ ps := by decide) : Touches ps s t.startStep5 :=
  h.after (.ite .refl (by
    split
    · exact .fatalAtBoot .refl
    · extract_lets s1 x1
      have hs1 : Touches Parts.startStep5 t s1 := .wr (.wr (.wr .refl))
      exact .setHostObs hs1)) hp

def Parts.loadRegionTaps : List Part := [.reg .log, .reg .chr, .reg .trn, .status, .chr, .log, .pwr, .stopped]

theorem loadRegionTaps {reg} (h : Touches ps s t) (hp : Parts.loadRegionTaps ⊆ ps := by decide) : Touches ps s (t.loadRegionTaps reg) :=
  h.after (.foldl .refl (fun _ _ hx => by
    extract_lets oid
    split
    · exact .loadHbmTaps hx
    · exact .report hx)) hp

def Parts.startRegion : List Part := [.reg .eph, .reg .alm, .reg .log, .reg .hbm, .reg .chr, .reg .trn, .status, .hbm, .chr, .dp, .mem,
    .alm, .log, .arc, .pwr, .stopped]

theorem startRegion {r reg} (h : Touches ps s t) (hp : Parts.startRegion ⊆ ps := by decide) : Touches ps s (t.startRegion r reg) :=
  h.after (.ite (.wr (.wr (.modRegion .refl))) (by
    extract_lets s1 s2 t1 t2 s3 s4 s5
    have hs1 : Touches Parts.startRegion t s1 := .loadRegionTaps .refl
    have hs2 : Touches Parts.startRegion t s2 := .foldl hs1 (fun _ _ hx => .wr hx)
    have hs3 : Touches Parts.startRegion t s3 := .wr (.modRegion (.mkSnd (.keepTaps (.regionTrained hs2))))
    have hs4 : Touches Parts.startRegion t s4 := .foldl hs3 (fun _ _ hx => .wr hx)
    have hs5 : Touches Parts.startRegion t s5 := .foldl hs4 (fun _ _ hx => .wr hx)
    exact .ite (.wr (.setPcs hs5)) hs5)) hp

def Parts.startAdc : List Part := [.reg .log, .reg .chr, .reg .lsr, .reg .hel, .reg .trn, .status, .chr, .log, .pwr, .stopped]

theorem startAdc {a} (h : Touches ps s t) (hp : Parts.startAdc ⊆ ps := by decide) : Touches ps s (t.startAdc a) := by
  refine h.after ?_ hp
  unfold State.startAdc
  extract_lets i s1 s2
  have hs1 : Touches Parts.startAdc t s1 := .setOfs (.wr .refl)
  have hs2 : Touches Parts.startAdc t s2 := .report hs1
  split
  · exact .setPhase hs1
  · split
    · exact .setPhase hs2
    · exact .foldl (.report (.wr hs2)) (fun _ _ hx1 => .showOpen hx1)

def Parts.startStep9 : List Part := [.reg .eph, .reg .pwr, .reg .log, .reg .chr, .status, .chr, .log, .pwr, .par, .stopped]

theorem startStep9 {kind} (h : Touches ps s t) (hp : Parts.startStep9 ⊆ ps := by decide) : Touches ps s (t.startStep9 kind) := by
  refine h.after ?_ hp
  unfold State.startStep9
  extract_lets s1 s2
  have hs1 : Touches Parts.startStep9 t s1 := .wr (.wr (.wr .refl))
  have hs2 : Touches Parts.startStep9 t s2 := .forClusters hs1 (fun _ _ hx => .requestCommit hx)
  split
  · exact hs2
  · exact .report hs2

def Parts.lockDebug : List Part := [.reg .eph, .eph]

theorem lockDebug (h : Touches ps s t) (hp : Parts.lockDebug ⊆ ps := by decide) : Touches ps s t.lockDebug :=
  h.after (.modEph (.wr (.wr .refl))) hp

def Parts.stopUnits : List Part := [.reg .pwr, .reg .log, .reg .arc, .reg .par, .reg .frs, .reg .chr, .reg .lsr, .reg .hel, .reg .pln, .reg
    .geo, .status, .hbm, .plate, .pic, .chr, .tri, .light, .hel, .mem, .trn, .log, .arc, .pwr, .par, .stopped]

theorem stopUnits {c} (h : Touches ps s t) (hp : Parts.stopUnits ⊆ ps := by decide) : Touches ps s (t.stopUnits c) := by
  refine h.after ?_ hp
  unfold State.stopUnits
  extract_lets s1 s2 s3
  have hs1 : Touches Parts.stopUnits t s1 := .abandonFade (.closeAll (.stopCluster .refl))
  have hs2 : Touches Parts.stopUnits t s2 := .modLight hs1
  have hs3 : Touches Parts.stopUnits t s3 := .modHel hs2
  exact .foldl hs3 (fun _ _ hx => .ite (.writeSafe hx) hx)

def Parts.beginReload : List Part := [.reg .eph, .reg .pwr, .reg .log, .reg .dpr, .reg .arc, .reg .chn, .reg .par, .reg .frs, .reg .chr,
    .reg .lsr, .reg .hel, .reg .pln, .reg .geo, .status, .hbm, .plate, .pic, .chr, .tri, .light, .hel, .dp, .mem, .trn, .eph, .log, .arc,
        .pwr, .chn, .par, .stopped]

theorem beginReload (h : Touches ps s t) (hp : Parts.beginReload ⊆ ps := by decide) : Touches ps s t.beginReload := by
  refine h.after ?_ hp
  unfold State.beginReload
  extract_lets s1 s2 s3
  have hs1 : Touches Parts.beginReload t s1 := .wr (.wr .refl)
  have hs2 : Touches Parts.beginReload t s2 := .forClusters hs1 (fun _ _ hx => .stopUnits hx)
  have hs3 : Touches Parts.beginReload t s3 := .endLockstep (.modEph (.inputsDown hs2))
  exact .ite hs3 (.sendArm hs3)

def Parts.openUpload : List Part := [.reg .plt, .mem, .eph, .host]

theorem openUpload {tg length} (h : Touches ps s t) (hp : Parts.openUpload ⊆ ps := by decide) : Touches ps s (t.openUpload tg length) := by
  refine h.after ?_ hp
  unfold State.openUpload
  extract_lets s1 s2 x
  have hs1 : Touches Parts.openUpload t s1 := .modEph .refl
  have hs2 : Touches Parts.openUpload t s2 := .ite (.takeStaging hs1) hs1
  exact .setHost hs2

def Parts.holdPart : List Part := [.eph]

theorem holdPart {u} (h : Touches ps s t) (hp : Parts.holdPart ⊆ ps := by decide) : Touches ps s (t.holdPart u) := by
  refine h.after ?_ hp
  unfold State.holdPart
  split
  · extract_lets key
    exact .ite .refl (.modEph .refl)
  · exact .refl

def Parts.refuseImage : List Part := [.reg .eph, .reg .log, .reg .chr, .status, .chr, .log, .pwr, .stopped]

theorem refuseImage {r source} (h : Touches ps s t) (hp : Parts.refuseImage ⊆ ps := by decide) : Touches ps s (t.refuseImage r source).1 :=
  h.after (.mkFst (.reject .refl)) hp

def Parts.askReload : List Part := [.reg .eph, .reg .lsr, .shadow, .pic, .chr, .tri, .light, .trn, .eph]

theorem askReload {slot} (h : Touches ps s t) (hp : Parts.askReload ⊆ ps := by decide) : Touches ps s (t.askReload slot) :=
  h.after (.beginStops (.modEph (.cancelSwap .refl))) hp

def Parts.stopLane : List Part := [.reg .log, .reg .frs, .reg .chr, .reg .tri, .reg .lsr, .reg .pln, .reg .plt, .status, .pic, .chr, .tri,
    .light, .mem, .trn, .log, .pwr, .host, .stopped]

theorem stopLane {c lane} (h : Touches ps s t) (hp : Parts.stopLane ⊆ ps := by decide) : Touches ps s (t.stopLane c lane) := by
  refine h.after ?_ hp
  unfold State.stopLane
  extract_lets l s1
  have hs1 : Touches Parts.stopLane t s1 := .retireOutcome (.setWorking .refl)
  exact .ite .refl (.foldl hs1 (fun _ _ hx => .resend hx))

def Parts.stopPwm : List Part := [.reg .hel]

theorem stopPwm {j} (h : Touches ps s t) (hp : Parts.stopPwm ⊆ ps := by decide) : Touches ps s (t.stopPwm j) := by
  refine h.after ?_ hp
  unfold State.stopPwm
  extract_lets s1
  have hs1 : Touches Parts.stopPwm t s1 := .wr (.wr .refl)
  exact .ite (.emit hs1) hs1

def Parts.stopTsen : List Part := [.reg .lsr, .light]

theorem stopTsen {j} (h : Touches ps s t) (hp : Parts.stopTsen ⊆ ps := by decide) : Touches ps s (t.stopTsen j) := by
  refine h.after ?_ hp
  unfold State.stopTsen
  extract_lets c
  exact .updateCeiling (.modLight (.wr .refl))

def Parts.unitDown : List Part := [.reg .log, .reg .frs, .reg .hbm, .reg .chr, .reg .tri, .reg .lsr, .reg .hel, .reg .pln, .reg .plt, .reg
    .trn, .reg .obs, .status, .pic, .chr, .tri, .light, .hel, .mem, .trn, .log, .pwr, .host, .obs, .stopped]

theorem unitDown {u i sub code items} (h : Touches ps s t) (hp : Parts.unitDown ⊆ ps := by decide) :
    Touches ps s (t.unitDown u i sub code items) :=
  h.after (.ite .refl (by
    extract_lets s1 s2
    have hs1 : Touches Parts.unitDown t s1 := .ite (.modObs (.observerDown .refl)) .refl
    have hs2 : Touches Parts.unitDown t s2 := .unitFault hs1
    split
    · exact .ite hs2 (.stopLane hs2)
    · exact .stopPwm hs2
    · exact .stopTsen hs2
    · exact hs2)) hp

def Parts.popRetire : List Part := [.pic]

theorem popRetire {c} (h : Touches ps s t) (hp : Parts.popRetire ⊆ ps := by decide) : Touches ps s (t.popRetire c) :=
  h.after (.modPic .refl) hp

def Parts.mailRequested : List Part := [.reg .obs]

theorem mailRequested {code m' args page} (h : Touches ps s t) (hp : Parts.mailRequested ⊆ ps := by decide) :
    Touches ps s (t.mailRequested code m' args page) := by
  refine h.after ?_ hp
  unfold State.mailRequested
  extract_lets x
  have hx : Touches Parts.mailRequested t x := .foldl (.wr (.wr .refl)) (fun _ _ hx1 => .wr hx1)
  exact .writePage (.wr (.wr hx))

end Touches

end Sys2Proof.Machine
end

section
/-! Reads of the model's vectors after a write, and LEN of the channels: which operations leave it low (R18, R178). -/

namespace Sys2Proof.Machine

set_option Elab.async false

theorem vector_get_set {α : Type} {n : Nat} (v : Vector α n) (i j : Fin n) (x : α) : (v.set i x)[j] = if i = j then x else v[j] := by
  simp [Vector.getElem_set, Fin.ext_iff]

@[simp] theorem vector_get_set_self {α : Type} {n : Nat} (v : Vector α n) (i : Fin n) (x : α) : (v.set i x)[i] = x := by
  simp

theorem vector_get_set_ne {α : Type} {n : Nat} (v : Vector α n) {i j : Fin n} (x : α) (h : j ≠ i) : (v.set i x)[j] = v[j] := by
  rw [vector_get_set, if_neg (Ne.symm h)]

theorem bit_eq_testBit (a i : Nat) : bit a i = a.testBit i := by
  rw [Nat.testBit_eq_decide_div_mod_eq, bit]
  rfl

theorem bit_and (a b i : Nat) : bit (a &&& b) i = (bit a i && bit b i) := by
  simp only [bit_eq_testBit, Nat.testBit_and]

theorem mem_allClusters (c : Fin 4) : c ∈ allClusters := by
  revert c
  decide

theorem mem_allChans (k : Fin 6) : k ∈ allChans := by
  revert k
  decide

/-- A fold leaves what one of its steps brings about, where every step keeps it. -/
theorem foldl_of_mem {α β : Type} {g : β → α → β} {P : β → Prop} {l : List α} {a : α} (ha : a ∈ l) (hstep : ∀ x, P (g x a))
    (hkeep : ∀ x b, P x → P (g x b)) (x : β) : P (l.foldl g x) := by
  have hk : ∀ (l : List α) x, P x → P (l.foldl g x) := by
    intro l
    induction l with
    | nil => exact fun _ h => h
    | cons b l ih => exact fun x h => ih _ (hkeep x b h)
  induction l generalizing x with
  | nil => exact nomatch ha
  | cons b l ih =>
    rcases List.mem_cons.1 ha with rfl | ha
    · exact hk l _ (hstep x)
    · exact ih ha _

namespace State

theorem modChan_chan (s : State) (c d : Fin 4) (k j : Fin 6) (f : LaserCh → LaserCh) :
    (s.modChan c k f).light[d].chans[j] = if c = d ∧ k = j then f s.light[c].chans[k] else s.light[d].chans[j] := by
  unfold modChan modLight
  rw [vector_get_set]
  by_cases hc : c = d
  · subst hc
    by_cases hk : k = j
    · subst hk
      simp
    · simp [hk, vector_get_set_ne _ _ (Ne.symm hk), -Fin.getElem_fin]
  · simp [hc]

/-- A change of a channel that leaves LEN alone. -/
theorem modChan_len (s : State) (c d : Fin 4) (k j : Fin 6) {f : LaserCh → LaserCh} (hf : ∀ x, (f x).len = x.len) :
    (s.modChan c k f).light[d].chans[j].len = s.light[d].chans[j].len := by
  rw [modChan_chan]
  split
  · rename_i h
    obtain ⟨rfl, rfl⟩ := h
    exact hf _
  · rfl

end State

/-- From s to t no LEN has risen. -/
def NoRise (s t : State) : Prop := ∀ (c : Fin 4) (k : Fin 6), s.light[c].chans[k].len = false → t.light[c].chans[k].len = false

namespace NoRise

variable {s t u : State}

theorem refl : NoRise s s := fun _ _ h => h

theorem trans (h : NoRise s t) (k : NoRise t u) : NoRise s u := fun c j e => k c j (h c j e)

theorem of_light (h : NoRise s t) (e : u.light = t.light) : NoRise s u := fun c k hl => by rw [e]; exact h c k hl

theorem touches {ps : List Part} (h : NoRise s t) (k : Touches ps t u) (hp : Part.light ∉ ps := by decide) : NoRise s u :=
  h.of_light (k .light hp)

theorem ite {p : Prop} [Decidable p] (h : NoRise s t) (k : NoRise s u) : NoRise s (if p then t else u) := by
  split
  · exact h
  · exact k

theorem foldl {α : Type} {g : State → α → State} {l : List α} (h : NoRise s t) (k : ∀ x a, NoRise s x → NoRise s (g x a)) :
    NoRise s (l.foldl g t) := by
  induction l generalizing t with
  | nil => exact h
  | cons a l ih => exact ih (k t a h)

theorem wr {f : Fld} {i v : Nat} (h : NoRise s t) : NoRise s (t.wr f i v) := h.of_light rfl

theorem modChan {c : Fin 4} {k : Fin 6} {f : LaserCh → LaserCh} (h : NoRise s t) (hf : ∀ x, x.len = false → (f x).len = false) :
    NoRise s (t.modChan c k f) := fun d j e => by
  rw [State.modChan_chan]
  split
  · rename_i hd
    obtain ⟨rfl, rfl⟩ := hd
    exact hf _ (h _ _ e)
  · exact h _ _ e

theorem modLight {c : Fin 4} {f : Light → Light} (h : NoRise s t) (hf : ∀ x, (f x).chans = x.chans) : NoRise s (t.modLight c f) :=
  fun d j e => by
    by_cases hd : d = c
    · subst hd
      simp only [State.modLight_light, vector_get_set_self, hf]
      exact h _ _ e
    · simp only [State.modLight_light, vector_get_set_ne _ _ hd]
      exact h _ _ e

theorem addLit {c : Fin 4} {k : Fin 6} {n pat : Nat} (h : NoRise s t) : NoRise s (t.addLit c k n pat) := by
  unfold State.addLit
  extract_lets i x em s1 s2
  have hs1 : NoRise s s1 := h.of_light rfl
  have hs2 : NoRise s s2 := .foldl hs1 fun x a hx => by
    split
    · exact hx
    · exact .wr hx
  exact hs2.modChan fun _ e => e

theorem litUntil {c : Fin 4} {k : Fin 6} {n m : Nat} (h : NoRise s t) : NoRise s (t.litUntil c k n m) :=
  .addLit (.modLight h fun _ => rfl)

theorem setLenAt {c : Fin 4} {k : Fin 6} {dly : Int} (h : NoRise s t) : NoRise s (t.setLenAt c k false dly) := by
  unfold State.setLenAt
  split
  · exact h
  · extract_lets s1 edge was s2 s3
    have hs2 : NoRise s s2 := .litUntil h
    have hs3 : NoRise s s3 := .modChan hs2 fun _ _ => rfl
    exact .ite hs3 (.ite (hs3.of_light rfl) (hs3.of_light rfl))

theorem cutDiag {c : Fin 4} {k : Fin 6} (h : NoRise s t) : NoRise s (t.cutDiag c k) := by
  unfold State.cutDiag
  extract_lets x s1 upto s2
  have hs2 : NoRise s s2 := .modChan (.addLit h) fun _ e => e
  exact .ite h (.ite (hs2.of_light rfl) hs2)

theorem lensLow {c : Fin 4} (h : NoRise s t) : NoRise s (t.lensLow c) := .foldl h fun _ _ hx => .cutDiag (.setLenAt hx)

theorem sendDump {c : Fin 4} (h : NoRise s t) : NoRise s (t.sendDump c) := h.touches (.sendDump (ps := Touches.Parts.sendDump) .refl (List.Subset.refl _))

theorem stopCluster {c : Fin 4} (h : NoRise s t) : NoRise s (t.stopCluster c) := by
  unfold State.stopCluster
  extract_lets s1 s2 s3 s4 s5
  have hs1 : NoRise s s1 := (sendDump (.lensLow h)).touches (.dropFrames (ps := Touches.Parts.dropFrames) .refl (List.Subset.refl _))
  have hs2 : NoRise s s2 := hs1.of_light (State.modChr_light ..)
  have hs3 : NoRise s s3 := .ite (.wr (.wr hs2)) hs2
  have hs4 : NoRise s s4 := hs3.of_light (State.modPic_light ..)
  have hs5 : NoRise s s5 := hs4.of_light (State.modTri_light ..)
  exact .wr (.wr hs5)

end NoRise

namespace State

theorem setLenAt_low (s : State) (c : Fin 4) (k : Fin 6) (dly : Int) : (s.setLenAt c k false dly).light[c].chans[k].len = false := by
  unfold setLenAt
  split
  · rename_i h
    simpa using h
  · extract_lets s1 edge was s2 s3
    have hs3 : s3.light[c].chans[k].len = false := by simp only [s3, modChan_chan, and_self, if_true]
    split
    · exact hs3
    · split
      · exact hs3
      · exact hs3

/-- `lensLow` leaves every LEN of its cluster low. -/
theorem lensLow_low (s : State) (c : Fin 4) : (s.lensLow c).lensAllLow c := by
  intro k
  refine foldl_of_mem (P := fun x : State => x.light[c].chans[k].len = false) (mem_allChans k) (fun x => ?_) (fun x j hx => ?_) s
  · exact (NoRise.cutDiag .refl) c k (setLenAt_low x c k 0)
  · exact (NoRise.cutDiag (.setLenAt .refl)) c k hx

theorem lensAllLow_of_noRise {s t : State} {c : Fin 4} (h : s.lensAllLow c) (k : NoRise s t) : t.lensAllLow c := fun j => k c j (h j)

/-- A fold over all clusters that darkens each leaves all dark. -/
theorem forClusters_low {f : State → Fin 4 → State} (hlow : ∀ x c, (f x c).lensAllLow c) (hkeep : ∀ x c, NoRise x (f x c)) (s : State)
    (c : Fin 4) : (s.forClusters allClusters f).lensAllLow c :=
  foldl_of_mem (P := fun x : State => x.lensAllLow c) (mem_allClusters c) (fun x => hlow x c)
    (fun x b hx => lensAllLow_of_noRise hx (hkeep x b)) s

/-- What `keepDomains` does to a cluster, by the domains that stay on. -/
def keepCluster (s : State) (on : Nat) (c : Fin 4) : State :=
  let s := if bit on (9 + c.val) then s else s.lensLow c
  if bit on (38 + c.val) then s else s.stopCluster c

theorem keepCluster_noRise (s : State) (on : Nat) (c : Fin 4) : NoRise s (s.keepCluster on c) := by
  unfold keepCluster
  have h : NoRise s (if bit on (9 + c.val) then s else s.lensLow c) := .ite .refl (.lensLow .refl)
  exact .ite h (.stopCluster h)

theorem keepCluster_low (s : State) {on : Nat} {c : Fin 4} (h : bit on (9 + c.val) = false) : (s.keepCluster on c).lensAllLow c := by
  unfold keepCluster
  simp only [h]
  split
  · exact lensLow_low s c
  · exact lensAllLow_of_noRise (lensLow_low s c) (.stopCluster .refl)

theorem forClusters_keepCluster_low (s : State) {on : Nat} {c : Fin 4} (h : bit on (9 + c.val) = false) :
    (s.forClusters allClusters fun s c => s.keepCluster on c).lensAllLow c :=
  foldl_of_mem (P := fun x : State => x.lensAllLow c) (mem_allClusters c) (fun x => keepCluster_low x h)
    (fun x d hx => lensAllLow_of_noRise hx (keepCluster_noRise x on d)) s

/-- What `keepDomains` does of each cluster whose light is not to stay. -/
theorem keepDomains_low (s : State) (mask : Nat) (c : Fin 4) (h : bit mask (9 + c.val) = false) : (s.keepDomains mask).lensAllLow c := by
  unfold keepDomains
  extract_lets on s1 s2 x s3 y s4 need
  have hon : bit on (9 + c.val) = false := by rw [bit_and, h, Bool.and_false]
  have hs2 : s2.lensAllLow c := forClusters_keepCluster_low s1 hon
  have hs3 : s3.lensAllLow c := by
    simp only [s3]
    split
    · exact hs2
    · exact hs2
  exact hs3

theorem keepDomains_hbm (s : State) (mask : Nat) (h : bit mask 17 = false) : (s.keepDomains mask).hbm = [] := by
  unfold keepDomains
  extract_lets on s1 s2 x s3 y s4 need
  have hs3 : s3.hbm = [] := by
    simp only [s3]
    rw [if_neg (by simp [on, bit_and, h])]
  exact hs3

theorem keepDomains_plate (s : State) (mask : Nat) (h : ∀ i, i < 8 → bit mask (18 + i) = false) : (s.keepDomains mask).plate = [] := by
  unfold keepDomains
  extract_lets on s1 s2 x s3 y s4 need
  have hs4 : s4.plate = [] := by
    simp only [s4]
    refine List.filter_eq_nil_iff.2 fun z _ => ?_
    simp [on, bit_and, h _ (Nat.mod_lt _ (by decide))]
  exact hs4

/-- After the end of power, or of what a fatal state keeps on, no LEN is high. -/
theorem moduleFatal_low (s : State) (code : Nat) (c : Fin 4) : (s.moduleFatal code).lensAllLow c := keepDomains_low _ _ c (by
  revert c
  decide)

@[simp] theorem moduleFatal_state (s : State) (code : Nat) : (s.moduleFatal code).rd (.pwr .stateState) 0 = 5 := by
  unfold moduleFatal
  exact rd_wr_same ..

theorem powerDown_eq_keep {s : State} (vin cause : Nat) (cut : Option BusCut) (e : SaveEnd) (h : s.rd (.pwr .stateState) 0 ≠ 3) :
    ∃ x : State, Touches [.reg .pwr, .reg .par, .reg .tri, .pwr, .par] (x.keepDomains 1) (s.powerDown vin cause cut e)
      ∧ (s.powerDown vin cause cut e).rd (.pwr .stateState) 0 = 3 := by
  unfold powerDown
  rw [if_neg (by simpa using h)]
  extract_lets early last s1 joined s2 s3 s4 s5 s6 s7 s8 s9 s10 s11 s12
  refine ⟨s9, ?_, ?_⟩
  · have hs10 : Touches [.reg .pwr, .reg .par, .reg .tri, .pwr, .par] (s9.keepDomains 1) s10 := .linksOff .refl
    have hs11 : Touches [.reg .pwr, .reg .par, .reg .tri, .pwr, .par] (s9.keepDomains 1) s11 := .modPwr (.emit (.setSel hs10))
    have hs12 : Touches [.reg .pwr, .reg .par, .reg .tri, .pwr, .par] (s9.keepDomains 1) s12 := .ite hs11 (.wr hs11)
    exact .wr (.wr hs12)
  · rw [rd_wr_ne _ (by decide), rd_wr_same]
    rfl

/-- The end of power (R369): the module is in POWER_DOWN, its memories are empty and every LEN is low. -/
theorem powerDown_ends {s : State} (vin cause : Nat) (cut : Option BusCut) (e : SaveEnd) (h : s.rd (.pwr .stateState) 0 ≠ 3) :
    (s.powerDown vin cause cut e).rd (.pwr .stateState) 0 = 3 ∧ (s.powerDown vin cause cut e).hbm = []
      ∧ (s.powerDown vin cause cut e).plate = [] ∧ ∀ c, (s.powerDown vin cause cut e).lensAllLow c := by
  obtain ⟨x, hx, hst⟩ := powerDown_eq_keep vin cause cut e h
  refine ⟨hst, ?_, ?_, fun c => ?_⟩
  · rw [hx .hbm (by decide)]
    exact keepDomains_hbm x 1 rfl
  · rw [hx .plate (by decide)]
    exact keepDomains_plate x 1 (by decide)
  · exact lensAllLow_of_noRise (keepDomains_low x 1 c (by revert c; decide)) (NoRise.refl.touches hx)

theorem powerFail_ends {s : State} (t vin : Nat) (cut : Option BusCut) (e : SaveEnd) (hv : vin < 4300) (h : s.rd (.pwr .stateState) 0 ≠ 3) :
    ∃ r, exec (.powerFail t vin cut e) s = .next r
      ∧ r.rd (.pwr .stateState) 0 = 3 ∧ r.hbm = [] ∧ r.plate = [] ∧ ∀ c, r.lensAllLow c := by
  refine ⟨((s.advance t).wr (.pwr .vinVin) 0 (satN 16 vin)).powerDown vin 1 cut e, ?_, powerDown_ends _ _ _ _ ?_⟩
  · change execPowerFail t vin cut e s = _
    simp only [execPowerFail, if_pos hv]
  · rwa [rd_wr_ne _ (by decide), advance_rd]

theorem overvoltage_ends {s : State} (t vin : Nat) (cut : Option BusCut) (e : SaveEnd) (hv : 19000 < vin) (h : s.rd (.pwr .stateState) 0 ≠ 3) :
    ∃ r, exec (.overvoltage t vin cut e) s = .next r
      ∧ r.rd (.pwr .stateState) 0 = 3 ∧ r.hbm = [] ∧ r.plate = [] ∧ ∀ c, r.lensAllLow c := by
  have hst : ((s.advance t).wr (.pwr .vinVin) 0 (satN 16 vin)).rd (.pwr .stateState) 0 ≠ 3 := by rwa [rd_wr_ne _ (by decide), advance_rd]
  have hr : exec (.overvoltage t vin cut e) s = .next ((((((s.advance t).wr (.pwr .vinVin) 0 (satN 16 vin)).report .pwr 0 0x5947 [(2, vin)]).fatalSignals
      0x5947).powerDown vin 2 cut e).modPwr fun p => { p with overVolt := true }) := by
    change execOvervoltage t vin cut e s = _
    simp only [execOvervoltage]
    rw [if_neg]
    simp only [Bool.or_eq_true, decide_eq_true_eq, beq_iff_eq, not_or]
    exact ⟨by omega, hst⟩
  have hst' : (((s.advance t).wr (.pwr .vinVin) 0 (satN 16 vin)).report .pwr 0 0x5947 [(2, vin)]).rd (.pwr .stateState) 0 ≠ 3 := by
    rwa [report_rd _ _ _ _ _ (by decide) (by decide) (by decide)]
  generalize ((s.advance t).wr (.pwr .vinVin) 0 (satN 16 vin)).report .pwr 0 0x5947 [(2, vin)] = x at hr hst'
  have hx : (x.fatalSignals 0x5947).rd (.pwr .stateState) 0 ≠ 3 := by
    rwa [(Touches.fatalSignals .refl : Touches Touches.Parts.fatalSignals _ _).rd (.pwr .stateState) 0]
  generalize x.fatalSignals 0x5947 = y at hr hx
  exact ⟨_, hr, powerDown_ends vin 2 cut e hx⟩

theorem resetIn_ends {s : State} (t : Nat) (cut : Option BusCut) (e : SaveEnd) (h : s.rd (.pwr .stateState) 0 ≠ 3) :
    ∃ r, exec (.resetIn t cut e) s = .next r
      ∧ r.rd (.pwr .stateState) 0 = 3 ∧ r.hbm = [] ∧ r.plate = [] ∧ ∀ c, r.lensAllLow c :=
  ⟨_, rfl, powerDown_ends (s := s.advance t) _ _ _ _ h⟩

/-- A report of class X by a unit that is present drives FAULT_OUT (R28). -/
theorem reportSub_faultOut (s : State) (u : UType) (i sub code : Nat) (items : List (Nat × Nat)) (hf : s.fusedOff u i = false)
    (h : code / 4096 = 5) : (s.reportSub u i sub code items).pwr.faultOut = true := by
  unfold reportSub
  rw [if_neg (by simp [hf])]
  extract_lets cls r s1 s2 s3 s4 x s5 s6 s7 y
  rw [if_pos (by simp [cls, h])]
  exact congrArg Power.faultOut ((Touches.logTrigger .refl : Touches Touches.Parts.logTrigger _ _) .pwr (by decide))

theorem moduleFatal_pwr (s : State) (code : Nat) : (s.moduleFatal code).pwr = s.pwr :=
  (Touches.moduleFatal .refl : Touches Touches.Parts.moduleFatal _ _) .pwr (by decide)

theorem fatalEvent_faultOut (s : State) (u : UType) (i code : Nat) (items : List (Nat × Nat)) (hf : s.fusedOff u i = false)
    (h : code / 4096 = 5) : (s.fatalEvent u i code items).pwr.faultOut = true := by
  rw [fatalEvent, moduleFatal_pwr]
  exact reportSub_faultOut _ _ _ _ _ _ hf h

theorem thermalOff_ends (s : State) (die sensor : Nat) (tj : Int) :
    (s.thermalOff die sensor tj).rd (.pwr .stateState) 0 = 4 ∧ (s.thermalOff die sensor tj).hbm = []
      ∧ ∀ c, (s.thermalOff die sensor tj).lensAllLow c := by
  unfold thermalOff
  extract_lets s1 s2
  have hoff : Touches [.reg .tri] (s2.keepDomains 0x101) (s2.keepDomains 0x101).linksOff := .linksOff .refl
  refine ⟨rd_wr_same .., ?_, fun c => ?_⟩
  · rw [wr_hbm, hoff .hbm (by decide)]
    exact keepDomains_hbm s2 0x101 rfl
  · exact lensAllLow_of_noRise (keepDomains_low s2 0x101 c (by revert c; decide)) (.wr (NoRise.refl.touches hoff))

theorem tjSample_ends {s : State} (t : Nat) (compute io : Vector Int 4) (hbm : Int) (h3 : s.rd (.pwr .stateState) 0 ≠ 3)
    (h4 : s.rd (.pwr .stateState) 0 ≠ 4) (hot : 1760 ≤ max (hottest compute).1 (hottest io).1) :
    ∃ r, exec (.tjSample t compute io hbm) s = .next r ∧ r.rd (.pwr .stateState) 0 = 4 ∧ r.hbm = [] ∧ ∀ c, r.lensAllLow c := by
  have hr : ∃ x die sensor tj, exec (.tjSample t compute io hbm) s = .next (thermalOff x die sensor tj) := by
    change ∃ x die sensor tj, execTjSample t compute io hbm s = _
    unfold execTjSample
    extract_lets s1 st a b die tj s2 s3 s4
    rw [if_neg (by simpa [st, s1] using h3), if_pos]
    · exact ⟨_, _, _, _, rfl⟩
    · have hst : st ≠ 4 := h4
      simp [tj, a, b, hot, hst]
  obtain ⟨x, die, sensor, tj, hr⟩ := hr
  exact ⟨_, hr, thermalOff_ends x die sensor tj⟩

theorem railOutOfRegulation_ends {s : State} (t rail value : Nat) (h : s.rd (.pwr .stateState) 0 < 3) :
    ∃ r, exec (.railOutOfRegulation t rail value) s = .next r
      ∧ r.rd (.pwr .stateState) 0 = 5 ∧ r.pwr.faultOut = true ∧ ∀ c, r.lensAllLow c := by
  refine ⟨(s.advance t).fatalEvent .pwr 0 0x5948 [(1, rail), (2, value)], ?_, moduleFatal_state .., fatalEvent_faultOut _ _ _ _ _ rfl rfl,
    moduleFatal_low _ _⟩
  change execRailOutOfRegulation t rail value s = _
  simp only [execRailOutOfRegulation]
  rw [if_neg (by rw [advance_rd]; omega)]

theorem frontendRelockTimeout_ends {s : State} (t : Nat) (hl : s.pllLocked 6 = false) (hd : (pllDomains 6).any s.domOn = true) :
    ∃ r, exec (.frontendRelockTimeout t) s = .next r ∧ r.rd (.pwr .stateState) 0 = 5 ∧ ∀ c, r.lensAllLow c := by
  refine ⟨(s.advance t).fatalEvent .pll 6 0x5A82 [(1, 6)], ?_, moduleFatal_state .., moduleFatal_low _ _⟩
  change execFrontendRelockTimeout t s = _
  have hl' : (s.advance t).pllLocked 6 = false := hl
  have hd' : (pllDomains 6).any (s.advance t).domOn = true := hd
  simp only [execFrontendRelockTimeout, hl', hd']
  rfl

theorem pllLockLoss_ends {s : State} (t : Nat) (hl : s.pllLocked 0 = true) :
    ∃ r, exec (.pllLockLoss t 0) s = .next r ∧ r.rd (.pwr .stateState) 0 = 5 ∧ ∀ c, r.lensAllLow c := by
  have hr : ∃ x : State, exec (.pllLockLoss t 0) s = .next (x.fatalEvent .pll 0 0x5A82 [(1, 0)]) := by
    change ∃ x : State, execPllLockLoss t 0 s = _
    have hl' : (s.advance t).pllLocked 0 = true := hl
    unfold execPllLockLoss
    extract_lets s1 s2
    rw [if_neg (by simpa using hl'), if_pos (by decide)]
    exact ⟨_, rfl⟩
  obtain ⟨x, hr⟩ := hr
  exact ⟨_, hr, moduleFatal_state .., moduleFatal_low _ _⟩

theorem d2dLinkFailure_ends {s : State} (t : Nat) (d : Fin 2) (laneLock : Bool) (h13 : s.domOn 13 = true) (h14 : s.domOn 14 = true) :
    ∃ r, exec (.d2dLinkFailure t d laneLock) s = .next r
      ∧ r.rd (.pwr .stateState) 0 = 5 ∧ r.rd (.st .die .lastclass) d = 5 ∧ ∀ c, r.lensAllLow c := by
  refine ⟨(s.advance t).fatalEvent .die d 0x50C1 [(1, if laneLock then 2 else 1)], ?_, moduleFatal_state .., ?_, moduleFatal_low _ _⟩
  · change execD2dLinkFailure t d laneLock s = _
    have h13' : (s.advance t).domOn 13 = true := h13
    have h14' : (s.advance t).domOn 14 = true := h14
    simp only [execD2dLinkFailure, h13', h14']
    rfl
  · rw [fatalEvent, (Touches.moduleFatal .refl : Touches Touches.Parts.moduleFatal _ _).rd (.st .die .lastclass) d]
    exact report_lastclass _ _ _ _ _ rfl (by decide)

theorem code_lt (u : UType) : u.code < 64 := by
  cases u <;> decide

theorem errorReport_ends {s : State} (t i sub : Nat) (u : UType) (n : Fin 64) (items : List (Nat × Nat)) (hf : s.fusedOff u i = false) :
    ∃ r, exec (.errorReport t u i sub 5 n items) s = .next r
      ∧ r.rd (.pwr .stateState) 0 = 5 ∧ r.pwr.faultOut = true ∧ ∀ c, r.lensAllLow c := by
  refine ⟨_, rfl, moduleFatal_state .., ?_, moduleFatal_low _ _⟩
  rw [moduleFatal_pwr]
  refine reportSub_faultOut _ _ _ _ _ _ hf ?_
  have hu := code_lt u
  have hn := n.isLt
  change (5 * 4096 + u.code * 64 + n.val) / 4096 = 5
  omega

end State

/-- Settles O41: every end goes through `powerDown`, `moduleFatal` or `thermalOff`, which `keepDomains` leaves dark. -/
theorem powerEnds : Obligations.PowerEnds := by
  unfold Obligations.PowerEnds
  exact ⟨fun t vin cut e s hv h => State.powerFail_ends t vin cut e hv h, fun t vin cut e s hv h => State.overvoltage_ends t vin cut e hv h,
    fun t cut e s h => State.resetIn_ends t cut e h, fun t rail value s h => State.railOutOfRegulation_ends t rail value h,
    fun t s hl hd => State.frontendRelockTimeout_ends t hl hd, fun t s hl => State.pllLockLoss_ends t hl,
    fun t d b s h13 h14 => State.d2dLinkFailure_ends t d b h13 h14, fun t i sub u n items s hf => State.errorReport_ends t i sub u n items hf,
    fun t compute io hbm s h3 h4 hot => State.tjSample_ends t compute io hbm h3 h4 hot⟩

end Sys2Proof.Machine
end

section
/-! Where a statement claims the stored bytes of every state, it claims them of lists of cells that are not in canonical form too: a byte 0 is
stored there as no cell, and one cell out of order keeps the walk from the old one (`cellSet`). -/

namespace Sys2Proof.Machine

set_option Elab.async false

/-- A partition of the host at the start of HBM. -/
def hostPartition : Partition := ⟨0, 4096, 1, 0, 0, 0, none⟩

/-- HBM lists the cell 65 before the cell 64. -/
def unsortedHbm : State := { State.reset.modRegion 0 fun r => { r with parts := [hostPartition] } with hbm := [(65, 1), (64, 1)] }

/-- The plate store lists a cell of the fallback buffer of output 0 behind the cell 1. -/
def unsortedPlate : State :=
  { (State.reset.wr (.plt .fbCfgKind) 0 1).wr (.plt .fbPitchPitch) 0 1 |>.wr (.plt .fbWhW) 0 8 |>.wr (.plt .fbWhH) 0 8 with
    cfg := State.reset.cfg.set 0 { State.reset.cfg[0] with present := true }
    plate := [(1, 1), (0, 1)] }

/-- Input 0 is up, and HBM lists the cell 5 before the cell 0 of its first buffer. -/
def unsortedInput : State := { State.reset.wr (.dpr .linkUp) 0 1 with hbm := [(5, 1), (0, 1)] }

/-- The first byte of a word is its lowest. -/
theorem cellWord_mod (m : List Host.Cell) (a : Nat) : cellWord m a 4 % 256 = (cellGet m a).toNat % 256 := by
  have h : cellWord m a 4 = (cellGet m a).toNat % 256 + 256 * ofLe ((cellLoad m a 4).drop 1) := rfl
  omega

/-- The byte at an address of HBM after a command. -/
def hbmByteAfter (o : Result) (a : Nat) : Option Byte :=
  match o with
  | .next r => some (cellGet r.hbm a)
  | _ => none

/-- The byte at an address of the plate store after a command. -/
def plateByteAfter (o : Result) (a : Nat) : Option Byte :=
  match o with
  | .next r => some (cellGet r.plate a)
  | _ => none

theorem hostWrite_unsorted : hbmByteAfter (exec (.hostHbmWrite 0 64 ⟨[0], none, 0⟩) unsortedHbm) 64 = some 1 := by decide +kernel

theorem bar4Write_unsorted : plateByteAfter (exec (.bar4Write 0 0 ⟨[0], none⟩) unsortedPlate) 0 = some 1 := by decide +kernel

theorem frameComplete_unsorted :
    hbmByteAfter (exec (.dpFrameComplete 0 0 1 1 0 ⟨⟨false, false, false, 10⟩, [0], 0⟩) unsortedInput) 0 = some 1 := by decide +kernel

/-- Refutes O19: HBM that lists the cell 65 before the cell 64 keeps the old byte at 64 where a 0 is written there. -/
theorem not_hostHbmWrite : ¬ Obligations.HostHbmWrite := by
  unfold Obligations.HostHbmWrite
  intro h
  obtain ⟨r, hr, -, hin, -⟩ := h 0 64 64 0 [0] none hostPartition unsortedHbm (by decide +kernel) (by decide +kernel) (by decide)
    (by decide) (by decide +kernel) (by decide +kernel)
  have hbyte := hostWrite_unsorted
  rw [hr] at hbyte
  have h0 : cellGet r.hbm 64 = 0 := hin 0 (by decide)
  rw [hbmByteAfter, h0] at hbyte
  exact absurd hbyte (by decide)

/-- Refutes O21: a plate store that lists the cell 1 before the cell 0 keeps the old byte at 0 where a 0 is written there. -/
theorem not_plateAccess : ¬ Obligations.PlateAccess := by
  unfold Obligations.PlateAccess
  rintro ⟨-, h⟩
  obtain ⟨r, hr, -, hin, -⟩ := h 0 0 [0] none unsortedPlate (by decide +kernel) (by decide)
  have hbyte := bar4Write_unsorted
  rw [hr] at hbyte
  have h0 : cellGet r.plate 0 = 0 := hin 0 (by decide) ⟨0, by decide +kernel⟩
  rw [plateByteAfter, h0] at hbyte
  exact absurd hbyte (by decide)

/-- Refutes O26: HBM that lists the cell 5 before the cell 0 keeps the old byte at 0, where the pixel that is stored there has a byte 0. -/
theorem not_frameTaken : ¬ Obligations.FrameTaken := by
  unfold Obligations.FrameTaken
  rintro ⟨h, -⟩
  obtain ⟨r, f, hr, -, -, -, -, hbuf, hpx, -⟩ := h 0 1 1 0 0 0 0 ⟨false, false, false, 10⟩ [0] unsortedInput (by decide +kernel)
    (by decide +kernel) (by decide +kernel) (by decide +kernel) (by decide +kernel)
  have hbyte := frameComplete_unsorted
  rw [hr] at hbyte
  have ha : unsortedInput.dpBuffer 0 f % hbmEnd = 0 := by
    rw [State.dpBuffer, hbuf]
    decide +kernel
  have hw := hpx 0 (by decide)
  rw [ha] at hw
  have h0 : (cellGet r.hbm 0).toNat % 256 = 0 := by
    have hpx0 : PixEnc.toRgb ⟨false, false, false, 10⟩ (([0] : List Word).getD 0 0) % 2 ^ 30 + 3 * 2 ^ 30 = 3 * 2 ^ 30 := by decide
    rw [hpx0] at hw
    have hmod := cellWord_mod r.hbm 0
    rw [Nat.add_zero] at hw
    omega
  rw [hbmByteAfter] at hbyte
  have h1 := Option.some.inj hbyte
  rw [h1] at h0
  exact absurd h0 (by decide)

/-- A register after a command. -/
def rdAfter (o : Result) (f : Fld) (i : Nat) : Option Nat :=
  match o with
  | .next r => some (r.rd f i)
  | _ => none

/-- The first shed step is due to be released, and POWER.PIN waits among the Live values that the switched-on domain brings in. -/
def heldPowerPin : State :=
  let s := State.reset.wr (.pwr .limitAct) 0 1
  { s with pwr := { s.pwr with taken := [0] }, heldLive := [⟨.pwr .powerPin, 0, 5⟩] }

theorem powerShedStep_heldLive : rdAfter (exec (.powerShedStep (msCclk 20000) 0 0 0) heldPowerPin) (.pwr .powerPin) 0 = some 5 := by
  decide +kernel

/-- Refutes O42: the release of the first shed step switches a domain on and stores the Live values that wait (`powerOn`); where POWER.PIN
is among them, it does not show what the sensor reads. -/
theorem not_clocksAndMonitors : ¬ Obligations.ClocksAndMonitors := by
  unfold Obligations.ClocksAndMonitors
  rintro ⟨-, -, -, -, -, h, -⟩
  obtain ⟨r, hr, hpin, -⟩ := h (msCclk 20000) 0 0 0 heldPowerPin (by decide +kernel)
  have hread := powerShedStep_heldLive
  rw [hr, rdAfter, hpin] at hread
  exact absurd hread (by decide)

/-- A module that runs and is to enter deep standby, whose stop fades have ended, while a Logbook save is in progress. -/
def savingStandby : State :=
  let s := State.reset.wr (.pwr .stateState) 0 1
  { s with pwr := { s.pwr with standbyPend := true }, log := { s.log with saving := some (1, 0, 0) } }

theorem standbyEnter_saving : rdAfter (exec (.standbyEnter 0) savingStandby) (.pwr .stateState) 0 = some 1 := by decide +kernel

/-- Refutes O43: `enterStandby` waits for the end of a Logbook save, of which the statement asks nothing. -/
theorem not_startsAndStandby : ¬ Obligations.StartsAndStandby := by
  unfold Obligations.StartsAndStandby
  rintro ⟨-, h, -⟩
  obtain ⟨r, hr, hstate, -⟩ := h 0 savingStandby (by decide +kernel) (by decide +kernel) (by decide +kernel)
  have hread := standbyEnter_saving
  rw [hr, rdAfter, hstate] at hread
  exact absurd hread (by decide)

namespace State

/-- A report of no class U leaves FATAL of every unit. -/
theorem reportSub_fatal (s : State) (u v : UType) (i j sub code : Nat) (items : List (Nat × Nat)) (h : code / 4096 ≠ 4) :
    (s.reportSub u i sub code items).rd (.st v .fatal) j = s.rd (.st v .fatal) j := by
  by_cases hv : v = u ∧ j = i
  · obtain ⟨rfl, rfl⟩ := hv
    by_cases hf : s.fusedOff v j = true
    · rw [reportSub, if_pos hf]
    · rw [reportSub_status _ _ _ _ _ _ (by simpa using hf) rfl]
      simp [h, bump, bumpBy, rd_wr]
  · exact reportSub_other _ _ _ _ _ _ _ _ _ (.inl hv)

/-- An archive that records and whose staging store is full: a record is discarded, with a report (R345). -/
theorem stageRec_full {s : State} (rtype rflags time src : Nat) (body : List Nat) (hr : s.recording = true)
    (hf : stagingBytes < recBytes s.arc.staging) :
    (s.stageRec rtype rflags time src body).recording = true
      ∧ (s.stageRec rtype rflags time src body).arc.staging = s.arc.staging
      ∧ (s.stageRec rtype rflags time src body).rd (.st .arc .errcnt) 0 = satN 16 (s.rd (.st .arc .errcnt) 0 + 1) := by
  unfold stageRec
  rw [if_neg (by simp [hr])]
  extract_lets r
  rw [if_pos (by omega)]
  refine ⟨?_, by simp [modArc, bump], ?_⟩
  · simp only [recording, unitFatal, on, Bool.and_eq_true] at hr ⊢
    rwa [report_rd _ _ _ _ _ (by decide) (by decide) (by decide), report, reportSub_fatal _ _ _ _ _ _ _ _ (by decide), rd_bump_ne _ (by decide),
      rd_bump_ne _ (by decide)]
  · rw [report_errcnt _ _ _ _ _ rfl, rd_bump_ne _ (by decide)]
    rfl

/-- Recording that starts with a full staging store reports three times: for the note, the anchor and the start. -/
theorem startRecording_full {s : State} (note adopted : Nat) (data : List Nat) (hu : s.unitFatal .arc 0 = false)
    (hf : stagingBytes < recBytes s.arc.staging) (h0 : s.rd (.st .arc .errcnt) 0 = 0) :
    (s.startRecording note data adopted).rd (.st .arc .errcnt) 0 = 3 := by
  unfold startRecording
  extract_lets s1 s2 s3
  have hrd (f : Fld) (i : Nat) (hf : ¬ (f = .arc .stateState ∧ i = 0)) : s2.rd f i = s.rd f i := by
    change s1.rd _ _ = _
    exact rd_wr_ne s hf
  have hstate : s2.rd (.arc .stateState) 0 = 3 := by
    change s1.rd _ _ = _
    exact rd_wr_same s (.arc .stateState) 0 3
  have hf2 : stagingBytes < recBytes s2.arc.staging := hf
  have hr2 : s2.recording = true := by
    simp only [unitFatal, on] at hu
    simp only [recording, unitFatal, on, hstate, hrd (.st .arc .fatal) 0 (by decide), hu]
    rfl
  have h02 : s2.rd (.st .arc .errcnt) 0 = 0 := (hrd _ _ (by decide)).trans h0
  clear_value s2
  obtain ⟨hra, hfa, hea⟩ := stageRec_full 6 0 s2.wall (s2.srcPath .pkg 0 0xFF) (note :: data) hr2 hf2
  rw [h02] at hea
  obtain ⟨-, -, heb⟩ := stageRec_full (s := s2.stageNote note data) 7 0 _ _ _ hra (hfa ▸ hf2)
  rw [report_errcnt _ _ _ _ _ rfl]
  have h3 : s3.rd (.st .arc .errcnt) 0 = satN 16 ((s2.stageNote note data).rd (.st .arc .errcnt) 0 + 1) := heb
  rw [h3, stageNote, hea]
  decide

/-- An archive that resumes with a full staging store. -/
theorem archiveResume_full {s : State} {d : Drive} (t : Nat) (hd : s.arc.drive = some d) (hst : s.rd (.arc .stateState) 0 = 2)
    (hsup : (superOf d).isSome = true) (hu : s.unitFatal .arc 0 = false) (hf : stagingBytes < recBytes s.arc.staging)
    (h0 : s.rd (.st .arc .errcnt) 0 = 0) : rdAfter (exec (.archiveResume t) s) (.st .arc .errcnt) 0 = some 3 := by
  have hx : ∃ (x : State) (note adopted : Nat) (data : List Nat), exec (.archiveResume t) s = .next (x.startRecording note data adopted)
      ∧ (∀ u, x.unitFatal u 0 = s.unitFatal u 0) ∧ x.arc.staging = s.arc.staging ∧ x.rd (.st .arc .errcnt) 0 = s.rd (.st .arc .errcnt) 0 := by
    change ∃ (x : State) (note adopted : Nat) (data : List Nat), execArchiveResume t s = _ ∧ _
    unfold execArchiveResume
    extract_lets s0
    have h2 : ¬ ((s0.rd (.arc .stateState) 0 != 2 || (superOf d).isNone) = true) := by
      have : s0.rd (.arc .stateState) 0 = 2 := hst
      cases h : superOf d <;> simp_all
    rw [show s0.arc.drive = some d from hd]
    simp only [if_neg h2]
    refine ⟨_, _, _, _, rfl, fun u => ?_, rfl, ?_⟩
    · simp only [unitFatal, on]
      rw [rd_wr_ne _ (by simp), rd_wr_ne _ (by simp)]
      rfl
    · rw [rd_wr_ne _ (by decide), rd_wr_ne _ (by decide)]
      rfl
  obtain ⟨x, note, adopted, data, hr, hxu, hxs, hxe⟩ := hx
  rw [hr]
  exact congrArg some (startRecording_full note adopted data ((hxu _).trans hu) (hxs ▸ hf) (hxe.trans h0))

end State

/-- A record with a body of `n` bytes. -/
def recOfLength (n : Nat) : ArcRec := ⟨0, 0, 0, 0, 0, List.replicate n 0⟩

theorem lt_recBytes_recOfLength (n : Nat) : n < recBytes [recOfLength n] := by
  simp [recBytes, ArcRec.len, ArcRec.padded, recOfLength]
  omega

/-- A drive with an archive. -/
def oldDrive : Drive := ⟨256000000000, 9, false, 131072, true, 4, 4, some ⟨9, 3813, 256000000000, 0, 0, 0, 1, 0, 0⟩, none, [], []⟩

/-- An archive that is to resume while a record waits in its staging store. -/
def resumeWith (x : ArcRec) : State :=
  { State.reset.wr (.arc .stateState) 0 2 with arc := { State.reset.arc with drive := some oldDrive, staging := [x] } }

theorem resumeWith_rd (x : ArcRec) (f : Fld) (i : Nat) : (resumeWith x).rd f i = (State.reset.wr (.arc .stateState) 0 2).rd f i := rfl

theorem resumeWith_state (x : ArcRec) : (resumeWith x).rd (.arc .stateState) 0 = 2 := by
  rw [resumeWith_rd, State.rd_wr_same]
  rfl

theorem resumeWith_errcnt (x : ArcRec) : (resumeWith x).rd (.st .arc .errcnt) 0 = 0 := by
  rw [resumeWith_rd, State.rd_wr_ne _ (by decide)]
  rfl

theorem resumeWith_unitFatal (x : ArcRec) : (resumeWith x).unitFatal .arc 0 = false := by
  rw [State.unitFatal, State.on, resumeWith_rd, State.rd_wr_ne _ (by decide)]
  rfl

theorem archiveResume_resumeWith {x : ArcRec} (h : stagingBytes < recBytes [x]) :
    rdAfter (exec (.archiveResume 0) (resumeWith x)) (.st .arc .errcnt) 0 = some 3 :=
  State.archiveResume_full 0 (d := oldDrive) rfl (resumeWith_state x) rfl (resumeWith_unitFatal x) h (resumeWith_errcnt x)

/-- Refutes O46: an archive that resumes with a full staging store discards its first records, each with a report of the same unit. -/
theorem not_archiveCommands : ¬ Obligations.ArchiveCommands := by
  unfold Obligations.ArchiveCommands
  rintro ⟨-, -, -, -, -, -, -, -, -, -, -, -, -, -, h⟩
  obtain ⟨r, hr, -, hraised, -⟩ := h 0 oldDrive (resumeWith (recOfLength stagingBytes)) rfl (resumeWith_state _) rfl
  obtain ⟨-, hcount⟩ := hraised rfl
  have hread := archiveResume_resumeWith (lt_recBytes_recOfLength stagingBytes)
  rw [hr, rdAfter, hcount, resumeWith_errcnt] at hread
  exact absurd hread (by decide)

end Sys2Proof.Machine
end

section
/-! Statements that leave out a condition of the spec's: a domain that is powered, a unit that is not stopped, an instant that lies in the
future, a shadow set without the register that is spoken of. Each is refuted by a state in which that condition fails. -/

namespace Sys2Proof.Machine

set_option Elab.async false

/-- A command whose register value differs from the one that a statement's witness must hold refutes the statement. -/
theorem rdAfter_of_next {o : Result} {r : State} (h : o = .next r) (f : Fld) (i : Nat) : rdAfter o f i = some (r.rd f i) := by
  rw [h, rdAfter]

/-! ### O28: a bad mesh word that the freeze makes the module find -/

/-- A frame of the T-form without planes that is not shown. -/
def blankFrame : FrameRec :=
  ⟨0, 0, 0, .dark, 0, ⟨⟨0, 0, 0, 0, 0, 0, 0, 0, 0, 0, true, 0⟩, []⟩, 0, [], [], [], ⟨[], [], []⟩, false, false, false, false, false, 0, [], 0⟩

/-- An output of one pixel whose warp is on and whose layer 0 shows DisplayPort input 0. -/
def warpedRegs : State :=
  (((State.reset.wr (.pix .layerCfgSrc) 0 1).wr (.pix .layerCropWhW) 0 1).wr (.pix .layerCropWhH) 0 1).wr (.geo .ctrlWarpEn) 0 1

/-- A mesh load from a control structure, while the layer's fetch is under way and the first word of the mesh in force is bad. -/
def meshLate : State :=
  { warpedRegs with
    cfg := warpedRegs.cfg.set 0 { warpedRegs.cfg[0] with w := 1, h := 1 }
    pic := warpedRegs.pic.set 0 { warpedRegs.pic[0] with
      frames := [blankFrame]
      badWords := [⟨.mesh, 0, 0⟩]
      meshLoad := some ⟨1, 0, 0⟩
      layers := warpedRegs.pic[0].layers.set 0 { warpedRegs.pic[0].layers[0] with window := true } }
    mem := { warpedRegs.mem with
      regions := warpedRegs.mem.regions.set 0 { warpedRegs.mem.regions[0] with parts := [⟨0, 2 ^ 20, 4, 255, 0, 0, none⟩] } } }

namespace State

/-- A register cell is taken out, or listed with a value. -/
def putCell (s : State) (listed : Bool) (f : Fld) (i v : Nat) : State :=
  { s with regs := if listed then regInsert (regErase s.regs f i) ⟨f, i, v⟩ else regErase s.regs f i }

/-- Whether a written value is listed is all that a write asks of it. -/
theorem wr_eq_putCell (s : State) (f : Fld) (i v : Nat) : ∃ listed, s.wr f i v = s.putCell listed f i (v % 2 ^ f.info.width) := by
  by_cases h : v % 2 ^ f.info.width = resetOf f i
  · exact ⟨false, by simp [wr, putCell, h]⟩
  · exact ⟨true, by simp [wr, putCell, h]⟩

/-- `captureFreeze` of region 0 with the two free values listed or not. -/
def captured (s : State) (pc a kind port path : Nat) (rdq wrq : Bool) : State :=
  let rq := s.freeBits 8
  let wq := rq.2.freeBits 8
  let s := ((wq.2.wr (.hbm .frzInfoPc) 0 pc).wr (.hbm .frzInfoKind) 0 kind).wr (.hbm .frzInfoPort) 0 port
  let s := (s.putCell rdq (.hbm .frzInfoRdq) 0 (rq.1 % 2 ^ (Fld.hbm .frzInfoRdq).info.width)).putCell wrq (.hbm .frzInfoWrq) 0
    (wq.1 % 2 ^ (Fld.hbm .frzInfoWrq).info.width)
  (((s.wr (.hbm .frzAddrAddr) 0 a).wr (.hbm .frzSrcPath) 0 path).wr (.hbm .frzTimeTime) 0 s.wall).wr (.hbm .rgnStatSnap) 0 0

theorem captureFreeze_eq_captured (s : State) (pc a kind port path : Nat) :
    ∃ rdq wrq, s.captureFreeze 0 pc a kind port path = s.captured pc a kind port path rdq wrq := by
  unfold captureFreeze captured
  extract_lets rq wq s1 s2
  obtain ⟨rdq, hrdq⟩ := wr_eq_putCell s1 (.hbm .frzInfoRdq) 0 rq.1
  obtain ⟨wrq, hwrq⟩ := wr_eq_putCell (s1.wr (.hbm .frzInfoRdq) 0 rq.1) (.hbm .frzInfoWrq) 0 wq.1
  have hs2 : s2 = _ := hwrq.trans (by rw [hrdq])
  refine ⟨rdq, wrq, ?_⟩
  rw [hs2]
  rfl

/-- A freeze of region 0, which serves, once its registers are captured. -/
def frozenAfter (s : State) (cause pc a : Nat) : State :=
  let s := s.wr (.hbm .rgnStatCause) 0 cause
  let s := ((s.wr (.hbm .rgnStatState) 0 1).wr (.hbm .rgnStatTries) 0 0).setPcs 0 3
  let s := s.modRegion 0 fun g => { g with freezeAt := some s.now }
  let s := (allClusters.filter fun c => regionOf c == 0).foldl (fun s c => s.modMem fun m =>
    { m with fbHold := m.fbHold.set c { m.fbHold[c] with page := s.rd (.pln .ctrlSchedPage) c, scheds := s.pageScheds c (s.rd (.pln .ctrlSchedPage) c) } }) s
  let s := s.dropCopies fun x => addrRegion x.first == 0 && s.lastFrame (Fin.ofNat 4 x.c) ≤ x.since
  let s := s.violate 3 fun t i _ => t ≤ 1 && i / 8 == 0
  let s := (s.report .hbm 0 0x2601 [(1, cause), (1, pc), (4, a / 4)]).lateFetches 0
  s.forClusters (allClusters.filter fun c => regionOf c == 0) fun s c => s.wakeHeld c 6

theorem freeze_eq_frozenAfter {s : State} (cause pc a kind port path : Nat) (h : s.rd (.hbm .rgnStatState) 0 = 0) :
    s.freeze 0 cause pc a kind port path = ((s.wr (.hbm .rgnCtrlFreeze) 0 0).captureFreeze 0 pc a kind port path).frozenAfter cause pc a := by
  unfold freeze
  have hst : s.rd (.hbm .rgnStatState) (0 : Fin 2) = 0 := h
  simp only [hst]
  rfl

end State

theorem meshLoadError_captured : ∀ rdq wrq : Bool,
    ((((((meshLate.advance 0).countDetErr 0).wr (.hbm .rgnCtrlFreeze) 0 0).captured 0 0 4 2
      ((meshLate.advance 0).srcPath .geo 0 0xFF) rdq wrq).frozenAfter 2 0 0).meshLoadError 0 0).rd (.st .geo .errcnt) 0 = 2 := by
  decide +kernel

theorem detectionError_meshLate : (meshLate.advance 0).detectionError 0 2 ((meshLate.advance 0).srcPath .geo 0 0xFF)
    = ((meshLate.advance 0).countDetErr 0).freeze 0 2 0 0 4 2 ((meshLate.advance 0).srcPath .geo 0 0xFF) := by
  have hpc : (meshLate.advance 0).pcOf 0 = 0 := by decide +kernel
  have hkind : (meshLate.advance 0).kindAt 0 = 4 := by decide +kernel
  have hregion : State.regionAt 0 = 0 := by decide +kernel
  unfold State.detectionError
  rw [hpc, hkind, hregion]
  rfl

theorem meshLoad_meshLate : rdAfter (exec (.meshLoadComplete 0 0 (some 0)) meshLate) (.st .geo .errcnt) 0 = some 2 := by
  have hexec : exec (.meshLoadComplete 0 0 (some 0)) meshLate
      = .next (((meshLate.advance 0).detectionError 0 2 ((meshLate.advance 0).srcPath .geo 0 0xFF)).meshLoadError 0 0) := rfl
  have hstate : ((meshLate.advance 0).countDetErr 0).rd (.hbm .rgnStatState) 0 = 0 := by decide +kernel
  obtain ⟨rdq, wrq, hcapture⟩ := State.captureFreeze_eq_captured (((meshLate.advance 0).countDetErr 0).wr (.hbm .rgnCtrlFreeze) 0 0) 0 0 4 2
    ((meshLate.advance 0).srcPath .geo 0 0xFF)
  rw [hexec, rdAfter, detectionError_meshLate, State.freeze_eq_frozenAfter _ _ _ _ _ _ hstate, hcapture, meshLoadError_captured]

/-- Refutes O28: the freeze that a failed mesh load causes cuts a layer fetch short, the picture is formed anew, and the bad mesh word that it
uses is reported by the same unit, whose ERRCNT goes up twice. -/
theorem not_meshLoads : ¬ Obligations.MeshLoads := by
  unfold Obligations.MeshLoads
  rintro ⟨-, -, -, h⟩
  obtain ⟨r, hr, -, -, -, hraised, -⟩ := h 0 0 0 ⟨1, 0, 0⟩ meshLate (by decide +kernel) (by decide +kernel)
  obtain ⟨-, hcount⟩ := hraised (by decide +kernel)
  have hread := (rdAfter_of_next hr (.st .geo .errcnt) 0).symm.trans meshLoad_meshLate
  have hzero : meshLate.rd (.st .geo .errcnt) 0 = 0 := by decide +kernel
  change r.rd (.st .geo .errcnt) 0 = _ at hcount
  rw [hcount] at hread
  change some (satN 16 (meshLate.rd (.st .geo .errcnt) 0 + 1)) = _ at hread
  rw [hzero] at hread
  exact absurd hread (by decide)

/-! ### O37: telemetry without the Observer's domain -/

theorem telemetry_unpowered : rdAfter (exec (.telemetry 0 ⟨0, 0, 0⟩) State.reset) (.obs .replyStatus) 0 = some 1 := by decide +kernel

/-- Refutes O37: while the Observer's domain is off, TELEMETRY answers with status 1 (busy), though no shed step is in force. -/
theorem not_hostMail : ¬ Obligations.HostMail := by
  unfold Obligations.HostMail
  rintro ⟨-, -, -, -, -, -, h⟩
  obtain ⟨r, hr, ⟨hstatus, -⟩, -⟩ := h 0 ⟨0, 0, 0⟩ State.reset (by unfold MailFree; decide +kernel) (by decide +kernel)
  have hread := (rdAfter_of_next hr (.obs .replyStatus) 0).symm.trans telemetry_unpowered
  rw [hstatus] at hread
  exact absurd hread (by decide)

/-! ### O48: a LATCH lost at its own instant -/

/-- A load of the high range was latched at this instant, with the pattern 5 before it. -/
def latchNow : State := State.reset.modLight 0 fun l => { l with latched := some (⟨.high, [], 0, false⟩, [(0, 5)]), latchAt := 0 }

theorem isoDiscard_latchNow : rdAfter (exec (.isoWordDiscard 0 0 (.latch 0)) latchNow) (.lsr .patHPat) 0 = some 5 := by decide +kernel

/-- Refutes O48: the loss of a LATCH whose instant has come takes the patterns of before it back, which the registers show. -/
theorem not_unitFaults : ¬ Obligations.UnitFaults := by
  unfold Obligations.UnitFaults
  rintro ⟨-, -, -, -, -, -, -, h⟩
  obtain ⟨r, hr, -, -, -, hregs, -⟩ := h 0 0 0 latchNow
  have hread := (rdAfter_of_next hr (.lsr .patHPat) 0).symm.trans isoDiscard_latchNow
  have hzero : latchNow.rd (.lsr .patHPat) 0 = 0 := by decide +kernel
  rw [hregs (.lsr .patHPat) 0 (List.not_mem_nil) rfl, hzero] at hread
  exact absurd hread (by decide)

/-! ### O49: a commit that lands at the meridian -/

/-- Cluster 0 in its run step, with a commit requested. -/
def requestedRegs : State := ((State.reset.wr (.pwr .domOnOn) 0 (2 ^ 38)).wr (.pwr .stateStep) 0 9).wr (.chr .commitReq) 0 1

/-- Its chronograph runs, and a value of CHR_FRAME waits in the shadow set. -/
def frameInShadow : State :=
  { requestedRegs with
    cfg := requestedRegs.cfg.set 0 { requestedRegs.cfg[0] with present := true }
    chr := requestedRegs.chr.set 0 { requestedRegs.chr[0] with running := true }
    shadow := [⟨.chr .frameFrame, 0, 7, 0, false⟩] }

theorem meridian_frameInShadow : rdAfter (exec (.meridian 1000000 0) frameInShadow) (.chr .frameFrame) 0 = some 7 := by decide +kernel

/-- Refutes O49: at a meridian at which a commit lands, FRAME takes the value that waits for it in the shadow set. -/
theorem not_meridiansAndCommits : ¬ Obligations.MeridiansAndCommits := by
  unfold Obligations.MeridiansAndCommits
  rintro ⟨h, -⟩
  obtain ⟨r, hr, -, -, hframe⟩ := h 1000000 0 frameInShadow (by decide +kernel) (by decide +kernel) (by decide +kernel) (by decide +kernel)
    (by decide +kernel) (by decide +kernel) (by decide +kernel) (by decide +kernel)
  have hread := (rdAfter_of_next hr (.chr .frameFrame) 0).symm.trans meridian_frameInShadow
  have hzero : frameInShadow.rd (.chr .frameFrame) 0 = 0 := by decide +kernel
  change r.rd (.chr .frameFrame) 0 = _ at hframe
  rw [hframe] at hread
  change some ((frameInShadow.rd (.chr .frameFrame) 0 + 1) % 2 ^ 32) = _ at hread
  rw [hzero] at hread
  exact absurd hread (by decide)

/-! ### O56: a trigger while the archive records -/

/-- A TRIG message from address 0. -/
def trigMsg : List Byte := [11, 0, 0, 0, 0, 0, 0, 0, 0, 0, 0, 0, 0, 0, 0, 0, 194, 147]

/-- The chain is powered and the archive records. -/
def recordingOnChain : State := (State.reset.wr (.pwr .domOnOn) 0 256).wr (.arc .stateState) 0 3

theorem trig_recordingOnChain : rdAfter (exec (.trig 0 trigMsg 0) recordingOnChain) (.arc .stateFlushing) 0 = some 1 := by decide +kernel

/-- Refutes O56: a TRIG message starts a pre-trigger flush of a recording archive, which shows in FLUSHING. -/
theorem not_chainAddresses : ¬ Obligations.ChainAddresses := by
  unfold Obligations.ChainAddresses
  rintro ⟨-, -, -, -, -, -, -, -, -, h, -⟩
  obtain ⟨r, hr, -, -, hregs, -⟩ := h 0 trigMsg 0 recordingOnChain (by unfold ChainMsg; decide +kernel)
  have hread := (rdAfter_of_next hr (.arc .stateFlushing) 0).symm.trans trig_recordingOnChain
  have hzero : recordingOnChain.rd (.arc .stateFlushing) 0 = 0 := by decide +kernel
  rw [hregs (.arc .stateFlushing) 0 (List.not_mem_nil) rfl, hzero] at hread
  exact absurd hread (by decide)

/-! ### O57: a wall time before 0 -/

/-- The head of a chain, frame sync enabled, whose wall time lies before 0. -/
def headBeforeZero : State :=
  { (State.reset.wr (.chn .addrHead) 0 1).wr (.chn .fsCfgEn) 0 1 with chn := { State.reset.chn with wallOff := -10000000000 } }

theorem fsyncTick_headBeforeZero : rdAfter (exec (.fsyncTick 0) headBeforeZero) (.chn .wframeF) 0 = some 0 := by decide +kernel

/-- Refutes O57: while the wall time lies before 0, the first wall frame, at 0 at the earliest, is too far ahead to be announced. -/
theorem not_chainTime : ¬ Obligations.ChainTime := by
  unfold Obligations.ChainTime
  rintro ⟨-, -, -, -, h, -⟩
  obtain ⟨r, hr, hframe, -⟩ := h 0 headBeforeZero (by unfold Head; decide +kernel) (by decide +kernel) (by decide +kernel) (by decide +kernel)
  have hread := (rdAfter_of_next hr (.chn .wframeF) 0).symm.trans fsyncTick_headBeforeZero
  have hzero : headBeforeZero.rd (.chn .wframeF) 0 = 0 := by decide +kernel
  rw [hframe, hzero] at hread
  exact absurd hread (by decide)

/-! ### O59 and O60: a Transit unit that is FATAL -/

/-- The Transit link is up with one lane, and its unit is FATAL. -/
def haltedTransit : State :=
  { State.reset.wr (.st .transit .fatal) 0 1 with par := { State.reset.par with linkUp := true, txLanes := 1 } }

theorem hb_haltedTransit : rdAfter (exec (.hb 0 0 false false false false false) haltedTransit) (.par .statHbOk) 0 = some 0 := by decide +kernel

theorem laneDrop_haltedTransit : rdAfter (exec (.transitLaneDrop 0 0 false) haltedTransit) (.st .transit .lastclass) 0 = some 0 := by
  decide +kernel

/-- Refutes O59: a Transit unit that is FATAL takes no HB, though its link is up. -/
theorem not_pairMessages : ¬ Obligations.PairMessages := by
  unfold Obligations.PairMessages
  rintro ⟨h, -⟩
  obtain ⟨r, hr, -, -, -, hok, -⟩ := h 0 0 false false false false false haltedTransit rfl
  have hread := (rdAfter_of_next hr (.par .statHbOk) 0).symm.trans hb_haltedTransit
  rw [hok] at hread
  exact absurd hread (by decide)

/-- Refutes O60: a Transit unit that is FATAL does not notice the drop of a lane. -/
theorem not_pairRoles : ¬ Obligations.PairRoles := by
  unfold Obligations.PairRoles
  rintro ⟨h, -⟩
  obtain ⟨r, hr, -, -, -, hclass, -⟩ := h 0 0 false haltedTransit rfl (by decide +kernel)
  have hread := (rdAfter_of_next hr (.st .transit .lastclass) 0).symm.trans laneDrop_haltedTransit
  rw [hclass] at hread
  exact absurd hread (by decide)

end Sys2Proof.Machine
end

section
/-! Counted retries of the die-to-die link, fences, power states, refreshes and frequency changes of the memory system. -/

namespace Sys2Proof.Machine

set_option Elab.async false

/-- A register field that reads as before at every place. -/
structure Leaves (f : Fld) (s t : State) : Prop where
  rd : ∀ i, t.rd f i = s.rd f i

namespace Leaves

variable {f g : Fld} {s t u : State}

theorem refl : Leaves f s s := ⟨fun _ => rfl⟩

theorem trans (h : Leaves f s t) (k : Leaves f t u) : Leaves f s u := ⟨fun i => (k.rd i).trans (h.rd i)⟩

theorem wr {i v : Nat} (h : Leaves f s t) (hg : f ≠ g := by decide) : Leaves f s (t.wr g i v) :=
  h.trans ⟨fun _ => State.rd_wr_ne t fun e => hg e.1⟩

theorem wrb {i : Nat} {b : Bool} (h : Leaves f s t) (hg : f ≠ g := by decide) : Leaves f s (t.wrb g i b) := h.wr hg

theorem wrI {i : Nat} {v : Int} (h : Leaves f s t) (hg : f ≠ g := by decide) : Leaves f s (t.wrI g i v) := h.wr hg

theorem bump {i : Nat} (h : Leaves f s t) (hg : f ≠ g := by decide) : Leaves f s (t.bump g i) := h.wr hg

/-- What an operation does not touch, it leaves. -/
theorem touches {ps : List Part} (h : Leaves f s t) (k : Touches ps t u) (hp : f.part ∉ ps := by decide) : Leaves f s u :=
  h.trans ⟨fun i => k.rd f i hp⟩

theorem ite {c : Prop} [Decidable c] (h : Leaves f s t) (k : Leaves f s u) : Leaves f s (if c then t else u) := by
  split
  · exact h
  · exact k

theorem foldl {α : Type} {g : State → α → State} {l : List α} (h : Leaves f s t) (k : ∀ x a, Leaves f s x → Leaves f s (g x a)) :
    Leaves f s (l.foldl g t) := by
  induction l generalizing t with
  | nil => exact h
  | cons a l ih => exact ih (k t a h)

theorem forClusters {l : List (Fin 4)} {g : State → Fin 4 → State} (h : Leaves f s t) (k : ∀ x c, Leaves f s x → Leaves f s (g x c)) :
    Leaves f s (t.forClusters l g) := h.foldl k

theorem report {ut : UType} {j code : Nat} {items : List (Nat × Nat)} (h : Leaves f s t) (hf : eventFld f = false := by rfl) :
    Leaves f s (t.report ut j code items) :=
  h.trans ⟨fun i => State.report_onlyEvents t ut j code items f i (List.not_mem_nil) hf⟩

end Leaves

namespace WritesOnly

variable {P : Fld → Nat → Prop} {s t : State}

theorem modMem {g : MemSys → MemSys} (h : WritesOnly P s t) : WritesOnly P s (t.modMem g) := h.same fun _ _ => rfl

theorem modEng {e : Fin 6} {g : Engine → Engine} (h : WritesOnly P s t) : WritesOnly P s (t.modEng e g) := h.same fun _ _ => rfl

theorem signal {n : Nat} (h : WritesOnly P s t) : WritesOnly P s (t.signal n) := h.same fun f i => State.signal_rd _ _ f i

theorem advance {n : Nat} (h : WritesOnly P s t) : WritesOnly P s (t.advance n) := h

end WritesOnly

namespace State

variable {s : State}

theorem rd_wrb (s : State) (f g : Fld) (i j : Nat) (b : Bool) :
    (s.wrb g j b).rd f i = if f = g ∧ i = j then b2n b % 2 ^ g.info.width else s.rd f i := rd_wr ..

/-- A value that fits its register reads back. -/
theorem rd_wr_of_lt (s : State) (f : Fld) (i : Nat) {v : Nat} (h : v < 2 ^ f.info.width := by decide) : (s.wr f i v).rd f i = v := by
  rw [rd_wr_same, Nat.mod_eq_of_lt h]

theorem rd_wrb_same (s : State) (f : Fld) (i : Nat) (b : Bool) (h : 1 < 2 ^ f.info.width := by decide) : (s.wrb f i b).rd f i = b2n b :=
  rd_wr_of_lt _ _ _ (Nat.lt_of_le_of_lt (by cases b <;> decide) h)

theorem rd_wr_ne_fld (s : State) {f g : Fld} {i j v : Nat} (h : f ≠ g) : (s.wr g j v).rd f i = s.rd f i := rd_wr_ne s fun e => h e.1

theorem rd_wrb_ne_fld (s : State) {f g : Fld} {i j : Nat} {b : Bool} (h : f ≠ g) : (s.wrb g j b).rd f i = s.rd f i := rd_wr_ne_fld s h

theorem rd_bump_ne_fld (s : State) {f g : Fld} {i j : Nat} (h : f ≠ g) : (s.bump g j).rd f i = s.rd f i := rd_wr_ne_fld s h

theorem rd_bump (s : State) (f g : Fld) (i j : Nat) :
    (s.bump g j).rd f i = if f = g ∧ i = j then satN f.info.width (s.rd f i + 1) else s.rd f i := by
  split
  next h =>
    obtain ⟨rfl, rfl⟩ := h
    exact rd_bump_same ..
  next h => exact rd_bump_ne s h

@[simp] theorem advance_on (s : State) (t : Nat) (f : Fld) (i : Nat) : (s.advance t).on f i = s.on f i := rfl

@[simp] theorem signal_mem (s : State) (n : Nat) : (s.signal n).mem = s.mem := by
  unfold signal
  split
  · rfl
  · split <;> rfl

/-! ### Retries of the die-to-die link -/

/-- The retries of a die-to-die unit within the last millisecond, with one of now. -/
def retriesWith (s : State) (t : Nat) (d : Fin 2) : List Nat := max s.now t :: s.retries[d].filter fun x => max s.now t < x + msCclk 1

theorem d2dCrcRetry_few {t lane : Nat} {d : Fin 2} (h : (s.retriesWith t d).length ≤ 16) :
    exec (.d2dCrcRetry t d lane) s
      = .next { (s.advance t).bump (.st .d2d .errcnt) d with retries := s.retries.set d (s.retriesWith t d) } := by
  change execD2dCrcRetry t d lane s = _
  unfold execD2dCrcRetry
  extract_lets s1 l
  exact if_pos h

theorem d2dCrcRetry_many {t lane : Nat} {d : Fin 2} (h : ¬ (s.retriesWith t d).length ≤ 16) :
    exec (.d2dCrcRetry t d lane) s
      = .next ({ (s.advance t).bump (.st .d2d .errcnt) d with retries := s.retries.set d [] }.reportSub .d2d d lane 0x2741
          [(4, (s.retriesWith t d).length)]) := by
  change execD2dCrcRetry t d lane s = _
  unfold execD2dCrcRetry
  extract_lets s1 l
  exact if_neg h

theorem fusedOff_d2d (s : State) (i : Nat) : s.fusedOff .d2d i = false := rfl

end State

/-- Settles O11: the counter goes up first, and a 17th retry within the millisecond reports besides. -/
theorem d2dRetryCounted : Obligations.D2dRetryCounted := by
  unfold Obligations.D2dRetryCounted
  intro t d lane s recent
  have hlen : (s.retriesWith t d).length = recent := rfl
  by_cases h : recent ≤ 16
  · refine ⟨_, State.d2dCrcRetry_few (by omega), fun _ => ⟨State.rd_bump_same .., fun f i hf => State.rd_bump_ne _ hf⟩, fun h' => by omega,
      ⟨rfl, rfl, rfl⟩, fun f i hs _ _ => State.rd_bump_ne _ (by rintro ⟨rfl, -⟩; exact hs rfl)⟩
  · refine ⟨_, State.d2dCrcRetry_many (by omega), fun h' => absurd h' h, fun _ => ⟨?_, State.reportSub_lastclass _ _ _ _ _ _ rfl (by decide), ?_⟩,
      ⟨State.reportSub_hbm .., State.reportSub_plate .., State.reportSub_raw ..⟩, fun f i hs hl hc => ?_⟩
    · rw [State.reportSub_errcnt _ _ _ _ _ _ rfl]
      exact congrArg (fun n => satN 16 (n + 1)) (State.rd_bump_same ..)
    · rw [State.reportSub_retries]
      simp
    · rw [State.reportSub_rd _ _ _ _ _ _ hs hl (by rintro rfl; exact hc rfl)]
      exact State.rd_bump_ne (s.advance t) (by rintro ⟨rfl, -⟩; exact hs rfl)

/-! ### Fences, freeze requests and power states -/

namespace State

variable {s : State}

theorem fenceDone_of_busy {t : Nat} (h : s.on (.hbm .fenceBusy) 0 = true) :
    exec (.fenceDone t) s = .next (((((((s.advance t).wr (.hbm .fenceBusy) 0 0).wr (.hbm .fenceDone) 0 1).wrb (.hbm .fenceLost) 0 s.mem.covered).modMem
      fun m => { m with covered := false })).signal 2) := by
  change execFenceDone t s = _
  unfold execFenceDone
  extract_lets s1 s2
  rw [if_neg (by simpa [s1] using h)]
  rfl

theorem pcPowerDown_of_idle {t : Nat} {p : Fin 16} (hp : s.rd (.hbm .pcStatePwr) p = 0) (hr : s.regionStopped (p.val / 8) = false)
    (hg : s.gathering (p.val / 2) = false) (hi : s.mem.lastReq[p] + 16 * s.rd (.hbm .pwrIdle) (p.val / 8) ≤ max s.now t)
    (hs : (s.advance t).slackOk p = true) : exec (.pcPowerDown t p) s = .next ((s.advance t).wr (.hbm .pcStatePwr) p 1) := by
  change execPcPowerDown t p s = _
  unfold execPcPowerDown
  extract_lets s1 idle
  have hi' : idle := hi
  have hr' : s1.regionStopped (p.val / 8) = false := hr
  have hg' : s1.gathering (p.val / 2) = false := hg
  have hp' : s1.rd (.hbm .pcStatePwr) p = 0 := hp
  simp [hi', hr', hg', hp', s1, hs]

theorem pcPowerDownExit_of_down {t : Nat} {p : Fin 16} (hp : s.rd (.hbm .pcStatePwr) p = 1) :
    exec (.pcPowerDownExit t p) s = .next ((s.advance t).wr (.hbm .pcStatePwr) p 0) := by
  change execPcPowerDownExit t p s = _
  unfold execPcPowerDownExit
  simp [hp]

theorem selfRefreshEntry_of_idle {t : Nat} {ch : Fin 8}
    (hc : (s.regionClusters (Fin.ofNat 2 (ch.val / 4))).all (fun c => s.on (.chr .heldHeld) c) = true)
    (hr : s.regionStopped (Fin.ofNat 2 (ch.val / 4)) = false) (hg : s.gathering ch.val = false)
    (hi : ∀ p : Fin 16, p.val / 2 = ch.val → s.mem.lastReq[p] + usCclk (s.rd (.hbm .pwrSridle) (ch.val / 4)) ≤ max s.now t) :
    exec (.selfRefreshEntry t ch) s = .next (((s.advance t).wr (.hbm .pcStatePwr) (2 * ch.val) 2).wr (.hbm .pcStatePwr) (2 * ch.val + 1) 2) := by
  have hch := ch.isLt
  have hreg : ((Fin.ofNat 2 (ch.val / 4) : Fin 2) : Nat) = ch.val / 4 := Nat.mod_eq_of_lt (by omega)
  have h0 : ((Fin.ofNat 16 (2 * ch.val) : Fin 16) : Nat) = 2 * ch.val := Nat.mod_eq_of_lt (by omega)
  have h1 : ((Fin.ofNat 16 (2 * ch.val + 1) : Fin 16) : Nat) = 2 * ch.val + 1 := Nat.mod_eq_of_lt (by omega)
  have i0 := hi (Fin.ofNat 16 (2 * ch.val)) (by omega)
  have i1 := hi (Fin.ofNat 16 (2 * ch.val + 1)) (by omega)
  change execSelfRefreshEntry t ch s = _
  unfold execSelfRefreshEntry
  extract_lets s1 r since
  refine if_pos ?_
  have hidle : since + usCclk (s1.rd (.hbm .pwrSridle) r) ≤ s1.now := by
    change max _ _ + usCclk (s.rd (.hbm .pwrSridle) (Fin.ofNat 2 (ch.val / 4) : Fin 2)) ≤ max s.now t
    rw [hreg, Nat.max_def]
    split
    · exact i1
    · exact i0
  have hc' : (s1.regionClusters r).all (fun c => s1.on (.chr .heldHeld) c) = true := hc
  have hr' : s1.regionStopped r = false := hr
  have hg' : s1.gathering ch = false := hg
  simp only [hc', hr', hg', hidle, decide_true, Bool.not_false, Bool.and_self]

end State

/-- Settles O16, one equation for each command. -/
theorem fenceAndPowerStates : Obligations.FenceAndPowerStates := by
  unfold Obligations.FenceAndPowerStates
  refine ⟨fun t s => ?_, fun t s h => ?_, fun t i s => ?_, fun t p s hp hr hg hi hs => ?_, fun t p s hp => ?_, fun t ch s hc hr hg hi => ?_⟩
  · refine ⟨_, rfl, ?_, ?_, rfl, WritesOnly.onlyRegs (.modMem (.wr (.wr .refl (by simp)) (by simp))), ⟨rfl, rfl, rfl⟩⟩
    · simp (disch := decide) only [State.modMem_rd, State.rd_wr_ne_fld, State.rd_wr_of_lt]
    · simp (disch := decide) only [State.modMem_rd, State.rd_wr_of_lt]
  · refine ⟨_, State.fenceDone_of_busy h, ?_, ?_, ?_, ?_, ?_, ?_⟩
    · simp (disch := decide) only [State.signal_rd, State.modMem_rd, State.rd_wrb_ne_fld, State.rd_wr_ne_fld, State.rd_wr_of_lt]
    · simp (disch := decide) only [State.signal_rd, State.modMem_rd, State.rd_wrb_ne_fld, State.rd_wr_of_lt]
    · simp (disch := decide) only [State.signal_rd, State.modMem_rd, State.rd_wrb_same]
    · rw [State.signal_mem]
      rfl
    · exact WritesOnly.onlyRegs (.signal (.modMem (.wrb (.wr (.wr .refl (by simp)) (by simp)) (by simp))))
    · exact ⟨State.signal_hbm .., State.signal_plate .., State.signal_raw ..⟩
  · exact ⟨_, rfl, State.rd_wr_same .., WritesOnly.onlyRegs (.wr .refl (by simp)), ⟨rfl, rfl, rfl⟩⟩
  · exact ⟨_, State.pcPowerDown_of_idle hp hr hg hi hs, State.rd_wr_same .., WritesOnly.onlyRegs (.wr .refl (by simp)),
      ⟨rfl, rfl, rfl⟩⟩
  · exact ⟨_, State.pcPowerDownExit_of_down hp, State.rd_wr_same .., WritesOnly.onlyRegs (.wr .refl (by simp)),
      ⟨rfl, rfl, rfl⟩⟩
  · refine ⟨_, State.selfRefreshEntry_of_idle hc hr hg hi, ?_, State.rd_wr_same .., ?_, ⟨rfl, rfl, rfl⟩⟩
    · exact (State.rd_wr_ne _ (by simp)).trans (State.rd_wr_same ..)
    · exact WritesOnly.onlyRegs (.wr (.wr .refl (by simp)) (by simp))

/-! ### Refreshes and frequency changes -/

/-- A command that keeps the memories leaves them as they are in the state it answers. -/
theorem KeepsNext.sameMemory {s r : State} {o : Result} (h : KeepsNext false s o) (hr : o = .next r) : SameMemory s r := by
  subst hr
  exact Keeps.sameMemory h

/-- A fold leaves what one of its steps brings about, where every step keeps it and an invariant that the step needs. -/
theorem foldl_of_mem_inv {α β : Type} {g : β → α → β} {I P : β → Prop} {l : List α} {a : α} (ha : a ∈ l) (hI : ∀ x b, I x → I (g x b))
    (hstep : ∀ x, I x → P (g x a)) (hkeep : ∀ x b, P x → P (g x b)) {x : β} (hx : I x) : P (l.foldl g x) := by
  have hk : ∀ (l : List α) x, P x → P (l.foldl g x) := by
    intro l
    induction l with
    | nil => exact fun _ h => h
    | cons b l ih => exact fun x h => ih _ (hkeep x b h)
  induction l generalizing x with
  | nil => exact absurd ha List.not_mem_nil
  | cons b l ih =>
    rcases List.mem_cons.1 ha with rfl | ha
    · exact hk l _ (hstep x hx)
    · exact ih ha (hI x b hx)

/-- A property that every step of a fold keeps. -/
theorem foldl_keeps {α β : Type} {g : β → α → β} {P : β → Prop} {l : List α} (hkeep : ∀ x b, P x → P (g x b)) {x : β} (hx : P x) :
    P (l.foldl g x) := by
  induction l generalizing x with
  | nil => exact hx
  | cons b l ih => exact ih (hkeep x b hx)

namespace State

variable {s : State}

/-- What a refresh of a pseudo-channel does at a training engine: a result staged for the pseudo-channel is applied (R302). -/
def refreshEngine (p : Fin 16) (s : State) (e : Fin 6) : State :=
  match s.trn.engines[e].staged with
  | some r => if r.target ≤ 1 && r.idx == p.val && !s.regionStopped (p.val / 8) then s.applyStaged e r else s
  | none => s

theorem hbmRefresh_postponed {t : Nat} {p : Fin 16} (hp : s.rd (.hbm .pcStatePwr) p ≠ 2) (h8 : s.mem.postponed[p] < 8) :
    exec (.hbmRefresh t p true) s
      = .next ((s.advance t).modMem fun m => { m with postponed := m.postponed.set p (s.mem.postponed[p] + 1) }) := by
  change execHbmRefresh t p true s = _
  unfold execHbmRefresh
  extract_lets s1 n s2
  have hn : (true && decide (n < 8)) = true := by
    rw [Bool.true_and]
    exact decide_eq_true h8
  rw [if_neg (by simpa [s1] using hp), if_pos hn]
  rfl

theorem hbmRefresh_issued {t : Nat} {p : Fin 16} {urgent : Bool} (hp : s.rd (.hbm .pcStatePwr) p ≠ 2)
    (h8 : urgent = true → 8 ≤ s.mem.postponed[p]) :
    exec (.hbmRefresh t p urgent) s = .next (([0, 1, 2, 3] : List (Fin 6)).foldl (refreshEngine p)
      ((s.advance t).modMem fun m => { m with postponed := m.postponed.set p 0 })) := by
  change execHbmRefresh t p urgent s = _
  unfold execHbmRefresh
  extract_lets s1 n s2
  have hn : ¬ (urgent = true ∧ n < 8) := fun h => absurd (h8 h.1) (by
    have := h.2
    change s.mem.postponed[p] < 8 at this
    omega)
  rw [if_neg (by simpa [s1] using hp), if_neg (by simpa using hn)]
  rfl

theorem refreshEngine_touches {ps : List Part} {t : State} (p : Fin 16) (e : Fin 6) (h : Touches ps s t)
    (hp : Touches.Parts.applyStaged ⊆ ps := by decide) : Touches ps s (refreshEngine p t e) := by
  unfold refreshEngine
  split
  · exact .ite (.applyStaged h hp) h
  · exact h

theorem refreshEngine_of_none {p : Fin 16} {e : Fin 6} (h : s.trn.engines[e].staged = none) : refreshEngine p s e = s := by
  rw [refreshEngine, h]

theorem refreshEngine_of_other {p : Fin 16} {e : Fin 6} (h : ∀ x, s.trn.engines[e].staged = some x → ¬ (x.target ≤ 1 ∧ x.idx = p.val)) :
    refreshEngine p s e = s := by
  unfold refreshEngine
  split
  next r hr =>
    refine if_neg fun hc => h r hr ?_
    simp only [Bool.and_eq_true, decide_eq_true_eq, beq_iff_eq] at hc
    exact hc.1
  · rfl

/-- Applying a result leaves the engines as they stand. -/
theorem applyResult_trn (s : State) (r : Staged) : (s.applyResult r).trn = s.trn :=
  (Touches.applyResult .refl : Touches Touches.Parts.applyResult s _) .trn (by decide)

theorem applyResult_engState (s : State) (r : Staged) (i : Nat) : (s.applyResult r).rd (.trn .engStatState) i = s.rd (.trn .engStatState) i := by
  have halm : ∀ {x : State} {oid payload}, Leaves (.trn .engStatState) s x → Leaves (.trn .engStatState) s (x.almRequest oid payload) :=
    fun h => h.touches (Touches.almRequest .refl : Touches Touches.Parts.almRequest _ _)
  have hphase : ∀ c k n, Leaves (.trn .engStatState) s ((s.wr (.trn .adcStaged) (chanInst c k) 0).setPhase c k n) := fun c k n =>
    .foldl (.ite (.report (.wr (.wr (.wr .refl)))) (.wr (.wr (.wr .refl)))) fun _ _ hx =>
      hx.touches (Touches.showOpen .refl : Touches Touches.Parts.showOpen _ _)
  have htaps : ∀ c l a b, Leaves (.trn .engStatState) s (s.setTaps c l a b) := fun c l a b => .wr (.wr .refl)
  have hofs : ∀ c k n i v, Leaves (.trn .engStatState) s ((s.wr (.lsr .pdCfgDark) i v).setOfs c k n) := fun c k n i v =>
    .foldl (.wr .refl) fun _ _ hx => .wr hx
  refine (?_ : Leaves (.trn .engStatState) s (s.applyResult r)).rd i
  unfold applyResult
  extract_lets c k i v fe fd s1 s2
  have hs1 : Leaves (.trn .engStatState) s s1 := .foldl .refl fun _ _ hx => .wr hx (by
    simp only [fd]
    split <;> decide)
  split
  · exact halm hs1
  · exact halm hs1
  · exact halm (htaps c _ _ _)
  · exact halm (hphase c k _)
  · exact halm (hofs c k _ i _)
  · exact halm (.wr (.wr .refl))
  · exact halm (.wr .refl)

/-- An engine whose staged result has been applied (R302). -/
def EngineDone (e : Fin 6) (s : State) : Prop := s.trn.engines[e].staged = none ∧ s.rd (.trn .engStatState) e = 5

theorem applyStaged_done (s : State) (e : Fin 6) (r : Staged) : EngineDone e (s.applyStaged e r) := by
  refine ⟨?_, rd_wr_of_lt ..⟩
  rw [applyStaged, wr_trn, applyResult_trn]
  simp [modEng]

theorem applyStaged_engine_ne (s : State) {e d : Fin 6} (r : Staged) (h : d ≠ e) : (s.applyStaged e r).trn.engines[d] = s.trn.engines[d] := by
  rw [applyStaged, wr_trn, applyResult_trn]
  simp [modEng, vector_get_set_ne _ _ h, -Fin.getElem_fin]

theorem applyStaged_done_of_done {e d : Fin 6} (r : Staged) (h : EngineDone d s) : EngineDone d (s.applyStaged e r) := by
  by_cases hd : d = e
  · exact hd ▸ applyStaged_done s e r
  · refine ⟨(congrArg Engine.staged (applyStaged_engine_ne s r hd)).trans h.1, ?_⟩
    rw [applyStaged, rd_wr_ne _ (by simpa [Fin.ext_iff] using hd), applyResult_engState]
    exact h.2

theorem refreshEngine_done_of_done {p : Fin 16} (e d : Fin 6) (h : EngineDone d s) : EngineDone d (refreshEngine p s e) := by
  unfold refreshEngine
  split
  · split
    · exact applyStaged_done_of_done _ h
    · exact h
  · exact h

/-- An engine whose staged result waits for a refresh, or has been applied. -/
def AwaitsRefresh (p : Fin 16) (e : Fin 6) (x : Staged) (s : State) : Prop :=
  s.regionStopped (p.val / 8) = false ∧ (s.trn.engines[e].staged = some x ∨ EngineDone e s)

theorem refreshEngine_regionStopped (p : Fin 16) (e : Fin 6) (r : Nat) : (refreshEngine p s e).regionStopped r = s.regionStopped r := by
  unfold regionStopped
  rw [(refreshEngine_touches p e .refl : Touches Touches.Parts.applyStaged s _).rd (.hbm .rgnStatState) r]

theorem refreshEngine_awaits {p : Fin 16} {e : Fin 6} {x : Staged} (d : Fin 6) (h : AwaitsRefresh p e x s) : AwaitsRefresh p e x (refreshEngine p s d) := by
  obtain ⟨hr, hs | hd⟩ := h
  · refine ⟨(refreshEngine_regionStopped ..).trans hr, ?_⟩
    unfold refreshEngine
    split
    · split
      · by_cases he : e = d
        · exact .inr (he ▸ applyStaged_done ..)
        · exact .inl ((congrArg Engine.staged (applyStaged_engine_ne s _ he)).trans hs)
      · exact .inl hs
    · exact .inl hs
  · exact ⟨(refreshEngine_regionStopped ..).trans hr, .inr (refreshEngine_done_of_done d e hd)⟩

theorem refreshEngine_done {p : Fin 16} {e : Fin 6} {x : Staged} (ht : x.target ≤ 1) (hi : x.idx = p.val) (h : AwaitsRefresh p e x s) :
    EngineDone e (refreshEngine p s e) := by
  obtain ⟨hr, hs | hd⟩ := h
  · rw [refreshEngine, hs]
    simp only [ht, hi, hr, decide_true, BEq.rfl, Bool.not_false, Bool.and_self, if_true]
    exact applyStaged_done ..
  · exact refreshEngine_done_of_done e e hd

theorem freqChangeRequest_refused {t : Nat} {ch : Fin 8} {set : Fin 4} (h : s.on (.hbm .fcElastic) ch = false) :
    exec (.freqChangeRequest t ch set) s
      = .next (((((s.advance t).wr (.hbm .fcReqset) ch set.val).wr (.hbm .fcRefused) ch 0).wr (.hbm .fcRefused) ch 1).report .hbm (ch.val / 4) 0x1605
          [(1, ch.val), (1, set.val)]) := by
  change execFreqChangeRequest t ch set s = _
  unfold execFreqChangeRequest requestSet
  extract_lets s1 st
  have h' : s1.on (.hbm .fcElastic) ch = false := by
    simp only [on, s1, rd_wr_ne_fld _ (show Fld.hbm .fcElastic ≠ .hbm .fcRefused by decide),
      rd_wr_ne_fld _ (show Fld.hbm .fcElastic ≠ .hbm .fcReqset by decide)]
    exact h
  rw [if_pos (by simp [h'])]

theorem freqChangeRequest_started {t : Nat} {ch : Fin 8} {set : Fin 4} (he : s.on (.hbm .fcElastic) ch = true) (h3 : set.val < 3)
    (hm : set.val ≤ s.rd (.hbm .fcMinset) ch) (hr : s.rd (.hbm .rgnStatState) (ch.val / 4) = 0 ∨ s.rd (.hbm .rgnStatState) (ch.val / 4) = 3)
    (hb : s.on (.hbm .fcBusy) ch = false) (hp : s.rd (.hbm .pcStatePwr) (2 * ch.val) ≠ 2) (hg : s.gathering ch = false) :
    ∃ g : MemSys → MemSys, exec (.freqChangeRequest t ch set) s
      = .next ((((((s.advance t).wr (.hbm .fcReqset) ch set.val).wr (.hbm .fcRefused) ch 0).modMem g).wr (.hbm .fcFcPending) ch 0).wr (.hbm .fcBusy) ch 1) := by
  change ∃ g : MemSys → MemSys, execFreqChangeRequest t ch set s = _
  unfold execFreqChangeRequest requestSet
  extract_lets s1 st
  have h : ∀ f, f ≠ .hbm .fcRefused → f ≠ .hbm .fcReqset → ∀ i, s1.rd f i = s.rd f i := fun f h1 h2 i => by
    simp only [s1, rd_wr_ne_fld _ h1, rd_wr_ne_fld _ h2, advance_rd]
  have hst : st = 0 ∨ st = 3 := by
    simp only [st, h _ (show Fld.hbm .rgnStatState ≠ .hbm .fcRefused by decide) (by decide)]
    exact hr
  have hg' : s1.gathering ch = false := by
    simp only [gathering, h _ (show Fld.trn .engStatState ≠ .hbm .fcRefused by decide) (by decide),
      h _ (show Fld.trn .engCtrlTarget ≠ .hbm .fcRefused by decide) (by decide),
      h _ (show Fld.trn .engCtrlIdx ≠ .hbm .fcRefused by decide) (by decide)]
    exact hg
  have hstop : s1.regionStopped (ch.val / 4) = false := by
    change (st == 1 || st == 2 || st == 4) = false
    rcases hst with h0 | h0 <;> simp [h0]
  rw [if_neg, if_neg]
  · unfold startFc
    rw [if_neg (by simp [hstop]), if_neg (by simp [hg'])]
    exact ⟨_, rfl⟩
  · simp only [on, h _ (show Fld.hbm .fcBusy ≠ .hbm .fcRefused by decide) (by decide),
      h _ (show Fld.hbm .pcStatePwr ≠ .hbm .fcRefused by decide) (by decide)]
    simp only [on] at hb
    simp [hb, hp]
  · simp only [on, h _ (show Fld.hbm .fcElastic ≠ .hbm .fcRefused by decide) (by decide),
      h _ (show Fld.hbm .fcMinset ≠ .hbm .fcRefused by decide) (by decide)]
    simp only [on] at he
    rcases hst with h0 | h0 <;> simp [he, h0, h3, hm]

theorem freqChangeDone_eq {t set from' : Nat} {ch : Fin 8} (hf : s.mem.fcBusy.find? (fun x => x.1 == ch.val) = some (ch.val, set, from'))
    (hn : s.mem.fcNext.find? (fun x => x.1 == ch.val) = none) (hb : (s.advance t).fcBlocked ch = false) :
    ∃ (g : MemSys → MemSys) (items : List (Nat × Nat)), exec (.freqChangeDone t ch) s
      = .next (((((((((s.advance t).modMem g).wr (.hbm .fcCur) ch set).bump (.hbm .fcCount) ch).wr (.hbm .fcBusy) ch 0).wr (.hbm .pcStateSet)
          (2 * ch.val) set).wr (.hbm .pcStateSet) (2 * ch.val + 1) set)).report .hbm (ch.val / 4) 0x1604 items) := by
  change ∃ (g : MemSys → MemSys) (items : List (Nat × Nat)), execFreqChangeDone t ch s = _
  unfold execFreqChangeDone
  extract_lets s1 nx s2
  have hf' : s1.mem.fcBusy.find? (fun x => x.1 == ch.val) = some (ch.val, set, from') := hf
  have hn' : s1.mem.fcNext.find? (fun x => x.1 == ch.val) = none := hn
  split
  next h => exact absurd (hf'.symm.trans h) (by simp)
  next x h =>
    obtain rfl := Option.some.inj (hf'.symm.trans h)
    rw [if_neg (by simp [s1, hb])]
    have hnx : nx = none := hn'
    simp only [hnx]
    exact ⟨_, _, rfl⟩

end State

/-- Settles O17. A refresh that is issued goes through the four engines that deskew HBM; each result staged for its pseudo-channel is
applied there. -/
theorem refreshAndFrequency : Obligations.RefreshAndFrequency := by
  unfold Obligations.RefreshAndFrequency
  refine ⟨fun t p s hp h8 => ?_, fun t p urgent s hp h8 hno => ?_, fun t p urgent e x s hp h8 he hx ht hi hr => ?_,
    fun t ch set s he h3 hm hr hb hp hg => ?_, fun t ch set s he => ?_, fun t set from' ch s hf hset hn hb => ?_⟩
  · exact ⟨_, State.hbmRefresh_postponed hp h8, rfl, fun _ _ _ => rfl, rfl, rfl, rfl⟩
  · refine ⟨(s.advance t).modMem fun m => { m with postponed := m.postponed.set p 0 }, (State.hbmRefresh_issued hp h8).trans ?_, rfl,
      fun _ _ _ => rfl, rfl, rfl, rfl⟩
    have hkeep : ∀ (x : State), x.trn = s.trn → ∀ e, State.refreshEngine p x e = x := fun x hx e =>
      State.refreshEngine_of_other (by
        rw [hx]
        exact hno e)
    exact congrArg _ (foldl_keeps (P := fun x => x = (s.advance t).modMem fun m => { m with postponed := m.postponed.set p 0 })
      (fun x e hx => (hkeep x (by rw [hx]; rfl) e).trans hx) rfl)
  · refine ⟨_, State.hbmRefresh_issued hp h8, ?_, ?_⟩
    · have hmem : ∀ y : State, (([0, 1, 2, 3] : List (Fin 6)).foldl (State.refreshEngine p) y).mem = y.mem := fun y =>
        (Touches.foldl .refl fun x a hx => State.refreshEngine_touches p a hx : Touches Touches.Parts.applyStaged _ _) .mem (by decide)
      rw [hmem]
      simp
    · have hdone : ∀ y : State, State.AwaitsRefresh p e x y →
          State.EngineDone e (([0, 1, 2, 3] : List (Fin 6)).foldl (State.refreshEngine p) y) := fun y hy =>
        foldl_of_mem_inv (I := State.AwaitsRefresh p e x) (a := e) (by simp only [List.mem_cons, Fin.ext_iff]; simp; omega)
          (fun _ d h => State.refreshEngine_awaits d h) (fun _ h => State.refreshEngine_done ht hi h)
          (fun _ d h => State.refreshEngine_done_of_done d e h) hy
      obtain ⟨hnone, hstate⟩ := hdone ((s.advance t).modMem fun m => { m with postponed := m.postponed.set p 0 }) ⟨hr, .inl hx⟩
      exact ⟨hnone, hstate, KeepsNext.sameMemory (KeepsNext.execHbmRefresh .refl) (State.hbmRefresh_issued (t := t) hp h8)⟩
  · obtain ⟨g, hnext⟩ := State.freqChangeRequest_started (t := t) he h3 hm hr hb hp hg
    refine ⟨_, hnext, ?_, ?_, ?_, ?_, WritesOnly.onlyRegs (.wr (.wr (.modMem (.wr (.wr .refl (by simp)) (by simp))) (by simp)) (by simp)),
      ⟨rfl, rfl, rfl⟩⟩
    · simp (disch := decide) only [State.modMem_rd, State.rd_wr_ne_fld]
      exact State.rd_wr_of_lt _ _ _ set.isLt
    · simp (disch := decide) only [State.modMem_rd, State.rd_wr_ne_fld, State.rd_wr_of_lt]
    · simp (disch := decide) only [State.modMem_rd, State.rd_wr_of_lt]
    · simp (disch := decide) only [State.modMem_rd, State.rd_wr_ne_fld, State.rd_wr_of_lt]
  · refine ⟨_, State.freqChangeRequest_refused he, ?_, ?_, State.report_hbm .., State.report_plate .., State.report_raw ..⟩
    · rw [State.report_onlyEvents _ _ _ _ _ _ _ List.not_mem_nil rfl]
      exact State.rd_wr_of_lt ..
    · intro hoff
      have h := State.report_raised ((((s.advance t).wr (.hbm .fcReqset) ch set.val).wr (.hbm .fcRefused) ch 0).wr (.hbm .fcRefused) ch 1)
        .hbm (ch.val / 4) 0x1605 [(1, ch.val), (1, set.val)] (by decide) hoff
      simpa (disch := decide) only [Bumped, State.rd_wr_ne_fld, State.advance_rd] using h
  · obtain ⟨g, items, hnext⟩ := State.freqChangeDone_eq hf hn hb
    refine ⟨_, hnext, ?_, ?_, ?_, ?_, ?_, ?_, State.report_hbm .., State.report_plate .., State.report_raw ..⟩
    · rw [State.report_onlyEvents _ _ _ _ _ _ _ List.not_mem_nil rfl]
      simp (disch := decide) only [State.rd_wr_ne_fld, State.rd_bump_ne_fld]
      exact State.rd_wr_of_lt _ _ _ hset
    · rw [Bumped, State.report_onlyEvents _ _ _ _ _ _ _ List.not_mem_nil rfl]
      simp (disch := decide) only [State.rd_wr_ne_fld, State.rd_bump_same]
      rfl
    · rw [State.report_onlyEvents _ _ _ _ _ _ _ List.not_mem_nil rfl]
      simp (disch := decide) only [State.rd_wr_ne_fld, State.rd_wr_of_lt]
    · rw [State.report_onlyEvents _ _ _ _ _ _ _ List.not_mem_nil rfl, State.rd_wr_ne _ (by simp)]
      exact State.rd_wr_of_lt _ _ _ hset
    · rw [State.report_onlyEvents _ _ _ _ _ _ _ List.not_mem_nil rfl]
      exact State.rd_wr_of_lt _ _ _ hset
    · intro hoff
      have h := State.report_raised (((((((s.advance t).modMem g).wr (.hbm .fcCur) ch set).bump (.hbm .fcCount) ch).wr (.hbm .fcBusy) ch 0).wr
        (.hbm .pcStateSet) (2 * ch.val) set).wr (.hbm .pcStateSet) (2 * ch.val + 1) set) .hbm (ch.val / 4) 0x1604 items (by decide) hoff
      simpa (disch := decide) only [Bumped, State.rd_wr_ne_fld, State.rd_bump_ne_fld, State.modMem_rd, State.advance_rd] using h

end Sys2Proof.Machine
end

section
/-! What the forming anew of a frame may change: bit planes, and the power states of the pseudo-channels that it wakes (R80, R125, R277). -/

namespace Sys2Proof.Machine

set_option Elab.async false

/-- The registers of the memory system that a request may change where it wakes a pseudo-channel (R277, R278, R281). -/
def wakeFlds : List Fld := [.hbm .pcStatePwr, .hbm .pcStateSet, .hbm .fcCur, .hbm .fcCount]

/-- Every pseudo-channel of a region is held by a freeze or by a recovery that failed. -/
def PcsHeld (i : Fin 2) (s : State) : Prop := ∀ j, j < 8 → s.rd (.hbm .pcStatePwr) (8 * i.val + j) = 3

/-- From s to t no byte of memory has changed outside the bit planes of some clusters, whose places stand as before. -/
structure PlanesOnly (cs : List (Fin 4)) (s t : State) : Prop where
  plate : t.plate = s.plate
  raw : t.raw = s.raw
  cfg : t.cfg = s.cfg
  pln : ∀ f i, f.part = .reg .pln → t.rd f i = s.rd f i
  hbm : ∀ x, (∀ c ∈ cs, ¬ InPlane s c x) → cellGet t.hbm x = cellGet s.hbm x

theorem planeAddr_congr {s t : State} (hc : t.cfg = s.cfg) (hp : ∀ f i, f.part = .reg .pln → t.rd f i = s.rd f i) (c : Fin 4) (n p j y : Nat) :
    t.planeAddr c n p j y = s.planeAddr c n p j y := by
  unfold State.planeAddr
  rw [hc, hp _ _ rfl, hp _ _ rfl, hp _ _ rfl]

namespace PlanesOnly

variable {cs : List (Fin 4)} {s t u : State}

theorem onlyPlanes (h : PlanesOnly cs s t) : OnlyPlanes s t cs := ⟨h.plate, h.raw, h.hbm⟩

theorem refl : PlanesOnly cs s s := ⟨rfl, rfl, rfl, fun _ _ _ => rfl, fun _ _ => rfl⟩

theorem inPlane (h : PlanesOnly cs s t) {c : Fin 4} {x : Nat} (hx : InPlane t c x) : InPlane s c x := by
  obtain ⟨n, p, j, hn, hp, hj, hlo, hhi⟩ := hx
  rw [planeAddr_congr h.cfg h.pln] at hlo hhi
  rw [h.cfg] at hhi
  exact ⟨n, p, j, hn, hp, hj, hlo, hhi⟩

theorem trans (h : PlanesOnly cs s t) (k : PlanesOnly cs t u) : PlanesOnly cs s u where
  plate := k.plate.trans h.plate
  raw := k.raw.trans h.raw
  cfg := k.cfg.trans h.cfg
  pln f i hf := (k.pln f i hf).trans (h.pln f i hf)
  hbm x hx := (k.hbm x fun c hc hin => hx c hc (h.inPlane hin)).trans (h.hbm x hx)

theorem mono {ds : List (Fin 4)} (h : PlanesOnly cs s t) (hd : ∀ c ∈ cs, c ∈ ds) : PlanesOnly ds s t :=
  ⟨h.plate, h.raw, h.cfg, h.pln, fun x hx => h.hbm x fun c hc => hx c (hd c hc)⟩

theorem touches {ps : List Part} (h : PlanesOnly cs s t) (k : Touches ps t u)
    (hp : ([.hbm, .plate, .raw, .cfg, .reg .pln] : List Part).all (fun p => !ps.contains p) = true := by decide) : PlanesOnly cs s u := by
  simp only [List.all_cons, List.all_nil, Bool.and_true, Bool.and_eq_true, Bool.not_eq_true', List.contains_eq_mem, decide_eq_false_iff_not] at hp
  obtain ⟨hhbm, hplate, hraw, hcfg, hpln⟩ := hp
  exact h.trans ⟨k .plate hplate, k .raw hraw, k .cfg hcfg, fun f i hf => k.rd f i (hf ▸ hpln), fun x _ => by
    rw [show u.hbm = t.hbm from k .hbm hhbm]⟩

theorem ite {c : Prop} [Decidable c] (h : PlanesOnly cs s t) (k : PlanesOnly cs s u) : PlanesOnly cs s (if c then t else u) := by
  split
  · exact h
  · exact k

theorem foldl {α : Type} {g : State → α → State} {l : List α} (h : PlanesOnly cs s t)
    (k : ∀ x, ∀ a ∈ l, PlanesOnly cs s x → PlanesOnly cs s (g x a)) : PlanesOnly cs s (l.foldl g t) := by
  induction l generalizing t with
  | nil => exact h
  | cons a l ih => exact ih (k t a (List.mem_cons_self ..) h) fun x b hb => k x b (List.mem_cons_of_mem _ hb)

end PlanesOnly

/-- The units that raise events while a frame is formed anew. -/
def reformUnits : List UType := [.hbm, .layer, .geo, .geoCol]

/-- What the forming anew of frames does from s to t: no byte changes outside the planes of some clusters, no register of the memory system but
where a pseudo-channel wakes, no status word of a unit that has no part in it, and nothing of the controller of a region whose pseudo-channels
are held. -/
structure Reforms (cs : List (Fin 4)) (s t : State) : Prop where
  planes : PlanesOnly cs s t
  regs : ∀ f, f.part = .reg .hbm → f ∉ wakeFlds → Leaves f s t
  status : ∀ u x i, u ∉ reformUnits → t.rd (.st u x) i = s.rd (.st u x) i
  held : ∀ i, PcsHeld i s → PcsHeld i t ∧ ∀ x, t.rd (.st .hbm x) i = s.rd (.st .hbm x) i

namespace Reforms

variable {cs : List (Fin 4)} {s t u : State}

theorem refl : Reforms cs s s := ⟨.refl, fun _ _ _ => .refl, fun _ _ _ _ => rfl, fun _ h => ⟨h, fun _ => rfl⟩⟩

theorem trans (h : Reforms cs s t) (k : Reforms cs t u) : Reforms cs s u where
  planes := h.planes.trans k.planes
  regs f hf hw := (h.regs f hf hw).trans (k.regs f hf hw)
  status v x i hv := (k.status v x i hv).trans (h.status v x i hv)
  held i hi :=
    have ⟨ht, hs⟩ := h.held i hi
    have ⟨hu, hst⟩ := k.held i ht
    ⟨hu, fun x => (hst x).trans (hs x)⟩

theorem touches {ps : List Part} (h : Reforms cs s t) (k : Touches ps t u)
    (hp : ([.hbm, .plate, .raw, .cfg, .reg .pln, .reg .hbm, .status] : List Part).all (fun p => !ps.contains p) = true := by decide) :
    Reforms cs s u := by
  simp only [List.all_cons, List.all_nil, Bool.and_true, Bool.and_eq_true, Bool.not_eq_true', List.contains_eq_mem, decide_eq_false_iff_not] at hp
  obtain ⟨hhbm, hplate, hraw, hcfg, hpln, hreg, hst⟩ := hp
  exact h.trans ⟨PlanesOnly.refl.touches k (by simp [hhbm, hplate, hraw, hcfg, hpln]), fun f hf _ => ⟨fun i => k.rd f i (hf ▸ hreg)⟩,
    fun v x i _ => k.rd (.st v x) i hst, fun i hi => ⟨fun j hj => (k.rd (.hbm .pcStatePwr) _ hreg).trans (hi j hj), fun x => k.rd (.st .hbm x) i hst⟩⟩

theorem report {v : UType} {j code : Nat} {items : List (Nat × Nat)} (h : Reforms cs s t) (hr : v ∈ reformUnits := by decide) (hv : v ≠ .hbm := by decide) :
    Reforms cs s (t.report v j code items) :=
  h.trans ⟨PlanesOnly.refl.touches (Touches.report .refl : Touches Touches.Parts.report _ _),
    fun f hf _ => Leaves.refl.touches (Touches.report .refl : Touches Touches.Parts.report _ _) (by rw [hf]; decide),
    fun w x i hw => State.reportSub_other _ _ _ _ _ _ _ _ _ (.inl fun e => hw (e.1 ▸ hr)),
    fun i hi => ⟨fun k hk => ((Touches.report .refl : Touches Touches.Parts.report _ _).rd (.hbm .pcStatePwr) _).trans (hi k hk),
      fun x => State.reportSub_other _ _ _ _ _ _ _ _ _ (.inl fun e => hv e.1.symm)⟩⟩

theorem bump {f : Fld} {i : Nat} (h : Reforms cs s t) (hf : f.part = .reg .geo ∨ f.part = .reg .pix := by decide) : Reforms cs s (t.bump f i) := by
  rcases hf with e | e
  · exact h.touches (Touches.bump .refl (by simp [e]) : Touches [.reg .geo] _ _)
  · exact h.touches (Touches.bump .refl (by simp [e]) : Touches [.reg .pix] _ _)

theorem ite {c : Prop} [Decidable c] (h : Reforms cs s t) (k : Reforms cs s u) : Reforms cs s (if c then t else u) := by
  split
  · exact h
  · exact k

theorem foldl {α : Type} {g : State → α → State} {l : List α} (h : Reforms cs s t)
    (k : ∀ x, ∀ a ∈ l, Reforms cs s x → Reforms cs s (g x a)) : Reforms cs s (l.foldl g t) := by
  induction l generalizing t with
  | nil => exact h
  | cons a l ih => exact ih (k t a (List.mem_cons_self ..) h) fun x b hb => k x b (List.mem_cons_of_mem _ hb)

end Reforms

namespace State

variable {cs : List (Fin 4)} {s : State}

/-! ### The pseudo-channels of a request -/

theorem setBits_getD_lt (m k : Nat) : (setBits 8 m).getD k 0 < 8 := by
  rw [List.getD_eq_getElem?_getD]
  rcases h : (setBits 8 m)[k]? with _ | x
  · exact Nat.succ_pos 7
  · exact List.mem_range.1 (List.mem_filter.1 (List.mem_of_getElem? h)).1

theorem pcOf_lt (s : State) (a : Nat) : s.pcOf a < 16 := by
  have hr : addrRegion a < 2 := Nat.mod_lt _ (by decide)
  unfold pcOf
  split
  · omega
  next p _ =>
    extract_lets set
    have hk : set.getD ((a - p.base) / 256 % max 1 set.length) 0 < 8 := setBits_getD_lt ..
    omega

theorem pcsOf_lt {a n p : Nat} (h : p ∈ s.pcsOf a n) : p < 16 := by
  unfold pcsOf at h
  split at h
  · exact absurd h List.not_mem_nil
  · rw [List.mem_eraseDups] at h
    rcases List.mem_append.1 h with h | h
    · obtain ⟨i, -, rfl⟩ := List.mem_map.1 h
      exact pcOf_lt ..
    · exact List.mem_singleton.1 h ▸ pcOf_lt ..

/-- A pseudo-channel that is not in power-down nor in self-refresh has nothing to wake from. -/
theorem wakePc_of_held {p : Nat} (h : s.rd (.hbm .pcStatePwr) p = 3) :
    s.wakePc p = s.modMem fun m => { m with lastReq := m.lastReq.set (Fin.ofNat 16 p) s.now } := by
  unfold wakePc
  simp only [modMem_rd, h]
  rfl

/-- What a request does at a pseudo-channel p in self-refresh: the channel leaves it, and a set that waits is taken. -/
theorem wakePc_held {p : Nat} {i : Fin 2} (hi : PcsHeld i s) :
    PcsHeld i (s.wakePc p) ∧ ∀ x, (s.wakePc p).rd (.st .hbm x) i = s.rd (.st .hbm x) i := by
  by_cases hreg : p / 8 = i.val
  · have h3 : s.rd (.hbm .pcStatePwr) p = 3 := by
      have := hi (p % 8) (Nat.mod_lt _ (by decide))
      rwa [show 8 * i.val + p % 8 = p by omega] at this
    rw [wakePc_of_held h3]
    exact ⟨hi, fun _ => rfl⟩
  · have hne : ∀ {j k}, j < 8 → k / 8 = p / 8 → (8 * i.val + j) ≠ k := fun hj hk e => hreg (by omega)
    have hst : ∀ {u : State} {f : Fld} {k v x}, f.part = .reg .hbm → (u.wr f k v).rd (.st .hbm x) i = u.rd (.st .hbm x) i := fun {u f k v x} hf =>
      rd_wr_ne u (by
        rintro ⟨rfl, -⟩
        exact nomatch hf)
    unfold wakePc
    extract_lets s1 ch s2 s3
    have hs1 : PcsHeld i s1 := hi
    have hs2 : PcsHeld i s2 := fun j hj => by
      simp only [s2]
      rw [rd_wr_ne _ fun e => hne hj (k := 2 * ch + 1) (by simp only [ch]; omega) e.2, rd_wr_ne _ fun e => hne hj (k := 2 * ch) (by simp only [ch]; omega) e.2]
      exact hi j hj
    have hst2 : ∀ x, s2.rd (.st .hbm x) i = s.rd (.st .hbm x) i := fun x => by
      simp only [s2]
      rw [hst rfl, hst rfl]
      rfl
    split
    · exact ⟨fun j hj => (rd_wr_ne s1 fun e => hne hj rfl e.2).trans (hi j hj), fun x => hst rfl⟩
    split
    · split
      · exact ⟨hs2, hst2⟩
      · extract_lets s4 us
        have h4 : PcsHeld i s4 ∧ ∀ x, s4.rd (.st .hbm x) i = s.rd (.st .hbm x) i := by
          refine ⟨fun j hj => ?_, fun x => ?_⟩
          · simp (disch := decide) only [s4, s3, modMem_rd, rd_wr_ne_fld, rd_bump_ne_fld]
            exact hs2 j hj
          · simp only [s4, s3, bump, bumpBy]
            rw [hst rfl, hst rfl, hst rfl, hst rfl]
            exact hst2 x
        refine ⟨fun j hj => ?_, fun x => ?_⟩
        · exact ((Touches.report .refl : Touches Touches.Parts.report _ _).rd (.hbm .pcStatePwr) _).trans (h4.1 j hj)
        · refine (reportSub_other us.2 _ _ _ _ _ _ _ x (.inl fun e => hreg ?_)).trans (h4.2 x)
          have := e.2
          simp only [ch] at this
          omega
    · exact ⟨hs1, fun _ => rfl⟩

theorem wakePc_status {p : Nat} {u : UType} (x : StF) (i : Nat) (hu : u ≠ .hbm) : (s.wakePc p).rd (.st u x) i = s.rd (.st u x) i := by
  have hwr : ∀ {t v : State} {g : HbmF} {k n}, Leaves (.st u x) t v → Leaves (.st u x) t (v.wr (.hbm g) k n) := fun h => h.wr (by simp)
  refine (?_ : Leaves (.st u x) s (s.wakePc p)).rd i
  unfold wakePc
  extract_lets s1 ch s2 s3
  have hs1 : Leaves (.st u x) s s1 := ⟨fun _ => rfl⟩
  have hs2 : Leaves (.st u x) s s2 := hwr (hwr hs1)
  refine .ite (hwr hs1) (.ite ?_ hs1)
  split
  · exact hs2
  · extract_lets s4 us
    have hs3 : Leaves (.st u x) s s3 := ⟨hs2.rd⟩
    have hs4 : Leaves (.st u x) s s4 := hwr (hwr (hwr (hwr hs3)))
    exact (⟨hs4.rd⟩ : Leaves (.st u x) s us.2).trans ⟨fun k => reportSub_other us.2 _ _ _ _ _ _ _ x (.inl fun e => hu e.1)⟩

theorem wakePc_leaves {p : Nat} {f : Fld} (hf : f.part = .reg .hbm) (hw : f ∉ wakeFlds) : Leaves f s (s.wakePc p) := by
  have he : eventFld f = false := by
    cases f <;> first | rfl | exact nomatch hf
  simp only [wakeFlds, List.mem_cons, List.not_mem_nil, or_false, not_or] at hw
  obtain ⟨hpwr, hset, hcur, hcount⟩ := hw
  unfold wakePc
  extract_lets s1 ch s2 s3
  have hs1 : Leaves f s s1 := ⟨fun _ => rfl⟩
  have hs2 : Leaves f s s2 := .wr (.wr hs1 hpwr) hpwr
  refine .ite (.wr hs1 hpwr) (.ite ?_ hs1)
  split
  · exact hs2
  · extract_lets s4 us
    have hs3 : Leaves f s s3 := ⟨hs2.rd⟩
    have hs4 : Leaves f s s4 := .bump (.wr (.wr (.wr hs3 hcur) hset) hset) hcount
    exact .report ⟨hs4.rd⟩ he

end State

namespace Reforms

variable {cs : List (Fin 4)} {s t : State}

theorem wakePc {p : Nat} (h : Reforms cs s t) : Reforms cs s (t.wakePc p) :=
  h.trans ⟨PlanesOnly.refl.touches (Touches.wakePc .refl : Touches Touches.Parts.wakePc _ _), fun _ hf hw => State.wakePc_leaves hf hw,
    fun _ x i hv => State.wakePc_status x i fun e => hv (e ▸ by decide), fun _ hi => State.wakePc_held hi⟩

theorem request {a n : Nat} (h : Reforms cs s t) : Reforms cs s (t.request a n) :=
  .ite h (.foldl h fun _ _ _ hx => hx.wakePc)

theorem cells {a : Nat} {bs : List Nat} {m : MemSys} (h : Reforms cs s t)
    (hin : ∀ x, a ≤ x → x < a + bs.length → ∃ c ∈ cs, InPlane s c x) : Reforms cs s { t with hbm := cellStore t.hbm a bs, mem := m } where
  planes := ⟨h.planes.plate, h.planes.raw, h.planes.cfg, h.planes.pln, fun x hx => by
    refine (cellGet_cellStore_out ?_).trans (h.planes.hbm x hx)
    by_contra hc
    obtain ⟨c, hcs, hp⟩ := hin x (by omega) (by omega)
    exact hx c hcs hp⟩
  regs f hf hw := ⟨(h.regs f hf hw).rd⟩
  status := h.status
  held := h.held

theorem writePlane {a : Nat} {bs : List Nat} (h : Reforms cs s t) (hin : ∀ x, a ≤ x → x < a + bs.length → ∃ c ∈ cs, InPlane s c x) :
    Reforms cs s (t.writePlane a bs) := .cells (.request h) hin

end Reforms

namespace State

theorem planesOf_lt {h : SchedHeader} {j : Nat} (hj : j ∈ planesOf h) : j < 16 := by
  unfold planesOf at hj
  split at hj
  · obtain ⟨k, hk, rfl⟩ := List.mem_map.1 hj
    have := List.mem_range.1 hk
    omega
  · exact List.mem_range.1 hj

theorem planeBytes_length (s : State) (c : Fin 4) (tForm : Bool) (marked : List Nat) (pic : List Px) (p j : Nat) :
    (s.planeBytes c tForm marked pic p j).length = s.cfg[c].h * (s.cfg[c].w / 8) := by
  simp [planeBytes, rowBytes, List.length_flatMap]

theorem inPlane_mod {s : State} {c : Fin 4} {n p j x : Nat} (hp : p < 3) (hj : j < 16) (hlo : s.planeAddr c n p j 0 % hbmEnd ≤ x)
    (hhi : x < s.planeAddr c n p j 0 % hbmEnd + s.cfg[c].h * (s.cfg[c].w / 8)) : InPlane s c x := by
  have hn : s.planeAddr c (n % 3) p j 0 = s.planeAddr c n p j 0 := by
    unfold planeAddr
    rw [Nat.mod_mod]
  refine ⟨n % 3, p, j, Nat.mod_lt _ (by decide), hp, hj, ?_, ?_⟩
  · rw [hn]
    exact hlo
  · rw [hn]
    exact hhi

end State

namespace Reforms

variable {cs : List (Fin 4)} {s t : State}

theorem recompose {c : Fin 4} {crcs : List Nat} (h : Reforms cs s t) (hc : c ∈ cs) : Reforms cs s (t.recompose c crcs) := by
  unfold State.recompose
  extract_lets w h1 comp out crcs s1 s2
  have hs2 : Reforms cs s s2 := h.touches (.wr (.modPic .refl) : Touches [.pic, .reg .geo] t s2)
  refine .ite hs2 ?_
  split
  · exact hs2
  · refine .foldl hs2 fun _ j hj hx => .foldl hx fun y p hp hy => .writePlane hy fun x hlo hhi => ⟨c, hc, ?_⟩
    have hp3 : p < 3 := by
      simp only [List.mem_cons, List.not_mem_nil, or_false] at hp
      omega
    rw [State.planeBytes_length, hy.planes.cfg] at hhi
    rw [planeAddr_congr hy.planes.cfg hy.planes.pln] at hlo hhi
    exact State.inPlane_mod hp3 (State.planesOf_lt hj) hlo hhi

theorem badWordUsed {c : Fin 4} {b : BadWord} (h : Reforms cs s t) : Reforms cs s (t.badWordUsed c b) := by
  unfold State.badWordUsed
  extract_lets ts s1 s2
  have hs1 : Reforms cs s s1 := .ite (h.touches (Touches.flagBy .refl : Touches Touches.Parts.flagBy _ _))
    (h.touches (Touches.flagBy .refl : Touches Touches.Parts.flagBy _ _))
  have hs2 : Reforms cs s s2 := hs1.touches (Touches.modPic .refl : Touches Touches.Parts.modPic _ _)
  exact .ite h (.ite hs1 (.ite (.report (.bump hs2)) (.report hs2)))

theorem judgeWords {c : Fin 4} (h : Reforms cs s t) : Reforms cs s (t.judgeWords c) := .foldl h fun _ _ _ hx => .badWordUsed hx

theorem recomposeAll {c : Fin 4} (h : Reforms allClusters s t) : Reforms allClusters s (t.recomposeAll c) :=
  .foldl h fun _ d _ hx => .ite (.judgeWords (.recompose hx (mem_allClusters d))) hx

theorem lateLines {c : Fin 4} {l : Fin 8} {y0 y1 : Nat} (h : Reforms allClusters s t) : Reforms allClusters s (t.lateLines c l y0 y1) := by
  unfold State.lateLines
  extract_lets r s1 s2
  have hs1 : Reforms allClusters s s1 := h.touches (Touches.modLayer .refl : Touches Touches.Parts.modLayer _ _)
  exact .report (.bump (hs1.recomposeAll.touches (Touches.flagBy .refl : Touches Touches.Parts.flagBy _ _)))

theorem lateFetches {r : Fin 2} (h : Reforms allClusters s t) : Reforms allClusters s (t.lateFetches r) :=
  .foldl h fun _ c _ hx => .ite hx (.foldl hx fun _ l _ hy => by
    extract_lets rect line
    exact .ite (.lateLines hy) hy)

theorem wakeHeld {c : Fin 4} {cause : Nat} (h : Reforms cs s t) : Reforms cs s (t.wakeHeld c cause) := by
  refine h.touches (?_ : Touches [.chr, .reg .chr] _ _)
  exact .wakeHeld .refl

end Reforms

/-! ### A region freezes -/

namespace State

variable {s : State}

theorem regionStopped_of_serving {r : Nat} (h : s.rd (.hbm .rgnStatState) r = 0 ∨ s.rd (.hbm .rgnStatState) r = 3) : s.regionStopped r = false := by
  unfold regionStopped
  rcases h with e | e <;> rw [e] <;> rfl

theorem freeBits_rd (s : State) (n : Nat) (f : Fld) (i : Nat) : (s.freeBits n).2.rd f i = s.rd f i := rfl

theorem setPcs_leaves {f : Fld} (r : Fin 2) (n : Nat) (h : f ≠ .hbm .pcStatePwr) : Leaves f s (s.setPcs r n) := .foldl .refl fun _ _ hx => .wr hx h

theorem rd_foldl_setPcs (s : State) (r n j : Nat) {l : List Nat} (hn : n < 2 ^ (Fld.hbm .pcStatePwr).info.width) (hj : j ∈ l) :
    (l.foldl (fun s i => s.wr (.hbm .pcStatePwr) (8 * r + i) n) s).rd (.hbm .pcStatePwr) (8 * r + j) = n :=
  foldl_of_mem_inv (I := fun _ => True) (P := fun x : State => x.rd (.hbm .pcStatePwr) (8 * r + j) = n) hj (fun _ _ _ => trivial)
    (fun x _ => rd_wr_of_lt _ _ _ hn) (fun x i hx => by
      rw [rd_wr]
      split
      · exact Nat.mod_eq_of_lt hn
      · exact hx) trivial

theorem rd_setPcs (s : State) (r : Fin 2) {n j : Nat} (hj : j < 8) (hn : n < 2 ^ (Fld.hbm .pcStatePwr).info.width := by decide) :
    (s.setPcs r n).rd (.hbm .pcStatePwr) (8 * r.val + j) = n := rd_foldl_setPcs _ _ _ _ hn (List.mem_range.2 hj)

/-- The registers of a region that a freeze sets (R282, R283). -/
def frozenRegs (s : State) (r : Fin 2) (cause pc a kind port path : Nat) : State :=
  ((((((s.wr (.hbm .rgnCtrlFreeze) r 0).captureFreeze r pc a kind port path).wr (.hbm .rgnStatCause) r cause).wr (.hbm .rgnStatState) r 1).wr
    (.hbm .rgnStatTries) r 0).setPcs r 3)

/-- A freeze of a region in service: its registers, then the report and the fetches that it cuts short. -/
theorem freeze_eq {r : Fin 2} {cause pc a kind port path : Nat} (h : s.regionStopped r = false) :
    ∃ (x : State) (items : List (Nat × Nat)) (l : List (Fin 4)), s.freeze r cause pc a kind port path
        = l.foldl (fun s c => s.wakeHeld c 6) ((x.report .hbm r 0x2601 items).lateFetches r)
      ∧ Touches [.mem, .trn, .reg .plt] (s.frozenRegs r cause pc a kind port path) x := by
  unfold freeze
  extract_lets st s1 s2 s3 s4 s5 s6 s7 s8
  have hst : (st == 1 || st == 2 || st == 4) = false := h
  simp only [Bool.or_eq_false_iff] at hst
  obtain ⟨⟨h1, h2⟩, h4⟩ := hst
  rw [if_neg (by simp [h1, h4]), if_neg (by simp [h2])]
  refine ⟨_, _, _, rfl, ?_⟩
  exact Touches.violate (Touches.dropCopies (.foldl (Touches.modRegion .refl) fun _ _ hx => Touches.modMem hx))

theorem frozenRegs_touches {r : Fin 2} {cause pc a kind port path : Nat} : Touches [.reg .hbm] s (s.frozenRegs r cause pc a kind port path) :=
  Touches.setPcs (.wr (.wr (.wr (Touches.captureFreeze (.wr .refl)))))

theorem frozenRegs_held (s : State) (r : Fin 2) (cause pc a kind port path : Nat) : PcsHeld r (s.frozenRegs r cause pc a kind port path) :=
  fun _ hj => rd_setPcs _ _ hj

theorem frozenRegs_rd (s : State) (r : Fin 2) (cause pc a kind port path : Nat) {f : Fld} (h : f ≠ .hbm .pcStatePwr) :
    (s.frozenRegs r cause pc a kind port path).rd f r
      = (((((s.wr (.hbm .rgnCtrlFreeze) r 0).captureFreeze r pc a kind port path).wr (.hbm .rgnStatCause) r cause).wr (.hbm .rgnStatState) r 1).wr
          (.hbm .rgnStatTries) r 0).rd f r := (setPcs_leaves r 3 h).rd r

/-- What a freeze of a region in service leaves: the registers of the freeze, the report, and memory as before outside the bit planes. -/
structure Frozen (r : Fin 2) (cause pc a kind port path : Nat) (s t : State) : Prop where
  held : PcsHeld r t
  regs : ∀ f, f.part = .reg .hbm → f ∉ wakeFlds → Leaves f (s.frozenRegs r cause pc a kind port path) t
  raised : Raised s t .hbm r 0x2601
  planes : PlanesOnly allClusters s t

theorem freeze_frozen {r : Fin 2} {cause pc a kind port path : Nat} (h : s.regionStopped r = false) :
    Frozen r cause pc a kind port path s (s.freeze r cause pc a kind port path) := by
  obtain ⟨x, items, l, he, hx⟩ := freeze_eq (cause := cause) (pc := pc) (a := a) (kind := kind) (port := port) (path := path) h
  have hreport : Touches Touches.Parts.report x (x.report .hbm r 0x2601 items) := .report .refl
  have hend : Reforms allClusters (x.report .hbm r 0x2601 items) (s.freeze r cause pc a kind port path) := by
    rw [he]
    exact .foldl (.lateFetches .refl) fun _ _ _ hy => .wakeHeld hy
  have hheld : PcsHeld r (x.report .hbm r 0x2601 items) := fun j hj =>
    (hreport.rd (.hbm .pcStatePwr) _).trans ((hx.rd (.hbm .pcStatePwr) _).trans (frozenRegs_held _ _ _ _ _ _ _ _ j hj))
  obtain ⟨htheld, hst⟩ := hend.held r hheld
  refine ⟨htheld, fun f hf hw => ?_, fun hoff => ?_, ?_⟩
  · exact (Leaves.refl.touches hx (by rw [hf]; decide)).trans ((Leaves.refl.touches hreport (by rw [hf]; decide)).trans (hend.regs f hf hw))
  · have hstx : x.rd (.st .hbm .errcnt) r = s.rd (.st .hbm .errcnt) r :=
      (hx.rd (.st .hbm .errcnt) r).trans (frozenRegs_touches.rd (.st .hbm .errcnt) r)
    refine ⟨(hst .lastclass).trans (report_lastclass _ _ _ _ _ rfl (by decide)), ?_⟩
    rw [Bumped, hst .errcnt, report_errcnt _ _ _ _ _ rfl, hstx]
    rfl
  · exact (((PlanesOnly.refl.touches (frozenRegs_touches (s := s))).touches hx).touches hreport).trans hend.planes

theorem freezeSnapshotDone_kept {t : Nat} {i : Fin 2} (h1 : s.rd (.hbm .rgnStatState) i = 1) (hd : s.duty 5 = true)
    (ha : s.on (.hbm .rgnCtrlAutorecover) i = false) :
    ∃ g : Region → Region, exec (.freezeSnapshotDone t i) s = .next (((s.advance t).modRegion i g).wr (.hbm .rgnStatSnap) i 1) := by
  change ∃ g : Region → Region, execFreezeSnapshotDone t i s = _
  unfold execFreezeSnapshotDone
  extract_lets s1 s2
  have hd' : s1.duty 5 = true := hd
  have h1' : s1.rd (.hbm .rgnStatState) i = 1 := h1
  have ha' : s2.on (.hbm .rgnCtrlAutorecover) i = false := by
    simp only [on, s2]
    rw [rd_wr_ne_fld _ (by decide)]
    exact ha
  rw [if_neg (by simp [h1', hd']), if_neg (by simp [ha'])]
  exact ⟨_, rfl⟩

/-- Recovery of a frozen region with its snapshot begins (R290). -/
theorem startRecovery_eq {i : Fin 2} (h1 : s.rd (.hbm .rgnStatState) i = 1) (hs : s.on (.hbm .rgnStatSnap) i = true) :
    Touches [.pic, .reg .geo] (((s.wr (.hbm .rgnCtrlRecover) i 0).wr (.hbm .rgnStatState) i 2).setPcs i 2) (s.startRecovery i) := by
  unfold startRecovery
  extract_lets s1 s2
  have h1' : s1.rd (.hbm .rgnStatState) i = 1 := (rd_wr_ne_fld s (by decide)).trans h1
  have hs' : s1.on (.hbm .rgnStatSnap) i = true := by
    simp only [on, s1]
    rw [rd_wr_ne_fld _ (by decide)]
    exact hs
  rw [if_pos (by simp [h1', hs'])]
  refine .forClusters .refl fun x c hx => ?_
  split
  · exact .ite (.wr (.wr (Touches.modPic hx))) hx
  · exact hx

end State

/-- Settles O22: the freeze sets its registers before it reports, and what it forms anew wakes no pseudo-channel of the region. -/
theorem freezeTaken : Obligations.FreezeTaken := by
  unfold Obligations.FreezeTaken
  refine ⟨fun t addr port path i pc s h hport => ?_, fun t i s h1 hd ha => ?_, fun t i s h1 hs => ?_⟩
  · have hf := State.freeze_frozen (s := s.advance t) (r := i) (cause := if s.on (.hbm .rgnCtrlFreeze) i then 4 else 1) (pc := 8 * i.val + pc.val)
      (a := addr % hbmEnd) (kind := (s.advance t).kindAt (addr % hbmEnd)) (port := port) (path := path) (State.regionStopped_of_serving h)
    have hrd : ∀ f, f.part = .reg .hbm → f ∉ wakeFlds → f ≠ .hbm .pcStatePwr → _ := fun f hp hw hne =>
      ((hf.regs f hp hw).rd i).trans (State.frozenRegs_rd (s.advance t) i _ _ _ _ _ _ hne)
    refine ⟨_, rfl, ?_, ?_, ?_, ?_, ?_, hf.held, ?_, ?_, hf.raised, hf.planes.onlyPlanes⟩
    · refine (hrd (.hbm .rgnStatState) rfl (by decide) (by decide)).trans ?_
      simp (disch := decide) only [State.rd_wr_ne_fld, State.rd_wr_of_lt]
    · refine (hrd (.hbm .rgnStatCause) rfl (by decide) (by decide)).trans ?_
      simp (disch := decide) only [State.rd_wr_ne_fld]
      exact State.rd_wr_of_lt _ _ _ (by split <;> decide)
    · refine (hrd (.hbm .rgnCtrlFreeze) rfl (by decide) (by decide)).trans ?_
      simp (disch := decide) only [State.captureFreeze, State.rd_wr_ne_fld, State.freeBits_rd, State.rd_wr_of_lt]
    · refine (hrd (.hbm .rgnStatTries) rfl (by decide) (by decide)).trans ?_
      exact State.rd_wr_of_lt ..
    · refine (hrd (.hbm .rgnStatSnap) rfl (by decide) (by decide)).trans ?_
      simp (disch := decide) only [State.captureFreeze, State.rd_wr_ne_fld, State.rd_wr_of_lt]
    · refine (hrd (.hbm .frzAddrAddr) rfl (by decide) (by decide)).trans ?_
      simp (disch := decide) only [State.captureFreeze, State.rd_wr_ne_fld]
      exact State.rd_wr_of_lt _ _ _ (Nat.mod_lt _ (by decide))
    · refine (hrd (.hbm .frzInfoPort) rfl (by decide) (by decide)).trans ?_
      simp (disch := decide) only [State.captureFreeze, State.rd_wr_ne_fld]
      exact State.rd_wr_of_lt _ _ _ (Nat.lt_of_lt_of_le hport (by decide))
  · obtain ⟨g, hnext⟩ := State.freezeSnapshotDone_kept (t := t) h1 hd ha
    exact ⟨_, hnext, State.rd_wr_of_lt .., WritesOnly.onlyRegs (.wr .refl (by simp)), rfl, rfl, rfl⟩
  · have ht := State.startRecovery_eq (s := s.advance t) h1 hs
    refine ⟨_, rfl, (ht.rd (.hbm .rgnStatState) i).trans ?_, (ht.rd (.hbm .rgnCtrlRecover) i).trans ?_, fun j hj =>
      (ht.rd (.hbm .pcStatePwr) _).trans (State.rd_setPcs _ _ hj), KeepsNext.sameMemory (KeepsNext.execRecover .refl) rfl⟩
    · exact ((State.setPcs_leaves i 2 (by decide)).rd i).trans (State.rd_wr_of_lt ..)
    · refine ((State.setPcs_leaves i 2 (by decide)).rd i).trans ?_
      simp (disch := decide) only [State.rd_wr_ne_fld, State.rd_wr_of_lt]

end Sys2Proof.Machine
end

section
/-! Reads of the stack by the host, and what the freshness engine does at a tile, a deadline and the end of a fetch. -/

namespace Sys2Proof.Machine

set_option Elab.async false

namespace State

variable {s : State}

/-- A read that the memory system has served, before its check (R267, R273, R277). -/
def readServed (s : State) (t a len lat : Nat) : State := (((s.advance t).complete .ok []).request a len).served (regionAt a) 4 lat

theorem hostHbmRead_ok {t off len a lat : Nat} {p : Partition} (hd : s.host.d3hot = false) (ha : s.bar2Addr off = some a)
    (hlen : a + len ≤ hbmEnd) (hx : ¬ (a < 2 ^ 33 ∧ 2 ^ 33 < a + len)) (hp : s.partOf a = some p) (hr : s.regionStopped (regionAt a) = false)
    (hb : s.badBurst a len = none) :
    exec (.hostHbmRead t off len ⟨none, lat⟩) s = .next ((s.readServed t a len lat).complete .ok (cellLoad s.hbm a len)) := by
  change execHostHbmRead t off len ⟨none, lat⟩ s = _
  unfold execHostHbmRead
  extract_lets s1
  have ha' : s1.bar2Addr off = some a := ha
  have hp' : (s1.complete .ok []).partOf a = some p := hp
  have hr' : (s1.complete .ok []).regionStopped (regionAt a) = false := hr
  have hb' : (s1.complete .ok []).badBurst a len = none := hb
  rw [if_neg (show ¬ s1.host.d3hot = true by simp [s1, hd])]
  simp only [ha']
  rw [if_neg (Nat.not_lt.2 hlen), if_neg (show ¬ (decide (a < 2 ^ 33) && decide (2 ^ 33 < a + len)) = true by simpa using hx)]
  simp only [List.foldl_cons, List.foldl_nil, hp', hr', hb']
  rfl

theorem hostHbmRead_poisoned {t off len a lat o : Nat} {p : Partition} (hd : s.host.d3hot = false) (ha : s.bar2Addr off = some a)
    (hlen : a + len ≤ hbmEnd) (hx : ¬ (a < 2 ^ 33 ∧ 2 ^ 33 < a + len)) (hp : s.partOf a = some p) (hr : s.regionStopped (regionAt a) = false)
    (ho : o < len) :
    ∃ path, exec (.hostHbmRead t off len ⟨some o, lat⟩) s
      = .next (((((s.readServed t a len lat).detectionError (a + o) 4 path).report2641 (a + o) 4).bump (.pci .errPoisoned) 0).complete .poisoned
          (cellLoad s.hbm a len)) := by
  change ∃ path, execHostHbmRead t off len ⟨some o, lat⟩ s = _
  unfold execHostHbmRead
  extract_lets s1
  have ha' : s1.bar2Addr off = some a := ha
  have hp' : (s1.complete .ok []).partOf a = some p := hp
  have hr' : (s1.complete .ok []).regionStopped (regionAt a) = false := hr
  rw [if_neg (show ¬ s1.host.d3hot = true by simp [s1, hd])]
  simp only [ha']
  rw [if_neg (Nat.not_lt.2 hlen), if_neg (show ¬ (decide (a < 2 ^ 33) && decide (2 ^ 33 < a + len)) = true by simpa using hx)]
  have hin : (decide (a ≤ a + o) && decide (a + o < a + len)) = true := by simp [ho]
  simp only [List.foldl_cons, List.foldl_nil, hp', hr', Option.bind_some, hin, if_true]
  exact ⟨_, rfl⟩

theorem mem_requestRegs_pwr {p port : Nat} (hp : p < 16) : (.hbm .pcStatePwr, p) ∈ requestRegs port := by
  simp [requestRegs, hp]

theorem mem_requestRegs_set {p port : Nat} (hp : p < 16) : (.hbm .pcStateSet, p) ∈ requestRegs port := by
  simp [requestRegs, hp]

theorem mem_requestRegs_cur {ch port : Nat} (h : ch < 8) : (.hbm .fcCur, ch) ∈ requestRegs port := by
  simp [requestRegs, h]

theorem mem_requestRegs_count {ch port : Nat} (h : ch < 8) : (.hbm .fcCount, ch) ∈ requestRegs port := by
  simp [requestRegs, h]

theorem wakePc_requestRegs {p port : Nat} (hp : p < 16) : WritesOnly (inListOrEvent (requestRegs port)) s (s.wakePc p) := by
  unfold wakePc
  extract_lets s1 ch s2 s3
  have hpwr : ∀ {n}, n < 16 → inListOrEvent (requestRegs port) (.hbm .pcStatePwr) n := fun h => .inl (mem_requestRegs_pwr h)
  have hset : ∀ {n}, n < 16 → inListOrEvent (requestRegs port) (.hbm .pcStateSet) n := fun h => .inl (mem_requestRegs_set h)
  have h0 : 2 * ch < 16 := by simp only [ch]; omega
  have h1 : 2 * ch + 1 < 16 := by simp only [ch]; omega
  have h2 : ch < 8 := by simp only [ch]; omega
  have hs2 : WritesOnly (inListOrEvent (requestRegs port)) s s2 := .wr (.wr .refl (hpwr h0)) (hpwr h1)
  refine .ite (.wr .refl (hpwr hp)) (.ite ?_ .refl)
  split
  · exact hs2
  · extract_lets s4 us
    have hs4 : WritesOnly (inListOrEvent (requestRegs port)) s s4 :=
      .bump (.wr (.wr (.wr hs2 (.inl (mem_requestRegs_cur h2))) (hset h0)) (hset h1)) (.inl (mem_requestRegs_count h2))
    exact .report (hs4.same fun _ _ => rfl) inListOrEvent_event

theorem readServed_requestRegs (s : State) (t a len lat : Nat) :
    WritesOnly (inListOrEvent (requestRegs (8 * (regionAt a).val + 4))) s (s.readServed t a len lat) := by
  have hmax : (.hbm .qosStatMaxlat, 8 * (regionAt a).val + 4) ∈ requestRegs (8 * (regionAt a).val + 4) := by simp [requestRegs]
  have hmiss : (.hbm .qosStatMiss, 8 * (regionAt a).val + 4) ∈ requestRegs (8 * (regionAt a).val + 4) := by simp [requestRegs]
  have hreq : WritesOnly (inListOrEvent (requestRegs (8 * (regionAt a).val + 4))) s (((s.advance t).complete .ok []).request a len) :=
    .ite .refl (.foldl .refl fun _ _ hp hx => hx.trans (wakePc_requestRegs (pcsOf_lt hp)))
  exact .ite (.bump (.wr hreq (.inl hmax)) (.inl hmiss)) (.wr hreq (.inl hmax))

theorem readServed_touches (s : State) (t a len lat : Nat) : Touches Touches.Parts.request s (s.readServed t a len lat) :=
  Touches.served (Touches.request (Touches.complete (Touches.advance .refl)))

theorem parts_congr {t : State} (h : t.mem.regions = s.mem.regions) (r : Fin 2) : t.mem.regions[r].parts = s.mem.regions[r].parts := by
  rw [h]

theorem wakePc_parts (s : State) (p : Nat) (r : Fin 2) : (s.wakePc p).mem.regions[r].parts = s.mem.regions[r].parts := by
  unfold wakePc
  extract_lets s1 ch s2 s3
  split
  · rfl
  split
  · split
    · rfl
    · extract_lets s4 us
      have hmem : s4.mem.regions = s.mem.regions := by simp only [s4, s3, s2, s1, bump, bumpBy, wr_mem, modMem_mem]
      exact parts_congr ((congrArg MemSys.regions (report_mem us.2 _ _ _ _)).trans hmem) r
  · rfl

theorem readServed_pcOf (s : State) (t a len lat x : Nat) : (s.readServed t a len lat).pcOf x = s.pcOf x := by
  have hreq : ∀ r : Fin 2, (((s.advance t).complete .ok []).request a len).mem.regions[r].parts = s.mem.regions[r].parts := fun r => by
    unfold request
    split
    · rfl
    · exact foldl_keeps (P := fun y : State => y.mem.regions[r].parts = s.mem.regions[r].parts) (fun y p hy => (wakePc_parts y p r).trans hy) rfl
  have hmem : ∀ y : State, ∀ r q lat, (y.served r q lat).mem = y.mem := fun y r q lat =>
    (Touches.served .refl : Touches Touches.Parts.served y _) .mem (by decide)
  have hpart : (s.readServed t a len lat).partOf x = s.partOf x := by
    unfold partOf readServed
    rw [hmem, hreq]
  unfold pcOf
  rw [hpart]

/-! ### A detection error -/

theorem recoveryFailed_touches (r : Fin 2) : Touches Touches.Parts.recoveryFailed s (s.recoveryFailed r) := .recoveryFailed .refl

/-- A freeze of a region that is frozen or in FALLBACK, or one that ends its recovery. -/
theorem freeze_stopped {r : Fin 2} {cause pc a kind port path : Nat} (h : s.regionStopped r = true) :
    s.freeze r cause pc a kind port path = s.wr (.hbm .rgnCtrlFreeze) r 0
      ∨ s.freeze r cause pc a kind port path
        = (((s.wr (.hbm .rgnCtrlFreeze) r 0).captureFreeze r pc a kind port path).wr (.hbm .rgnStatCause) r cause).recoveryFailed r := by
  unfold freeze
  extract_lets st s1 s2
  have hst : (st == 1 || st == 2 || st == 4) = true := h
  cases h2 : st == 2 with
  | true =>
    rw [beq_iff_eq] at h2
    exact .inr (by simp [h2, s2, s1])
  | false => exact .inl (if_pos (by simpa [h2] using hst))

theorem freeze_planes (s : State) (r : Fin 2) (cause pc a kind port path : Nat) : PlanesOnly allClusters s (s.freeze r cause pc a kind port path) := by
  cases h : s.regionStopped r with
  | false => exact (freeze_frozen h).planes
  | true =>
    have hwr : PlanesOnly allClusters s (s.wr (.hbm .rgnCtrlFreeze) r 0) := PlanesOnly.refl.touches (Touches.wr .refl : Touches [.reg .hbm] s _)
    rcases freeze_stopped (cause := cause) (pc := pc) (a := a) (kind := kind) (port := port) (path := path) h with e | e
    · exact e ▸ hwr
    · rw [e]
      exact (hwr.touches (Touches.wr (Touches.captureFreeze .refl) : Touches [.reg .hbm] _ _)).touches (recoveryFailed_touches r)

/-- A freeze counts nothing. -/
theorem freeze_deterr (s : State) (r : Fin 2) (cause pc a kind port path : Nat) :
    Leaves (.hbm .pcCntDeterr) s (s.freeze r cause pc a kind port path) := by
  have hcap : ∀ x : State, Leaves (.hbm .pcCntDeterr) x ((x.captureFreeze r pc a kind port path).wr (.hbm .rgnStatCause) r cause) := fun x =>
    .wr (.wr (.wr (.wr (.wr (.wr (.wr (.wr (.wr (.wr (t := (x.freeBits 8).2.freeBits 8 |>.2) ⟨fun _ => rfl⟩)))))))))
  cases h : s.regionStopped r with
  | false =>
    exact .trans (.trans (.wr .refl) (.trans (hcap _) (.trans (.wr (.wr .refl)) (setPcs_leaves r 3 (by decide)))))
      ((freeze_frozen h).regs (.hbm .pcCntDeterr) rfl (by decide))
  | true =>
    rcases freeze_stopped (cause := cause) (pc := pc) (a := a) (kind := kind) (port := port) (path := path) h with e | e
    · rw [e]
      exact .wr .refl
    · rw [e]
      unfold recoveryFailed
      extract_lets n s1
      have hs1 : Leaves (.hbm .pcCntDeterr) s s1 :=
        .trans (.wr .refl) (.trans (hcap _) (.trans (.wr .refl) (setPcs_leaves r 3 (by decide))))
      exact .ite (.report (.wr hs1)) (.wr hs1)

/-- A detection error counts on its pseudo-channel, once (R268, R269). -/
theorem detectionError_counts (s : State) (a port path : Nat) : Bumped s (s.detectionError a port path) (.hbm .pcCntDeterr) (s.pcOf a) := by
  have hcount : Bumped s (s.countDetErr (s.pcOf a)) (.hbm .pcCntDeterr) (s.pcOf a) := by
    unfold countDetErr
    extract_lets r s1 l n s2
    have h1 : Bumped s s1 (.hbm .pcCntDeterr) (s.pcOf a) := rd_bump_same ..
    split
    · have hs2 : Leaves (.hbm .pcCntDeterr) s1 s2 := ⟨fun _ => rfl⟩
      exact ((Leaves.report (hs2.wr (g := .st .pc .degr))).rd _).trans h1
    · exact h1
  have hkeep : Leaves (.hbm .pcCntDeterr) (s.countDetErr (s.pcOf a)) (s.detectionError a port path) := by
    unfold detectionError
    extract_lets r pc kind s1
    exact .ite (freeze_deterr ..) (.ite (freeze_deterr ..) .refl)
  exact (hkeep.rd _).trans hcount

theorem detectionError_planes (s : State) (a port path : Nat) : PlanesOnly allClusters s (s.detectionError a port path) := by
  unfold detectionError
  extract_lets r pc kind s1
  have hs1 : PlanesOnly allClusters s s1 := PlanesOnly.refl.touches (Touches.countDetErr .refl : Touches Touches.Parts.countDetErr s s1)
  exact .ite (hs1.trans (freeze_planes ..)) (.ite (hs1.trans (freeze_planes ..)) hs1)

theorem report2641_touches (a port : Nat) : Touches Touches.Parts.report2641 s (s.report2641 a port) := .report2641 .refl

end State

/-- Settles O18: the bytes are taken before the check; a detection error counts, and its freeze changes no byte outside the bit planes. -/
theorem hostHbmRead : Obligations.HostHbmRead := by
  unfold Obligations.HostHbmRead
  refine ⟨fun t off len a lat p s hd ha hlen hx hp hr hb => ?_, fun t off len a lat o p s hd ha hlen hx hp hr ho => ?_⟩
  · have ht := State.readServed_touches s t a len lat
    have hregs := State.readServed_requestRegs s t a len lat
    have hnext := State.hostHbmRead_ok (t := t) (lat := lat) hd ha hlen hx hp hr hb
    generalize s.readServed t a len lat = x at ht hregs hnext
    exact ⟨_, hnext, rfl, ⟨ht .hbm (by decide), ht .plate (by decide), ht .raw (by decide)⟩, hregs.onlyRegsAndEvents⟩
  · obtain ⟨path, hnext⟩ := State.hostHbmRead_poisoned (t := t) (lat := lat) hd ha hlen hx hp hr ho
    have h1 : PlanesOnly allClusters s (s.readServed t a len lat) := PlanesOnly.refl.touches (State.readServed_touches s t a len lat)
    have hpc := State.readServed_pcOf s t a len lat (a + o)
    have hcnt : (s.readServed t a len lat).rd (.hbm .pcCntDeterr) (s.pcOf (a + o)) = s.rd (.hbm .pcCntDeterr) (s.pcOf (a + o)) :=
      State.readServed_requestRegs s t a len lat _ _ (by simp [inListOrEvent, requestRegs, eventFld])
    generalize s.readServed t a len lat = x at h1 hnext hpc hcnt
    have h2 := State.detectionError_planes x (a + o) 4 path
    have h3 := State.detectionError_counts x (a + o) 4 path
    rw [hpc, Bumped, hcnt] at h3
    generalize x.detectionError (a + o) 4 path = y at hnext h2 h3
    have h4 := State.report2641_touches (s := y) (a + o) 4
    refine ⟨_, hnext, rfl, ?_, (((h1.trans h2).touches h4).touches (Touches.complete (Touches.bump .refl) : Touches [.reg .pci] _ _)).onlyPlanes⟩
    exact (State.rd_bump_ne_fld _ (by decide)).trans ((h4.rd (.hbm .pcCntDeterr) _).trans h3)

namespace State

variable {s : State}

/-! ### Tiles, deadlines and the end of a fetch -/

/-- An event raised where its unit's count stands as it did. -/
theorem report_raised_of {t : State} {u : UType} {i code : Nat} {items : List (Nat × Nat)} (hd : t.dev = s.dev)
    (hc : t.rd (.st u .errcnt) i = s.rd (.st u .errcnt) i) (h : code < 0x8000 := by decide) : Raised s (t.report u i code items) u i code := by
  intro hoff
  have hoff' : t.fusedOff u i = false := by
    unfold fusedOff clusterOn at hoff ⊢
    rw [hd]
    exact hoff
  obtain ⟨hclass, hcount⟩ := report_raised t u i code items h hoff'
  exact ⟨hclass, hcount.trans (by rw [hc])⟩

/-- What a parity error leaves of a tile (R262). -/
def badTile (x : Tile) : Tile := { x with bad := true, mark := true, reaff := none, persist := 0 }

/-- A tile with a parity error, marked with cause ENGINE in the frame on display (R262). -/
def markBadTile (s : State) (c : Fin 4) (tile : Nat) (x : Tile) : State :=
  let n := s.lastFrame c
  let s := s.modPic c fun p => { p with tiles := p.tiles.set tile (badTile x) }
  let s := if x.mark then s else s.wr (.frs .markedCount) c (s.rd (.frs .markedCount) c + 1)
  let s := s.wr (.frs .markedCauses) c (s.rd (.frs .markedCauses) c ||| 128)
  s.modFrame c n fun f => { f with marked := if f.marked.contains tile then f.marked else f.marked ++ [tile] }

theorem tileTableParityError_eq {t tile : Nat} {c : Fin 4} {x : Tile} (hx : s.pic[c].tiles[tile]? = some x) :
    exec (.tileTableParityError t c tile) s
      = .next ((if ((s.advance t).markBadTile c tile x).composing c
          then ((s.advance t).markBadTile c tile x).recompose c (((s.advance t).markBadTile c tile x).prevCrcs c)
          else (s.advance t).markBadTile c tile x).report .frsEng 0 0x26C9 [(1, c.val), (4, tile)]) := by
  change execTileTableParityError t c tile s = _
  unfold execTileTableParityError
  extract_lets s1 n
  have hx' : s1.pic[c].tiles[tile]? = some x := hx
  rw [hx']
  rfl

theorem markBadTile_touches (c : Fin 4) (tile : Nat) (x : Tile) : Touches [.pic, .reg .frs] s (s.markBadTile c tile x) := by
  unfold markBadTile
  extract_lets n s1 s2 s3
  have hs1 : Touches [.pic, .reg .frs] s s1 := .modPic .refl
  have hs2 : Touches [.pic, .reg .frs] s s2 := .ite hs1 (.wr hs1)
  exact .modFrame (.wr hs2)

theorem find?_map_isSome {α : Type} {p : α → Bool} {g : α → α} (h : ∀ x, p (g x) = p x) (l : List α) :
    ((l.map g).find? p).isSome = (l.find? p).isSome := by
  rw [List.find?_map, Option.isSome_map]
  exact congrArg (fun q => (l.find? q).isSome) (funext h)

theorem modPic_pic_self (s : State) (c : Fin 4) (g : Picture → Picture) : (s.modPic c g).pic[c] = g s.pic[c] := by
  simp

theorem modLayer_layer_self (s : State) (c : Fin 4) (l : Fin 8) (g : LayerSt → LayerSt) :
    (s.modLayer c l g).pic[c].layers[l] = g s.pic[c].layers[l] := by
  simp [modLayer]

/-- What a marked tile leaves of its picture. -/
theorem markBadTile_pic (c : Fin 4) (tile : Nat) (x : Tile) :
    (s.markBadTile c tile x).pic[c]
      = { s.pic[c] with
          tiles := s.pic[c].tiles.set tile (badTile x)
          frames := s.pic[c].frames.map fun f => if f.num == s.lastFrame c then
            { f with marked := if f.marked.contains tile then f.marked else f.marked ++ [tile] } else f } := by
  unfold markBadTile
  extract_lets n s1 s2 s3
  have h3 : s3.pic = s1.pic := by
    simp only [s3, wr_pic, s2]
    split
    · rfl
    · exact wr_pic ..
  rw [modFrame, modPic_pic_self, h3, modPic_pic_self]

/-- The marks of a frame do not bear on whether it composes. -/
theorem markBadTile_composing (c : Fin 4) (tile : Nat) (x : Tile) : (s.markBadTile c tile x).composing c = s.composing c := by
  have hn : (s.markBadTile c tile x).lastFrame c = s.lastFrame c := (markBadTile_touches (s := s) c tile x).rd (.chr .frameFrame) c
  unfold composing frameRec
  rw [hn, markBadTile_pic, find?_map_isSome]
  intro f
  split <;> rfl

theorem markBadTile_causes (c : Fin 4) (tile : Nat) (x : Tile) : bit ((s.markBadTile c tile x).rd (.frs .markedCauses) c) 7 = true := by
  unfold markBadTile
  extract_lets n s1 s2 s3
  have h : (s3.modFrame c n fun f => { f with marked := if f.marked.contains tile then f.marked else f.marked ++ [tile] }).rd (.frs .markedCauses) c
      = (s2.rd (.frs .markedCauses) c ||| 128) % 2 ^ (Fld.frs .markedCauses).info.width := rd_wr_same ..
  rw [h, bit_eq_testBit, Nat.testBit_mod_two_pow, Nat.testBit_or]
  simp only [Bool.and_eq_true, decide_eq_true_eq, Bool.or_eq_true]
  exact ⟨by decide, .inr (by decide)⟩

theorem markBadTile_writes (c : Fin 4) (tile : Nat) (x : Tile) :
    WritesOnly (inListOrEvent [(.frs .markedCount, c.val), (.frs .markedCauses, c.val)]) s (s.markBadTile c tile x) := by
  unfold markBadTile
  extract_lets n s1 s2 s3
  have hs1 : WritesOnly (inListOrEvent [(.frs .markedCount, c.val), (.frs .markedCauses, c.val)]) s s1 := fun _ _ _ => rfl
  have hs2 : WritesOnly (inListOrEvent [(.frs .markedCount, c.val), (.frs .markedCauses, c.val)]) s s2 := .ite hs1 (.wr hs1 (.inl (by simp)))
  have hs3 : WritesOnly (inListOrEvent [(.frs .markedCount, c.val), (.frs .markedCauses, c.val)]) s s3 := .wr hs2 (.inl (by simp))
  exact hs3.same fun _ _ => rfl

theorem markBadTile_dev (c : Fin 4) (tile : Nat) (x : Tile) : (s.markBadTile c tile x).dev = s.dev := by
  unfold markBadTile
  extract_lets n s1 s2 s3
  have h2 : s2.dev = s.dev := by
    simp only [s2]
    split
    · rfl
    · exact wr_dev ..
  exact h2

theorem freshnessDeadlineWake_eq {t d : Nat} {c : Fin 4} {h : HeldState} (hh : s.chr[c].held = some h) (hd : h.deadline = some d) (hw : h.wake = none)
    (hle : d ≤ max s.now t + 480000) :
    exec (.freshnessDeadlineWake t c) s
      = .next (((s.advance t).modChr c fun k => { k with held := some { h with wake := some (4, max s.now t) } }).wr (.chr .heldWake) c 4) := by
  change execFreshnessDeadlineWake t c s = _
  unfold execFreshnessDeadlineWake
  extract_lets s1
  have hh' : s1.chr[c].held = some h := hh
  have hle' : d ≤ s1.now + 480000 := hle
  simp only [hh', Option.bind_some, hd, hle', if_true, wakeHeld, hw, Option.isSome_none]
  rfl

theorem layerFetchDone_eq {t : Nat} {c : Fin 4} {l : Fin 8} (h : s.pic[c].layers[l].window = true) :
    exec (.layerFetchDone t c l) s = .next ((s.advance t).modLayer c l fun y =>
      { y with window := false, lock := none, lease := y.lease.map fun e => { e with lastRead := s.lastFrame c } }) := by
  change execLayerFetchDone t c l s = _
  unfold execLayerFetchDone
  extract_lets s1 n
  have h' : s1.pic[c].layers[l].window = true := h
  rw [if_neg (by simp [h', -Fin.getElem_fin])]
  rfl

end State

/-- Settles O30: the marked tile stands before the frame is formed anew, which changes no byte outside the planes of its cluster. -/
theorem freshnessEvents : Obligations.FreshnessEvents := by
  unfold Obligations.FreshnessEvents
  refine ⟨fun t tile c x s hx => ?_, fun t tile c x s hx hc => ?_, fun t d c h s hh hd hw hle => ?_, fun t c l s h => ?_⟩
  · have hnext := State.tileTableParityError_eq (t := t) hx
    have hmark : Touches [.pic, .reg .frs] s ((s.advance t).markBadTile c tile x) :=
      (Touches.advance .refl : Touches [.pic, .reg .frs] s _).trans (State.markBadTile_touches _ _ _)
    have hkeep : ((s.advance t).markBadTile c tile x).dev = s.dev := State.markBadTile_dev ..
    generalize (s.advance t).markBadTile c tile x = y at hnext hmark hkeep
    have hy : Reforms [c] s y := Reforms.refl.touches hmark
    have hz : Reforms [c] s (if y.composing c then y.recompose c (y.prevCrcs c) else y) := .ite (hy.recompose List.mem_cons_self) hy
    have hdev : (if y.composing c then y.recompose c (y.prevCrcs c) else y).dev = s.dev := by
      have := (Keeps.recompose (c := c) (prevCrcs := y.prevCrcs c) (.refl (s := y))).dev
      split
      · exact this.trans hkeep
      · exact hkeep
    refine ⟨_, hnext, State.report_raised_of hdev (hz.status .frsEng .errcnt 0 (by decide)), ?_⟩
    exact (hz.planes.touches (Touches.report .refl : Touches Touches.Parts.report _ _)).onlyPlanes
  · have hnext := State.tileTableParityError_eq (t := t) hx
    rw [State.markBadTile_composing, show (s.advance t).composing c = false from hc] at hnext
    have hwrites := State.markBadTile_writes (s := s.advance t) c tile x
    have hcauses := State.markBadTile_causes (s := s.advance t) c tile x
    have htiles : ((s.advance t).markBadTile c tile x).pic[c].tiles = s.pic[c].tiles.set tile (State.badTile x) := by
      rw [State.markBadTile_pic]
      rfl
    have hmark := State.markBadTile_touches (s := s.advance t) c tile x
    generalize (s.advance t).markBadTile c tile x = y at hnext hwrites hcauses htiles hmark
    have hrep : Touches Touches.Parts.report y (y.report .frsEng 0 0x26C9 [(1, c.val), (4, tile)]) := .report .refl
    have hlen : tile < s.pic[c].tiles.length := (List.getElem?_eq_some_iff.1 hx).1
    refine ⟨_, hnext, ?_, ?_, (WritesOnly.report hwrites inListOrEvent_event).onlyRegsAndEvents, ?_⟩
    · change (y.report .frsEng 0 0x26C9 [(1, c.val), (4, tile)]).pic[c].tiles[tile]? = some (State.badTile x)
      rw [State.report_pic, htiles, List.getElem?_set_self hlen]
    · exact (congrArg (bit · 7) (hrep.rd (.frs .markedCauses) c)).trans hcauses
    · exact ⟨(hrep .hbm (by decide)).trans (hmark .hbm (by decide)), (hrep .plate (by decide)).trans (hmark .plate (by decide)),
        (hrep .raw (by decide)).trans (hmark .raw (by decide))⟩
  · refine ⟨_, State.freshnessDeadlineWake_eq hh hd hw hle, ?_, State.rd_wr_of_lt .., WritesOnly.onlyRegs (.wr .refl (by simp)), rfl, rfl, rfl⟩
    rw [State.wr_chr, State.modChr_chr]
    simp
  · refine ⟨_, State.layerFetchDone_eq h, ?_, ?_, fun _ _ _ => rfl, rfl, rfl, rfl⟩
    · rw [State.modLayer_layer_self]
    · rw [State.modLayer_layer_self]

end Sys2Proof.Machine
end

section
/-! Reaffirmations (R243 to R245), and the stores and checkpoints of the Almanac (R316 to R324). -/

namespace Sys2Proof.Machine

set_option Elab.async false

namespace State

variable {s : State}

theorem reaffirmLayer_refused {t : Nat} {c : Fin 4} {l : Fin 8} (h : s.mayReaffirm c l false = false) :
    exec (.reaffirmLayer t c l) s = .next ((s.advance t).refuseReaffirm c l 1) := by
  change execReaffirmLayer t c l s = _
  unfold execReaffirmLayer
  extract_lets s1
  have h' : s1.mayReaffirm c l false = false := h
  rw [if_pos (by simp [h'])]

theorem reaffirmLayer_waits {t : Nat} {c : Fin 4} {l : Fin 8} (h : s.mayReaffirm c l false = true) (hb : s.on (.frs .reaffirmStatBusy) c = false)
    (hh : s.inHeld c = false) :
    exec (.reaffirmLayer t c l) s = .next ((s.advance t).modLayer c l fun y =>
      { y with pendReaff := y.pendReaff ++ [⟨(s.advance t).reaffirmTime c, max s.now t⟩] }) := by
  change execReaffirmLayer t c l s = _
  unfold execReaffirmLayer
  extract_lets s1 time
  have h' : s1.mayReaffirm c l false = true := h
  have hb' : s1.on (.frs .reaffirmStatBusy) c = false := hb
  have hh' : s1.inHeld c = false := hh
  rw [if_neg (by simp [h']), if_neg (by simp [hb']), if_neg (by simp [hh'])]
  rfl

theorem reaffirmTileList_queued {t count : Nat} {c : Fin 4} {l : Fin 8} (h : s.mayReaffirm c l true = true) (h0 : 0 < count) (hmax : count ≤ 4096)
    (hb : s.on (.frs .reaffirmStatBusy) c = false) (hq : s.on (.frs .reaffirmStatQueued) c = false) :
    exec (.reaffirmTileList t c l count) s
      = .next (((s.advance t).modPic c fun p => { p with
          lists := p.lists ++ [⟨l.val, (s.advance t).reaffirmTime c, count, 4 * s.rd (.frs .reaffirmAddrAddr) c, none, max s.now t⟩] }).wr
          (.frs .reaffirmStatBusy) c 1) := by
  change execReaffirmTileList t c l count s = _
  unfold execReaffirmTileList
  extract_lets s1 x
  have h' : s1.mayReaffirm c l true = true := h
  have hb' : s1.on (.frs .reaffirmStatBusy) c = false := hb
  have hq' : s1.on (.frs .reaffirmStatQueued) c = false := hq
  rw [if_neg (by simp [h']), if_neg (by simp; omega), if_neg (by simp [hb']), if_neg (by simp [hq'])]
  rfl

/-- The tile numbers of a reaffirm list as they stand in HBM (R244). -/
def listedTiles (s : State) (x : TileList) : List Nat := (List.range x.count).map fun i => cellWord s.hbm (x.addr + 4 * i) 4

/-- A reaffirm list that has been read (R244). -/
def keepList (s : State) (t : Nat) (c : Fin 4) (x : TileList) : State :=
  ((s.advance t).wr (.frs .reaffirmStatBusy) c 0).modPic c fun p =>
    { p with lists := (s.pic[c].lists.filter fun y => y.tiles.isSome) ++ [{ x with tiles := some (s.listedTiles x), readAt := max s.now t }] }

theorem keepList_rd (s : State) (t : Nat) (c : Fin 4) (x : TileList) (f : Fld) (i : Nat) :
    (s.keepList t c x).rd f i = ((s.advance t).wr (.frs .reaffirmStatBusy) c 0).rd f i := rfl

theorem reaffirmListReadDone_kept {t : Nat} {c : Fin 4} {x : TileList} (hx : (s.pic[c].lists.find? fun y => y.tiles.isNone) = some x)
    (hr : s.regionStopped (regionAt x.addr).val = false) (hb : s.badBurst x.addr (4 * x.count) = none)
    (ht : ∀ i, i < x.count → cellWord s.hbm (x.addr + 4 * i) 4 < s.pic[c].tiles.length) :
    exec (.reaffirmListReadDone t c false) s
      = .next (if (s.keepList t c x).inHeld c then (s.keepList t c x).wr (.frs .reaffirmStatQueued) c 1 else s.keepList t c x) := by
  change execReaffirmListReadDone t c false s = _
  unfold execReaffirmListReadDone
  extract_lets s1 s2 rest gone
  have hx' : (s2.pic[c].lists.find? fun y => y.tiles.isNone) = some x := hx
  split
  next h => exact absurd (hx'.symm.trans h) (by simp)
  next y h =>
    obtain rfl := Option.some.inj (hx'.symm.trans h)
    extract_lets old tiles s3
    have hr' : s2.regionStopped (regionAt x.addr).val = false := by
      unfold regionStopped at hr ⊢
      rw [rd_wr_ne_fld _ (by decide)]
      exact hr
    have hold : old = none := hb
    have htiles : (tiles.any fun i => s2.pic[c].tiles.length ≤ i) = false := by
      simp only [List.any_eq_false, decide_eq_true_eq, Nat.not_le, tiles, List.mem_map, List.mem_range]
      rintro _ ⟨i, hi, rfl⟩
      exact ht i hi
    rw [if_neg (by simp [hr']), hold]
    simp only [htiles]
    rfl

end State

/-- Settles O29. -/
theorem reaffirmations : Obligations.Reaffirmations := by
  unfold Obligations.Reaffirmations
  refine ⟨fun t c l s h => ?_, fun t c l s h hb hh => ?_, fun t count c l s h h0 hmax hb hq => ?_, fun t c x s hx hr hb ht => ?_⟩
  · refine ⟨_, State.reaffirmLayer_refused h, ?_, State.report_raised_of rfl (State.rd_wr_ne_fld _ (by decide)), ?_, State.report_pic ..,
      State.report_hbm .., State.report_plate .., State.report_raw ..⟩
    · rw [State.refuseReaffirm, State.report_onlyEvents _ _ _ _ _ _ _ List.not_mem_nil rfl]
      exact State.rd_wr_of_lt ..
    · exact WritesOnly.onlyRegsAndEvents (.report (.wr .refl (.inl (by simp))) inListOrEvent_event)
  · refine ⟨_, State.reaffirmLayer_waits h hb hh, ?_, fun _ _ _ => rfl, rfl, rfl, rfl⟩
    rw [State.modLayer_layer_self]
    rfl
  · refine ⟨_, State.reaffirmTileList_queued h h0 hmax hb hq, State.rd_wr_of_lt .., ?_, WritesOnly.onlyRegs (.wr .refl (by simp)), rfl, rfl, rfl⟩
    rw [State.wr_pic, State.modPic_pic_self]
    rfl
  · refine ⟨_, State.reaffirmListReadDone_kept hx hr hb ht, ?_, ?_, ?_, ?_⟩
    · split
      · simp (disch := decide) only [State.rd_wr_ne_fld, State.keepList_rd, State.rd_wr_of_lt]
      · simp (disch := decide) only [State.keepList_rd, State.rd_wr_of_lt]
    · have hpic : (if (s.keepList t c x).inHeld c then (s.keepList t c x).wr (.frs .reaffirmStatQueued) c 1 else s.keepList t c x).pic
          = (s.keepList t c x).pic := by
        split
        · exact State.wr_pic ..
        · rfl
      rw [hpic, State.keepList, State.modPic_pic_self]
      exact List.mem_append_right _ (List.mem_singleton.2 rfl)
    · have hk : WritesOnly (inList [(.frs .reaffirmStatBusy, c.val), (.frs .reaffirmStatQueued, c.val)]) s (s.keepList t c x) :=
        WritesOnly.same (t := (s.advance t).wr (.frs .reaffirmStatBusy) c 0) (.wr .refl (by simp)) (State.keepList_rd s t c x)
      exact WritesOnly.onlyRegs (.ite (.wr hk (by simp)) hk)
    · split
      · exact ⟨rfl, rfl, rfl⟩
      · exact ⟨rfl, rfl, rfl⟩

/-! ### Stores and checkpoints -/

namespace State

variable {s : State}

theorem objectStore_written {t oid : Nat} {x : AlmStore} (hx : s.alm.stores.find? (fun x => x.oid == oid) = some x)
    (hd : oid ≤ 0x1B → s.duty 6 = true) (hs : s.log.saving = none) :
    exec (.objectStore t oid) s = .next (((s.advance t).almWrite oid x.payload).countStored oid) := by
  change execObjectStore t oid s = _
  unfold execObjectStore
  extract_lets s1
  have hx' : s1.alm.stores.find? (fun x => x.oid == oid) = some x := hx
  have hs' : s1.log.saving = none := hs
  have hd' : oid ≤ 0x1B → s1.duty 6 = true := hd
  simp only [hx']
  refine if_neg ?_
  simp only [hs', Option.isSome_none, Bool.or_false, Bool.and_eq_true, decide_eq_true_eq, Bool.not_eq_true', not_and, Bool.not_eq_false]
  exact hd'

theorem objectStore_saving {t oid : Nat} (hs : s.log.saving.isSome = true) : exec (.objectStore t oid) s = .next (s.advance t) := by
  change execObjectStore t oid s = _
  unfold execObjectStore
  extract_lets s1
  have hs' : s1.log.saving.isSome = true := hs
  split
  · rfl
  · exact if_pos (by simp [hs'])

theorem checkpointNow_saving {t : Nat} (hs : s.log.saving.isSome = true) :
    exec (.checkpointNow t) s = .next ((s.advance t).wr (.alm .ckptBusy) 0 1) :=
  congrArg Host.Outcome.next (if_pos hs)

theorem checkpoint_written (hs : s.log.saving = none) :
    ∃ p, s.checkpoint = ((s.almWrite 0x0301 p).wr (.alm .ckptTimeTime) 0 (s.almWrite 0x0301 p).wall).wr (.alm .ckptBusy) 0 0 := by
  refine ⟨s.shadowPayload 1, ?_⟩
  rw [checkpoint, if_neg (by simp [hs])]
  rfl

theorem checkpoint_off {t : Nat} (h : s.rd (.alm .ckptMin) 0 = 0) : exec (.checkpoint t) s = .next (s.advance t) := by
  change execCheckpoint t s = _
  unfold execCheckpoint
  simp [h]

theorem checkpoint_due {t : Nat} (h : s.rd (.alm .ckptMin) 0 ≠ 0) (hd : s.domOn 1 = true) :
    exec (.checkpoint t) s = .next (s.advance t).checkpoint := by
  change execCheckpoint t s = _
  have hd' : (s.advance t).domOn 1 = true := hd
  simp [execCheckpoint, h, hd']

/-- The registers that a store of an object changes. -/
theorem almWrite_writes (s : State) (oid : Nat) (p : List Nat) :
    WritesOnly (inList [(.alm .cntObjwr, 0), (.alm .busQueued, 0)]) s (s.almWrite oid p) :=
  .wr (.bump (s := s) (t := s.modAlm _) (fun _ _ _ => rfl) (by simp)) (by simp)

theorem almWrite_counts (s : State) (oid : Nat) (p : List Nat) : Bumped s (s.almWrite oid p) (.alm .cntObjwr) 0 :=
  (rd_wr_ne_fld _ (by decide)).trans (rd_bump_same ..)

theorem almWrite_memory (s : State) (oid : Nat) (p : List Nat) : SameMemory s (s.almWrite oid p) := ⟨rfl, rfl, rfl⟩

/-- The store of the power-cycle counter changes no more than its copy and the start-up step (R319, R366). -/
theorem countStored_writes (s : State) (oid : Nat) :
    WritesOnly (inList (if oid = 0x300 then [(.alm .pcyclesCount, 0), (.pwr .stateStep, 0)] else [])) s (s.countStored oid) := by
  by_cases ho : oid = 0x300
  · rw [if_pos ho]
    exact .ite .refl (.wr (.wr .refl (by simp)) (by simp))
  · rw [if_neg ho, countStored, if_pos (by simp [ho])]
    exact .refl

theorem countStored_alm (s : State) (oid : Nat) : (s.countStored oid).alm = s.alm := by
  unfold countStored
  split <;> rfl

theorem countStored_memory (s : State) (oid : Nat) : SameMemory s (s.countStored oid) := by
  unfold countStored
  split <;> exact ⟨rfl, rfl, rfl⟩

theorem countStored_step (h : s.rd (.pwr .stateStep) 0 = 2) : (s.countStored 0x300).rd (.pwr .stateStep) 0 = 3 := by
  rw [countStored, if_neg (by simp [h])]
  exact rd_wr_of_lt ..

end State

theorem SameMemory.trans {s t u : State} (h : SameMemory s t) (k : SameMemory t u) : SameMemory s u :=
  ⟨k.1.trans h.1, k.2.1.trans h.2.1, k.2.2.trans h.2.2⟩

/-- Settles O45. -/
theorem almanacCommands : Obligations.AlmanacCommands := by
  unfold Obligations.AlmanacCommands
  refine ⟨fun t oid x s hx hd hs => ?_, fun t oid s hs => ?_, fun t s hs => ?_, fun t s hs => ?_, fun t s h hd hs => ?_, fun t s h => ?_⟩
  · refine ⟨_, State.objectStore_written hx hd hs, ?_, ?_, ?_, ?_, ?_, SameMemory.trans (State.almWrite_memory (s.advance t) oid x.payload) (State.countStored_memory ..)⟩
    · rw [State.countStored_alm]
      intro y hy
      have := (List.mem_filter.1 hy).2
      simpa using this
    · refine (State.countStored_writes _ oid _ _ ?_).trans (State.almWrite_counts (s.advance t) oid x.payload)
      split <;> simp
    · rw [State.almVal, State.countStored_alm]
      exact congrArg _ (List.find?_cons_of_pos (by simp))
    · rintro rfl h2
      refine State.countStored_step ?_
      exact (State.almWrite_writes (s.advance t) 0x300 x.payload _ _ (by simp)).trans h2
    · exact WritesOnly.onlyRegs (.trans (.mono (State.almWrite_writes (s.advance t) oid x.payload) fun f i h => List.mem_append_left _ h)
        (.mono (State.countStored_writes _ oid) fun f i h => List.mem_append_right _ h))
  · exact ⟨_, State.objectStore_saving hs, rfl, fun _ _ _ => rfl, rfl, rfl, rfl⟩
  · exact ⟨_, State.checkpointNow_saving hs, State.rd_wr_of_lt .., WritesOnly.onlyRegs (.wr .refl (by simp)), rfl, rfl, rfl⟩
  · obtain ⟨p, hp⟩ := State.checkpoint_written (s := s.advance t) hs
    refine ⟨_, congrArg Host.Outcome.next hp, State.rd_wr_of_lt .., ?_, ?_, rfl, rfl, rfl⟩
    · exact (State.rd_wr_ne_fld _ (by decide)).trans ((State.rd_wr_ne_fld _ (by decide)).trans (State.almWrite_counts (s.advance t) 0x301 p))
    · refine WritesOnly.onlyRegs (.wr (.wr (.mono (State.almWrite_writes (s.advance t) 0x301 p) fun f i h => ?_) (by simp)) (by simp))
      simp only [inList, List.mem_cons, List.not_mem_nil, or_false] at h ⊢
      exact .inr (h.imp id .inl)
  · obtain ⟨p, hp⟩ := State.checkpoint_written (s := s.advance t) hs
    refine ⟨_, (State.checkpoint_due h hd).trans (congrArg Host.Outcome.next hp), ?_, rfl, rfl, rfl⟩
    exact (State.rd_wr_ne_fld _ (by decide)).trans ((State.rd_wr_ne_fld _ (by decide)).trans (State.almWrite_counts (s.advance t) 0x301 p))
  · exact ⟨_, State.checkpoint_off h, fun _ _ _ => rfl, rfl, rfl, rfl, rfl⟩

end Sys2Proof.Machine
end

section
/-! The ends of a recovery of a region (R290, R291). -/

namespace Sys2Proof.Machine

set_option Elab.async false

namespace State

variable {s : State}

/-- A recovery that failed: what it shows of the condition that ended it. -/
def failedRegs (s : State) (r : Fin 2) (cause pc a kind port path : Nat) : State :=
  ((s.captureFreeze r pc a kind port path).wr (.hbm .rgnStatCause) r cause).wr (.hbm .rgnStatTries) r (s.rd (.hbm .rgnStatTries) r + 1)

theorem captureFreeze_tries (s : State) (r : Fin 2) (pc a kind port path : Nat) :
    Leaves (.hbm .rgnStatTries) s (s.captureFreeze r pc a kind port path) :=
  .wr (.wr (.wr (.wr (.wr (.wr (.wr (.wr (.wr (t := (s.freeBits 8).2.freeBits 8 |>.2) ⟨fun _ => rfl⟩))))))))

theorem recoveryDone_failed {t addr port path : Nat} {i : Fin 2} {cause pc : Fin 8} (h : s.rd (.hbm .rgnStatState) i = 2) :
    exec (.recoveryDone t i (.failed cause pc addr port path)) s
      = .next ((((s.advance t).captureFreeze i (8 * i.val + pc.val) (addr % hbmEnd) ((s.advance t).kindAt (addr % hbmEnd)) port path).wr
          (.hbm .rgnStatCause) i cause.val).recoveryFailed i) := by
  change execRecoveryDone t i (.failed cause pc addr port path) s = _
  unfold execRecoveryDone
  extract_lets s1
  have h' : s1.rd (.hbm .rgnStatState) i = 2 := h
  rw [if_neg (by simp [h'])]

theorem failed_tries (s : State) (r : Fin 2) (cause pc a kind port path : Nat) :
    ((s.captureFreeze r pc a kind port path).wr (.hbm .rgnStatCause) r cause).rd (.hbm .rgnStatTries) r = s.rd (.hbm .rgnStatTries) r :=
  (rd_wr_ne_fld _ (by decide)).trans ((captureFreeze_tries ..).rd r)

/-- A failed recovery with tries left: the region is frozen again. -/
theorem recoveryFailed_again {r : Fin 2} {cause pc a kind port path : Nat} (h : s.rd (.hbm .rgnStatTries) r < 2) :
    ((s.captureFreeze r pc a kind port path).wr (.hbm .rgnStatCause) r cause).recoveryFailed r
      = ((s.failedRegs r cause pc a kind port path).setPcs r 3).wr (.hbm .rgnStatState) r 1 := by
  unfold recoveryFailed
  extract_lets n s1
  have hn : n = s.rd (.hbm .rgnStatTries) r + 1 := congrArg (· + 1) (failed_tries ..)
  rw [if_neg (by omega)]
  simp only [s1, hn]
  rfl

/-- The third recovery that fails leaves the region in FALLBACK. -/
theorem recoveryFailed_third {r : Fin 2} {cause pc a kind port path : Nat} (h : s.rd (.hbm .rgnStatTries) r = 2) :
    ((s.captureFreeze r pc a kind port path).wr (.hbm .rgnStatCause) r cause).recoveryFailed r
      = (((s.failedRegs r cause pc a kind port path).setPcs r 3).wr (.hbm .rgnStatState) r 4).report .hbm r 0x2603 [(1, 1)] := by
  unfold recoveryFailed
  extract_lets n s1
  have hn : n = s.rd (.hbm .rgnStatTries) r + 1 := congrArg (· + 1) (failed_tries ..)
  rw [if_pos (by omega)]
  simp only [s1, hn]
  rfl

theorem failedRegs_touches (r : Fin 2) (cause pc a kind port path : Nat) :
    Touches [.reg .hbm] s ((s.failedRegs r cause pc a kind port path).setPcs r 3) :=
  Touches.setPcs (.wr (.wr (Touches.captureFreeze .refl)))

theorem failedRegs_cause (s : State) (r : Fin 2) (cause pc a kind port path : Nat) (h : cause < 8) :
    ((s.failedRegs r cause pc a kind port path).setPcs r 3).rd (.hbm .rgnStatCause) r = cause := by
  rw [(setPcs_leaves r 3 (by decide)).rd, failedRegs, rd_wr_ne_fld _ (by decide)]
  exact rd_wr_of_lt _ _ _ (Nat.lt_of_lt_of_le h (by decide))

theorem failedRegs_tries (s : State) (r : Fin 2) (cause pc a kind port path : Nat) (h : s.rd (.hbm .rgnStatTries) r < 2) :
    ((s.failedRegs r cause pc a kind port path).setPcs r 3).rd (.hbm .rgnStatTries) r = s.rd (.hbm .rgnStatTries) r + 1 := by
  rw [(setPcs_leaves r 3 (by decide)).rd, failedRegs]
  exact rd_wr_of_lt _ _ _ (Nat.lt_of_le_of_lt h (by decide))

theorem failedRegs_addr (s : State) (r : Fin 2) (cause pc a kind port path : Nat) (h : a < hbmEnd) :
    ((s.failedRegs r cause pc a kind port path).setPcs r 3).rd (.hbm .frzAddrAddr) r = a := by
  rw [(setPcs_leaves r 3 (by decide)).rd]
  simp (disch := decide) only [failedRegs, captureFreeze, rd_wr_ne_fld]
  exact rd_wr_of_lt _ _ _ (Nat.lt_of_lt_of_le h (by decide))

/-! ### A recovery that trains -/

theorem setBits_zero : setBits 8 0 = [] := by decide

theorem setBits_pow (k : Fin 8) : setBits 8 (2 ^ k.val) = [k.val] := by
  revert k
  decide

/-- The end of a recovery whose pseudo-channels have all trained, with the taps they were left at (R290). -/
def recovered (s : State) (r : Fin 2) (taps : List (Nat × Nat × Nat)) : State :=
  let s := ((s.wr (.hbm .profileFailed) r 0).keepTaps r taps).regionReady r
  s.wr (.pwr .pllLock) 0 (putBit (s.rd (.pwr .pllLock) 0) (1 + r.val) true)

theorem recoveryDone_trained {t ms : Nat} {i : Fin 2} {taps : List (Nat × Nat × Nat)} {meshBad : Bool} (h : s.rd (.hbm .rgnStatState) i = 2) :
    ∃ items, exec (.recoveryDone t i (.trained 0 ms taps meshBad)) s = .next (((s.advance t).recovered i taps).report .hbm i 0x1602 items) := by
  change ∃ items, execRecoveryDone t i (.trained 0 ms taps meshBad) s = _
  unfold execRecoveryDone
  extract_lets s1
  have h' : s1.rd (.hbm .rgnStatState) i = 2 := h
  rw [if_neg (by simp [h'])]
  simp only [regionTrained, setBits_zero, List.foldl_nil, if_true]
  exact ⟨_, rfl⟩

theorem recovered_touches (r : Fin 2) (taps : List (Nat × Nat × Nat)) :
    Touches [.reg .alm, .alm, .reg .trn, .mem, .reg .hbm, .reg .pwr] s (s.recovered r taps) :=
  .wr (Touches.regionReady (Touches.keepTaps (.wr .refl)))

/-- One pseudo-channel that fails, as the report of its bursts leaves it (R291). -/
def pcFailed (s : State) (r : Fin 2) (k : Nat) : State :=
  ((s.wr (.hbm .profileFailed) r (2 ^ k)).wr (.hbm .pcStateFailed) (8 * r.val + k) 1).noTapEvent 0 ((8 * r.val + k) * 256)

theorem pcFailed_touches (r : Fin 2) (k : Nat) :
    Touches [.reg .hbm, .reg .log, .reg .chr, .status, .chr, .log, .pwr, .stopped] s (s.pcFailed r k) := Touches.noTapEvent (.wr (.wr .refl))

theorem pcFailed_status (r : Fin 2) (k : Nat) (x : StF) (i : Nat) : (s.pcFailed r k).rd (.st .hbm x) i = s.rd (.st .hbm x) i := by
  unfold pcFailed noTapEvent
  extract_lets b w
  refine (reportSub_other w.2 .trn .hbm 0 i _ _ _ x (.inl fun e => absurd e.1 (by decide))).trans ?_
  change ((s.wr (.hbm .profileFailed) r (2 ^ k)).wr (.hbm .pcStateFailed) (8 * r.val + k) 1).rd (.st .hbm x) i = _
  rw [rd_wr_ne_fld _ (by simp), rd_wr_ne_fld _ (by simp)]

theorem regionTrained_noProfile {r : Fin 2} {k : Fin 8} {meshBad : Bool} (hp : ∀ x ∈ (s.mem.regions[r]).profiles, x.failed ≠ k.val) :
    s.regionTrained r (2 ^ k.val) meshBad = (false, ((s.pcFailed r k.val).wr (.hbm .rgnStatState) r 4).report .hbm r 0x2603 [(1, 2)]) := by
  have hmem : (s.pcFailed r k.val).mem = s.mem := (pcFailed_touches r k.val) .mem (by decide)
  have hnone : ((s.pcFailed r k.val).mem.regions[r].profiles.zipIdx).find? (fun x => x.1.failed == k.val) = none := by
    rw [hmem, List.find?_eq_none]
    intro x hx
    simpa using hp x.1 (List.fst_mem_of_mem_zipIdx hx)
  unfold regionTrained
  simp only [setBits_pow, List.foldl_cons, List.foldl_nil]
  change (match ((s.pcFailed r k.val).mem.regions[r].profiles.zipIdx).find? (fun x => x.1.failed == k.val) with
    | some x => _
    | none => _) = _
  rw [hnone]
  rfl

theorem recoveryDone_noProfile {t ms : Nat} {i : Fin 2} {k : Fin 8} {taps : List (Nat × Nat × Nat)} {meshBad : Bool}
    (h : s.rd (.hbm .rgnStatState) i = 2) (hp : ∀ x ∈ (s.mem.regions[i]).profiles, x.failed ≠ k.val) :
    exec (.recoveryDone t i (.trained (2 ^ k.val) ms taps meshBad)) s
      = .next ((((s.advance t).pcFailed i k.val).wr (.hbm .rgnStatState) i 4).report .hbm i 0x2603 [(1, 2)] |>.keepTaps i taps) := by
  change execRecoveryDone t i (.trained (2 ^ k.val) ms taps meshBad) s = _
  unfold execRecoveryDone
  extract_lets s1
  have h' : s1.rd (.hbm .rgnStatState) i = 2 := h
  have hp' : ∀ x ∈ (s1.mem.regions[i]).profiles, x.failed ≠ k.val := hp
  rw [if_neg (by simp [h'])]
  simp only [regionTrained_noProfile hp']
  rfl

theorem regionClusters_congr {t : State} (hd : t.dev = s.dev) (hc : t.cfg = s.cfg) (he : ∀ c, t.rd (.chr .ctrlEn) c = s.rd (.chr .ctrlEn) c)
    (r : Fin 2) : t.regionClusters r = s.regionClusters r := by
  unfold regionClusters enabledClusters clusterOn on
  rw [hd, hc]
  simp only [he]

/-- What makes a region ready again, before its state (R290). -/
def releasedPcs (s : State) (r : Fin 2) : State :=
  (List.range 8).foldl (fun s i => s.wr (.hbm .pcStateSet) (8 * r.val + i) 0)
    ((List.range 4).foldl (fun s i => s.wr (.hbm .fcCur) (4 * r.val + i) 0) ((s.setPcs r 0).modRegion r fun g => { g with freezeAt := none }))

theorem releasedPcs_keeps (r : Fin 2) : Keeps false s (s.releasedPcs r) :=
  .foldl (.foldl (.modRegion (.setPcs .refl)) fun _ _ h => .wr h) fun _ _ h => .wr h

theorem releasedPcs_touches (r : Fin 2) : Touches [.reg .hbm, .mem] s (s.releasedPcs r) :=
  .foldl (.foldl (Touches.modRegion (Touches.setPcs .refl)) fun _ _ h => .wr h) fun _ _ h => .wr h

theorem releasedPcs_pwr (s : State) (r : Fin 2) {j : Nat} (hj : j < 8) : (s.releasedPcs r).rd (.hbm .pcStatePwr) (8 * r.val + j) = 0 := by
  have h : Leaves (.hbm .pcStatePwr) ((s.setPcs r 0).modRegion r fun g => { g with freezeAt := none }) (s.releasedPcs r) :=
    .foldl (.foldl .refl fun _ _ h => .wr h) fun _ _ h => .wr h
  exact (h.rd _).trans ((modRegion_rd ..).trans (rd_setPcs s r hj))

theorem regionReady_regs (s : State) (r : Fin 2) (f : Fld) (i : Nat) :
    (s.regionReady r).rd f i = ((s.releasedPcs r).wr (.hbm .rgnStatState) r (if s.regionClusters r = [] then 0 else 3)).rd f i := by
  have hc : (s.releasedPcs r).regionClusters r = s.regionClusters r :=
    regionClusters_congr (releasedPcs_keeps r).dev (releasedPcs_touches r .cfg (by decide)) (fun c => (releasedPcs_touches r).rd (.chr .ctrlEn) c) r
  unfold regionReady
  extract_lets s1 s2 s3 cs
  have h3 : s3 = s.releasedPcs r := rfl
  have hcs : cs = s.regionClusters r := hc
  clear_value s3 cs
  rw [← h3]
  subst hcs
  cases s.regionClusters r with
  | nil => rfl
  | cons c l =>
    rw [if_neg (List.cons_ne_nil c l), if_neg (by simp)]
    rfl

theorem recovered_clusters (s : State) (r : Fin 2) (taps : List (Nat × Nat × Nat)) :
    ((s.wr (.hbm .profileFailed) r 0).keepTaps r taps).regionClusters r = s.regionClusters r := by
  have hk : Keeps false s ((s.wr (.hbm .profileFailed) r 0).keepTaps r taps) := .keepTaps (.wr .refl)
  have ht : Touches [.reg .alm, .alm, .reg .trn, .reg .hbm] s ((s.wr (.hbm .profileFailed) r 0).keepTaps r taps) := Touches.keepTaps (.wr .refl)
  exact regionClusters_congr hk.dev (ht .cfg (by decide)) (fun c => ht.rd (.chr .ctrlEn) c) r

theorem recovered_state (s : State) (r : Fin 2) (taps : List (Nat × Nat × Nat)) :
    (s.recovered r taps).rd (.hbm .rgnStatState) r = if s.regionClusters r = [] then 0 else 3 := by
  unfold recovered
  extract_lets s1
  rw [rd_wr_ne_fld _ (by decide), regionReady_regs, recovered_clusters]
  exact rd_wr_of_lt _ _ _ (by split <;> decide)

theorem recovered_pwr (s : State) (r : Fin 2) (taps : List (Nat × Nat × Nat)) {j : Nat} (hj : j < 8) :
    (s.recovered r taps).rd (.hbm .pcStatePwr) (8 * r.val + j) = 0 := by
  unfold recovered
  extract_lets s1
  rw [rd_wr_ne_fld _ (by decide), regionReady_regs, rd_wr_ne_fld _ (by decide), releasedPcs_pwr _ r hj]

theorem recovered_dev (s : State) (r : Fin 2) (taps : List (Nat × Nat × Nat)) : (s.recovered r taps).dev = s.dev := by
  have h : Keeps false s (s.recovered r taps) := .wr (.regionReady (.keepTaps (.wr .refl)))
  exact h.dev

theorem recovered_memory (s : State) (r : Fin 2) (taps : List (Nat × Nat × Nat)) : SameMemory s (s.recovered r taps) := by
  have h : Keeps false s (s.recovered r taps) := .wr (.regionReady (.keepTaps (.wr .refl)))
  exact h.sameMemory

theorem report_memory (s : State) (u : UType) (i code : Nat) (items : List (Nat × Nat)) : SameMemory s (s.report u i code items) :=
  ⟨report_hbm .., report_plate .., report_raw ..⟩

end State

/-- Settles O23. -/
theorem recoveryEnds : Obligations.RecoveryEnds := by
  unfold Obligations.RecoveryEnds
  refine ⟨fun t ms i taps meshBad s h => ?_, fun t ms i k taps meshBad s h hp => ?_, fun t addr port path i cause pc s h h2 => ?_,
    fun t addr port path i cause pc s h h2 => ?_⟩
  · obtain ⟨items, hnext⟩ := State.recoveryDone_trained (t := t) (ms := ms) (taps := taps) (meshBad := meshBad) h
    have hrep : Touches Touches.Parts.report _ (((s.advance t).recovered i taps).report .hbm i 0x1602 items) := .report .refl
    refine ⟨_, hnext, (hrep.rd (.hbm .rgnStatState) i).trans (State.recovered_state ..), fun j hj =>
      (hrep.rd (.hbm .pcStatePwr) _).trans (State.recovered_pwr (s.advance t) i taps hj), ?_,
      SameMemory.trans (State.recovered_memory (s.advance t) i taps) (State.report_memory ..)⟩
    exact State.report_raised_of (State.recovered_dev (s.advance t) i taps) ((State.recovered_touches (s := s.advance t) i taps).rd (.st .hbm .errcnt) i)
  · have hnext := State.recoveryDone_noProfile (t := t) (ms := ms) (taps := taps) (meshBad := meshBad) h hp
    have hpc := State.pcFailed_status (s := s.advance t) i k.val .errcnt i
    have hkp : Keeps false s ((s.advance t).pcFailed i k.val) := .noTapEvent (.wr (.wr (.advance .refl)))
    generalize (s.advance t).pcFailed i k.val = x at hnext hpc hkp
    have htaps : ∀ y : State, Touches Touches.Parts.keepTaps y (y.keepTaps i taps) := fun y => .keepTaps .refl
    refine ⟨_, hnext, ((htaps _).rd (.hbm .rgnStatState) i).trans ?_, ?_, ?_⟩
    · rw [State.report_onlyEvents _ _ _ _ _ _ _ List.not_mem_nil rfl]
      exact State.rd_wr_of_lt ..
    · intro hoff
      have hraised := State.report_raised_of (items := [(1, 2)]) (t := x.wr (.hbm .rgnStatState) i 4) (u := .hbm) (i := i.val) (code := 0x2603) hkp.dev
        ((State.rd_wr_ne_fld _ (by decide)).trans hpc) (by decide) hoff
      exact ⟨((htaps _).rd (.st .hbm .lastclass) i).trans hraised.1, ((htaps _).rd (.st .hbm .errcnt) i).trans hraised.2⟩
    · exact (Keeps.keepTaps (.report (.wr hkp)) : Keeps false s _).sameMemory
  · have hnext := State.recoveryDone_failed (t := t) (addr := addr) (port := port) (path := path) (cause := cause) (pc := pc) h
    rw [State.recoveryFailed_again (s := s.advance t) h2] at hnext
    refine ⟨_, hnext, State.rd_wr_of_lt .., ?_, ?_, ?_, (Keeps.wr (.setPcs (.wr (.wr (.captureFreeze (.advance .refl))))) : Keeps false s _).sameMemory⟩
    · exact (State.rd_wr_ne_fld _ (by decide)).trans (State.failedRegs_cause _ _ _ _ _ _ _ _ cause.isLt)
    · exact (State.rd_wr_ne_fld _ (by decide)).trans (State.failedRegs_addr _ _ _ _ _ _ _ _ (Nat.mod_lt _ (by decide)))
    · exact (State.rd_wr_ne_fld _ (by decide)).trans (State.failedRegs_tries (s.advance t) _ _ _ _ _ _ _ h2)
  · have hnext := State.recoveryDone_failed (t := t) (addr := addr) (port := port) (path := path) (cause := cause) (pc := pc) h
    rw [State.recoveryFailed_third (s := s.advance t) h2] at hnext
    have hf := State.failedRegs_touches (s := s.advance t) i cause.val (8 * i.val + pc.val) (addr % hbmEnd) ((s.advance t).kindAt (addr % hbmEnd)) port path
    refine ⟨_, hnext, ?_, ?_, ?_, ?_, (Keeps.report (.wr (.setPcs (.wr (.wr (.captureFreeze (.advance .refl)))))) : Keeps false s _).sameMemory⟩
    · rw [State.report_onlyEvents _ _ _ _ _ _ _ List.not_mem_nil rfl]
      exact State.rd_wr_of_lt ..
    · rw [State.report_onlyEvents _ _ _ _ _ _ _ List.not_mem_nil rfl, State.rd_wr_ne_fld _ (by decide)]
      exact State.failedRegs_cause _ _ _ _ _ _ _ _ cause.isLt
    · rw [State.report_onlyEvents _ _ _ _ _ _ _ List.not_mem_nil rfl, State.rd_wr_ne_fld _ (by decide)]
      exact State.failedRegs_addr _ _ _ _ _ _ _ _ (Nat.mod_lt _ (by decide))
    · refine State.report_raised_of ?_ ((State.rd_wr_ne_fld _ (by decide)).trans (hf.rd (.st .hbm .errcnt) i))
      exact (Keeps.wr (.setPcs (.wr (.wr (.captureFreeze (.advance .refl))))) : Keeps false s _).dev

end Sys2Proof.Machine
end

section
/-! Colour sensors and cooling outputs (R230 to R233). -/

namespace Sys2Proof.Machine

set_option Elab.async false

namespace State

variable {s : State}

/-- A list in which one element alone satisfies a test. -/
theorem filter_prims_single {q : Fin 3 → Bool} {p : Fin 3} (hp : q p = true) (ho : ∀ x, x ≠ p → q x = false) : allPrims.filter q = [p] := by
  have h : allPrims.filter q = allPrims.filter (· == p) := List.filter_congr fun x _ => by
    by_cases hx : x = p
    · rw [hx, hp]
      simp
    · rw [ho x hx]
      simp [hx]
  rw [h]
  clear h ho hp
  revert p
  decide

/-- The port takes a transaction: what its due time and its light fraction become (R230). -/
def takeTxn (p : Fin 3) (h : Helio) : Helio :=
  { h with csBusy := h.csBusy ++ [p.val], csDue := h.csDue.set p none, csTxnFrac := h.csTxnFrac.set p h.csFrac[p] }

theorem startTxn_of_idle {c : Fin 4} {p : Fin 3} (hb : s.hel[c].csBusy = []) : s.startTxn c p = (s.modHel c (takeTxn p)).sendSpi c p := by
  unfold startTxn
  extract_lets s1 idle s2
  have h1 : s1 = s := if_neg (by simp [hb, -Fin.getElem_fin])
  have hidle : idle = true := by simp [idle, h1, hb, -Fin.getElem_fin]
  rw [if_pos hidle]
  simp only [s2, h1]
  rfl

theorem colourSensorTxn_eq {t : Nat} {c : Fin 4} {p : Fin 3} (hr : s.unitRun .cs c = true) (hb : s.hel[c].csBusy = [])
    (hd : s.hel[c].csDue[p] = some (max s.now t)) (ho : ∀ q : Fin 3, q ≠ p → s.hel[c].csDue[q] ≠ some (max s.now t)) :
    exec (.colourSensorTxn t c p) s = .next (((s.advance t).modHel c (takeTxn p)).sendSpi c p) := by
  change execColourSensorTxn t c p s = _
  unfold execColourSensorTxn
  extract_lets s1
  have hr' : s1.unitRun .cs c = true := hr
  have hd' : s1.hel[c].csDue[p] = some s1.now := hd
  have ho' : ∀ q : Fin 3, q ≠ p → (s1.hel[c].csDue[q] == some s1.now) = false := fun q hq => beq_false_of_ne (ho q hq)
  have hb' : s1.hel[c].csBusy = [] := hb
  rw [if_neg (by simp [hr', hd', -Fin.getElem_fin]), filter_prims_single (p := p) (by simp [hd', -Fin.getElem_fin]) ho']
  rw [List.foldl_cons, List.foldl_nil, startTxn_of_idle hb']

theorem modHel_hel_self (s : State) (c : Fin 4) (g : Helio → Helio) : (s.modHel c g).hel[c] = g s.hel[c] := by
  simp

theorem sendSpi_hel (s : State) (c : Fin 4) (p : Fin 3) : ∃ n, (s.sendSpi c p).hel[c] = { s.hel[c] with csReadyAt := n } := by
  unfold sendSpi
  extract_lets i div n s1
  rw [emit_hel]
  exact ⟨_, modHel_hel_self ..⟩

theorem sendSpi_out (s : State) (c : Fin 4) (p : Fin 3) : ∃ mode div bs n, (s.sendSpi c p).out = s.out ++ [.spi c mode div bs n] :=
  ⟨_, _, _, _, rfl⟩

/-- The result of a transaction, high byte first, from its offset (R231). -/
def resultWord (s : State) (c : Fin 4) (p : Fin 3) (data : List Byte) : Nat :=
  256 * (data.map BitVec.toNat).getD (s.rd (.hel .csTxnRdofs) (c.val * 3 + p.val)) 0
    + (data.map BitVec.toNat).getD (s.rd (.hel .csTxnRdofs) (c.val * 3 + p.val) + 1) 0

theorem colourResultReady_eq {t : Nat} {c : Fin 4} {p : Fin 3} {data : List Byte} (hb : s.hel[c].csBusy.head? = some p.val)
    (hr : s.hel[c].csReadyAt ≤ max s.now t) :
    ∃ x : State, x = ((s.advance t).endSpi c p).wr (.hel .csResWord) (c.val * 3 + p.val) (s.resultWord c p data)
      ∧ ((∃ m, exec (.colourResultReady t c p data) s = .next (x.csValid c p m))
        ∨ exec (.colourResultReady t c p data) s = .next (x.csInvalid c p 2)) := by
  refine ⟨_, rfl, ?_⟩
  change (∃ m, execColourResultReady t c p data s = _) ∨ execColourResultReady t c p data s = _
  unfold execColourResultReady
  extract_lets s1 i o b word s2 f lit
  have hb' : s1.hel[c].csBusy.head? = some p.val := hb
  have hr' : ¬ s1.now < s1.hel[c].csReadyAt := Nat.not_lt.2 hr
  rw [if_neg (by simp [hb', hr', -Fin.getElem_fin])]
  split
  · exact .inl ⟨_, rfl⟩
  · exact .inr rfl

theorem csValid_word (c : Fin 4) (p : Fin 3) (m : Nat) : Leaves (.hel .csResWord) s (s.csValid c p m) := by
  unfold csValid
  extract_lets s1 s2 s3
  have h1 : Leaves (.hel .csResWord) s s1 := .wr (.wr (t := s.modHel c _) ⟨fun _ => rfl⟩)
  have h2 : Leaves (.hel .csResWord) s s2 := ⟨h1.rd⟩
  exact .ite h2 (.report (.wr ⟨h2.rd⟩))

theorem csInvalid_word (c : Fin 4) (p : Fin 3) (n : Nat) : Leaves (.hel .csResWord) s (s.csInvalid c p n) := by
  unfold csInvalid
  extract_lets n s1 s2 mask
  have h1 : Leaves (.hel .csResWord) s s1 := .wr (.wr (t := s.modHel c _) ⟨fun _ => rfl⟩)
  exact .ite h1 (.wr (.report ⟨h1.rd⟩))

theorem resultWord_eq (s : State) (c : Fin 4) (p : Fin 3) (data : List Byte) :
    s.resultWord c p data = 256 * (data.getD (s.rd (.hel .csTxnRdofs) (c.val * 3 + p.val)) 0).toNat
      + (data.getD (s.rd (.hel .csTxnRdofs) (c.val * 3 + p.val) + 1) 0).toNat := by
  have h : ∀ k, (data.map BitVec.toNat).getD k 0 = (data.getD k 0).toNat := fun _ => List.getD_map data (0 : Byte) BitVec.toNat
  rw [resultWord, h, h]

/-- What a PWM period leaves of its output (R233): full duty where nothing drives it, else the latest duty. -/
def pwmStep (s : State) (c : Fin 4) (i : Fin 2) (full : Bool) : State :=
  ((s.modHel c fun h => { h with pwmAt := h.pwmAt.set i (some s.now) }).wr (.hel .pwmDuty) (c.val * 2 + i.val)
    (if full then 0xFFFF else s.hel[c].pwmNext[i])).wrb (.hel .pwmFull) (c.val * 2 + i.val) full

/-- A PWM period that starts: the step, and the report of a change. -/
structure PwmStepped (s : State) (c : Fin 4) (i : Fin 2) (full : Bool) (r : State) : Prop where
  regs : ∀ f j, eventFld f = false → r.rd f j = (s.pwmStep c i full).rd f j
  memory : SameMemory s r

/-- An output is at full duty without a slot that drives it and is not halted (R233). -/
def pwmFullNow (s : State) (c : Fin 4) (i : Fin 2) : Bool :=
  !s.domOn (9 + c.val) || s.halted .pwm (c.val * 2 + i.val)
    || match allSlots.find? fun n => s.unitEn .slot (slotInst c n) && (s.slotDests (slotInst c n)).contains (2, i.val) with
      | none => true
      | some n => s.halted .slot (slotInst c n) || s.hel[c].slots[n].stopped

theorem pwmFullNow_of_none {c : Fin 4} {i : Fin 2}
    (h : ∀ n : Fin 16, s.unitEn .slot (slotInst c n) = true → (2, i.val) ∉ s.slotDests (slotInst c n)) : s.pwmFullNow c i = true := by
  have hnone : (allSlots.find? fun n => s.unitEn .slot (slotInst c n) && (s.slotDests (slotInst c n)).contains (2, i.val)) = none := by
    rw [List.find?_eq_none]
    intro n _
    simpa using h n
  rw [pwmFullNow, hnone]
  exact Bool.or_true _

theorem pwmFullNow_of_driven {c : Fin 4} {i : Fin 2} {n : Fin 16} (hd : s.domOn (9 + c.val) = true) (hh : s.halted .pwm (c.val * 2 + i.val) = false)
    (hn : (allSlots.find? fun n => s.unitEn .slot (slotInst c n) && (s.slotDests (slotInst c n)).contains (2, i.val)) = some n)
    (hs : s.halted .slot (slotInst c n) = false) (hst : s.hel[c].slots[n].stopped = false) : s.pwmFullNow c i = false := by
  rw [pwmFullNow, hn, hd, hh]
  simp only [hs, hst]
  rfl

theorem pwmStep_duty (s : State) (c : Fin 4) (i : Fin 2) (full : Bool) :
    (s.pwmStep c i full).rd (.hel .pwmDuty) (c.val * 2 + i.val) = (if full then 0xFFFF else s.hel[c].pwmNext[i]) % 2 ^ 16 :=
  (rd_wrb_ne_fld _ (by decide)).trans (rd_wr_same ..)

theorem pwmStep_full (s : State) (c : Fin 4) (i : Fin 2) (full : Bool) :
    (s.pwmStep c i full).rd (.hel .pwmFull) (c.val * 2 + i.val) = b2n full := rd_wrb_same ..

theorem pwmStep_writes (s : State) (c : Fin 4) (i : Fin 2) (full : Bool) :
    WritesOnly (inListOrEvent [(.hel .pwmDuty, c.val * 2 + i.val), (.hel .pwmFull, c.val * 2 + i.val)]) s (s.pwmStep c i full) :=
  .wrb (.wr (t := s.modHel c _) (fun _ _ _ => rfl) (.inl (by simp))) (.inl (by simp))

theorem pwmPeriod_stepped {t : Nat} {c : Fin 4} {i : Fin 2}
    (hp : ∀ p, s.hel[c].pwmAt[i] = some p → p + pwmPeriod (clampN 10 50 (s.rd (.hel .pwmCfgFreq) c)) ≤ max s.now t) :
    ∃ r, exec (.pwmPeriod t c i) s = .next r ∧ PwmStepped (s.advance t) c i ((s.advance t).pwmFullNow c i) r := by
  change ∃ r, execPwmPeriod t c i s = .next r ∧ _
  unfold execPwmPeriod
  extract_lets s1 j freq s2 drv full duty was s3 f s4
  have hdue : ∀ p, s1.hel[c].pwmAt[i] = some p → ¬ s1.now < p + pwmPeriod freq := fun p h => Nat.not_lt.2 (hp p h)
  have hduty : duty = if full then 0xFFFF else s1.hel[c].pwmNext[i] := by
    simp only [duty, s2, modHel_hel_self]
  have hfull : full = s1.pwmFullNow c i := by
    simp only [full, drv, s2, modHel_hel_self]
    rfl
  have h3 : s3 = s1.pwmStep c i full := by
    simp only [s3, hduty]
    rfl
  have h4 : PwmStepped s1 c i full s4 := by
    simp only [s4, f]
    rw [h3]
    split
    · exact ⟨fun _ _ _ => rfl, rfl, rfl, rfl⟩
    · exact ⟨fun g k he => report_onlyEvents _ _ _ _ _ g k List.not_mem_nil he, report_hbm .., report_plate .., report_raw ..⟩
  refine ⟨_, if_neg ?_, ?_⟩
  · split
    next p h => simpa using hdue p h
    · exact Bool.false_ne_true
  · rw [← hfull]
    split
    · exact ⟨h4.regs, h4.memory⟩
    · exact h4

end State

/-- Settles O32. -/
theorem colourAndCooling : Obligations.ColourAndCooling := by
  unfold Obligations.ColourAndCooling
  refine ⟨fun t c p s hr hb hd ho => ?_, fun t c p data s hb hr => ?_, fun t c i s hp hno => ?_, fun t c i n s hdom hhalt hp hdrv hslot hstop => ?_⟩
  · have hnext := State.colourSensorTxn_eq hr hb hd ho
    obtain ⟨n, hhel⟩ := State.sendSpi_hel ((s.advance t).modHel c (State.takeTxn p)) c p
    obtain ⟨mode, div, bs, k, hout⟩ := State.sendSpi_out ((s.advance t).modHel c (State.takeTxn p)) c p
    rw [State.modHel_hel_self] at hhel
    refine ⟨_, hnext, ?_, ?_, ?_, ⟨mode, div, bs, k, hout⟩, fun _ _ _ => rfl, rfl, rfl, rfl⟩
    · rw [hhel]
      exact congrArg (· ++ [p.val]) hb
    · rw [hhel]
      exact vector_get_set_self ..
    · rw [hhel]
      exact vector_get_set_self ..
  · obtain ⟨x, hx, hnext⟩ := State.colourResultReady_eq (data := data) hb hr
    have hword : x.rd (.hel .csResWord) (c.val * 3 + p.val) = s.resultWord c p data := by
      rw [hx]
      refine State.rd_wr_of_lt _ _ _ ?_
      rw [State.resultWord_eq]
      have h1 := (data.getD (s.rd (.hel .csTxnRdofs) (c.val * 3 + p.val)) 0).isLt
      have h2 := (data.getD (s.rd (.hel .csTxnRdofs) (c.val * 3 + p.val) + 1) 0).isLt
      change _ < 2 ^ 16
      omega
    rw [← State.resultWord_eq]
    rcases hnext with ⟨m, hnext⟩ | hnext
    · exact ⟨_, hnext, ((State.csValid_word c p m).rd _).trans hword, KeepsNext.sameMemory (KeepsNext.execColourResultReady .refl) hnext⟩
    · exact ⟨_, hnext, ((State.csInvalid_word c p 2).rd _).trans hword, KeepsNext.sameMemory (KeepsNext.execColourResultReady .refl) hnext⟩
  · obtain ⟨r, hnext, hstep⟩ := State.pwmPeriod_stepped hp
    rw [State.pwmFullNow_of_none (s := s.advance t) hno] at hstep
    refine ⟨r, hnext, (hstep.regs _ _ rfl).trans ?_, (hstep.regs _ _ rfl).trans ?_, ?_, hstep.memory⟩
    · rw [State.pwmStep_duty]
      rfl
    · rw [State.pwmStep_full]
      rfl
    · intro f k hd he
      exact (hstep.regs f k he).trans ((State.pwmStep_writes (s.advance t) c i true).onlyRegsAndEvents f k hd he)
  · obtain ⟨r, hnext, hstep⟩ := State.pwmPeriod_stepped hp
    rw [State.pwmFullNow_of_driven (s := s.advance t) hdom hhalt hdrv hslot hstop] at hstep
    refine ⟨r, hnext, (hstep.regs _ _ rfl).trans ?_, (hstep.regs _ _ rfl).trans ?_, hstep.memory⟩
    · rw [State.pwmStep_duty]
      rfl
    · rw [State.pwmStep_full]
      rfl

end Sys2Proof.Machine
end

section
/-! Training engines: staged results and runs (R298 to R308). -/

namespace Sys2Proof.Machine

set_option Elab.async false

namespace State

variable {s t : State}

/-! ### Staged results -/

/-- Writes of a run of consecutive registers leave those below them alone. -/
theorem rd_foldl_wr_below (f : Fld) (b : Nat) (l : List Nat) {n i : Nat} (hi : i < b + n) :
    ((l.zipIdx n).foldl (fun s x => s.wr f (b + x.2) x.1) s).rd f i = s.rd f i := by
  induction l generalizing n s with
  | nil => rfl
  | cons v l ih =>
    rw [List.zipIdx_cons, List.foldl_cons, ih (by omega)]
    exact rd_wr_ne s (by simp; omega)

/-- A list of values written from an index upward reads back, held to the field's width. -/
theorem rd_foldl_wr_zipIdx (f : Fld) (b : Nat) {l : List Nat} {k v : Nat} (h : l[k]? = some v) (n : Nat) :
    ((l.zipIdx n).foldl (fun s x => s.wr f (b + x.2) x.1) s).rd f (b + n + k) = v % 2 ^ f.info.width := by
  induction l generalizing n k s with
  | nil => simp at h
  | cons w l ih =>
    rw [List.zipIdx_cons, List.foldl_cons]
    cases k with
    | zero =>
      obtain rfl : w = v := by simpa using h
      rw [rd_foldl_wr_below f b l (by omega)]
      exact rd_wr_same ..
    | succ k => exact (by omega : b + (n + 1) + k = b + n + (k + 1)) ▸ ih (by simpa using h) (n + 1)

theorem stagedResultApply_of_boundary {n : Nat} {e : Fin 6} {x : Staged} (hx : s.trn.engines[e].staged = some x)
    (hb : (s.advance n).atBoundary x = true) : exec (.stagedResultApply n e) s = .next ((s.advance n).applyStaged e x) := by
  change execStagedResultApply n e s = _
  simp only [execStagedResultApply, show (s.advance n).trn.engines[e].staged = some x from hx, hb, if_true]

/-- Applying a deskew of HBM reads writes its values to the tap registers (R302). -/
theorem applyStaged_hbmTapRd (s : State) (e : Fin 6) {x : Staged} {k v : Nat} (h0 : x.target = 0) (hv : x.vals[k]? = some v) :
    (s.applyStaged e x).rd (.trn .hbmTapRd) (x.idx * 216 + x.set * 72 + k) = v % 2 ^ 7 := by
  rw [applyStaged, rd_wr_ne_fld _ (by decide), applyResult]
  simp only [h0, beq_self_eq_true, if_true]
  refine (Leaves.rd (f := .trn .hbmTapRd) (Leaves.touches .refl (Touches.almRequest .refl : Touches Touches.Parts.almRequest _ _)) _).trans ?_
  exact rd_foldl_wr_zipIdx _ _ hv 0

/-- The registers of a discarded result, before its event (R302). -/
def expired (s : State) (e : Fin 6) (r : Staged) : State :=
  let s := s.modEng e fun g => { g with staged := none, held := none }
  let s := if r.target == 3 then s.wr (.trn .adcStaged) (chanInst (Fin.ofNat 4 r.cluster) (Fin.ofNat 6 r.idx)) 0 else s
  (s.wr (.trn .engStatState) e 5).wr (.trn .engStatExpired) e 1

theorem expireResult_eq (s : State) (e : Fin 6) (r : Staged) : s.expireResult e r =
    (s.expired e r).report .trn (engDie e) 0x1A03 [(4, (s.expired e r).targetWord e), (4, ((s.expired e r).now - r.at') / msCclk 1)] := rfl

theorem expired_trn (s : State) (e : Fin 6) (r : Staged) :
    (s.expired e r).trn = (s.modEng e fun g => { g with staged := none, held := none }).trn := by
  simp only [expired, wr_trn]
  split <;> rfl

theorem expired_dev (s : State) (e : Fin 6) (r : Staged) : (s.expired e r).dev = s.dev := by
  simp only [expired, wr_dev]
  split <;> rfl

theorem expired_leaves (s : State) (e : Fin 6) (r : Staged) {f : Fld} (h1 : f ≠ .trn .adcStaged := by decide)
    (h2 : f ≠ .trn .engStatState := by decide) (h3 : f ≠ .trn .engStatExpired := by decide) : Leaves f s (s.expired e r) :=
  .wr (.wr (.ite (.wr ⟨fun _ => rfl⟩ h1) ⟨fun _ => rfl⟩) h2) h3

end State

/-- Settles O34. -/
theorem stagedResults : Obligations.StagedResults := by
  unfold Obligations.StagedResults
  refine ⟨fun n e x s hx hb => ?_, fun n idx k v e x s hx h0 hv hr hq => ?_, fun n e x s hx hdue => ?_⟩
  · have hnext := State.stagedResultApply_of_boundary hx hb
    obtain ⟨hstaged, hstate⟩ := State.applyStaged_done (s.advance n) e x
    exact ⟨_, hnext, hstaged, hstate, KeepsNext.sameMemory (KeepsNext.execStagedResultApply .refl) hnext⟩
  · have hb : (s.advance n).atBoundary x = true := by
      have hr' : (s.advance n).regionStopped (x.idx / 8) = false := hr
      simp only [State.atBoundary, h0, State.pcIdle, hr']
      simp only [Bool.not_false, Bool.true_and, Bool.or_eq_true, decide_eq_true_eq]
      exact .inr hq
    exact ⟨_, State.stagedResultApply_of_boundary hx hb, State.applyStaged_hbmTapRd _ e h0 hv⟩
  · have hnext : exec (.stagedResultExpiry n e) s = .next ((s.advance n).expireResult e x) := by
      change execStagedResultExpiry n e s = _
      simp only [execStagedResultExpiry, show (s.advance n).trn.engines[e].staged = some x from hx]
      exact congrArg _ (if_pos hdue)
    have hevent : ∀ f i, eventFld f = false → ((s.advance n).expireResult e x).rd f i = ((s.advance n).expired e x).rd f i :=
      fun f i hf => (Leaves.report .refl hf).rd i
    refine ⟨_, hnext, ?_, ?_, ?_, ?_, KeepsNext.sameMemory (KeepsNext.execStagedResultExpiry .refl) hnext⟩
    · rw [State.expireResult_eq, State.report_trn, State.expired_trn]
      simp [State.modEng]
    · rw [hevent _ _ rfl, State.expired]
      simp (disch := decide) only [State.rd_wr_ne_fld, State.rd_wr_of_lt]
    · rw [hevent _ _ rfl, State.expired]
      simp (disch := decide) only [State.rd_wr_of_lt]
    · exact State.report_raised_of (State.expired_dev _ e x) ((State.expired_leaves _ e x).rd _)

namespace State

variable {s t : State}

/-! ### Runs -/

/-- What the preconditions of an engine's target look at besides the state of arrays and channels. -/
structure SameTarget (e : Fin 6) (s t : State) : Prop where
  rd : ∀ f i, f.part ≠ .reg .trn → t.rd f i = s.rd f i
  target : t.rd (.trn .engCtrlTarget) e = s.rd (.trn .engCtrlTarget) e
  idx : t.rd (.trn .engCtrlIdx) e = s.rd (.trn .engCtrlIdx) e
  cluster : t.rd (.trn .engCtrlCluster) e = s.rd (.trn .engCtrlCluster) e
  tri : t.tri = s.tri
  light : t.light = s.light

namespace SameTarget

variable {e : Fin 6} (h : SameTarget e s t)

include h

theorem engTarget : t.engTarget e = s.engTarget e := h.target

theorem engIdx : t.engIdx e = s.engIdx e := h.idx

theorem engCluster : t.engCluster e = s.engCluster e := congrArg (Fin.ofNat 4) h.cluster

theorem engServes : t.engServes e = s.engServes e := by
  unfold State.engServes
  rw [h.engTarget]

theorem brokenPrecond : t.brokenPrecond e = s.brokenPrecond e := by
  unfold State.brokenPrecond State.workingLanes State.chState State.on
  have hhbm : ∀ f i, t.rd (.hbm f) i = s.rd (.hbm f) i := fun f i => h.rd _ i nofun
  have hlsr : ∀ f i, t.rd (.lsr f) i = s.rd (.lsr f) i := fun f i => h.rd _ i nofun
  have htri : ∀ f i, t.rd (.tri f) i = s.rd (.tri f) i := fun f i => h.rd _ i nofun
  simp only [h.engTarget, h.engIdx, h.engCluster, h.tri, h.light, hhbm, hlsr, htri]

theorem burstWaits : t.burstWaits e = s.burstWaits e := by
  unfold State.burstWaits State.targetSleeps State.on
  have hhbm : ∀ f i, t.rd (.hbm f) i = s.rd (.hbm f) i := fun f i => h.rd _ i nofun
  simp only [h.engTarget, h.engIdx, hhbm]

end SameTarget

theorem rd_modEng (s : State) (e : Fin 6) (g : Engine → Engine) (f : Fld) (i : Nat) : (s.modEng e g).rd f i = s.rd f i := rfl

theorem modEng_now (s : State) (e : Fin 6) (g : Engine → Engine) : (s.modEng e g).now = s.now := rfl

theorem modEng_engine (s : State) (e : Fin 6) (g : Engine → Engine) : (s.modEng e g).trn.engines[e] = g s.trn.engines[e] :=
  vector_get_set_self ..

theorem modEng_tri (s : State) (e : Fin 6) (g : Engine → Engine) : (s.modEng e g).tri = s.tri := rfl

theorem modEng_light (s : State) (e : Fin 6) (g : Engine → Engine) : (s.modEng e g).light = s.light := rfl

/-- The status of a run that GO clears (R300). -/
def goStart (s : State) (e : Fin 6) : State :=
  let s := s.wrs
    [⟨.trn .engStatDone, e, 0⟩, ⟨.trn .engStatPass, e, 0⟩, ⟨.trn .engStatStale, e, 0⟩, ⟨.trn .engStatExpired, e, 0⟩,
     ⟨.trn .engStatPrecond, e, 0⟩, ⟨.trn .engStatAt, e, 0⟩, ⟨.trn .engStatBursts, e, 0⟩]
  s.modEng e fun _ => { Engine.reset with tap := s.rd (.trn .engRangeFirst) e }

theorem goEngine_eq {e : Fin 6} (hst : s.rd (.trn .engStatState) e = 0 ∨ s.rd (.trn .engStatState) e = 5) (hs : s.engServes e = true)
    (temp : Int) (pd : Nat) : s.goEngine e temp pd = (s.goStart e).startBurst e temp pd := by
  refine if_neg ?_
  rcases hst with h | h <;> simp [h, hs]

theorem goStart_sameTarget (s : State) (e : Fin 6) : SameTarget e s (s.goStart e) where
  rd f i hf := by
    have hg : ∀ g : TrnF, f ≠ .trn g := by
      rintro g rfl
      exact hf rfl
    simp (disch := exact hg _) only [goStart, wrs, List.foldl, rd_modEng, rd_wr_ne_fld]
  target := by simp (disch := decide) only [goStart, wrs, List.foldl, rd_modEng, rd_wr_ne_fld]
  idx := by simp (disch := decide) only [goStart, wrs, List.foldl, rd_modEng, rd_wr_ne_fld]
  cluster := by simp (disch := decide) only [goStart, wrs, List.foldl, rd_modEng, rd_wr_ne_fld]
  tri := by simp only [goStart, wrs, List.foldl, modEng_tri, wr_tri]
  light := by simp only [goStart, wrs, List.foldl, modEng_light, wr_light]

theorem goStart_engine (s : State) (e : Fin 6) : (s.goStart e).trn.engines[e] = { Engine.reset with tap := s.rd (.trn .engRangeFirst) e } := by
  simp (disch := decide) only [goStart, modEng, wrs, List.foldl, rd_wr_ne_fld]
  simp

/-- The registers and the engine as a first burst gathers, before its stimulus. -/
def burstBegun (s : State) (e : Fin 6) (temp : Int) : State :=
  s.modEng e fun g =>
    { g with waitSince := none, burstAt := s.now, heard := 0, bound := s.rd (.hbm .fcCur) (s.engIdx e / 2), temp0 := temp, viol := none }

theorem startBurst_gathers {e : Fin 6} (h0 : s.rd (.trn .engStatBursts) e = 0) (hp : s.brokenPrecond e = none) (h4 : s.engTarget e ≠ 4)
    (hw : s.burstWaits e = false) (temp : Int) (pd : Nat) :
    s.startBurst e temp pd = (((s.burstBegun e temp).stimulate e).bump (.trn .engStatBursts) e).wr (.trn .engStatState) e 2 := by
  simp [startBurst, burstBegun, h0, hp, h4, hw, -Fin.getElem_fin]

theorem startBurst_refused {e : Fin 6} {code : Nat} (h0 : s.rd (.trn .engStatBursts) e = 0) (hp : s.brokenPrecond e = some code) (temp : Int)
    (pd : Nat) : s.startBurst e temp pd = s.precondFail e code 0 := by
  simp [startBurst, h0, hp]

/-- The stimulus of a burst changes no register (R298, R301). -/
theorem stimulate_rd (s : State) (e : Fin 6) (f : Fld) (i : Nat) : (s.stimulate e).rd f i = s.rd f i := by
  unfold stimulate
  extract_lets g n x s1
  have h : s1.rd f i = s.rd f i := by
    simp only [s1]
    split <;> rfl
  split <;> exact h

theorem stimulate_engines (s : State) (e : Fin 6) : (s.stimulate e).trn.engines = s.trn.engines := by
  unfold stimulate
  extract_lets g n x s1
  have h : s1.trn.engines = s.trn.engines := by
    simp only [s1]
    split <;> rfl
  split <;> exact h

theorem stimulate_lastRun (s : State) (e : Fin 6) : (s.stimulate e).trn.lastRun = s.trn.lastRun := by
  unfold stimulate
  extract_lets g n x s1
  have h : s1.trn.lastRun = s.trn.lastRun := by
    simp only [s1]
    split <;> rfl
  split <;> exact h

theorem stimulate_testStep {e : Fin 6} (h : s.engTarget e = 3) :
    s.stimulate e = s.emit (.testStep (s.engCluster e) (s.engIdx e) true) := by
  simp [stimulate, h]

/-- The end of a refused run (R304), but for its event and the row of refusals. -/
theorem precondFail_leaves (s : State) (e : Fin 6) (code n : Nat) {f : Fld} (hf : eventFld f = false) :
    Leaves f (((s.endRun e false).wr (.trn .engStatPrecond) e code).wr (.trn .engStatAt) e n) (s.precondFail e code n) := by
  unfold precondFail
  exact .ite (.report (.trans (.report .refl hf) ⟨fun _ => rfl⟩) hf) (.trans (.report .refl hf) ⟨fun _ => rfl⟩)

theorem precondFail_lastRun (s : State) (e : Fin 6) (code n : Nat) : (s.precondFail e code n).trn.lastRun = s.trn.lastRun := by
  simp only [precondFail]
  split
  · simp only [report_trn, wr_trn, wrb_trn, endRun]
  · simp only [report_trn, wr_trn, wrb_trn, endRun]

theorem goEngine_gathers {e : Fin 6} (hst : s.rd (.trn .engStatState) e = 0 ∨ s.rd (.trn .engStatState) e = 5) (hs : s.engServes e = true)
    (hp : s.brokenPrecond e = none) (h4 : s.engTarget e ≠ 4) (hw : s.burstWaits e = false) (temp : Int) (pd : Nat) :
    s.goEngine e temp pd =
      ((((s.goStart e).burstBegun e temp).stimulate e).bump (.trn .engStatBursts) e).wr (.trn .engStatState) e 2 := by
  have hsame := s.goStart_sameTarget e
  rw [goEngine_eq hst hs, startBurst_gathers ?_ (hsame.brokenPrecond.trans hp) (hsame.engTarget.trans_ne h4) (hsame.burstWaits.trans hw)]
  simp (disch := decide) only [goStart, wrs, List.foldl, rd_modEng, rd_wr_of_lt]

theorem goEngine_refused {e : Fin 6} {code : Nat} (hst : s.rd (.trn .engStatState) e = 0 ∨ s.rd (.trn .engStatState) e = 5)
    (hs : s.engServes e = true) (hp : s.brokenPrecond e = some code) (temp : Int) (pd : Nat) :
    s.goEngine e temp pd = (s.goStart e).precondFail e code 0 := by
  have hsame := s.goStart_sameTarget e
  rw [goEngine_eq hst hs, startBurst_refused ?_ (hsame.brokenPrecond.trans hp)]
  simp (disch := decide) only [goStart, wrs, List.foldl, rd_modEng, rd_wr_of_lt]

/-- The codes of preconditions fit their field. -/
theorem brokenPrecond_lt {e : Fin 6} {code : Nat} (h : s.brokenPrecond e = some code) : code < 2 ^ (Fld.trn .engStatPrecond).info.width := by
  have h10 : code < 10 := by
    simp only [brokenPrecond] at h
    repeat' split at h
    all_goals
      cases h
      try decide
  exact Nat.lt_of_lt_of_le h10 (by decide)

theorem precondFail_shows {e : Fin 6} {code : Nat} (s : State) (n : Nat) (h : code < 2 ^ (Fld.trn .engStatPrecond).info.width) :
    (s.precondFail e code n).rd (.trn .engStatState) e = 5 ∧ (s.precondFail e code n).rd (.trn .engStatDone) e = 1
    ∧ (s.precondFail e code n).rd (.trn .engStatPass) e = 0 ∧ (s.precondFail e code n).rd (.trn .engStatPrecond) e = code := by
  rw [(precondFail_leaves s e code n rfl).rd, (precondFail_leaves s e code n rfl).rd, (precondFail_leaves s e code n rfl).rd,
    (precondFail_leaves s e code n rfl).rd]
  refine ⟨?_, ?_, ?_, ?_⟩
  · simp (disch := decide) only [endRun, wrb, rd_wr_ne_fld, rd_wr_of_lt]
  · simp (disch := decide) only [endRun, wrb, rd_wr_ne_fld, rd_wr_of_lt]
  · simp (disch := decide) only [endRun, wrb, rd_wr_ne_fld, rd_wr_of_lt, b2n]
    rfl
  · rw [rd_wr_ne_fld _ (by decide)]
    exact rd_wr_of_lt _ _ _ h

theorem burstBegun_engine (s : State) (e : Fin 6) (temp : Int) : (s.burstBegun e temp).trn.engines[e].burstAt = s.now
    ∧ (s.burstBegun e temp).trn.engines[e].tap = s.trn.engines[e].tap := by
  simp [burstBegun, modEng]

/-- What shows once the first burst gathers. -/
theorem gathers_shows (s : State) (e : Fin 6) (temp : Int) (h0 : s.rd (.trn .engStatBursts) e = 0) :
    let r := (((s.burstBegun e temp).stimulate e).bump (.trn .engStatBursts) e).wr (.trn .engStatState) e 2
    r.rd (.trn .engStatState) e = 2 ∧ r.rd (.trn .engStatBursts) e = 1 ∧ r.trn.engines = (s.burstBegun e temp).trn.engines
    ∧ OnlyRegs s r [(.trn .engStatState, e), (.trn .engStatBursts, e)] := by
  refine ⟨rd_wr_of_lt .., ?_, ?_, ?_⟩
  · rw [rd_wr_ne_fld _ (by decide), rd_bump, stimulate_rd, burstBegun, rd_modEng, h0]
    simp only [and_self, if_true]
    decide
  · rw [wr_trn, bump_trn, stimulate_engines]
  · intro f i hf
    have hs : ¬ (f = .trn .engStatState ∧ i = e) := by
      rintro ⟨rfl, rfl⟩
      simp at hf
    have hb : ¬ (f = .trn .engStatBursts ∧ i = e) := by
      rintro ⟨rfl, rfl⟩
      simp at hf
    rw [rd_wr_ne _ hs, bump, bumpBy, rd_wr_ne _ hb, stimulate_rd, burstBegun, rd_modEng]

/-! ### Ends of a burst -/

/-- The errors that a burst leaves, by its engine's target (R299). -/
def burstErrs (s : State) (e : Fin 6) (g : Gathered) : List Nat :=
  match s.engTarget e with
  | 0 | 1 => (g.errs ++ List.replicate 72 0).take 72
  | 2 => [s.trn.engines[e].heard]
  | _ => (g.errs ++ [0]).take 1

/-- A burst of a sweep that is over, its errors `errs` recorded (R299). -/
def burstOver (s : State) (e : Fin 6) (errs : List Nat) : State :=
  let t := ((s.stepOff e).wr (.trn .engStatState) e 3).releaseFc e
  (if t.engTarget e == 2 then t else t.countErrs e errs).recordTap e errs

/-- What a burst that is over leaves of its engine. -/
structure EngineKept (e : Fin 6) (s t : State) : Prop where
  viol : t.trn.engines[e].viol = s.trn.engines[e].viol
  tap : t.trn.engines[e].tap = s.trn.engines[e].tap
  wrap : t.trn.engines[e].wrap = s.trn.engines[e].wrap

theorem stepOff_leaves (s : State) (e : Fin 6) (f : Fld) : Leaves f s (s.stepOff e) := .ite ⟨fun _ => rfl⟩ .refl

theorem releaseFc_leaves (s : State) (e : Fin 6) (f : Fld) (h : f.part ∉ Touches.Parts.releaseFc := by decide) : Leaves f s (s.releaseFc e) :=
  .touches .refl (Touches.releaseFc .refl : Touches Touches.Parts.releaseFc _ _) h

theorem stepOff_trn (s : State) (e : Fin 6) : (s.stepOff e).trn = s.trn := (Touches.stepOff .refl : Touches Touches.Parts.stepOff s _) .trn (by decide)

theorem releaseFc_trn (s : State) (e : Fin 6) : (s.releaseFc e).trn = s.trn :=
  (Touches.releaseFc .refl : Touches Touches.Parts.releaseFc s _) .trn (by decide)

theorem countErrs_leaves (s : State) (e : Fin 6) (errs : List Nat) {f : Fld} (h : f ≠ .trn .biterrCount) : Leaves f s (s.countErrs e errs) :=
  .foldl .refl fun _ _ hx => .ite (.wr hx h) hx

theorem recordTap_leaves (s : State) (e : Fin 6) (errs : List Nat) (f : Fld) : Leaves f s (s.recordTap e errs) := ⟨fun _ => rfl⟩

theorem countErrs_trn (s : State) (e : Fin 6) (errs : List Nat) : (s.countErrs e errs).trn = s.trn := by
  refine foldl_keeps (P := fun x : State => x.trn = s.trn) (fun x b hx => ?_) rfl
  split
  · exact hx
  · exact hx

theorem burstOver_state (s : State) (e : Fin 6) (errs : List Nat) : (s.burstOver e errs).rd (.trn .engStatState) e = 3 := by
  have h := releaseFc_leaves ((s.stepOff e).wr (.trn .engStatState) e 3) e (.trn .engStatState)
  have hr : Leaves (.trn .engStatState) ((s.stepOff e).wr (.trn .engStatState) e 3) (s.burstOver e errs) :=
    .trans (.ite h (h.trans (countErrs_leaves _ e errs (by decide)))) (recordTap_leaves ..)
  rw [hr.rd]
  exact rd_wr_of_lt ..

theorem burstOver_leaves (s : State) (e : Fin 6) (errs : List Nat) {f : Fld} (h1 : f ≠ .trn .engStatState := by decide)
    (h2 : f ≠ .trn .biterrCount := by decide) (h3 : f.part ∉ Touches.Parts.releaseFc := by decide) : Leaves f s (s.burstOver e errs) := by
  have h := ((stepOff_leaves s e f).wr (i := e) (v := 3) h1).trans (releaseFc_leaves _ e f h3)
  exact .trans (.ite h (h.trans (countErrs_leaves _ e errs h2))) (recordTap_leaves ..)

theorem burstOver_engine (s : State) (e : Fin 6) (errs : List Nat) : EngineKept e s (s.burstOver e errs) := by
  have h : ∀ t : State, t.trn = s.trn → EngineKept e s (t.recordTap e errs) := by
    intro t ht
    constructor <;> simp [recordTap, modEng, ht]
  refine h _ ?_
  split
  · rw [releaseFc_trn, wr_trn, stepOff_trn]
  · rw [countErrs_trn, releaseFc_trn, wr_trn, stepOff_trn]

theorem burstOver_sweepRange (s : State) (e : Fin 6) (errs : List Nat) : (s.burstOver e errs).sweepRange e = s.sweepRange e := by
  unfold sweepRange
  rw [(burstOver_engine s e errs).wrap, (burstOver_leaves s e errs).rd, (burstOver_leaves s e errs).rd]

/-- A burst of a sweep that is not its last takes the next tap (R299). -/
theorem endBurst_next {e : Fin 6} (h3 : s.engTarget e ≤ 3) (hv : s.trn.engines[e].viol = none) (ht : s.trn.engines[e].tap < (s.sweepRange e).2)
    (g : Gathered) : s.endBurst e g = (s.burstOver e (s.burstErrs e g)).modEng e fun x => { x with tap := x.tap + 1 } := by
  unfold endBurst
  extract_lets sweep errs s1 s2 s3 last fin
  have hs3 : s3 = s.burstOver e (s.burstErrs e g) := if_pos (by simpa [sweep] using h3)
  obtain ⟨hviol, htap, -⟩ := burstOver_engine s e (s.burstErrs e g)
  have hlast : last = false := by
    simp only [last, hs3, burstOver_sweepRange, htap, sweep]
    simp [h3, ht, -Fin.getElem_fin]
  rw [hs3, hviol, hv, hlast]
  rfl

/-- What the firmware's schedule writes of a due run, before its GO (R305). -/
def scheduleRun (s : State) (e : Fin 6) (target : Fin 7) (idx : Nat) (c : Fin 4) (temp : Int) : State :=
  let key := target.val + idx % 256 * 2 ^ 8 + c.val * 2 ^ 16
  let s := s.wrs [⟨.trn .engCtrlTarget, e, target.val⟩, ⟨.trn .engCtrlIdx, e, idx⟩, ⟨.trn .engCtrlCluster, e, c.val⟩,
    ⟨.trn .engCtrlPattern, e, if target == 2 then 2 else 1⟩, ⟨.trn .engRangeFirst, e, 0⟩,
    ⟨.trn .engRangeLast, e, match target.val with | 2 | 3 => 63 | _ => 127⟩]
  { s with trn := { s.trn with
    barred := s.trn.barred.filter fun x => x != key
    lastRun := (key, s.now) :: s.trn.lastRun.filter fun x => x.1 != key
    asked := s.trn.asked.filter fun x => x.1 != key
    lastTemp := if target.val ≤ 1 then temp else s.trn.lastTemp } }

/-- A burst's start leaves the target of its engine. -/
theorem startBurst_leaves (s : State) (e : Fin 6) (temp : Int) (pd : Nat) {f : Fld} (h0 : eventFld f = false := by rfl)
    (h1 : f ≠ .trn .engStatState := by decide) (h2 : f ≠ .trn .engStatBursts := by decide) (h3 : f ≠ .trn .engStatDone := by decide)
    (h4 : f ≠ .trn .engStatPass := by decide) (h5 : f ≠ .trn .engStatPrecond := by decide) (h6 : f ≠ .trn .engStatAt := by decide)
    (h7 : f ≠ .trn .engStatStale := by decide) : Leaves f s (s.startBurst e temp pd) := by
  have hend : Leaves f s (s.endRun e false) := .wrb (.wr (.wr .refl h1) h3) h4
  have hfail : ∀ code n, Leaves f s (s.precondFail e code n) := fun code n =>
    (hend.wr h5 |>.wr h6).trans (precondFail_leaves s e code n h0)
  unfold startBurst
  extract_lets first ch broken cur s1 s2
  clear_value broken
  split
  · exact hfail ..
  · split
    · split
      · exact .wr ⟨fun _ => rfl⟩ h1
      · exact .ite (hfail ..) (.wr .refl h1)
    · have hs1 : Leaves f s s1 := .wr (.trans hend ⟨fun _ => rfl⟩) h7
      exact .ite (.report hs1 h0) (.wr (.bump (.trans ⟨fun _ => rfl⟩ ⟨fun i => stimulate_rd s2 e f i⟩) h2) h1)

theorem startBurst_lastRun (s : State) (e : Fin 6) (temp : Int) (pd : Nat) : (s.startBurst e temp pd).trn.lastRun = s.trn.lastRun := by
  unfold startBurst
  extract_lets first ch broken cur s1 s2
  clear_value broken
  split
  · exact precondFail_lastRun ..
  · split
    · split
      · rfl
      · split
        · exact precondFail_lastRun ..
        · rfl
    · split
      · rw [report_trn]
        rfl
      · rw [wr_trn, bump_trn, stimulate_lastRun]
        rfl

theorem scheduleRun_target (s : State) (e : Fin 6) (target : Fin 7) (idx : Nat) (c : Fin 4) (temp : Int) :
    let r := s.scheduleRun e target idx c temp
    r.rd (.trn .engCtrlTarget) e = target.val ∧ r.rd (.trn .engCtrlIdx) e = idx % 256 ∧ r.rd (.trn .engCtrlCluster) e = c.val := by
  have ht : target.val < 2 ^ (Fld.trn .engCtrlTarget).info.width := Nat.lt_of_lt_of_le target.isLt (by decide)
  have hc : c.val < 2 ^ (Fld.trn .engCtrlCluster).info.width := Nat.lt_of_lt_of_le c.isLt (by decide)
  refine ⟨?_, ?_, ?_⟩
  all_goals
    change (wrs _ _).rd _ _ = _
    simp (disch := decide) only [wrs, List.foldl, rd_wr_ne_fld, rd_wr_same]
  · exact Nat.mod_eq_of_lt ht
  · rfl
  · exact Nat.mod_eq_of_lt hc

/-- An engine that ABORT idles, before a waiting frequency change is released (R300). -/
def aborted (s : State) (e : Fin 6) : State :=
  let s := match s.trn.engines[e].staged with
    | some r => if r.target == 3 then s.wr (.trn .adcStaged) (chanInst (Fin.ofNat 4 r.cluster) (Fin.ofNat 6 r.idx)) 0 else s
    | none => s
  ((s.stepOff e).modEng e fun g => { g with staged := none, held := none, viol := none, maps := [] }).wr (.trn .engStatState) e 0

theorem trainingAbort_of_owner {n : Nat} {e : Fin 6} {host : Bool} (h : s.engOwner host = true) :
    exec (.trainingAbort n e host) s = .next (((s.advance n).aborted e).releaseFc e) := by
  change execTrainingAbort n e host s = _
  refine if_neg ?_
  simp [show (s.advance n).engOwner host = true from h]

theorem goEngine_leaves (s : State) (e : Fin 6) (temp : Int) (pd : Nat) {f : Fld} (h : f = .trn .engCtrlTarget ∨ f = .trn .engCtrlIdx ∨
    f = .trn .engCtrlCluster) : Leaves f s (s.goEngine e temp pd) := by
  refine .ite .refl ?_
  have hstart : Leaves f s (s.goStart e) := by
    constructor
    rcases h with rfl | rfl | rfl
    all_goals simp (disch := decide) only [goStart, wrs, List.foldl, rd_modEng, rd_wr_ne_fld, implies_true]
  refine hstart.trans ?_
  rcases h with rfl | rfl | rfl
  · exact startBurst_leaves ..
  · exact startBurst_leaves ..
  · exact startBurst_leaves ..

theorem goEngine_lastRun (s : State) (e : Fin 6) (temp : Int) (pd : Nat) : (s.goEngine e temp pd).trn.lastRun = s.trn.lastRun := by
  have hstart : (s.goStart e).trn.lastRun = s.trn.lastRun := by
    simp only [goStart, modEng, wrs, List.foldl, wr_trn]
  change (if _ then s else (s.goStart e).startBurst e temp pd).trn.lastRun = _
  split
  · rfl
  · rw [startBurst_lastRun, hstart]

theorem scheduledTraining_due {n idx pd : Nat} {e : Fin 6} {target : Fin 7} {c : Fin 4} {temp : Int} (hh : s.on (.trn .ctrlHost) 0 = false)
    (hr : s.running = true) (hd : s.duty 6 = true) (hl : s.rd (.pwr .limitAct) 0 < 2) (h0 : s.rd (.trn .engStatState) e = 0)
    (hdue : (s.advance n).runDue target idx (target.val + idx % 256 * 2 ^ 8 + c.val * 2 ^ 16) temp = true) :
    exec (.scheduledTraining n e target idx c temp pd) s = .next (((s.advance n).scheduleRun e target idx c temp).goEngine e temp pd) := by
  change execScheduledTraining n e target idx c temp pd s = _
  refine if_neg ?_
  change ¬ (s.on (.trn .ctrlHost) 0 || !(s.running && s.duty 6 && s.rd (.pwr .limitAct) 0 < 2)
    || (s.rd (.trn .engStatState) e != 0 && s.rd (.trn .engStatState) e != 5) || !_) = true
  rw [hh, hr, hd, h0, hdue]
  simp [hl]

end State

/-- Settles O33, one equation for each command. -/
theorem trainingRuns : Obligations.TrainingRuns := by
  unfold Obligations.TrainingRuns
  refine ⟨fun n pd e host temp s ho hst hs hp h4 hw => ?_, fun n pd code e host temp s ho hst hs hp => ?_, fun n e host s ho => ?_,
    fun n pd e temp s hheld h1 h0 hp h4 hw => ?_, fun n e g s h2 h3 hlen hv ht => ?_,
    fun n idx pd e target c temp s hh hr hd hl h0 hdue hi => ?_⟩
  · have hnext : exec (.trainingGo n e host temp pd) s = .next ((s.advance n).goEngine e temp pd) := by
      refine if_neg ?_
      simp [show (s.advance n).engOwner host = true from ho]
    have hgo := State.goEngine_gathers (s := s.advance n) hst hs hp h4 hw temp pd
    obtain ⟨hstate, hbursts, heng, hregs⟩ := State.gathers_shows ((s.advance n).goStart e) e temp
      (by simp (disch := decide) only [State.goStart, State.wrs, List.foldl, State.rd_modEng, State.rd_wr_of_lt])
    obtain ⟨hat, htap⟩ := State.burstBegun_engine ((s.advance n).goStart e) e temp
    refine ⟨_, hnext, ?_, ?_, ?_, ?_, ?_, KeepsNext.sameMemory (KeepsNext.execTrainingGo .refl) hnext⟩
    · rw [hgo]
      exact hstate
    · rw [hgo]
      exact hbursts
    · rw [hgo, hregs _ _ (by simp)]
      simp (disch := decide) only [State.goStart, State.wrs, List.foldl, State.rd_modEng, State.rd_wr_ne_fld, State.rd_wr_of_lt]
    · rw [hgo, heng, hat]
      simp only [State.goStart, State.wrs, List.foldl, State.modEng_now, State.wr_now]
      rfl
    · rw [hgo, heng, htap, State.goStart_engine]
      rfl
  · have hnext : exec (.trainingGo n e host temp pd) s = .next ((s.advance n).goEngine e temp pd) := by
      refine if_neg ?_
      simp [show (s.advance n).engOwner host = true from ho]
    have hgo := State.goEngine_refused (s := s.advance n) hst hs hp temp pd
    obtain ⟨hstate, hdone, hpass, hcode⟩ := State.precondFail_shows ((s.advance n).goStart e) 0 (State.brokenPrecond_lt hp)
    exact ⟨_, hnext, by rw [hgo]; exact hstate, by rw [hgo]; exact hdone, by rw [hgo]; exact hpass, by rw [hgo]; exact hcode,
      KeepsNext.sameMemory (KeepsNext.execTrainingGo .refl) hnext⟩
  · have hnext := State.trainingAbort_of_owner (n := n) (e := e) ho
    have hleft := State.releaseFc_leaves ((s.advance n).aborted e) e (.trn .engStatState)
    refine ⟨_, hnext, ?_, ?_, KeepsNext.sameMemory (KeepsNext.execTrainingAbort .refl) hnext⟩
    · rw [hleft.rd]
      exact State.rd_wr_of_lt ..
    · rw [State.releaseFc_trn, State.aborted, State.wr_trn, State.modEng_engine]
  · have hnext : exec (.gatherBurstStart n e temp pd) s = .next ((s.advance n).startBurst e temp pd) := by
      refine congrArg _ (if_pos ?_)
      change (s.trn.engines[e].held.isNone && (s.rd (.trn .engStatState) e == 1 || _)) = true
      rw [hheld, h1]
      rfl
    have hgo := State.startBurst_gathers (s := s.advance n) h0 hp h4 hw temp pd
    obtain ⟨hstate, hbursts, heng, hregs⟩ := State.gathers_shows (s.advance n) e temp h0
    obtain ⟨hat, -⟩ := State.burstBegun_engine (s.advance n) e temp
    refine ⟨_, hnext, ?_, ?_, ?_, fun h3 => ?_, ?_, KeepsNext.sameMemory (KeepsNext.execGatherBurstStart .refl) hnext⟩
    · rw [hgo]
      exact hstate
    · rw [hgo]
      exact hbursts
    · rw [hgo, heng]
      exact hat
    · have ht : ((s.advance n).burstBegun e temp).engTarget e = 3 := h3
      rw [hgo, State.stimulate_testStep ht]
      rfl
    · rw [hgo]
      exact hregs
  · have hnext : exec (.gatherBurstEnd n e g) s = .next ((s.advance n).endBurst e g) := by
      refine congrArg _ (if_pos ?_)
      have hwhole : (match s.engTarget e with
          | 5 | 6 => true
          | 4 => decide (max s.trn.engines[e].burstAt (s.light[s.engCluster e].chans[(Fin.ofNat 6 (s.engIdx e) : Fin 6)].lenSince + 320) + 1024
              ≤ max s.now n)
          | _ => decide (s.trn.engines[e].burstAt + s.burstLen e ≤ max s.now n)) = true := by
        split
        · rfl
        · rfl
        · omega
        · exact decide_eq_true hlen
      rw [Bool.and_eq_true]
      exact ⟨by simpa using h2, hwhole⟩
    have hgo := State.endBurst_next (s := s.advance n) h3 hv ht g
    refine ⟨_, hnext, ?_, ?_, KeepsNext.sameMemory (KeepsNext.execGatherBurstEnd .refl) hnext⟩
    · rw [hgo, State.rd_modEng, State.burstOver_state]
    · rw [hgo]
      exact (congrArg Engine.tap (State.modEng_engine ..)).trans (congrArg (· + 1) (State.burstOver_engine ..).tap)
  · have hnext := State.scheduledTraining_due (pd := pd) hh hr hd hl h0 hdue
    refine ⟨_, hnext, ?_, ?_, ?_, ?_, KeepsNext.sameMemory (KeepsNext.execScheduledTraining .refl) hnext⟩
    · rw [(State.goEngine_leaves _ e temp pd (.inl rfl)).rd]
      exact (State.scheduleRun_target ..).1
    · rw [(State.goEngine_leaves _ e temp pd (.inr (.inl rfl))).rd, (State.scheduleRun_target ..).2.1, Nat.mod_eq_of_lt hi]
    · rw [(State.goEngine_leaves _ e temp pd (.inr (.inr rfl))).rd]
      exact (State.scheduleRun_target ..).2.2
    · rw [State.goEngine_lastRun]
      exact List.mem_cons_self ..

end Sys2Proof.Machine
end

section
/-! Families of operations that spare some register fields: one relation with a rule for each plain operation, and the family of the light
operations (R178 to R210). -/

namespace Sys2Proof.Machine

set_option Elab.async false

/-- From s to t the registers of some fields read as before. -/
structure Spares (F : List Fld) (s t : State) : Prop where
  rd : ∀ f ∈ F, ∀ i, t.rd f i = s.rd f i

namespace Spares

variable {F : List Fld} {s t u : State}

theorem refl : Spares F s s := ⟨fun _ _ _ => rfl⟩

theorem trans (h : Spares F s t) (k : Spares F t u) : Spares F s u := ⟨fun f hf i => (k.rd f hf i).trans (h.rd f hf i)⟩

theorem same (h : Spares F s t) (hu : ∀ f i, u.rd f i = t.rd f i) : Spares F s u := ⟨fun f hf i => (hu f i).trans (h.rd f hf i)⟩

/-- The field of a list that an operation spares. -/
theorem leaves (h : Spares F s t) {f : Fld} (hf : f ∈ F := by decide) : Leaves f s t := ⟨h.rd f hf⟩

theorem touches {ps : List Part} (h : Spares F s t) (k : Touches ps t u) (hF : F.all (fun f => !ps.contains f.part) = true := by decide) :
    Spares F s u :=
  h.trans ⟨fun f hf i => k.rd f i (by simpa using List.all_eq_true.1 hF f hf)⟩

theorem wr {g : Fld} {i v : Nat} (h : Spares F s t) (hg : g ∉ F := by decide) : Spares F s (t.wr g i v) :=
  h.trans ⟨fun _ hf _ => State.rd_wr_ne_fld t fun e => hg (e ▸ hf)⟩

theorem wrb {g : Fld} {i : Nat} {b : Bool} (h : Spares F s t) (hg : g ∉ F := by decide) : Spares F s (t.wrb g i b) := h.wr hg

theorem wrI {g : Fld} {i : Nat} {v : Int} (h : Spares F s t) (hg : g ∉ F := by decide) : Spares F s (t.wrI g i v) := h.wr hg

theorem bump {g : Fld} {i : Nat} (h : Spares F s t) (hg : g ∉ F := by decide) : Spares F s (t.bump g i) := h.wr hg

theorem bumpBy {g : Fld} {i n : Nat} (h : Spares F s t) (hg : g ∉ F := by decide) : Spares F s (t.bumpBy g i n) := h.wr hg

theorem modChr {c : Fin 4} {g : Chrono → Chrono} (h : Spares F s t) : Spares F s (t.modChr c g) := h.same fun _ _ => rfl

theorem modTri {c : Fin 4} {g : Trioc → Trioc} (h : Spares F s t) : Spares F s (t.modTri c g) := h.same fun _ _ => rfl

theorem modLight {c : Fin 4} {g : Light → Light} (h : Spares F s t) : Spares F s (t.modLight c g) := h.same fun _ _ => rfl

theorem modChan {c : Fin 4} {k : Fin 6} {g : LaserCh → LaserCh} (h : Spares F s t) : Spares F s (t.modChan c k g) := h.same fun _ _ => rfl

theorem emit {o : Output} (h : Spares F s t) : Spares F s (t.emit o) := h.same fun _ _ => rfl

theorem ite {c : Prop} [Decidable c] (h : Spares F s t) (k : Spares F s u) : Spares F s (if c then t else u) := by
  split
  · exact h
  · exact k

theorem foldl {α : Type} {g : State → α → State} {l : List α} (h : Spares F s t) (k : ∀ x a, Spares F s x → Spares F s (g x a)) :
    Spares F s (l.foldl g t) := by
  induction l generalizing t with
  | nil => exact h
  | cons a l ih => exact ih (k t a h)

theorem forClusters {l : List (Fin 4)} {g : State → Fin 4 → State} (h : Spares F s t) (k : ∀ x c, Spares F s x → Spares F s (g x c)) :
    Spares F s (t.forClusters l g) := h.foldl k

theorem mkSnd {α : Type} {a : α} (h : Spares F s t) : Spares F s (a, t).2 := h

theorem reportSub {v : UType} {i sub code : Nat} {items : List (Nat × Nat)} (h : Spares F s t)
    (hF : F.all (fun f => !eventFld f) = true := by decide) : Spares F s (t.reportSub v i sub code items) :=
  h.trans ⟨fun f hf j => by
    obtain ⟨hs, hl, hh⟩ := part_of_not_eventFld (f := f) (by simpa using List.all_eq_true.1 hF f hf)
    exact State.reportSub_rd _ _ _ _ _ _ hs hl hh⟩

theorem report {v : UType} {i code : Nat} {items : List (Nat × Nat)} (h : Spares F s t)
    (hF : F.all (fun f => !eventFld f) = true := by decide) : Spares F s (t.report v i code items) := h.reportSub hF

end Spares

/-- Registers of the light that faults, searches and fades of channels leave alone: the interlock's, the thermistors' and the measured voltage. -/
def litKept : List Fld :=
  [.lsr .intlkTripped, .lsr .intlkIn, .lsr .intlkTrips, .lsr .outStopped, .lsr .tsenTemp, .lsr .tsenValid, .lsr .vstrOfsVstr]

namespace Spares

variable {s t : State}

theorem violate {code hit} (h : Spares litKept s t) : Spares litKept s (t.violate code hit) :=
  h.touches (Touches.violate .refl : Touches Touches.Parts.violate _ _)

theorem addLit {c k n pat} (h : Spares litKept s t) : Spares litKept s (t.addLit c k n pat) := by
  refine h.trans ?_
  unfold State.addLit
  extract_lets i x em s1 s2
  have hs1 : Spares litKept t s1 := .wr .refl
  have hs2 : Spares litKept t s2 := .foldl hs1 (fun _ _ hx1 => .ite hx1 (.wr hx1))
  exact .modChan hs2

theorem cutDiag {c k} (h : Spares litKept s t) : Spares litKept s (t.cutDiag c k) := by
  refine h.trans ?_
  unfold State.cutDiag
  extract_lets x s1 upto s2
  have hs1 : Spares litKept t s1 := .addLit .refl
  have hs2 : Spares litKept t s2 := .modChan hs1
  exact .ite .refl (.ite (.emit hs2) hs2)

theorem litUntil {c k from' upto} (h : Spares litKept s t) : Spares litKept s (t.litUntil c k from' upto) := by
  refine h.trans ?_
  unfold State.litUntil
  extract_lets l dim r
  exact .addLit (.modLight .refl)

theorem setLenAt {c k v dly} (h : Spares litKept s t) : Spares litKept s (t.setLenAt c k v dly) :=
  h.trans (.ite .refl (by
    extract_lets s1 edge was s2 s3
    have hs1 : Spares litKept t s1 := .ite (.violate .refl) .refl
    have hs2 : Spares litKept t s2 := .ite hs1 (.litUntil hs1)
    have hs3 : Spares litKept t s3 := .modChan hs2
    exact .ite hs3 (.ite (.emit hs3) (.emit hs3))))

theorem setLen {c k v} (h : Spares litKept s t) : Spares litKept s (t.setLen c k v) :=
  h.trans (.setLenAt .refl)

theorem lensLow {c} (h : Spares litKept s t) : Spares litKept s (t.lensLow c) :=
  h.trans (.foldl .refl (fun _ _ hx => .cutDiag (.setLen hx)))

theorem contentLow {c} (h : Spares litKept s t) : Spares litKept s (t.contentLow c) :=
  h.trans (.foldl .refl (fun _ _ hx => .setLen hx))

theorem showOut {c} (h : Spares litKept s t) : Spares litKept s (t.showOut c) := by
  refine h.trans ?_
  unfold State.showOut
  extract_lets cause
  exact .wr (.wrb .refl)

theorem noteTonly {c} (h : Spares litKept s t) : Spares litKept s (t.noteTonly c) :=
  h.touches (Touches.noteTonly .refl : Touches Touches.Parts.noteTonly _ _)

theorem sendChState {c} (h : Spares litKept s t) : Spares litKept s (t.sendChState c) :=
  h.touches (Touches.sendChState .refl : Touches Touches.Parts.sendChState _ _)

theorem setChState {c k st} (h : Spares litKept s t) : Spares litKept s (t.setChState c k st) :=
  h.trans (.ite .refl (.noteTonly (.sendChState (.wr .refl))))

theorem showPend {c} (h : Spares litKept s t) : Spares litKept s (t.showPend c) :=
  h.trans (.wrb .refl)

theorem wantPatterns {c k hi lo} (h : Spares litKept s t) : Spares litKept s (t.wantPatterns c k hi lo) := by
  refine h.trans ?_
  unfold State.wantPatterns
  extract_lets x s1
  have hs1 : Spares litKept t s1 := .modLight .refl
  exact .showPend (.modChan hs1)

theorem dropSearch {c k} (h : Spares litKept s t) : Spares litKept s (t.dropSearch c k) :=
  h.trans (.ite .refl (by
    extract_lets s1 w
    have hs1 : Spares litKept t s1 := .wr (.setChState (.modChan .refl))
    exact .ite (.wantPatterns hs1) hs1))

theorem abandonSearches {c} (h : Spares litKept s t) : Spares litKept s (t.abandonSearches c) :=
  h.trans (.foldl .refl (fun _ _ hx => .dropSearch hx))

theorem abandonFade {c} (h : Spares litKept s t) : Spares litKept s (t.abandonFade c) :=
  h.trans (.ite .refl (.wr (.wr (.wr (.modLight .refl)))))

theorem lightGoesOff {c trip} (h : Spares litKept s t) : Spares litKept s (t.lightGoesOff c trip) := by
  refine h.trans ?_
  unfold State.lightGoesOff
  extract_lets s1 s2
  have hs1 : Spares litKept t s1 := .violate .refl
  have hs2 : Spares litKept t s2 := .ite (.lensLow hs1) (.contentLow hs1)
  exact .showOut (.abandonSearches (.abandonFade hs2))

theorem strobe {c tsrc prim at'} (h : Spares litKept s t) : Spares litKept s (t.strobe c tsrc prim at') :=
  h.touches (Touches.strobe .refl : Touches Touches.Parts.strobe _ _)

theorem faultCounter {c k cause} (h : Spares litKept s t) : Spares litKept s (t.faultCounter c k cause) := by
  refine h.trans ?_
  unfold State.faultCounter
  extract_lets i
  split
  · exact .bump .refl
  · exact .bump .refl
  · exact .bump .refl
  · exact .refl

theorem setCh {c k st cause} (h : Spares litKept s t) : Spares litKept s (t.setCh c k st cause) :=
  h.trans (.wr (.setChState .refl))

theorem flagBy {c num k tiles u i} (h : Spares litKept s t) : Spares litKept s (t.flagBy c num k tiles u i) :=
  h.touches (Touches.flagBy .refl : Touches Touches.Parts.flagBy _ _)

theorem policyLightOff {c k cause} (h : Spares litKept s t) : Spares litKept s (t.policyLightOff c k cause) :=
  h.trans (.ite .refl (.report (.lightGoesOff (.modLight .refl))))

theorem selectStandby {c p k} (h : Spares litKept s t) : Spares litKept s (t.selectStandby c p k) :=
  h.touches (Touches.selectStandby .refl : Touches Touches.Parts.selectStandby _ _)

theorem searchStep {c k} (h : Spares litKept s t) : Spares litKept s (t.searchStep c k) := by
  refine h.trans ?_
  unfold State.searchStep
  split
  · exact .refl
  · exact .ite .refl (by
      extract_lets half s1 full n
      have hs1 : Spares litKept t s1 := .modChan .refl
      exact .wantPatterns hs1)

theorem startSearch {c k short} (h : Spares litKept s t) : Spares litKept s (t.startSearch c k short) := by
  refine h.trans ?_
  unfold State.startSearch
  extract_lets cands s1
  have hs1 : Spares litKept t s1 := .modChan .refl
  exact .searchStep (.wr hs1)

theorem updateCeiling {c} (h : Spares litKept s t) : Spares litKept s (t.updateCeiling c) := by
  refine h.trans ?_
  unfold State.updateCeiling
  extract_lets s1 terms best s2 cur inc
  have hs1 : Spares litKept t s1 := .foldl .refl (fun _ _ hx => .wr hx)
  have hs2 : Spares litKept t s2 := .wr (.wr hs1)
  exact .ite (.modLight (.wr hs2)) (.ite hs2 (.modLight (.wr hs2)))

theorem channelFault {c k cause} (h : Spares litKept s t) : Spares litKept s (t.channelFault c k cause) := by
  refine h.trans ?_
  unfold State.channelFault
  extract_lets st i hot off p s1 s2 s3 search tol s4 s5 s6 pend s7 s8 s9
  have hs1 : Spares litKept t s1 := .violate .refl
  have hs2 : Spares litKept t s2 := .modChan (.faultCounter hs1)
  have hs3 : Spares litKept t s3 := .ite (.dropSearch (.modChan hs2)) hs2
  have hs4 : Spares litKept t s4 := .setCh hs3
  have hs5 : Spares litKept t s5 := .cutDiag (.setLen hs4)
  have hs6 : Spares litKept t s6 := .ite (.flagBy hs5) hs5
  have hs7 : Spares litKept t s7 := .ite (.modLight hs6) hs6
  have hs8 : Spares litKept t s8 := .ite (.policyLightOff hs7) (.ite (by
      split
      · exact .modLight (.selectStandby hs7)
      · exact .ite hs7 (.policyLightOff hs7)) hs7)
  have hs9 : Spares litKept t s9 := .ite (.startSearch hs8) hs8
  exact .ite .refl (.ite (.modChan .refl) (.updateCeiling hs9))

theorem bankTemp {c k t'} (h : Spares litKept s t) : Spares litKept s (t.bankTemp c k t') := by
  refine h.trans ?_
  unfold State.bankTemp
  extract_lets i knee cut s1 x st
  have hs1 : Spares litKept t s1 := .ite (.report (.modChan .refl)) (.ite (.report (.modChan .refl)) .refl)
  exact .ite (.channelFault (.report hs1)) hs1

/-- The three ways a fault window judges count up on its channel alone. -/
theorem windowFault {c k pd vstr ve miss rng} (h : Spares litKept s t) : Spares litKept s (t.windowFault c k pd vstr ve miss rng).2 := by
  unfold State.windowFault
  extract_lets x step comp sh mi again pa s1
  have hs1 : Spares litKept s s1 := .modChan h
  exact .mkSnd hs1

theorem storeBad {c} (h : Spares litKept s t) : Spares litKept s (t.storeBad c) :=
  h.touches (Touches.storeBad .refl : Touches Touches.Parts.storeBad _ _)

theorem choosePatterns {c k} (h : Spares litKept s t) : Spares litKept s (t.choosePatterns c k) :=
  h.trans (.wantPatterns .refl)

theorem searchDone {c k sr em} (h : Spares litKept s t) : Spares litKept s (t.searchDone c k sr em) := by
  refine h.trans ?_
  unfold State.searchDone
  extract_lets i s1 s2 s3 w s4
  have hs1 : Spares litKept t s1 := .modChan .refl
  have hs2 : Spares litKept t s2 := .wr (.wr (.wr hs1))
  have hs3 : Spares litKept t s3 := .reportSub (.storeBad hs2)
  have hs4 : Spares litKept t s4 := .choosePatterns hs3
  exact .ite (.wantPatterns hs3) (.ite (.setChState hs4) (.modChan hs4))

theorem searchJudge {c k sr pd vstr} (h : Spares litKept s t) : Spares litKept s (t.searchJudge c k sr pd vstr) := by
  refine h.trans ?_
  unfold State.searchJudge
  extract_lets s1 f among left sr1
  have hs1 : Spares litKept t s1 := .modChan .refl
  exact .ite (.searchDone hs1) (.searchStep (.modChan hs1))

theorem patternBad {c k rng} (h : Spares litKept s t) : Spares litKept s (t.patternBad c k rng) := by
  refine h.trans ?_
  unfold State.patternBad
  extract_lets code s1 s2 s3
  have hs1 : Spares litKept t s1 := .reportSub (.bump .refl)
  have hs2 : Spares litKept t s2 := .modChan .refl
  have hs3 : Spares litKept t s3 := .modLight hs2
  exact .ite (.channelFault hs1) (.report (.bump (.showPend hs3)))

theorem askRun {target c k at'} (h : Spares litKept s t) : Spares litKept s (t.askRun target c k at') :=
  h.touches (Touches.askRun .refl : Touches Touches.Parts.askRun _ _)

theorem diagPass {c k} (h : Spares litKept s t) : Spares litKept s (t.diagPass c k) := by
  refine h.trans ?_
  unfold State.diagPass
  extract_lets i x shown s1 p s2 s3
  have hs1 : Spares litKept t s1 := .modChan .refl
  have hs2 : Spares litKept t s2 := .askRun (.setCh hs1)
  have hs3 : Spares litKept t s3 := .ite (.report hs2) (.ite (.report (.askRun (.modChan (.setCh hs1)))) hs1)
  exact .ite .refl (.ite (.selectStandby hs3) hs3)

theorem faultEvent {c k cause pd expd vstr ve diag} (h : Spares litKept s t) : Spares litKept s
    (t.faultEvent c k cause pd expd vstr ve diag) :=
  h.touches (Touches.faultEvent .refl : Touches Touches.Parts.faultEvent _ _)

/-- A fault window shows the string voltage and spares the rest of the list. -/
theorem judgeWindow {c k pd vstr last} (h : Spares litKept s (t.wr (.lsr .vstrOfsVstr) (chanInst c k) vstr)) :
    Spares litKept s (t.judgeWindow c k pd vstr last) := by
  unfold State.judgeWindow
  extract_lets i x diag s1 hi1 expd miss rng check due ve off s2 v st s3
  have hs1 : Spares litKept s s1 := h
  have hs2 : Spares litKept s s2 := .ite (.modChan hs1) hs1
  have hs3 : Spares litKept s s3 := .cutDiag (.modChan (.windowFault hs2))
  split
  · exact .ite hs1 (.searchJudge hs1)
  · exact .ite hs1 (.ite (.patternBad hs1) (by
      split
      · exact .ite (.diagPass (.windowFault hs2)) (.windowFault hs2)
      · exact .ite (.modChan hs3) (.ite (.modChan hs3) (.ite (.patternBad hs3) (.channelFault (.faultEvent hs3))))))

theorem releaseLref {c k} (h : Spares litKept s t) : Spares litKept s (t.releaseLref c k) :=
  h.touches (Touches.releaseLref .refl : Touches Touches.Parts.releaseLref _ _)

theorem endDiag {c k} (h : Spares litKept s t) : Spares litKept s (t.endDiag c k) := by
  refine h.trans ?_
  unfold State.endDiag
  extract_lets s1
  have hs1 : Spares litKept t s1 := .ite (.modChan (.addLit .refl)) .refl
  exact .releaseLref hs1

theorem showDim {c} (h : Spares litKept s t) : Spares litKept s (t.showDim c) := by
  refine h.trans ?_
  unfold State.showDim
  extract_lets d
  exact .wr (.wr .refl)

theorem sendDump {c} (h : Spares litKept s t) : Spares litKept s (t.sendDump c) :=
  h.touches (Touches.sendDump .refl : Touches Touches.Parts.sendDump _ _)

end Spares

end Sys2Proof.Machine
end

section
/-! The light's interlock, stops, re-arms, thermistors, lamp frames and wear (R178 to R210). -/

namespace Sys2Proof.Machine

set_option Elab.async false

namespace NoRise

variable {s t : State}

theorem setLen {c : Fin 4} {k : Fin 6} (h : NoRise s t) : NoRise s (t.setLen c k false) := .setLenAt h

theorem contentLow {c : Fin 4} (h : NoRise s t) : NoRise s (t.contentLow c) := .foldl h fun _ _ hx => .setLen hx

theorem wantPatterns {c : Fin 4} {k : Fin 6} {hi lo : Nat} (h : NoRise s t) : NoRise s (t.wantPatterns c k hi lo) :=
  .wr (.modChan (.modLight h fun _ => rfl) fun _ e => e)

theorem setChState {c : Fin 4} {k : Fin 6} {st : Nat} (h : NoRise s t) : NoRise s (t.setChState c k st) :=
  h.touches (Touches.setChState .refl : Touches Touches.Parts.setChState t _)

theorem dropSearch {c : Fin 4} {k : Fin 6} (h : NoRise s t) : NoRise s (t.dropSearch c k) := by
  unfold State.dropSearch
  extract_lets s1 w
  have hs1 : NoRise s s1 := .wr (.setChState (.modChan h fun _ e => e))
  exact .ite h (.ite (.wantPatterns hs1) hs1)

theorem abandonSearches {c : Fin 4} (h : NoRise s t) : NoRise s (t.abandonSearches c) := .foldl h fun _ _ hx => .dropSearch hx

theorem abandonFade {c : Fin 4} (h : NoRise s t) : NoRise s (t.abandonFade c) := .ite h (.wr (.wr (.wr (.modLight h fun _ => rfl))))

theorem showOut {c : Fin 4} (h : NoRise s t) : NoRise s (t.showOut c) := .wr (.wr h)

end NoRise

/-- From s to t every cluster's fade stands. -/
def FadesKept (s t : State) : Prop := ∀ c : Fin 4, t.light[c].fade = s.light[c].fade

namespace FadesKept

variable {s t u : State}

theorem refl : FadesKept s s := fun _ => rfl

theorem trans (h : FadesKept s t) (k : FadesKept t u) : FadesKept s u := fun c => (k c).trans (h c)

theorem of_light (h : FadesKept s t) (e : u.light = t.light) : FadesKept s u := fun c => by rw [e]; exact h c

theorem touches {ps : List Part} (h : FadesKept s t) (k : Touches ps t u) (hp : Part.light ∉ ps := by decide) : FadesKept s u :=
  h.of_light (k .light hp)

theorem ite {p : Prop} [Decidable p] (h : FadesKept s t) (k : FadesKept s u) : FadesKept s (if p then t else u) := by
  split
  · exact h
  · exact k

theorem foldl {α : Type} {g : State → α → State} {l : List α} (h : FadesKept s t) (k : ∀ x a, FadesKept s x → FadesKept s (g x a)) :
    FadesKept s (l.foldl g t) := foldl_keeps (P := FadesKept s) k h

theorem wr {f : Fld} {i v : Nat} (h : FadesKept s t) : FadesKept s (t.wr f i v) := h.of_light rfl

theorem modLight {c : Fin 4} {f : Light → Light} (h : FadesKept s t) (hf : ∀ x, (f x).fade = x.fade := by intro _; rfl) :
    FadesKept s (t.modLight c f) :=
  h.trans fun d => by
    rw [State.modLight_light, vector_get_set]
    split
    next e => exact e ▸ hf _
    · rfl

theorem addLit {c : Fin 4} {k : Fin 6} {n pat : Nat} (h : FadesKept s t) : FadesKept s (t.addLit c k n pat) :=
  .modLight (.foldl (.wr h) fun _ _ hx => .ite hx (.wr hx))

theorem setLenAt {c : Fin 4} {k : Fin 6} {dly : Int} (h : FadesKept s t) : FadesKept s (t.setLenAt c k false dly) := by
  unfold State.setLenAt
  extract_lets s1 edge was s2 s3
  have hs3 : FadesKept s s3 := .modLight (.addLit (.modLight h))
  exact .ite h (.ite hs3 (.ite (hs3.of_light rfl) (hs3.of_light rfl)))

theorem contentLow {c : Fin 4} (h : FadesKept s t) : FadesKept s (t.contentLow c) := .foldl h fun _ _ hx => .setLenAt hx

theorem setChState {c : Fin 4} {k : Fin 6} {st : Nat} (h : FadesKept s t) : FadesKept s (t.setChState c k st) :=
  h.touches (Touches.setChState .refl : Touches Touches.Parts.setChState t _)

theorem dropSearch {c : Fin 4} {k : Fin 6} (h : FadesKept s t) : FadesKept s (t.dropSearch c k) := by
  unfold State.dropSearch
  extract_lets s1 w
  have hs1 : FadesKept s s1 := .wr (.setChState (.modLight h))
  exact .ite h (.ite (.wr (.modLight (.modLight hs1))) hs1)

theorem abandonSearches {c : Fin 4} (h : FadesKept s t) : FadesKept s (t.abandonSearches c) := .foldl h fun _ _ hx => .dropSearch hx

end FadesKept

namespace State

variable {s t : State}

/-! ### Interlock and stops -/

theorem setLen_low (s : State) (c : Fin 4) (k : Fin 6) : (s.setLen c k false).light[c].chans[k].len = false := setLenAt_low s c k 0

/-- `contentLow` leaves every LEN of its cluster low. -/
theorem contentLow_low (s : State) (c : Fin 4) : (s.contentLow c).lensAllLow c := by
  intro k
  refine foldl_of_mem (P := fun x : State => x.light[c].chans[k].len = false) (mem_allChans k) (fun x => ?_) (fun x j hx => ?_) s
  · exact setLen_low x c k
  · exact (NoRise.setLen .refl) c k hx

/-- Light that goes off at a trip leaves every LEN low (R180). -/
theorem lightGoesOff_low (s : State) (c : Fin 4) : (s.lightGoesOff c true).lensAllLow c := by
  unfold lightGoesOff
  extract_lets s1 s2
  exact lensAllLow_of_noRise (s := s2) (lensLow_low s1 c) (.showOut (.abandonSearches (.abandonFade .refl)))

/-- The interlock's input low, and TRIPPED with the light off (R180). -/
def tripped (s : State) (c : Fin 4) : State :=
  (((s.modLight c fun l => { l with intlkSince := none }).wr (.lsr .intlkIn) c 0).wr (.lsr .intlkTripped) c 1).lightGoesOff c true

theorem tripped_leaves (s : State) (c : Fin 4) {f : Fld} (hf : f ∈ litKept := by decide) :
    Leaves f (((s.modLight c fun l => { l with intlkSince := none }).wr (.lsr .intlkIn) c 0).wr (.lsr .intlkTripped) c 1) (s.tripped c) :=
  (Spares.lightGoesOff .refl).leaves hf

theorem tripped_trips (s : State) (c : Fin 4) (i : Nat) : (s.tripped c).rd (.lsr .intlkTrips) i = s.rd (.lsr .intlkTrips) i := by
  rw [(tripped_leaves s c).rd, rd_wr_ne_fld _ (by decide), rd_wr_ne_fld _ (by decide)]
  rfl

theorem tripped_errcnt (s : State) (c : Fin 4) (i : Nat) : (s.tripped c).rd (.st .intlk .errcnt) i = s.rd (.st .intlk .errcnt) i := by
  unfold tripped
  rw [(Touches.lightGoesOff .refl : Touches Touches.Parts.lightGoesOff _ _).rd (.st .intlk .errcnt) i,
    rd_wr_ne_fld _ (by decide), rd_wr_ne_fld _ (by decide)]
  rfl

theorem tripped_dev (s : State) (c : Fin 4) : (s.tripped c).dev = s.dev :=
  (Keeps.lightGoesOff .refl : Keeps false _ (s.tripped c)).dev

theorem interlockTrip_on {n : Nat} {c : Fin 4} (h : s.clusterOn c = true) : exec (.interlockTrip n c) s = .next
    (if s.on (.lsr .intlkTripped) c then (s.advance n).tripped c
     else (((s.advance n).tripped c).bump (.lsr .intlkTrips) c).report .intlk c 0x2501
        [(4, ((s.advance n).tripped c).shownFrame c)]) := by
  change execInterlockTrip n c s = _
  unfold execInterlockTrip
  extract_lets s1 s2 was s3
  have hwas : was = s.on (.lsr .intlkTripped) c := congrArg (· == 1) (rd_wr_ne_fld _ (by decide))
  have hon : s2.clusterOn c = true := h
  rw [hwas, if_neg (by simp [hon]), show s3 = (s.advance n).tripped c from rfl]

theorem showOut_leaves (s : State) (c : Fin 4) {f : Fld} (h1 : f ≠ .lsr .outLightoff := by decide) (h2 : f ≠ .lsr .outCause := by decide) :
    Leaves f s (s.showOut c) := .wr (.wrb .refl h1) h2

theorem startFade_leaves (s : State) (c : Fin 4) (kind : FadeKind) {f : Fld} (h : f ≠ .lsr .outFading := by decide) :
    Leaves f s (s.startFade c kind) := by
  unfold startFade
  extract_lets l m d dur target s1
  have hs1 : Leaves f s s1 := .wr ⟨fun _ => rfl⟩ h
  split
  · exact hs1.trans ⟨fun _ => rfl⟩
  · exact hs1

/-- TRIPPED cleared, and the start fade where the light is on again (R180). -/
def rearmed (s : State) (c : Fin 4) : State :=
  let s := (s.wr (.lsr .intlkTripped) c 0).showOut c
  if s.on (.lsr .outLightoff) c then s else s.startFade c .start

/-- The interlock's input, high for some time. -/
def intlkHigh (s : State) (c : Fin 4) (high : Nat) : State :=
  (s.modLight c fun l => { l with intlkSince := some (s.now - high) }).wrb (.lsr .intlkIn) c true

theorem rearmed_leaves (s : State) (c : Fin 4) {f : Fld} (h1 : f ≠ .lsr .outLightoff := by decide) (h2 : f ≠ .lsr .outCause := by decide)
    (h3 : f ≠ .lsr .outFading := by decide) : Leaves f (s.wr (.lsr .intlkTripped) c 0) (s.rearmed c) :=
  .ite (showOut_leaves _ c h1 h2) ((showOut_leaves _ c h1 h2).trans (startFade_leaves _ c .start h3))

theorem startFade_dev (s : State) (c : Fin 4) (kind : FadeKind) : (s.startFade c kind).dev = s.dev :=
  (Keeps.startFade .refl : Keeps false s _).dev

theorem rearmed_dev (s : State) (c : Fin 4) : (s.rearmed c).dev = s.dev := by
  unfold rearmed
  extract_lets s1
  split
  · rfl
  · exact startFade_dev s1 c .start

theorem interlockRearm_high {n high : Nat} {c : Fin 4} (hh : msCclk 100 ≤ high) (ht : s.on (.lsr .intlkTripped) c = true) :
    exec (.interlockRearm n c high) s =
      .next ((((s.advance n).intlkHigh c high).rearmed c).report .intlk c 0x1502 [(4, high / msCclk 1)]) := by
  change execInterlockRearm n c high s = _
  have h0 : high ≠ 0 := by
    rintro rfl
    exact absurd hh (by decide)
  unfold execInterlockRearm
  extract_lets s1 s2 s3 s4
  have hs2 : s2 = s1.intlkHigh c high := by
    simp only [s2, intlkHigh, bne_iff_ne.2 h0, beq_false_of_ne h0]
    rfl
  have ht2 : s2.on (.lsr .intlkTripped) c = true := by
    rw [hs2]
    exact (congrArg (· == 1) (rd_wrb_ne_fld _ (by decide))).trans ht
  rw [if_neg (by simp [ht2, Nat.not_lt.2 hh])]
  simp only [s4, s3, hs2]
  rfl

theorem startFade_stop (s : State) (c : Fin 4) : s.startFade c .stop = (s.modLight c fun l =>
    { l with
      dimNum := s.light[c].dimNum, dimDen := s.light[c].dimDen
      fade := some { kind := .stop, startNum := s.light[c].dimNum, startDen := s.light[c].dimDen, target := 0, acc := 0,
                     dur := msCclk (10 * min 200 (s.rd (.lsr .fadeStopT) c)) } }).wr (.lsr .outFading) c 1 := rfl

/-- An output that stops at once (R186), before its dump. -/
def stoppedAtOnce (s : State) (c : Fin 4) : State :=
  (((((s.modLight c fun l => { l with fade := none, dimNum := 0, dimDen := 1 }).wr (.lsr .outFading) c 0).showDim c).violate 9
    fun t _ q => (t == 5 || t == 6) && q == c.val).wr (.lsr .outStopped) c 1).contentLow c

theorem beginStop_now {c : Fin 4} (h : s.rd (.lsr .fadeStopT) c = 0) :
    s.beginStop c = (((s.stoppedAtOnce c).abandonSearches c).showOut c).sendDump c := by
  refine if_neg ?_
  simp [h]

theorem beginStop_now_stopped {c : Fin 4} (h : s.rd (.lsr .fadeStopT) c = 0) : (s.beginStop c).rd (.lsr .outStopped) c = 1 := by
  rw [beginStop_now h]
  have hs : Spares litKept _ (((s.stoppedAtOnce c).abandonSearches c).showOut c |>.sendDump c) :=
    .sendDump (.showOut (.abandonSearches (.contentLow .refl)))
  rw [(hs.leaves (f := .lsr .outStopped)).rd]
  exact rd_wr_of_lt ..

theorem beginStop_now_low {c : Fin 4} (h : s.rd (.lsr .fadeStopT) c = 0) : (s.beginStop c).lensAllLow c := by
  rw [beginStop_now h]
  exact lensAllLow_of_noRise (contentLow_low _ c) (.sendDump (.showOut (.abandonSearches .refl)))

theorem beginStop_now_fade {c : Fin 4} (h : s.rd (.lsr .fadeStopT) c = 0) : (s.beginStop c).light[c].fade = none := by
  have hnone : ((s.modLight c fun l => { l with fade := none, dimNum := 0, dimDen := 1 }).wr (.lsr .outFading) c 0).light[c].fade = none := by
    rw [wr_light, modLight_light, vector_get_set_self]
  generalize hs1 : (s.modLight c fun l => { l with fade := none, dimNum := 0, dimDen := 1 }).wr (.lsr .outFading) c 0 = s1 at hnone
  have hdim : FadesKept s1 (s1.showDim c) := .wr (.wr .refl)
  have hviol : FadesKept s1 ((s1.showDim c).violate 9 fun t _ q => (t == 5 || t == 6) && q == c.val) :=
    hdim.touches (Touches.violate .refl : Touches Touches.Parts.violate _ _)
  have hlow : FadesKept s1 (s.stoppedAtOnce c) := by
    unfold stoppedAtOnce
    rw [hs1]
    exact .contentLow (.wr hviol)
  have hout : FadesKept s1 (((s.stoppedAtOnce c).abandonSearches c).showOut c) := .wr (.wr (.abandonSearches hlow))
  have hdump := hout.touches (Touches.sendDump .refl : Touches Touches.Parts.sendDump _ ((((s.stoppedAtOnce c).abandonSearches c).showOut c).sendDump c))
  rw [beginStop_now h, hdump c, hnone]

/-- STOPPED cleared and the primaries filled, before the light shows (R186). -/
def outputRearmed (s : State) (c : Fin 4) : State :=
  (((s.modLight c fun l => { l with policyOff := false }).wr (.lsr .outStopped) c 0).fillPrimaries c).showOut c

theorem outputRearm_stopped {n : Nat} {c : Fin 4} (hs : s.on (.lsr .outStopped) c = true) (hp : s.light[c].policyOff = false) :
    exec (.outputRearm n c) s = .next (if ((s.advance n).outputRearmed c).on (.lsr .outLightoff) c then (s.advance n).outputRearmed c
      else ((s.advance n).outputRearmed c).startFade c .start) := by
  change execOutputRearm n c s = _
  refine if_neg ?_
  rw [show (s.advance n).on (.lsr .outStopped) c = true from hs, show (s.advance n).light[c].policyOff = false from hp]
  simp

theorem outputRearmed_stopped (s : State) (c : Fin 4) : (s.outputRearmed c).rd (.lsr .outStopped) c = 0 := by
  rw [outputRearmed, (showOut_leaves _ c).rd,
    (Touches.fillPrimaries .refl : Touches Touches.Parts.fillPrimaries _ _).rd (.lsr .outStopped) c]
  exact rd_wr_of_lt ..

/-! ### Channels -/

theorem wantPatterns_writes (s : State) (c : Fin 4) (k : Fin 6) (hi lo : Nat) :
    WritesOnly (inList [(.lsr .lampPend, c.val)]) s (s.wantPatterns c k hi lo) :=
  .wrb (.same .refl fun _ _ => rfl) (by simp)

theorem wantPatterns_rearm (s : State) (c : Fin 4) (k : Fin 6) (hi lo : Nat) :
    (s.wantPatterns c k hi lo).light[c].chans[k].rearm = s.light[c].chans[k].rearm := by
  unfold wantPatterns showPend
  extract_lets x s1
  rw [wrb_light, modChan_chan, if_pos ⟨rfl, rfl⟩]
  simp only [s1, modLight_light, vector_get_set_self]

theorem askRun_light (s : State) (target : Nat) (c : Fin 4) (k : Fin 6) (n : Nat) : (s.askRun target c k n).light = s.light := rfl

/-- A FAILED channel whose re-arm has been asked for (R205). -/
def rearmAsked (s : State) (c : Fin 4) (k : Fin 6) : State := (s.modChan c k fun x => { x with rearm := true }).askRun 3 c k s.now

theorem channelRearm_failed {n : Nat} {c : Fin 4} {k : Fin 6} (h5 : s.chState c k = 5) (ht : s.light[c].chans[k].thermal = false) :
    exec (.channelRearm n c k) s = .next (if ((s.advance n).rearmAsked c k).light[c].chans[k].search.isSome then (s.advance n).rearmAsked c k
      else ((s.advance n).rearmAsked c k).wantPatterns c k ((s.advance n).bypassBad c k).1 ((s.advance n).bypassBad c k).2) := by
  change execChannelRearm n c k s = _
  refine congrArg _ (if_neg ?_)
  rw [show (s.advance n).chState c k = 5 from h5, show (s.advance n).light[c].chans[k].thermal = false from ht]
  simp

theorem rearmAsked_rearm (s : State) (c : Fin 4) (k : Fin 6) : (s.rearmAsked c k).light[c].chans[k].rearm = true := by
  rw [rearmAsked, askRun_light, modChan_chan, if_pos ⟨rfl, rfl⟩]

end State

/-- Settles O54, one equation for each command. -/
theorem lightCommands : Obligations.LightCommands := by
  unfold Obligations.LightCommands
  refine ⟨fun n c s hon => ?_, fun n high c s hh ht => ?_, fun n c s hs hf => ?_, fun n c s hs hf => ?_, fun n c s hs hp => ?_,
    fun n c k s h5 ht => ?_, fun n c k s => ?_⟩
  · have hnext := State.interlockTrip_on (n := n) hon
    have htrip : ((s.advance n).tripped c).rd (.lsr .intlkTripped) c = 1 := by
      rw [(State.tripped_leaves _ c).rd]
      exact State.rd_wr_of_lt ..
    have hin : ((s.advance n).tripped c).rd (.lsr .intlkIn) c = 0 := by
      rw [(State.tripped_leaves _ c).rd, State.rd_wr_ne_fld _ (by decide)]
      exact State.rd_wr_of_lt ..
    have hlow : ((s.advance n).tripped c).lensAllLow c := State.lightGoesOff_low _ c
    have hmem := KeepsNext.sameMemory (KeepsNext.execInterlockTrip .refl) hnext
    cases hwas : s.on (.lsr .intlkTripped) c with
    | true =>
      rw [if_pos hwas] at hnext hmem
      exact ⟨_, hnext, htrip, hin, hlow, nofun, hmem⟩
    | false =>
      rw [if_neg (by simp [hwas])] at hnext hmem
      refine ⟨_, hnext, ?_, ?_, fun k => ?_, fun _ => ⟨?_, ?_⟩, hmem⟩
      · rw [(Leaves.report .refl : Leaves (.lsr .intlkTripped) _ _).rd, State.rd_bump_ne_fld _ (by decide), htrip]
      · rw [(Leaves.report .refl : Leaves (.lsr .intlkIn) _ _).rd, State.rd_bump_ne_fld _ (by decide), hin]
      · rw [State.report_light, State.bump_light]
        exact hlow k
      · rw [Bumped, (Leaves.report .refl : Leaves (.lsr .intlkTrips) _ _).rd, State.rd_bump, State.tripped_trips]
        simp
      · exact State.report_raised_of ((State.bump_dev ..).trans (State.tripped_dev _ c)) ((State.rd_bump_ne_fld _ (by decide)).trans (State.tripped_errcnt _ c c))
  · have hnext := State.interlockRearm_high (n := n) hh ht
    refine ⟨_, hnext, ?_, ?_, ?_, KeepsNext.sameMemory (KeepsNext.execInterlockRearm .refl) hnext⟩
    · rw [(Leaves.report .refl : Leaves (.lsr .intlkTripped) _ _).rd, (State.rearmed_leaves _ c).rd]
      exact State.rd_wr_of_lt ..
    · rw [(Leaves.report .refl : Leaves (.lsr .intlkIn) _ _).rd, (State.rearmed_leaves _ c).rd, State.rd_wr_ne_fld _ (by decide)]
      exact State.rd_wrb_same _ _ _ true
    · refine State.report_raised_of (State.rearmed_dev _ c) ?_
      rw [(State.rearmed_leaves _ c).rd, State.rd_wr_ne_fld _ (by decide)]
      exact State.rd_wrb_ne_fld _ (by decide)
  · have hnext : exec (.outputStop n c) s = .next ((s.advance n).startFade c .stop) := by
      refine congrArg _ ((if_neg ?_).trans (if_pos ?_))
      · simpa using hs
      · simpa using hf
    refine ⟨_, hnext, ?_, ?_, KeepsNext.sameMemory (KeepsNext.execOutputStop .refl) hnext⟩
    · rw [State.startFade_stop, State.wr_light, State.modLight_light, vector_get_set_self]
      exact ⟨_, rfl, rfl, rfl, rfl, rfl, rfl⟩
    · exact WritesOnly.onlyRegs (.wr (.same .refl fun _ _ => rfl) (by simp))
  · have hnext : exec (.outputStop n c) s = .next ((s.advance n).beginStop c) := congrArg _ (if_neg (by simpa using hs))
    exact ⟨_, hnext, State.beginStop_now_stopped hf, State.beginStop_now_low hf, State.beginStop_now_fade hf,
      KeepsNext.sameMemory (KeepsNext.execOutputStop .refl) hnext⟩
  · have hnext := State.outputRearm_stopped (n := n) hs hp
    refine ⟨_, hnext, ?_, KeepsNext.sameMemory (KeepsNext.execOutputRearm .refl) hnext⟩
    split
    · exact State.outputRearmed_stopped _ c
    · exact ((State.startFade_leaves _ c .start).rd _).trans (State.outputRearmed_stopped _ c)
  · have hnext := State.channelRearm_failed (n := n) h5 ht
    have hrearm := State.rearmAsked_rearm (s.advance n) c k
    have hwrites : WritesOnly (inList [(.lsr .lampPend, c.val)]) s ((s.advance n).rearmAsked c k) := .same .refl fun _ _ => rfl
    refine ⟨_, hnext, ?_, ?_, KeepsNext.sameMemory (KeepsNext.execChannelRearm .refl) hnext⟩
    · split
      · exact hrearm
      · exact (State.wantPatterns_rearm ..).trans hrearm
    · exact WritesOnly.onlyRegs (.ite hwrites (hwrites.trans (State.wantPatterns_writes _ c k _ _)))
  · refine ⟨_, rfl, ?_, fun j hj => ?_, fun f i _ => rfl, rfl, rfl, rfl⟩
    · rw [State.modChan_chan, if_pos ⟨rfl, rfl⟩]
      rfl
    · rw [State.modChan_chan, if_neg fun e => hj e.2.symm]
      rfl

end Sys2Proof.Machine
end

section
/-! Thermistors, lamp frames, fault windows and wear (R189 to R210). -/

namespace Sys2Proof.Machine

set_option Elab.async false

namespace State

variable {s t : State}

/-- A signed value that fits a 16-bit word reads back. -/
theorem signed_unsigned16 {v : Int} (h1 : -2 ^ 15 ≤ v) (h2 : v < 2 ^ 15) : signed 16 (unsigned 16 (satI 16 v)) = v := by
  have hsat : satI 16 v = v := by
    simp only [satI, clampI]
    omega
  rw [hsat]
  simp only [signed, unsigned, bit, beq_iff_eq]
  split <;> omega

theorem signed_mod (w v : Nat) (hw : 0 < w) : signed w (v % 2 ^ w) = signed w v := by
  have hb : bit (v % 2 ^ w) (w - 1) = bit v (w - 1) := by
    rw [bit_eq_testBit, bit_eq_testBit, Nat.testBit_mod_two_pow]
    simp [hw]
  simp only [signed, hb, Nat.mod_mod]

theorem rdI_wrI16 (s : State) (f : Fld) (i : Nat) (hf : f.info.width = 16) {v : Int} (h1 : -2 ^ 15 ≤ v) (h2 : v < 2 ^ 15) :
    (s.wrI f i v).rdI f i = v := by
  rw [rdI, wrI, rd_wr_same, hf, signed_mod _ _ (by decide), signed_unsigned16 h1 h2]

/-- A thermistor sample's temperature and validity as shown (R189). -/
def thermistorShown (s : State) (c i : Fin 4) (raw : Nat) (temp : Int) : State :=
  (s.wrI (.lsr .tsenTemp) (c.val * 4 + i.val) temp).tsenValidity c i raw (-320 ≤ temp && temp ≤ 2400)

theorem tsenValidity_temp (s : State) (c i : Fin 4) (raw : Nat) (ok : Bool) (j : Nat) :
    (s.tsenValidity c i raw ok).rd (.lsr .tsenTemp) j = s.rd (.lsr .tsenTemp) j := by
  have hs : Leaves (.lsr .tsenTemp) s (s.tsenValidity c i raw ok) := .ite (.report (.wrb ⟨fun _ => rfl⟩)) (.wrb ⟨fun _ => rfl⟩)
  exact hs.rd j

theorem tsenValidity_valid (s : State) (c i : Fin 4) (raw : Nat) (ok : Bool) :
    (s.tsenValidity c i raw ok).rd (.lsr .tsenValid) (c.val * 4 + i.val) = b2n ok := by
  have hs : Leaves (.lsr .tsenValid) ((s.modLight c fun l => { l with tsenBad := l.tsenBad.set i (!ok) }).wrb (.lsr .tsenValid) (c.val * 4 + i.val) ok)
      (s.tsenValidity c i raw ok) := .ite (.report .refl) .refl
  rw [hs.rd]
  exact rd_wrb_same ..

/-- What follows a thermistor sample leaves the interlock, the thermistors and the measured voltages as they show. -/
theorem thermistorSample_powered {n raw : Nat} {temp : Int} {c i : Fin 4} (hd : s.domOn (9 + c.val) = true)
    (hh : s.halted .tsen (c.val * 4 + i.val) = false) :
    ∃ r, exec (.thermistorSample n c i raw temp) s = .next r ∧ Spares litKept ((s.advance n).thermistorShown c i raw temp) r := by
  refine ⟨_, if_neg ?_, ?_⟩
  · change ¬ (!s.domOn (9 + c.val) || s.halted .tsen (c.val * 4 + i.val)) = true
    simp [hd, hh]
  · have htsen : ∀ (ok : Prop) [Decidable ok] (x : State) f, Spares litKept x (if ok then x.modLight c f else x) :=
      fun ok _ x f => .ite (.modLight .refl) .refl
    exact .updateCeiling (.ite (.foldl (.strobe (htsen ..)) fun _ _ hx => .bankTemp hx) (.strobe (htsen ..)))

/-- A fault window of a pulse under way, before its end (R197). -/
theorem faultWindow_lit {n pd vstr : Nat} {last : Bool} {c : Fin 4} {k : Fin 6} (hd : s.domOn (9 + c.val) = true)
    (hp : s.light[c].chans[k].diagOn = true ∨ (s.light[c].chans[k].len = true ∧ 16384 ≤ dimD s.light[c].segDim[primOf k])) :
    ∃ r, exec (.faultWindow n c k pd vstr last) s = .next r
      ∧ Spares litKept ((s.advance n).wr (.lsr .vstrOfsVstr) (chanInst c k) (vstr % 2 ^ 12)) r := by
  refine ⟨_, if_neg ?_, ?_⟩
  · change ¬ (!s.domOn (9 + c.val) || !(s.light[c].chans[k].diagOn || (s.light[c].chans[k].len && !decide (dimD s.light[c].segDim[primOf k] < 16384)))) = true
    rcases hp with hp | ⟨hl, hs⟩
    · simp [hd, hp, -Fin.getElem_fin]
    · simp [hd, hl, hs, -Fin.getElem_fin]
  · exact .ite (.endDiag (.judgeWindow .refl)) (.judgeWindow .refl)

/-! ### Lamp frames -/

/-- The load that a lamp frame of a range carries (R190). -/
def lampLoad (s : State) (c : Fin 4) (high : Bool) : LampLoad :=
  { range := if high then .high else .low
    pats := allChans.map fun k => (k.val, if high then s.light[c].chans[k].wantH else s.light[c].chans[k].wantL)
    endAt := s.now + lampTime (s.lampLength c)
    dumpOnly := !high && allChans.any fun k => s.light[c].chans[k].wear }

/-- A lamp frame that has gone out, before its bits (R190, R194). -/
def lampSent (s : State) (c : Fin 4) (high : Bool) : State :=
  let s' := s.violate 6 fun t _ q => (t == 5 || t == 6) && q == c.val
  let s' := s'.modLight c fun y =>
    { y with load := some (s.lampLoad c high), lampEnd := (s.lampLoad c high).endAt, pendHigh := y.pendHigh && !high, pendLow := y.pendLow && high }
  ((s'.wr (.lsr .lampBusy) c 1).wr (.lsr .lampSeq) c ((s.rd (.lsr .lampSeq) c + 1) % 8)).showPend c

theorem ite_emit (s : State) (b : Bool) (o : Output) : (if b then s.emit o else s) = s ∨ ∃ p, (if b then s.emit o else s) = s.emit p := by
  cases b
  · exact .inl rfl
  · exact .inr ⟨o, rfl⟩

theorem lampFrameSend_due {n : Nat} {c : Fin 4} {high : Bool} (hl : s.light[c].load = none)
    (hp : (if high then s.light[c].pendHigh else s.light[c].pendLow) = true) (hd : s.domOn (9 + c.val) = true) (h8 : s.domOn 8 = true)
    (ha : s.light[c].latchAt ≤ max s.now n) (he : s.light[c].lampEnd + usCclk 10 ≤ max s.now n) (hh : s.halted .lamp c = false) :
    ∃ r, exec (.lampFrameSend n c high) s = .next r ∧ (r = (s.advance n).lampSent c high ∨ ∃ o, r = ((s.advance n).lampSent c high).emit o) := by
  refine ⟨_, if_neg ?_, ?_⟩
  · change ¬ (s.light[c].load.isSome || decide (max s.now n < s.light[c].latchAt) || decide (max s.now n < s.light[c].lampEnd + usCclk 10)
      || !(if high then s.light[c].pendHigh else s.light[c].pendLow) || !s.domOn (9 + c.val) || !s.domOn 8 || s.halted .lamp c) = true
    simp [hl, hp, hd, h8, hh, Nat.not_lt.2 ha, Nat.not_lt.2 he, -Fin.getElem_fin]
  · exact ite_emit ((s.advance n).lampSent c high) _ _

theorem lampSent_load (s : State) (c : Fin 4) (high : Bool) : (s.lampSent c high).light[c].load = some (s.lampLoad c high) := by
  unfold lampSent
  extract_lets s1 s2
  rw [showPend, wrb_light, wr_light, wr_light, modLight_light, vector_get_set_self]

theorem violate_rd (s : State) (code : Nat) (hit : Nat → Nat → Nat → Bool) (f : Fld) (i : Nat) : (s.violate code hit).rd f i = s.rd f i := by
  refine foldl_keeps (P := fun x : State => x.rd f i = s.rd f i) (fun x e hx => ?_) rfl
  extract_lets st
  split
  · exact hx
  · exact hx

theorem lampSent_writes (s : State) (c : Fin 4) (high : Bool) :
    WritesOnly (inList [(.lsr .lampBusy, c.val), (.lsr .lampSeq, c.val), (.lsr .lampPend, c.val)]) s (s.lampSent c high) := by
  unfold lampSent
  extract_lets s1 s2
  have hs1 : ∀ f i, s1.rd f i = s.rd f i := violate_rd s _ _
  have hs2 : WritesOnly (inList [(.lsr .lampBusy, c.val), (.lsr .lampSeq, c.val), (.lsr .lampPend, c.val)]) s s2 :=
    fun f i _ => (modLight_rd ..).trans (hs1 f i)
  exact .wrb (.wr (.wr hs2 (by simp)) (by simp)) (by simp)

theorem lampSent_busy (s : State) (c : Fin 4) (high : Bool) : (s.lampSent c high).rd (.lsr .lampBusy) c = 1 := by
  rw [lampSent, showPend, rd_wrb_ne_fld _ (by decide), rd_wr_ne_fld _ (by decide)]
  exact rd_wr_of_lt ..

theorem lampSent_seq (s : State) (c : Fin 4) (high : Bool) : (s.lampSent c high).rd (.lsr .lampSeq) c = (s.rd (.lsr .lampSeq) c + 1) % 8 := by
  rw [lampSent, showPend, rd_wrb_ne_fld _ (by decide)]
  exact rd_wr_of_lt _ _ _ (Nat.mod_lt _ (by decide))

/-! ### Wear -/

/-- What a wear rotation does of a channel (R210). -/
def wearStep (c : Fin 4) (s : State) (k : Fin 6) : State :=
  let i := chanInst c k
  if s.chState c k == 0 || s.rd (.lsr .chStateNlitH) i ≤ s.rd (.lsr .bankNlow) i then s else
  let lo := s.lowPattern c k
  let s := (s.modChan c k fun x => { x with wear := true }).modLight c fun l => { l with pendLow := true }
  s.wantPatterns c k s.light[c].chans[k].wantH lo

/-- A wear rotation is due (R210). -/
def WearDue (s : State) (n : Nat) (c : Fin 4) : Prop :=
  s.rd (.lsr .wearInterval) c ≠ 0 ∧ s.light[c].wearAt + s.rd (.lsr .wearInterval) c * msCclk 60000 ≤ max s.now n

theorem wearRotation_deferred {n : Nat} {c : Fin 4} (h : s.WearDue n c) (hl : s.light[c].load.isSome = true) :
    exec (.wearRotation n c) s = .next ((((s.advance n).modLight c fun l => { l with wearAt := max s.now n }).wr (.lsr .wearDue) c 1).bump
      (.lsr .wearDefers) c) := by
  obtain ⟨h0, hdue⟩ := h
  refine (if_neg ?_).trans (if_pos ?_)
  · change ¬ (s.rd (.lsr .wearInterval) c == 0 || (decide (max s.now n < s.light[c].wearAt + s.rd (.lsr .wearInterval) c * msCclk 60000) && _)) = true
    simp [h0, Nat.not_lt.2 hdue, -Fin.getElem_fin]
  · change (s.light[c].load.isSome || _ || _ || _ || _ || _) = true
    rw [hl]
    simp

theorem wearRotation_taken {n : Nat} {c : Fin 4} (h : s.WearDue n c) (hl : s.light[c].load = none) (ha : s.light[c].latchAt ≤ max s.now n)
    (hh : s.light[c].pendHigh = false) (hlo : s.light[c].pendLow = false) (hs : ∀ k : Fin 6, s.light[c].chans[k].search = none)
    (ho : s.on (.lsr .outLightoff) c = false) :
    exec (.wearRotation n c) s = .next (allChans.foldl (wearStep c)
      (((s.advance n).modLight c fun l => { l with wearAt := max s.now n }).wr (.lsr .wearDue) c 0)) := by
  obtain ⟨h0, hdue⟩ := h
  have hsearch : (allChans.any fun k => s.light[c].chans[k].search.isSome) = false := by simp [hs, -Fin.getElem_fin]
  refine (if_neg ?_).trans (if_neg ?_)
  · change ¬ (s.rd (.lsr .wearInterval) c == 0 || (decide (max s.now n < s.light[c].wearAt + s.rd (.lsr .wearInterval) c * msCclk 60000) && _)) = true
    simp [h0, Nat.not_lt.2 hdue, -Fin.getElem_fin]
  · change ¬ (s.light[c].load.isSome || decide (max s.now n < s.light[c].latchAt) || s.light[c].pendHigh || s.light[c].pendLow
      || (allChans.any fun k => s.light[c].chans[k].search.isSome) || s.on (.lsr .outLightoff) c) = true
    rw [hsearch, hl, hh, hlo, ho]
    simp [Nat.not_lt.2 ha, -Fin.getElem_fin]

/-- What a fold of `wearStep` keeps: every register but one, and the patterns the wear of a channel asks for. -/
structure Worn (c : Fin 4) (s t : State) : Prop where
  writes : WritesOnly (inList [(.lsr .lampPend, c.val)]) s t
  wearAt : t.light[c].wearAt = s.light[c].wearAt

theorem Worn.others {c : Fin 4} (h : Worn c s t) (f : Fld) (i : Nat) (hf : f ≠ .lsr .lampPend) : t.rd f i = s.rd f i :=
  h.writes f i (by simp [inList, hf])

/-- A wear rotation has asked for the least worn low pattern of a channel (R210). -/
def WearAsked (c : Fin 4) (k : Fin 6) (s t : State) : Prop :=
  t.light[c].pendLow = true ∧ t.light[c].chans[k].wear = true ∧ t.light[c].chans[k].wantL = s.lowPattern c k

theorem wantPatterns_light (s : State) (c : Fin 4) (k : Fin 6) (hi lo : Nat) : (s.wantPatterns c k hi lo).light =
    ((s.modLight c fun l => { l with pendHigh := l.pendHigh || s.light[c].chans[k].wantH != hi, pendLow := l.pendLow || s.light[c].chans[k].wantL != lo
      }).modChan c k fun x => { x with wantH := hi, wantL := lo }).light := rfl

theorem wantPatterns_wearAt (s : State) (c : Fin 4) (k : Fin 6) (hi lo : Nat) : (s.wantPatterns c k hi lo).light[c].wearAt = s.light[c].wearAt := by
  simp only [wantPatterns_light, modChan, modLight_light, vector_get_set_self]

theorem wantPatterns_pendLow (s : State) (c : Fin 4) (k : Fin 6) (hi lo : Nat) :
    (s.wantPatterns c k hi lo).light[c].pendLow = (s.light[c].pendLow || s.light[c].chans[k].wantL != lo) := by
  simp only [wantPatterns_light, modChan, modLight_light, vector_get_set_self]

theorem wantPatterns_chan (s : State) (c : Fin 4) (k j : Fin 6) (hi lo : Nat) :
    (s.wantPatterns c k hi lo).light[c].chans[j] =
      if k = j then { s.light[c].chans[k] with wantH := hi, wantL := lo } else s.light[c].chans[j] := by
  simp only [wantPatterns_light, modChan_chan, modLight_light, vector_get_set_self, true_and]

theorem leastWorn_congr (h : ∀ i, t.rd (.lsr .emitSec) i = s.rd (.lsr .emitSec) i) (i n : Nat) (l : List Nat) :
    t.leastWorn i n l = s.leastWorn i n l := by
  induction n generalizing l with
  | zero => rfl
  | succ n ih => simp only [leastWorn, h, ih]

theorem lowPattern_congr {g : Fld} (hrd : ∀ f i, f ≠ g → t.rd f i = s.rd f i) (c : Fin 4) (k : Fin 6)
    (h1 : .lsr .bankNlow ≠ g := by decide) (h2 : .lsr .bankNemit ≠ g := by decide) (h3 : .lsr .badMask ≠ g := by decide)
    (h4 : .lsr .emitSec ≠ g := by decide) : t.lowPattern c k = s.lowPattern c k := by
  simp only [lowPattern, healthyPattern, hrd (.lsr .bankNlow) _ h1, hrd (.lsr .bankNemit) _ h2, hrd (.lsr .badMask) _ h3,
    leastWorn_congr fun i => hrd (.lsr .emitSec) i h4]

theorem wearStep_worn {c : Fin 4} (k : Fin 6) (h : Worn c s t) : Worn c s (wearStep c t k) := by
  unfold wearStep
  extract_lets i lo t1
  split
  · exact h
  · refine ⟨h.writes.trans ?_, ?_⟩
    · exact WritesOnly.trans (.same .refl fun _ _ => rfl) (wantPatterns_writes t1 c k _ _)
    · refine (wantPatterns_wearAt ..).trans (Eq.trans ?_ h.wearAt)
      simp only [t1, modLight_light, modChan, vector_get_set_self]

/-- A wear step asks for the least worn low pattern of its channel, and keeps what earlier steps asked for. -/
theorem wearStep_asks {c : Fin 4} {k : Fin 6} (h : Worn c s t) (h0 : s.chState c k ≠ 0)
    (hn : s.rd (.lsr .bankNlow) (chanInst c k) < s.rd (.lsr .chStateNlitH) (chanInst c k)) : WearAsked c k s (wearStep c t k) := by
  have hrd := h.others
  unfold wearStep
  extract_lets i lo t1
  have hskip : ¬ (t.chState c k == 0 || t.rd (.lsr .chStateNlitH) i ≤ t.rd (.lsr .bankNlow) i) = true := by
    rw [chState, hrd _ _ (by decide), hrd _ _ (by decide), hrd _ _ (by decide)]
    simp only [chState] at h0
    simp [h0, Nat.not_le.2 hn, i]
  rw [if_neg hskip]
  refine ⟨?_, ?_, ?_⟩
  · rw [wantPatterns_pendLow]
    simp only [t1, modLight_light, vector_get_set_self, Bool.true_or]
  · rw [wantPatterns_chan, if_pos rfl]
    simp only [t1, modChan, modLight_light, vector_get_set_self]
  · rw [wantPatterns_chan, if_pos rfl]
    exact lowPattern_congr hrd c k

theorem wearStep_asked {c : Fin 4} {k j : Fin 6} (hw : Worn c s t) (h : WearAsked c k s t) : WearAsked c k s (wearStep c t j) := by
  obtain ⟨hpend, hwear, hlow⟩ := h
  unfold wearStep
  extract_lets i lo t1
  split
  · exact ⟨hpend, hwear, hlow⟩
  · have hpend1 : t1.light[c].pendLow = true := by simp only [t1, modLight_light, vector_get_set_self]
    have hchan1 : j ≠ k → t1.light[c].chans[k] = t.light[c].chans[k] := fun hj => by
      simp only [t1, modLight_light, modChan, vector_get_set_self, vector_get_set_ne _ _ (Ne.symm hj)]
    refine ⟨?_, ?_, ?_⟩
    · rw [wantPatterns_pendLow, hpend1, Bool.true_or]
    · rw [wantPatterns_chan]
      split
      next hj => simp only [t1, modLight_light, modChan, vector_get_set_self]
      next hj => rw [hchan1 hj, hwear]
    · rw [wantPatterns_chan]
      split
      next hj => exact hj ▸ lowPattern_congr hw.others c j
      next hj => rw [hchan1 hj, hlow]

theorem wearFold_worn (s : State) (c : Fin 4) : Worn c s (allChans.foldl (wearStep c) s) :=
  foldl_keeps (P := Worn c s) (fun _ k hx => wearStep_worn k hx) ⟨.refl, rfl⟩

theorem wearFold_asked {c : Fin 4} {k : Fin 6} (h0 : s.chState c k ≠ 0)
    (hn : s.rd (.lsr .bankNlow) (chanInst c k) < s.rd (.lsr .chStateNlitH) (chanInst c k)) :
    WearAsked c k s (allChans.foldl (wearStep c) s) := by
  have hboth : ∀ l : List (Fin 6), k ∈ l → ∀ x, Worn c s x → Worn c s (l.foldl (wearStep c) x) ∧ WearAsked c k s (l.foldl (wearStep c) x) :=
    fun l hk x hx => foldl_of_mem_inv (I := Worn c s) (P := fun y => Worn c s y ∧ WearAsked c k s y) hk (fun _ j hy => wearStep_worn j hy)
      (fun y hy => ⟨wearStep_worn k hy, wearStep_asks hy h0 hn⟩) (fun y j hy => ⟨wearStep_worn j hy.1, wearStep_asked hy.1 hy.2⟩) hx
  exact (hboth _ (mem_allChans k) s ⟨.refl, rfl⟩).2

end State

/-- Settles O55, one equation for each command; the rotation goes through the channels one by one. -/
theorem lightMeasurements : Obligations.LightMeasurements := by
  unfold Obligations.LightMeasurements
  refine ⟨fun n raw temp c i s hd hh h1 h2 => ?_, fun n c high s hl hp hd h8 ha he hh => ?_, fun n pd vstr last c k s hd hp => ?_,
    fun n c s h0 hdue hl => ?_, fun n c s h0 hdue hl ha hph hpl hs ho => ?_⟩
  · obtain ⟨r, hnext, hr⟩ := State.thermistorSample_powered (n := n) (raw := raw) (temp := temp) hd hh
    refine ⟨r, hnext, ?_, ?_, KeepsNext.sameMemory (KeepsNext.execThermistorSample .refl) hnext⟩
    · rw [State.rdI, (hr.leaves (f := .lsr .tsenTemp)).rd, State.thermistorShown, State.tsenValidity_temp]
      exact State.rdI_wrI16 _ _ _ rfl h1 h2
    · rw [(hr.leaves (f := .lsr .tsenValid)).rd]
      exact State.tsenValidity_valid ..
  · obtain ⟨r, hnext, hr⟩ := State.lampFrameSend_due hl hp hd h8 ha he hh
    have hshown : r.light = ((s.advance n).lampSent c high).light ∧ ∀ f j, r.rd f j = ((s.advance n).lampSent c high).rd f j := by
      rcases hr with rfl | ⟨o, rfl⟩
      · exact ⟨rfl, fun _ _ => rfl⟩
      · exact ⟨State.emit_light .., State.emit_rd _ o⟩
    obtain ⟨hlight, hrd⟩ := hshown
    refine ⟨r, (s.advance n).lampLoad c high, hnext, ?_, rfl, rfl, ?_, ?_, ?_, KeepsNext.sameMemory (KeepsNext.execLampFrameSend .refl) hnext⟩
    · rw [hlight, State.lampSent_load]
    · rw [hrd, State.lampSent_busy]
    · rw [hrd, State.lampSent_seq]
      rfl
    · exact WritesOnly.onlyRegs (WritesOnly.same (State.lampSent_writes (s.advance n) c high) hrd)
  · obtain ⟨r, hnext, hr⟩ := State.faultWindow_lit (n := n) (pd := pd) (vstr := vstr) (last := last) hd hp
    refine ⟨r, hnext, ?_, KeepsNext.sameMemory (KeepsNext.execFaultWindow .refl) hnext⟩
    rw [(hr.leaves (f := .lsr .vstrOfsVstr)).rd]
    exact State.rd_wr_of_lt _ _ _ (Nat.mod_lt _ (by decide))
  · have hnext := State.wearRotation_deferred ⟨h0, hdue⟩ hl
    refine ⟨_, hnext, ?_, ?_, ?_, ?_, KeepsNext.sameMemory (KeepsNext.execWearRotation .refl) hnext⟩
    · rw [State.rd_bump_ne_fld _ (by decide)]
      exact State.rd_wr_of_lt ..
    · rw [Bumped, State.rd_bump, if_pos ⟨rfl, rfl⟩, State.rd_wr_ne_fld _ (by decide)]
      rfl
    · rw [State.bump_light, State.wr_light, State.modLight_light, vector_get_set_self]
    · exact WritesOnly.onlyRegs (.bump (.wr (.same .refl fun _ _ => rfl) (by simp)) (by simp))
  · have hnext := State.wearRotation_taken ⟨h0, hdue⟩ hl ha hph hpl hs ho
    generalize hu : ((s.advance n).modLight c fun l => { l with wearAt := max s.now n }).wr (.lsr .wearDue) c 0 = u at hnext
    have hurd : ∀ f j, f ≠ .lsr .wearDue → u.rd f j = s.rd f j := fun f j hf => by
      rw [← hu]
      exact State.rd_wr_ne_fld _ hf
    have hworn := State.wearFold_worn u c
    refine ⟨_, hnext, ?_, ?_, fun k hk hn => ?_, ?_, KeepsNext.sameMemory (KeepsNext.execWearRotation .refl) hnext⟩
    · rw [hworn.writes _ _ (by simp), ← hu]
      exact State.rd_wr_of_lt ..
    · rw [hworn.wearAt, ← hu, State.wr_light, State.modLight_light, vector_get_set_self]
    · have hasked : State.WearAsked c k u _ := State.wearFold_asked
        (by rw [State.chState, hurd _ _ (by decide)]; exact hk) (by rw [hurd _ _ (by decide), hurd _ _ (by decide)]; exact hn)
      obtain ⟨hpend, hwear, hwant⟩ := hasked
      exact ⟨hpend, hwear, hwant.trans (State.lowPattern_congr hurd c k)⟩
    · have hdue : WritesOnly (inList [(.lsr .wearDue, c.val), (.lsr .lampPend, c.val)]) s u := by
        rw [← hu]
        exact .wr (.same .refl fun _ _ => rfl) (by simp)
      exact WritesOnly.onlyRegs (hdue.trans (hworn.writes.mono fun f j hf => List.mem_cons_of_mem _ hf))

end Sys2Proof.Machine
end

section
/-! Coherent commits over the chain (R394 to R409). -/

namespace Sys2Proof.Machine

set_option Elab.async false

namespace State

variable {s t : State}

/-! ### Messages of the chain -/

theorem chainRecv_msg {n type : Nat} {m : List Byte} (h : ChainMsg s type m) (f : State → State) :
    (s.advance n).chainRecv type (m.map BitVec.toNat) f = f (s.advance n) := by
  obtain ⟨hd, hok, ht⟩ := h
  unfold chainRecv
  rw [if_neg (by simp [show (s.advance n).domOn 8 = true from hd]), if_neg (by simp [hok]), if_neg (by rw [ht]; simp)]

/-- A message for this module is handled and forwarded (R394). -/
theorem chainDown_forUs {n type : Nat} {m : List Byte} (h : ChainMsg s type m) (hf : ForUs s m) (onward : State → List Nat) (f : State → State) :
    (s.advance n).chainDown type (m.map BitVec.toNat) onward f = (f (s.advance n)).emit (.chain 1 (onward (s.advance n))) := by
  have hdest : (msgField (m.map BitVec.toNat) 1 1 == 0 || msgField (m.map BitVec.toNat) 1 1 == 0xFF
      || msgField (m.map BitVec.toNat) 1 1 == (s.advance n).chnAddr) = true := by
    simpa [ForUs, fieldOf, chnAddr, or_assoc] using hf
  unfold chainDown
  rw [chainRecv_msg h]
  simp only [hdest, if_true]

/-- A message for another module is only forwarded (R394). -/
theorem chainDown_other {n type : Nat} {m : List Byte} (h : ChainMsg s type m) (hf : ¬ ForUs s m) (onward : State → List Nat) (f : State → State) :
    (s.advance n).chainDown type (m.map BitVec.toNat) onward f = (s.advance n).emit (.chain 1 (onward (s.advance n))) := by
  have hdest : (msgField (m.map BitVec.toNat) 1 1 == 0 || msgField (m.map BitVec.toNat) 1 1 == 0xFF
      || msgField (m.map BitVec.toNat) 1 1 == (s.advance n).chnAddr) = false := by
    simpa [ForUs, fieldOf, chnAddr, and_assoc] using hf
  unfold chainDown
  rw [chainRecv_msg h]
  simp only [hdest, Bool.false_eq_true, if_false]

/-! ### Changes of several chronographs -/

/-- A change of several chronographs. -/
def modChrs (s : State) (l : List (Fin 4)) (g : Chrono → Chrono) : State := l.foldl (fun s c => s.modChr c g) s

theorem modChrs_eq (s : State) (l : List (Fin 4)) (g : Chrono → Chrono) : ∃ v, s.modChrs l g = { s with chr := v } := by
  induction l generalizing s with
  | nil => exact ⟨s.chr, rfl⟩
  | cons c l ih =>
    obtain ⟨v, hv⟩ := ih (s.modChr c g)
    exact ⟨v, hv⟩

/-- What a change brings about and keeps, it brings about in each chronograph it reaches. -/
theorem modChrs_of_mem {l : List (Fin 4)} {g : Chrono → Chrono} {c : Fin 4} (hc : c ∈ l) {P : Chrono → Prop} (hg : ∀ k, P (g k)) :
    P (s.modChrs l g).chr[c] := by
  refine foldl_of_mem (P := fun x : State => P x.chr[c]) hc (fun x => ?_) (fun x d hx => ?_) s
  · rw [modChr_chr, vector_get_set_self]
    exact hg _
  · rw [modChr_chr, vector_get_set]
    split
    · exact hg _
    · exact hx

/-- What a change leaves of a chronograph. -/
theorem modChrs_view {α : Type} {v : Chrono → α} {g : Chrono → Chrono} (l : List (Fin 4)) (hg : ∀ k, v (g k) = v k) (c : Fin 4) :
    v (s.modChrs l g).chr[c] = v s.chr[c] := by
  refine foldl_keeps (P := fun x : State => v x.chr[c] = v s.chr[c]) (fun x d hx => ?_) rfl
  rw [modChr_chr, vector_get_set]
  split
  next e => exact (hg _).trans (e ▸ hx)
  · exact hx

/-! ### GO -/

/-- The clusters armed. -/
def armedClusters (s : State) : List (Fin 4) := allClusters.filter fun c => s.chn.armed.contains c.val

theorem mem_armedClusters {c : Fin 4} (h : s.chn.armed.contains c.val = true) : c ∈ s.armedClusters :=
  List.mem_filter.2 ⟨mem_allClusters c, h⟩

theorem landFrom_eq (s : State) (n : Nat) : s.landFrom n = s.modChrs s.armedClusters fun k => { k with coherentGo := some n } := rfl

theorem modChrs_chn (s : State) (l : List (Fin 4)) (g : Chrono → Chrono) : (s.modChrs l g).chn = s.chn := by
  obtain ⟨v, hv⟩ := s.modChrs_eq l g
  rw [hv]

theorem modChrs_rd (s : State) (l : List (Fin 4)) (g : Chrono → Chrono) (f : Fld) (i : Nat) : (s.modChrs l g).rd f i = s.rd f i := by
  obtain ⟨v, hv⟩ := s.modChrs_eq l g
  rw [hv]
  rfl

theorem modChrs_out (s : State) (l : List (Fin 4)) (g : Chrono → Chrono) : (s.modChrs l g).out = s.out := by
  obtain ⟨v, hv⟩ := s.modChrs_eq l g
  rw [hv]

theorem modChrs_landingOf (s : State) (l : List (Fin 4)) (g : Chrono → Chrono) (x : Fsync) : (s.modChrs l g).landingOf x = s.landingOf x := by
  obtain ⟨v, hv⟩ := s.modChrs_eq l g
  rw [hv]
  rfl

theorem modChrs_armedClusters (s : State) (l : List (Fin 4)) (g : Chrono → Chrono) : (s.modChrs l g).armedClusters = s.armedClusters := by
  rw [armedClusters, modChrs_chn, armedClusters]

/-- The armed clusters wait for their landing. -/
def armedWait (s : State) : State := s.modChrs s.armedClusters fun k => { k with waited := true }

theorem armedWait_waited {c : Fin 4} (h : c ∈ s.armedClusters) : s.armedWait.chr[c].waited = true :=
  modChrs_of_mem (P := fun k => k.waited = true) h fun _ => rfl

theorem armedWait_coherentGo (s : State) (c : Fin 4) : s.armedWait.chr[c].coherentGo = s.chr[c].coherentGo :=
  modChrs_view (v := Chrono.coherentGo) _ (by intro _; rfl) c

/-- A GO of the set at hand whose wall frame is announced (R408). -/
theorem takeGo_known {id f : Nat} {x : Fsync} (ha : s.chn.armed.isEmpty = false) (hi : s.chn.armId = id) (hx : s.chn.fsync = some x)
    (hf : f ≤ x.frame) : s.takeGo id f =
      (s.armedWait.modChrs s.armedClusters fun k => { k with coherentGo := some (s.landingOf x) }).wr (.chn .ccFrameF) 0 f := by
  unfold takeGo
  rw [if_neg (by simp [ha, hi])]
  change (match s.armedWait.chn.fsync.filter fun x : Fsync => f ≤ x.frame with
    | some x => s.armedWait.landFrom (s.armedWait.landingOf x)
    | none => s.armedWait.modChn fun k => { k with goFrame := some f }).wr (.chn .ccFrameF) 0 f = _
  have hk : (s.armedWait.chn.fsync.filter fun x : Fsync => decide (f ≤ x.frame)) = some x := by
    rw [armedWait, modChrs_chn, hx]
    simp [hf]
  simp only [hk]
  simp only [landFrom_eq, armedWait, modChrs_landingOf, modChrs_armedClusters]

/-- A GO of the set at hand whose wall frame is not announced yet (R408). -/
theorem takeGo_beyond {id f : Nat} (ha : s.chn.armed.isEmpty = false) (hi : s.chn.armId = id)
    (hf : (s.chn.fsync.all fun x => decide (x.frame < f)) = true) :
    s.takeGo id f = (s.armedWait.modChn fun k => { k with goFrame := some f }).wr (.chn .ccFrameF) 0 f := by
  unfold takeGo
  rw [if_neg (by simp [ha, hi])]
  change (match s.armedWait.chn.fsync.filter fun x : Fsync => f ≤ x.frame with
    | some x => s.armedWait.landFrom (s.armedWait.landingOf x)
    | none => s.armedWait.modChn fun k => { k with goFrame := some f }).wr (.chn .ccFrameF) 0 f = _
  have hk : (s.armedWait.chn.fsync.filter fun x : Fsync => decide (f ≤ x.frame)) = none := by
    rw [armedWait, modChrs_chn]
    cases hx : s.chn.fsync with
    | none => rfl
    | some x =>
      rw [hx] at hf
      have hlt : x.frame < f := by simpa using hf
      simp [hlt]
  simp only [hk]

theorem armed_ne_nil {c : Nat} (h : s.chn.armed.contains c = true) : s.chn.armed.isEmpty = false := by
  cases hl : s.chn.armed with
  | nil => simp [hl] at h
  | cons => rfl

/-! ### The armed set -/

theorem setArmed_leaves (s : State) (l : List Nat) {f : Fld} (h1 : f ≠ .chr .commitArmed := by decide) (h2 : f ≠ .chn .ccArmed := by decide) :
    Leaves f s (s.setArmed l) := .wrb (.foldl ⟨fun _ => rfl⟩ fun _ _ hx => .wrb hx h1) h2

theorem setArmed_eq (s : State) (l : List Nat) : s.setArmed l =
    (allClusters.foldl (fun s c => s.wrb (.chr .commitArmed) c (l.contains c.val)) (s.modChn fun k => { k with armed := l, goFrame := none })).wrb
      (.chn .ccArmed) 0 (!l.isEmpty) := rfl

theorem setArmed_chn (s : State) (l : List Nat) : (s.setArmed l).chn = { s.chn with armed := l, goFrame := none } := by
  rw [setArmed_eq, wrb_chn]
  exact foldl_keeps (P := fun x : State => x.chn = { s.chn with armed := l, goFrame := none }) (fun x c hx => (wrb_chn ..).trans hx) rfl

theorem setArmed_ccArmed (s : State) (l : List Nat) : (s.setArmed l).rd (.chn .ccArmed) 0 = b2n (!l.isEmpty) := rd_wrb_same ..

theorem setArmed_commitArmed (s : State) (l : List Nat) (c : Fin 4) : (s.setArmed l).rd (.chr .commitArmed) c = b2n (l.contains c.val) := by
  rw [setArmed, rd_wrb_ne_fld _ (by decide)]
  refine foldl_of_mem (P := fun x : State => x.rd (.chr .commitArmed) c = b2n (l.contains c.val)) (mem_allClusters c) (fun x => ?_)
    (fun x d hx => ?_) _
  · exact rd_wrb_same ..
  · by_cases hd : c = d
    · exact hd ▸ rd_wrb_same ..
    · rw [wrb, rd_wr_ne _ (by simpa [Fin.ext_iff] using hd), hx]

theorem showArms_writes (s : State) : WritesOnly (inList [(.chn .ccArmedMask, 0)]) s s.showArms := .ite (.wr .refl (by simp)) .refl

theorem sendArm_leaves (s : State) {f : Fld} (h : f ≠ .chn .ccArmedMask := by decide) : Leaves f s s.sendArm :=
  .ite (.ite (.wr ⟨fun _ => rfl⟩ h) ⟨fun _ => rfl⟩) (.ite .refl ⟨fun _ => rfl⟩)

theorem sendArm_armed (s : State) : s.sendArm.chn.armed = s.chn.armed ∧ s.sendArm.chn.armId = s.chn.armId := by
  unfold sendArm showArms
  split
  · split
    · exact ⟨rfl, rfl⟩
    · exact ⟨rfl, rfl⟩
  · split
    · exact ⟨rfl, rfl⟩
    · exact ⟨rfl, rfl⟩

theorem coherentArm_taken {n : Nat} {set : List Nat}
    (hset : set = ((allClusters.filter fun (c : Fin 4) => s.clusterOn c && s.on (.chr .commitReq) c && s.on (.chr .commitMode) c).map Fin.val))
    (h0 : set ≠ []) (ha : s.rd (.chn .addrAddr) 0 ≠ 0) : exec (.coherentArm n) s =
      .next (((((s.advance n).wr (.chn .ccErr) 0 0).setArmed set).modChn fun k =>
        { k with armId := (s.advance n).rd (.chn .ccId) 0 }).sendArm) := by
  subst hset
  change execCoherentArm n s = _
  unfold execCoherentArm
  refine if_neg ?_
  change ¬ (List.isEmpty (List.map Fin.val (allClusters.filter fun (c : Fin 4) => s.clusterOn c && s.on (.chr .commitReq) c && s.on (.chr .commitMode) c))
    || s.rd (.chn .addrAddr) 0 == 0) = true
  rw [List.isEmpty_eq_false_iff.2 h0]
  simpa using ha

theorem coherentArm_refused {n : Nat} (h : s.rd (.chn .addrAddr) 0 = 0
    ∨ (allClusters.filter fun (c : Fin 4) => s.clusterOn c && s.on (.chr .commitReq) c && s.on (.chr .commitMode) c) = []) :
    exec (.coherentArm n) s = .next ((s.advance n).wr (.chn .ccErr) 0 1) := by
  change execCoherentArm n s = _
  unfold execCoherentArm
  refine if_pos ?_
  change (List.isEmpty (List.map Fin.val (allClusters.filter fun (c : Fin 4) => s.clusterOn c && s.on (.chr .commitReq) c && s.on (.chr .commitMode) c))
    || s.rd (.chn .addrAddr) 0 == 0) = true
  rcases h with h | h
  · simp [h]
  · simp only [h, List.map_nil, List.isEmpty_nil, Bool.true_or]

theorem armResend_due {n : Nat} (hd : s.domOn 8 = true) (ho : s.ownArmState ≠ 0) (hh : ¬ Head s) (hq : (s.advance n).quietCut = false) :
    exec (.armResend n) s = .next ((s.advance n).sendChain 0 0x07 1 0 [s.chn.armId, s.ownArmState, s.armedMask]) := by
  refine congrArg _ ((if_neg ?_).trans ((if_neg hh).trans (if_neg (by simp [hq]))))
  rw [hq]
  change ¬ (!s.domOn 8 || s.ownArmState == 0 || false) = true
  simp [hd, ho]

theorem sendChain_out (s : State) (port type dest flags : Nat) (payload : List Nat) :
    (s.sendChain port type dest flags payload).out = s.out ++ [sentOn s port type dest flags payload] := rfl

/-- An abort withdraws the commit of each armed cluster (R409). -/
theorem withdrawCommit_req (s : State) (c d : Fin 4) : (s.withdrawCommit c).rd (.chr .commitReq) d =
    if d = c then 0 else s.rd (.chr .commitReq) d := by
  have hsent : Leaves (.chr .commitReq) ((s.wr (.chr .commitReq) c 0).wr (.chr .commitFlagsCancelled) c 1) (s.withdrawCommit c) := by
    unfold withdrawCommit
    extract_lets s1
    have hs1 : Leaves (.chr .commitReq) ((s.wr (.chr .commitReq) c 0).wr (.chr .commitFlagsCancelled) c 1) s1 := ⟨fun _ => rfl⟩
    have hev : Leaves (.chr .commitReq) _ (s1.report .chr c 0x1342 [(4, s1.rd (.chr .frameFrame) c)]) := .report hs1
    exact hev.touches (Touches.sendPend .refl : Touches Touches.Parts.sendPend _ (State.sendPend _ c))
  rw [hsent.rd, rd_wr_ne_fld _ (by decide)]
  split
  next h => exact h ▸ rd_wr_of_lt ..
  next h => exact rd_wr_ne _ (by simpa [Fin.ext_iff] using h)

/-- The commits of the armed clusters withdrawn (R409). -/
def withdrawn (s : State) : State := s.armedClusters.foldl withdrawCommit s

theorem withdrawn_req {c : Fin 4} (h : s.chn.armed.contains c.val = true) : s.withdrawn.rd (.chr .commitReq) c = 0 := by
  refine foldl_of_mem (P := fun x : State => x.rd (.chr .commitReq) c = 0) (mem_armedClusters h) (fun x => ?_) (fun x d hx => ?_) s
  · rw [withdrawCommit_req, if_pos rfl]
  · rw [withdrawCommit_req, hx, ite_self]

theorem withdrawCommit_touches (s : State) (c : Fin 4) : Touches Touches.Parts.withdrawCommit s (s.withdrawCommit c) := .withdrawCommit .refl

theorem abortCoherent_eq (s : State) (id f outcome : Nat) : s.abortCoherent id f outcome =
    ((s.withdrawn.setArmed []).wr (.chn .ccOutcome) 0 outcome).report .chn 0 0x2148
      [(1, id), (4, f), (1, b2n !s.chn.armed.isEmpty), (1, outcome)] := rfl

/-- An event of another unit leaves a unit's own count. -/
theorem report_errcnt_other (s : State) {u v : UType} (i j code : Nat) (items : List (Nat × Nat)) (h : v ≠ u) :
    (s.report u i code items).rd (.st v .errcnt) j = s.rd (.st v .errcnt) j :=
  reportSub_other _ _ _ _ _ _ _ _ _ (.inl fun e => h e.1)

theorem withdrawCommit_errcnt (s : State) (c : Fin 4) : (s.withdrawCommit c).rd (.st .chn .errcnt) 0 = s.rd (.st .chn .errcnt) 0 := by
  unfold withdrawCommit
  extract_lets s1
  have hpend : ∀ x : State, (x.sendPend c).rd (.st .chn .errcnt) 0 = x.rd (.st .chn .errcnt) 0 := fun x =>
    (Touches.sendPend .refl : Touches Touches.Parts.sendPend x _).rd (.st .chn .errcnt) 0
  have hs1 : s1.rd (.st .chn .errcnt) 0 = s.rd (.st .chn .errcnt) 0 := by
    rw [modChr_rd, rd_wr_ne_fld _ (by decide), rd_wr_ne_fld _ (by decide)]
  rw [hpend, report_errcnt_other _ _ _ _ _ (by decide), hs1]

theorem withdrawn_errcnt (s : State) : s.withdrawn.rd (.st .chn .errcnt) 0 = s.rd (.st .chn .errcnt) 0 :=
  foldl_keeps (P := fun x : State => x.rd (.st .chn .errcnt) 0 = s.rd (.st .chn .errcnt) 0)
    (fun x c hx => (withdrawCommit_errcnt x c).trans hx) rfl

theorem withdrawn_dev (s : State) : s.withdrawn.dev = s.dev :=
  foldl_keeps (P := fun x : State => x.dev = s.dev) (fun x c hx => (Keeps.withdrawCommit .refl : Keeps false x _).dev.trans hx) rfl

theorem setArmed_dev (s : State) (l : List Nat) : (s.setArmed l).dev = s.dev := by
  rw [setArmed_eq, wrb_dev]
  exact foldl_keeps (P := fun x : State => x.dev = s.dev) (fun x c hx => (wrb_dev ..).trans hx) rfl

theorem takeGo_writes (s : State) (id f : Nat) : WritesOnly (inList [(.chn .ccFrameF, 0)]) s (s.takeGo id f) := by
  refine .ite .refl ?_
  extract_lets s1 known
  have hs1 : WritesOnly (inList [(.chn .ccFrameF, 0)]) s s1 := fun f i _ => modChrs_rd s s.armedClusters _ f i
  refine .wr ?_ (by simp)
  clear_value known
  split
  · exact hs1.trans fun f i _ => modChrs_rd s1 s1.armedClusters _ f i
  · exact hs1

theorem goTaken_writes (s : State) (id f : Nat) (o : Output) :
    WritesOnly (inList [(.chn .ccFrameF, 0), (.chn .ccDefers, 0)]) s (((s.takeGo id f).wr (.chn .ccDefers) 0 0).emit o) := by
  have h : WritesOnly (inList [(.chn .ccFrameF, 0), (.chn .ccDefers, 0)]) s (s.takeGo id f) :=
    (s.takeGo_writes id f).mono fun f j hf => List.mem_cons.2 (.inl (List.mem_singleton.1 hf))
  exact .same (.wr h (by simp)) (emit_rd _ o)

theorem takeGo_out (s : State) (id f : Nat) : (s.takeGo id f).out = s.out := by
  unfold takeGo
  split
  · rfl
  · extract_lets s1 known
    have hs1 : s1.out = s.out := modChrs_out s s.armedClusters _
    rw [wr_out]
    clear_value known
    split
    · exact (modChrs_out s1 s1.armedClusters _).trans hs1
    · exact hs1

/-- A GO of the set at hand gives each armed cluster its landing instant, or its wall frame waits (R408). -/
theorem takeGo_lands {id f : Nat} {c : Fin 4} (hc : s.chn.armed.contains c.val = true) (hi : s.chn.armId = id) :
    (s.takeGo id f).chr[c].coherentGo.isSome = true ∨ (s.takeGo id f).chn.goFrame = some f := by
  have ha := armed_ne_nil hc
  cases hx : s.chn.fsync with
  | none =>
    rw [takeGo_beyond ha hi (by rw [hx]; rfl)]
    exact .inr rfl
  | some x =>
    by_cases hf : f ≤ x.frame
    · rw [takeGo_known ha hi hx hf]
      exact .inl (modChrs_of_mem (P := fun k => k.coherentGo.isSome = true) (mem_armedClusters hc) fun _ => rfl)
    · rw [takeGo_beyond ha hi (by simpa [hx] using hf)]
      exact .inr rfl

theorem forgetArmed_arms (s : State) (all : Bool) :
    (s.forgetArmed all).chn.arms = s.chn.arms.filter fun x => x.state != 1 || (!all && x.id != s.rd (.chn .ccId) 0) := by
  unfold forgetArmed showArms
  split
  · rfl
  · rfl

theorem forgetArmed_kept (s : State) (all : Bool) : (s.forgetArmed all).chr = s.chr ∧ (s.forgetArmed all).out = s.out
    ∧ (s.forgetArmed all).chn.goFrame = s.chn.goFrame := by
  unfold forgetArmed showArms
  split
  · exact ⟨rfl, rfl, rfl⟩
  · exact ⟨rfl, rfl, rfl⟩

theorem forgetArmed_leaves (s : State) (all : Bool) {f : Fld} (h : f ≠ .chn .ccArmedMask := by decide) : Leaves f s (s.forgetArmed all) :=
  .ite (.wr ⟨fun _ => rfl⟩ h) ⟨fun _ => rfl⟩

/-- The decision at a head whose expected modules are all armed (R407). -/
theorem commitDecision_go {n : Nat} (hh : Head s) (ho : s.ccOpen = true) (hm : (s.ccExpected.filter fun a => !s.ccArmedAt a) = []) :
    exec (.commitDecision n) s = .next (((((s.advance n).sendChain 1 0x08 0 0 (s.rd (.chn .ccId) 0 :: leBytes 4 s.decisionFrame)).takeGo
      (s.rd (.chn .ccId) 0) s.decisionFrame).wr (.chn .ccDefers) 0 0).forgetArmed false) := by
  change execCommitDecision n s = _
  unfold execCommitDecision
  refine (if_neg ?_).trans ((if_neg ?_).trans (if_pos ?_))
  · change ¬ (!s.on (.chn .addrHead) 0) = true
    rw [show s.on (.chn .addrHead) 0 = true from hh]
    simp
  · change ¬ (!s.ccOpen) = true
    simp [ho]
  · change (s.ccExpected.filter fun a => !s.ccArmedAt a).isEmpty = true
    rw [hm]
    rfl

end State

/-- A GO of the armed set whose wall frame is announced (R408). -/
theorem go_announced {n : Nat} {m : List Byte} {c : Fin 4} {x : Fsync} {s : State} (hm : ChainMsg s 0x08 m) (hu : ForUs s m)
    (hc : s.chn.armed.contains c.val = true) (hi : s.chn.armId = fieldOf m 4 1) (hx : s.chn.fsync = some x)
    (hf : s.wallFrameOf (fieldOf m 5 4) ≤ x.frame) :
    ∃ r, exec (.go n m) s = .next r ∧ r.chr[c].coherentGo = some ((s.advance n).landingOf x) ∧ r.chr[c].waited = true
      ∧ Holds r (.chn .ccFrameF) 0 (s.wallFrameOf (fieldOf m 5 4)) ∧ .chain 1 (m.map BitVec.toNat) ∈ r.out ∧ r.rd (.chn .ccDefers) 0 = 0
      ∧ OnlyRegs s r [(.chn .ccFrameF, 0), (.chn .ccDefers, 0)] ∧ SameMemory s r := by
  have hnext : exec (.go n m) s = .next ((((s.advance n).takeGo (fieldOf m 4 1) (s.wallFrameOf (fieldOf m 5 4))).wr (.chn .ccDefers) 0 0).emit
      (.chain 1 (m.map BitVec.toNat))) := congrArg _ (State.chainDown_forUs hm hu _ _)
  have hgo := State.takeGo_known (s := s.advance n) (State.armed_ne_nil hc) hi hx hf
  have hmem : c ∈ (s.advance n).armedClusters := State.mem_armedClusters hc
  refine ⟨_, hnext, ?_, ?_, ?_, List.mem_append_right _ (List.mem_singleton_self _), ?_, ?_,
    KeepsNext.sameMemory (KeepsNext.execGo .refl) hnext⟩
  · rw [State.emit_chr, State.wr_chr, hgo, State.wr_chr]
    exact State.modChrs_of_mem (P := fun k => k.coherentGo = some ((s.advance n).landingOf x)) hmem fun _ => rfl
  · rw [State.emit_chr, State.wr_chr, hgo, State.wr_chr]
    exact (State.modChrs_view (v := Chrono.waited) _ (by intro _; rfl) c).trans (State.armedWait_waited hmem)
  · rw [hgo, Holds, State.emit_rd, State.rd_wr_ne_fld _ (by decide), State.rd_wr_same]
  · exact (State.emit_rd ..).trans (State.rd_wr_of_lt _ _ _ (by decide))
  · exact WritesOnly.onlyRegs (State.goTaken_writes (s.advance n) _ _ _)

/-- A GO of the armed set whose wall frame is not announced yet (R408). -/
theorem go_beyond {n : Nat} {m : List Byte} {c : Fin 4} {s : State} (hm : ChainMsg s 0x08 m) (hu : ForUs s m)
    (hc : s.chn.armed.contains c.val = true) (hi : s.chn.armId = fieldOf m 4 1)
    (hf : (s.chn.fsync.all fun x => decide (x.frame < s.wallFrameOf (fieldOf m 5 4))) = true) :
    ∃ r, exec (.go n m) s = .next r ∧ r.chn.goFrame = some (s.wallFrameOf (fieldOf m 5 4)) ∧ r.chr[c].waited = true
      ∧ r.chr[c].coherentGo = s.chr[c].coherentGo ∧ Holds r (.chn .ccFrameF) 0 (s.wallFrameOf (fieldOf m 5 4))
      ∧ OnlyRegs s r [(.chn .ccFrameF, 0), (.chn .ccDefers, 0)] ∧ SameMemory s r := by
  have hnext : exec (.go n m) s = .next ((((s.advance n).takeGo (fieldOf m 4 1) (s.wallFrameOf (fieldOf m 5 4))).wr (.chn .ccDefers) 0 0).emit
      (.chain 1 (m.map BitVec.toNat))) := congrArg _ (State.chainDown_forUs hm hu _ _)
  have hgo := State.takeGo_beyond (s := s.advance n) (State.armed_ne_nil hc) hi hf
  refine ⟨_, hnext, ?_, ?_, ?_, ?_, ?_, KeepsNext.sameMemory (KeepsNext.execGo .refl) hnext⟩
  · rw [hgo]
    rfl
  · rw [State.emit_chr, State.wr_chr, hgo, State.wr_chr]
    exact State.armedWait_waited (s := s.advance n) (State.mem_armedClusters hc)
  · rw [State.emit_chr, State.wr_chr, hgo, State.wr_chr]
    exact State.armedWait_coherentGo (s.advance n) c
  · rw [hgo, Holds, State.emit_rd, State.rd_wr_ne_fld _ (by decide), State.rd_wr_same]
  · exact WritesOnly.onlyRegs (State.goTaken_writes (s.advance n) _ _ _)

/-- An ABORT disarms the module (R409). -/
theorem abort_disarms {n : Nat} {m : List Byte} {s : State} (hm : ChainMsg s 0x0A m) (hu : ForUs s m) :
    ∃ r, exec (.abort n m) s = .next r ∧ r.chn.armed = [] ∧ r.rd (.chn .ccOutcome) 0 = 2
      ∧ r.rd (.chn .ccArmed) 0 = 0 ∧ Raised s r .chn 0 0x2148 ∧ .chain 1 (m.map BitVec.toNat) ∈ r.out
      ∧ (∀ c : Fin 4, s.chn.armed.contains c.val = true → r.rd (.chr .commitReq) c = 0) ∧ SameMemory s r := by
  have hnext : exec (.abort n m) s = .next ((((s.advance n).abortCoherent (fieldOf m 4 1) (s.wallFrameOf (fieldOf m 5 4)) 2).wr (.chn .ccDefers) 0 0).emit
      (.chain 1 (m.map BitVec.toNat))) := congrArg _ (State.chainDown_forUs hm hu _ _)
  rw [State.abortCoherent_eq] at hnext
  generalize hw : ((s.advance n).withdrawn.setArmed []).wr (.chn .ccOutcome) 0 2 = u at hnext
  have hrd : ∀ {f : Fld} i, eventFld f = false → f ≠ .chn .ccDefers → ∀ items : List (Nat × Nat),
      ((u.report .chn 0 0x2148 items).wr (.chn .ccDefers) 0 0 |>.emit (.chain 1 (m.map BitVec.toNat))).rd f i = u.rd f i :=
    fun i he hd items => (State.emit_rd ..).trans ((State.rd_wr_ne_fld _ hd).trans ((Leaves.report .refl he).rd i))
  refine ⟨_, hnext, ?_, ?_, ?_, ?_, List.mem_append_right _ (List.mem_singleton_self _), fun c hc => ?_,
    KeepsNext.sameMemory (KeepsNext.execAbort .refl) hnext⟩
  · rw [State.emit_chn, State.wr_chn, State.report_chn, ← hw, State.wr_chn, State.setArmed_chn]
  · rw [hrd _ rfl (by decide), ← hw]
    exact State.rd_wr_of_lt ..
  · rw [hrd _ rfl (by decide), ← hw, State.rd_wr_ne_fld _ (by decide), State.setArmed_ccArmed]
    rfl
  · have hdev : u.dev = s.dev := by
      rw [← hw, State.wr_dev, State.setArmed_dev, State.withdrawn_dev]
      rfl
    have hcount : u.rd (.st .chn .errcnt) 0 = s.rd (.st .chn .errcnt) 0 := by
      rw [← hw, State.rd_wr_ne_fld _ (by decide), (State.setArmed_leaves _ _).rd, State.withdrawn_errcnt]
      rfl
    intro hoff
    have hraised := State.report_raised_of (u := .chn) (i := 0) (code := 0x2148)
      (items := [(1, fieldOf m 4 1), (4, s.wallFrameOf (fieldOf m 5 4)), (1, b2n !(s.advance n).chn.armed.isEmpty), (1, 2)]) hdev hcount (by decide) hoff
    rw [Bumped, State.emit_rd, State.emit_rd, State.rd_wr_ne_fld _ (by decide), State.rd_wr_ne_fld _ (by decide)]
    exact hraised
  · rw [hrd _ rfl (by decide), ← hw, State.rd_wr_ne_fld _ (by decide), (State.setArmed_leaves _ _).rd]
    exact State.withdrawn_req hc

/-- Settles O58, one equation for each command. -/
theorem coherentCommit : Obligations.CoherentCommit := by
  unfold Obligations.CoherentCommit
  refine ⟨fun n s set hset h0 ha => ?_, fun n s h => ?_, fun n s hd ho hh hq => ?_, fun n m s hm hh => ?_, fun n m s hm hh => ?_,
    fun n s hh ho => ?_, fun n f s hh ho hm hf => ?_, fun n m c x s hm hu hc hi hx hf => ?_, fun n m s hm hu => ?_, fun n m s hm hu => ?_,
    fun n m c s hm hu hc hi hf => ?_, fun n m s hm hu => ?_, fun n m s hm hu => ?_, fun n m s hm hu => ?_⟩
  · have hnext := State.coherentArm_taken (n := n) hset h0 ha
    generalize hu : ((s.advance n).wr (.chn .ccErr) 0 0).setArmed set = u at hnext
    have hsend : ∀ {f : Fld} i, f ≠ .chn .ccArmedMask →
        ((u.modChn fun k => { k with armId := (s.advance n).rd (.chn .ccId) 0 }).sendArm).rd f i = u.rd f i := fun i hf =>
      (State.sendArm_leaves _ hf).rd i
    obtain ⟨harmed, harmId⟩ := State.sendArm_armed (u.modChn fun k => { k with armId := (s.advance n).rd (.chn .ccId) 0 })
    refine ⟨_, hnext, ?_, harmId, ?_, ?_, fun c => ?_, KeepsNext.sameMemory (KeepsNext.execCoherentArm .refl) hnext⟩
    · have hset' : u.chn.armed = set := by rw [← hu, State.setArmed_chn]
      exact harmed.trans hset'
    · rw [hsend _ (by decide), ← hu, (State.setArmed_leaves _ _).rd]
      exact State.rd_wr_of_lt ..
    · rw [hsend _ (by decide), ← hu, State.setArmed_ccArmed, List.isEmpty_eq_false_iff.2 h0]
      rfl
    · rw [hsend _ (by decide), ← hu, State.setArmed_commitArmed]
  · have hnext := State.coherentArm_refused (n := n) h
    exact ⟨_, hnext, State.rd_wr_of_lt .., rfl, WritesOnly.onlyRegs (.wr .refl (by simp)),
      KeepsNext.sameMemory (KeepsNext.execCoherentArm .refl) hnext⟩
  · have hnext := State.armResend_due hd ho hh hq
    exact ⟨_, hnext, rfl, fun _ _ _ => rfl, rfl, rfl, rfl⟩
  · have hnext : exec (.arm n m) s = .next (((s.advance n).modChn fun k => 
        { k with arms := State.putArm k.arms ⟨fieldOf m 2 1, fieldOf m 4 1, fieldOf m 5 1, fieldOf m 6 1⟩ }).showArms) := by
      exact (congrArg Host.Outcome.next (State.chainRecv_msg hm _)).trans (congrArg Host.Outcome.next (if_pos hh))
    refine ⟨_, hnext, ?_, ?_, KeepsNext.sameMemory (KeepsNext.execArm .refl) hnext⟩
    · unfold State.showArms
      split
      · rfl
      · rfl
    · exact WritesOnly.onlyRegs (WritesOnly.trans (.same .refl fun _ _ => rfl) (State.showArms_writes _))
  · have hnext : exec (.arm n m) s = .next ((s.advance n).emit (.chain 0 (m.map BitVec.toNat))) := by
      exact (congrArg Host.Outcome.next (State.chainRecv_msg hm _)).trans (congrArg Host.Outcome.next (if_neg hh))
    exact ⟨_, hnext, rfl, fun _ _ _ => rfl, rfl, rfl, rfl⟩
  · have hnext : exec (.commitDecision n) s = .next ((s.advance n).wr (.chn .ccDefers) 0 0) := by
      change execCommitDecision n s = _
      unfold execCommitDecision
      refine (if_neg ?_).trans (if_pos ?_)
      · change ¬ (!s.on (.chn .addrHead) 0) = true
        rw [show s.on (.chn .addrHead) 0 = true from hh]
        simp
      · change (!s.ccOpen) = true
        simp [ho]
    exact ⟨_, hnext, State.rd_wr_of_lt .., WritesOnly.onlyRegs (.wr .refl (by simp)), rfl, rfl, rfl⟩
  · have hnext := State.commitDecision_go (n := n) hh ho hm
    obtain rfl : f = s.decisionFrame := hf
    generalize hu : (s.advance n).sendChain 1 0x08 0 0 (s.rd (.chn .ccId) 0 :: leBytes 4 s.decisionFrame) = u at hnext
    have hout : u.out = [sentOn s 1 0x08 0 0 (s.rd (.chn .ccId) 0 :: leBytes 4 s.decisionFrame)] := by
      rw [← hu]
      rfl
    have hid : ((u.takeGo (s.rd (.chn .ccId) 0) s.decisionFrame).wr (.chn .ccDefers) 0 0).rd (.chn .ccId) 0 = s.rd (.chn .ccId) 0 := by
      rw [State.rd_wr_ne_fld _ (by decide), State.takeGo_writes _ _ _ _ _ (by simp), ← hu]
      rfl
    obtain ⟨hchr, hkeep, hgo⟩ := State.forgetArmed_kept ((u.takeGo (s.rd (.chn .ccId) 0) s.decisionFrame).wr (.chn .ccDefers) 0 0) false
    refine ⟨_, hnext, ?_, fun x hx => ?_, ?_, fun c hc hi => ?_, KeepsNext.sameMemory (KeepsNext.execCommitDecision .refl) hnext⟩
    · rw [hkeep, State.wr_out, State.takeGo_out, hout]
      exact List.mem_singleton_self _
    · rw [State.forgetArmed_arms, hid] at hx
      simpa using (List.mem_filter.1 hx).2
    · rw [(State.forgetArmed_leaves _ false).rd]
      exact State.rd_wr_of_lt ..
    · rw [hchr, hgo]
      exact State.takeGo_lands (by rw [← hu]; exact hc) (by rw [← hu]; exact hi)
  · exact go_announced hm hu hc hi hx hf
  · have hnext : exec (.defer n m) s = .next (((s.advance n).takeDefer (fieldOf m 9 1)).emit (.chain 1 (m.map BitVec.toNat))) :=
      congrArg _ (State.chainDown_forUs hm hu _ _)
    exact ⟨_, hnext, State.rd_wr_same .., rfl, WritesOnly.onlyRegs (.same (.wr .refl (by simp)) fun _ _ => rfl), rfl, rfl, rfl⟩
  · exact abort_disarms hm hu
  · exact go_beyond hm hu hc hi hf
  · exact ⟨_, congrArg Host.Outcome.next (State.chainDown_other hm hu _ _), rfl, rfl, fun _ _ _ => rfl, rfl, rfl, rfl⟩
  · exact ⟨_, congrArg Host.Outcome.next (State.chainDown_other hm hu _ _), rfl, rfl, fun _ _ _ => rfl, rfl, rfl, rfl⟩
  · exact ⟨_, congrArg Host.Outcome.next (State.chainDown_other hm hu _ _), rfl, rfl, fun _ _ _ => rfl, rfl, rfl, rfl⟩

end Sys2Proof.Machine
end

section
/-! The loader's mailbox commands (R53 to R63, R386, R467). -/

namespace Sys2Proof.Machine

set_option Elab.async false

namespace State

variable {s t x y : State}

/-! ### Requests and replies -/

/-- A state with a request in the mailbox's registers: nothing that the loader looks at differs. -/
structure Asked (s x : State) : Prop where
  rd : ∀ f i, f.part ≠ .reg .obs → x.rd f i = s.rd f i
  eph : x.eph = s.eph
  host : x.host = s.host
  dev : x.dev = s.dev
  mem : x.mem = s.mem
  cfg : x.cfg = s.cfg

theorem mailRequested_asked (s : State) (n code : Nat) (m : MailReq) (args page : List Nat) :
    Asked s ((s.advance n).mailRequested code m args page) := by
  obtain ⟨hx, hrd⟩ := (s.advance n).mailRequested_obsRegsOnly code m args page
  generalize (s.advance n).mailRequested code m args page = x at hx hrd
  rw [hx] at hrd ⊢
  exact ⟨hrd, rfl, rfl, rfl, rfl, rfl⟩

/-- A command that the Observer takes and that sends nothing by DMA is answered at once (R383). -/
theorem mailbox_answers {n code : Nat} {m : MailReq} {args page : List Nat} {f : State → State × Reply} {rep : Reply} (h : MailFree s)
    (hf : f ((s.advance n).mailRequested code m args page) = (y, rep)) (hd : rep.dma = none := by rfl) :
    (s.advance n).mailbox code m args page false f = y.mailReply (m.tag % 65536) rep := by
  rw [mailbox_of_free (s := s.advance n) h _ _ _ _ _ (by rw [hf]; exact hd), hf]

theorem mailReply_eph (s : State) (tag : Nat) (rep : Reply) : (s.mailReply tag rep).eph = s.eph := by
  obtain ⟨x, hx, e⟩ := mailReply_eq_signal s tag rep
  have hsig : (x.signal 1).eph = x.eph := by
    unfold signal
    split
    · rfl
    · split
      · rfl
      · rfl
  rw [e, hsig, hx.1]

theorem mailReply_ephUp (s : State) (tag : Nat) (rep : Reply) : (s.mailReply tag rep).host.ephUp = s.host.ephUp := by
  obtain ⟨x, hx, e⟩ := mailReply_eq_signal s tag rep
  have hsig : (x.signal 1).host.ephUp = x.host.ephUp := by
    unfold signal
    split
    · rfl
    · split
      · rfl
      · rfl
  rw [e, hsig, hx.1]

/-! ### What the loader looks at -/

namespace Asked

variable (h : Asked s x)

include h

theorem on (f : Fld) (i : Nat) (hf : f.part ≠ .reg .obs) : x.on f i = s.on f i := congrArg (· == 1) (h.rd f i hf)

theorem clusterOn : x.clusterOn = s.clusterOn := by
  unfold State.clusterOn
  rw [h.dev]

theorem loaderBusy : x.loaderBusy = s.loaderBusy := by
  unfold State.loaderBusy
  rw [h.eph, h.rd _ _ (by decide)]

theorem usedClusters : x.usedClusters = s.usedClusters := by
  unfold State.usedClusters
  rw [h.clusterOn, h.cfg]

theorem stagedBad : x.stagedBad = s.stagedBad := by
  unfold State.stagedBad
  rw [h.mem, h.eph]

theorem tokenGood (b : List Nat) (signs : Option Signed) : x.tokenGood b signs = s.tokenGood b signs := by
  unfold State.tokenGood
  rw [h.dev, h.eph, h.rd _ _ (by decide)]

theorem headerFault (patch : Bool) (limit : Nat) (im : Image) : x.headerFault patch limit im = s.headerFault patch limit im := by
  unfold State.headerFault
  rw [h.eph, h.clusterOn, h.rd (.pwr .strapPairRole) _ (by decide), h.rd (.eph .arbStoredArb) _ (by decide)]

theorem formFault (patch : Bool) (im : Image) (read : Nat → Bool) : x.formFault patch im read = s.formFault patch im read := by
  unfold State.formFault
  rw [h.eph, h.clusterOn]

theorem structFault (p : Plan) : x.structFault p = s.structFault p := by
  have hbad : (fun i => x.rd (.lsr .badMask) i) = fun i => s.rd (.lsr .badMask) i := funext fun i => h.rd _ i (by decide)
  unfold State.structFault
  rw [hbad, h.clusterOn]

theorem imageFault (limit : Nat) (late : Bool) (im : Image) : x.imageFault limit late im = s.imageFault limit late im := by
  unfold State.imageFault
  rw [h.headerFault, h.formFault, h.structFault]

theorem stagedFault (limit : Nat) (im : Image) : x.stagedFault limit im = s.stagedFault limit im := by
  unfold State.stagedFault
  rw [h.headerFault]

theorem swapFault (im : Image) : x.swapFault im = s.swapFault im := by
  unfold State.swapFault
  rw [h.eph]
  simp only [h.stagedFault, h.formFault, h.structFault]

theorem slotValid (i : Fin 2) : x.slotValid i = s.slotValid i := by
  unfold State.slotValid
  rw [h.eph]
  simp only [h.imageFault]

end Asked

/-! ### Uploads -/

/-- Blocks set apart for a patch leave what is staged. -/
theorem blocksTaken_staged (s : State) (got : List Nat) (g : MemSys → MemSys) :
    (bothRegions.foldl (fun s r => s.showCache r) (State.modMem { s with eph := { s.eph with stagedAt := got } } g)).eph.staged = s.eph.staged := by
  have h : Touches [.mem, .reg .plt] { s with eph := { s.eph with stagedAt := got } }
      (bothRegions.foldl (fun s r => s.showCache r) (State.modMem { s with eph := { s.eph with stagedAt := got } } g)) :=
    .foldl (.modMem .refl) fun _ _ hx => .showCache hx
  have he : (bothRegions.foldl (fun s r => s.showCache r) (State.modMem { s with eph := { s.eph with stagedAt := got } } g)).eph
      = { s.eph with stagedAt := got } := h .eph (by decide)
  rw [he]

theorem takeStaging_kept (s : State) (length : Nat) : (s.takeStaging length).eph.staged = s.eph.staged
    ∧ (s.takeStaging length).host = s.host := by
  refine ⟨?_, (Touches.takeStaging .refl : Touches Touches.Parts.takeStaging s _) .host (by decide)⟩
  unfold takeStaging
  extract_lets n free s1 got l s2
  have hs1 : Touches Touches.Parts.dropCopies s s1 := .ite .refl (.dropCopies .refl)
  exact (blocksTaken_staged s1 got _).trans (congrArg Loader.staged (hs1 .eph (by decide)))

/-- A session for a patch erases what is staged (R56, R386). -/
theorem openUpload_patch (s : State) (length : Nat) : (s.openUpload .patch length).eph.staged = none
    ∧ (s.openUpload .patch length).host.ephUp = some ⟨.patch, length, 0, [], [], true⟩ := by
  obtain ⟨hstaged, -⟩ := takeStaging_kept (s.modEph fun l => { l with staged := none, stagedAt := [] }) length
  unfold openUpload
  simp only [UploadTarget.slot, Option.isNone_none, if_true]
  exact ⟨hstaged, trivial⟩

/-- A session for a slot erases it (R56, R386). -/
theorem openUpload_slot (s : State) {tg : UploadTarget} {i : Fin 2} (h : tg.slot = some i) (length : Nat) :
    (s.openUpload tg length).eph.slots[i] = none ∧ (s.openUpload tg length).host.ephUp = some ⟨tg, length, 0, [], [], false⟩ := by
  unfold openUpload
  simp only [h, Option.isNone_some, Bool.false_eq_true, if_false]
  exact ⟨vector_get_set_self .., trivial⟩

theorem ephUploadBegin_patch {n length : Nat} {m : MailReq} (hm : MailFree s) (h0 : 0 < length) (hl : length ≤ 2 ^ 24)
    (hb : s.loaderBusy = false) (hs : s.eph.swap = none) : ∃ x, Asked s x ∧
      exec (.ephUploadBegin n m 2 length) s = .next ((x.openUpload .patch length).mailReply (m.tag % 65536) .ok) := by
  have hx := s.mailRequested_asked n 0x0101 m [2, length] []
  refine ⟨_, hx, congrArg Host.Outcome.next (mailbox_answers hm ?_)⟩
  rw [if_neg (by simp [Nat.ne_of_gt h0]), hx.loaderBusy, hb, hx.eph, hs, if_neg (by simp), if_neg (by simpa using hl)]
  rfl

theorem ephUploadBegin_slotA {n length : Nat} {m : MailReq} (hm : MailFree s) (h0 : 0 < length) (hl : length ≤ 2 ^ 25)
    (hb : s.loaderBusy = false) (hv : (s.slotValid 0 && !s.slotValid 1) = false) : ∃ x, Asked s x ∧
      exec (.ephUploadBegin n m 0 length) s = .next ((x.openUpload .slotA length).mailReply (m.tag % 65536) .ok) := by
  have hx := s.mailRequested_asked n 0x0101 m [0, length] []
  refine ⟨_, hx, congrArg Host.Outcome.next (mailbox_answers hm ?_)⟩
  rw [if_neg (by simp [Nat.ne_of_gt h0]), hx.loaderBusy, hb, if_neg (by simp), if_neg (by simpa using hl), hx.slotValid, hx.slotValid, hv]
  rfl

theorem ephUploadBegin_slotB {n length : Nat} {m : MailReq} (hm : MailFree s) (h0 : 0 < length) (hl : length ≤ 2 ^ 25)
    (hb : s.loaderBusy = false) (hv : (s.slotValid 1 && !s.slotValid 0) = false) : ∃ x, Asked s x ∧
      exec (.ephUploadBegin n m 1 length) s = .next ((x.openUpload .slotB length).mailReply (m.tag % 65536) .ok) := by
  have hx := s.mailRequested_asked n 0x0101 m [1, length] []
  refine ⟨_, hx, congrArg Host.Outcome.next (mailbox_answers hm ?_)⟩
  rw [if_neg (by simp [Nat.ne_of_gt h0]), hx.loaderBusy, hb, if_neg (by simp), if_neg (by simpa using hl), hx.slotValid, hx.slotValid, hv]
  rfl

/-- A session that takes its next page (R386). -/
def nextPage (u : Upload) (data : List Byte) : Upload :=
  { u with next := u.next + 4096, lastPage := data.map BitVec.toNat, bytes := u.bytes ++ (data.map BitVec.toNat).take (u.length - u.next) }

/-- The loader with the page of a session programmed (R386). -/
def pageHeld (s : State) (u : Upload) : State := { s.holdPart u with host := { s.host with ephUp := some u } }

theorem ephUploadPage_next {n : Nat} {m : MailReq} {data : List Byte} {u : Upload} (hm : MailFree s) (hu : s.host.ephUp = some u)
    (he : u.erased = true) (h4 : u.next % 4096 = 0) (hl : u.next < u.length) : ∃ x, Asked s x ∧
      exec (.ephUploadPage n m u.next data true) s = .next ((x.pageHeld (nextPage u data)).mailReply (m.tag % 65536) .ok) := by
  have hx := s.mailRequested_asked n 0x0102 m [u.next] (data.map BitVec.toNat)
  refine ⟨_, hx, congrArg Host.Outcome.next (mailbox_answers hm ?_)⟩
  generalize (s.advance n).mailRequested 0x0102 m [u.next] (data.map BitVec.toNat) = x at hx
  have hpage : x.uploadPage u u.next (data.map BitVec.toNat) true = some (nextPage u data, x, .ok) := by
    unfold uploadPage
    rw [if_neg (by simp [he]), if_neg (by simp), if_neg (by simp [Nat.not_le.2 hl])]
    rfl
  rw [if_neg (by simp [h4]), show x.host.ephUp = some u by rw [hx.host, hu]]
  simp only [hpage]
  rfl

/-- A complete session's image in its target, and the session closed (R467). -/
def uploadHeld (s : State) (u : Upload) (im : Image) : State :=
  ({ s with host := { s.host with ephUp := none } } : State).modEph fun l => match u.target.slot with
    | some i => { l with slots := l.slots.set i (some im) }
    | none => { l with staged := some im }

theorem reject_kept (s : State) (r : Rejection) (source : Nat) : (s.reject r source).eph = s.eph ∧ (s.reject r source).host = s.host :=
  ⟨(Touches.reject .refl : Touches Touches.Parts.reject s _) .eph (by decide),
    (Touches.reject .refl : Touches Touches.Parts.reject s _) .host (by decide)⟩

/-- The end of a complete session holds its image in the target, whether the image passes or not (R467). -/
theorem ephUploadEnd_complete {n : Nat} {m : MailReq} {signs : Option Signed} {hashOk : List Bool} {plan : Plan} {u : Upload} (hm : MailFree s)
    (hu : s.host.ephUp = some u) (hl : u.length ≤ u.next) : ∃ (x y : State) (rep : Reply), Asked s x
      ∧ y.eph = (x.uploadHeld u (Image.ofBytes u.bytes signs hashOk plan)).eph ∧ y.host.ephUp = none ∧ (rep.status = 0 ∨ rep.status = 5)
      ∧ exec (.ephUploadEnd n m signs hashOk plan true) s = .next (y.mailReply (m.tag % 65536) rep) := by
  have hx := s.mailRequested_asked n 0x0103 m [] []
  generalize hX : (s.advance n).mailRequested 0x0103 m [] [] = x at hx
  generalize him : Image.ofBytes u.bytes signs hashOk plan = im
  have hup : (x.uploadHeld u im).host.ephUp = none := rfl
  have hrun : ∀ fault : Option Rejection, ∃ (y : State) (rep : Reply), (match fault with
      | some r => (x.uploadHeld u im).refuseImage r 2
      | none => (x.uploadHeld u im, { Reply.ok with page := im.hdr.imageId ++ leBytes 4 im.hdr.arb })) = (y, rep)
      ∧ y.eph = (x.uploadHeld u im).eph ∧ y.host.ephUp = none ∧ (rep.status = 0 ∨ rep.status = 5) ∧ rep.dma = none := by
    intro fault
    cases fault with
    | none => exact ⟨_, _, rfl, rfl, hup, .inl rfl, rfl⟩
    | some r =>
      obtain ⟨heph, hhost⟩ := (x.uploadHeld u im).reject_kept r 2
      exact ⟨_, _, rfl, heph, (congrArg HostIf.ephUp hhost).trans hup, .inr rfl, rfl⟩
  obtain ⟨y, rep, hyr, heph, hhost, hst, hdma⟩ := hrun
    (if u.target.slot.isSome then (x.uploadHeld u im).imageFault u.length true im else (x.uploadHeld u im).stagedFault u.length im)
  refine ⟨x, y, rep, hx, heph, hhost, hst, congrArg Host.Outcome.next (mailbox_answers hm ?_ hdma)⟩
  rw [hX, show x.host.ephUp = some u by rw [hx.host, hu]]
  simp only [Nat.not_lt.2 hl, if_false, him]
  exact hyr

/-! ### Reloads and swaps -/

/-- Asking for a reload keeps what is asked through the stops it begins (R53). -/
theorem beginStops_reload (s : State) : s.beginStops.eph.reload = s.eph.reload := by
  refine foldl_keeps (P := fun x : State => x.eph.reload = s.eph.reload) (fun x c hx => ?_) rfl
  split
  · exact hx
  · have hstop : (x.beginStop c).eph = x.eph := (Touches.beginStop .refl : Touches Touches.Parts.beginStop x _) .eph (by decide)
    exact (congrArg Loader.reload hstop).trans hx

theorem askReload_reload (s : State) (slot : Option Nat) : (s.askReload slot).eph.reload = some slot := by
  rw [askReload, beginStops_reload]
  rfl

theorem ephActivate_passes {n : Nat} {m : MailReq} {slot : Fin 2} {bad : List Nat} {im : Image} (hm : MailFree s) (hb : s.loaderBusy = false)
    (hi : s.eph.slots[slot] = some im) (hf : s.imageFault (2 ^ 25) false (im.readBad bad) = none) : ∃ x, Asked s x ∧
      exec (.ephActivate n m ⟨slot.val, bad⟩) s = .next ((x.askReload (some slot.val)).mailReply (m.tag % 65536) .ok) := by
  have hx := s.mailRequested_asked n 0x0104 m [slot.val] []
  refine ⟨_, hx, congrArg Host.Outcome.next (mailbox_answers hm ?_)⟩
  generalize (s.advance n).mailRequested 0x0104 m [slot.val] [] = x at hx
  have hslot : x.eph.slots[(Fin.ofNat 2 slot.val : Fin 2)] = some im := by
    rw [hx.eph, ← hi]
    congr 1
    exact Fin.ext (Nat.mod_eq_of_lt slot.isLt)
  rw [if_neg (show ¬ 1 < slot.val by omega), hx.loaderBusy, hb, if_neg (by simp)]
  simp only [hslot, hx.imageFault, hf]

theorem ephReselect_asks {n : Nat} {m : MailReq} (hm : MailFree s) (hb : s.loaderBusy = false) : ∃ x, Asked s x ∧
      exec (.ephReselect n m) s = .next ((x.askReload none).mailReply (m.tag % 65536) .ok) := by
  have hx := s.mailRequested_asked n 0x0106 m [] []
  refine ⟨_, hx, congrArg Host.Outcome.next (mailbox_answers hm ?_)⟩
  rw [hx.loaderBusy, hb]
  exact if_neg (by simp)

theorem readBad_nil (im : Image) : im.readBad [] = im := by
  simp [Image.readBad]

theorem ephSwap_passes {n : Nat} {m : MailReq} {commit : Fin 2} {im : Image} (hm : MailFree s) (hb : s.loaderBusy = false) (hs : s.eph.swap = none)
    (hi : s.eph.staged = some im) (hw : s.stagedBad = []) (hf : s.swapFault im = none) : ∃ x, Asked s x ∧
      exec (.ephSwap n m ⟨commit.val, none⟩) s = .next ((x.beginSwap im (commit.val == 0)).mailReply (m.tag % 65536) .ok) := by
  have hx := s.mailRequested_asked n 0x0105 m [commit.val] []
  refine ⟨_, hx, congrArg Host.Outcome.next (mailbox_answers hm ?_)⟩
  generalize (s.advance n).mailRequested 0x0105 m [commit.val] [] = x at hx
  rw [if_neg (show ¬ 1 < commit.val by omega), hx.loaderBusy, hb, hx.eph, hs, if_neg (by simp)]
  simp only [hi, hx.stagedBad, hw, Option.toList_none, List.append_nil, List.filter_nil, List.flatMap_nil, readBad_nil, hx.swapFault, hf,
    List.foldl_nil]

/-- A swap that begins (R58): its patch waits for every used cluster, and STATE is SWAPPING. -/
theorem beginSwap_shows (s : State) (im : Image) (auto : Bool) : (∃ asked, (s.beginSwap im auto).eph.swap =
    some ⟨im, s.usedClusters.map fun c => c.val, asked⟩) ∧ (s.beginSwap im auto).rd (.eph .statusState) 0 = 5 := by
  unfold beginSwap
  extract_lets cs asked s1 s2 s3
  have hs3 : s3.eph.swap = some ⟨im, cs.map fun c => c.val, asked⟩ ∧ s3.rd (.eph .statusState) 0 = 5 := by
    refine ⟨?_, ?_⟩
    · simp only [s3, report_eph]
      rfl
    · exact ((Leaves.report .refl : Leaves (.eph .statusState) s2 s3).rd 0).trans (rd_wr_of_lt ..)
  have hask : ∀ x : State, x.eph.swap = some ⟨im, cs.map fun c => c.val, asked⟩ ∧ x.rd (.eph .statusState) 0 = 5 → ∀ c,
      (x.requestCommit c).eph.swap = some ⟨im, cs.map fun c => c.val, asked⟩ ∧ (x.requestCommit c).rd (.eph .statusState) 0 = 5 := by
    intro x hx c
    have ht : Touches Touches.Parts.requestCommit x (x.requestCommit c) := .requestCommit .refl
    exact ⟨(congrArg Loader.swap (ht .eph (by decide))).trans hx.1, (ht.rd _ _).trans hx.2⟩
  have hall : (if auto then s3.forClusters cs fun s c => s.requestCommit c else s3).eph.swap = some ⟨im, cs.map fun c => c.val, asked⟩
      ∧ (if auto then s3.forClusters cs fun s c => s.requestCommit c else s3).rd (.eph .statusState) 0 = 5 := by
    split
    · exact foldl_keeps (P := fun x : State => x.eph.swap = some ⟨im, cs.map fun c => c.val, asked⟩ ∧ x.rd (.eph .statusState) 0 = 5)
        (fun x c hx => hask x hx c) hs3
    · exact hs3
  exact ⟨⟨asked, hall.1⟩, hall.2⟩

/-! ### The debug port -/

theorem modEph_rd (s : State) (g : Loader → Loader) (f : Fld) (i : Nat) : (s.modEph g).rd f i = s.rd f i := rfl

/-- A nonce used once and drawn anew (R62). -/
def nonceDrawn (s : State) : State := (s.freeBits 64).2.wr (.eph .dbgNonceNonce) 0 (s.freeBits 64).1

/-- A word below 8 is its low byte. -/
theorem ofLe_take_four {l : List Nat} (h : ofLe (l.take 4) < 8) (hb : ∀ b ∈ l, b < 256) : ofLe (l.take 4) = l.getD 0 0 := by
  cases l with
  | nil => rfl
  | cons a l =>
    have ha : a < 256 := hb a (List.mem_cons_self ..)
    simp only [List.take_succ_cons, ofLe, List.getD_cons_zero] at h ⊢
    omega

/-- The scope of a token is its 20th byte. -/
theorem token_scope {token : List Byte} (h : ofLe (((token.map BitVec.toNat).drop 20).take 4) < 8) :
    ofLe (((token.map BitVec.toNat).drop 20).take 4) = (token.getD 20 0).toNat := by
  rw [ofLe_take_four h fun b hb => ?_]
  · simp only [List.getD_eq_getElem?_getD, List.getElem?_drop, List.getElem?_map, Nat.add_zero]
    cases token[20]? <;> rfl
  · obtain ⟨w, -, rfl⟩ := List.mem_map.1 (List.mem_of_mem_drop hb)
    exact w.isLt

theorem tokenGood_scope {b : List Nat} {signs : Option Signed} (h : s.tokenGood b signs = true) : ofLe ((b.drop 20).take 4) < 8 := by
  simp only [tokenGood, Bool.and_eq_true, decide_eq_true_eq] at h
  exact h.1.1.1.1.1.2

/-- The port opened by a good token, before its event (R62). -/
def debugOpened (s : State) (scope secs : Nat) : State :=
  (((s.nonceDrawn.wr (.eph .dbgOpen) 0 1).wr (.eph .dbgScope) 0 scope)).modEph fun l => { l with dbgUntil := some (s.now + msCclk (1000 * secs)) }

theorem debugOpened_shows (s : State) {scope : Nat} (h : scope < 8) (secs : Nat) :
    (s.debugOpened scope secs).rd (.eph .dbgOpen) 0 = 1 ∧ (s.debugOpened scope secs).rd (.eph .dbgScope) 0 = scope := by
  refine ⟨?_, ?_⟩
  · exact (modEph_rd ..).trans ((rd_wr_ne_fld _ (by decide)).trans (rd_wr_of_lt _ _ _ (by decide)))
  · exact (modEph_rd ..).trans (rd_wr_of_lt _ _ _ h)

theorem dbgUnlock_good {n : Nat} {m : MailReq} {token : List Byte} {signs : Option Signed} (hm : MailFree s) (hl : token.length = 128)
    (h8 : s.rd (.eph .dbgFails) 0 ≠ 8) (hg : s.tokenGood (token.map BitVec.toNat) signs = true) :
    ∃ (x : State) (secs : Nat) (items : List (Nat × Nat)), exec (.dbgUnlock n m token signs) s =
      .next (((x.debugOpened (token.getD 20 0).toNat secs).report .eph 0 0x1A45 items).mailReply (m.tag % 65536) .ok) := by
  have hx := s.mailRequested_asked n 0x0110 m [] (token.map BitVec.toNat)
  refine ⟨(s.advance n).mailRequested 0x0110 m [] (token.map BitVec.toNat), ofLe (((token.map BitVec.toNat).drop 24).take 4),
    [(1, ofLe (((token.map BitVec.toNat).drop 20).take 4)), (4, ofLe (((token.map BitVec.toNat).drop 24).take 4)),
      (1, (token.map BitVec.toNat).getD 28 0)], congrArg Host.Outcome.next (mailbox_answers hm ?_)⟩
  rw [if_neg (by simp [hl]), if_neg (by rw [hx.rd _ _ (by decide)]; simpa using h8), ← token_scope (tokenGood_scope hg)]
  exact if_pos ((hx.tokenGood ..).trans hg)

/-- A bad token counted (R63). -/
def tokenFailed (s : State) : State :=
  let n := s.nonceDrawn.rd (.eph .dbgFails) 0 + 1
  let t := s.nonceDrawn.wr (.eph .dbgFails) 0 n
  if n == 8 then t.report .eph 0 0x2A46 [(4, 8)] else t

theorem nonceDrawn_rd (s : State) {f : Fld} (i : Nat) (h : f ≠ .eph .dbgNonceNonce) : s.nonceDrawn.rd f i = s.rd f i := rd_wr_ne_fld _ h

theorem tokenFailed_shows {s : State} (h : s.rd (.eph .dbgFails) 0 < 8) :
    s.tokenFailed.rd (.eph .dbgFails) 0 = s.rd (.eph .dbgFails) 0 + 1 ∧ s.tokenFailed.rd (.eph .dbgOpen) 0 = s.rd (.eph .dbgOpen) 0 := by
  have hev : ∀ {f : Fld}, eventFld f = false →
      Leaves f (s.nonceDrawn.wr (.eph .dbgFails) 0 (s.nonceDrawn.rd (.eph .dbgFails) 0 + 1)) s.tokenFailed := fun hf => .ite (.report .refl hf) .refl
  refine ⟨?_, ?_⟩
  · rw [(hev rfl).rd, nonceDrawn_rd _ _ (by decide)]
    exact rd_wr_of_lt _ _ _ (Nat.lt_of_lt_of_le (Nat.succ_lt_succ h) (by decide))
  · rw [(hev rfl).rd, rd_wr_ne_fld _ (by decide), nonceDrawn_rd _ _ (by decide)]

theorem dbgUnlock_bad {n : Nat} {m : MailReq} {token : List Byte} {signs : Option Signed} (hm : MailFree s) (hl : token.length = 128)
    (h8 : s.rd (.eph .dbgFails) 0 < 8) (hg : s.tokenGood (token.map BitVec.toNat) signs = false) : ∃ x : State, Asked s x
      ∧ exec (.dbgUnlock n m token signs) s = .next (x.tokenFailed.mailReply (m.tag % 65536) (.fail 6 4)) := by
  have hx := s.mailRequested_asked n 0x0110 m [] (token.map BitVec.toNat)
  refine ⟨_, hx, congrArg Host.Outcome.next (mailbox_answers hm ?_)⟩
  generalize (s.advance n).mailRequested 0x0110 m [] (token.map BitVec.toNat) = x at hx
  rw [if_neg (by simp [hl]), if_neg (by rw [hx.rd _ _ (by decide)]; simp; omega)]
  exact if_neg (show ¬ x.tokenGood (token.map BitVec.toNat) signs = true by rw [hx.tokenGood, hg]; simp)

theorem dbgLock_locks {n : Nat} {m : MailReq} (hm : MailFree s) : ∃ x : State,
    exec (.dbgLock n m) s = .next (x.lockDebug.mailReply (m.tag % 65536) .ok) :=
  ⟨_, congrArg Host.Outcome.next (mailbox_answers hm rfl)⟩

end State

/-- Settles O36, one equation for each command. -/
theorem loaderMail : Obligations.LoaderMail := by
  unfold Obligations.LoaderMail
  refine ⟨fun n length m s hm h0 hl hb hs => ?_, fun n length m s hm h0 hl hb hv => ?_, fun n m data u s hm hu he h4 hl => ?_,
    fun n m signs hashOk plan u s hm hu hl ht => ?_, fun n m slot bad im s hm hb hi hf => ?_, fun n m commit im s hm hb hs hi hw hf => ?_,
    fun n m s hm hb => ?_, fun n m token signs s hm hl h8 hg => ?_, fun n m token signs s hm hl h8 hg => ?_, fun n m s hm => ?_,
    fun n length m s hm h0 hl hb hv => ?_, fun n m signs hashOk plan u i s hm hu hl ht => ?_⟩
  · obtain ⟨x, -, hnext⟩ := State.ephUploadBegin_patch (n := n) hm h0 hl hb hs
    obtain ⟨hstaged, hup⟩ := x.openUpload_patch length
    exact ⟨_, hnext, State.mailReply_answered _ m .ok (by decide), (State.mailReply_ephUp ..).trans hup,
      (congrArg Loader.staged (State.mailReply_eph ..)).trans hstaged, KeepsNext.sameMemory (KeepsNext.execEphUploadBegin .refl) hnext⟩
  · obtain ⟨x, -, hnext⟩ := State.ephUploadBegin_slotA (n := n) hm h0 hl hb hv
    obtain ⟨hslot, hup⟩ := x.openUpload_slot (tg := .slotA) rfl length
    refine ⟨_, hnext, State.mailReply_answered _ m .ok (by decide), (State.mailReply_ephUp ..).trans hup, ?_,
      KeepsNext.sameMemory (KeepsNext.execEphUploadBegin .refl) hnext⟩
    rw [State.mailReply_eph]
    exact hslot
  · obtain ⟨x, -, hnext⟩ := State.ephUploadPage_next (n := n) (m := m) (data := data) hm hu he h4 hl
    exact ⟨_, hnext, State.mailReply_answered _ m .ok (by decide), State.mailReply_ephUp .., KeepsNext.sameMemory (KeepsNext.execEphUploadPage .refl) hnext⟩
  · obtain ⟨x, y, rep, -, heph, hup, hst, hnext⟩ := State.ephUploadEnd_complete (n := n) (m := m) (signs := signs) (hashOk := hashOk)
      (plan := plan) hm hu hl
    refine ⟨_, rep.status, hnext, State.mailReply_answered _ m rep ?_, hst, (State.mailReply_ephUp ..).trans hup, ?_,
      KeepsNext.sameMemory (KeepsNext.execEphUploadEnd .refl) hnext⟩
    · rcases hst with h | h
      · rw [h]; decide
      · rw [h]; decide
    · rw [State.mailReply_eph, heph, State.uploadHeld]
      simp only [ht, UploadTarget.slot]
      rfl
  · obtain ⟨x, -, hnext⟩ := State.ephActivate_passes (n := n) (m := m) hm hb hi hf
    refine ⟨_, hnext, State.mailReply_answered _ m .ok (by decide), ?_, KeepsNext.sameMemory (KeepsNext.execEphActivate .refl) hnext⟩
    rw [State.mailReply_eph, State.askReload_reload]
  · obtain ⟨x, hx, hnext⟩ := State.ephSwap_passes (n := n) (m := m) (commit := commit) hm hb hs hi hw hf
    obtain ⟨⟨asked, hswap⟩, hstate⟩ := x.beginSwap_shows im (commit.val == 0)
    refine ⟨_, hnext, State.mailReply_answered _ m .ok (by decide), ⟨asked, ?_⟩, (State.mailReply_rd _ _ _ _ (by decide)).trans hstate⟩
    rw [State.mailReply_eph, hswap, hx.usedClusters]
  · obtain ⟨x, -, hnext⟩ := State.ephReselect_asks (n := n) (m := m) hm hb
    refine ⟨_, hnext, State.mailReply_answered _ m .ok (by decide), ?_, KeepsNext.sameMemory (KeepsNext.execEphReselect .refl) hnext⟩
    rw [State.mailReply_eph, State.askReload_reload]
  · obtain ⟨x, secs, items, hnext⟩ := State.dbgUnlock_good (n := n) (m := m) hm hl h8 hg
    obtain ⟨hopen, hscope⟩ := x.debugOpened_shows (State.token_scope (State.tokenGood_scope hg) ▸ State.tokenGood_scope hg) secs
    have hrd : ∀ {f : Fld} i, f.part ≠ .reg .obs → eventFld f = false →
        (((x.debugOpened (token.getD 20 0).toNat secs).report .eph 0 0x1A45 items).mailReply (m.tag % 65536) .ok).rd f i
          = (x.debugOpened (token.getD 20 0).toNat secs).rd f i := fun i hp he =>
      (State.mailReply_rd _ _ _ i hp).trans ((Leaves.report .refl he).rd i)
    refine ⟨_, hnext, State.mailReply_answered _ m .ok (by decide), ?_, ?_, KeepsNext.sameMemory (KeepsNext.execDbgUnlock .refl) hnext⟩
    · rw [hrd _ (by decide) rfl, hopen]
    · rw [hrd _ (by decide) rfl, hscope]
  · obtain ⟨x, hx, hnext⟩ := State.dbgUnlock_bad (n := n) (m := m) hm hl h8 hg
    obtain ⟨hfails, hopen⟩ := State.tokenFailed_shows (s := x) (by rw [hx.rd _ _ (by decide)]; exact h8)
    refine ⟨_, hnext, State.mailReply_answered _ m (.fail 6 4) (by decide), ?_, ?_, KeepsNext.sameMemory (KeepsNext.execDbgUnlock .refl) hnext⟩
    · rw [State.mailReply_rd _ _ _ _ (by decide), hfails, hx.rd _ _ (by decide)]
    · rw [State.mailReply_rd _ _ _ _ (by decide), hopen, hx.rd _ _ (by decide)]
  · obtain ⟨x, hnext⟩ := State.dbgLock_locks (n := n) (m := m) hm
    refine ⟨_, hnext, State.mailReply_answered _ m .ok (by decide), ?_, ?_, KeepsNext.sameMemory (KeepsNext.execDbgLock .refl) hnext⟩
    · rw [State.mailReply_rd _ _ _ _ (by decide)]
      exact (State.modEph_rd ..).trans ((State.rd_wr_ne_fld _ (by decide)).trans (State.rd_wr_of_lt _ _ _ (by decide)))
    · rw [State.mailReply_eph]
      rfl
  · obtain ⟨x, -, hnext⟩ := State.ephUploadBegin_slotB (n := n) hm h0 hl hb hv
    obtain ⟨hslot, hup⟩ := x.openUpload_slot (tg := .slotB) rfl length
    refine ⟨_, hnext, State.mailReply_answered _ m .ok (by decide), (State.mailReply_ephUp ..).trans hup, ?_,
      KeepsNext.sameMemory (KeepsNext.execEphUploadBegin .refl) hnext⟩
    rw [State.mailReply_eph]
    exact hslot
  · obtain ⟨x, y, rep, -, heph, hup, hst, hnext⟩ := State.ephUploadEnd_complete (n := n) (m := m) (signs := signs) (hashOk := hashOk)
      (plan := plan) hm hu hl
    refine ⟨_, rep.status, hnext, State.mailReply_answered _ m rep ?_, hst, (State.mailReply_ephUp ..).trans hup, ?_,
      KeepsNext.sameMemory (KeepsNext.execEphUploadEnd .refl) hnext⟩
    · rcases hst with h | h
      · rw [h]; decide
      · rw [h]; decide
    · rw [State.mailReply_eph, heph, State.uploadHeld]
      simp only [ht]
      exact vector_get_set_self ..

end Sys2Proof.Machine
end

section
/-! Words of table and schedule windows (R101, R102, R118, R120). -/

namespace Sys2Proof.Machine

set_option Elab.async false

namespace State

variable {s : State}

/-! ### A word that holds one field -/

/-- The bus word at an address of a present cluster that reads as one field. -/
structure OneField (s : State) (addr : Nat) (f : Fld) (j : Nat) : Prop where
  cluster : ∃ c, addrCluster addr = some c ∧ s.clusterOn c = true
  status : statusAt addr = none
  fields : fieldsAt addr = [(f, j, 0)]

/-- What a write does of a word that holds one field of one word. -/
theorem busWrite_oneField {addr j data : Nat} {f : Fld} (h : OneField s addr f j) (he : engineField f = false) (hw : f.info.words ≤ 1) :
    (s.busWrite addr data 0).1 =
      if (writeOne s addr data ⟨s, [], 0⟩ (f, j, 0)).cause == 0 then (writeOne s addr data ⟨s, [], 0⟩ (f, j, 0)).s
      else (writeOne s addr data ⟨s, [], 0⟩ (f, j, 0)).s.applyErr addr (writeOne s addr data ⟨s, [], 0⟩ (f, j, 0)).cause 0 := by
  obtain ⟨⟨c, hc, hon⟩, hst, hfs⟩ := h
  have hwide : ([(f, j, 0)].any fun x : Fld × Nat × Nat =>
      decide (1 < x.1.info.words) && decide (32 < x.1.info.lo + x.1.info.width) && !s.pageLocked x.1 x.2.1) = false := by
    simp [Nat.not_lt.2 hw]
  unfold busWrite
  simp only [hc, hon, Bool.not_true, Bool.false_eq_true, if_false, busWrite.go, hst, hfs, List.isEmpty_cons, List.any_cons, List.any_nil, he,
    Bool.or_false, Bool.false_and, List.foldl_cons, List.foldl_nil]
  simp only [List.any_cons, List.any_nil, Bool.or_false] at hwide
  simp only [hwide, Bool.false_and, Bool.false_eq_true, if_false]

/-- A write of a live field that is not asleep and whose page is not in force. -/
theorem writeOne_live {addr data j : Nat} {f : Fld} (hacc : f.info.acc = .rw) (hp : s.pageLocked f j = false) (hw : f.info.words ≤ 1)
    (hx : fixedField f j = false) (he : enableOf f = none) (ha : f.info.apply = .live) (hs : s.sleeping f j = false) {v : Nat}
    (hv : bits data (wordSlice f.info 0).1 (wordSlice f.info 0).2.2 = v) (hr : reservedWrite f v = false) :
    (writeOne s addr data ⟨s, [], 0⟩ (f, j, 0)).s = s.storeLive f j v ∧ (writeOne s addr data ⟨s, [], 0⟩ (f, j, 0)).cause = 0 := by
  have hm : s.mergeWord f j 0 data (addr - 4 * 0) = some v := by
    simp only [mergeWord, hw, decide_true, Bool.true_or, if_true, hv]
  have hf : s.writeField s f j v = (s.storeLive f j v, 0) := by
    simp only [writeField, he, hr, ha, hs, Bool.false_eq_true, if_false]
  simp only [writeOne, hacc, hp, hm, hx, hf, Bool.false_eq_true, if_false]
  exact ⟨trivial, rfl⟩

/-- A write to a page in force stores nothing. -/
theorem writeOne_locked {addr data j : Nat} {f : Fld} (hacc : f.info.acc = .rw) (hp : s.pageLocked f j = true) :
    writeOne s addr data ⟨s, [], 0⟩ (f, j, 0) = ⟨s, [], 3⟩ := by
  simp only [writeOne, hacc, hp, if_true]
  rfl

/-- What an apply error leaves: the last record and one more in the count (R445). -/
theorem applyErr_shows (s : State) {addr cause : Nat} (ha : addr < 2 ^ 26) (hc : cause < 2 ^ 3) (src : Nat) :
    (s.applyErr addr cause src).rd (.glb .applyErrLastAddr) 0 = addr ∧ (s.applyErr addr cause src).rd (.glb .applyErrLastCause) 0 = cause
    ∧ Bumped s (s.applyErr addr cause src) (.glb .applyErrCntCount) 0 := by
  unfold applyErr
  extract_lets s1 s2 s3
  have hs1 : Leaves (.glb .applyErrCntCount) s s1 := .ite .refl (.wr (.wr (.wr (.wr .refl))))
  have hs3 : ∀ {f : Fld}, f ≠ .glb .applyErrCntOvf → Leaves f s2 s3 := fun h => .ite (.wr .refl h) .refl
  refine ⟨?_, ?_, ?_⟩
  · rw [rd_bump_ne_fld _ (by decide), (hs3 (by decide)).rd, rd_wr_ne_fld _ (by decide), rd_wr_ne_fld _ (by decide)]
    exact rd_wr_of_lt _ _ _ ha
  · rw [rd_bump_ne_fld _ (by decide), (hs3 (by decide)).rd, rd_wr_ne_fld _ (by decide)]
    exact rd_wr_of_lt _ _ _ hc
  · rw [Bumped, rd_bump, if_pos ⟨rfl, rfl⟩, (hs3 (by decide)).rd, rd_wr_ne_fld _ (by decide), rd_wr_ne_fld _ (by decide),
      rd_wr_ne_fld _ (by decide), hs1.rd]

/-- An apply error leaves every register outside its own record. -/
theorem applyErr_leaves (s : State) (addr cause src : Nat) {f : Fld} (hf : f.part ≠ .reg .glb) : Leaves f s (s.applyErr addr cause src) :=
  .touches .refl (Touches.applyErr .refl : Touches Touches.Parts.applyErr s _) (by simpa [Touches.Parts.applyErr] using hf)

/-! ### Table windows -/

/-- The table fields that the table windows write: LUT and blend entries. -/
def tableFlds : List Fld := [.geo .ilutEntry, .geo .olutEntry, .geo .blendGain]

/-- Such a field takes its low half word, and the word is good again. -/
theorem storeLive_table {f : Fld} (hf : f ∈ tableFlds) (s : State) (j v : Nat) :
    (s.storeLive f j v).rd f j = v % 2 ^ 16 ∧ WritesOnly (inList [(f, j)]) s (s.storeLive f j v) := by
  have hw : ∀ (g : Fld) (c : Fin 4) (p : Picture → Picture), g.info.width = 16 →
      ((s.wr g j v).modPic c p).rd g j = v % 2 ^ 16 ∧ WritesOnly (inList [(g, j)]) s ((s.wr g j v).modPic c p) := fun g c p hg =>
    ⟨(modPic_rd ..).trans ((rd_wr_same ..).trans (by rw [hg])), .same (.wr .refl (by simp)) (modPic_rd _ c p)⟩
  simp only [tableFlds, List.mem_cons, List.not_mem_nil, or_false] at hf
  rcases hf with rfl | rfl | rfl
  · exact hw _ _ _ rfl
  · exact hw _ _ _ rfl
  · exact hw _ _ _ rfl

/-- What the bus has to know of a field of `w` bits that a window writes. -/
structure PlainTable (f : Fld) (w : Nat) : Prop where
  acc : f.info.acc = .rw
  words : f.info.words ≤ 1
  apply : f.info.apply = .live
  engine : engineField f = false
  enable : enableOf f = none
  fixed : ∀ j, fixedField f j = false
  reserved : ∀ v, reservedWrite f v = false
  slice : wordSlice f.info 0 = (0, 0, w)
  part : f.part ≠ .reg .glb

theorem plainTable_schedWord : PlainTable (.pln .schedWord) 32 :=
  ⟨rfl, by decide, rfl, rfl, rfl, fun _ => rfl, fun _ => rfl, rfl, by decide⟩

theorem tableOf_isSome {f : Fld} (hf : f ∈ tableFlds) (j : Nat) : (tableOf f j).isSome = true := by
  simp only [tableFlds, List.mem_cons, List.not_mem_nil, or_false] at hf
  rcases hf with rfl | rfl | rfl
  · rfl
  · rfl
  · rfl

theorem plainTable {f : Fld} (hf : f ∈ tableFlds) : PlainTable f 16 := by
  simp only [tableFlds, List.mem_cons, List.not_mem_nil, or_false] at hf
  rcases hf with rfl | rfl | rfl
  · exact ⟨rfl, by decide, rfl, rfl, rfl, fun _ => rfl, fun _ => rfl, rfl, by decide⟩
  · exact ⟨rfl, by decide, rfl, rfl, rfl, fun _ => rfl, fun _ => rfl, rfl, by decide⟩
  · exact ⟨rfl, by decide, rfl, rfl, rfl, fun _ => rfl, fun _ => rfl, rfl, by decide⟩

/-- An aligned address of BAR0. -/
theorem wordAddr {addr : Nat} (h : addr < bar0End) (h4 : addr % 4 = 0) : addr % bar0End / 4 * 4 = addr := by
  rw [Nat.mod_eq_of_lt h]
  omega

theorem tableWindowWrite_eq {n addr j : Nat} {f : Fld} {data : Word} (hf : f ∈ tableFlds) (h : addr < bar0End) (h4 : addr % 4 = 0)
    (hd : s.host.d3hot = false) (hfs : fieldsAt addr = [(f, j, 0)]) :
    exec (.tableWindowWrite n addr data) s = .next ((s.advance n).busWrite addr data.toNat 0).1 := by
  change execTableWindowWrite n addr data s = _
  unfold execTableWindowWrite
  simp only [wordAddr h h4, hfs, List.any_cons, List.any_nil, Bool.or_false, tableOf_isSome hf, if_true]
  exact if_neg (show ¬ s.host.d3hot = true by simp [hd])

theorem schedWindowWrite_eq {n addr j : Nat} {data : Word} (h : addr < bar0End) (h4 : addr % 4 = 0)
    (hd : s.host.d3hot = false) (hfs : fieldsAt addr = [(.pln .schedWord, j, 0)]) :
    exec (.schedWindowWrite n addr data) s = .next ((s.advance n).busWrite addr data.toNat 0).1 := by
  change execSchedWindowWrite n addr data s = _
  unfold execSchedWindowWrite
  simp only [wordAddr h h4, hfs, List.any_cons, List.any_nil, Bool.or_false, beq_self_eq_true, if_true]
  exact if_neg (show ¬ s.host.d3hot = true by simp [hd])

/-- A write of a word of a page that is not in force is its store. -/
theorem busWrite_stores {addr j w data : Nat} {f : Fld} (h : OneField s addr f j) (hp : PlainTable f w) (hl : s.pageLocked f j = false)
    (hs : s.sleeping f j = false) : (s.busWrite addr data 0).1 = s.storeLive f j (data % 2 ^ w) := by
  obtain ⟨he, hc⟩ := writeOne_live (addr := addr) (data := data) (v := data % 2 ^ w) hp.acc hl hp.words (hp.fixed j) hp.enable hp.apply hs
    (by rw [hp.slice, bits, Nat.pow_zero, Nat.div_one]) (hp.reserved _)
  rw [busWrite_oneField h hp.engine hp.words, hc, he]
  rfl

/-- A write of a word of the page in force is an apply error of cause 3. -/
theorem busWrite_pageInForce {addr j w data : Nat} {f : Fld} (h : OneField s addr f j) (hp : PlainTable f w) (hl : s.pageLocked f j = true) :
    (s.busWrite addr data 0).1 = s.applyErr addr 3 0 := by
  rw [busWrite_oneField h hp.engine hp.words, writeOne_locked hp.acc hl]
  rfl

/-! ### Schedule words -/

/-- A stored schedule word takes its 32 bits and leaves its page without validation. -/
theorem storeLive_schedWord (s : State) (c : Fin 4) (pg : Fin 2) {k v : Nat} (hk : k < 3840) :
    (s.storeLive (.pln .schedWord) (c * 7680 + pg * 3840 + k) v).rd (.pln .schedWord) (c * 7680 + pg * 3840 + k) = v % 2 ^ 32
    ∧ (s.storeLive (.pln .schedWord) (c * 7680 + pg * 3840 + k) v).rd (validFld pg) c = 0
    ∧ WritesOnly (inList [(.pln .schedWord, c * 7680 + pg * 3840 + k), (validFld pg, c.val)]) s
        (s.storeLive (.pln .schedWord) (c * 7680 + pg * 3840 + k) v) := by
  generalize hj : c.val * 7680 + pg.val * 3840 + k = j
  have hc : j / 7680 = c := by omega
  have hpg : j / 3840 % 2 = pg := by omega
  have he : ∃ p, s.storeLive (.pln .schedWord) j v
      = ((s.wr (.pln .schedWord) j v).wr (validFld pg) c 0).modPic (Fin.ofNat 4 c) p := by
    refine ⟨fun p => { p with schedFail := p.schedFail.set (Fin.ofNat 2 pg) (some (0xFF, 0xFFFF)) }, ?_⟩
    simp only [storeLive, tableOf, hc, hpg]
    rfl
  obtain ⟨p, he⟩ := he
  have hne : validFld pg ≠ .pln .schedWord := by
    unfold validFld
    split
    · decide
    · decide
  rw [he]
  refine ⟨?_, ?_, .same (.wr (.wr .refl (by simp)) (by simp)) (modPic_rd _ _ p)⟩
  · rw [modPic_rd, rd_wr_ne_fld _ (Ne.symm hne)]
    exact rd_wr_same ..
  · rw [modPic_rd]
    exact (rd_wr_same ..).trans (Nat.zero_mod _)

/-- A page that is not the one in force is not locked. -/
theorem pageLocked_schedWord {c : Fin 4} {pg : Fin 2} {k : Nat} (hk : k < 3840) (h : s.rd (.pln .ctrlSchedPage) c ≠ pg.val) :
    s.pageLocked (.pln .schedWord) (c * 7680 + pg * 3840 + k) = false := by
  have hc : (c.val * 7680 + pg.val * 3840 + k) / 3840 / 2 = c := by omega
  have hpg : (c.val * 7680 + pg.val * 3840 + k) / 3840 % 2 = pg := by omega
  simp only [pageLocked, hc, hpg]
  simpa using h

theorem schedCheckGo_eq {c : Fin 4} (h : s.on (.pln .schedChkBusy) c = false) (n : Nat) :
    exec (.schedCheckGo n c) s = .next (((s.advance n).modPic c fun p =>
      { p with schedBusy := some (1 - s.rd (.pln .ctrlSchedPage) c) }).wr (.pln .schedChkBusy) c 1) := by
  change execSchedCheckGo n c s = _
  unfold execSchedCheckGo
  exact if_neg (show ¬ s.on (.pln .schedChkBusy) c = true by simp [h])

theorem schedCheckDone_eq {c : Fin 4} {pg : Nat} (h : s.pic[c].schedBusy = some pg) (n : Nat) :
    exec (.schedCheckDone n c) s = .next ((((s.advance n).validatePage c pg).modPic c fun p =>
      { p with schedBusy := none }).wr (.pln .schedChkBusy) c 0) := by
  change execSchedCheckDone n c s = _
  unfold execSchedCheckDone
  simp only [show (s.advance n).pic[c].schedBusy = some pg from h]

/-- The validation of a page shows whether every rule holds (R118). -/
theorem validatePage_rd (s : State) (c : Fin 4) (pg : Fin 2) :
    (s.validatePage c pg).rd (validFld pg) c = b2n (pageFault (s.schedEnv c) (s.schedOf c pg)).isNone
    ∧ WritesOnly (inList [(validFld pg, c.val), (.pln .schedChkReason, c), (.pln .schedChkEntry, c)]) s (s.validatePage c pg) := by
  have hv : (validFld pg).info.width = 1 ∧ validFld pg ≠ .pln .schedChkReason ∧ validFld pg ≠ .pln .schedChkEntry := by
    unfold validFld
    split
    · decide
    · decide
  obtain ⟨hw, hr, he⟩ := hv
  unfold validatePage
  extract_lets f s1 s2
  refine ⟨?_, .same (.wr (.wr (.wrb .refl (by simp)) (by simp)) (by simp)) (modPic_rd _ c _)⟩
  rw [modPic_rd, rd_wr_ne_fld _ he, rd_wr_ne_fld _ hr]
  refine (rd_wr_same ..).trans ?_
  rw [hw]
  exact Nat.mod_eq_of_lt (by cases f.isNone <;> decide)

/-! ### A word of a table in force fails parity -/

/-- The word as read, where it stands (R102). -/
def parityStored (s : State) (c : Fin 4) (table : TableId) (index word : Nat) : State :=
  let pg := s.pageInForce c table
  match table with
  | .mesh =>
    let i := c.val * 81920 + pg * 40960 + index % 40960
    (s.wr (.geo .meshDx) i (bits word 0 16)).wr (.geo .meshDy) i (bits word 16 16)
  | .ilut => s.wr (.geo .ilutEntry) (c.val * 6150 + pg * 3075 + index % 3075) word
  | .olut => s.wr (.geo .olutEntry) (c.val * 6150 + pg * 3075 + index % 3075) word
  | .blend => s.wr (.geo .blendGain) (c.val * 512 + pg * 256 + index % 256) word
  | .uni => s.wr (.geo .uniG) (c.val * 18432 + pg * 9216 + index % 9216) word

/-- The store changes geometry registers only. -/
theorem parityStored_keeps (s : State) (c : Fin 4) (table : TableId) (index word : Nat) :
    (∀ f i, f.part ≠ .reg .geo → (s.parityStored c table index word).rd f i = s.rd f i)
    ∧ (s.parityStored c table index word).pic = s.pic ∧ SameMemory s (s.parityStored c table index word) := by
  have one : ∀ (g : Fld) (j v : Nat), g.part = .reg .geo → ∀ f i, f.part ≠ .reg .geo → (s.wr g j v).rd f i = s.rd f i := fun g j v hg f i hf =>
    rd_wr_ne_fld _ (fun h => hf (h ▸ hg))
  cases table
  case mesh => exact ⟨fun f i hf => (rd_wr_ne_fld _ (by rintro rfl; exact hf rfl)).trans (one _ _ _ rfl f i hf), rfl, rfl, rfl, rfl⟩
  case ilut => exact ⟨one _ _ _ rfl, rfl, rfl, rfl, rfl⟩
  case olut => exact ⟨one _ _ _ rfl, rfl, rfl, rfl, rfl⟩
  case blend => exact ⟨one _ _ _ rfl, rfl, rfl, rfl, rfl⟩
  case uni => exact ⟨one _ _ _ rfl, rfl, rfl, rfl, rfl⟩

/-- The marks have no part in whether a cluster composes. -/
theorem composing_modPic_bad (s : State) (c : Fin 4) (g : List BadWord → List BadWord) :
    (s.modPic c fun p => { p with badWords := g p.badWords }).composing c = s.composing c := by
  simp only [composing, frameRec, modPic, vector_get_set_self]
  rfl

theorem pageInForce_advance (s : State) (n : Nat) (c : Fin 4) (table : TableId) : (s.advance n).pageInForce c table = s.pageInForce c table := by
  cases table
  case mesh => rfl
  case ilut => rfl
  case olut => rfl
  case blend => rfl
  case uni => rfl

/-- A cluster that does not compose keeps the word as read and marks it. -/
theorem tableParityError_marks {c : Fin 4} {table : TableId} {index word : Nat} (hc : s.composing c = false) (n : Nat) :
    ∃ r, exec (.tableParityError n c table index word) s = .next r
      ∧ (∀ f i, r.rd f i = ((s.advance n).parityStored c table index word).rd f i)
      ∧ ⟨table, s.pageInForce c table, index⟩ ∈ r.pic[c].badWords ∧ SameMemory s r := by
  generalize hx : (s.advance n).parityStored c table index word = x
  generalize hb : (⟨table, s.pageInForce c table, index⟩ : BadWord) = b
  obtain ⟨hrd, hpic, hmem⟩ := (s.advance n).parityStored_keeps c table index word
  rw [hx] at hrd hpic hmem
  have hxc : x.composing c = false := by
    have hl : x.lastFrame c = s.lastFrame c := hrd _ _ (by decide)
    rw [← hc, composing, composing, frameRec, frameRec, hl, hpic]
    rfl
  have hnext : exec (.tableParityError n c table index word) s
      = .next (x.modPic c fun p => { p with badWords := if x.pic[c].badWords.contains b then p.badWords else b :: p.badWords }) := by
    subst hx hb
    change execTableParityError n c table index word s = _
    unfold execTableParityError
    extract_lets s1 pg b i s2 known s3
    have h2 : s2 = (s.advance n).parityStored c table index word := by
      cases table
      case mesh => rfl
      case ilut => rfl
      case olut => rfl
      case blend => rfl
      case uni => rfl
    have h3 : s3.composing c = false := by
      rw [← hxc, ← h2]
      exact composing_modPic_bad s2 c fun l => if known then l else b :: l
    rw [if_pos (by rw [h3]; rfl)]
    simp only [s3, known, h2, b, pg, pageInForce_advance, s1]
  refine ⟨_, hnext, modPic_rd _ _ _, ?_, hmem⟩
  simp only [modPic, vector_get_set_self]
  split
  next h => exact List.contains_iff_mem.1 h
  next h => exact List.mem_cons_self

end State

/-- Settles O27: a window's word holds one field, which the bus stores where its page is not in force and refuses where it is; the
validation and the parity mark are the units' own. -/
theorem tableWords : Obligations.TableWords := by
  refine ⟨fun n addr j f c data s hf h h4 hd hst hc hon hfs hl hs => ?_, fun n addr j f c data s hf h h4 hd hst hc hon hfs hl => ?_,
    fun n addr k c pg data s h h4 hd hst hc hon hfs hk hpg hs => ?_, fun n c s hb => ?_, fun n c pg s hb => ?_,
    fun n word index c s hc => ?_, fun n word index c s hc => ?_, fun n word index c s hc => ?_, fun n word index c s hc => ?_,
    fun n word index c s hc => ?_⟩
  · have hnext := State.tableWindowWrite_eq (n := n) (data := data) hf h h4 hd hfs
    rw [State.busWrite_stores (s := s.advance n) ⟨⟨c, hc, hon⟩, hst, hfs⟩ (State.plainTable hf) hl hs] at hnext
    obtain ⟨hv, hw⟩ := State.storeLive_table hf (s.advance n) j (data.toNat % 2 ^ 16)
    exact ⟨_, hnext, hv.trans (Nat.mod_mod _ _), hw.onlyRegs, KeepsNext.sameMemory (KeepsNext.execTableWindowWrite .refl) hnext⟩
  · have hnext := State.tableWindowWrite_eq (n := n) (data := data) hf h h4 hd hfs
    rw [State.busWrite_pageInForce (s := s.advance n) ⟨⟨c, hc, hon⟩, hst, hfs⟩ (State.plainTable hf) hl] at hnext
    obtain ⟨ha, hcause, hcnt⟩ := State.applyErr_shows (s.advance n) (addr := addr) (cause := 3) h (by decide) 0
    exact ⟨_, hnext, (State.applyErr_leaves (s.advance n) addr 3 0 (State.plainTable hf).part).rd j, hcause, ha, hcnt,
      KeepsNext.sameMemory (KeepsNext.execTableWindowWrite .refl) hnext⟩
  · have hnext := State.schedWindowWrite_eq (n := n) (data := data) h h4 hd hfs
    rw [State.busWrite_stores (s := s.advance n) ⟨⟨c, hc, hon⟩, hst, hfs⟩ State.plainTable_schedWord (State.pageLocked_schedWord hk hpg) hs] at hnext
    obtain ⟨hv, hvalid, hw⟩ := State.storeLive_schedWord (s.advance n) c pg (v := data.toNat % 2 ^ 32) hk
    refine ⟨_, hnext, hv.trans ?_, hvalid, hw.onlyRegs, KeepsNext.sameMemory (KeepsNext.execSchedWindowWrite .refl) hnext⟩
    rw [Nat.mod_mod]
    exact Nat.mod_eq_of_lt data.isLt
  · have hnext := State.schedCheckGo_eq hb n
    refine ⟨_, hnext, State.rd_wr_of_lt _ _ _ (by decide), ?_, ?_, KeepsNext.sameMemory (KeepsNext.execSchedCheckGo .refl) hnext⟩
    · rw [State.wr_pic]
      exact congrArg Picture.schedBusy (vector_get_set_self ..)
    · exact (WritesOnly.wr (.same .refl (State.modPic_rd (s.advance n) c _)) (by simp)).onlyRegs
  · have hnext := State.schedCheckDone_eq hb n
    obtain ⟨hv, hw⟩ := State.validatePage_rd (s.advance n) c pg
    have hne : State.validFld pg ≠ .pln .schedChkBusy := by
      unfold State.validFld
      split
      · decide
      · decide
    refine ⟨_, hnext, ?_, State.rd_wr_of_lt _ _ _ (by decide), ?_, ?_, KeepsNext.sameMemory (KeepsNext.execSchedCheckDone .refl) hnext⟩
    · rw [State.rd_wr_ne_fld _ hne, State.modPic_rd]
      exact hv
    · rw [State.wr_pic]
      exact congrArg Picture.schedBusy (vector_get_set_self ..)
    · refine (WritesOnly.wr (.same (hw.mono fun f i hp => ?_) (State.modPic_rd _ c _)) (by simp)).onlyRegs
      simp only [inList, List.mem_cons, List.not_mem_nil, or_false] at hp ⊢
      tauto
  · obtain ⟨r, hnext, hrd, hbad, hmem⟩ := State.tableParityError_marks (table := .ilut) (index := index) (word := word) hc n
    simp only [State.parityStored, State.pageInForce_advance, Nat.mod_eq_of_lt index.isLt] at hrd
    exact ⟨r, hnext, (hrd _ _).trans (State.rd_wr_same ..), hbad, (WritesOnly.same (.wr .refl (by simp)) hrd).onlyRegs, hmem⟩
  · obtain ⟨r, hnext, hrd, hbad, hmem⟩ := State.tableParityError_marks (table := .olut) (index := index) (word := word) hc n
    simp only [State.parityStored, State.pageInForce_advance, Nat.mod_eq_of_lt index.isLt] at hrd
    exact ⟨r, hnext, (hrd _ _).trans (State.rd_wr_same ..), hbad, (WritesOnly.same (.wr .refl (by simp)) hrd).onlyRegs, hmem⟩
  · obtain ⟨r, hnext, hrd, hbad, hmem⟩ := State.tableParityError_marks (table := .blend) (index := index) (word := word) hc n
    simp only [State.parityStored, State.pageInForce_advance, Nat.mod_eq_of_lt index.isLt] at hrd
    exact ⟨r, hnext, (hrd _ _).trans (State.rd_wr_same ..), hbad, (WritesOnly.same (.wr .refl (by simp)) hrd).onlyRegs, hmem⟩
  · obtain ⟨r, hnext, hrd, hbad, hmem⟩ := State.tableParityError_marks (table := .uni) (index := index) (word := word) hc n
    simp only [State.parityStored, State.pageInForce_advance, Nat.mod_eq_of_lt index.isLt] at hrd
    exact ⟨r, hnext, (hrd _ _).trans (State.rd_wr_same ..), hbad, (WritesOnly.same (.wr .refl (by simp)) hrd).onlyRegs, hmem⟩
  · obtain ⟨r, hnext, hrd, hbad, hmem⟩ := State.tableParityError_marks (table := .mesh) (index := index) (word := word) hc n
    simp only [State.parityStored, State.pageInForce_advance, Nat.mod_eq_of_lt index.isLt] at hrd
    refine ⟨r, hnext, ?_, ?_, hbad, (WritesOnly.same (.wr (.wr .refl (by simp)) (by simp)) hrd).onlyRegs, hmem⟩
    · rw [hrd, State.rd_wr_ne_fld _ (by decide)]
      exact (State.rd_wr_same ..).trans (by rw [bits, Nat.pow_zero, Nat.div_one]; exact Nat.mod_mod _ _)
    · rw [hrd]
      exact (State.rd_wr_same ..).trans (Nat.mod_mod _ _)

end Sys2Proof.Machine
end

section
/-! DisplayPort inputs: training, loss, self-refresh, discarded frames and AUX (R72 to R76). -/

namespace Sys2Proof.Machine

set_option Elab.async false

namespace WritesOnly

variable {P : Fld → Nat → Prop} {s t : State}

theorem wakeHeld {c : Fin 4} {n : Nat} (h : WritesOnly P s t) (hp : ∀ i, P (.chr .heldWake) i) : WritesOnly P s (t.wakeHeld c n) :=
  h.trans fun f i hf => State.rd_wakeHeld _ _ _ (by rintro rfl; exact hf (hp i))

end WritesOnly

namespace State

variable {s : State}

/-- An event of another unit leaves a status word. -/
theorem report_status_other (s : State) {u v : UType} (x : StF) (i code : Nat) (items : List (Nat × Nat)) (h : v ≠ u) :
    Leaves (.st v x) s (s.report u i code items) := ⟨fun _ => reportSub_other _ _ _ _ _ _ _ _ _ (.inl fun e => h e.1)⟩

theorem lockLost_lastclass (s : State) (c : Fin 4) (cause : Nat) : Leaves (.st .dpr .lastclass) s (s.lockLost c cause) := by
  unfold lockLost
  extract_lets s1
  have hs1 : Leaves (.st .dpr .lastclass) s s1 := ⟨fun _ => modChr_rd ..⟩
  refine .ite hs1 (.trans (.wr ?_) (report_status_other _ _ _ _ _ (by decide)))
  exact (hs1.touches (.wakeHeld .refl : Touches Touches.Parts.wakeHeld _ _)).trans ⟨fun _ => modChr_rd ..⟩

/-- A lost input is down, out of self-refresh, shows its cause and has raised a class D event (R75). -/
theorem loseInput_shows (s : State) (i : Fin 4) {cause : Nat} (hc : cause < 8) :
    (s.loseInput i cause).rd (.dpr .linkUp) i = 0 ∧ (s.loseInput i cause).rd (.dpr .linkPsr) i = 0
    ∧ (s.loseInput i cause).rd (.dpr .linkLostcause) i = cause ∧ (s.loseInput i cause).rd (.st .dpr .lastclass) i = 2 := by
  have hafter : ∀ f, f.part = .reg .dpr →
      Leaves f (((s.wr (.dpr .linkUp) i 0).wr (.dpr .linkPsr) i 0).wr (.dpr .linkLostcause) i cause) (s.loseInput i cause) := by
    intro f hf
    have he : eventFld f = false := by
      unfold eventFld
      split
      · exact absurd hf (by simp [Fld.part])
      · exact absurd hf (by simp [Fld.part])
      · exact absurd hf (by simp [Fld.part])
      · rfl
    have hw : ∀ x : State, Leaves f x (x.wakeInput i) := fun x =>
      .touches .refl (.wakeInput .refl : Touches Touches.Parts.wakeInput x _) (by simp [hf, Touches.Parts.wakeInput])
    have hs : ∀ x : State, Leaves f x (x.showCover i) := fun x =>
      .touches .refl (.showCover .refl : Touches Touches.Parts.showCover x _) (by simp [hf, Touches.Parts.showCover])
    have hl : ∀ x c, Leaves f x (State.lockLost x c 2) := fun x c =>
      .touches .refl (.lockLost .refl : Touches Touches.Parts.lockLost x _) (by simp [hf, Touches.Parts.lockLost])
    unfold loseInput
    exact .forClusters (((Leaves.refl.report he).trans (hw _)).trans (hs _)) fun x c hx => .ite (hx.trans (hl x c)) hx
  refine ⟨?_, ?_, ?_, ?_⟩
  · rw [(hafter _ rfl).rd, rd_wr_ne_fld _ (by decide), rd_wr_ne_fld _ (by decide)]
    exact rd_wr_of_lt ..
  · rw [(hafter _ rfl).rd, rd_wr_ne_fld _ (by decide)]
    exact rd_wr_of_lt ..
  · rw [(hafter _ rfl).rd]
    exact rd_wr_of_lt _ _ _ (Nat.lt_of_lt_of_le hc (by decide))
  · have hcover : ∀ x : State, Leaves (.st .dpr .lastclass) x (x.showCover i) := fun x => by
      unfold showCover
      exact .wrb .refl
    have hw : ∀ x : State, Leaves (.st .dpr .lastclass) x (x.wakeInput i) := fun x =>
      .touches .refl (.wakeInput .refl : Touches Touches.Parts.wakeInput x _)
    unfold loseInput
    extract_lets s1 s2
    have h2 : Leaves (.st .dpr .lastclass) (s1.report .dpr i 0x2801 [(1, cause)]) s2 := (hw _).trans (hcover _)
    refine ((h2.forClusters fun x c hx => .ite (hx.trans (lockLost_lastclass x c 2)) hx).rd i).trans ?_
    exact report_lastclass s1 .dpr i 0x2801 [(1, cause)] rfl (by decide)

/-- A trained input, before its events (R75). -/
def trained (s : State) (i rate : Fin 4) (lanes w h : Nat) (dsc : Bool) : State :=
  (((((((s.wr (.dpr .linkUp) i 1).wr (.dpr .linkRate) i rate.val).wr (.dpr .linkLanes) i lanes).wrb (.dpr .linkDsc) i dsc).wr
    (.dpr .timingW) i w).wr (.dpr .timingH) i h).showCover i)

theorem trained_shows (s : State) (i rate : Fin 4) (lanes w h : Nat) (dsc : Bool) :
    (s.trained i rate lanes w h dsc).rd (.dpr .linkUp) i = 1 ∧ (s.trained i rate lanes w h dsc).rd (.dpr .linkRate) i = rate
    ∧ (s.trained i rate lanes w h dsc).rd (.dpr .linkDsc) i = b2n dsc := by
  have hs : ∀ (x : State) {f : Fld}, f.part = .reg .dpr → Leaves f x (x.showCover i) := fun x _ hf =>
    .touches .refl (.showCover .refl : Touches Touches.Parts.showCover x _) (by simp [hf, Touches.Parts.showCover])
  unfold trained
  refine ⟨?_, ?_, ?_⟩
  · refine ((hs _ rfl).rd i).trans ?_
    simp (disch := decide) only [rd_wr_ne_fld, rd_wrb_ne_fld]
    exact rd_wr_of_lt ..
  · refine ((hs _ rfl).rd i).trans ?_
    simp (disch := decide) only [rd_wr_ne_fld, rd_wrb_ne_fld]
    exact rd_wr_of_lt _ _ _ (Nat.lt_of_lt_of_le rate.isLt (by decide))
  · refine ((hs _ rfl).rd i).trans ?_
    simp (disch := decide) only [rd_wr_ne_fld]
    exact rd_wrb_same ..

/-- A receiver that can train: HPD high, powered and not stopped. -/
structure CanTrain (s : State) (i : Fin 4) : Prop where
  hpd : s.on (.dpr .linkHpd) i = true
  powered : s.domOn (4 + i.val) = true
  running : s.halted .dpr i = false

theorem CanTrain.cond {i : Fin 4} (h : CanTrain s i) : ¬ (!s.on (.dpr .linkHpd) i || !s.domOn (4 + i.val) || s.halted .dpr i) = true := by
  simp [h.hpd, h.powered, h.running]

theorem dpLinkTraining_unfit {n lanes w h : Nat} {i rate : Fin 4} {dsc : Bool} (hc : CanTrain s i) :
    exec (.dpLinkTraining n i false rate lanes w h dsc) s = .next ((s.advance n).loseInput i 1) := by
  change execDpLinkTraining n i false rate lanes w h dsc s = _
  unfold execDpLinkTraining
  exact (if_neg hc.cond).trans (if_pos rfl)

theorem dpLinkTraining_unsupported {n lanes w h : Nat} {i rate : Fin 4} {dsc : Bool} (hc : CanTrain s i) (hu : unsupported lanes w h = true) :
    exec (.dpLinkTraining n i true rate lanes w h dsc) s = .next ((s.advance n).loseInput i 4) := by
  change execDpLinkTraining n i true rate lanes w h dsc s = _
  unfold execDpLinkTraining
  exact (if_neg hc.cond).trans ((if_neg (by decide)).trans (if_pos hu))

theorem dpLinkTraining_trains {n lanes w h : Nat} {i rate : Fin 4} {dsc : Bool} (hc : CanTrain s i) (hu : unsupported lanes w h = false) :
    ∃ r, exec (.dpLinkTraining n i true rate lanes w h dsc) s = .next r
      ∧ ∀ f, eventFld f = false → Leaves f ((s.advance n).trained i rate lanes w h dsc) r := by
  generalize hx : (s.advance n).trained i rate lanes w h dsc = x
  have hnext : exec (.dpLinkTraining n i true rate lanes w h dsc) s = .next
      (if !s.on (.dpr .linkUp) i && s.rd (.dpr .linkLostcause) i != 0 then
        (if rate.val < 3 then x.report .dpr i 0x1802 [(1, rate.val), (1, lanes)] else x).report .dpr i 0x1806
          [(1, rate.val), (1, lanes), (2, w), (2, h)]
      else if rate.val < 3 then x.report .dpr i 0x1802 [(1, rate.val), (1, lanes)] else x) := by
    subst hx
    change execDpLinkTraining n i true rate lanes w h dsc s = _
    unfold execDpLinkTraining
    exact (if_neg hc.cond).trans ((if_neg (by decide)).trans (if_neg (by simp [hu])))
  refine ⟨_, hnext, fun f hf => ?_⟩
  have hone : Leaves f x (if rate.val < 3 then x.report .dpr i 0x1802 [(1, rate.val), (1, lanes)] else x) := .ite (.report .refl hf) .refl
  exact .ite (hone.report hf) hone

theorem dpInputLost_up {n : Nat} {i : Fin 4} {cause : Fin 5} (h : s.rd (.dpr .linkUp) i ≠ 0) :
    exec (.dpInputLost n i cause) s = .next ((s.advance n).loseInput i cause) := by
  change execDpInputLost n i cause s = _
  unfold execDpInputLost
  exact if_neg (by simpa using h)

theorem dpPsrChange_up {n : Nat} {i : Fin 4} {psr : Fin 3} (h : s.on (.dpr .linkUp) i = true) :
    exec (.dpPsrChange n i psr) s = .next (if s.rd (.dpr .linkPsr) i != 0 && psr.val == 0
      then ((s.advance n).wr (.dpr .linkPsr) i psr).wakeInput i else (s.advance n).wr (.dpr .linkPsr) i psr) := by
  change execDpPsrChange n i psr s = _
  unfold execDpPsrChange
  exact if_neg (by simp [show (s.advance n).on (.dpr .linkUp) i = true from h])

theorem wakeInput_writes {P : Fld → Nat → Prop} (hp : ∀ i, P (.chr .heldWake) i) (s : State) (i : Fin 4) : WritesOnly P s (s.wakeInput i) :=
  .foldl' .refl fun _ _ hx => .wakeHeld hx hp

/-- The bytes of an AUX answer whose values are free, and the state with them drawn. -/
def auxDrawn (off : Nat) (acc : List Nat × State) (k : Nat) : List Nat × State :=
  let f := acc.2.freeBits 8
  let cap := dpcdCap (off + k)
  (acc.1 ++ [(f.1 &&& (0xFF ^^^ cap.1)) ||| cap.2], f.2)

/-- As many bytes as asked are drawn, and nothing else changes. -/
theorem foldl_auxDrawn (off : Nat) (l : List Nat) (acc : List Nat × State) :
    (l.foldl (auxDrawn off) acc).1.length = acc.1.length + l.length
    ∧ ∃ m, (l.foldl (auxDrawn off) acc).2 = { acc.2 with fresh := m } := by
  induction l generalizing acc with
  | nil => exact ⟨rfl, acc.2.fresh, rfl⟩
  | cons k l ih =>
    obtain ⟨hlen, m, hm⟩ := ih (auxDrawn off acc k)
    refine ⟨?_, m, hm⟩
    rw [List.foldl_cons, hlen, List.length_cons, auxDrawn, List.length_append, List.length_singleton]
    omega

theorem dpAux_edid {n off len : Nat} {i : Fin 4} (h : s.on (.dpr .linkHpd) i = true) : exec (.dpAuxTransaction n i true off len) s =
    .next ((s.advance n).emit (.aux i ((List.range len).map fun k => s.dp[i].edid.getD (off + k) 0))) := by
  change execDpAuxTransaction n i true off len s = _
  unfold execDpAuxTransaction
  exact (if_neg (by simp [show (s.advance n).on (.dpr .linkHpd) i = true from h])).trans (if_pos rfl)

theorem dpAux_other {n off len : Nat} {i : Fin 4} (h : s.on (.dpr .linkHpd) i = true) : exec (.dpAuxTransaction n i false off len) s =
    .next (((List.range len).foldl (auxDrawn off) ([], s.advance n)).2.emit (.aux i ((List.range len).foldl (auxDrawn off) ([], s.advance n)).1)) := by
  change execDpAuxTransaction n i false off len s = _
  unfold execDpAuxTransaction
  exact (if_neg (by simp [show (s.advance n).on (.dpr .linkHpd) i = true from h])).trans (if_neg (by decide))

end State

/-- Settles O25: each branch of the training has its own equation; a loss writes the link's word before its event, and what follows the
event touches other units. -/
theorem inputTrained : Obligations.InputTrained := by
  refine ⟨fun n lanes w h i rate dsc s hp hd hh hu => ?_, fun n lanes w h i rate dsc s hp hd hh => ?_, fun n lanes w h i rate dsc s hp hd hh hu => ?_,
    fun n i cause s hup => ?_, fun n i psr s hup => ?_, fun n i s => ?_, fun n off len i s hp => ?_, fun n off len i s hp => ?_⟩
  · obtain ⟨r, hnext, hr⟩ := State.dpLinkTraining_trains (n := n) (rate := rate) (dsc := dsc) ⟨hp, hd, hh⟩ hu
    obtain ⟨hu1, hrate, hdsc⟩ := (s.advance n).trained_shows i rate lanes w h dsc
    exact ⟨r, hnext, ((hr _ rfl).rd i).trans hu1, ((hr _ rfl).rd i).trans hrate, ((hr _ rfl).rd i).trans hdsc,
      KeepsNext.sameMemory (KeepsNext.execDpLinkTraining .refl) hnext⟩
  · have hnext := State.dpLinkTraining_unfit (n := n) (lanes := lanes) (w := w) (h := h) (rate := rate) (dsc := dsc) ⟨hp, hd, hh⟩
    obtain ⟨hu1, -, hcause, hclass⟩ := (s.advance n).loseInput_shows i (cause := 1) (by decide)
    exact ⟨_, hnext, hu1, hcause, hclass, KeepsNext.sameMemory (KeepsNext.execDpLinkTraining .refl) hnext⟩
  · have hnext := State.dpLinkTraining_unsupported (n := n) (rate := rate) (dsc := dsc) ⟨hp, hd, hh⟩ hu
    obtain ⟨hu1, -, hcause, hclass⟩ := (s.advance n).loseInput_shows i (cause := 4) (by decide)
    exact ⟨_, hnext, hu1, hcause, hclass, KeepsNext.sameMemory (KeepsNext.execDpLinkTraining .refl) hnext⟩
  · have hnext := State.dpInputLost_up (n := n) (cause := cause) hup
    obtain ⟨hu1, hpsr, hcause, -⟩ := (s.advance n).loseInput_shows i (cause := cause) (by omega)
    exact ⟨_, hnext, hu1, hpsr, hcause, KeepsNext.sameMemory (KeepsNext.execDpInputLost .refl) hnext⟩
  · have hnext := State.dpPsrChange_up (n := n) (psr := psr) hup
    have hv : ((s.advance n).wr (.dpr .linkPsr) i psr).rd (.dpr .linkPsr) i = psr :=
      State.rd_wr_of_lt _ _ _ (Nat.lt_of_lt_of_le psr.isLt (by decide))
    have hw : WritesOnly (inListOrEvent [(.dpr .linkPsr, i.val)]) s ((s.advance n).wr (.dpr .linkPsr) i psr) :=
      .wr (.advance .refl) (.inl (List.mem_singleton.2 rfl))
    refine ⟨_, hnext, ?_, (WritesOnly.ite (hw.trans (State.wakeInput_writes (fun _ => .inr rfl) _ i)) hw).onlyRegsAndEvents,
      KeepsNext.sameMemory (KeepsNext.execDpPsrChange .refl) hnext⟩
    exact ((Leaves.ite (.touches .refl (.wakeInput .refl : Touches Touches.Parts.wakeInput _ _)) .refl).rd i).trans hv
  · refine ⟨(s.advance n).discardFrame i, rfl, ?_, ?_, ?_, KeepsNext.sameMemory (KeepsNext.execDpFrameDiscard .refl) rfl⟩
    · exact ((Leaves.refl.report).rd i).trans (State.bump_rd_same ..)
    · exact State.report_raised_of rfl (State.rd_bump_ne_fld _ (by decide))
    · exact (WritesOnly.report (.bump (t := ((s.advance n).freeBits 8).2) (.same .refl fun _ _ => rfl) (.inl (List.mem_singleton.2 rfl))) inListOrEvent_event).onlyRegsAndEvents
  · exact ⟨_, State.dpAux_edid hp, rfl, fun _ _ _ => rfl, rfl, rfl, rfl⟩
  · obtain ⟨hlen, m, hm⟩ := State.foldl_auxDrawn off (List.range len) ([], s.advance n)
    refine ⟨_, _, State.dpAux_other hp, ?_, hlen.trans (by simp), ?_, ?_⟩
    · rw [hm]
      rfl
    · intro f j _
      rw [hm]
      rfl
    · rw [hm]
      exact ⟨rfl, rfl, rfl⟩

end Sys2Proof.Machine
end

section
/-! The samples of Heliostat slots: triggers, outputs and saturation (R212 to R215, R228). -/

namespace Sys2Proof.Machine

set_option Elab.async false

/-- From s to t a slot's last accepted trigger stands, and whether it has been sampled. -/
structure TrigKept (q : Fin 4) (z : Fin 16) (s t : State) : Prop where
  trig : t.hel[q].slots[z].lastTrig = s.hel[q].slots[z].lastTrig
  sampled : t.hel[q].slots[z].sampled = s.hel[q].slots[z].sampled

namespace TrigKept

variable {q : Fin 4} {z : Fin 16} {s t u : State}

theorem refl : TrigKept q z s s := ⟨rfl, rfl⟩

theorem trans (h : TrigKept q z s t) (e : TrigKept q z t u) : TrigKept q z s u := ⟨e.trig.trans h.trig, e.sampled.trans h.sampled⟩

theorem of_hel (h : TrigKept q z s t) (e : u.hel = t.hel) : TrigKept q z s u := h.trans ⟨by rw [e], by rw [e]⟩

theorem touches {ps : List Part} (h : TrigKept q z s t) (e : Touches ps t u) (hp : Part.hel ∉ ps := by decide) : TrigKept q z s u :=
  h.of_hel (e .hel hp)

theorem ite {p : Prop} [Decidable p] (h : TrigKept q z s t) (e : TrigKept q z s u) : TrigKept q z s (if p then t else u) := by
  split
  · exact h
  · exact e

theorem foldl {α : Type} {g : State → α → State} {l : List α} (h : TrigKept q z s t) (e : ∀ x a, TrigKept q z s x → TrigKept q z s (g x a)) :
    TrigKept q z s (l.foldl g t) := foldl_keeps (P := TrigKept q z s) e h

theorem forClusters {l : List (Fin 4)} {g : State → Fin 4 → State} (h : TrigKept q z s t)
    (e : ∀ x c, TrigKept q z s x → TrigKept q z s (g x c)) : TrigKept q z s (t.forClusters l g) := h.foldl e

theorem wr {f : Fld} {i v : Nat} (h : TrigKept q z s t) : TrigKept q z s (t.wr f i v) := h.of_hel rfl

theorem wrb {f : Fld} {i : Nat} {b : Bool} (h : TrigKept q z s t) : TrigKept q z s (t.wrb f i b) := h.of_hel rfl

theorem wrI {f : Fld} {i : Nat} {v : Int} (h : TrigKept q z s t) : TrigKept q z s (t.wrI f i v) := h.of_hel rfl

theorem bump {f : Fld} {i : Nat} (h : TrigKept q z s t) : TrigKept q z s (t.bump f i) := h.of_hel rfl

theorem wakeHeld {c : Fin 4} {n : Nat} (h : TrigKept q z s t) : TrigKept q z s (t.wakeHeld c n) :=
  h.touches (Touches.wakeHeld .refl : Touches Touches.Parts.wakeHeld _ _)

theorem reportSub {v : UType} {i sub code : Nat} {items : List (Nat × Nat)} (h : TrigKept q z s t) :
    TrigKept q z s (t.reportSub v i sub code items) := h.touches (Touches.reportSub .refl : Touches Touches.Parts.reportSub _ _)

theorem report {v : UType} {i code : Nat} {items : List (Nat × Nat)} (h : TrigKept q z s t) : TrigKept q z s (t.report v i code items) :=
  h.reportSub

theorem modHel {c : Fin 4} {f : Helio → Helio} (h : TrigKept q z s t) (hf : ∀ p, (f p).slots[z].lastTrig = p.slots[z].lastTrig
    ∧ (f p).slots[z].sampled = p.slots[z].sampled := by intro _; exact ⟨rfl, rfl⟩) : TrigKept q z s (t.modHel c f) := by
  have hc : (t.modHel c f).hel[q] = if c = q then f t.hel[c] else t.hel[q] := vector_get_set ..
  refine h.trans ⟨?_, ?_⟩
  · rw [hc]
    split
    next e => rw [(hf _).1, e]
    next => rfl
  · rw [hc]
    split
    next e => rw [(hf _).2, e]
    next => rfl

theorem modSlot {c : Fin 4} {i : Fin 16} {f : HelSlot → HelSlot} (h : TrigKept q z s t)
    (hf : ∀ x, (f x).lastTrig = x.lastTrig ∧ (f x).sampled = x.sampled := by intro _; exact ⟨rfl, rfl⟩) :
    TrigKept q z s (t.modSlot c i f) := .modHel h fun p => by
  simp only [vector_get_set]
  split
  next e => rw [(hf _).1, (hf _).2, e]; exact ⟨rfl, rfl⟩
  next => exact ⟨rfl, rfl⟩

theorem darken {c fault u i code} (h : TrigKept q z s t) : TrigKept q z s (t.darken c fault u i code) :=
  h.touches (Touches.darken .refl : Touches Touches.Parts.darken _ _)

theorem haltChronograph {c} (h : TrigKept q z s t) : TrigKept q z s (t.haltChronograph c) :=
  h.touches (Touches.haltChronograph .refl : Touches Touches.Parts.haltChronograph _ _)

theorem cutDiag {c k} (h : TrigKept q z s t) : TrigKept q z s (t.cutDiag c k) :=
  h.touches (Touches.cutDiag .refl : Touches Touches.Parts.cutDiag _ _)

theorem setLen {c k v} (h : TrigKept q z s t) : TrigKept q z s (t.setLen c k v) :=
  h.touches (Touches.setLen .refl : Touches Touches.Parts.setLen _ _)

theorem showOpen {c i} (h : TrigKept q z s t) : TrigKept q z s (t.showOpen c i) :=
  h.touches (Touches.showOpen .refl : Touches Touches.Parts.showOpen _ _)

theorem takeLref {c k code} (h : TrigKept q z s t) : TrigKept q z s (t.takeLref c k code) :=
  h.touches (Touches.takeLref .refl : Touches Touches.Parts.takeLref _ _)

theorem deliver {c u d} (h : TrigKept q z s t) : TrigKept q z s (t.deliver c u d) := by
  refine h.trans ?_
  unfold State.deliver
  split
  · exact .ite (.takeLref .refl) .refl
  · exact .ite (.modHel .refl) .refl
  · exact .refl

theorem writeOut {c i u} (h : TrigKept q z s t) : TrigKept q z s (t.writeOut c i u) := by
  refine h.trans ?_
  unfold State.writeOut
  extract_lets j was s1 s2 tol
  have hs1 : TrigKept q z t s1 := .modSlot (.wrI .refl)
  have hs2 : TrigKept q z t s2 := .foldl hs1 (fun _ _ hx => .deliver hx)
  exact .ite (.wakeHeld hs2) hs2

theorem writeSafe {c i} (h : TrigKept q z s t) : TrigKept q z s (t.writeSafe c i) :=
  h.trans (.writeOut .refl)

theorem stopSlot {c i} (h : TrigKept q z s t) : TrigKept q z s (t.stopSlot c i) :=
  h.trans (.showOpen (.writeSafe .refl))

theorem lensLow {c} (h : TrigKept q z s t) : TrigKept q z s (t.lensLow c) :=
  h.touches (Touches.lensLow .refl : Touches Touches.Parts.lensLow _ _)

theorem modPic {c f} (h : TrigKept q z s t) : TrigKept q z s (t.modPic c f) :=
  h.touches (Touches.modPic .refl : Touches Touches.Parts.modPic _ _)

theorem unitFault {u i sub code items} (h : TrigKept q z s t) : TrigKept q z s (t.unitFault u i sub code items) :=
  h.trans (.ite .refl (by
    extract_lets s1 c
    have hs1 : TrigKept q z t s1 := .reportSub .refl
    split
    · exact .darken hs1
    · exact .darken hs1
    · exact .darken hs1
    · exact .darken hs1
    · exact .haltChronograph (.darken hs1)
    · exact .ite (.darken hs1) hs1
    · exact .cutDiag (.setLen hs1)
    · exact .stopSlot hs1
    · exact .lensLow hs1
    · exact .forClusters hs1 (fun _ _ hx => .modPic hx)
    · exact hs1))

theorem overrun {c i} (h : TrigKept q z s t) : TrigKept q z s (t.overrun c i) := by
  refine h.trans ?_
  unfold State.overrun
  extract_lets j first s1 s2 s3 n
  have hs1 : TrigKept q z t s1 := .bump (.bump .refl)
  have hs2 : TrigKept q z t s2 := .modSlot hs1
  have hs3 : TrigKept q z t s3 := .ite (.report hs2) hs2
  exact .ite hs3 (.unitFault hs3)

theorem loadInit {c i} (h : TrigKept q z s t) : TrigKept q z s (t.loadInit c i) := by
  refine h.trans ?_
  unfold State.loadInit
  extract_lets v
  exact .wrI (.modSlot .refl)

theorem moveSetpoint {c i} (h : TrigKept q z s t) : TrigKept q z s (t.moveSetpoint c i) := by
  refine h.trans ?_
  unfold State.moveSetpoint
  extract_lets j x src req s1 want r
  have hs1 : TrigKept q z t s1 := .modSlot .refl
  exact .wrb (.wrI hs1)

theorem pdLost {c i} (h : TrigKept q z s t) : TrigKept q z s (t.pdLost c i) := by
  refine h.trans ?_
  unfold State.pdLost
  extract_lets j n s1
  have hs1 : TrigKept q z t s1 := .bump (.modSlot .refl)
  exact .ite (.report hs1) hs1

theorem channelFault {c k cause} (h : TrigKept q z s t) : TrigKept q z s (t.channelFault c k cause) :=
  h.touches (Touches.channelFault .refl : Touches Touches.Parts.channelFault _ _)

theorem satFault {c i u} (h : TrigKept q z s t) : TrigKept q z s (t.satFault c i u) := by
  refine h.trans ?_
  unfold State.satFault
  extract_lets j act s1 s2 s3
  have hs1 : TrigKept q z t s1 := .modSlot (.wr .refl)
  have hs2 : TrigKept q z t s2 := .report hs1
  have hs3 : TrigKept q z t s3 := .ite hs2 (.foldl hs2 (fun _ _ hx => .channelFault hx))
  exact .showOpen (.ite hs3 (.writeSafe hs3))

end TrigKept

namespace State

variable {s : State}

theorem modSlot_slot (s : State) (c : Fin 4) (i : Fin 16) (f : HelSlot → HelSlot) :
    (s.modSlot c i f).hel[c].slots[i] = f s.hel[c].slots[i] := by
  simp only [modSlot, modHel, vector_get_set_self]

/-- A slot sampled at an instant. -/
def SampledAt (n : Nat) (c : Fin 4) (i : Fin 16) (s : State) : Prop := s.hel[c].slots[i].lastTrig = some n ∧ s.hel[c].slots[i].sampled = true

theorem SampledAt.after {n : Nat} {c : Fin 4} {i : Fin 16} {s t : State} (h : SampledAt n c i s) (k : TrigKept c i s t) : SampledAt n c i t :=
  ⟨k.trig.trans h.1, k.sampled.trans h.2⟩

/-- An accepted trigger is the slot's last (R213, R215). -/
theorem acceptSample_sampled (s : State) (c : Fin 4) (i : Fin 16) (code : Option Nat) : SampledAt s.now c i (s.acceptSample c i code) := by
  unfold acceptSample
  extract_lets j x s1 s2 s3 s4 wr s5 s6 s7 lit pd gone s8 dark m1 r s9 s10 s11 n s12
  have h1 : s1.now = s.now := by
    simp only [s1]
    split
    · rfl
    · rfl
  have h2 : SampledAt s.now c i s2 := by
    simp only [SampledAt, s2, modSlot_slot, h1, and_self]
  have hs2 : TrigKept c i s2 s2 := .refl
  have hs3 : TrigKept c i s2 s3 := by
    simp only [s3]
    split
    · exact .ite (.loadInit hs2) hs2
    · exact hs2
  have hs4 : TrigKept c i s2 s4 := .moveSetpoint hs3
  have hs5 : TrigKept c i s2 s5 := .ite hs4 (.report hs4)
  have hs6 : TrigKept c i s2 s6 := .modSlot (.wr hs5)
  have hs7 : TrigKept c i s2 s7 := .ite hs4 (.report (.wr (.modSlot hs4)))
  have hs8 : TrigKept c i s2 s8 := .ite (.pdLost hs7) (.ite (.modSlot hs7) hs7)
  have hs9 : TrigKept c i s2 s9 := by
    simp only [s9]
    clear_value m1
    split
    · exact .wrI hs8
    · exact hs8
  have hs10 : TrigKept c i s2 s10 := .wrI (.modSlot hs9)
  have hs11 : TrigKept c i s2 s11 := .showOpen (.wrb hs10)
  have hs12 : TrigKept c i s2 s12 := .modSlot (.wrb hs11)
  exact .after h2 (.ite (.showOpen hs6) (.ite hs11 (.ite (.satFault hs12) hs12)))

/-! ### The strobes that have arrived -/

/-- What the arrival of strobes leaves: everything but the slots' forced steps and the cascades' scales. -/
structure Arrived (s t : State) (c : Fin 4) (i : Fin 16) : Prop where
  rest : ∃ v, t = { s with hel := v }
  trig : t.hel[c].slots[i].lastTrig = s.hel[c].slots[i].lastTrig
  due : t.hel[c].slots[i].due = s.hel[c].slots[i].due
  stopped : t.hel[c].slots[i].stopped = s.hel[c].slots[i].stopped
  meas : t.hel[c].csMeas = s.hel[c].csMeas

theorem arrived_modHel {t : State} {c : Fin 4} {i : Fin 16} {f : Helio → Helio} (h : Arrived s t c i)
    (hf : ∀ p, (f p).slots[i].lastTrig = p.slots[i].lastTrig ∧ (f p).slots[i].due = p.slots[i].due
      ∧ (f p).slots[i].stopped = p.slots[i].stopped ∧ (f p).csMeas = p.csMeas) : Arrived s (t.modHel c f) c i := by
  obtain ⟨v, hv⟩ := h.rest
  have hc : (t.modHel c f).hel[c] = f t.hel[c] := vector_get_set_self ..
  obtain ⟨h1, h2, h3, h4⟩ := hf t.hel[c]
  exact ⟨⟨_, by rw [modHel, hv]⟩, by rw [hc, h1, h.trig], by rw [hc, h2, h.due], by rw [hc, h3, h.stopped], by rw [hc, h4, h.meas]⟩

theorem arriveStrobes_arrived (s : State) (c : Fin 4) (i : Fin 16) : Arrived s (s.arriveStrobes c) c i := by
  refine foldl_keeps (P := fun t => Arrived s t c i) (fun x b hx => arrived_modHel hx fun p => ?_)
    (arrived_modHel ⟨⟨s.hel, rfl⟩, rfl, rfl, rfl, rfl⟩ fun p => ⟨rfl, rfl, rfl, rfl⟩)
  refine ⟨?_, ?_, ?_, rfl⟩
  · simp only [Fin.getElem_fin, Vector.getElem_map]
  · simp only [Fin.getElem_fin, Vector.getElem_map]
  · simp only [Fin.getElem_fin, Vector.getElem_map]

theorem flushOut_none {c : Fin 4} {i : Fin 16} (h : s.hel[c].slots[i].due = none) : s.flushOut c i = s := by
  unfold flushOut
  rw [h]

/-- A trigger that gives a running slot with nothing due a sample (R213). -/
structure Triggered (s : State) (n : Nat) (c : Fin 4) (i : Fin 16) : Prop where
  runs : s.unitRun .slot (slotInst c i) = true
  loop : s.hel[c].slots[i].stopped = false
  trig : ((s.advance n).arriveStrobes c).slotTriggers c i = true
  due : s.hel[c].slots[i].due = none

theorem Triggered.cond {n : Nat} {c : Fin 4} {i : Fin 16} (h : Triggered s n c i) :
    ¬ (!((s.advance n).arriveStrobes c).unitRun .slot (slotInst c i) || ((s.advance n).arriveStrobes c).hel[c].slots[i].stopped
      || !((s.advance n).arriveStrobes c).slotTriggers c i) = true := by
  have ha := (s.advance n).arriveStrobes_arrived c i
  obtain ⟨v, hv⟩ := ha.rest
  have hr : ((s.advance n).arriveStrobes c).unitRun .slot (slotInst c i) = true := by
    rw [hv]
    exact h.runs
  have hl : ((s.advance n).arriveStrobes c).hel[c].slots[i].stopped = false := ha.stopped.trans h.loop
  rw [hr, hl, h.trig]
  decide

theorem tooSoon_arrived {n : Nat} {c : Fin 4} {i : Fin 16} : ((s.advance n).arriveStrobes c).tooSoon c i = (s.advance n).tooSoon c i := by
  have ha := (s.advance n).arriveStrobes_arrived c i
  obtain ⟨v, hv⟩ := ha.rest
  unfold tooSoon
  rw [ha.trig, hv]
  rfl

theorem slotMeas_arrived {n : Nat} {c : Fin 4} (i : Fin 16) (j : Nat) : ((s.advance n).arriveStrobes c).slotMeas c j 0 = s.slotMeas c j 0 := by
  have ha := (s.advance n).arriveStrobes_arrived c i
  obtain ⟨v, hv⟩ := ha.rest
  unfold slotMeas
  rw [ha.meas, hv]
  rfl

theorem heliostatSample_soon {n : Nat} {c : Fin 4} {i : Fin 16} {code : Option Nat} (h : Triggered s n c i)
    (ht : (s.advance n).tooSoon c i = true) :
    exec (.heliostatSample n c i code) s = .next (((s.advance n).arriveStrobes c).overrun c i) := by
  change execHeliostatSample n c i code s = _
  unfold execHeliostatSample
  refine (if_neg h.cond).trans ?_
  have hf := flushOut_none (((s.advance n).arriveStrobes_arrived c i).due.trans h.due)
  simp only [hf, tooSoon_arrived, ht, if_true]

theorem heliostatSample_accepted {n : Nat} {c : Fin 4} {i : Fin 16} {code : Option Nat} (h : Triggered s n c i)
    (ht : (s.advance n).tooSoon c i = false) (hm : (s.slotMeas c (slotInst c i) 0).isSome = true) :
    exec (.heliostatSample n c i code) s = .next (((s.advance n).arriveStrobes c).acceptSample c i code) := by
  change execHeliostatSample n c i code s = _
  unfold execHeliostatSample
  refine (if_neg h.cond).trans ?_
  have hf := flushOut_none (((s.advance n).arriveStrobes_arrived c i).due.trans h.due)
  have hi : ¬ (s.slotMeas c (slotInst c i) 0).isNone = true := by simpa [Option.isNone_iff_eq_none, Option.isSome_iff_ne_none] using hm
  simp only [hf, tooSoon_arrived, ht, slotMeas_arrived i, hi, Bool.false_eq_true, if_false]

/-! ### What a slot's output, overrun and cleared saturation write -/

theorem part_cases (f : Fld) : f.part = .status ∨ ∃ b, f.part = .reg b := by
  cases f
  case st => exact .inl rfl
  all_goals exact .inr ⟨_, rfl⟩

theorem deliver_rd (s : State) (c : Fin 4) (u : Int) (d : Nat × Nat) (f : Fld) (i : Nat) : (s.deliver c u d).rd f i = s.rd f i := by
  refine (Touches.deliver .refl : Touches Touches.Parts.deliver s _).rd f i ?_
  rcases part_cases f with h | ⟨b, h⟩
  · simp [h, Touches.Parts.deliver]
  · simp [h, Touches.Parts.deliver]

theorem writeOut_writes {P : Fld → Nat → Prop} (s : State) (c : Fin 4) (i : Fin 16) (u : Int) (ho : P (.hel .outU) (slotInst c i))
    (hw : ∀ k, P (.chr .heldWake) k) : WritesOnly P s (s.writeOut c i u) := by
  unfold writeOut
  extract_lets j was s1 s2 tol
  have hs2 : WritesOnly P s s2 := .foldl' (.same (.wrI .refl ho) fun _ _ => rfl) fun x a hx => hx.same (deliver_rd x c u a)
  exact .ite (.wakeHeld hs2 hw) hs2

theorem unsigned_lt (w : Nat) (x : Int) : unsigned w x < 2 ^ w := by
  have h : (0 : Int) < (2 ^ w : Nat) := by positivity
  have h1 := Int.emod_lt_of_pos x h
  have h2 := Int.emod_nonneg x h.ne'
  unfold unsigned
  omega

theorem writeOut_outU (s : State) (c : Fin 4) (i : Fin 16) (u : Int) :
    (s.writeOut c i u).rd (.hel .outU) (slotInst c i) = unsigned 32 (satI 32 u) := by
  unfold writeOut
  extract_lets j was s1 s2 tol
  have hs2 : ∀ k, s2.rd (.hel .outU) k = s1.rd (.hel .outU) k :=
    foldl_keeps (P := fun x : State => ∀ k, x.rd (.hel .outU) k = s1.rd (.hel .outU) k)
      (fun x a hx k => (deliver_rd x c u a _ k).trans (hx k)) fun _ => rfl
  have hv : s2.rd (.hel .outU) j = unsigned 32 (satI 32 u) := (hs2 j).trans ((rd_wr_same ..).trans (Nat.mod_eq_of_lt (unsigned_lt ..)))
  split
  · rw [rd_wakeHeld _ _ _ (by decide), hv]
  · exact hv

theorem hel_stopped_of_eq {t : State} {c : Fin 4} {i : Fin 16} (e : t.hel = s.hel) : t.hel[c].slots[i].stopped = s.hel[c].slots[i].stopped := by
  rw [e]

theorem dueNone_of_hel {t : State} {c : Fin 4} {i : Fin 16} (h : s.hel[c].slots[i].due = none) (e : t.hel = s.hel) :
    t.hel[c].slots[i].due = none := by
  rw [e]
  exact h

theorem writeOut_due (s : State) (c : Fin 4) (i : Fin 16) (u : Int) : (s.writeOut c i u).hel[c].slots[i].due = none := by
  unfold writeOut
  extract_lets j was s1 s2 tol
  have hs1 : s1.hel[c].slots[i].due = none := by simp only [s1, modSlot_slot]
  have hd : ∀ (x : State) (a : Nat × Nat), x.hel[c].slots[i].due = none → (x.deliver c u a).hel[c].slots[i].due = none := by
    intro x a hx
    unfold deliver
    split
    · split
      · exact dueNone_of_hel hx ((Touches.takeLref .refl : Touches Touches.Parts.takeLref x _) .hel (by decide))
      · exact hx
    · split
      · simp only [modHel, vector_get_set_self]
        exact hx
      · exact hx
    · exact hx
  have hs2 : s2.hel[c].slots[i].due = none := foldl_keeps (P := fun x : State => x.hel[c].slots[i].due = none) hd hs1
  split
  · exact dueNone_of_hel hs2 ((Touches.wakeHeld .refl : Touches Touches.Parts.wakeHeld s2 _) .hel (by decide))
  · exact hs2

theorem flushOut_due {c : Fin 4} {i : Fin 16} {a : Nat} {u : Int} (h : s.hel[c].slots[i].due = some (a, u)) (ha : a ≤ s.now) :
    s.flushOut c i = s.writeOut c i u := by
  unfold flushOut
  simp only [h]
  exact if_pos ha

theorem stopSlot_overruns (s : State) (c : Fin 4) (i : Fin 16) : Leaves (.hel .cntOverrunCnt) s (s.stopSlot c i) := by
  unfold stopSlot
  have hw : WritesOnly (fun f _ => f ≠ .hel .cntOverrunCnt) s (s.writeSafe c i) := writeOut_writes s c i _ (by decide) fun _ => by decide
  have hn : ∀ x : State, Leaves (.hel .cntOverrunCnt) x (x.noteTonly c) := fun x =>
    .touches .refl (.noteTonly .refl : Touches Touches.Parts.noteTonly x _)
  exact (Leaves.wrb ⟨fun k => hw _ k (fun h => h rfl)⟩).trans (hn _)

/-- A trigger that comes too soon is dropped and counted (R215). -/
theorem overrun_counted (s : State) (c : Fin 4) (i : Fin 16) : Bumped s (s.overrun c i) (.hel .cntOverrunCnt) (slotInst c i) := by
  unfold overrun
  extract_lets j first s1 s2 s3 n
  have h1 : s1.rd (.hel .cntOverrunCnt) j = satN (Fld.info (.hel .cntOverrunCnt)).width (s.rd (.hel .cntOverrunCnt) j + 1) :=
    (rd_bump_ne_fld _ (by decide)).trans (bump_rd_same ..)
  have h2 : Leaves (.hel .cntOverrunCnt) s1 s2 := ⟨fun _ => rfl⟩
  have h3 : Leaves (.hel .cntOverrunCnt) s1 s3 := .ite (h2.report) h2
  have hf : Leaves (.hel .cntOverrunCnt) s3 (s3.unitFault .slot j 0xFF 0x4404 [(4, n), (4, s3.lastFrame c)]) := by
    unfold unitFault
    exact .ite .refl ((Leaves.refl.report (s := s3)).trans (stopSlot_overruns ..))
  exact ((Leaves.ite h3 (h3.trans hf)).rd j).trans h1

theorem noteTonly_rd (s : State) (c : Fin 4) (f : Fld) (i : Nat) : (s.noteTonly c).rd f i = s.rd f i := by
  refine (Touches.noteTonly .refl : Touches Touches.Parts.noteTonly s _).rd f i ?_
  rcases part_cases f with h | ⟨b, h⟩
  · simp [h, Touches.Parts.noteTonly]
  · simp [h, Touches.Parts.noteTonly]

/-- A slot released from saturation, with I loaded anew, before its event (R228). -/
def satReleased (s : State) (c : Fin 4) (i : Fin 16) : State :=
  ((s.wr (.hel .slotStatSatfault) (slotInst c i) 0).modSlot c i fun x => { x with stopped := false, satCount := 0 }).loadInit c i

theorem satfaultClear_eq {n : Nat} {c : Fin 4} {i : Fin 16} (h : s.on (.hel .slotStatSatfault) (slotInst c i) = true) :
    ∃ items, exec (.satfaultClear n c i) s
      = .next ((((s.advance n).satReleased c i).report .slot (slotInst c i) 0x1402 items).showOpen c i) := by
  refine ⟨[(4, ((s.advance n).satReleased c i).lastFrame c)], ?_⟩
  change execSatfaultClear n c i s = _
  unfold execSatfaultClear
  exact congrArg _ (if_neg (by simp [show (s.advance n).on (.hel .slotStatSatfault) (slotInst c i) = true from h]))

theorem loadInit_writes (s : State) (c : Fin 4) (i : Fin 16) :
    WritesOnly (inList [(.hel .integI, slotInst c i)]) s (s.loadInit c i) :=
  .wrI (.same .refl (modSlot_rd s c i _)) (List.mem_singleton.2 rfl)

theorem satReleased_writes (s : State) (c : Fin 4) (i : Fin 16) :
    WritesOnly (inList [(.hel .slotStatSatfault, slotInst c i), (.hel .integI, slotInst c i)]) s (s.satReleased c i) := by
  have h1 : WritesOnly (inList [(.hel .slotStatSatfault, slotInst c i), (.hel .integI, slotInst c i)]) s
      (s.wr (.hel .slotStatSatfault) (slotInst c i) 0) := .wr .refl (by simp)
  exact (h1.same (modSlot_rd _ c i _)).trans ((loadInit_writes _ c i).mono fun f k h => List.mem_cons_of_mem _ h)

theorem satReleased_satfault (s : State) (c : Fin 4) (i : Fin 16) : (s.satReleased c i).rd (.hel .slotStatSatfault) (slotInst c i) = 0 :=
  ((loadInit_writes _ c i) _ _ (by simp)).trans ((modSlot_rd ..).trans (rd_wr_of_lt ..))

theorem satReleased_stopped (s : State) (c : Fin 4) (i : Fin 16) : (s.satReleased c i).hel[c].slots[i].stopped = false := by
  unfold satReleased loadInit
  simp only [wrI, wr_hel, modSlot_slot]

theorem showOpen_writes (s : State) (c : Fin 4) (i : Fin 16) :
    WritesOnly (inList [(.hel .slotStatOpenloop, slotInst c i)]) s (s.showOpen c i) :=
  .same (.wrb .refl (List.mem_singleton.2 rfl)) (noteTonly_rd _ c)

end State

/-- Settles O31: an accepted trigger is noted before the slot's law runs, and nothing of the law touches it; outputs and overruns write the
slot's own registers. -/
theorem heliostatSamples : Obligations.HeliostatSamples := by
  refine ⟨fun n c i code s hr hl ht hd hs hm => ?_, fun n c i code s hr hl ht hd hs => ?_, fun n a u c i s hd ha => ?_, fun n c i s hf => ?_⟩
  · have hnext := State.heliostatSample_accepted (code := code) ⟨hr, hl, ht, hd⟩ hs hm
    obtain ⟨v, hv⟩ := ((s.advance n).arriveStrobes_arrived c i).rest
    have hnow : ((s.advance n).arriveStrobes c).now = max s.now n := by rw [hv]; rfl
    obtain ⟨htrig, hsampled⟩ := ((s.advance n).arriveStrobes c).acceptSample_sampled c i code
    exact ⟨_, hnext, htrig.trans (congrArg some hnow), hsampled, KeepsNext.sameMemory (KeepsNext.execHeliostatSample .refl) hnext⟩
  · have hnext := State.heliostatSample_soon (code := code) ⟨hr, hl, ht, hd⟩ hs
    have ha := (s.advance n).arriveStrobes_arrived c i
    obtain ⟨v, hv⟩ := ha.rest
    refine ⟨_, hnext, ?_, ?_, KeepsNext.sameMemory (KeepsNext.execHeliostatSample .refl) hnext⟩
    · refine (State.overrun_counted ((s.advance n).arriveStrobes c) c i).trans ?_
      rw [hv]
      rfl
    · exact (TrigKept.overrun .refl).trig.trans ha.trig
  · have hnext : exec (.slotOutputWrite n c i) s = .next ((s.advance n).writeOut c i u) :=
      congrArg Host.Outcome.next (State.flushOut_due (s := s.advance n) hd ha)
    refine ⟨_, hnext, State.writeOut_outU .., State.writeOut_due .., ?_, KeepsNext.sameMemory (KeepsNext.execSlotOutputWrite .refl) hnext⟩
    exact (State.writeOut_writes (s.advance n) c i u (.inl (List.mem_singleton.2 rfl)) fun _ => .inr rfl).onlyRegsAndEvents
  · obtain ⟨items, hnext⟩ := State.satfaultClear_eq (n := n) hf
    have hx := (s.advance n).satReleased_writes c i
    generalize hr : (s.advance n).satReleased c i = x at hnext hx
    have ho := (x.report .slot (slotInst c i) 0x1402 items).showOpen_writes c i
    have hsat : x.rd (.hel .slotStatSatfault) (slotInst c i) = 0 := hr ▸ (s.advance n).satReleased_satfault c i
    have hstop : x.hel[c].slots[i].stopped = false := hr ▸ (s.advance n).satReleased_stopped c i
    refine ⟨_, hnext, ?_, ?_, ?_, ?_, KeepsNext.sameMemory (KeepsNext.execSatfaultClear .refl) hnext⟩
    · exact (ho _ _ (by simp)).trans (((Leaves.refl.report).rd _).trans hsat)
    · rw [State.hel_stopped_of_eq (s := x)]
      · exact hstop
      · exact ((Touches.showOpen .refl : Touches Touches.Parts.showOpen _ _) .hel (by decide)).trans (State.report_hel ..)
    · have hraised : Raised s (x.report .slot (slotInst c i) 0x1402 items) .slot (slotInst c i) 0x1402 :=
        State.report_raised_of (by rw [← hr]; rfl) (hx _ _ (by simp))
      intro hoff
      obtain ⟨hclass, hcount⟩ := hraised hoff
      exact ⟨(ho _ _ (by simp)).trans hclass, (ho _ _ (by simp)).trans hcount⟩
    · refine WritesOnly.onlyRegsAndEvents (.trans (.report (hx.mono fun f k h => .inl ?_) inListOrEvent_event) (ho.mono fun f k h => .inl ?_))
      · simp only [List.mem_cons, List.not_mem_nil, or_false] at h ⊢
        tauto
      · simp only [List.mem_cons, List.not_mem_nil, or_false] at h ⊢
        tauto

end Sys2Proof.Machine
end

section
/-! Presets, the end of the debug port and the full reload (R53, R61, R62). -/

namespace Sys2Proof.Machine

set_option Elab.async false

/-- A chronograph that neither runs nor holds a picture. -/
def AtRest (k : Chrono) : Prop := k.held = none ∧ k.running = false

/-- From s to t a cluster's chronograph at rest stays so. -/
structure StaysAtRest (q : Fin 4) (s t : State) : Prop where
  rest : AtRest s.chr[q] → AtRest t.chr[q]

namespace StaysAtRest

variable {q : Fin 4} {s t u : State}

theorem refl : StaysAtRest q s s := ⟨fun h => h⟩

theorem trans (h : StaysAtRest q s t) (k : StaysAtRest q t u) : StaysAtRest q s u := ⟨fun e => k.rest (h.rest e)⟩

theorem of_chr (h : StaysAtRest q s t) (e : u.chr = t.chr) : StaysAtRest q s u := h.trans ⟨fun k => by rw [e]; exact k⟩

theorem touches {ps : List Part} (h : StaysAtRest q s t) (k : Touches ps t u) (hp : Part.chr ∉ ps := by decide) : StaysAtRest q s u :=
  h.of_chr (k .chr hp)

theorem ite {p : Prop} [Decidable p] (h : StaysAtRest q s t) (k : StaysAtRest q s u) : StaysAtRest q s (if p then t else u) := by
  split
  · exact h
  · exact k

theorem foldl {α : Type} {g : State → α → State} {l : List α} (h : StaysAtRest q s t) (k : ∀ x a, StaysAtRest q s x → StaysAtRest q s (g x a)) :
    StaysAtRest q s (l.foldl g t) := foldl_keeps (P := StaysAtRest q s) k h

theorem wr {f : Fld} {i v : Nat} (h : StaysAtRest q s t) : StaysAtRest q s (t.wr f i v) := h.of_chr rfl

theorem wrb {f : Fld} {i : Nat} {b : Bool} (h : StaysAtRest q s t) : StaysAtRest q s (t.wrb f i b) := h.of_chr rfl

theorem wrI {f : Fld} {i : Nat} {v : Int} (h : StaysAtRest q s t) : StaysAtRest q s (t.wrI f i v) := h.of_chr rfl

theorem bump {f : Fld} {i : Nat} (h : StaysAtRest q s t) : StaysAtRest q s (t.bump f i) := h.of_chr rfl

theorem emit {o : Output} (h : StaysAtRest q s t) : StaysAtRest q s (t.emit o) := h.of_chr rfl

theorem modTri {c : Fin 4} {g : Trioc → Trioc} (h : StaysAtRest q s t) : StaysAtRest q s (t.modTri c g) := h.of_chr rfl

theorem modChr {c : Fin 4} {g : Chrono → Chrono} (h : StaysAtRest q s t) (hg : ∀ k, AtRest k → AtRest (g k)) : StaysAtRest q s (t.modChr c g) :=
  h.trans ⟨fun e => by
    rw [State.modChr_chr, vector_get_set]
    split
    next hc => rw [hc]; exact hg _ e
    next => exact e⟩

theorem wakeHeld {c : Fin 4} {n : Nat} (h : StaysAtRest q s t) : StaysAtRest q s (t.wakeHeld c n) := by
  unfold State.wakeHeld
  split
  next x hx =>
    refine .ite h (.wr (h.trans ⟨fun e => ?_⟩))
    rw [State.modChr_chr, vector_get_set]
    split
    next hc => exact absurd (hx.symm.trans (hc ▸ e.1)) (by simp)
    next => exact e
  next => exact h

theorem reportSub {v : UType} {i sub code : Nat} {items : List (Nat × Nat)} (h : StaysAtRest q s t) :
    StaysAtRest q s (t.reportSub v i sub code items) := h.trans (.ite .refl (by
  extract_lets cls r s1 s2 s3 s4 x s5 s6 s7 x1
  have hs3 : StaysAtRest q t s3 := .ite (.of_chr .refl rfl) (.of_chr .refl rfl)
  have hs5 : StaysAtRest q t s5 := .ite (hs3.of_chr rfl) (hs3.of_chr rfl)
  have hs6 : StaysAtRest q t s6 := hs5.of_chr (State.enqueue_chr ..)
  have hs7 : StaysAtRest q t s7 := .ite (.wakeHeld hs6) hs6
  exact .ite (hs7.of_chr (State.logTrigger_chr ..)) hs7))

theorem report {v : UType} {i code : Nat} {items : List (Nat × Nat)} (h : StaysAtRest q s t) : StaysAtRest q s (t.report v i code items) :=
  h.reportSub

theorem modPic {c f} (h : StaysAtRest q s t) : StaysAtRest q s (t.modPic c f) :=
  h.touches (Touches.modPic .refl : Touches Touches.Parts.modPic _ _)

theorem modOut {c f} (h : StaysAtRest q s t) : StaysAtRest q s (t.modOut c f) :=
  h.touches (Touches.modOut .refl : Touches Touches.Parts.modOut _ _)

theorem modArc {f} (h : StaysAtRest q s t) : StaysAtRest q s (t.modArc f) :=
  h.touches (Touches.modArc .refl : Touches Touches.Parts.modArc _ _)

theorem issueWrite (h : StaysAtRest q s t) : StaysAtRest q s t.issueWrite :=
  h.touches (Touches.issueWrite .refl : Touches Touches.Parts.issueWrite _ _)

theorem stageRec {rtype rflags time src body} (h : StaysAtRest q s t) : StaysAtRest q s (t.stageRec rtype rflags time src body) :=
  h.trans (.ite .refl (by
    extract_lets r used pad pads s1
    have hs1 : StaysAtRest q t s1 := .ite (.modArc .refl) (.modArc .refl)
    exact .ite (.report (.bump (.modArc .refl))) (.issueWrite hs1)))

theorem gatherDigests {c} (h : StaysAtRest q s t) : StaysAtRest q s (t.gatherDigests c) := by
  refine h.trans ?_
  unfold State.gatherDigests
  extract_lets o next
  split
  · exact .refl
  · extract_lets s1
    have hs1 : StaysAtRest q t s1 := .stageRec .refl
    exact .modOut hs1

theorem takeDigest {c bytes d frame mtime} (h : StaysAtRest q s t) : StaysAtRest q s (t.takeDigest c bytes d frame mtime) := by
  refine h.trans ?_
  unfold State.takeDigest
  extract_lets s1
  have hs1 : StaysAtRest q t s1 := .modOut .refl
  exact .ite (.gatherDigests hs1) hs1

theorem produceDigest {c frame mtime rec'} (h : StaysAtRest q s t) : StaysAtRest q s (t.produceDigest c frame mtime rec') := by
  refine h.trans ?_
  unfold State.produceDigest
  extract_lets d s1 s2
  have hs1 : StaysAtRest q t s1 := .modPic .refl
  have hs2 : StaysAtRest q t s2 := .foldl hs1 (fun _ _ hx => .wr hx)
  exact .takeDigest (.wr hs2)

theorem heldDigest {c h' w f} (h : StaysAtRest q s t) : StaysAtRest q s (t.heldDigest c h' w f) :=
  h.trans (.ite .refl (by
    extract_lets fl flags
    exact .produceDigest .refl))

theorem heldRecord {c upto} (h : StaysAtRest q s t) : StaysAtRest q s (t.heldRecord c upto) := by
  refine h.trans ?_
  unfold State.heldRecord
  split
  · exact .refl
  · exact .ite .refl (.heldDigest (.modPic .refl))

theorem closeDigest {c f fl} (h : StaysAtRest q s t) : StaysAtRest q s (t.closeDigest c f fl) :=
  h.trans (.ite .refl (by
    extract_lets n flags aux
    exact .produceDigest .refl))

theorem modPar {f} (h : StaysAtRest q s t) : StaysAtRest q s (t.modPar f) :=
  h.touches (Touches.modPar .refl : Touches Touches.Parts.modPar _ _)

theorem checkLockstep (h : StaysAtRest q s t) : StaysAtRest q s t.checkLockstep :=
  h.trans (.ite (.report (.modPar (.wr .refl))) .refl)

theorem pairFrame {c num} (h : StaysAtRest q s t) : StaysAtRest q s (t.pairFrame c num) :=
  h.trans (.ite .refl (.checkLockstep (.modPar .refl)))

theorem stageNote {kind data} (h : StaysAtRest q s t) : StaysAtRest q s (t.stageNote kind data) :=
  h.trans (.stageRec .refl)

theorem ringBlocked (h : StaysAtRest q s t) : StaysAtRest q s t.ringBlocked :=
  h.trans (.ite .refl (.stageNote (.report (.wr .refl))))

theorem showRing (h : StaysAtRest q s t) : StaysAtRest q s t.showRing :=
  h.touches (Touches.showRing .refl : Touches Touches.Parts.showRing _ _)

theorem ringWrite {c x r} (h : StaysAtRest q s t) : StaysAtRest q s (t.ringWrite c x r) := by
  refine h.trans ?_
  unfold State.ringWrite
  split
  · exact .ringBlocked .refl
  · extract_lets e
    exact .showRing (.wr (.modArc .refl))

theorem finishSample {c x flags tileSec} (h : StaysAtRest q s t) : StaysAtRest q s (t.finishSample c x flags tileSec) := by
  refine h.trans ?_
  unfold State.finishSample
  extract_lets src
  exact .foldl .refl (fun _ _ hx1 => .ite (.ringWrite hx1) (.stageRec hx1))

theorem finishSamples {c num flags tileSec} (h : StaysAtRest q s t) : StaysAtRest q s (t.finishSamples c num flags tileSec) := by
  refine h.trans ?_
  unfold State.finishSamples
  extract_lets mine s1
  have hs1 : StaysAtRest q t s1 := .modOut .refl
  exact .foldl hs1 (fun _ _ hx => .finishSample hx)

theorem dropFrames {c} (h : StaysAtRest q s t) : StaysAtRest q s (t.dropFrames c) :=
  h.touches (Touches.dropFrames .refl : Touches Touches.Parts.dropFrames _ _)

theorem sendDump {c} (h : StaysAtRest q s t) : StaysAtRest q s (t.sendDump c) :=
  h.touches (Touches.sendDump .refl : Touches Touches.Parts.sendDump _ _)

theorem lensLow {c} (h : StaysAtRest q s t) : StaysAtRest q s (t.lensLow c) :=
  h.touches (Touches.lensLow .refl : Touches Touches.Parts.lensLow _ _)

theorem stopCluster {c} (h : StaysAtRest q s t) : StaysAtRest q s (t.stopCluster c) := by
  refine h.trans ?_
  unfold State.stopCluster
  extract_lets s1 s2 s3 s4 s5
  have hs1 : StaysAtRest q t s1 := .dropFrames (.sendDump (.lensLow .refl))
  have hs2 : StaysAtRest q t s2 := .modChr hs1 fun _ _ => ⟨rfl, rfl⟩
  have hs3 : StaysAtRest q t s3 := .ite (.wr (.wr hs2)) hs2
  have hs4 : StaysAtRest q t s4 := .modPic hs3
  have hs5 : StaysAtRest q t s5 := .modTri hs4
  exact .wr (.wr hs5)

theorem abandonFade {c} (h : StaysAtRest q s t) : StaysAtRest q s (t.abandonFade c) :=
  h.touches (Touches.abandonFade .refl : Touches Touches.Parts.abandonFade _ _)

theorem modSlot {c i f} (h : StaysAtRest q s t) : StaysAtRest q s (t.modSlot c i f) :=
  h.touches (Touches.modSlot .refl : Touches Touches.Parts.modSlot _ _)

theorem deliver {c u d} (h : StaysAtRest q s t) : StaysAtRest q s (t.deliver c u d) :=
  h.touches (Touches.deliver .refl : Touches Touches.Parts.deliver _ _)

theorem writeOut {c i u} (h : StaysAtRest q s t) : StaysAtRest q s (t.writeOut c i u) := by
  refine h.trans ?_
  unfold State.writeOut
  extract_lets j was s1 s2 tol
  have hs1 : StaysAtRest q t s1 := .modSlot (.wrI .refl)
  have hs2 : StaysAtRest q t s2 := .foldl hs1 (fun _ _ hx => .deliver hx)
  exact .ite (.wakeHeld hs2) hs2

theorem writeSafe {c i} (h : StaysAtRest q s t) : StaysAtRest q s (t.writeSafe c i) :=
  h.trans (.writeOut .refl)

theorem freeBits {w} (h : StaysAtRest q s t) : StaysAtRest q s (t.freeBits w).2 := h.of_chr rfl

theorem endLockstep (h : StaysAtRest q s t) : StaysAtRest q s t.endLockstep :=
  h.trans (.ite .refl (by
    extract_lets f
    exact .report (.modPar (.freeBits (.wr .refl)))))

theorem modDp {i f} (h : StaysAtRest q s t) : StaysAtRest q s (t.modDp i f) :=
  h.touches (Touches.modDp .refl : Touches Touches.Parts.modDp _ _)

theorem inputsDown (h : StaysAtRest q s t) : StaysAtRest q s t.inputsDown :=
  h.trans (.foldl .refl (fun _ _ hx => by
    extract_lets s1 s2
    have hs1 : StaysAtRest q t s1 := .ite (.emit hx) hx
    have hs2 : StaysAtRest q t s2 := .ite hs1 (.report (.wr (.wr hs1)))
    exact .modDp (.wr (.wr hs2))))

theorem sendArm (h : StaysAtRest q s t) : StaysAtRest q s t.sendArm :=
  h.touches (Touches.sendArm .refl : Touches Touches.Parts.sendArm _ _)

end StaysAtRest

/-! ### A cluster that is stopped -/

/-- What the closing of a frame touches where no picture is held. -/
def closeParts : List Part := [.reg .log, .reg .arc, .reg .par, .reg .frs, .reg .chr, .reg .pln, .status, .pic, .chr, .log, .arc, .pwr, .par, .stopped]

/-- What the stop of a cluster's units touches: no memory, and no register of the loader or the power controller. -/
def stopParts : List Part := [.reg .log, .reg .arc, .reg .par, .reg .frs, .reg .chr, .reg .lsr, .reg .hel, .reg .pln, .reg .geo, .status, .pic, .chr,
  .tri, .light, .hel, .trn, .log, .arc, .pwr, .par, .stopped]

namespace State

variable {s : State}

/-- From s to t frames of a cluster at rest have closed. -/
structure Closed (c : Fin 4) (s t : State) : Prop where
  parts : Touches closeParts s t
  rest : AtRest t.chr[c]
  stays : ∀ q, StaysAtRest q s t

theorem Closed.trans {c : Fin 4} {t u : State} (h : Closed c s t) (k : Closed c t u) : Closed c s u :=
  ⟨h.parts.trans k.parts, k.rest, fun q => (h.stays q).trans (k.stays q)⟩

/-- The closing of a frame of a cluster at rest. -/
theorem closeFrame_closed {c : Fin 4} (f : FrameRec) (h : AtRest s.chr[c]) : Closed c s (s.closeFrame c f) := by
  unfold closeFrame
  extract_lets src fl s1 s2 s3 s4
  have t4 : Touches closeParts s s4 := .finishSamples (.pairFrame (.heldRecord (.closeDigest (.heldRecord (.wrb (.wr (.modPic .refl)))))))
  have r4 : ∀ q, StaysAtRest q s s4 := fun q =>
    .finishSamples (.pairFrame (.heldRecord (.closeDigest (.heldRecord (.wrb (.wr (.modPic .refl)))))))
  have h4 : AtRest s4.chr[c] := (r4 c).rest h
  split
  next x hx => exact absurd (hx.symm.trans h4.1) (by simp)
  next => exact ⟨t4, h4, r4⟩

theorem heldRecord_closed {c : Fin 4} (n : Nat) (h : AtRest s.chr[c]) : Closed c s (s.heldRecord c n) :=
  ⟨.heldRecord .refl, (StaysAtRest.heldRecord .refl : StaysAtRest c s _).rest h, fun _ => .heldRecord .refl⟩

theorem closeFrames_closed {c : Fin 4} (l : List FrameRec) (h : AtRest s.chr[c]) : Closed c s (l.foldl (fun s f => s.closeFrame c f) s) := by
  induction l generalizing s with
  | nil => exact ⟨.refl, h, fun _ => .refl⟩
  | cons f l ih => exact (closeFrame_closed f h).trans (ih (closeFrame_closed f h).rest)

theorem closeAll_closed {c : Fin 4} (h : AtRest s.chr[c]) : Closed c s (s.closeAll c) :=
  (closeFrames_closed _ h).trans (heldRecord_closed _ (closeFrames_closed _ h).rest)

theorem stopCluster_atRest (s : State) (c : Fin 4) : AtRest (s.stopCluster c).chr[c] := by
  unfold stopCluster
  extract_lets s1 s2 s3 s4 s5
  have h2 : AtRest s2.chr[c] := by
    simp only [s2, modChr_chr, vector_get_set_self]
    exact ⟨rfl, rfl⟩
  have hs3 : StaysAtRest c s2 s3 := .ite (.wr (.wr .refl)) .refl
  have hs4 : StaysAtRest c s2 s4 := .modPic hs3
  have hs5 : StaysAtRest c s2 s5 := .modTri hs4
  exact (StaysAtRest.wr (.wr hs5)).rest h2

theorem stopCluster_low (s : State) (c : Fin 4) : (s.stopCluster c).lensAllLow c := by
  refine lensAllLow_of_noRise (lensLow_low s c) ?_
  unfold stopCluster
  extract_lets s1 s2 s3 s4 s5
  have hs1 : NoRise (s.lensLow c) s1 := (NoRise.sendDump .refl).touches (.dropFrames .refl : Touches Touches.Parts.dropFrames _ _)
  have hs2 : NoRise (s.lensLow c) s2 := hs1.of_light (modChr_light ..)
  have hs3 : NoRise (s.lensLow c) s3 := .ite (.wr (.wr hs2)) hs2
  have hs4 : NoRise (s.lensLow c) s4 := hs3.of_light (modPic_light ..)
  have hs5 : NoRise (s.lensLow c) s5 := hs4.of_light (modTri_light ..)
  exact .wr (.wr hs5)

/-- A cluster's slots go to their safe outputs where they are enabled. -/
def safeSlots (s : State) (c : Fin 4) : State :=
  allSlots.foldl (fun s i => if s.on (.hel .slotCtrlEn) (slotInst c i) then s.writeSafe c i else s) s

/-- The light and the slots of a cluster with nothing on its way. -/
def idleUnits (s : State) (c : Fin 4) : State :=
  (s.modLight c fun l => { l with load := none, awin := false, hold := false, gated := true }).modHel c fun h =>
    { h with csBusy := [], slots := h.slots.map fun x => { x with due := none } }

theorem idleUnits_touches (s : State) (c : Fin 4) : Touches [.light, .hel] s (s.idleUnits c) := .modHel (.modLight .refl)

theorem idleUnits_noRise (s : State) (c : Fin 4) : NoRise s (s.idleUnits c) := by
  have h : NoRise s (s.modLight c fun l => { l with load := none, awin := false, hold := false, gated := true }) :=
    .modLight .refl fun _ => rfl
  exact h.of_light rfl

theorem stopUnits_eq (s : State) (c : Fin 4) :
    s.stopUnits c = ((((s.stopCluster c).closeAll c).abandonFade c).idleUnits c).safeSlots c := rfl

theorem safeSlots_touches (s : State) (c : Fin 4) : Touches Touches.Parts.writeSafe s (s.safeSlots c) :=
  .foldl .refl fun _ _ hx => .ite (.writeSafe hx) hx

theorem stopUnits_touches (s : State) (c : Fin 4) : Touches stopParts s (s.stopUnits c) := by
  rw [stopUnits_eq]
  have t1 : Touches stopParts s ((s.stopCluster c).closeAll c) :=
    (Touches.stopCluster .refl : Touches stopParts s _).after (closeAll_closed (stopCluster_atRest s c)).parts (by decide)
  have t2 : Touches stopParts s (((s.stopCluster c).closeAll c).abandonFade c) := .abandonFade t1
  exact (t2.after (idleUnits_touches _ c) (by decide)).after (safeSlots_touches _ c) (by decide)

theorem safeSlots_stays (s : State) (q c : Fin 4) : StaysAtRest q s (s.safeSlots c) :=
  .foldl .refl fun _ _ hx => .ite (.writeSafe hx) hx

end State

namespace NoRise

variable {s t : State}

theorem deliver {c : Fin 4} {u : Int} {d : Nat × Nat} (h : NoRise s t) : NoRise s (t.deliver c u d) := by
  have hrel : ∀ {x : State} {k : Fin 6}, NoRise s x → NoRise s (x.releaseLref c k) := by
    intro x k hx
    unfold State.releaseLref
    split
    · extract_lets s1
      have hs1 : NoRise s s1 := .modChan hx fun _ e => e
      exact .ite hx (.ite (hs1.of_light rfl) hs1)
    · exact hx
  have htake : ∀ {k : Fin 6} {code : Nat}, NoRise s (t.takeLref c k code) := by
    intro k code
    unfold State.takeLref
    extract_lets s1 x s2 holds
    have hs1 : NoRise s s1 := hrel h
    have hs2 : NoRise s s2 := .modChan hs1 fun _ e => e
    exact .ite (.modChan hs1 fun _ e => e) (.ite (hs2.of_light rfl) hs2)
  unfold State.deliver
  split
  · exact .ite htake h
  · exact .ite (h.of_light rfl) h
  · exact h

theorem writeSafe {c : Fin 4} {i : Fin 16} (h : NoRise s t) : NoRise s (t.writeSafe c i) := by
  unfold State.writeSafe State.writeOut
  extract_lets j was s1 s2 tol
  have hs1 : NoRise s s1 := h.of_light rfl
  have hs2 : NoRise s s2 := .foldl hs1 fun _ _ hx => .deliver hx
  exact .ite (hs2.touches (.wakeHeld .refl : Touches Touches.Parts.wakeHeld _ _)) hs2

end NoRise

namespace State

variable {s : State}

theorem safeSlots_noRise (s : State) (c : Fin 4) : NoRise s (s.safeSlots c) := .foldl .refl fun _ _ hx => .ite (.writeSafe hx) hx

theorem stopRest_noRise (s : State) (c : Fin 4) : NoRise (s.stopCluster c) (s.stopUnits c) := by
  rw [stopUnits_eq]
  have h1 : NoRise (s.stopCluster c) ((s.stopCluster c).closeAll c) := NoRise.refl.touches (closeAll_closed (stopCluster_atRest s c)).parts
  exact ((NoRise.abandonFade h1).trans (idleUnits_noRise _ c)).trans (safeSlots_noRise _ c)

theorem stopUnits_noRise (s : State) (c : Fin 4) : NoRise s (s.stopUnits c) := (NoRise.stopCluster .refl).trans (stopRest_noRise s c)

/-- The units of a cluster stop: whatever ran is at rest, and no LEN rises. -/
theorem stopUnits_stops (s : State) (c : Fin 4) : AtRest (s.stopUnits c).chr[c] ∧ (s.stopUnits c).lensAllLow c := by
  refine ⟨?_, lensAllLow_of_noRise (stopCluster_low s c) (stopRest_noRise s c)⟩
  rw [stopUnits_eq]
  have h1 : StaysAtRest c ((s.stopCluster c).closeAll c) (((s.stopCluster c).closeAll c).abandonFade c) := .abandonFade .refl
  exact ((h1.touches (idleUnits_touches _ c)).trans (safeSlots_stays _ c c)).rest (closeAll_closed (stopCluster_atRest s c)).rest

theorem stopUnits_stays (s : State) (q c : Fin 4) : StaysAtRest q s (s.stopUnits c) := by
  rw [stopUnits_eq]
  have h0 : StaysAtRest q s (s.stopCluster c) := .stopCluster .refl
  have h1 : StaysAtRest q s ((s.stopCluster c).closeAll c) := h0.trans ((closeAll_closed (stopCluster_atRest s c)).stays q)
  exact ((StaysAtRest.abandonFade h1).touches (idleUnits_touches _ c)).trans (safeSlots_stays _ q c)

/-- Every cluster's units have stopped. -/
def allStopped (s : State) : State := s.forClusters allClusters fun s c => s.stopUnits c

theorem allStopped_touches (s : State) : Touches stopParts s s.allStopped := .forClusters .refl fun x c hx => hx.trans (stopUnits_touches x c)

theorem allStopped_stops (s : State) (c : Fin 4) : AtRest s.allStopped.chr[c] ∧ s.allStopped.lensAllLow c :=
  foldl_of_mem (P := fun x : State => AtRest x.chr[c] ∧ x.lensAllLow c) (mem_allClusters c) (fun x => stopUnits_stops x c)
    (fun x d hx => ⟨(stopUnits_stays x c d).rest hx.1, lensAllLow_of_noRise hx.2 (stopUnits_noRise x d)⟩) s

/-! ### The reload begins -/

/-- The rest of the reload's beginning: the inputs go down, the swap is over, lockstep ends, and the chain hears of it. -/
def reloadRest (s : State) : State :=
  let s := (s.inputsDown.modEph fun l => { l with swap := none, staged := none, stagedAt := [] }).endLockstep
  if s.chnAddr == 0 then s else s.sendArm

theorem beginReload_eq (s : State) : s.beginReload = ((s.wr (.eph .statusState) 0 3).wr (.pwr .stateStep) 0 3).allStopped.reloadRest := rfl

/-- What the rest of the reload's beginning touches. -/
def restParts : List Part := [.reg .log, .reg .dpr, .reg .chn, .reg .par, .reg .chr, .status, .chr, .dp, .eph, .log, .pwr, .chn, .par, .stopped]

theorem reloadRest_touches (s : State) : Touches restParts s s.reloadRest := by
  unfold reloadRest
  extract_lets s1
  have h1 : Touches restParts s s1 := .endLockstep (.modEph (.inputsDown .refl))
  exact .ite h1 (.sendArm h1)

theorem reloadRest_stays (s : State) (q : Fin 4) : StaysAtRest q s s.reloadRest := by
  unfold reloadRest
  extract_lets s1
  have h0 : StaysAtRest q s s.inputsDown := .inputsDown .refl
  have h1 : StaysAtRest q s s1 := .endLockstep (h0.touches (.modEph .refl : Touches Touches.Parts.modEph _ _))
  exact .ite h1 (.sendArm h1)

theorem reloadRest_swap (s : State) : s.reloadRest.eph.swap = none := by
  unfold reloadRest
  extract_lets s1
  have h1 : s1.eph.swap = none := by
    rw [(Touches.endLockstep .refl : Touches Touches.Parts.endLockstep _ s1) .eph (by decide)]
    rfl
  split
  · exact h1
  · rw [(Touches.sendArm .refl : Touches Touches.Parts.sendArm s1 _) .eph (by decide)]
    exact h1

/-- A full reload that begins: no image is named yet. -/
theorem fullReload_begins {n : Nat} (ha : s.eph.reload.isSome = true) (ho : s.obsOnline = true) (hr : s.running = true)
    (hs : s.rd (.eph .statusState) 0 ≠ 3) (he : s.stopsEnded = true) : exec (.fullReload n none) s = .next (s.advance n).beginReload := by
  change execFullReload n none s = _
  unfold execFullReload
  have hu : ((s.advance n).rd (.eph .statusState) 0 == 3) = false := beq_false_of_ne hs
  refine (if_neg ?_).trans ((if_neg ?_).trans ?_)
  · change ¬ (s.eph.reload.isNone || !s.obsOnline || !s.running) = true
    simp only [ho, hr, Bool.not_true, Bool.or_false, Option.isNone_iff_eq_none]
    rintro h
    simp [h] at ha
  · change ¬ (!((s.advance n).rd (.eph .statusState) 0 == 3) && !s.stopsEnded) = true
    simp [he]
  · simp only [hu, Bool.false_eq_true, if_false]

theorem presetGo_eq (s : State) (n : Nat) : exec (.presetGo n) s = .next (s.advance n).presetGo := rfl

theorem presetGo_applied {p : State} (h : (s.eph.inForce.bind fun im => s.applyPreset im.plan (s.rd (.eph .presetNum) 0)) = some p) :
    s.presetGo = (p.wr (.eph .presetBad) 0 0).modEph fun l => { l with preset := s.rd (.eph .presetNum) 0 } := by
  unfold presetGo
  simp only [h]

theorem presetGo_bad (h : s.eph.inForce = none) : s.presetGo = (s.wr (.eph .presetBad) 0 1).wr (.eph .presetNum) 0 s.eph.preset := by
  unfold presetGo
  simp only [h, Option.bind_none]

theorem debugUnlockExpiry_due {n u : Nat} (h : s.eph.dbgUntil = some u) (hu : u ≤ max s.now n) :
    exec (.debugUnlockExpiry n) s = .next (s.advance n).lockDebug := by
  change execDebugUnlockExpiry n s = _
  unfold execDebugUnlockExpiry
  have h' : (s.advance n).eph.dbgUntil = some u := h
  simp only [h']
  exact congrArg _ (if_pos hu)

end State

/-- Settles O40: a preset's writes end before BAD and the number are noted; a reload stops every cluster, at rest and dark, before anything
else, and what follows leaves that. -/
theorem presetsAndReload : Obligations.PresetsAndReload := by
  have go : ∀ (n : Nat) (p : State) (s : State), ((s.advance n).eph.inForce.bind fun im => (s.advance n).applyPreset im.plan
      ((s.advance n).rd (.eph .presetNum) 0)) = some p → ∃ r, exec (.presetGo n) s = .next r ∧ r.rd (.eph .presetBad) 0 = 0
      ∧ r.eph.preset = s.rd (.eph .presetNum) 0 := fun n p s h =>
    ⟨_, congrArg Host.Outcome.next (State.presetGo_applied h), (State.modEph_rd ..).trans (State.rd_wr_of_lt ..), rfl⟩
  refine ⟨fun n im s hi h0 => ?_, fun n s hi => ?_, fun n u s hu hle => ?_, fun n s ha ho hr hs he => ?_, fun n p im s hi h0 hp => ?_⟩
  · obtain ⟨p, hp⟩ : ∃ p, ((s.advance n).eph.inForce.bind fun im => (s.advance n).applyPreset im.plan ((s.advance n).rd (.eph .presetNum) 0))
        = some p := by
      have hi' : (s.advance n).eph.inForce = some im := hi
      have h0' : (s.advance n).rd (.eph .presetNum) 0 = 0 := h0
      rw [hi', h0']
      exact ⟨_, rfl⟩
    obtain ⟨r, hnext, hbad, hpre⟩ := go n p s hp
    exact ⟨r, hnext, hbad, hpre.trans h0⟩
  · refine ⟨_, congrArg Host.Outcome.next (State.presetGo_bad (s := s.advance n) hi), ?_, State.rd_wr_same .., ?_, rfl, rfl, rfl⟩
    · rw [State.rd_wr_ne_fld _ (by decide)]
      exact State.rd_wr_of_lt ..
    · exact (WritesOnly.wr (.wr (.advance .refl) (by simp)) (by simp)).onlyRegs
  · refine ⟨_, State.debugUnlockExpiry_due hu hle, ?_, ?_, rfl, ?_, rfl, rfl, rfl⟩
    · exact (State.modEph_rd ..).trans ((State.rd_wr_ne_fld _ (by decide)).trans (State.rd_wr_of_lt ..))
    · exact (State.modEph_rd ..).trans (State.rd_wr_of_lt ..)
    · exact (WritesOnly.same (.wr (.wr (.advance .refl) (by simp)) (by simp)) (State.modEph_rd _ _)).onlyRegs
  · have hnext := State.fullReload_begins (n := n) ha ho hr hs he
    rw [State.beginReload_eq] at hnext
    generalize hx : ((s.advance n).wr (.eph .statusState) 0 3).wr (.pwr .stateStep) 0 3 = x at hnext
    have t1 := x.allStopped_touches
    have t2 := x.allStopped.reloadRest_touches
    have hm : ∀ y : State, y.hbm = s.hbm ∧ y.plate = s.plate ∧ y.raw = s.raw → SameMemory s y := fun _ h => h
    refine ⟨_, hnext, ?_, ?_, fun c => ⟨?_, ?_⟩, State.reloadRest_swap _, hm _ ⟨?_, ?_, ?_⟩⟩
    · rw [t2.rd _ _ (by decide), t1.rd _ _ (by decide), ← hx, State.rd_wr_ne_fld _ (by decide)]
      exact State.rd_wr_of_lt ..
    · rw [t2.rd _ _ (by decide), t1.rd _ _ (by decide), ← hx]
      exact State.rd_wr_of_lt ..
    · exact ((State.reloadRest_stays _ c).rest (x.allStopped_stops c).1).2
    · exact State.lensAllLow_of_noRise (x.allStopped_stops c).2 (NoRise.refl.touches t2)
    · exact (t2 .hbm (by decide)).trans ((t1 .hbm (by decide)).trans (hx ▸ rfl))
    · exact (t2 .plate (by decide)).trans ((t1 .plate (by decide)).trans (hx ▸ rfl))
    · exact (t2 .raw (by decide)).trans ((t1 .raw (by decide)).trans (hx ▸ rfl))
  · have hap : ∃ q, ((s.advance n).eph.inForce.bind fun im => (s.advance n).applyPreset im.plan ((s.advance n).rd (.eph .presetNum) 0))
        = some q := by
      have hi' : (s.advance n).eph.inForce = some im := hi
      rw [hi', Option.bind_some]
      unfold State.applyPreset
      have hn : ¬ ((s.advance n).rd (.eph .presetNum) 0 == 0) = true := by simpa using h0
      rw [if_neg hn]
      have hp' : im.plan.presets.find? (fun x => x.num == (s.advance n).rd (.eph .presetNum) 0) = some p := hp
      simp only [hp']
      exact ⟨_, rfl⟩
    obtain ⟨q, hq⟩ := hap
    exact go n q s hq

end Sys2Proof.Machine
end

section
/-! The messages of the return lane (R167, R168, R173, R176). -/

namespace Sys2Proof.Machine

set_option Elab.async false

/-- From s to t the return lane's last STATUS is the same. -/
structure StatusKept (q : Fin 4) (s t : State) : Prop where
  status : t.tri[q].statusAt = s.tri[q].statusAt

namespace StatusKept

variable {q : Fin 4} {s t u : State}

theorem refl : StatusKept q s s := ⟨rfl⟩

theorem trans (h : StatusKept q s t) (k : StatusKept q t u) : StatusKept q s u := ⟨k.status.trans h.status⟩

theorem of_tri (h : StatusKept q s t) (e : u.tri = t.tri) : StatusKept q s u := h.trans ⟨by rw [e]⟩

theorem touches {ps : List Part} (h : StatusKept q s t) (k : Touches ps t u) (hp : Part.tri ∉ ps := by decide) : StatusKept q s u :=
  h.of_tri (k .tri hp)

theorem ite {p : Prop} [Decidable p] (h : StatusKept q s t) (k : StatusKept q s u) : StatusKept q s (if p then t else u) := by
  split
  · exact h
  · exact k

theorem foldl {α : Type} {g : State → α → State} {l : List α} (h : StatusKept q s t) (k : ∀ x a, StatusKept q s x → StatusKept q s (g x a)) :
    StatusKept q s (l.foldl g t) := foldl_keeps (P := StatusKept q s) k h

theorem forClusters {l : List (Fin 4)} {g : State → Fin 4 → State} (h : StatusKept q s t)
    (k : ∀ x c, StatusKept q s x → StatusKept q s (g x c)) : StatusKept q s (t.forClusters l g) := h.foldl k

theorem mkSnd {α : Type} {a : α} (h : StatusKept q s t) : StatusKept q s (a, t).2 := h

theorem wr {f : Fld} {i v : Nat} (h : StatusKept q s t) : StatusKept q s (t.wr f i v) := h.of_tri rfl

theorem wrb {f : Fld} {i : Nat} {b : Bool} (h : StatusKept q s t) : StatusKept q s (t.wrb f i b) := h.of_tri rfl

theorem bump {f : Fld} {i : Nat} (h : StatusKept q s t) : StatusKept q s (t.bump f i) := h.of_tri rfl

theorem emit {o : Output} (h : StatusKept q s t) : StatusKept q s (t.emit o) := h.of_tri rfl

theorem modLight {c : Fin 4} {g : Light → Light} (h : StatusKept q s t) : StatusKept q s (t.modLight c g) := h.of_tri rfl

theorem modTri {c : Fin 4} {g : Trioc → Trioc} (h : StatusKept q s t) (hg : ∀ k, (g k).statusAt = k.statusAt := by intro _; rfl) :
    StatusKept q s (t.modTri c g) :=
  h.trans ⟨by
    rw [State.modTri_tri, vector_get_set]
    split
    next e => rw [hg, e]
    next => rfl⟩

theorem reportSub {v : UType} {i sub code : Nat} {items : List (Nat × Nat)} (h : StatusKept q s t) :
    StatusKept q s (t.reportSub v i sub code items) := h.touches (Touches.reportSub .refl : Touches Touches.Parts.reportSub _ _)

theorem report {v : UType} {i code : Nat} {items : List (Nat × Nat)} (h : StatusKept q s t) : StatusKept q s (t.report v i code items) :=
  h.reportSub

theorem setWorking {c l} (h : StatusKept q s t) : StatusKept q s (t.setWorking c l) :=
  h.touches (Touches.setWorking .refl : Touches Touches.Parts.setWorking _ _)

theorem violate {code hit} (h : StatusKept q s t) : StatusKept q s (t.violate code hit) :=
  h.touches (Touches.violate .refl : Touches Touches.Parts.violate _ _)

theorem setActive {c l} (h : StatusKept q s t) : StatusKept q s (t.setActive c l) := by
  refine h.trans ?_
  unfold State.setActive
  extract_lets s1
  have hs1 : StatusKept q t s1 := .violate .refl
  exact .wrb (.modTri hs1)

theorem setStopped {x} (h : StatusKept q s t) : StatusKept q s { t with stopped := x } := h.of_tri rfl

theorem markAllTiles {c} (h : StatusKept q s t) : StatusKept q s (t.markAllTiles c) :=
  h.touches (Touches.markAllTiles .refl : Touches Touches.Parts.markAllTiles _ _)

theorem sendCommand {c op first last place hold replay pid at'} (h : StatusKept q s t) : StatusKept q s
    (t.sendCommand c op first last place hold replay pid at') := by
  refine h.trans ?_
  unfold State.sendCommand
  extract_lets run lanes cmd s1
  have hs1 : StatusKept q t s1 := .modTri .refl
  exact .ite (.emit hs1) hs1

theorem dumpNow {c} (h : StatusKept q s t) : StatusKept q s (t.dumpNow c) :=
  h.trans (.sendCommand .refl)

theorem sendDump {c} (h : StatusKept q s t) : StatusKept q s (t.sendDump c) :=
  h.trans (.ite .refl (.dumpNow .refl))

theorem lensLow {c} (h : StatusKept q s t) : StatusKept q s (t.lensLow c) :=
  h.touches (Touches.lensLow .refl : Touches Touches.Parts.lensLow _ _)

theorem abandonFade {c} (h : StatusKept q s t) : StatusKept q s (t.abandonFade c) :=
  h.touches (Touches.abandonFade .refl : Touches Touches.Parts.abandonFade _ _)

theorem endLeases {c ls new} (h : StatusKept q s t) : StatusKept q s (t.endLeases c ls new) :=
  h.touches (Touches.endLeases .refl : Touches Touches.Parts.endLeases _ _)

theorem darken {c fault u i code} (h : StatusKept q s t) : StatusKept q s (t.darken c fault u i code) :=
  h.trans (.ite .refl (by
    extract_lets s1 s2 s3
    have hs1 : StatusKept q t s1 := .wr (.markAllTiles (.sendDump (.lensLow .refl)))
    have hs2 : StatusKept q t s2 := .abandonFade (.modLight hs1)
    have hs3 : StatusKept q t s3 := .endLeases (.modTri hs2)
    exact .ite (.report hs3) (.report hs3)))

theorem retireOutcome {c lane} (h : StatusKept q s t) : StatusKept q s (t.retireOutcome c lane) := by
  refine h.trans ?_
  unfold State.retireOutcome
  extract_lets l n s1 s2 s3 gone s4 s5
  have hs1 : StatusKept q t s1 := .setActive .refl
  have hs2 : StatusKept q t s2 := .ite (.wr hs1) hs1
  have hs3 : StatusKept q t s3 := .report hs2
  have hs4 : StatusKept q t s4 := .foldl hs3 (fun _ _ hx => .wr hx)
  have hs5 : StatusKept q t s5 := .setStopped hs4
  exact .ite (.ite .refl (by
      split
      · exact .wr (.setActive .refl)
      · exact .setActive .refl)) (.ite (.report (.wr hs1)) (.darken hs5))

theorem occupyLane {c lane start hd payload} (h : StatusKept q s t) : StatusKept q s (t.occupyLane c lane start hd payload) := by
  refine h.trans ?_
  unfold State.occupyLane
  extract_lets n r s1
  have hs1 : StatusKept q t s1 := .modTri .refl
  exact .ite (.emit hs1) hs1

theorem resend {c b} (h : StatusKept q s t) : StatusKept q s (t.resend c b).2 := by
  refine h.trans ?_
  unfold State.resend
  split
  · exact .refl
  · extract_lets ends x1 h1 s1
    have hs1 : StatusKept q t s1 := .bump (.occupyLane .refl)
    split
    · exact .refl
    · exact .mkSnd (.modTri hs1)

theorem retireLane {c lane cause} (h : StatusKept q s t) : StatusKept q s (t.retireLane c lane cause) := by
  refine h.trans ?_
  unfold State.retireLane
  extract_lets l s1 s2 s3
  have hs1 : StatusKept q t s1 := .setWorking .refl
  have hs2 : StatusKept q t s2 := .report hs1
  have hs3 : StatusKept q t s3 := .retireOutcome hs2
  exact .ite .refl (.foldl hs3 (fun _ _ hx => .resend hx))

theorem haltChronograph {c} (h : StatusKept q s t) : StatusKept q s (t.haltChronograph c) :=
  h.touches (Touches.haltChronograph .refl : Touches Touches.Parts.haltChronograph _ _)

theorem cutDiag {c k} (h : StatusKept q s t) : StatusKept q s (t.cutDiag c k) :=
  h.touches (Touches.cutDiag .refl : Touches Touches.Parts.cutDiag _ _)

theorem setLen {c k v} (h : StatusKept q s t) : StatusKept q s (t.setLen c k v) :=
  h.touches (Touches.setLen .refl : Touches Touches.Parts.setLen _ _)

theorem stopSlot {c i} (h : StatusKept q s t) : StatusKept q s (t.stopSlot c i) :=
  h.touches (Touches.stopSlot .refl : Touches Touches.Parts.stopSlot _ _)

theorem modPic {c f} (h : StatusKept q s t) : StatusKept q s (t.modPic c f) :=
  h.touches (Touches.modPic .refl : Touches Touches.Parts.modPic _ _)

theorem unitFault {u i sub code items} (h : StatusKept q s t) : StatusKept q s (t.unitFault u i sub code items) :=
  h.trans (.ite .refl (by
    extract_lets s1 c
    have hs1 : StatusKept q t s1 := .reportSub .refl
    split
    · exact .darken hs1
    · exact .darken hs1
    · exact .darken hs1
    · exact .darken hs1
    · exact .haltChronograph (.darken hs1)
    · exact .ite (.darken hs1) hs1
    · exact .cutDiag (.setLen hs1)
    · exact .stopSlot hs1
    · exact .lensLow hs1
    · exact .forClusters hs1 (fun _ _ hx => .modPic hx)
    · exact hs1))

theorem returnLaneFault {c code items} (h : StatusKept q s t) : StatusKept q s (t.returnLaneFault c code items) := by
  refine h.trans ?_
  unfold State.returnLaneFault
  extract_lets s1
  have hs1 : StatusKept q t s1 := .violate .refl
  exact .unitFault (.wr hs1)

end StatusKept

/-- Registers of the link that the retirement's outcome and resends leave alone: the lanes that work, and the return lane's lock. -/
def lanesKept : List Fld := [.tri .stateWorking, .tri .stateRetlock]

namespace Spares

variable {s t : State}

theorem violate_lanes {code hit} (h : Spares lanesKept s t) : Spares lanesKept s (t.violate code hit) :=
  h.touches (Touches.violate .refl : Touches Touches.Parts.violate _ _)

theorem setActive {c l} (h : Spares lanesKept s t) : Spares lanesKept s (t.setActive c l) := by
  refine h.trans ?_
  unfold State.setActive
  extract_lets s1
  have hs1 : Spares lanesKept t s1 := .violate_lanes .refl
  exact .wrb (.modTri hs1)

theorem setStopped {x} (h : Spares lanesKept s t) : Spares lanesKept s { t with stopped := x } := h.same fun _ _ => rfl

theorem darken {c fault u i code} (h : Spares lanesKept s t) : Spares lanesKept s (t.darken c fault u i code) :=
  h.touches (Touches.darken .refl : Touches Touches.Parts.darken _ _)

theorem retireOutcome {c lane} (h : Spares lanesKept s t) : Spares lanesKept s (t.retireOutcome c lane) := by
  refine h.trans ?_
  unfold State.retireOutcome
  extract_lets l n s1 s2 s3 gone s4 s5
  have hs1 : Spares lanesKept t s1 := .setActive .refl
  have hs2 : Spares lanesKept t s2 := .ite (.wr hs1) hs1
  have hs3 : Spares lanesKept t s3 := .report hs2
  have hs4 : Spares lanesKept t s4 := .foldl hs3 (fun _ _ hx => .wr hx)
  have hs5 : Spares lanesKept t s5 := .setStopped hs4
  exact .ite (.ite .refl (by
      split
      · exact .wr (.setActive .refl)
      · exact .setActive .refl)) (.ite (.report (.wr hs1)) (.darken hs5))

theorem occupyLane {c lane start hd payload} (h : Spares lanesKept s t) : Spares lanesKept s (t.occupyLane c lane start hd payload) := by
  refine h.trans ?_
  unfold State.occupyLane
  extract_lets n r s1
  have hs1 : Spares lanesKept t s1 := .modTri .refl
  exact .ite (.emit hs1) hs1

theorem resend {c b} (h : Spares lanesKept s t) : Spares lanesKept s (t.resend c b).2 := by
  refine h.trans ?_
  unfold State.resend
  split
  · exact .refl
  · extract_lets ends x1 h1 s1
    have hs1 : Spares lanesKept t s1 := .bump (.occupyLane .refl)
    split
    · exact .refl
    · exact .mkSnd (.modTri hs1)

end Spares

namespace State

variable {s : State}

/-- A message that is for its command is taken. -/
theorem returnMsg_taken {c : Fin 4} {type : Nat} {m : List Byte} (h : ReturnMsg s c type m) (n : Nat) (f : State → State) :
    (s.advance n).returnMsg c type (m.map BitVec.toNat) f = f (s.advance n) := by
  obtain ⟨hd, hok, htype⟩ := h
  unfold returnMsg
  rw [if_neg (show ¬ (!(s.advance n).domOn (42 + c.val)) = true by simp [show (s.advance n).domOn (42 + c.val) = true from hd]), if_neg (by simp [hok]), if_neg (by simp [htype])]

/-- A reset without success: its wait is over, and the event tells (R173). -/
theorem resetFailed_shows (s : State) (c : Fin 4) (a : PendingAck) (rstat : Nat) :
    (s.resetFailed c a rstat).tri[c].acks = s.tri[c].acks.filter (fun x => x.cseq != a.cseq)
    ∧ Raised s (s.resetFailed c a rstat) .lane (laneInst c 17) 0x2387 := by
  unfold resetFailed
  extract_lets s1 s2
  have hfail : Touches [.pic] s1 (s1.failBands c a.frame a.first a.last) := .failBands .refl
  have htri : s2.tri = s1.tri := by
    simp only [s2]
    split
    · rfl
    · exact hfail .tri (by decide)
  have hdev : s2.dev = s.dev := by
    simp only [s2]
    split
    · rfl
    · exact (Keeps.failBands (m := false) .refl : Keeps false s1 _).dev
  have hcount : Leaves (.st .lane .errcnt) s1 s2 := .ite .refl (.bump (.touches .refl hfail))
  refine ⟨?_, report_raised_of hdev (hcount.rd _)⟩
  have hacks : s1.tri[c].acks = s.tri[c].acks.filter (fun x => x.cseq != a.cseq) := by
    simp only [s1, modTri_tri, vector_get_set_self]
  rw [← hacks, ← htri]
  exact congrArg (fun v : Vector Trioc 4 => v[c].acks) (report_tri ..)

/-- A fault of the return lane makes the link fatal (R176). -/
theorem returnLaneFault_link (s : State) (c : Fin 4) (code : Nat) (items : List (Nat × Nat)) :
    (s.returnLaneFault c code items).rd (.tri .stateLink) c = 4 := by
  have hf : ∀ x : State, Leaves (.tri .stateLink) x (x.unitFault .lane (laneInst c 17) 0xFF code items) := fun x =>
    .touches .refl (.unitFault .refl : Touches Touches.Parts.unitFault x _)
  exact ((hf _).rd c).trans (rd_wr_of_lt ..)

theorem returnLaneFault_leaves (s : State) (c : Fin 4) (code : Nat) (items : List (Nat × Nat)) {f : Fld} (h : f.part = .reg .tri)
    (hf : f ≠ .tri .stateLink) : Leaves f s (s.returnLaneFault c code items) := by
  unfold returnLaneFault
  refine .touches (.wr (.touches .refl (.violate .refl : Touches Touches.Parts.violate s _) ?_) hf)
    (.unitFault .refl : Touches Touches.Parts.unitFault _ _) ?_
  · simp [h, Touches.Parts.violate]
  · simp [h, Touches.Parts.unitFault]

theorem retireLane_retlock (s : State) (c : Fin 4) (lane cause : Nat) : Leaves (.tri .stateRetlock) s (s.retireLane c lane cause) := by
  unfold retireLane
  extract_lets l s1 s2 s3
  have hs2 : Leaves (.tri .stateRetlock) s s2 := .report (.wr (.wr .refl))
  have hs3 : Leaves (.tri .stateRetlock) s s3 := hs2.trans (Spares.retireOutcome .refl).leaves
  exact .ite .refl (hs3.foldl fun x b hx => hx.trans (Spares.resend .refl).leaves)

/-- STATUS shows the lock and restarts the timeout, whatever else it tells (R176). -/
theorem takeStatus_shows (s : State) (c : Fin 4) (m : List Nat) :
    (s.takeStatus c m).tri[c].statusAt = s.now ∧ (s.takeStatus c m).rd (.tri .stateRetlock) c = 1 := by
  unfold takeStatus
  extract_lets st locks s1 watched bad again s2 s3 s4
  have h1 : s1.tri[c].statusAt = s.now := by simp only [s1, wr_tri, modTri_tri, vector_get_set_self]
  have k4 : StatusKept c s1 s4 := .foldl (.violate (.modTri .refl)) fun x i hx => .retireLane hx
  have l4 : Leaves (.tri .stateRetlock) s1 s4 := by
    have h3 : Leaves (.tri .stateRetlock) s1 s3 := .touches (s := s1) (t := s2) ⟨fun _ => modTri_rd ..⟩ (.violate .refl : Touches Touches.Parts.violate s2 _)
    exact h3.foldl fun x i hx => hx.trans (retireLane_retlock x c i 2)
  exact ⟨((StatusKept.ite (.returnLaneFault k4) k4).status).trans h1,
    ((Leaves.ite (l4.trans (returnLaneFault_leaves _ _ _ _ rfl (by decide))) l4).rd c).trans (rd_wr_of_lt ..)⟩

/-- The array's parameters as shown, before the module judges them (R168). -/
def identShown (s : State) (c : Fin 4) (m : List Nat) : State :=
  let s := ((s.wr (.tri .arrayGeomW) c (msgField m 1 1 * 128)).wr (.tri .arrayGeomH) c (msgField m 2 2)).wr (.tri .arrayCfgBands) c (msgField m 4 1)
  (s.wr (.tri .arrayCfgP) c (msgField m 5 1)).wr (.tri .arrayCfgSettle) c (msgField m 6 2)

theorem takeIdent0_ok {c : Fin 4} {m : List Nat} (h : s.identFault c (msgField m 1 1 * 128) (msgField m 2 2) (msgField m 4 1) (msgField m 5 1)
    (msgField m 6 2) (msgField m 8 1) = none) : s.takeIdent0 c m = s.identShown c m := by
  have h' : (s.identShown c m).identFault c (msgField m 1 1 * 128) (msgField m 2 2) (msgField m 4 1) (msgField m 5 1)
    (msgField m 6 2) (msgField m 8 1) = none := h
  unfold takeIdent0
  simp only [identShown] at h'
  simp only [h', identShown]

theorem takeIdent0_fault {c : Fin 4} {m : List Nat} {x : Nat} (h : s.identFault c (msgField m 1 1 * 128) (msgField m 2 2) (msgField m 4 1)
    (msgField m 5 1) (msgField m 6 2) (msgField m 8 1) = some x) : s.takeIdent0 c m =
    (((s.identShown c m).dumpNow c).wr (.tri .stateLink) c 4).unitFault .lane (laneInst c 17) 0xFF 0x4389 [(1, x)] := by
  have h' : (s.identShown c m).identFault c (msgField m 1 1 * 128) (msgField m 2 2) (msgField m 4 1) (msgField m 5 1)
    (msgField m 6 2) (msgField m 8 1) = some x := h
  unfold takeIdent0
  simp only [identShown] at h'
  simp only [h', identShown]

theorem identShown_writes (s : State) (c : Fin 4) (m : List Nat) : WritesOnly (inList [(.tri .arrayGeomW, c.val), (.tri .arrayGeomH, c),
    (.tri .arrayCfgBands, c), (.tri .arrayCfgP, c), (.tri .arrayCfgSettle, c)]) s (s.identShown c m) :=
  .wr (.wr (.wr (.wr (.wr .refl (by simp)) (by simp)) (by simp)) (by simp)) (by simp)

/-- A mismatch leaves what IDENT0 shows, and makes the link fatal. -/
theorem takeIdent0_shows (s : State) (c : Fin 4) (m : List Nat) :
    (∀ f, f.part = .reg .tri → f ≠ .tri .stateLink → Leaves f (s.identShown c m) (s.takeIdent0 c m))
    ∧ (s.identFault c (msgField m 1 1 * 128) (msgField m 2 2) (msgField m 4 1) (msgField m 5 1) (msgField m 6 2) (msgField m 8 1) ≠ none →
      (s.takeIdent0 c m).rd (.tri .stateLink) c = 4) := by
  have hf : ∀ (x : State) (i : List (Nat × Nat)) {f : Fld}, f.part = .reg .tri →
      Leaves f x (x.unitFault .lane (laneInst c 17) 0xFF 0x4389 i) := fun x i f h =>
    .touches .refl (.unitFault .refl : Touches Touches.Parts.unitFault x _) (by simp [h, Touches.Parts.unitFault])
  cases h : s.identFault c (msgField m 1 1 * 128) (msgField m 2 2) (msgField m 4 1) (msgField m 5 1) (msgField m 6 2) (msgField m 8 1)
  case none =>
    rw [takeIdent0_ok h]
    exact ⟨fun _ _ _ => .refl, fun hn => absurd rfl hn⟩
  case some x =>
    rw [takeIdent0_fault h]
    refine ⟨fun f hp hne => .trans (.wr (.touches .refl (.dumpNow .refl : Touches Touches.Parts.dumpNow _ _) ?_) hne) (hf _ _ hp), fun _ => ?_⟩
    · simp [hp, Touches.Parts.dumpNow]
    · exact ((hf _ _ rfl).rd c).trans (rd_wr_of_lt ..)

theorem train_eq {n : Nat} {c : Fin 4} {m : List Byte} (h : ReturnMsg s c 8 m) (hl : fieldOf m 1 1 < 17) : exec (.train n c m) s =
    .next (match fieldOf m 2 1 with
    | 1 => (s.advance n).wr (.tri .laneTapRx) (dataInst c (fieldOf m 1 1)) (fieldOf m 3 4)
    | 2 => ((((s.advance n).freeBits 7).2.freeBits 4).2.wr (.tri .laneTapDeskew) (dataInst c (fieldOf m 1 1)) ((s.advance n).freeBits 7).1).wr
        (.tri .laneTapFine) (dataInst c (fieldOf m 1 1)) (((s.advance n).freeBits 7).2.freeBits 4).1
    | 3 => (List.range 4).foldl (fun s e =>
        if s.rd (.trn .engStatState) e == 2 && s.rd (.trn .engCtrlTarget) e == 2 && s.rd (.trn .engCtrlIdx) e == fieldOf m 1 1
            && s.rd (.trn .engCtrlCluster) e == c.val then
          (s.bumpBy (.trn .biterrCount) (72 * e) (fieldOf m 3 4)).modEng (Fin.ofNat 6 e) fun g => { g with heard := g.heard + fieldOf m 3 4 }
        else s) (s.advance n)
    | _ => s.advance n) := by
  change execTrain n c m s = _
  unfold execTrain
  refine congrArg Host.Outcome.next ((returnMsg_taken h n _).trans ((if_neg (Nat.not_le.2 hl)).trans ?_))
  rfl

end State

/-- Settles O52: one equation per message, with what follows it kept away from what it shows. -/
theorem returnMessages : Obligations.ReturnMessages := by
  refine ⟨fun n c m a s hm ha h0 => ?_, fun n c m a s hm ha h23 => ?_, fun n cseq c a s ha hl => ?_, fun n c m s hm => ?_, fun n c m s hm => ?_,
    fun n c m s hm => ?_, fun n c m s hm => ?_, fun n c m s hm => ?_, fun n c m s hm hl h1 => ?_, fun n c m s hm hl h2 => ?_⟩
  · have hnext : exec (.rsack n c m) s = .next ((s.advance n).modTri c fun t => { t with acks := t.acks.filter fun x => x.cseq != a.cseq }) := by
      refine congrArg Host.Outcome.next ((State.returnMsg_taken hm n _).trans ?_)
      have ha' : ((s.advance n).tri[c].acks.find? fun a => a.cseq == msgField (m.map BitVec.toNat) 4 2) = some a := ha
      have h0' : msgField (m.map BitVec.toNat) 8 1 = 0 := h0
      simp only [ha', h0']
      exact if_neg (by simp)
    refine ⟨_, hnext, ?_, fun f i _ => State.modTri_rd .., rfl, rfl, rfl⟩
    simp only [State.modTri_tri, vector_get_set_self]
    rfl
  · have hnext : exec (.rsack n c m) s = .next ((s.advance n).resetFailed c a (fieldOf m 8 1)) := by
      refine congrArg Host.Outcome.next ((State.returnMsg_taken hm n _).trans ?_)
      have ha' : ((s.advance n).tri[c].acks.find? fun a => a.cseq == msgField (m.map BitVec.toNat) 4 2) = some a := ha
      simp only [ha']
      refine if_pos ?_
      rcases h23 with h | h
      · have h' : msgField (m.map BitVec.toNat) 8 1 = 2 := h
        simp [h']
      · have h' : msgField (m.map BitVec.toNat) 8 1 = 3 := h
        simp [h']
    obtain ⟨hacks, hraised⟩ := (s.advance n).resetFailed_shows c a (fieldOf m 8 1)
    exact ⟨_, hnext, hacks, hraised, KeepsNext.sameMemory (KeepsNext.execRsack .refl) hnext⟩
  · have hnext : exec (.rsackTimeout n c cseq) s = .next ((s.advance n).resetFailed c a 0xFF) := by
      change execRsackTimeout n c cseq s = _
      unfold execRsackTimeout
      have ha' : ((s.advance n).tri[c].acks.find? fun a => a.cseq == cseq) = some a := ha
      simp only [ha']
      exact congrArg _ (if_neg (Nat.not_lt.2 hl))
    obtain ⟨hacks, hraised⟩ := (s.advance n).resetFailed_shows c a 0xFF
    exact ⟨_, hnext, hacks, hraised, KeepsNext.sameMemory (KeepsNext.execRsackTimeout .refl) hnext⟩
  · have hnext : exec (.status n c m) s = .next ((s.advance n).takeStatus c (m.map BitVec.toNat)) :=
      congrArg Host.Outcome.next (State.returnMsg_taken hm n _)
    obtain ⟨hat, hlock⟩ := (s.advance n).takeStatus_shows c (m.map BitVec.toNat)
    exact ⟨_, hnext, hat, hlock⟩
  · have hnext : exec (.temp n c m) s = .next (((s.advance n).wr (.tri .tempTemp) c (fieldOf m 1 2)).modTri c fun t =>
        { t with tempAt := some (s.advance n).now }) := congrArg Host.Outcome.next (State.returnMsg_taken hm n _)
    refine ⟨_, hnext, (State.modTri_rd ..).trans (State.rd_wr_same ..), ?_, ?_, rfl, rfl, rfl⟩
    · simp only [State.modTri_tri, vector_get_set_self]
      rfl
    · exact (WritesOnly.same (.wr (.advance .refl) (by simp)) (State.modTri_rd _ c _)).onlyRegs
  · have hnext : exec (.alarm n c m) s = .next (match fieldOf m 1 1 with
        | 1 => ((s.advance n).bump (.tri .cnt2Alarms) c).report .lane (laneInst c 17) 0x138A [(2, fieldOf m 2 2)]
        | 2 => ((s.advance n).bump (.tri .cnt2Alarms) c).returnLaneFault c 0x438B [(2, fieldOf m 2 2)]
        | _ => (s.advance n).bump (.tri .cnt2Alarms) c) := by
      refine congrArg Host.Outcome.next ((State.returnMsg_taken hm n _).trans ?_)
      rfl
    refine ⟨_, hnext, ?_, fun h1 => ?_, fun h2 => ?_⟩
    · have hb : Bumped s ((s.advance n).bump (.tri .cnt2Alarms) c) (.tri .cnt2Alarms) c := State.bump_rd_same ..
      split
      · exact (Leaves.refl.report.rd c).trans hb
      · exact ((State.returnLaneFault_leaves _ c _ _ rfl (by decide)).rd c).trans hb
      · exact hb
    · rw [h1]
      exact State.report_raised_of rfl (State.rd_bump_ne_fld _ (by decide))
    · rw [h2]
      exact State.returnLaneFault_link ..
  · have hnext : exec (.ident0 n c m) s = .next ((s.advance n).takeIdent0 c (m.map BitVec.toNat)) :=
      congrArg Host.Outcome.next (State.returnMsg_taken hm n _)
    obtain ⟨hshown, hfault⟩ := (s.advance n).takeIdent0_shows c (m.map BitVec.toNat)
    refine ⟨_, hnext, ?_, ?_, ?_, ?_, ?_, hfault, fun hok => ?_⟩
    · refine ((hshown _ rfl (by decide)).rd c).trans ?_
      simp (disch := decide) only [State.identShown, State.rd_wr_ne_fld]
      exact State.rd_wr_same ..
    · refine ((hshown _ rfl (by decide)).rd c).trans ?_
      simp (disch := decide) only [State.identShown, State.rd_wr_ne_fld]
      exact State.rd_wr_same ..
    · refine ((hshown _ rfl (by decide)).rd c).trans ?_
      simp (disch := decide) only [State.identShown, State.rd_wr_ne_fld]
      exact State.rd_wr_same ..
    · refine ((hshown _ rfl (by decide)).rd c).trans ?_
      simp (disch := decide) only [State.identShown, State.rd_wr_ne_fld]
      exact State.rd_wr_same ..
    · exact ((hshown _ rfl (by decide)).rd c).trans (State.rd_wr_same ..)
    · rw [State.takeIdent0_ok (s := s.advance n) hok]
      exact ⟨((s.advance n).identShown_writes c _).onlyRegs, rfl, rfl, rfl⟩
  · have hnext : exec (.ident1 n c m) s = .next (((s.advance n).wr (.tri .arrayIdModel) c (fieldOf m 1 4)).wr (.tri .arrayCfgReplay) c
        (fieldOf m 7 1 % 2)) := congrArg Host.Outcome.next (State.returnMsg_taken hm n _)
    refine ⟨_, hnext, (State.rd_wr_ne_fld _ (by decide)).trans (State.rd_wr_same ..), State.rd_wr_same .., ?_, rfl, rfl, rfl⟩
    exact (WritesOnly.wr (.wr (.advance .refl) (by simp)) (by simp)).onlyRegs
  · have hnext := State.train_eq (n := n) hm hl
    rw [h1] at hnext
    exact ⟨_, hnext, State.rd_wr_same .., (WritesOnly.wr (.advance .refl) (by simp)).onlyRegs, rfl, rfl, rfl⟩
  · have hnext := State.train_eq (n := n) hm hl
    rw [h2] at hnext
    refine ⟨_, hnext, (WritesOnly.wr (.wr ?_ ?_) ?_).onlyRegs, rfl, rfl, rfl⟩
    · exact .same .refl fun _ _ => rfl
    · simp
    · simp

end Sys2Proof.Machine
end

section
/-! Commands answer (R292, R377, R379, R438): only an access at an address that does not exist stops. -/

namespace Sys2Proof.Machine

set_option Elab.async false

/-- The command answers a next state. -/
inductive Answers : Result → Prop
  | next {r : State} : Answers (.next r)

theorem Answers.exists_next {o : Result} (h : Answers o) : ∃ r, o = .next r := by
  obtain ⟨⟩ := h
  exact ⟨_, rfl⟩

namespace Answers

variable {s : State}

theorem ite {p : Prop} [Decidable p] {a b : Result} (ha : Answers a) (hb : Answers b) : Answers (if p then a else b) := by
  split
  · exact ha
  · exact hb

theorem ite_of_not {p : Prop} [Decidable p] {a b : Result} (h : ¬ p) (hb : Answers b) : Answers (if p then a else b) := by
  rw [if_neg h]
  exact hb

/-! ### Accesses -/

theorem readWord {a : Nat} (h : a < bar0End) : Answers (s.readWord a) := .ite_of_not (Nat.not_le.2 h) (.ite .next .next)

theorem retire_addr (c : Fin 4) : Fld.addr (.pix .layerRetireLayer) c < bar0End := by
  revert c
  decide

theorem hostHbmWrite {n off : Nat} {data : HbmBytes}
    (h : s.host.d3hot = true ∨ ∃ a, s.bar2Addr off = some a ∧ a + data.bytes.length ≤ hbmEnd) :
    Answers (execHostHbmWrite n off data s) := by
  unfold execHostHbmWrite
  rcases h with h | ⟨a, ha, hle⟩
  · rw [if_pos (show (s.advance n).host.d3hot = true from h)]
    exact .next
  · refine .ite .next ?_
    simp only [show (s.advance n).bar2Addr off = some a from ha, List.length_map, if_neg (Nat.not_lt.2 hle)]
    exact .next

theorem hostHbmRead {n off len : Nat} {check : ReadCheck} (h : s.host.d3hot = true ∨ ∃ a, s.bar2Addr off = some a ∧ a + len ≤ hbmEnd) :
    Answers (execHostHbmRead n off len check s) := by
  unfold execHostHbmRead
  rcases h with h | ⟨a, ha, hle⟩
  · rw [if_pos (show (s.advance n).host.d3hot = true from h)]
    exact .next
  · refine .ite .next ?_
    simp only [show (s.advance n).bar2Addr off = some a from ha, if_neg (Nat.not_lt.2 hle)]
    exact .next

theorem bar4Write {n off : Nat} {data : PlateBytes} (h : s.host.d3hot = true ∨ off + data.bytes.length ≤ plateEnd) :
    Answers (execBar4Write n off data s) := by
  unfold execBar4Write
  rcases h with h | hle
  · rw [if_pos (show (s.advance n).host.d3hot = true from h)]
    exact .next
  · refine .ite .next (.ite_of_not (Nat.not_lt.2 hle) ?_)
    extract_lets bytes ok s1 s2
    split
    · exact .next
    · exact .next

theorem bar4Read {n off len : Nat} {bad : Option Nat} (h : s.host.d3hot = true ∨ off + len ≤ plateEnd) :
    Answers (execBar4Read n off len bad s) := by
  unfold execBar4Read
  rcases h with h | hle
  · rw [if_pos (show (s.advance n).host.d3hot = true from h)]
    exact .next
  · refine .ite .next (.ite_of_not (Nat.not_lt.2 hle) ?_)
    extract_lets bytes known
    split
    · exact .next
    · exact .next

/-! ### Commands whose answer hangs on a case -/

theorem execObjectStore {t' oid} : Answers (Machine.execObjectStore t' oid s) := by
  unfold Machine.execObjectStore
  extract_lets s1
  split
  · exact .next
  · exact .ite .next .next

theorem execLogFreeze {t'} : Answers (Machine.execLogFreeze t' s) := by
  unfold Machine.execLogFreeze
  extract_lets s1
  split
  · exact .next
  · exact .next

theorem execLogbookSaveDone {t'} : Answers (Machine.execLogbookSaveDone t' s) := by
  unfold Machine.execLogbookSaveDone
  extract_lets s1
  split
  · exact .next
  · extract_lets slot1 s2
    exact .next

theorem execTimeTimeout {t'} : Answers (Machine.execTimeTimeout t' s) := by
  unfold Machine.execTimeTimeout
  extract_lets s1
  split
  · exact .next
  · exact .next

theorem execRecoveryDone {t' r e} : Answers (Machine.execRecoveryDone t' r e s) := by
  unfold Machine.execRecoveryDone
  extract_lets s1
  exact .ite .next (by
      split
      · extract_lets a
        exact .next
      · extract_lets x x1 s2 s3
        exact .ite .next .next)

theorem execFreqChangeDone {t' ch} : Answers (Machine.execFreqChangeDone t' ch s) := by
  unfold Machine.execFreqChangeDone
  extract_lets s1 next s2
  split
  · exact .next
  · exact .ite .next (by
      extract_lets s3 s4 s5
      exact .next)

theorem execMeshLoadComplete {t' c err} : Answers (Machine.execMeshLoadComplete t' c err s) := by
  unfold Machine.execMeshLoadComplete
  extract_lets s1
  split
  · exact .next
  · exact .ite .next (by
      split
      · exact .next
      · exact .next)

theorem execSchedCheckDone {t' c} : Answers (Machine.execSchedCheckDone t' c s) := by
  unfold Machine.execSchedCheckDone
  extract_lets s1
  split
  · exact .next
  · exact .next

theorem execDpPsr2Update {t' i y0 line data bad} : Answers (Machine.execDpPsr2Update t' i y0 line data bad s) := by
  unfold Machine.execDpPsr2Update
  extract_lets s1 s2 old
  split
  · exact .next
  · exact .ite .next (by
      extract_lets base first
      split
      · exact .next
      · exact .next)

theorem execReaffirmListReadDone {t' c err} : Answers (Machine.execReaffirmListReadDone t' c err s) := by
  unfold Machine.execReaffirmListReadDone
  extract_lets s1 s2 rest gone
  split
  · exact .next
  · extract_lets old tiles s3
    exact .ite .next (by
        clear_value old
        split
        · exact .next
        · exact .ite .next .next)

theorem execTileTableParityError {t' c tile} : Answers (Machine.execTileTableParityError t' c tile s) := by
  unfold Machine.execTileTableParityError
  extract_lets s1 n
  split
  · exact .next
  · extract_lets s2 s3 s4 s5 s6
    exact .next

theorem execDriveAttach {t' d} : Answers (Machine.execDriveAttach t' d s) := by
  unfold Machine.execDriveAttach
  extract_lets s1 s2 s3 gb s4 s5
  exact .ite .next (by
      split
      · exact .next
      · split
        · exact .next
        · exact .ite .next .next)

theorem execNvmeCommandTimeout {t' id} : Answers (Machine.execNvmeCommandTimeout t' id s) := by
  unfold Machine.execNvmeCommandTimeout
  extract_lets s1
  split
  · exact .next
  · exact .next

theorem execNvmeCommandComplete {t' id ok} : Answers (Machine.execNvmeCommandComplete t' id ok s) := by
  unfold Machine.execNvmeCommandComplete
  extract_lets s1 s2
  split
  · exact .next
  · exact .ite .next (.ite .next .next)

theorem execArchiveSampleTick {t' c late bad} : Answers (Machine.execArchiveSampleTick t' c late bad s) := by
  unfold Machine.execArchiveSampleTick
  extract_lets s1
  split
  · exact .next
  · exact .next

theorem execRingSample {t' c} : Answers (Machine.execRingSample t' c s) := by
  unfold Machine.execRingSample
  extract_lets s1
  split
  · exact .next
  · exact .ite .next (.ite .next .next)

theorem execRingFlushDone {t'} : Answers (Machine.execRingFlushDone t' s) := by
  unfold Machine.execRingFlushDone
  extract_lets s1 s2
  split
  · exact .next
  · exact .ite .next .next

theorem execArchiveFlushDone {t'} : Answers (Machine.execArchiveFlushDone t' s) := by
  unfold Machine.execArchiveFlushDone
  extract_lets s1
  split
  · exact .next
  · exact .next

theorem execArchiveResume {t'} : Answers (Machine.execArchiveResume t' s) := by
  unfold Machine.execArchiveResume
  extract_lets s1 obj mine
  split
  · exact .next
  · exact .ite .next (by
      extract_lets recs first flushed last keep d1 used lastTime s2 s3
      exact .next)

theorem execFrameStart {t' c} : Answers (Machine.execFrameStart t' c s) := by
  unfold Machine.execFrameStart
  extract_lets s1
  split
  · exact .next
  · exact .next

theorem execSegmentStart {t' c} : Answers (Machine.execSegmentStart t' c s) := by
  unfold Machine.execSegmentStart
  extract_lets s1
  split
  · exact .next
  · split
    · exact .next
    · exact .next

theorem execPlaneReset {t' c first last ent} : Answers (Machine.execPlaneReset t' c first last ent s) := by
  unfold Machine.execPlaneReset
  extract_lets s1 s2
  split
  · exact .next
  · exact .ite .next (by
      split
      · exact .next
      · exact .next)

theorem execSettleComplete {t' c first ent} : Answers (Machine.execSettleComplete t' c first ent s) := by
  unfold Machine.execSettleComplete
  extract_lets s1 a
  split
  · exact .next
  · exact .ite .next (by
      extract_lets r due lit s2
      exact .ite .next (by
          split
          · exact .next
          · exact .next))

theorem execAWindowStart {t' c} : Answers (Machine.execAWindowStart t' c s) := by
  unfold Machine.execAWindowStart
  extract_lets s1 s2
  split
  · exact .next
  · exact .ite .next .next

theorem execFrameClose {t' c} : Answers (Machine.execFrameClose t' c s) := by
  unfold Machine.execFrameClose
  extract_lets s1
  split
  · exact .next
  · exact .next

theorem execHeldWake {t' c} : Answers (Machine.execHeldWake t' c s) := by
  unfold Machine.execHeldWake
  extract_lets s1 scrub s2
  split
  · exact .next
  · exact .next

theorem execPlaneBandRead {t' c frame prim bitn piece band bad plate} :
    Answers (Machine.execPlaneBandRead t' c frame prim bitn piece band bad plate s) := by
  unfold Machine.execPlaneBandRead
  extract_lets s1 stopped first err s2 s3
  split
  · exact .next
  · exact .ite .next (.ite .next .next)

theorem execFallbackExtraction {t' c frame prim bitn piece band plateBad} :
    Answers (Machine.execFallbackExtraction t' c frame prim bitn piece band plateBad s) := by
  unfold Machine.execFallbackExtraction
  extract_lets s1 data
  split
  · exact .next
  · extract_lets due known err rows
    exact .ite .next (by
        clear_value err
        split
        · extract_lets s2 s3 s4 s5
          exact .next
        · exact .next)

theorem execBlockSend {t' c frame seg prim bitn piece wrap band blk resetAt} :
    Answers (Machine.execBlockSend t' c frame seg prim bitn piece wrap band blk resetAt s) := by
  unfold Machine.execBlockSend
  extract_lets s1 rb r0 cuts last
  split
  · extract_lets place h1 payload b s2
    exact .ite .next .next
  · exact .next

theorem execBlockTrailerSent {t' c seq bcrc} : Answers (Machine.execBlockTrailerSent t' c seq bcrc s) := by
  unfold Machine.execBlockTrailerSent
  extract_lets s1
  split
  · exact .next
  · exact .ite .next (by
      extract_lets own s2 s3
      exact .ite .next .next)

theorem execEchoTimeout {t' c seq} : Answers (Machine.execEchoTimeout t' c seq s) := by
  unfold Machine.execEchoTimeout
  extract_lets s1
  split
  · exact .next
  · exact .ite .next (by
      extract_lets s2
      exact .next)

theorem execRsackTimeout {t' c cseq} : Answers (Machine.execRsackTimeout t' c cseq s) := by
  unfold Machine.execRsackTimeout
  extract_lets s1
  split
  · exact .next
  · exact .next

theorem execLaneRetrainDone {t' c taps} : Answers (Machine.execLaneRetrainDone t' c taps s) := by
  unfold Machine.execLaneRetrainDone
  extract_lets s1 s2
  split
  · exact .next
  · exact .ite .next (by
      split
      · exact .next
      · extract_lets s3 l s4 s5 s6 s7 s8
        exact .next)

theorem execPcieConfigWrite {t' w} : Answers (Machine.execPcieConfigWrite t' w s) := by
  unfold Machine.execPcieConfigWrite
  extract_lets s1 x pend s2
  split
  · exact .next
  · exact .next
  · exact .next
  · exact .next
  · exact .next

theorem execEvrModerationTimeout {t'} : Answers (Machine.execEvrModerationTimeout t' s) := by
  unfold Machine.execEvrModerationTimeout
  extract_lets s1
  split
  · exact .next
  · exact .next

theorem execHeartbeatLoss {t'} : Answers (Machine.execHeartbeatLoss t' s) := by
  unfold Machine.execHeartbeatLoss
  extract_lets s1
  split
  · exact .next
  · exact .next

theorem execTakeoverSwitch {t'} : Answers (Machine.execTakeoverSwitch t' s) := by
  unfold Machine.execTakeoverSwitch
  extract_lets s1 s2
  split
  · exact .next
  · exact .ite .next (.ite .next (.ite .next (by
      extract_lets s3 s4 s5 frames
      exact .next)))

theorem execRoleTimeout {t'} : Answers (Machine.execRoleTimeout t' s) := by
  unfold Machine.execRoleTimeout
  extract_lets s1
  split
  · exact .next
  · exact .next

theorem execSelRetryTimeout {t'} : Answers (Machine.execSelRetryTimeout t' s) := by
  unfold Machine.execSelRetryTimeout
  extract_lets s1 s2
  split
  · exact .ite .next .next
  · exact .next

theorem execIsoWordDiscard {t' d word} : Answers (Machine.execIsoWordDiscard t' d word s) := by
  unfold Machine.execIsoWordDiscard
  extract_lets s1
  split
  · exact .next
  · exact .next
  · exact .next
  · extract_lets n s2
    exact .next
  · extract_lets n
    exact .next

end Answers

/-- Every command whose address exists answers. -/
theorem exec_answers {c : Instr} {s : State} (h : AddressExists s c) : Answers (exec c s) := by
  cases c with
  | registerWrite => exact .ite_of_not (Nat.not_le.2 h) (.ite .next .next)
  | bar0BadAccess => exact .ite .next (.ite .next .next)
  | wideLowRead => exact .readWord h
  | rcRead => exact .readWord h
  | retirePop => exact .readWord (Answers.retire_addr _)
  | fatalClear => exact .next
  | cntclr => exact .next
  | applyErrClear => exact .next
  | unitFatalFault => exact .next
  | d2dCrcRetry => exact .ite .next .next
  | d2dLinkFailure => exact .ite .next .next
  | isoWordDiscard => exact .execIsoWordDiscard
  | ephUploadBegin => exact .next
  | ephUploadPage => exact .next
  | ephUploadEnd => exact .next
  | ephActivate => exact .next
  | ephSwap => exact .next
  | ephReselect => exact .next
  | fullReload => exact .ite .next (.ite .next .next)
  | presetGo => exact .next
  | dbgUnlock => exact .next
  | dbgLock => exact .next
  | debugUnlockExpiry => exact .next
  | dpLinkTraining => exact .ite .next (.ite .next (.ite .next .next))
  | dpFrameComplete => exact .ite .next .next
  | dpFrameDiscard => exact .next
  | dpInputLost => exact .ite .next .next
  | dpPsrChange => exact .ite .next .next
  | dpPsr2Update => exact .execDpPsr2Update
  | hostHbmWrite => exact .hostHbmWrite h
  | hostHbmRead => exact .hostHbmRead h
  | bar4Write => exact .bar4Write h
  | bar4Read => exact .bar4Read h
  | layerReadError => exact .ite .next .next
  | fetchLate => exact .ite .next .next
  | fenceGo => exact .next
  | fenceDone => exact .ite .next .next
  | tableWindowWrite => exact .ite .next .next
  | meshLoadGo => exact .ite .next (.ite .next .next)
  | meshLoadComplete => exact .execMeshLoadComplete
  | tableParityError => exact .next
  | schedWindowWrite => exact .ite .next .next
  | schedCheckGo => exact .ite .next .next
  | schedCheckDone => exact .execSchedCheckDone
  | meridian => exact .ite .next .next
  | commitRequest => exact .next
  | commitCancel => exact .next
  | frameStart => exact .execFrameStart
  | segmentStart => exact .execSegmentStart
  | planeReset => exact .execPlaneReset
  | settleComplete => exact .execSettleComplete
  | aWindowStart => exact .execAWindowStart
  | tailStart => exact .ite .next .next
  | frameClose => exact .execFrameClose
  | heldWake => exact .execHeldWake
  | freshnessDeadlineWake => exact .next
  | planeBandRead => exact .execPlaneBandRead
  | fallbackExtraction => exact .execFallbackExtraction
  | blockSend => exact .execBlockSend
  | blockTrailerSent => exact .execBlockTrailerSent
  | echo => exact .next
  | echoTimeout => exact .execEchoTimeout
  | rsack => exact .next
  | rsackTimeout => exact .execRsackTimeout
  | status => exact .next
  | temp => exact .next
  | alarm => exact .next
  | ident0 => exact .next
  | ident1 => exact .next
  | train => exact .next
  | returnLaneLockLoss => exact .next
  | statusTimeout => exact .next
  | laneRetire => exact .next
  | laneRetrain => exact .next
  | laneRetrainDone => exact .execLaneRetrainDone
  | triocBringup => exact .next
  | interlockTrip => exact .ite .next .next
  | interlockRearm => exact .ite .next .next
  | outputStop => exact .next
  | outputRearm => exact .ite .next .next
  | channelRearm => exact .next
  | diagnow => exact .next
  | thermistorSample => exact .ite .next .next
  | lampFrameSend => exact .ite .next .next
  | faultWindow => exact .ite .next .next
  | wearRotation => exact .ite .next (.ite .next .next)
  | heliostatSample => exact .ite .next (.ite .next (.ite .next .next))
  | slotOutputWrite => exact .next
  | satfaultClear => exact .next
  | colourSensorTxn => exact .ite .next .next
  | colourResultReady => exact .ite .next .next
  | reaffirmLayer => exact .ite .next (.ite .next (.ite .next .next))
  | reaffirmTileList => exact .ite .next (.ite .next (.ite .next (.ite .next .next)))
  | reaffirmListReadDone => exact .execReaffirmListReadDone
  | tileTableParityError => exact .execTileTableParityError
  | hbmDetectionError => exact .next
  | hbmWriteParityError => exact .next
  | regionFreeze => exact .next
  | freezeRequest => exact .next
  | freezeSnapshotDone => exact .ite .next .next
  | recover => exact .next
  | recoveryDone => exact .execRecoveryDone
  | freqChangeRequest => exact .next
  | freqChangeDone => exact .execFreqChangeDone
  | pcPowerDown => exact .next
  | pcPowerDownExit => exact .next
  | selfRefreshEntry => exact .ite .next .next
  | hbmRefresh => exact .ite .next (.ite .next .next)
  | scrubRead => exact .ite .next (.ite .next .next)
  | trainingGo => exact .ite .next .next
  | trainingAbort => exact .ite .next .next
  | gatherBurstEnd => exact .next
  | gatherBurstStart => exact .next
  | stagedResultApply => exact .next
  | stagedResultExpiry => exact .next
  | scheduledTraining => exact .ite .next .next
  | almRawRead => exact .next
  | almRawWrite => exact .next
  | objectStore => exact .execObjectStore
  | checkpoint => exact .next
  | checkpointNow => exact .next
  | errorReport => exact .ite .next (.ite .next (.ite .next .next))
  | queueDrain => exact .next
  | logTriggerHost => exact .next
  | logFreeze => exact .execLogFreeze
  | logbookSaveDone => exact .execLogbookSaveDone
  | logRelease => exact .next
  | logSlotRead => exact .next
  | driveAttach => exact .execDriveAttach
  | nvmeCommandTimeout => exact .execNvmeCommandTimeout
  | smartPoll => exact .ite .next .next
  | archiveSampleTick => exact .execArchiveSampleTick
  | ringSample => exact .execRingSample
  | ringFlushDone => exact .execRingFlushDone
  | archiveFlushTick => exact .ite .next (.ite .next (.ite .next .next))
  | archiveFlushDone => exact .execArchiveFlushDone
  | logbookArchiveCopy => exact .ite .next (.ite .next (.ite .next .next))
  | archiveResume => exact .execArchiveResume
  | arcQuery => exact .next
  | arcRead => exact .next
  | arcAnchor => exact .next
  | arcInit => exact .next
  | startup => exact .ite .next (.ite .next .next)
  | powerFail => exact .next
  | overvoltage => exact .ite .next .next
  | resetIn => exact .next
  | holdupTimeout => exact .next
  | powerGoodTimeout => exact .next
  | pllLockLoss => exact .ite .next (.ite .next .next)
  | frontendRelockTimeout => exact .next
  | refclkValid => exact .next
  | refclkLost => exact .ite .next .next
  | standbyEnter => exact .next
  | tjSample => exact .ite .next .next
  | powerShedStep => exact .ite .next .next
  | pcieReset => exact .next
  | pcieLinkLoss => exact .ite .next .next
  | evrModerationTimeout => exact .execEvrModerationTimeout
  | version => exact .next
  | fwUpdateBegin => exact .next
  | fwUpdatePage => exact .next
  | fwUpdateEnd => exact .next
  | tagRead => exact .next
  | tagWrite => exact .next
  | telemetry => exact .next
  | smbusStatusRead => exact .ite .next .next
  | smbusTagRead => exact .ite .next .next
  | smbusStandby => exact .next
  | smbusWake => exact .next
  | smbusThermalRestart => exact .next
  | uartReceive => exact .next
  | headElection => exact .ite .next .next
  | enumTick => exact .ite .next .next
  | enum => exact .next
  | enumdone => exact .next
  | pingTick => exact .ite .next .next
  | ping => exact .next
  | pong => exact .next
  | timeTick => exact .ite .next .next
  | time => exact .next
  | timeTimeout => exact .execTimeTimeout
  | wallTimeSet => exact .ite .next .next
  | fsyncTick => exact .ite .next (.ite .next .next)
  | fsync => exact .next
  | chainLaneChange => exact .ite .next .next
  | coherentArm => exact .ite .next .next
  | armResend => exact .next
  | arm => exact .next
  | commitDecision => exact .ite .next (.ite .next (.ite .next (.ite .next .next)))
  | go => exact .next
  | defer => exact .next
  | abort => exact .next
  | trig => exact .next
  | chainWakeSend => exact .next
  | wake => exact .next
  | hb => exact .next
  | hbSend => exact .next
  | heartbeatLoss => exact .execHeartbeatLoss
  | mark => exact .next
  | id => exact .next
  | pend => exact .next
  | crcrep => exact .next
  | map => exact .next
  | chstate => exact .next
  | take => exact .next
  | xfatal => exact .next
  | transitLaneDrop => exact .next
  | handover => exact .next
  | takeoverSwitch => exact .execTakeoverSwitch
  | selPeerChange => exact .ite .next (.ite .next (.ite .next .next))
  | roleTimeout => exact .execRoleTimeout
  | selRetryTimeout => exact .execSelRetryTimeout
  | loadWindow => exact .ite .next .next
  | watchdogExpiry => exact .ite .next (.ite .next .next)
  | observerBootDone => exact .next
  | observerFatalClear => exact .next
  | layerFetchDone => exact .ite .next .next
  | railOutOfRegulation => exact .next
  | pllRelock => exact .ite .next .next
  | pcieLinkUp => exact .ite .next .next
  | pcieConfigWrite => exact .execPcieConfigWrite
  | transitLinkUp => exact .ite .next (.ite .next .next)
  | nvmeLinkDown => exact .next
  | nvmeCommandComplete => exact .execNvmeCommandComplete
  | dpAuxTransaction => exact .ite .next (.ite .next .next)
  | pwmPeriod => exact .ite .next .next
  | flashEraseDone => exact .next

/-- Settles O15: the accesses that stop do so at their address; every other command ends in a next state, branch by branch. -/
theorem accessPastBar0 : Obligations.AccessPastBar0 := by
  refine ⟨fun n addr data s h => ⟨?_, ?_, ?_⟩, fun c s h => (exec_answers h).exists_next⟩
  · exact if_pos h
  · exact if_pos h
  · exact if_pos h

end Sys2Proof.Machine
end

section
/-! The Trioc link fails, loses lanes and comes up (R154, R174 to R176, R302, R308). -/

namespace Sys2Proof.Machine

set_option Elab.async false

/-- From s to t the lanes' FATAL bits stand. -/
structure FatalKept (s t : State) : Prop where
  fatal : ∀ i, t.rd (.st .lane .fatal) i = s.rd (.st .lane .fatal) i

namespace FatalKept

variable {s t u : State}

theorem refl : FatalKept s s := ⟨fun _ => rfl⟩

theorem trans (h : FatalKept s t) (k : FatalKept t u) : FatalKept s u := ⟨fun i => (k.fatal i).trans (h.fatal i)⟩

theorem touches {ps : List Part} (h : FatalKept s t) (k : Touches ps t u) (hp : Part.status ∉ ps := by decide) : FatalKept s u :=
  h.trans ⟨fun i => k.rd (.st .lane .fatal) i hp⟩

theorem ite {p : Prop} [Decidable p] (h : FatalKept s t) (k : FatalKept s u) : FatalKept s (if p then t else u) := by
  split
  · exact h
  · exact k

theorem foldl {α : Type} {g : State → α → State} {l : List α} (h : FatalKept s t) (k : ∀ x a, FatalKept s x → FatalKept s (g x a)) :
    FatalKept s (l.foldl g t) := foldl_keeps (P := FatalKept s) k h

theorem forClusters {l : List (Fin 4)} {g : State → Fin 4 → State} (h : FatalKept s t) (k : ∀ x c, FatalKept s x → FatalKept s (g x c)) :
    FatalKept s (t.forClusters l g) := h.foldl k

theorem wr {f : Fld} {i v : Nat} (h : FatalKept s t) (hf : f ≠ .st .lane .fatal := by simp) : FatalKept s (t.wr f i v) :=
  h.trans ⟨fun _ => State.rd_wr_ne_fld _ hf.symm⟩

theorem modLight {c : Fin 4} {g : Light → Light} (h : FatalKept s t) : FatalKept s (t.modLight c g) := h.trans ⟨fun _ => rfl⟩

theorem modTri {c : Fin 4} {g : Trioc → Trioc} (h : FatalKept s t) : FatalKept s (t.modTri c g) := h.trans ⟨fun _ => rfl⟩

theorem report {v : UType} {i code : Nat} {items : List (Nat × Nat)} (h : FatalKept s t) (hv : v ≠ .lane := by decide) :
    FatalKept s (t.report v i code items) :=
  h.trans ⟨fun _ => State.reportSub_other _ _ _ _ _ _ _ _ _ (.inl fun e => hv e.1.symm)⟩

theorem markAllTiles {c} (h : FatalKept s t) : FatalKept s (t.markAllTiles c) :=
  h.touches (Touches.markAllTiles .refl : Touches Touches.Parts.markAllTiles _ _)

theorem sendDump {c} (h : FatalKept s t) : FatalKept s (t.sendDump c) :=
  h.touches (Touches.sendDump .refl : Touches Touches.Parts.sendDump _ _)

theorem lensLow {c} (h : FatalKept s t) : FatalKept s (t.lensLow c) :=
  h.touches (Touches.lensLow .refl : Touches Touches.Parts.lensLow _ _)

theorem abandonFade {c} (h : FatalKept s t) : FatalKept s (t.abandonFade c) :=
  h.touches (Touches.abandonFade .refl : Touches Touches.Parts.abandonFade _ _)

theorem dropCopies {f} (h : FatalKept s t) : FatalKept s (t.dropCopies f) :=
  h.touches (Touches.dropCopies .refl : Touches Touches.Parts.dropCopies _ _)

theorem dropReaff {c l} (h : FatalKept s t) : FatalKept s (t.dropReaff c l) :=
  h.touches (Touches.dropReaff .refl : Touches Touches.Parts.dropReaff _ _)

theorem modLayer {c l f} (h : FatalKept s t) : FatalKept s (t.modLayer c l f) :=
  h.touches (Touches.modLayer .refl : Touches Touches.Parts.modLayer _ _)

theorem modPic {c f} (h : FatalKept s t) : FatalKept s (t.modPic c f) :=
  h.touches (Touches.modPic .refl : Touches Touches.Parts.modPic _ _)

theorem signalCluster {c base en} (h : FatalKept s t) : FatalKept s (t.signalCluster c base en) :=
  h.touches (Touches.signalCluster .refl : Touches Touches.Parts.signalCluster _ _)

theorem postRetire {c l le} (h : FatalKept s t) : FatalKept s (t.postRetire c l le) := by
  refine h.trans ?_
  unfold State.postRetire
  extract_lets s1
  have hs1 : FatalKept t s1 := .modPic .refl
  exact .signalCluster (.report hs1)

theorem retireAll {c ended l} (h : FatalKept s t) : FatalKept s (t.retireAll c ended l) := by
  induction l generalizing t with
  | nil => exact h
  | cons x rest ih =>
    unfold State.retireAll
    extract_lets same le keep0 keep s1
    have hs1 : FatalKept t s1 := .ite (.forClusters .refl fun _ _ hx => .modPic hx) (.postRetire .refl)
    split
    · exact ih h
    · exact ih (h.trans hs1)

theorem endLeases {c ls new} (h : FatalKept s t) : FatalKept s (t.endLeases c ls new) := by
  refine h.trans ?_
  unfold State.endLeases
  extract_lets ended s1 s2
  have hs1 : FatalKept t s1 := .foldl .refl (fun _ _ hx => .dropCopies (.dropReaff (.modLayer hx)))
  have hs2 : FatalKept t s2 := .foldl hs1 (fun _ _ hx => .modLayer hx)
  exact .retireAll hs2

theorem darken {c fault u i code} (h : FatalKept s t) : FatalKept s (t.darken c fault u i code) :=
  h.trans (.ite .refl (by
    extract_lets s1 s2 s3
    have hs1 : FatalKept t s1 := .wr (.markAllTiles (.sendDump (.lensLow .refl)))
    have hs2 : FatalKept t s2 := .abandonFade (.modLight hs1)
    have hs3 : FatalKept t s3 := .endLeases (.modTri hs2)
    exact .ite (.report hs3) (.report hs3)))

end FatalKept

namespace State

variable {s : State}

/-! ### The lanes that work -/

theorem maskOf_succ (w : Nat) (f : Nat → Bool) : maskOf (w + 1) f = maskOf w f + if f w then 2 ^ w else 0 := by
  rw [maskOf, List.range_succ, List.foldl_append]
  change (if f w = true then maskOf w f + 2 ^ w else maskOf w f) = _
  split
  · rfl
  · rfl

theorem maskOf_lt (w : Nat) (f : Nat → Bool) : maskOf w f < 2 ^ w := by
  induction w with
  | zero => exact Nat.one_pos
  | succ w ih =>
    rw [maskOf_succ, Nat.pow_succ]
    split
    · omega
    · omega

/-- A mask has the bits of its function. -/
theorem bit_maskOf {w i : Nat} (f : Nat → Bool) (h : i < w) : bit (maskOf w f) i = f i := by
  induction w with
  | zero => exact absurd h (Nat.not_lt_zero _)
  | succ w ih =>
    rw [bit_eq_testBit] at ih ⊢
    rw [maskOf_succ]
    rcases Nat.lt_succ_iff_lt_or_eq.1 h with hlt | rfl
    · split
      · rw [Nat.add_comm, Nat.testBit_two_pow_add_gt hlt]
        exact ih hlt
      · exact ih hlt
    · have h0 : (maskOf i f).testBit i = false := Nat.testBit_lt_two_pow (maskOf_lt i f)
      cases hf : f i
      case false => exact h0
      case true =>
        rw [if_pos rfl, Nat.add_comm, Nat.testBit_two_pow_add_eq, h0]
        rfl

/-- The lanes that work are those set, in their order. -/
theorem setWorking_lanes (s : State) (c : Fin 4) (l : List Nat) :
    (s.setWorking c l).workingLanes c = (List.range 17).filter fun i => l.contains i := by
  have hrd : (s.setWorking c l).rd (.tri .stateWorking) c = laneMask l :=
    (rd_wr_ne_fld _ (by decide)).trans (rd_wr_of_lt _ _ _ (maskOf_lt 17 _))
  unfold workingLanes
  rw [hrd]
  exact List.filter_congr fun i hi => bit_maskOf _ (List.mem_range.1 hi)

theorem workingLanes_congr {t : State} (h : Leaves (.tri .stateWorking) s t) (c : Fin 4) : t.workingLanes c = s.workingLanes c := by
  unfold workingLanes
  rw [h.rd]

/-- The lanes left of those that work. -/
theorem range_filter_contains (p q : Nat → Bool) :
    ((List.range 17).filter fun i => (((List.range 17).filter p).filter q).contains i) = ((List.range 17).filter p).filter q := by
  rw [List.filter_filter]
  refine List.filter_congr fun i hi => ?_
  simp only [List.contains_eq_mem, List.mem_filter, hi, true_and]
  cases p i <;> cases q i <;> rfl

theorem retireOutcome_working (s : State) (c : Fin 4) (lane : Nat) : Leaves (.tri .stateWorking) s (s.retireOutcome c lane) :=
  (Spares.retireOutcome .refl).leaves

/-- A lane that is retired leaves the working lanes (R174). -/
theorem retireLane_working {c : Fin 4} {lane : Nat} (cause : Nat) (h : (s.workingLanes c).contains lane = true) :
    (s.retireLane c lane cause).workingLanes c = (s.workingLanes c).filter fun i => i != lane := by
  unfold retireLane
  extract_lets l s1 s2 s3
  rw [if_neg (by simp only [l, h]; decide)]
  have h3 : Leaves (.tri .stateWorking) s1 s3 := .trans (.report .refl) (retireOutcome_working ..)
  rw [workingLanes_congr (h3.foldl fun x b hx => hx.trans (Spares.resend .refl).leaves), setWorking_lanes]
  exact range_filter_contains _ _

/-! ### Faults of the return lane -/

theorem returnLaneFault_fatal {c : Fin 4} (h : s.clusterOn c = true) {code : Nat} (hc : code / 4096 = 4) (items : List (Nat × Nat)) :
    (s.returnLaneFault c code items).rd (.st .lane .fatal) (laneInst c 17) = 1 := by
  unfold returnLaneFault
  extract_lets s1
  generalize hx : s1.wr (.tri .stateLink) c 4 = x
  have h1 : s1.dev = s.dev := (Keeps.violate (m := false) .refl : Keeps false s s1).dev
  have hdev : x.dev = s.dev := by rw [← hx, wr_dev, h1]
  have hcl : ∀ c : Fin 4, unitCluster .lane (laneInst c 17) = c := by decide
  have hoff : x.fusedOff .lane (laneInst c 17) = false := by
    unfold fusedOff
    rw [hcl, clusterOn, hdev]
    simp [show bit s.dev.clen c = true from h]
  have hset : (x.reportSub .lane (laneInst c 17) 0xFF code items).rd (.st .lane .fatal) (laneInst c 17) = 1 := by
    rw [reportSub_status _ _ _ _ _ _ hoff rfl]
    simp only [hc]
    exact rd_wr_of_lt ..
  unfold unitFault
  rw [if_neg (by simp [hoff])]
  have h17 : laneInst c 17 % 18 = 17 := by
    unfold laneInst
    omega
  simp only [h17]
  exact ((FatalKept.darken .refl).fatal _).trans hset

/-! ### A lane that is trained again -/

/-- A lane back at work, before its event and the store of its taps. -/
def laneBack (s : State) (c : Fin 4) (i : Nat) (taps : Nat × Nat) : State :=
  let s := (s.modTri c fun t => { t with retrain := none }).setTaps c i taps.1 taps.2
  let l := s.workingLanes c ++ [i]
  let s := s.setWorking c l
  let s := s.modTri c fun t => { t with mism := t.mism.filter fun y => y.1 != i, laneFree := t.laneFree.set! i s.now, lfsr := t.lfsr.set! i (laneSeed i) }
  let s := if s.tri[c].active.length < 16 then s.setActive c (s.tri[c].active ++ [i]) else s
  if 16 ≤ l.length then s.wr (.tri .stateRreq) c 0 else s

/-- The lane's event and the store of the taps. -/
def laneBackTold (s : State) (c : Fin 4) (i : Nat) : State :=
  let s := s.report .lane (laneInst c i) 0x138C [(1, i)]
  s.almRequest (0x0010 + c.val) (s.triocTapsPayload c)

theorem laneRetrainDone_passes {n i : Nat} {c : Fin 4} {x : Nat × Nat} (hr : s.tri[c].retrain = some i)
    (hb : (s.advance n).bandsOffNow c = true) :
    exec (.laneRetrainDone n c (some x)) s = .next (((s.advance n).laneBack c i x).laneBackTold c i) := by
  change execLaneRetrainDone n c (some x) s = _
  unfold execLaneRetrainDone
  simp only [show (s.advance n).tri[c].retrain = some i from hr]
  exact if_neg (by simp [hb])

theorem setActive_leaves (s : State) (c : Fin 4) (l : List Nat) {f : Fld} (hp : f.part = .reg .tri) (h : f ≠ .tri .stateSpareUsed) :
    Leaves f s (s.setActive c l) := by
  unfold setActive
  extract_lets s1
  have h1 : Leaves f s s1 := .touches .refl (.violate .refl : Touches Touches.Parts.violate s _) (by simp [hp, Touches.Parts.violate])
  exact .wrb (h1.trans ⟨fun _ => modTri_rd ..⟩) h

theorem setActive_tri (s : State) (c : Fin 4) (l : List Nat) : (s.setActive c l).tri = s.tri.set c { s.tri[c] with active := l } := by
  unfold setActive
  extract_lets s1
  have h1 : s1.tri = s.tri := (Touches.violate .refl : Touches Touches.Parts.violate s s1) .tri (by decide)
  rw [wrb_tri, modTri_tri, h1]

theorem setActive_retrain (s : State) (c : Fin 4) (l : List Nat) : (s.setActive c l).tri[c].retrain = s.tri[c].retrain := by
  rw [setActive_tri, vector_get_set_self]

theorem retrain_ite {p : Prop} [Decidable p] {t : State} {c : Fin 4} (h : s.tri[c].retrain = none) (k : t.tri[c].retrain = none) :
    (if p then s else t).tri[c].retrain = none := by
  split
  · exact h
  · exact k

/-- The taps and the lane that works again are what the lane's return leaves; nothing after them writes these registers. -/
theorem laneBack_shows (s : State) (c : Fin 4) {i : Nat} (taps : Nat × Nat) (h : i < 17) :
    Holds (s.laneBack c i taps) (.tri .laneTapPre) (dataInst c i) taps.1 ∧ Holds (s.laneBack c i taps) (.tri .laneTapPost) (dataInst c i) taps.2
    ∧ ((s.laneBack c i taps).workingLanes c).contains i = true ∧ (s.laneBack c i taps).tri[c].retrain = none := by
  unfold laneBack
  extract_lets s1 l s2 s3 s4
  have hafter : ∀ {f : Fld}, f.part = .reg .tri → f ≠ .tri .stateSpareUsed → f ≠ .tri .stateRreq →
      Leaves f s2 (if 16 ≤ l.length then s4.wr (.tri .stateRreq) c 0 else s4) := by
    intro f hp h1 h2
    have h3 : Leaves f s2 s3 := ⟨fun _ => modTri_rd ..⟩
    have h4 : Leaves f s2 s4 := .ite (h3.trans (setActive_leaves _ _ _ hp h1)) h3
    exact .ite (.wr h4 h2) h4
  refine ⟨?_, ?_, ?_, ?_⟩
  · refine ((hafter rfl (by decide) (by decide)).rd _).trans ?_
    simp (disch := decide) only [s2, s1, setWorking, setTaps, rd_wr_ne_fld]
    exact rd_wr_same ..
  · refine ((hafter rfl (by decide) (by decide)).rd _).trans ?_
    simp (disch := decide) only [s2, s1, setWorking, setTaps, rd_wr_ne_fld]
    exact rd_wr_same ..
  · rw [workingLanes_congr (hafter rfl (by decide) (by decide)), setWorking_lanes]
    simp [l, h]
  · have h3 : s3.tri[c].retrain = none := by
      simp only [s3, s2, s1, setWorking, setTaps, wr_tri, modTri_tri, vector_get_set_self]
    have h4 : s4.tri[c].retrain = none := retrain_ite ((setActive_retrain ..).trans h3) h3
    exact retrain_ite h4 h4

theorem laneBack_status (s : State) (c : Fin 4) (i : Nat) (taps : Nat × Nat) (x : StF) :
    Leaves (.st .lane x) s (s.laneBack c i taps) ∧ (s.laneBack c i taps).dev = s.dev := by
  unfold laneBack
  extract_lets s1 l s2 s3 s4
  have k3 : Keeps false s s3 := .modTri (.setWorking (.setTaps (.modTri .refl)))
  have k4 : Keeps false s s4 := .ite (.setActive k3) k3
  have h3 : Leaves (.st .lane x) s s3 := by
    have h2 : Touches [.reg .tri, .tri] s s3 := .modTri (.setWorking (.setTaps (.modTri .refl)))
    exact .touches .refl h2 (by simp [Fld.part])
  have h4 : Leaves (.st .lane x) s s4 := .ite (h3.touches (.setActive .refl : Touches Touches.Parts.setActive _ _) (by simp [Fld.part, Touches.Parts.setActive])) h3
  exact ⟨.ite (.wr h4 (by simp)) h4, ((Keeps.wr k4).ite k4).dev⟩

/-- What the lane's event and the store of its taps leave. -/
theorem laneBackTold_leaves (s : State) (c : Fin 4) (i : Nat) :
    (∀ f, f.part = .reg .tri → Leaves f s (s.laneBackTold c i)) ∧ (s.laneBackTold c i).tri = s.tri := by
  have hr : Touches Touches.Parts.report s (s.report .lane (laneInst c i) 0x138C [(1, i)]) := .report .refl
  have ha : ∀ x : State, Touches Touches.Parts.almRequest x (x.almRequest (0x0010 + c.val) (x.triocTapsPayload c)) := fun x => .almRequest .refl
  refine ⟨fun f hf => .touches (.touches .refl hr (by simp [hf, Touches.Parts.report])) (ha _) (by simp [hf, Touches.Parts.almRequest]), ?_⟩
  exact ((ha _) .tri (by decide)).trans (hr .tri (by decide))

theorem laneBackTold_raised (s : State) (c : Fin 4) (i : Nat) : Raised s (s.laneBackTold c i) .lane (laneInst c i) 0x138C := by
  have ha : ∀ (x : State) (y : StF), Leaves (.st .lane y) x (x.almRequest (0x0010 + c.val) (x.triocTapsPayload c)) := fun x y =>
    .touches .refl (.almRequest .refl : Touches Touches.Parts.almRequest x _) (by simp [Fld.part, Touches.Parts.almRequest])
  intro hoff
  obtain ⟨hclass, hcount⟩ := report_raised s .lane (laneInst c i) 0x138C [(1, i)] (by decide) hoff
  exact ⟨((ha _ _).rd _).trans hclass, ((ha _ _).rd _).trans hcount⟩

theorem laneRetrainDone_fails {n i : Nat} {c : Fin 4} (hr : s.tri[c].retrain = some i) :
    exec (.laneRetrainDone n c none) s =
      .next (((s.advance n).modTri c fun t => { t with retrain := none }).noTapEvent 0 (2 + i * 256 + c.val * 65536)) := by
  change execLaneRetrainDone n c none s = _
  unfold execLaneRetrainDone
  simp only [show (s.advance n).tri[c].retrain = some i from hr]
  rfl

/-! ### The link comes up -/

/-- A bring-up that goes through: the return lane locks, the array answers, and every lane locks and passes. -/
structure ComesUp (x : BringUp) : Prop where
  retlock : x.retlock = true
  state2 : x.state2 = 1
  state8 : x.state8 = 2
  lanes : ∀ i, i < 17 → bit x.locks i = true ∧ (x.taps.getD i none).isSome = true

/-- The lanes' taps as the bring-up finds them. -/
def tapsShown (s : State) (c : Fin 4) (x : BringUp) : State :=
  (List.range 17).foldl (fun s i =>
    let j := dataInst c i
    let s := s.wr (.tri .laneTapRx) j (x.rx.getD i 0)
    let s := (s.wr (.tri .laneTapDeskew) j (x.skew.getD i (0, 0)).1).wr (.tri .laneTapFine) j (x.skew.getD i (0, 0)).2
    match x.taps.getD i none with
    | some t => s.setTaps c i t.1 t.2
    | none => s) s

/-- A link with nothing outstanding (R175). -/
def freshLink (s : State) (x : BringUp) (t : Trioc) : Trioc :=
  { t with
    seq := 0, cseq := 0, blocks := [], bands := [], acks := [], nextPlace := 0, mism := [], unlocked := [], lockMap := x.locks, retrain := none, shows := [], resumeAt := none
    laneFree := Vector.replicate 17 s.now
    lfsr := Vector.ofFn fun i => laneSeed i.val
    statusAt := s.now }

/-- The link in data mode, before its event. -/
def dataMode (s : State) (c : Fin 4) (x : BringUp) : State :=
  let s := ((s.tapsShown c x).setWorking c (List.range 17)).setActive c (List.range 16)
  let s := s.modTri c (s.freshLink x)
  (((s.wr (.tri .stateRreq) c 0).wr (.tri .stateRetlock) c 1).sendDump c).wr (.tri .stateLink) c 2

/-- What the bring-up tells and stores once the link is up. -/
def upTold (s : State) (c : Fin 4) (x : BringUp) : State :=
  let s := s.report .lane (laneInst c 17) 0x138D [(4, ((List.range 17).filter fun i => bit x.locks i && (x.taps.getD i none).isSome).length), (4, x.ms)]
  let s := ((List.range 17).zip x.taps).foldl (fun s y => match y.2 with | some t => s.comparePost c y.1 t.2 | none => s) s
  s.almRequest (0x0010 + c.val) (s.triocTapsPayload c)

theorem tapsShown_touches (s : State) (c : Fin 4) (x : BringUp) : Touches [.reg .tri] s (s.tapsShown c x) := by
  refine .foldl .refl fun y i hy => ?_
  have h : Touches [.reg .tri] s (((y.wr (.tri .laneTapRx) (dataInst c i) (x.rx.getD i 0)).wr (.tri .laneTapDeskew) (dataInst c i)
    (x.skew.getD i (0, 0)).1).wr (.tri .laneTapFine) (dataInst c i) (x.skew.getD i (0, 0)).2) := .wr (.wr (.wr hy))
  split
  · exact .setTaps h
  · exact h

/-- What the coming up touches before its event. -/
theorem dataMode_touches (s : State) (c : Fin 4) (x : BringUp) : Touches [.reg .tri, .tri, .trn] s (s.dataMode c x) := by
  have h1 : Touches [.reg .tri, .tri, .trn] s (s.tapsShown c x) := (tapsShown_touches s c x).mono (by decide)
  have h2 : Touches [.reg .tri, .tri, .trn] s (((s.tapsShown c x).setWorking c (List.range 17)).setActive c (List.range 16)) := .setActive (.setWorking h1)
  unfold dataMode
  exact .wr (.sendDump (.wr (.wr (.modTri h2))))

theorem dataMode_dev (s : State) (c : Fin 4) (x : BringUp) : (s.dataMode c x).dev = s.dev := by
  have h1 : Keeps false s (s.tapsShown c x) := .foldl .refl fun y i hy => by
    split
    · exact .setTaps (.wr (.wr (.wr hy)))
    · exact .wr (.wr (.wr hy))
  unfold dataMode
  exact (Keeps.wr (.sendDump (.wr (.wr (.modTri (.setActive (.setWorking h1))))))).dev

theorem linkUp_up {c : Fin 4} {x : BringUp} (h : ComesUp x) (hr : s.role ≠ 2) : s.linkUp c x = (s.dataMode c x).upTold c x := by
  unfold linkUp
  extract_lets pass s1 lanes s2 s3 s4 s5 s6 s7 s8
  have hpass : (lanes.filter fun i => !pass i) = [] := by
    refine List.filter_eq_nil_iff.2 fun i hi => ?_
    obtain ⟨hl, ht⟩ := h.lanes i (List.mem_range.1 hi)
    have hi' : pass i = true := by
      simp only [pass, hl, ht]
      rfl
    simp [hi']
  have hs1 : s1 = s.tapsShown c x := rfl
  have h2 : Touches [.reg .tri, .tri, .trn] s s2 := .setActive (.setWorking (hs1 ▸ (tapsShown_touches s c x).mono (by decide)))
  have h5 : Touches [.reg .tri, .tri, .trn] s s5 := .sendDump (.wr (.wr (.modTri h2)))
  have hrole : s5.role ≠ 2 := by
    have : s5.role = s.role := h5.rd (.par .statRole) 0 (by decide)
    rwa [this]
  have hdm : s5.wr (.tri .stateLink) c 2 = s.dataMode c x := rfl
  have h6 : s6 = (s.dataMode c x).report .lane (laneInst c 17) 0x138D [(4, (lanes.filter pass).length), (4, x.ms)] := by
    simp only [s6, h.state8, beq_self_eq_true, if_true]
    rw [if_neg (by simpa using hrole), hdm]
  have h7 : s7 = s6 := by
    simp only [s7, hpass, List.foldl_nil]
  simp only [s8, h7, h6]
  rfl

/-- The link's state in data mode (R154, R175). -/
theorem dataMode_shows (s : State) (c : Fin 4) (x : BringUp) :
    (s.dataMode c x).rd (.tri .stateLink) c = 2 ∧ (s.dataMode c x).rd (.tri .stateRetlock) c = 1
    ∧ (s.dataMode c x).workingLanes c = List.range 17 ∧ (s.dataMode c x).tri[c].active = List.range 16
    ∧ (s.dataMode c x).tri[c].blocks = [] ∧ (s.dataMode c x).tri[c].acks = [] ∧ (s.dataMode c x).tri[c].seq = 0 := by
  unfold dataMode
  extract_lets s1 s2
  have hd : ∀ (y : State) {f : Fld}, f.part = .reg .tri → Leaves f y (y.sendDump c) := fun y f hf =>
    .touches .refl (.sendDump .refl : Touches Touches.Parts.sendDump y _) (by simp [hf, Touches.Parts.sendDump])
  have hdump : ∀ y : State, (y.sendDump c).tri[c].active = y.tri[c].active ∧ (y.sendDump c).tri[c].blocks = y.tri[c].blocks
      ∧ (y.sendDump c).tri[c].acks = y.tri[c].acks ∧ (y.sendDump c).tri[c].seq = y.tri[c].seq := by
    intro y
    unfold sendDump dumpNow sendCommand
    extract_lets run lanes cmd y1
    have h1 : y1.tri[c].active = y.tri[c].active ∧ y1.tri[c].blocks = y.tri[c].blocks ∧ y1.tri[c].acks = y.tri[c].acks
        ∧ y1.tri[c].seq = y.tri[c].seq := by
      simp only [y1, modTri_tri, vector_get_set_self, and_self]
    split
    · exact ⟨rfl, rfl, rfl, rfl⟩
    · split
      · exact h1
      · exact h1
  have h2 : s2.tri[c].active = List.range 16 ∧ s2.tri[c].blocks = [] ∧ s2.tri[c].acks = [] ∧ s2.tri[c].seq = 0 := by
    have h1 : s1.tri[c].active = List.range 16 := by
      simp only [s1, setActive_tri, vector_get_set_self]
    simp only [s2, modTri_tri, vector_get_set_self, freshLink, h1, and_self]
  obtain ⟨ha, hb, hk, hs⟩ := hdump ((s2.wr (.tri .stateRreq) c 0).wr (.tri .stateRetlock) c 1)
  have hw : Leaves (.tri .stateWorking) ((s.tapsShown c x).setWorking c (List.range 17)) s2 :=
    (setActive_leaves _ c _ rfl (by decide)).trans ⟨fun _ => modTri_rd ..⟩
  refine ⟨rd_wr_of_lt .., ?_, ?_, ha.trans h2.1, hb.trans h2.2.1, hk.trans h2.2.2.1, hs.trans h2.2.2.2⟩
  · rw [rd_wr_ne_fld _ (by decide), (hd _ rfl).rd]
    exact rd_wr_of_lt ..
  · rw [workingLanes_congr (((hw.wr.wr).trans (hd _ rfl)).wr), setWorking_lanes]
    decide

/-- What the bring-up tells leaves the link alone. -/
theorem upTold_leaves (s : State) (c : Fin 4) (x : BringUp) :
    (∀ f, f.part = .reg .tri → Leaves f s (s.upTold c x)) ∧ (s.upTold c x).tri = s.tri
    ∧ Raised s (s.upTold c x) .lane (laneInst c 17) 0x138D := by
  unfold upTold
  extract_lets s1 s2
  have h1 : Touches Touches.Parts.report s s1 := .report .refl
  have h2 : Touches Touches.Parts.comparePost s1 s2 := .foldl .refl fun y a hy => by
    split
    · exact .comparePost hy
    · exact hy
  have h3 : Touches Touches.Parts.almRequest s2 (s2.almRequest (0x0010 + c.val) (s2.triocTapsPayload c)) := .almRequest .refl
  refine ⟨fun f hf => .touches (.touches (.touches .refl h1 (by simp [hf, Touches.Parts.report])) h2 (by simp [hf, Touches.Parts.comparePost])) h3
    (by simp [hf, Touches.Parts.almRequest]), (h3 .tri (by decide)).trans ((h2 .tri (by decide)).trans (h1 .tri (by decide))), fun hoff => ?_⟩
  have hst : ∀ y, Leaves (.st .lane y) s1 (s2.almRequest (0x0010 + c.val) (s2.triocTapsPayload c)) := fun y =>
    .touches (.foldl .refl fun z a hz => by
      split
      · refine hz.trans ?_
        unfold comparePost
        split
        · exact .ite (report_status_other _ _ _ _ _ (by decide)) .refl
        · exact .refl
      · exact hz) h3 (by simp [Fld.part, Touches.Parts.almRequest])
  obtain ⟨hclass, hcount⟩ := report_raised s .lane (laneInst c 17) 0x138D
    [(4, ((List.range 17).filter fun i => bit x.locks i && (x.taps.getD i none).isSome).length), (4, x.ms)] (by decide) hoff
  exact ⟨((hst _).rd _).trans hclass, ((hst _).rd _).trans hcount⟩

/-- The domain of the array is on, and no write waits for its power. -/
def arrayPowered (s : State) (c : Fin 4) : State :=
  { s.wr (.pwr .domOnOn) 0 (s.rd (.pwr .domOnOn) 0 ||| (2 ^ (42 + c.val) &&& (s.rd (.pwr .domPlanPlan) 0 ||| 0x107))) with heldLive := [] }

theorem arrayPowered_touches (s : State) (c : Fin 4) : Touches [.reg .pwr, .heldLive] s (s.arrayPowered c) := by
  unfold arrayPowered
  extract_lets s1
  have h1 : Touches [.reg .pwr, .heldLive] s s1 := .wr .refl
  exact .setHeldLive h1

/-- Its return lane has locked, and its lanes are tried. -/
def arrayOn (s : State) (c : Fin 4) (x : BringUp) : State :=
  (((s.arrayPowered c).wr (.tri .stateLink) c 1).wr (.tri .stateRetlock) c 1).setWorking c ((List.range 17).filter (bit x.locks))

/-- The array has told who it is, and the link may come up. -/
def identified (s : State) (c : Fin 4) (x : BringUp) : State := ((s.arrayOn c x).identShown c x.ident0).takeIdent1 c x.ident1

theorem identified_touches (s : State) (c : Fin 4) (x : BringUp) : Touches [.reg .pwr, .reg .tri, .heldLive] s (s.identified c x) := by
  have h1 : Touches [.reg .pwr, .reg .tri, .heldLive] s (s.arrayOn c x) :=
    .setWorking (.wr (.wr ((arrayPowered_touches s c).mono (by decide))))
  have h2 : Touches [.reg .pwr, .reg .tri, .heldLive] s ((s.arrayOn c x).identShown c x.ident0) := .wr (.wr (.wr (.wr (.wr h1))))
  exact .takeIdent1 h2

theorem identified_dev (s : State) (c : Fin 4) (x : BringUp) : (s.identified c x).dev = s.dev := by
  simp only [identified, takeIdent1, identShown, arrayOn, setWorking, wr_dev, arrayPowered]

theorem bringUp_up {c : Fin 4} {x : BringUp} (hc : s.clusterOn c = true) (hp : s.cfg[c].present = true) (hl : s.heldLive = []) (h : ComesUp x)
    (hi : s.identFault c (msgField x.ident0 1 1 * 128) (msgField x.ident0 2 2) (msgField x.ident0 4 1) (msgField x.ident0 5 1)
      (msgField x.ident0 6 2) (msgField x.ident0 8 1) = none) : s.bringUp c x = (s.identified c x).linkUp c x := by
  have hpow : s.powerOn (2 ^ (42 + c.val)) = s.arrayPowered c := by
    unfold powerOn
    extract_lets s1 due s2
    have h1 : s1.heldLive = [] := hl
    simp only [due, s2, h1, List.filter_nil, List.reverse_nil, List.foldl_nil]
    rfl
  have hid : (s.arrayOn c x).takeIdent0 c x.ident0 = (s.arrayOn c x).identShown c x.ident0 := takeIdent0_ok hi
  have hlink : ((s.arrayOn c x).identShown c x.ident0).rd (.tri .stateLink) c = 1 := by
    unfold identShown arrayOn setWorking
    simp (disch := decide) only [rd_wr_ne_fld]
    exact rd_wr_of_lt ..
  unfold bringUp
  refine (if_neg (by rw [hc, hp]; decide)).trans ((if_neg (by simp [h.retlock, h.state2])).trans ?_)
  rw [hpow]
  change (if ((s.arrayOn c x).takeIdent0 c x.ident0).rd (.tri .stateLink) c == 4 then (s.arrayOn c x).takeIdent0 c x.ident0
    else (((s.arrayOn c x).takeIdent0 c x.ident0).takeIdent1 c x.ident1).linkUp c x) = _
  rw [hid, hlink]
  rfl

end State

/-- Settles O53: each command's equation down to the operation that decides, and what that operation leaves of the link's registers. -/
theorem linkFaultsAndTraining : Obligations.LinkFaultsAndTraining := by
  refine ⟨fun n c s hd hl => ?_, fun n c s hl ht => ?_, fun n c lane s he hw => ?_, fun n c s hr hw => ?_, fun n i c x s hr hi hw hb => ?_,
    fun n i c s hr => ?_, fun n c x s hc hp hh hr h1 h2 h8 hx hi => ?_⟩
  · have hnext : exec (.returnLaneLockLoss n c) s = .next (((s.advance n).wr (.tri .stateRetlock) c 0).returnLaneFault c 0x4388 [(1, 1)]) := by
      refine congrArg Host.Outcome.next (if_neg ?_)
      change ¬ (!s.domOn (42 + c.val) || s.rd (.tri .stateLink) c == 0) = true
      rw [hd, beq_false_of_ne hl]
      decide
    refine ⟨_, hnext, ?_, State.returnLaneFault_link .., fun hon => State.returnLaneFault_fatal ?_ rfl _⟩
    rotate_left
    · rw [State.clusterOn, State.wr_dev]
      exact hon
    exact ((State.returnLaneFault_leaves _ c _ _ rfl (by decide)).rd c).trans (State.rd_wr_of_lt ..)
  · have hnext : exec (.statusTimeout n c) s = .next ((s.advance n).returnLaneFault c 0x4388 [(1, 2)]) := by
      refine congrArg Host.Outcome.next (if_neg ?_)
      change ¬ ((s.rd (.tri .stateLink) c != 2 && s.rd (.tri .stateLink) c != 3 && s.rd (.tri .stateLink) c != 5)
        || decide (max s.now n < s.tri[c].statusAt + usCclk 250)) = true
      rw [decide_eq_false (Nat.not_lt.2 ht)]
      rcases hl with h | h | h <;> simp [h]
    exact ⟨_, hnext, State.returnLaneFault_link .., fun hon => State.returnLaneFault_fatal (s := s.advance n) hon rfl _⟩
  · have hnext : exec (.laneRetire n c lane) s = .next ((s.advance n).retireLane c lane 1) :=
      congrArg Host.Outcome.next (if_neg (Nat.not_le.2 he))
    exact ⟨_, hnext, State.retireLane_working (s := s.advance n) 1 hw, KeepsNext.sameMemory (KeepsNext.execLaneRetire .refl) hnext⟩
  · have hnext : exec (.laneRetrain n c) s = .next ((s.advance n).modTri c fun t => { t with retrain := some (s.rd (.tri .ctrlRlane) c) }) := by
      refine congrArg Host.Outcome.next (if_neg ?_)
      change ¬ (decide (17 ≤ s.rd (.tri .ctrlRlane) c) || (s.workingLanes c).contains (s.rd (.tri .ctrlRlane) c)) = true
      rw [hw, decide_eq_false (Nat.not_le.2 hr)]
      decide
    refine ⟨_, hnext, ?_, fun f i _ => State.modTri_rd .., rfl, rfl, rfl⟩
    simp only [State.modTri_tri, vector_get_set_self]
  · have hnext := State.laneRetrainDone_passes (x := x) hr hb
    obtain ⟨hpre, hpost, hwork, hnone⟩ := (s.advance n).laneBack_shows c x hi
    have hst := (s.advance n).laneBack_status c i x
    generalize hy : (s.advance n).laneBack c i x = y at hnext hpre hpost hwork hnone hst
    obtain ⟨hleaves, htri⟩ := y.laneBackTold_leaves c i
    refine ⟨_, hnext, ?_, ?_, ((hleaves _ rfl).rd _).trans hpre, ((hleaves _ rfl).rd _).trans hpost, ?_,
      KeepsNext.sameMemory (KeepsNext.execLaneRetrainDone .refl) hnext⟩
    · rw [htri]
      exact hnone
    · rw [State.workingLanes_congr (hleaves _ rfl)]
      exact hwork
    · intro hoff
      have hoff' : y.fusedOff .lane (laneInst c i) = false := by
        unfold State.fusedOff State.clusterOn at hoff ⊢
        rw [(hst .errcnt).2]
        exact hoff
      obtain ⟨hclass, hcount⟩ := y.laneBackTold_raised c i hoff'
      exact ⟨hclass, hcount.trans (by rw [((hst .errcnt).1).rd]; rfl)⟩
  · have hnext := State.laneRetrainDone_fails (n := n) hr
    refine ⟨_, hnext, ?_, ?_, ?_, KeepsNext.sameMemory (KeepsNext.execLaneRetrainDone .refl) hnext⟩
    · have h := (Touches.noTapEvent .refl : Touches Touches.Parts.noTapEvent ((s.advance n).modTri c fun t => { t with retrain := none })
        (((s.advance n).modTri c fun t => { t with retrain := none }).noTapEvent 0 (2 + i * 256 + c.val * 65536))) .tri (by decide)
      rw [h, State.modTri_tri, vector_get_set_self]
    · exact State.report_raised_of rfl rfl
    · refine WritesOnly.onlyRegsAndEvents (.report (.same .refl fun _ _ => ?_) inListOrEvent_event)
      rfl
  · have hup : State.ComesUp x := ⟨h1, h2, h8, hx⟩
    have hrole : ((s.advance n).identified c x).role ≠ 2 := by
      have : ((s.advance n).identified c x).role = s.role := ((s.advance n).identified_touches c x).rd (.par .statRole) 0 (by decide)
      rwa [this]
    have hnext : exec (.triocBringup n c x) s = .next ((((s.advance n).identified c x).dataMode c x).upTold c x) := by
      refine congrArg Host.Outcome.next ((State.bringUp_up (s := s.advance n) hc hp hh hup hi).trans (State.linkUp_up hup hrole))
    have hid := (s.advance n).identified_touches c x
    generalize hy : (s.advance n).identified c x = y at hnext hid
    have hdm := y.dataMode_touches c x
    obtain ⟨hlink, hlock, hwork, hact, hblk, hack, hseq⟩ := y.dataMode_shows c x
    generalize hz : y.dataMode c x = z at hnext hdm hlink hlock hwork hact hblk hack hseq
    obtain ⟨hleaves, htri, hraised⟩ := z.upTold_leaves c x
    refine ⟨_, hnext, ((hleaves _ rfl).rd _).trans hlink, ((hleaves _ rfl).rd _).trans hlock, ?_, by rw [htri]; exact hact, by rw [htri]; exact hblk,
      by rw [htri]; exact hack, by rw [htri]; exact hseq, fun hoff => ?_, KeepsNext.sameMemory (KeepsNext.execTriocBringup .refl) hnext⟩
    · rw [State.workingLanes_congr (hleaves _ rfl)]
      exact hwork
    · have hdev : z.dev = s.dev := by
        rw [← hz, State.dataMode_dev, ← hy, State.identified_dev]
        rfl
      have hoff' : z.fusedOff .lane (laneInst c 17) = false := by
        unfold State.fusedOff State.clusterOn at hoff ⊢
        rw [hdev]
        exact hoff
      obtain ⟨hclass, hcount⟩ := hraised hoff'
      exact ⟨hclass, hcount.trans (by rw [hdm.rd _ _ (by decide), hid.rd _ _ (by decide)]; rfl)⟩

end Sys2Proof.Machine
end

section
/-! The Observer's load and watchdog (R423 to R430). -/

namespace Sys2Proof.Machine

set_option Elab.async false

namespace State

variable {s : State}

theorem modObs_leaves {f : Fld} (s : State) (g : Observer → Observer) : Leaves f s (s.modObs g) := ⟨fun _ => rfl⟩

/-- A reply leaves the Observer's watchdog counter. -/
theorem mailReply_resets (s : State) (tag : Nat) (r : Reply) : Leaves (.obs .wdogResets) s (s.mailReply tag r) := by
  unfold mailReply
  extract_lets s1 s2
  have h1 : Leaves (.obs .wdogResets) s s1 := .wr (.wr (.wr .refl))
  have h2 : Leaves (.obs .wdogResets) s s2 := .wr (h1.trans ⟨fun _ => rd_writePage_ne _ (by decide) _ _⟩)
  exact (Leaves.wr (.wr h2)).trans ⟨fun _ => signal_rd ..⟩

/-- A change of the shed level leaves the load and the watchdog. -/
theorem setShed_leaves (s : State) (n : Nat) {f : Fld} (hf : f.part = .reg .obs) (h1 : f ≠ .obs .loadShed) (h2 : f ≠ .obs .loadShedding)
    (h3 : f ≠ .obs .shedCntEntries) : Leaves f s (s.setShed n) := by
  have he : eventFld f = false := by
    cases f
    case obs => rfl
    all_goals exact absurd hf (by simp [Fld.part])
  unfold setShed
  extract_lets old mean since s1 s2
  have hs2 : Leaves f s s2 := .trans (.wrb (.wr .refl h1) h2) ⟨fun _ => rfl⟩
  have hr : ∀ x : State, Leaves f x x.releaseHeld := fun x =>
    .touches .refl (.releaseHeld .refl : Touches Touches.Parts.releaseHeld x _) (by simp [hf, Touches.Parts.releaseHeld])
  exact .ite .refl (.ite (.report (.bump hs2 h3) he) (.ite (.trans (.report hs2 he) (hr _)) (.report hs2 he)))

/-! ### The load -/

/-- A load window, as shown (R424). -/
def loadShown (s : State) (load : Nat) : State :=
  let s := s.modObs fun o => { o with windows := (load :: o.windows).take 1000 }
  let near := s.obs.windows.take 100
  ((s.wr (.obs .loadLoad) 0 load).wr (.obs .loadMean) 0 (near.sum / near.length)).wr (.obs .loadPeak) 0 (max (s.rd (.obs .loadPeak) 0) load)

/-- The shed level follows the load windows (R424). -/
def shedFollows (s : State) : State :=
  let w := s.obs.windows
  let near := w.take 100
  let level := s.rd (.obs .loadShed) 0
  let since := s.now - s.obs.lastChange
  if level < 6 && 90 * near.length < near.sum && msCclk 100 ≤ since then s.setShed (level + 1)
  else if 0 < level && w.sum < 70 * w.length && msCclk 1000 ≤ since then s.setShed (level - 1)
  else s

theorem loadWindow_eq {n load : Nat} (ho : s.obsOnline = true) (hl : load ≤ 100) :
    exec (.loadWindow n load) s = .next ((s.advance n).loadShown load).shedFollows := by
  change execLoadWindow n load s = _
  unfold execLoadWindow
  rw [Nat.min_eq_right hl]
  exact if_neg (show ¬ (!s.obsOnline) = true by simp [ho])

theorem shedFollows_leaves (s : State) {f : Fld} (hf : f.part = .reg .obs) (h1 : f ≠ .obs .loadShed) (h2 : f ≠ .obs .loadShedding)
    (h3 : f ≠ .obs .shedCntEntries) : Leaves f s s.shedFollows :=
  .ite (setShed_leaves _ _ hf h1 h2 h3) (.ite (setShed_leaves _ _ hf h1 h2 h3) .refl)

theorem loadWindow_shown {n load : Nat} (ho : s.obsOnline = true) (hl : load ≤ 100) : ∃ r, exec (.loadWindow n load) s = .next r
    ∧ ∀ f, f.part = .reg .obs → f ≠ .obs .loadShed → f ≠ .obs .loadShedding → f ≠ .obs .shedCntEntries →
      Leaves f ((s.advance n).loadShown load) r :=
  ⟨_, loadWindow_eq ho hl, fun _ => shedFollows_leaves _⟩

/-- The mean of values up to 100 is up to 100. -/
theorem mean_le_hundred {l : List Nat} (h : ∀ w ∈ l, w ≤ 100) : l.sum / l.length ≤ 100 :=
  Nat.div_le_of_le_mul (by simpa [Nat.mul_comm] using List.sum_le_card_nsmul l 100 h)

/-! ### The watchdog -/

theorem observerDown_shows (s : State) (boots : Bool) : Leaves (.obs .wdogResets) s (s.observerDown boots)
    ∧ (s.observerDown boots).rd (.obs .statusOffline) 0 = 1 := by
  unfold observerDown
  extract_lets s1 x s2 s3 s4
  have h1 : Leaves (.obs .wdogResets) s s1 := .ite (mailReply_resets ..) .refl
  have h2 : Leaves (.obs .wdogResets) s s2 := h1.trans ⟨fun _ => rfl⟩
  have h3 : Leaves (.obs .wdogResets) s s3 :=
    .ite h2 (h2.foldl fun x e hx => hx.touches (.dropRun .refl : Touches Touches.Parts.dropRun x _))
  have h4 : Leaves (.obs .wdogResets) s s4 := .wr (h3.trans (setShed_leaves _ _ rfl (by decide) (by decide) (by decide)))
  exact ⟨h4.trans ⟨fun _ => rfl⟩, rd_wr_of_lt (s3.setShed 0) (.obs .statusOffline) 0 (v := 1)⟩

/-- A watchdog expiry, counted, before its consequence (R429). -/
def expiryCounted (s : State) (code : Nat) : State :=
  let s := s.report .obs 0 0x28C6 [(4, s.rd (.obs .wdogTimeout) 0), (1, code)]
  let past := s.now :: s.obs.expiries.filter fun x => s.now < x + msCclk 600000
  ((s.modObs fun o => { o with expiries := past }).wr (.obs .wdogRecent) 0 (min 3 past.length)).bump (.obs .wdogResets) 0

theorem expiryCounted_bumped (s : State) (code : Nat) : Bumped s (s.expiryCounted code) (.obs .wdogResets) 0 := by
  unfold expiryCounted
  extract_lets s1 past
  have h1 : Leaves (.obs .wdogResets) s ((s1.modObs fun o => { o with expiries := past }).wr (.obs .wdogRecent) 0 (min 3 past.length)) :=
    .wr (Leaves.trans (.report .refl) ⟨fun _ => rfl⟩)
  exact (bump_rd_same ..).trans (by rw [h1.rd])

theorem unitDown_obs (s : State) (items : List (Nat × Nat)) : s.unitDown .obs 0 0xFF 0x48C8 items =
    ((s.observerDown false).modObs fun o => { o with heldReset := true }).reportSub .obs 0 0xFF 0x48C8 items := rfl

theorem watchdogExpiry_eq {n : Nat} {code : Byte} (ho : s.obsOnline = true) : exec (.watchdogExpiry n code) s =
    if ((s.advance n).expiryCounted code.toNat).obs.expiries.length < 3 then .next (((s.advance n).expiryCounted code.toNat).observerDown true)
    else .next (((s.advance n).expiryCounted code.toNat).unitDown .obs 0 0xFF 0x48C8
      [(4, ((s.advance n).expiryCounted code.toNat).obs.expiries.length)]) := by
  change execWatchdogExpiry n code s = _
  unfold execWatchdogExpiry
  exact if_neg (show ¬ (!s.obsOnline) = true by simp [ho])

theorem reportSub_leaves (s : State) (items : List (Nat × Nat)) {f : Fld} (hf : f.part = .reg .obs) :
    Leaves f s (s.reportSub .obs 0 0xFF 0x48C8 items) :=
  .touches .refl (.reportSub .refl : Touches Touches.Parts.reportSub s _) (by simp [hf, Touches.Parts.reportSub])

theorem unitDown_obs_shows (s : State) (items : List (Nat × Nat)) : Leaves (.obs .wdogResets) s (s.unitDown .obs 0 0xFF 0x48C8 items)
    ∧ (s.unitDown .obs 0 0xFF 0x48C8 items).rd (.obs .statusOffline) 0 = 1 := by
  obtain ⟨hresets, hoff⟩ := s.observerDown_shows false
  have hm : Leaves (.obs .wdogResets) s ((s.observerDown false).modObs fun o => { o with heldReset := true }) :=
    hresets.trans (modObs_leaves ..)
  rw [unitDown_obs]
  exact ⟨hm.trans (reportSub_leaves _ _ rfl), ((reportSub_leaves _ _ rfl).rd 0).trans hoff⟩

theorem watchdogExpiry_down {n : Nat} {code : Byte} (ho : s.obsOnline = true) : ∃ r, exec (.watchdogExpiry n code) s = .next r
    ∧ Leaves (.obs .wdogResets) ((s.advance n).expiryCounted code.toNat) r ∧ r.rd (.obs .statusOffline) 0 = 1 := by
  rw [watchdogExpiry_eq ho]
  split
  · exact ⟨_, rfl, observerDown_shows ..⟩
  · exact ⟨_, rfl, unitDown_obs_shows ..⟩

theorem observerBootDone_eq {n b : Nat} (h : s.obs.bootingSince = some b) : exec (.observerBootDone n) s =
    .next ((((s.advance n).modObs fun o => { o with bootingSince := none }).wr (.obs .statusOffline) 0 0).report .obs 0 0x18C7
      [(4, (max s.now n - b) / msCclk 1), (1, (((s.advance n).modObs fun o => { o with bootingSince := none }).wr (.obs .statusOffline) 0 0).rd
        (.obs .fwCopy) 0)]) := by
  refine congrArg Host.Outcome.next ?_
  unfold observerUp
  simp only [show (s.advance n).obs.bootingSince = some b from h]
  rfl

theorem observerFatalClear_eq {n : Nat} (h : s.obs.heldReset = true) : exec (.observerFatalClear n) s =
    .next ((((s.advance n).wr (.st .obs .fatal) 0 0).modObs fun o =>
      { o with heldReset := false, expiries := [], bootingSince := some (s.advance n).now }).wr (.obs .wdogRecent) 0 0) := by
  refine congrArg Host.Outcome.next ?_
  unfold clearFatal
  exact if_neg (show ¬ ((UType.obs != .obs) || !s.obs.heldReset) = true by simp [h])

end State

/-- Settles O35: the load is shown before the shed level moves, and an expiry is counted before the Observer goes down. -/
theorem observerCommands : Obligations.ObserverCommands := by
  refine ⟨fun n load s ho hl hw hp => ?_, fun n code s ho => ?_, fun n b s hb => ?_, fun n s hh => ?_⟩
  · obtain ⟨r, hnext, hr⟩ := State.loadWindow_shown (n := n) ho hl
    have hmean : ((load :: s.obs.windows).take 100).sum / ((load :: s.obs.windows).take 100).length ≤ 100 := by
      refine State.mean_le_hundred fun w hm => ?_
      rcases List.mem_cons.1 (List.mem_of_mem_take hm) with rfl | hm
      · exact hl
      · exact hw w hm
    have htake : ((load :: s.obs.windows).take 1000).take 100 = (load :: s.obs.windows).take 100 := by
      rw [List.take_take]
      rfl
    refine ⟨r, hnext, ?_, ?_, ?_, KeepsNext.sameMemory (KeepsNext.execLoadWindow .refl) hnext⟩
    · refine ((hr _ rfl (by decide) (by decide) (by decide)).rd 0).trans ?_
      rw [State.loadShown, State.rd_wr_ne_fld _ (by decide), State.rd_wr_ne_fld _ (by decide)]
      exact State.rd_wr_of_lt _ _ _ (Nat.lt_of_le_of_lt hl (by decide))
    · refine ((hr _ rfl (by decide) (by decide) (by decide)).rd 0).trans ?_
      rw [State.loadShown, State.rd_wr_ne_fld _ (by decide), ← htake]
      exact State.rd_wr_of_lt _ _ _ (Nat.lt_of_le_of_lt (htake ▸ hmean) (by decide))
    · refine ((hr _ rfl (by decide) (by decide) (by decide)).rd 0).trans ?_
      exact State.rd_wr_of_lt _ _ _ (Nat.lt_of_le_of_lt (Nat.max_le.2 ⟨hp, hl⟩) (by decide))
  · obtain ⟨r, hnext, hr, hoff⟩ := State.watchdogExpiry_down (n := n) (code := code) ho
    exact ⟨r, hnext, (hr.rd 0).trans ((s.advance n).expiryCounted_bumped code.toNat), hoff⟩
  · have hnext := State.observerBootDone_eq (n := n) hb
    refine ⟨_, hnext, ?_, ?_, State.report_raised_of rfl (State.rd_wr_ne_fld _ (by decide)), ?_,
      KeepsNext.sameMemory (KeepsNext.execObserverBootDone .refl) hnext⟩
    · exact ((Leaves.refl.report).rd 0).trans (State.rd_wr_of_lt ..)
    · rw [State.report_obs]
      rfl
    · refine WritesOnly.onlyRegsAndEvents (.report (.wr (.same .refl fun _ _ => ?_) (.inl (List.mem_singleton.2 rfl))) inListOrEvent_event)
      rfl
  · have hnext := State.observerFatalClear_eq (n := n) hh
    refine ⟨_, hnext, ?_, rfl, rfl, ?_, KeepsNext.sameMemory (KeepsNext.execObserverFatalClear .refl) hnext⟩
    · rw [State.rd_wr_ne_fld _ (by decide)]
      exact State.rd_wr_of_lt (s.advance n) (.st .obs .fatal) 0 (v := 0)
    · have h1 : WritesOnly (inList [(.st .obs .fatal, 0), (.obs .wdogRecent, 0)]) s ((s.advance n).wr (.st .obs .fatal) 0 0) :=
        .wr (.advance .refl) (by simp)
      exact (WritesOnly.wr (h1.same fun _ _ => rfl) (by simp)).onlyRegs

end Sys2Proof.Machine
end

section
/-! A band whose plate rows are being written (R126 to R129): which picture a row shows moves on with the clock. -/

namespace Sys2Proof.Machine

set_option Elab.async false

/-- The composed frame whose band is read. -/
def composedFrame : FrameRec := { blankFrame with num := 1, kind := .composed }

/-- A region that has stopped while the plate store takes the composed picture of output 1: all of it is lit, and the one before is dark. -/
def takingPlate : State :=
  { (((State.reset.wr (.pwr .domOnOn) 0 (2 ^ 35)).wr (.hbm .rgnStatState) 0 1).modPic 1 fun p =>
      { p with frames := [composedFrame], composedNum := 1, composedPrevNum := 1, composed := List.replicate 16 ⟨0x8000, 0x8000, 0x8000⟩ }) with
    cfg := State.reset.cfg.set 1 { OutCfg.reset with present := true, w := 8, h := 2, bands := 2 } }

/-- The rows of the band that is first among those ready after a command. -/
def bandRowsAfter (o : Result) (c : Fin 4) : Option (List (List Nat)) :=
  match o with
  | .next r => r.tri[c].bands.head?.map BandData.rows
  | _ => none

theorem bandRead_later : bandRowsAfter (exec (.planeBandRead 1000000 1 1 1 15 0 1 none ⟨none, 0⟩) takingPlate) 1 = some [[255]] := by decide +kernel

theorem takingPlate_row : ((bandRows takingPlate.cfg[(1 : Fin 4)].h takingPlate.cfg[(1 : Fin 4)].bands 1).map fun y =>
    takingPlate.rebuildRow 1 composedFrame.marked (takingPlate.plateRow 1 y).2 1 15 y) = [[0]] := by decide +kernel

/-- Refutes O51: a band read 1,000,000 CCLK after the state's instant is rebuilt from the picture that the plate store holds by then, and not
from the one it holds at the state's instant. -/
theorem not_bandsAndBlocks : ¬ Obligations.BandsAndBlocks := by
  rintro ⟨-, -, -, -, -, -, -, h⟩
  obtain ⟨r, hnext, hhead, -⟩ := h 1000000 1 1 15 0 1 0 1 composedFrame takingPlate (by decide +kernel) (by decide) (by decide +kernel) (by decide)
    (by decide) (by decide +kernel) (by decide +kernel) (by decide +kernel) (by decide +kernel)
  have hrows := bandRead_later
  rw [hnext, bandRowsAfter, hhead, Option.map_some, takingPlate_row] at hrows
  exact absurd hrows (by decide)

end Sys2Proof.Machine
end

section
/-! Register writes by apply class (R9 to R12, R440, R445), and the retire window (R84). -/

namespace Sys2Proof.Machine

set_option Elab.async false

namespace State

variable {s : State}

/-! ### The bus word -/

/-- The fields of a word, written in their order. -/
def wordWritten (s : State) (a data : Nat) : WordWrite := (fieldsAt a).foldl (writeOne s a data) ⟨s, [], 0⟩

/-- The record of an apply error, if the write of a word has a cause for one. -/
def causeShown (a : Nat) (r : WordWrite) : State := if r.cause == 0 then r.s else r.s.applyErr a r.cause 0

/-- The word holds a part of a value that lies across two words. -/
def wideWord (s : State) (a : Nat) : Bool :=
  (fieldsAt a).any fun x => 1 < x.1.info.words && 32 < x.1.info.lo + x.1.info.width && !s.pageLocked x.1 x.2.1

/-- The low words that wait for their high words after a write (R10). -/
def holdAfter (s : State) (a data : Nat) (l : List (Nat × Nat)) : List (Nat × Nat) :=
  if s.wideWord a && (fieldsAt a).any (fun x => x.2.2 == 0) then (a, data) :: l.filter (fun h => h.1 != a)
  else if s.wideWord a then l.filter (fun h => h.1 != a - 4) else l

/-- A write of an address that a host may write goes to the word there. -/
theorem busWrite_access {a : Nat} (h : WordAccess s a) (data : Nat) : s.busWrite a data 0 = busWrite.go a data 0 s := by
  obtain ⟨-, -, -, -, hon⟩ := h
  unfold busWrite
  split
  · rename_i c hc
    exact if_neg (by simp [hon c hc])
  · rfl

theorem busWrite_word {a : Nat} (h : WordAccess s a) (data : Nat) (hne : fieldsAt a ≠ []) (he : ∀ x ∈ fieldsAt a, engineField x.1 = false) :
    s.busWrite a data 0 = ({ causeShown a (s.wordWritten a data) with
      wrHold := s.holdAfter a data (causeShown a (s.wordWritten a data)).wrHold }, (s.wordWritten a data).pulls) := by
  obtain ⟨-, -, -, hst, -⟩ := id h
  have hany : ((fieldsAt a).any fun x => engineField x.1) = false := List.any_eq_false.2 fun x hx => by simp [he x hx]
  rw [busWrite_access h]
  unfold busWrite.go
  rw [hst]
  refine (if_neg (by simpa using hne)).trans ((if_neg (by simp [hany])).trans ?_)
  rfl

theorem busWrite_no_register {a : Nat} (h : WordAccess s a) (data : Nat) (hfs : fieldsAt a = []) (hw : roWindow a = false) :
    s.busWrite a data 0 = (s.applyErr a 6 0, []) := by
  obtain ⟨-, -, -, hst, -⟩ := id h
  rw [busWrite_access h]
  unfold busWrite.go
  rw [hst, hfs]
  exact (if_pos rfl).trans (if_neg (by simp [hw]))

/-! ### A host write whose word pulls nothing -/

/-- A host write leaves the state of its bus write, but for what the slots note of the chronographs. -/
theorem hostWrite_eq (s : State) (a data : Nat) : ∃ ks, s.hostWrite a data =
    { (s.busWrite a data 0).2.foldl (fun s x => match x.1 with | .eph .presetGo => s.presetGo | _ => s.pull 0 x) (s.busWrite a data 0).1 with
      chr := ks } := by
  unfold hostWrite
  extract_lets r s1
  split
  · refine foldl_keeps (P := fun y : State => ∃ ks, y = { s1 with chr := ks }) (fun y c hy => ?_) ⟨s1.chr, rfl⟩
    obtain ⟨ks, rfl⟩ := hy
    exact ⟨_, rfl⟩
  · exact ⟨s1.chr, rfl⟩

theorem registerWrite_eq {n a : Nat} {data : Word} (ha : a < bar0End) (h4 : a % 4 = 0) (hd : s.host.d3hot = false) :
    exec (.registerWrite n a data) s = .next (((s.advance n).hostWrite a data.toNat).complete .ok []) := by
  have haddr : a / 4 * 4 = a := by omega
  change execRegisterWrite n a data s = _
  unfold execRegisterWrite
  rw [haddr]
  exact (if_neg (Nat.not_le.2 ha)).trans (if_neg (show ¬ s.host.d3hot = true by simp [hd]))

/-- A state that shows what another shows to the host's registers. -/
structure SameWords (t r : State) : Prop where
  shadow : r.shadow = t.shadow
  wrHold : r.wrHold = t.wrHold
  rd : ∀ f i, r.rd f i = t.rd f i

theorem registerWrite_quiet {n a : Nat} {data : Word} (h : WordAccess s a) (hp : ((s.advance n).busWrite a data.toNat 0).2 = []) :
    ∃ r, exec (.registerWrite n a data) s = .next r ∧ r.completion = ⟨.ok, []⟩ ∧ SameWords ((s.advance n).busWrite a data.toNat 0).1 r
      ∧ SameMemory s r := by
  obtain ⟨ha, h4, hd, -, -⟩ := id h
  obtain ⟨ks, hks⟩ := (s.advance n).hostWrite_eq a data.toNat
  rw [hp] at hks
  refine ⟨_, registerWrite_eq ha h4 hd, rfl, ?_, ?_⟩
  · rw [hks]
    exact ⟨rfl, rfl, fun _ _ => rfl⟩
  · rw [hks]
    have hk : Keeps false s ((s.advance n).busWrite a data.toNat 0).1 := .busWrite (.advance .refl)
    exact hk.memory rfl

/-! ### The fields of a plain word -/

/-- The write of one writable field of a plain word. -/
def putField (pre : State) (data : Nat) (acc : WordWrite) (x : Fld × Nat) : WordWrite :=
  let r := acc.s.writeField pre x.1 x.2 (putIn x.1 data)
  { s := r.1, pulls := acc.pulls, cause := joinCause acc.cause r.2 }

/-- Only the fields of the table and schedule windows have pages. -/
theorem pageLocked_of_no_table {f : Fld} {i : Nat} (h : tableOf f i = none) (hs : f ≠ .pln .schedWord) (t : State) : t.pageLocked f i = false := by
  unfold pageLocked
  extract_lets hit
  split
  case h_7 => exact absurd rfl hs
  case h_8 => rfl
  all_goals simp [tableOf] at h

/-- The fields of the windows are Live ones. -/
theorem no_table_of_apply {f : Fld} (h : f.info.apply ≠ .live) (i : Nat) : tableOf f i = none ∧ f ≠ .pln .schedWord := by
  constructor
  · unfold tableOf
    split
    case h_7 => rfl
    all_goals exact absurd rfl h
  · rintro rfl
    exact h rfl

theorem wordSlice_first {f : Fld} (h : f.info.lo + f.info.width ≤ 32) : wordSlice f.info 0 = (f.info.lo, 0, f.info.width) := by
  simp [wordSlice, Nat.min_eq_left h]

theorem mem_rwFields {a : Nat} {x : Fld × Nat × Nat} (hx : x ∈ fieldsAt a) (h : x.1.info.acc = .rw) : (x.1, x.2.1) ∈ rwFields a :=
  List.mem_map.2 ⟨x, List.mem_filter.2 ⟨hx, beq_iff_eq.2 h⟩, rfl⟩

theorem of_mem_rwFields {a : Nat} {y : Fld × Nat} (h : y ∈ rwFields a) : ∃ x ∈ fieldsAt a, x.1.info.acc = .rw ∧ y = (x.1, x.2.1) := by
  obtain ⟨x, hx, rfl⟩ := List.mem_map.1 h
  obtain ⟨hx, hacc⟩ := List.mem_filter.1 hx
  exact ⟨x, hx, beq_iff_eq.1 hacc, rfl⟩

/-- A field that is cleared by a 1 stays where it is written 0. -/
theorem writeOne_w1c {a data : Nat} {acc : WordWrite} {x : Fld × Nat × Nat} (h : x.1.info.acc = .w1c)
    (h0 : bits data (wordSlice x.1.info x.2.2).1 (wordSlice x.1.info x.2.2).2.2 ≠ 1) : writeOne s a data acc x = acc := by
  unfold writeOne
  simp only [h, beq_eq_false_iff_ne.2 h0, Bool.false_eq_true, if_false]
  split <;> rfl

/-- The write of a field of a plain word. -/
theorem writeOne_plain {a data : Nat} {k : ApplyClass} (h : PlainWord s a data k)
    (hn : ∀ x ∈ rwFields a, tableOf x.1 x.2 = none ∧ x.1 ≠ .pln .schedWord) {x : Fld × Nat × Nat} (hx : x ∈ fieldsAt a) (acc : WordWrite) :
    writeOne s a data acc x = if x.1.info.acc == .rw then putField s data acc (x.1, x.2.1) else acc := by
  obtain ⟨hw0, hlo, -, hrw, hcmd, hwo⟩ := h.2 x hx
  have hpart : bits data (wordSlice x.1.info x.2.2).1 (wordSlice x.1.info x.2.2).2.2 = putIn x.1 data := by
    rw [hw0, wordSlice_first hlo]
    rfl
  by_cases hcl : x.1.info.acc = .w1c
  · rw [writeOne_w1c hcl (by rw [hpart, hcmd (.inr hcl)]; decide), hcl]
    rfl
  unfold writeOne
  extract_lets s1 f i part more pull
  have hpt : part = putIn x.1 data := hpart
  have hpull : putIn x.1 data = 0 → pull = acc := fun h0 => if_neg (by simp [hpt, h0])
  cases hacc : x.1.info.acc with
  | ro => rfl
  | rc => rfl
  | wo => exact absurd hacc hwo
  | w1s => exact hpull (hcmd (.inl hacc))
  | w1c => exact absurd hacc hcl
  | rw =>
    obtain ⟨⟨-, -, -, hact, hfix⟩, -, -⟩ := hrw hacc
    obtain ⟨htab, hsched⟩ := hn _ (mem_rwFields hx hacc)
    have hlock : s1.pageLocked f i = false := pageLocked_of_no_table htab hsched s1
    have hmerge : s1.mergeWord f i x.2.2 data (a - 4 * x.2.2) = some (putIn x.1 data) := by
      unfold mergeWord
      extract_lets y sl part' held l low
      rw [if_pos (by simp [y, f, hlo])]
      exact congrArg some hpart
    have hmore : more = [] := if_neg (by simp [f, hact])
    have hfix' : fixedField f i = false := hfix
    simp only [hlock, hmerge, hfix', hmore, List.append_nil, Bool.false_eq_true, if_false]
    rfl

theorem wordWritten_plain {a data : Nat} {k : ApplyClass} (h : PlainWord s a data k)
    (hn : ∀ x ∈ rwFields a, tableOf x.1 x.2 = none ∧ x.1 ≠ .pln .schedWord) :
    s.wordWritten a data = (rwFields a).foldl (putField s data) ⟨s, [], 0⟩ := by
  unfold wordWritten rwFields
  rw [List.foldl_map, List.foldl_filter]
  exact List.foldl_ext _ _ _ fun acc x hx => writeOne_plain h hn hx acc

theorem plainWord_fields {a data : Nat} {k : ApplyClass} (h : PlainWord s a data k) : fieldsAt a ≠ [] := by
  intro e
  exact h.1 (by simp [rwFields, e])

theorem plainWord_not_wide {a data : Nat} {k : ApplyClass} (h : PlainWord s a data k) : s.wideWord a = false := by
  refine List.any_eq_false.2 fun x hx => ?_
  obtain ⟨-, hlo, -⟩ := h.2 x hx
  simp [Nat.not_lt.2 hlo]

theorem plainWord_advance {a data : Nat} {k : ApplyClass} (h : PlainWord s a data k) (n : Nat) : PlainWord (s.advance n) a data k := h

theorem wordAccess_advance {a : Nat} (h : WordAccess s a) (n : Nat) : WordAccess (s.advance n) a := h

theorem busWrite_plain {a data : Nat} {k : ApplyClass} (hw : WordAccess s a) (h : PlainWord s a data k)
    (hn : ∀ x ∈ rwFields a, tableOf x.1 x.2 = none ∧ x.1 ≠ .pln .schedWord) :
    s.busWrite a data 0 = (causeShown a ((rwFields a).foldl (putField s data) ⟨s, [], 0⟩), ((rwFields a).foldl (putField s data) ⟨s, [], 0⟩).pulls) := by
  rw [busWrite_word hw data (plainWord_fields h) fun x hx => (h.2 x hx).2.2.1, wordWritten_plain h hn]
  unfold holdAfter
  rw [plainWord_not_wide h]
  rfl

theorem no_table_of_plain {a data : Nat} {k : ApplyClass} (h : PlainWord s a data k) (hk : k ≠ .live) :
    ∀ x ∈ rwFields a, tableOf x.1 x.2 = none ∧ x.1 ≠ .pln .schedWord := by
  intro y hy
  obtain ⟨x, hx, hacc, rfl⟩ := of_mem_rwFields hy
  obtain ⟨-, -, -, hrw, -⟩ := h.2 x hx
  exact no_table_of_apply (by rw [(hrw hacc).2.1]; exact hk) _

theorem plain_of_mem {a data : Nat} {k : ApplyClass} (h : PlainWord s a data k) {y : Fld × Nat} (hy : y ∈ rwFields a) :
    PlainField y.1 y.2 ∧ y.1.info.apply = k := by
  obtain ⟨x, hx, hacc, rfl⟩ := of_mem_rwFields hy
  obtain ⟨-, -, -, hrw, -⟩ := h.2 x hx
  exact ⟨(hrw hacc).1, (hrw hacc).2.1⟩

/-! ### Meridian fields -/

/-- The shadow entries of a word's fields, the last field's first. -/
def wordShadow (s : State) (data : Nat) (l : List (Fld × Nat)) : List ShadowEntry :=
  (l.map fun x => ⟨x.1, x.2, putIn x.1 data % 2 ^ x.1.info.width, s.now, false⟩).reverse

theorem putField_meridian {pre : State} {data : Nat} {acc : WordWrite} {x : Fld × Nat} (hen : enableOf x.1 = none)
    (ha : x.1.info.apply = .meridian) : putField pre data acc x =
      ⟨acc.s.wrShadow x.1 x.2 (putIn x.1 data), acc.pulls, joinCause acc.cause (if reservedWrite x.1 (putIn x.1 data) then 2 else 0)⟩ := by
  unfold putField writeField
  rw [hen]
  simp only [ha]

theorem joinCause_reserved (b c : Bool) : joinCause (if b then 2 else 0) (if c then 2 else 0) = if b || c then 2 else 0 := by
  cases b <;> cases c <;> rfl

theorem foldl_putField_meridian {pre : State} {data : Nat} {l : List (Fld × Nat)}
    (h : ∀ x ∈ l, enableOf x.1 = none ∧ x.1.info.apply = .meridian) (t : State) (ps : List (Fld × Nat)) (b : Bool) :
    l.foldl (putField pre data) ⟨t, ps, if b then 2 else 0⟩ =
      ⟨{ t with shadow := t.wordShadow data l ++ t.shadow }, ps, if b || l.any (fun x => reservedWrite x.1 (putIn x.1 data)) then 2 else 0⟩ := by
  induction l generalizing t b with
  | nil => simp [wordShadow]
  | cons x l ih =>
    obtain ⟨hen, ha⟩ := h x (List.mem_cons_self ..)
    rw [List.foldl_cons, putField_meridian hen ha, joinCause_reserved, ih fun y hy => h y (List.mem_cons_of_mem _ hy), List.any_cons,
      Bool.or_assoc]
    simp [wordShadow, wrShadow]

/-! ### Live fields -/

/-- The values of a word's fields, stored in their order. -/
def storedWord (s : State) (data : Nat) (l : List (Fld × Nat)) : State := l.foldl (fun s x => s.wr x.1 x.2 (clampWrite x.1 (putIn x.1 data))) s

theorem storedWord_rd (s : State) (data : Nat) (l : List (Fld × Nat)) (f : Fld) (i : Nat) :
    (s.storedWord data l).rd f i = if (f, i) ∈ l then clampWrite f (putIn f data) % 2 ^ f.info.width else s.rd f i := by
  unfold storedWord
  induction l generalizing s with
  | nil => simp
  | cons x l ih =>
    rw [List.foldl_cons, ih, rd_wr]
    by_cases hx : f = x.1 ∧ i = x.2
    · obtain ⟨rfl, rfl⟩ := hx
      simp
    · have hne : (f, i) ≠ x := fun e => hx ⟨congrArg Prod.fst e, congrArg Prod.snd e⟩
      simp [hx, hne]

theorem storeLive_of_no_table {f : Fld} {i : Nat} (h : tableOf f i = none) (hs : f ≠ .pln .schedWord) (t : State) (v : Nat) :
    t.storeLive f i v = t.wr f i (clampWrite f v) := by
  unfold storeLive
  extract_lets s1 s2
  have h2 : s2 = s1 := by simp only [s2, h]
  split
  · simp [tableOf] at h
  · exact absurd rfl hs
  · exact h2

theorem putField_live {pre : State} {data : Nat} {acc : WordWrite} {x : Fld × Nat} (hen : enableOf x.1 = none)
    (ha : x.1.info.apply = .live) (htab : tableOf x.1 x.2 = none) (hs : x.1 ≠ .pln .schedWord) (hsl : acc.s.sleeping x.1 x.2 = false)
    (hr : reservedWrite x.1 (putIn x.1 data) = false) :
    putField pre data acc x = ⟨acc.s.wr x.1 x.2 (clampWrite x.1 (putIn x.1 data)), acc.pulls, joinCause acc.cause 0⟩ := by
  unfold putField writeField
  rw [hen]
  simp only [ha, hsl, hr, Bool.false_eq_true, if_false, storeLive_of_no_table htab hs]

/-- A field sleeps by the held states and the domains alone. -/
theorem sleeping_congr {t : State} (hc : t.chr = s.chr) (hd : t.rd (.pwr .domOnOn) 0 = s.rd (.pwr .domOnOn) 0) (f : Fld) (i : Nat) :
    t.sleeping f i = s.sleeping f i := by
  unfold sleeping domOn
  rw [hc, hd]

theorem foldl_putField_live {pre : State} {data : Nat} {l : List (Fld × Nat)}
    (h : ∀ x ∈ l, x.1.info.acc = .rw ∧ enableOf x.1 = none ∧ x.1.info.apply = .live ∧ tableOf x.1 x.2 = none ∧ x.1 ≠ .pln .schedWord
      ∧ s.sleeping x.1 x.2 = false ∧ reservedWrite x.1 (putIn x.1 data) = false) (t : State) (hc : t.chr = s.chr)
    (hd : t.rd (.pwr .domOnOn) 0 = s.rd (.pwr .domOnOn) 0) :
    l.foldl (putField pre data) ⟨t, [], 0⟩ = ⟨t.storedWord data l, [], 0⟩ := by
  induction l generalizing t with
  | nil => rfl
  | cons x l ih =>
    obtain ⟨hacc, hen, ha, htab, hs, hsl, hr⟩ := h x (List.mem_cons_self ..)
    rw [List.foldl_cons, putField_live hen ha htab hs (by rw [sleeping_congr hc hd]; exact hsl) hr]
    refine ih (fun y hy => h y (List.mem_cons_of_mem _ hy)) _ hc ?_
    rw [rd_wr_ne_fld _ (by rintro e; rw [← e] at hacc; exact absurd hacc (by decide)), hd]

/-! ### Static fields -/

theorem clampWrite_lt (f : Fld) (data : Nat) : clampWrite f (putIn f data) < 2 ^ f.info.width := by
  have hput : putIn f data < 2 ^ f.info.width := Nat.mod_lt _ (Nat.two_pow_pos _)
  have hclamp : ∀ lo hi v : Nat, lo ≤ hi → clampN lo hi v ≤ hi := fun lo hi v h => by
    unfold clampN
    split
    · exact h
    · split <;> omega
  unfold clampWrite
  split
  · exact Nat.lt_of_le_of_lt (hclamp 6 16 _ (by decide)) (by decide)
  · exact Nat.lt_of_le_of_lt (hclamp 100 5000 _ (by decide)) (by decide)
  · exact unsigned_lt ..
  · exact hput

/-- A Static field takes its value; one that has it stays. -/
def storedStatic (t : State) (data : Nat) (x : Fld × Nat) : State :=
  if clampWrite x.1 (putIn x.1 data) == t.rd x.1 x.2 then t else t.wr x.1 x.2 (clampWrite x.1 (putIn x.1 data))

theorem storedStatic_rd (t : State) (data : Nat) (x : Fld × Nat) (f : Fld) (i : Nat) :
    (t.storedStatic data x).rd f i = if f = x.1 ∧ i = x.2 then clampWrite f (putIn f data) else t.rd f i := by
  unfold storedStatic
  by_cases hv : clampWrite x.1 (putIn x.1 data) = t.rd x.1 x.2
  · rw [if_pos (beq_iff_eq.2 hv)]
    split
    · rename_i e
      obtain ⟨rfl, rfl⟩ := e
      exact hv.symm
    · rfl
  · rw [if_neg (by simpa using hv), rd_wr]
    split
    · rename_i e
      obtain ⟨rfl, rfl⟩ := e
      exact Nat.mod_eq_of_lt (clampWrite_lt ..)
    · rfl

theorem putField_static {pre : State} {data : Nat} {acc : WordWrite} {x : Fld × Nat} (hen : enableOf x.1 = none)
    (ha : x.1.info.apply = .static) (hl : pre.staticLocked x.1 x.2 = false) (hr : reservedWrite x.1 (putIn x.1 data) = false) :
    putField pre data acc x = ⟨acc.s.storedStatic data x, acc.pulls, joinCause acc.cause 0⟩ := by
  unfold putField writeField storedStatic
  rw [hen]
  simp only [ha, hl, hr, Bool.false_eq_true, if_false]
  split
  · rfl
  · rfl

theorem foldl_putField_static {pre : State} {data : Nat} {l : List (Fld × Nat)}
    (h : ∀ x ∈ l, enableOf x.1 = none ∧ x.1.info.apply = .static ∧ pre.staticLocked x.1 x.2 = false
      ∧ reservedWrite x.1 (putIn x.1 data) = false) (t : State) :
    l.foldl (putField pre data) ⟨t, [], 0⟩ = ⟨l.foldl (fun t x => t.storedStatic data x) t, [], 0⟩ := by
  induction l generalizing t with
  | nil => rfl
  | cons x l ih =>
    obtain ⟨hen, ha, hl, hr⟩ := h x (List.mem_cons_self ..)
    rw [List.foldl_cons, putField_static hen ha hl hr]
    exact ih (fun y hy => h y (List.mem_cons_of_mem _ hy)) _

theorem foldl_storedStatic_rd (data : Nat) (l : List (Fld × Nat)) (t : State) (f : Fld) (i : Nat) :
    (l.foldl (fun t x => t.storedStatic data x) t).rd f i = if (f, i) ∈ l then clampWrite f (putIn f data) else t.rd f i := by
  induction l generalizing t with
  | nil => simp
  | cons x l ih =>
    rw [List.foldl_cons, ih, storedStatic_rd]
    by_cases hx : f = x.1 ∧ i = x.2
    · obtain ⟨rfl, rfl⟩ := hx
      simp
    · have hne : (f, i) ≠ x := fun e => hx ⟨congrArg Prod.fst e, congrArg Prod.snd e⟩
      simp [hx, hne]

theorem foldl_putField_locked {pre : State} {data : Nat} {l : List (Fld × Nat)}
    (h : ∀ x ∈ l, enableOf x.1 = none ∧ x.1.info.apply = .static ∧ pre.staticLocked x.1 x.2 = true) (t : State) (b : Bool) :
    l.foldl (putField pre data) ⟨t, [], if b then 1 else 0⟩ =
      ⟨t, [], if b || l.any (fun x => clampWrite x.1 (putIn x.1 data) != t.rd x.1 x.2) then 1 else 0⟩ := by
  induction l generalizing b with
  | nil => simp
  | cons x l ih =>
    obtain ⟨hen, ha, hl⟩ := h x (List.mem_cons_self ..)
    have hput : putField pre data ⟨t, [], if b then 1 else 0⟩ x =
        ⟨t, [], if b || (clampWrite x.1 (putIn x.1 data) != t.rd x.1 x.2) then 1 else 0⟩ := by
      unfold putField writeField
      rw [hen]
      simp only [ha, hl, if_true]
      by_cases hv : clampWrite x.1 (putIn x.1 data) = t.rd x.1 x.2
      · rw [if_pos (beq_iff_eq.2 hv), bne_eq_false_iff_eq.2 hv, Bool.or_false]
        cases b <;> rfl
      · rw [if_neg (by simpa using hv), bne_iff_ne.2 hv, Bool.or_true]
        cases b <;> rfl
    rw [List.foldl_cons, hput, ih fun y hy => h y (List.mem_cons_of_mem _ hy), List.any_cons, Bool.or_assoc]

/-! ### A refused write -/

theorem applyErr_writes (s : State) (a cause src : Nat) :
    WritesOnly (inList (applyErrFields.map fun g => (g, 0))) s (s.applyErr a cause src) ∧ (s.applyErr a cause src).shadow = s.shadow := by
  unfold applyErr
  extract_lets s1 s2 s3
  have h1 : WritesOnly (inList (applyErrFields.map fun g => (g, 0))) s s1 ∧ s1.shadow = s.shadow := by
    simp only [s1]
    split
    · exact ⟨.refl, rfl⟩
    · exact ⟨.wr (.wr (.wr (.wr .refl (by decide)) (by decide)) (by decide)) (by decide), rfl⟩
  have h2 : WritesOnly (inList (applyErrFields.map fun g => (g, 0))) s s2 ∧ s2.shadow = s.shadow :=
    ⟨.wr (.wr (.wr h1.1 (by decide)) (by decide)) (by decide), h1.2⟩
  have h3 : WritesOnly (inList (applyErrFields.map fun g => (g, 0))) s s3 ∧ s3.shadow = s.shadow := by
    simp only [s3]
    split
    · exact ⟨.wr h2.1 (by decide), h2.2⟩
    · exact h2
  exact ⟨.bump h3.1 (by decide), h3.2⟩

/-- A bus write that is refused: it is recorded with its cause, and no other register changes (R445). -/
theorem registerWrite_refused {n a cause : Nat} {data : Word} {t : State} (h : WordAccess s a)
    (hbus : (s.advance n).busWrite a data.toNat 0 = (t.applyErr a cause 0, [])) (ht : ∀ f i, t.rd f i = s.rd f i) (hc : cause < 2 ^ 3) :
    ∃ r, exec (.registerWrite n a data) s = .next r ∧ r.completion = ⟨.ok, []⟩ ∧ r.shadow = t.shadow
      ∧ r.rd (.glb .applyErrLastCause) 0 = cause ∧ r.rd (.glb .applyErrLastAddr) 0 = a
      ∧ Bumped s r (.glb .applyErrCntCount) 0 ∧ OnlyRegs s r (applyErrFields.map fun g => (g, 0)) ∧ SameMemory s r := by
  obtain ⟨r, hnext, hcomp, hsame, hmem⟩ := registerWrite_quiet (n := n) h (congrArg Prod.snd hbus)
  rw [hbus] at hsame
  obtain ⟨haddr, hcause, hcount⟩ := t.applyErr_shows (addr := a) h.1 hc 0
  obtain ⟨hwrites, hshadow⟩ := t.applyErr_writes a cause 0
  refine ⟨r, hnext, hcomp, hsame.shadow.trans hshadow, (hsame.rd _ _).trans hcause, (hsame.rd _ _).trans haddr, ?_, fun f i hf => ?_, hmem⟩
  · rw [Bumped, hsame.rd, hcount, ht]
  · rw [hsame.rd, hwrites f i hf, ht]

/-! ### Wide values -/

/-- A value of a plain wide field clamps at nothing and has no reserved encoding. -/
theorem wide_unclamped {f : Fld} (h : 1 < f.info.words) (v : Nat) : clampWrite f v = v ∧ reservedWrite f v = false := by
  constructor
  · unfold clampWrite
    split
    case h_4 => rfl
    all_goals exact absurd h (by decide)
  · unfold reservedWrite
    split
    case h_23 => rfl
    all_goals exact absurd h (by decide)

theorem fields_width (b : Block) : ∀ f ∈ b.fields, f.info.lo + f.info.width ≤ 64 := by
  cases b <;> decide +kernel

/-- A register of the host's file has two words at most. -/
theorem fieldsAt_width {a : Nat} {x : Fld × Nat × Nat} (h : x ∈ fieldsAt a) : x.1.info.lo + x.1.info.width ≤ 64 := by
  unfold fieldsAt at h
  split at h
  · exact absurd h List.not_mem_nil
  · rename_i b _
    obtain ⟨f, hf, he⟩ := List.mem_filterMap.1 h
    split at he
    · obtain rfl := Option.some.inj he
      exact fields_width b f hf
    · exact absurd he (by simp)

/-- The value of a write of a high word (R10). -/
def joinedWord (f : Fld) (v data : Nat) : Nat :=
  bits v f.info.lo (32 - f.info.lo) + bits data 0 (f.info.lo + f.info.width - 32) * 2 ^ (32 - f.info.lo)

theorem mergeWord_high {f : Fld} {j data base v : Nat} (hw : 1 < f.info.words) (hlo : f.info.lo < 32) (hhi : 32 < f.info.lo + f.info.width)
    (h64 : f.info.lo + f.info.width ≤ 64) (hv : (s.wrHold.find? fun h => h.1 == base) = some (base, v)) :
    s.mergeWord f j 1 data base = some (joinedWord f v data) := by
  have h0 : wordSlice f.info 0 = (f.info.lo, 0, 32 - f.info.lo) := by
    simp [wordSlice, Nat.min_eq_right (Nat.le_of_lt hhi)]
  have h1 : wordSlice f.info 1 = (0, 32 - f.info.lo, f.info.lo + f.info.width - 32) := by
    simp [wordSlice, Nat.max_eq_right (Nat.le_of_lt hlo), Nat.min_eq_left h64]
  unfold mergeWord
  extract_lets x sl part held l low
  rw [if_neg (by simp [x, Nat.not_le.2 hw, Nat.not_le.2 hhi]), if_neg (by decide)]
  have hlow : low = bits v f.info.lo (32 - f.info.lo) := by
    simp only [low, held, hv, l, x, h0, Option.map_some]
  simp only [hlow, part, sl, x, h1]
  rfl

theorem mergeWord_low {f : Fld} {j data base : Nat} (hw : 1 < f.info.words) (hhi : 32 < f.info.lo + f.info.width) :
    s.mergeWord f j 0 data base = none := by
  unfold mergeWord
  extract_lets x sl part held l
  rw [if_neg (by simp [x, Nat.not_le.2 hw, Nat.not_le.2 hhi]), if_pos (by decide)]

theorem wordWritten_one {a data j wd : Nat} {f : Fld} (hfs : fieldsAt a = [(f, j, wd)]) :
    s.wordWritten a data = writeOne s a data ⟨s, [], 0⟩ (f, j, wd) := by
  unfold wordWritten
  rw [hfs]
  rfl

theorem writeOne_high {a data j v : Nat} {f : Fld} (hp : PlainField f j) (ha : f.info.apply = .live) (hl : s.pageLocked f j = false)
    (ht : tableOf f j = none) (hs : s.sleeping f j = false) (hw : 1 < f.info.words)
    (hm : s.mergeWord f j 1 data (a - 4 * 1) = some v) : writeOne s a data ⟨s, [], 0⟩ (f, j, 1) = ⟨s.wr f j v, [], 0⟩ := by
  obtain ⟨hacc, hen, -, hact, hfix⟩ := hp
  obtain ⟨hclamp, hres⟩ := wide_unclamped hw v
  have hsched : f ≠ .pln .schedWord := by
    rintro rfl
    exact absurd hw (by decide)
  have hf : s.writeField s f j v = (s.wr f j v, 0) := by
    unfold writeField
    rw [hen]
    simp only [hres, ha, hs, Bool.false_eq_true, if_false, storeLive_of_no_table ht hsched, hclamp]
  simp only [writeOne, hacc, hl, hm, hfix, hf, hact, Bool.false_eq_true, if_false]
  rfl

theorem writeOne_low {a data j : Nat} {f : Fld} (hacc : f.info.acc = .rw) (hl : s.pageLocked f j = false)
    (hm : s.mergeWord f j 0 data (a - 4 * 0) = none) : writeOne s a data ⟨s, [], 0⟩ (f, j, 0) = ⟨s, [], 0⟩ := by
  simp only [writeOne, hacc, hl, hm, Bool.false_eq_true, if_false]

theorem wideWord_one {a j wd : Nat} {f : Fld} (hfs : fieldsAt a = [(f, j, wd)]) (hw : 1 < f.info.words)
    (hhi : 32 < f.info.lo + f.info.width) (hl : s.pageLocked f j = false) : s.wideWord a = true := by
  unfold wideWord
  rw [hfs]
  simp [hw, hhi, hl]

/-! ### Status words -/

theorem busWrite_status {a i : Nat} {u : UType} (hst : statusAt a = some (u, i)) (hon : ∀ c, addrCluster a = some c → s.clusterOn c = true)
    (data : Nat) : s.busWrite a data 0 =
      (s, (if bit data 2 then [(Fld.st u .fatal, i)] else []) ++ (if bit data 7 then [(Fld.st u .errcnt, i)] else [])) := by
  have hgo : s.busWrite a data 0 = busWrite.go a data 0 s := by
    unfold busWrite
    split
    · rename_i c hc
      exact if_neg (by simp [hon c hc])
    · rfl
  rw [hgo]
  unfold busWrite.go
  rw [hst]

theorem clearFatal_fatal (s : State) (u : UType) (i : Nat) : (s.clearFatal u i).rd (.st u .fatal) i = 0 := by
  rw [clearFatal_writesOnly s u i _ _ (by simp), rd_wr_same, Nat.zero_mod]

/-- The clearing of counters sets no register. -/
theorem clearCounters_zero (u : UType) (i : Nat) {f : Fld} {j : Nat} (h : s.rd f j = 0) : (s.clearCounters u i).rd f j = 0 := by
  rw [clearCounters, rd_foldl_clear, rd_wr, Nat.zero_mod]
  split
  · rfl
  · split
    · rfl
    · exact h

theorem hostWrite_fatal {a i data : Nat} {u : UType} (hst : statusAt a = some (u, i)) (hon : ∀ c, addrCluster a = some c → s.clusterOn c = true)
    (hb : bit data 2 = true) : (s.hostWrite a data).rd (.st u .fatal) i = 0 ∧ Keeps false s (s.hostWrite a data) := by
  obtain ⟨ks, hks⟩ := s.hostWrite_eq a data
  rw [busWrite_status hst hon, hb] at hks
  rw [hks]
  cases bit data 7
  · exact ⟨s.clearFatal_fatal u i, .update (.clearFatal .refl)⟩
  · exact ⟨clearCounters_zero u i (s.clearFatal_fatal u i), .update (.clearCounters (.clearFatal .refl))⟩

/-! ### The bus word by apply class -/

theorem busWrite_meridian {a : Nat} {data : Word} (hw : WordAccess s a) (h : PlainWord s a data.toNat .meridian) (n : Nat) :
    (s.advance n).busWrite a data.toNat 0 = (causeShown a
      ⟨{ s.advance n with shadow := (s.advance n).wordShadow data.toNat (rwFields a) ++ s.shadow }, [],
        if (rwFields a).any (fun x => reservedWrite x.1 (putIn x.1 data.toNat)) then 2 else 0⟩, []) := by
  rw [busWrite_plain (s := s.advance n) hw h (no_table_of_plain h (by decide))]
  exact congrArg (fun r : WordWrite => (causeShown a r, r.pulls))
    (foldl_putField_meridian (fun x hx => ⟨(plain_of_mem h hx).1.2.1, (plain_of_mem h hx).2⟩) (s.advance n) [] false)

theorem busWrite_live {a : Nat} {data : Word} (hw : WordAccess s a) (h : PlainWord s a data.toNat .live)
    (hx : ∀ x ∈ rwFields a, tableOf x.1 x.2 = none ∧ x.1 ≠ .pln .schedWord ∧ s.sleeping x.1 x.2 = false
      ∧ reservedWrite x.1 (putIn x.1 data.toNat) = false) (n : Nat) :
    (s.advance n).busWrite a data.toNat 0 = ((s.advance n).storedWord data.toNat (rwFields a), []) := by
  rw [busWrite_plain (s := s.advance n) hw h fun x hm => ⟨(hx x hm).1, (hx x hm).2.1⟩,
    foldl_putField_live (s := s) (fun x hm => ?_) (s.advance n) rfl rfl]
  · rfl
  · obtain ⟨⟨hacc, hen, -⟩, ha⟩ := plain_of_mem h hm
    exact ⟨hacc, hen, ha, hx x hm⟩

theorem busWrite_static {a : Nat} {data : Word} (hw : WordAccess s a) (h : PlainWord s a data.toNat .static)
    (hx : ∀ x ∈ rwFields a, s.staticLocked x.1 x.2 = false ∧ reservedWrite x.1 (putIn x.1 data.toNat) = false) (n : Nat) :
    ∃ t, (s.advance n).busWrite a data.toNat 0 = (t, [])
      ∧ ∀ f i, t.rd f i = if (f, i) ∈ rwFields a then clampWrite f (putIn f data.toNat) else s.rd f i := by
  refine ⟨_, ?_, foldl_storedStatic_rd data.toNat (rwFields a) (s.advance n)⟩
  rw [busWrite_plain (s := s.advance n) hw h (no_table_of_plain h (by decide)), foldl_putField_static (pre := s.advance n) fun x hm =>
    ⟨(plain_of_mem h hm).1.2.1, (plain_of_mem h hm).2, hx x hm⟩]
  rfl

theorem busWrite_locked {a : Nat} {data : Word} (hw : WordAccess s a) (h : PlainWord s a data.toNat .static)
    (hl : ∀ x ∈ rwFields a, s.staticLocked x.1 x.2 = true) (hx : ∃ x ∈ rwFields a, clampWrite x.1 (putIn x.1 data.toNat) ≠ s.rd x.1 x.2) (n : Nat) :
    (s.advance n).busWrite a data.toNat 0 = ((s.advance n).applyErr a 1 0, []) := by
  have hany : ((rwFields a).any fun x => clampWrite x.1 (putIn x.1 data.toNat) != (s.advance n).rd x.1 x.2) = true := by
    obtain ⟨x, hm, hne⟩ := hx
    exact List.any_eq_true.2 ⟨x, hm, bne_iff_ne.2 hne⟩
  have hfold := foldl_putField_locked (pre := s.advance n) (data := data.toNat)
    (fun x hm => ⟨(plain_of_mem h hm).1.2.1, (plain_of_mem h hm).2, hl x hm⟩) (s.advance n) false
  rw [hany] at hfold
  rw [busWrite_plain (s := s.advance n) hw h (no_table_of_plain h (by decide))]
  exact congrArg (fun r : WordWrite => (causeShown a r, r.pulls)) hfold

theorem busWrite_high {a j v : Nat} {f : Fld} {data : Word} (hw : WordAccess s a) (hfs : fieldsAt a = [(f, j, 1)]) (hp : PlainField f j)
    (hwd : 1 < f.info.words) (hlo : f.info.lo < 32) (hhi : 32 < f.info.lo + f.info.width) (hl : s.pageLocked f j = false)
    (ha : f.info.apply = .live) (ht : tableOf f j = none) (hs : s.sleeping f j = false)
    (hv : (s.wrHold.find? fun h => h.1 == a - 4) = some (a - 4, v)) (n : Nat) :
    (s.advance n).busWrite a data.toNat 0 =
      ({ (s.advance n).wr f j (joinedWord f v data.toNat) with wrHold := s.wrHold.filter fun h => h.1 != a - 4 }, []) := by
  have h64 : f.info.lo + f.info.width ≤ 64 := fieldsAt_width (x := (f, j, 1)) (a := a) (by simp [hfs])
  have hm : (s.advance n).mergeWord f j 1 data.toNat (a - 4 * 1) = some (joinedWord f v data.toNat) :=
    mergeWord_high hwd hlo hhi h64 hv
  rw [busWrite_word (s := s.advance n) hw data.toNat (by simp [hfs]) (by simp [hfs, hp.2.2.1]), wordWritten_one hfs,
    writeOne_high (s := s.advance n) hp ha hl ht hs hwd hm]
  unfold holdAfter
  rw [wideWord_one (s := s.advance n) hfs hwd hhi hl, hfs]
  rfl

theorem busWrite_low {a j : Nat} {f : Fld} (hw : WordAccess s a) (hfs : fieldsAt a = [(f, j, 0)]) (hp : PlainField f j)
    (hwd : 1 < f.info.words) (hhi : 32 < f.info.lo + f.info.width) (hl : s.pageLocked f j = false) (data n : Nat) :
    (s.advance n).busWrite a data 0 = ({ s.advance n with wrHold := (a, data) :: s.wrHold.filter fun h => h.1 != a }, []) := by
  rw [busWrite_word (s := s.advance n) hw data (by simp [hfs]) (by simp [hfs, hp.2.2.1]), wordWritten_one hfs,
    writeOne_low (s := s.advance n) hp.1 hl (mergeWord_low hwd hhi)]
  unfold holdAfter
  rw [wideWord_one (s := s.advance n) hfs hwd hhi hl, hfs]
  rfl

/-! ### The retire window -/

/-- The word of the retire window of an output (R84). -/
structure RetireWord (c : Fin 4) (a : Nat) : Prop where
  inside : a < bar0End
  aligned : a % 4 = 0
  cluster : addrCluster a = some c.val
  status : statusAt a = none
  ring : (0x50000 ≤ a && a < 0x70000) = false
  window : roWindow a = false
  fields : fieldsAt a = [(.pix .layerRetireLayer, c.val, 0), (.pix .layerRetireValid, c.val, 0), (.pix .layerRetireOvf, c.val, 0),
    (.pix .layerRetireFrame, c.val, 0)]

theorem retireWord (c : Fin 4) : RetireWord c (Fld.addr (.pix .layerRetireLayer) c) where
  inside := by revert c; decide +kernel
  aligned := by revert c; decide +kernel
  cluster := by revert c; decide +kernel
  status := by revert c; decide +kernel
  ring := by revert c; decide +kernel
  window := by revert c; decide +kernel
  fields := by revert c; decide +kernel

theorem view_retire (s : State) (c : Fin 4) {x : Nat × Nat} {xs : List (Nat × Nat)} (h : s.pic[c].retires = x :: xs) :
    s.view (.pix .layerRetireLayer) c = x.1 ∧ s.view (.pix .layerRetireValid) c = 1
      ∧ s.view (.pix .layerRetireOvf) c = b2n s.pic[c].retireLost := by
  have hc : (Fin.ofNat 4 c.val : Fin 4) = c := by simp
  refine ⟨?_, ?_, ?_⟩
  · unfold view
    simp only [hc, h]
  · unfold view
    simp only [hc, h]
    rfl
  · unfold view
    simp only [hc]

/-- The three fields of a retire word and nothing of its frame. -/
theorem retire_sum {v lost : Nat} (hv : v < 8) (hl : lost < 2) (frame : Nat) :
    0 + bits v 0 3 * 2 ^ 0 + bits 1 0 1 * 2 ^ 7 + bits lost 0 1 * 2 ^ 8 + bits frame 0 0 * 2 ^ 32 = v + 2 ^ 7 + 2 ^ 8 * lost := by
  have h0 : bits frame 0 0 = 0 := Nat.mod_one _
  have h1 : bits v 0 3 = v := by
    rw [bits, Nat.pow_zero, Nat.div_one]
    exact Nat.mod_eq_of_lt hv
  have h2 : bits lost 0 1 = lost := by
    rw [bits, Nat.pow_zero, Nat.div_one]
    exact Nat.mod_eq_of_lt hl
  have h3 : bits 1 0 1 = 1 := rfl
  rw [h0, h1, h2, h3]
  omega

theorem peek_retire {c : Fin 4} {a : Nat} (hw : RetireWord c a) (hon : s.clusterOn c = true) {x : Nat × Nat} {xs : List (Nat × Nat)}
    (h : s.pic[c].retires = x :: xs) (hx : x.1 < 8) : s.peek a = x.1 + 2 ^ 7 + 2 ^ 8 * b2n s.pic[c].retireLost := by
  obtain ⟨hlayer, hvalid, hovf⟩ := s.view_retire c h
  unfold peek
  extract_lets absent
  have habsent : absent = false := by
    simp only [absent, hw.cluster, hon]
    rfl
  have hlost : b2n s.pic[c].retireLost < 2 := by cases s.pic[c].retireLost <;> decide
  rw [hw.status]
  refine (if_neg (by simp [habsent])).trans ((if_neg (by rw [hw.ring]; decide)).trans ((if_neg (by simp [hw.window])).trans ?_))
  rw [hw.fields, List.foldl_cons, List.foldl_cons, List.foldl_cons, List.foldl_cons, List.foldl_nil]
  change 0 + bits (s.view (.pix .layerRetireLayer) c) 0 3 * 2 ^ 0 + bits (s.view (.pix .layerRetireValid) c) 0 1 * 2 ^ 7
    + bits (s.view (.pix .layerRetireOvf) c) 0 1 * 2 ^ 8 + bits (s.view (.pix .layerRetireFrame) c) 0 0 * 2 ^ 32 = _
  rw [hlayer, hvalid, hovf]
  exact retire_sum hx hlost _

theorem clearRead_retire {c : Fin 4} {a : Nat} (hw : RetireWord c a) (t : State) : t.clearRead a = t.popRetire c := by
  have hc : (Fin.ofNat 4 c.val : Fin 4) = c := by simp
  rw [clearRead_eq, hw.fields]
  simp only [List.foldl_cons, List.foldl_nil]
  exact congrArg t.popRetire hc

theorem popRetire_pic (s : State) (c : Fin 4) : (s.popRetire c).pic[c].retires = s.pic[c].retires.drop 1
    ∧ (s.popRetire c).pic[c].retireLost = false := by
  simp [popRetire]

theorem popRetire_rd (s : State) (c : Fin 4) (f : Fld) (i : Nat) : (s.popRetire c).rd f i = s.rd f i := rfl

theorem latchHigh_pic (s : State) (a : Nat) : (s.latchHigh a).pic = s.pic := by
  unfold latchHigh
  split <;> rfl

theorem busRead_retire {c : Fin 4} {a : Nat} (hw : RetireWord c a) (hon : s.clusterOn c = true) (hl : ∀ y ∈ s.rdLatch, y.1 ≠ a)
    {x : Nat × Nat} {xs : List (Nat × Nat)} (h : s.pic[c].retires = x :: xs) (hx : x.1 < 8) :
    (s.busRead a).2 = x.1 + 2 ^ 7 + 2 ^ 8 * b2n s.pic[c].retireLost ∧ (s.busRead a).1 = (s.latchHigh a).popRetire c := by
  have habsent : s.absentAt a = false := by
    unfold absentAt
    rw [hw.cluster]
    simp [hon]
  rw [busRead_of_unlatched (find?_rdLatch_none hl), habsent, clearRead_retire hw]
  exact ⟨peek_retire hw hon h hx, rfl⟩

end State

/-- Settles O47: a plain word is the fold of the writes of its writable fields, class by class. -/
theorem registerWrites : Obligations.RegisterWrites := by
  refine ⟨?_, ?_, ?_, ?_, ?_, ?_, ?_, ?_, ?_, ?_⟩
  · intro n a data s hw hpl hres
    obtain ⟨r, hnext, hc, hsame, hmem⟩ := State.registerWrite_quiet (n := n) hw (congrArg Prod.snd (State.busWrite_meridian hw hpl n))
    rw [State.busWrite_meridian hw hpl n, List.any_eq_false.2 fun x hx => by simp [hres x hx]] at hsame
    exact ⟨r, hnext, hc, hsame.shadow, fun f i _ => hsame.rd f i, hmem⟩
  · intro n a data s hw hpl hres
    have hbus := State.busWrite_meridian hw hpl n
    rw [List.any_eq_true.2 hres] at hbus
    obtain ⟨r, hnext, hc, hshadow, hcause, haddr, hcount, honly, hmem⟩ :=
      State.registerWrite_refused (cause := 2) hw hbus (fun _ _ => rfl) (by decide)
    exact ⟨r, hnext, hc, hshadow, hcause, haddr, hcount, honly, hmem⟩
  · intro n a data s hw hpl hx
    have hbus := State.busWrite_live hw hpl hx n
    obtain ⟨r, hnext, hc, hsame, hmem⟩ := State.registerWrite_quiet (n := n) hw (congrArg Prod.snd hbus)
    rw [hbus] at hsame
    refine ⟨r, hnext, hc, fun x hm => ?_, fun f i hf => ?_, hmem⟩
    · rw [hsame.rd, State.storedWord_rd, if_pos hm]
    · rw [hsame.rd, State.storedWord_rd, if_neg hf]
      rfl
  · intro n a data s hw hpl hx
    obtain ⟨t, hbus, hrd⟩ := State.busWrite_static hw hpl hx n
    obtain ⟨r, hnext, hc, hsame, hmem⟩ := State.registerWrite_quiet (n := n) hw (congrArg Prod.snd hbus)
    rw [hbus] at hsame
    refine ⟨r, hnext, hc, fun x hm => ?_, fun f i hf => ?_, hmem⟩
    · rw [hsame.rd, hrd, if_pos hm]
    · rw [hsame.rd, hrd, if_neg hf]
  · intro n a data s hw hpl hl hx
    obtain ⟨r, hnext, -, -, hcause, haddr, hcount, honly, hmem⟩ :=
      State.registerWrite_refused hw (State.busWrite_locked hw hpl hl hx n) (fun _ _ => rfl) (by decide)
    exact ⟨r, hnext, hcause, haddr, hcount, honly, hmem⟩
  · intro n a j v f data s hw hfs hp hwd hlo hhi hl ha ht hs hv
    have hbus := State.busWrite_high (data := data) hw hfs hp hwd hlo hhi hl ha ht hs hv n
    obtain ⟨r, hnext, hc, hsame, hmem⟩ := State.registerWrite_quiet (n := n) hw (congrArg Prod.snd hbus)
    rw [hbus] at hsame
    refine ⟨r, hnext, hc, ?_, fun h hm => ?_, fun g i hg => ?_, hmem⟩
    · rw [hsame.rd]
      exact State.rd_wr_same ..
    · rw [hsame.wrHold] at hm
      simpa using (List.mem_filter.1 hm).2
    · rw [hsame.rd]
      exact State.rd_wr_ne _ (by simpa using hg)
  · intro n a data s hw hfs hro
    obtain ⟨r, hnext, -, -, hcause, haddr, hcount, honly, hmem⟩ :=
      State.registerWrite_refused (n := n) hw (State.busWrite_no_register (s := s.advance n) hw data.toNat hfs hro) (fun _ _ => rfl) (by decide)
    exact ⟨r, hnext, hcause, haddr, hcount, honly, hmem⟩
  · intro n a i u data s ha h4 hd hst hon hb
    obtain ⟨hfatal, hkeeps⟩ := State.hostWrite_fatal (s := s.advance n) hst hon hb
    exact ⟨_, State.registerWrite_eq ha h4 hd, hfatal, hkeeps.memory rfl⟩
  · intro n a j f data s hw hfs hp hwd hhi hl
    have hbus := State.busWrite_low hw hfs hp hwd hhi hl data.toNat n
    obtain ⟨r, hnext, -, hsame, hmem⟩ := State.registerWrite_quiet (n := n) hw (congrArg Prod.snd hbus)
    rw [hbus] at hsame
    refine ⟨r, hnext, ?_, fun g i _ => hsame.rd g i, hmem⟩
    rw [hsame.wrHold]
    rfl
  · intro n c x xs s hon hd hlatch hx h8
    obtain ⟨hrd, hbus⟩ := State.busRead_retire (s := s.advance n) (State.retireWord c) hon hlatch hx h8
    have hnext := State.readWord_eq (s := s.advance n) (State.retireWord c).inside (State.retireWord c).aligned hd
    refine ⟨_, hnext, ?_, ?_, ?_, fun f i _ => ?_, KeepsNext.sameMemory (KeepsNext.execRetirePop .refl) hnext⟩
    · exact congrArg (fun v => (⟨.ok, leBytes 4 v⟩ : Completion)) hrd
    · rw [hbus]
      refine (State.popRetire_pic _ c).1.trans ?_
      rw [State.latchHigh_pic]
      exact congrArg (List.drop 1) hx
    · rw [hbus]
      exact (State.popRetire_pic _ c).2
    · rw [State.complete_rd, hbus, State.popRetire_rd, State.latchHigh_rd, State.advance_rd]

end Sys2Proof.Machine
end

section
/-! The instants of a frame on display (R109 to R119, R131 to R136). -/

namespace Sys2Proof.Machine

set_option Elab.async false

/-- From s to t the last F and the last G of an output stand, with the segment, the frame on display, and the state of its windows. -/
structure TimesKept (q : Fin 4) (s t : State) : Prop where
  lastF : t.chr[q].lastF = s.chr[q].lastF
  lastG : t.chr[q].lastG = s.chr[q].lastG
  seg : t.chr[q].seg = s.chr[q].seg
  awin : t.light[q].awin = s.light[q].awin
  hold : t.light[q].hold = s.light[q].hold
  segPrim : t.light[q].segPrim = s.light[q].segPrim
  darkened : t.light[q].darkened = s.light[q].darkened
  shown : t.rd (.chr .showFrame) q = s.rd (.chr .showFrame) q

namespace TimesKept

variable {q : Fin 4} {s t u : State}

theorem refl : TimesKept q s s := ⟨rfl, rfl, rfl, rfl, rfl, rfl, rfl, rfl⟩

theorem trans (h : TimesKept q s t) (k : TimesKept q t u) : TimesKept q s u :=
  ⟨k.lastF.trans h.lastF, k.lastG.trans h.lastG, k.seg.trans h.seg, k.awin.trans h.awin, k.hold.trans h.hold, k.segPrim.trans h.segPrim,
    k.darkened.trans h.darkened, k.shown.trans h.shown⟩

/-- What changes neither chronographs nor light, nor the frame on display. -/
theorem of_same (h : TimesKept q s t) (hc : u.chr = t.chr) (hl : u.light = t.light)
    (hf : u.rd (.chr .showFrame) q = t.rd (.chr .showFrame) q) : TimesKept q s u :=
  h.trans ⟨by rw [hc], by rw [hc], by rw [hc], by rw [hl], by rw [hl], by rw [hl], by rw [hl], hf⟩

theorem touches {ps : List Part} (h : TimesKept q s t) (k : Touches ps t u)
    (hp : Part.chr ∉ ps ∧ Part.light ∉ ps ∧ Part.reg .chr ∉ ps := by decide) : TimesKept q s u :=
  h.of_same (k .chr hp.1) (k .light hp.2.1) (k.rd _ _ hp.2.2)

theorem ite {p : Prop} [Decidable p] (h : TimesKept q s t) (k : TimesKept q s u) : TimesKept q s (if p then t else u) := by
  split
  · exact h
  · exact k

theorem foldl {α : Type} {g : State → α → State} {l : List α} (h : TimesKept q s t) (k : ∀ x a, TimesKept q s x → TimesKept q s (g x a)) :
    TimesKept q s (l.foldl g t) := foldl_keeps (P := TimesKept q s) k h

theorem forClusters {l : List (Fin 4)} {g : State → Fin 4 → State} (h : TimesKept q s t)
    (k : ∀ x c, TimesKept q s x → TimesKept q s (g x c)) : TimesKept q s (t.forClusters l g) := h.foldl k

theorem wr {f : Fld} {i v : Nat} (h : TimesKept q s t) (hf : f ≠ .chr .showFrame := by simp) : TimesKept q s (t.wr f i v) :=
  h.of_same rfl rfl (State.rd_wr_ne_fld _ (Ne.symm hf))

theorem wrb {f : Fld} {i : Nat} {b : Bool} (h : TimesKept q s t) (hf : f ≠ .chr .showFrame := by simp) : TimesKept q s (t.wrb f i b) := h.wr hf

theorem wrI {f : Fld} {i : Nat} {v : Int} (h : TimesKept q s t) (hf : f ≠ .chr .showFrame := by simp) : TimesKept q s (t.wrI f i v) := h.wr hf

theorem bump {f : Fld} {i : Nat} (h : TimesKept q s t) (hf : f ≠ .chr .showFrame := by simp) : TimesKept q s (t.bump f i) := h.wr hf

theorem emit {o : Output} (h : TimesKept q s t) : TimesKept q s (t.emit o) := h.of_same rfl rfl rfl

theorem setHbmMem {a b} (h : TimesKept q s t) : TimesKept q s { t with hbm := a, mem := b } := h.of_same rfl rfl rfl

theorem setPlateMem {a b} (h : TimesKept q s t) : TimesKept q s { t with plate := a, mem := b } := h.of_same rfl rfl rfl

theorem modTri {c : Fin 4} {g : Trioc → Trioc} (h : TimesKept q s t) : TimesKept q s (t.modTri c g) := h.of_same rfl rfl rfl

theorem modChr {c : Fin 4} {g : Chrono → Chrono} (h : TimesKept q s t)
    (hg : ∀ k, (g k).lastF = k.lastF ∧ (g k).lastG = k.lastG ∧ (g k).seg = k.seg := by exact fun _ => ⟨rfl, rfl, rfl⟩) :
    TimesKept q s (t.modChr c g) := by
  refine h.trans ?_
  by_cases hq : q = c
  · subst hq
    obtain ⟨hf, hgg, hs⟩ := hg t.chr[q]
    exact ⟨by simpa using hf, by simpa using hgg, by simpa using hs, rfl, rfl, rfl, rfl, rfl⟩
  · have hc : (t.modChr c g).chr[q] = t.chr[q] := by simp only [State.modChr_chr, vector_get_set_ne _ _ hq]
    exact ⟨by rw [hc], by rw [hc], by rw [hc], rfl, rfl, rfl, rfl, rfl⟩

theorem modLight {c : Fin 4} {g : Light → Light} (h : TimesKept q s t)
    (hg : ∀ l, (g l).awin = l.awin ∧ (g l).hold = l.hold ∧ (g l).segPrim = l.segPrim ∧ (g l).darkened = l.darkened
      := by exact fun _ => ⟨rfl, rfl, rfl, rfl⟩) : TimesKept q s (t.modLight c g) := by
  refine h.trans ?_
  by_cases hq : q = c
  · subst hq
    obtain ⟨ha, hh, hp, hd⟩ := hg t.light[q]
    exact ⟨rfl, rfl, rfl, by simpa using ha, by simpa using hh, by simpa using hp, by simpa using hd, rfl⟩
  · have hl : (t.modLight c g).light[q] = t.light[q] := by simp only [State.modLight_light, vector_get_set_ne _ _ hq]
    exact ⟨rfl, rfl, rfl, by rw [hl], by rw [hl], by rw [hl], by rw [hl], rfl⟩

theorem modChan {c : Fin 4} {k : Fin 6} {g : LaserCh → LaserCh} (h : TimesKept q s t) : TimesKept q s (t.modChan c k g) := .modLight h

theorem wakeHeld {c : Fin 4} {n : Nat} (h : TimesKept q s t) : TimesKept q s (t.wakeHeld c n) := by
  refine h.trans ?_
  unfold State.wakeHeld
  split
  · exact .ite .refl (.wr (.modChr .refl))
  · exact .refl

theorem logTrigger {n : Nat} (h : TimesKept q s t) : TimesKept q s (t.logTrigger n) :=
  h.touches (Touches.logTrigger .refl : Touches Touches.Parts.logTrigger _ _)

theorem reportSub {v : UType} {i sub code : Nat} {items : List (Nat × Nat)} (h : TimesKept q s t) :
    TimesKept q s (t.reportSub v i sub code items) := h.trans (.ite .refl (by
  extract_lets cls r s1 s2 s3 s4 x s5 s6 s7 x1
  have hs1 : TimesKept q t s1 := .bump (.wr .refl)
  have hs3 : TimesKept q t s3 := .ite ((TimesKept.wr hs1 : TimesKept q t s2).of_same rfl rfl rfl) hs1
  have hs4 : TimesKept q t s4 := hs3.of_same rfl rfl rfl
  have hs5 : TimesKept q t s5 := .ite (hs4.of_same rfl rfl rfl) hs4
  have hs6 : TimesKept q t s6 := hs5.touches (Touches.enqueue .refl : Touches Touches.Parts.enqueue _ _)
  have hs7 : TimesKept q t s7 := .ite (.wakeHeld hs6) hs6
  have hs8 : ∀ p, TimesKept q t ({ s7 with pwr := p }.emit (.faultOut true)) := fun _ => .emit (hs7.of_same rfl rfl rfl)
  exact .ite (.logTrigger (hs8 _)) hs7))

theorem report {v : UType} {i code : Nat} {items : List (Nat × Nat)} (h : TimesKept q s t) : TimesKept q s (t.report v i code items) :=
  h.reportSub

theorem expectMeridian {c m'} (h : TimesKept q s t) : TimesKept q s (t.expectMeridian c m') :=
  h.trans (.wr (.modChr .refl))

theorem idleLanes {c} (h : TimesKept q s t) : TimesKept q s (t.idleLanes c) :=
  h.touches (Touches.idleLanes .refl : Touches Touches.Parts.idleLanes _ _)

theorem addLit {c k n pat} (h : TimesKept q s t) : TimesKept q s (t.addLit c k n pat) := by
  refine h.trans ?_
  unfold State.addLit
  extract_lets i x em s1 s2
  have hs1 : TimesKept q t s1 := .wr .refl
  have hs2 : TimesKept q t s2 := .foldl hs1 (fun _ _ hx1 => .ite hx1 (.wr hx1))
  exact .modChan hs2

theorem cutDiag {c k} (h : TimesKept q s t) : TimesKept q s (t.cutDiag c k) := by
  refine h.trans ?_
  unfold State.cutDiag
  extract_lets x s1 upto s2
  have hs1 : TimesKept q t s1 := .addLit .refl
  have hs2 : TimesKept q t s2 := .modChan hs1
  exact .ite .refl (.ite (.emit hs2) hs2)

theorem violate {code hit} (h : TimesKept q s t) : TimesKept q s (t.violate code hit) :=
  h.touches (Touches.violate .refl : Touches Touches.Parts.violate _ _)

theorem litUntil {c k from' upto} (h : TimesKept q s t) : TimesKept q s (t.litUntil c k from' upto) := by
  refine h.trans ?_
  unfold State.litUntil
  extract_lets l dim r
  exact .addLit (.modLight .refl)

theorem setLenAt {c k v dly} (h : TimesKept q s t) : TimesKept q s (t.setLenAt c k v dly) :=
  h.trans (.ite .refl (by
    extract_lets s1 edge was s2 s3
    have hs1 : TimesKept q t s1 := .ite (.violate .refl) .refl
    have hs2 : TimesKept q t s2 := .ite hs1 (.litUntil hs1)
    have hs3 : TimesKept q t s3 := .modChan hs2
    exact .ite hs3 (.ite (.emit hs3) (.emit hs3))))

theorem setLen {c k v} (h : TimesKept q s t) : TimesKept q s (t.setLen c k v) :=
  h.trans (.setLenAt .refl)

theorem lensLow {c} (h : TimesKept q s t) : TimesKept q s (t.lensLow c) :=
  h.trans (.foldl .refl (fun _ _ hx => .cutDiag (.setLen hx)))

theorem dropFrames {c} (h : TimesKept q s t) : TimesKept q s (t.dropFrames c) :=
  h.touches (Touches.dropFrames .refl : Touches Touches.Parts.dropFrames _ _)

theorem sendDump {c} (h : TimesKept q s t) : TimesKept q s (t.sendDump c) :=
  h.touches (Touches.sendDump .refl : Touches Touches.Parts.sendDump _ _)

theorem modPic {c f} (h : TimesKept q s t) : TimesKept q s (t.modPic c f) :=
  h.touches (Touches.modPic .refl : Touches Touches.Parts.modPic _ _)

theorem stopCluster {c} (h : TimesKept q s t) : TimesKept q s (t.stopCluster c) := by
  refine h.trans ?_
  unfold State.stopCluster
  extract_lets s1 s2 s3 s4 s5
  have hs1 : TimesKept q t s1 := .dropFrames (.sendDump (.lensLow .refl))
  have hs2 : TimesKept q t s2 := .modChr hs1
  have hs3 : TimesKept q t s3 := .ite (.wr (.wr hs2)) hs2
  have hs4 : TimesKept q t s4 := .modPic hs3
  have hs5 : TimesKept q t s5 := .modTri hs4
  exact .wr (.wr hs5)

theorem keepDomains {mask} (h : TimesKept q s t) : TimesKept q s (t.keepDomains mask) := by
  refine h.trans ?_
  unfold State.keepDomains
  extract_lets on s1 s2 x s3 x1 s4 need
  have hs1 : TimesKept q t s1 := .wr .refl
  have hs2 : TimesKept q t s2 := .forClusters hs1 (fun _ _ hx2 => by
      extract_lets s5
      have hs5 : TimesKept q t s5 := .ite hx2 (.lensLow hx2)
      exact .ite hs5 (.stopCluster hs5))
  have hs3 : TimesKept q t s3 := .ite hs2 (.setHbmMem hs2)
  have hs4 : TimesKept q t s4 := .setPlateMem hs3
  exact .wr hs4

theorem heldAtF {c n} (h : TimesKept q s t) : TimesKept q s (t.heldAtF c n) := by
  refine h.trans ?_
  unfold State.heldAtF
  split
  · exact .refl
  · exact .ite .refl (by
      extract_lets s1 s2
      have hs1 : TimesKept q t s1 := .idleLanes (.wr (.wr (.wr .refl)))
      have hs2 : TimesKept q t s2 := .report hs1
      exact .ite (.keepDomains hs2) hs2)

theorem sendMark {c} (h : TimesKept q s t) : TimesKept q s (t.sendMark c) :=
  h.touches (Touches.sendMark .refl : Touches Touches.Parts.sendMark _ _)

theorem lensFall {c} (h : TimesKept q s t) : TimesKept q s (t.lensFall c) :=
  h.trans (.foldl .refl (fun _ _ hx => .setLenAt hx))

theorem takeCalibration {c} (h : TimesKept q s t) : TimesKept q s (t.takeCalibration c) :=
  h.trans (.foldl .refl (fun _ _ hx => by
    extract_lets i
    exact .ite hx (.modChan hx)))

theorem resetOff {c} (h : TimesKept q s t) : TimesKept q s (t.resetOff c) :=
  h.touches (Touches.resetOff .refl : Touches Touches.Parts.resetOff _ _)

theorem endAsupp {c f} (h : TimesKept q s t) : TimesKept q s (t.endAsupp c f) := by
  refine h.trans ?_
  unfold State.endAsupp
  extract_lets s1
  have hs1 : TimesKept q t s1 := .modChr .refl
  exact .ite (.wr hs1) hs1

theorem setRange {c at' high} (h : TimesKept q s t) : TimesKept q s (t.setRange c at' high) := by
  refine h.trans ?_
  unfold State.setRange
  extract_lets base
  exact .emit (.modLight .refl)

theorem loseLatch {c ld} (h : TimesKept q s t) : TimesKept q s (t.loseLatch c ld) := by
  refine h.trans ?_
  unfold State.loseLatch
  extract_lets hi cur moved lit s1 again
  have hs1 : TimesKept q t s1 := .foldl .refl (fun _ _ hx => .modChan hx)
  exact .wr (.modLight hs1)

theorem latchLoad {c ld at'} (h : TimesKept q s t) : TimesKept q s (t.latchLoad c ld at') := by
  refine h.trans ?_
  unfold State.latchLoad
  extract_lets hi before s1 s2
  have hs1 : TimesKept q t s1 := .violate .refl
  have hs2 : TimesKept q t s2 := .foldl hs1 (fun _ _ hx => by
      extract_lets k i1 old s3 again
      have hs3 : TimesKept q t s3 := .wr (.wr hx (by cases hi <;> simp)) (by cases hi <;> simp)
      exact .modChan hs3)
  exact .wr (.modLight hs2) (by cases hi <;> simp)

theorem showPend {c} (h : TimesKept q s t) : TimesKept q s (t.showPend c) :=
  h.touches (Touches.showPend .refl : Touches Touches.Parts.showPend _ _)

theorem quietInterval {c r dump high} (h : TimesKept q s t) : TimesKept q s (t.quietInterval c r dump high) := by
  refine h.trans ?_
  unfold State.quietInterval
  split
  · extract_lets s1 s2
    have hs1 : TimesKept q t s1 := .setRange .refl
    have hs2 : TimesKept q t s2 := .ite (.loseLatch hs1) (.latchLoad (.emit hs1))
    exact .setRange (.showPend hs2)
  · exact .ite .refl (.setRange .refl)

theorem placeDiag {c k} (h : TimesKept q s t) : TimesKept q s (t.placeDiag c k) := by
  refine h.trans ?_
  unfold State.placeDiag
  extract_lets i code at' taken s1 s2
  have hs1 : TimesKept q t s1 := .violate .refl
  have hs2 : TimesKept q t s2 := .modChan hs1
  exact .ite hs2 (.emit (.emit (.emit hs2)))

theorem dumpDiags {c n f} (h : TimesKept q s t) : TimesKept q s (t.dumpDiags c n f) := by
  refine h.trans ?_
  unfold State.dumpDiags
  extract_lets short was s1 s2
  have hs1 : TimesKept q t s1 := .wrb .refl
  have hs2 : TimesKept q t s2 := .ite hs1 (by
      split
      · exact .report hs1
      · exact hs1)
  exact .ite hs2 (.foldl hs2 (fun _ _ hx => .placeDiag hx))

theorem compareVerdicts {c} (h : TimesKept q s t) : TimesKept q s (t.compareVerdicts c) :=
  h.trans (.ite .refl (.foldl .refl (fun _ _ hx => by
    split
    · exact hx
    · exact .report (.modChan hx))))

theorem strobe {c tsrc prim at'} (h : TimesKept q s t) : TimesKept q s (t.strobe c tsrc prim at') :=
  h.touches (Touches.strobe .refl : Touches Touches.Parts.strobe _ _)

theorem releaseLref {c k} (h : TimesKept q s t) : TimesKept q s (t.releaseLref c k) := by
  refine h.trans ?_
  unfold State.releaseLref
  split
  · exact .ite .refl (by
      extract_lets s1
      have hs1 : TimesKept q t s1 := .modChan .refl
      exact .ite (.emit hs1) hs1)
  · exact .refl

theorem endDiag {c k} (h : TimesKept q s t) : TimesKept q s (t.endDiag c k) := by
  refine h.trans ?_
  unfold State.endDiag
  extract_lets s1
  have hs1 : TimesKept q t s1 := .ite (.modChan (.addLit .refl)) .refl
  exact .releaseLref hs1

theorem endSegment {c f} (h : TimesKept q s t) : TimesKept q s (t.endSegment c f) :=
  h.touches (Touches.endSegment .refl : Touches Touches.Parts.endSegment _ _)

theorem applyHeldFlags {c} (h : TimesKept q s t) : TimesKept q s (t.applyHeldFlags c) :=
  h.touches (Touches.applyHeldFlags .refl : Touches Touches.Parts.applyHeldFlags _ _)

theorem leaveHeld {c n} (h : TimesKept q s t) : TimesKept q s (t.leaveHeld c n) := by
  refine h.trans ?_
  unfold State.leaveHeld
  split
  · exact .refl
  · exact .ite .refl (by
      extract_lets s1 s2 w s3
      have hs1 : TimesKept q t s1 := .modPic (.modChr .refl)
      have hs2 : TimesKept q t s2 := .applyHeldFlags (.wr hs1)
      have hs3 : TimesKept q t s3 := .report hs2
      exact .ite hs3 (.report (.bump hs3)))

theorem notePicture {c} (h : TimesKept q s t) : TimesKept q s (t.notePicture c) :=
  h.touches (Touches.notePicture .refl : Touches Touches.Parts.notePicture _ _)

theorem noteWear {c} (h : TimesKept q s t) : TimesKept q s (t.noteWear c) :=
  h.trans (.foldl .refl (fun _ _ hx => .ite hx (.report (.modChan hx))))

theorem tearUnlit {c frame} (h : TimesKept q s t) : TimesKept q s (t.tearUnlit c frame) :=
  h.touches (Touches.tearUnlit .refl : Touches Touches.Parts.tearUnlit _ _)

theorem noteTonly {c} (h : TimesKept q s t) : TimesKept q s (t.noteTonly c) := by
  refine h.trans ?_
  unfold State.noteTonly
  extract_lets cause n
  exact .modChr .refl

theorem sendChState {c} (h : TimesKept q s t) : TimesKept q s (t.sendChState c) :=
  h.touches (Touches.sendChState .refl : Touches Touches.Parts.sendChState _ _)

theorem setChState {c k st} (h : TimesKept q s t) : TimesKept q s (t.setChState c k st) :=
  h.trans (.ite .refl (.noteTonly (.sendChState (.wr .refl))))

theorem askRun {target c k at'} (h : TimesKept q s t) : TimesKept q s (t.askRun target c k at') :=
  h.touches (Touches.askRun .refl : Touches Touches.Parts.askRun _ _)

theorem flagBy {c num k tiles u i} (h : TimesKept q s t) : TimesKept q s (t.flagBy c num k tiles u i) :=
  h.touches (Touches.flagBy .refl : Touches Touches.Parts.flagBy _ _)

theorem lightBanks {c frame} (h : TimesKept q s t) : TimesKept q s (t.lightBanks c frame) :=
  h.trans (.foldl .refl (fun _ _ hx => by
    split
    · exact hx
    · exact .ite hx (by
        extract_lets k old moved s1 failed s2 s3 s4
        have hs1 : TimesKept q t s1 := .modLight hx
        have hs2 : TimesKept q t s2 := by
          simp only [s2]
          clear_value old
          split
          · exact .setChState hs1
          · exact hs1
        have hs3 : TimesKept q t s3 := .askRun (.sendChState (.wr (.setChState hs2) (by unfold litFld; split <;> decide)))
        have hs4 : TimesKept q t s4 := .violate hs3
        exact .ite hs1 (by
            clear_value old
            clear_value failed
            split
            · extract_lets s5
              have hs5 : TimesKept q t s5 := .flagBy hs4
              exact .ite (.report hs5) hs5
            · exact hs4))))

theorem selectStandby {c p k} (h : TimesKept q s t) : TimesKept q s (t.selectStandby c p k) :=
  h.trans (.modLight .refl)

theorem nameBanks {c} (h : TimesKept q s t) : TimesKept q s (t.nameBanks c) :=
  h.trans (.ite .refl (.foldl .refl (fun _ _ hx => by
    extract_lets k
    exact .ite (.selectStandby hx) hx)))

theorem modSlot {c i f} (h : TimesKept q s t) : TimesKept q s (t.modSlot c i f) :=
  h.touches (Touches.modSlot .refl : Touches Touches.Parts.modSlot _ _)

theorem updateCeiling {c} (h : TimesKept q s t) : TimesKept q s (t.updateCeiling c) := by
  refine h.trans ?_
  unfold State.updateCeiling
  extract_lets s1 terms best s2 cur inc
  have hs1 : TimesKept q t s1 := .foldl .refl (fun _ _ hx => .wr hx)
  have hs2 : TimesKept q t s2 := .wr (.wr hs1)
  exact .ite (.modLight (.wr hs2)) (.ite hs2 (.modLight (.wr hs2)))

theorem segmentBanks {c n} (h : TimesKept q s t) : TimesKept q s (t.segmentBanks c n) := by
  refine h.trans ?_
  unfold State.segmentBanks
  extract_lets was s1 s2
  have hs1 : TimesKept q t s1 := .tearUnlit (.lightBanks (.nameBanks .refl))
  have hs2 : TimesKept q t s2 := .foldl hs1 (fun _ _ hx => by
      split
      · exact .modSlot hx
      · exact hx)
  exact .updateCeiling hs2

theorem cascadeStrobe {c at' j scale} (h : TimesKept q s t) : TimesKept q s (t.cascadeStrobe c at' j scale) :=
  h.touches (Touches.cascadeStrobe .refl : Touches Touches.Parts.cascadeStrobe _ _)

theorem resetBands {c first last place hold pid} (h : TimesKept q s t) : TimesKept q s (t.resetBands c first last place hold pid) :=
  h.touches (Touches.resetBands .refl : Touches Touches.Parts.resetBands _ _)

theorem countPathPlane {c key bad} (h : TimesKept q s t) : TimesKept q s (t.countPathPlane c key bad) :=
  h.touches (Touches.countPathPlane .refl : Touches Touches.Parts.countPathPlane _ _)

theorem settleBlocks {c pid first last key} (h : TimesKept q s t) : TimesKept q s (t.settleBlocks c pid first last key).2 := by
  refine h.trans ?_
  unfold State.settleBlocks
  extract_lets at' mine all bad path g rows s1
  have hs1 : TimesKept q t s1 := .countPathPlane (.modTri .refl)
  exact .foldl hs1 fun _ _ hx => .report (.bump (.flagBy hx))

theorem resetPlane {c f first last hold ent} (h : TimesKept q s t) : TimesKept q s (t.resetPlane c f first last hold ent).2 := by
  refine h.trans ?_
  unfold State.resetPlane
  split
  · exact .resetBands .refl
  · extract_lets p pid seg s1
    have hs1 : TimesKept q t s1 := .resetBands .refl
    split
    · exact hs1
    · exact .settleBlocks hs1

theorem suppress {c f} (h : TimesKept q s t) : TimesKept q s (t.suppress c f) := by
  refine h.trans ?_
  unfold State.suppress
  extract_lets n s1
  have hs1 : TimesKept q t s1 := by
    simp only [s1]
    split
    · exact .ite .refl (.report (.wr .refl))
    · exact .refl
  exact .ite hs1 ((TimesKept.bump hs1).touches (Touches.modFrame .refl : Touches Touches.Parts.modFrame _ _))

end TimesKept

/-- From s to t the clock stands, with the command number of an output's link and the acknowledgements it awaits; no output is taken back. -/
structure Sent (q : Fin 4) (s t : State) : Prop where
  now : t.now = s.now
  cseq : t.tri[q].cseq = s.tri[q].cseq
  acks : t.tri[q].acks = s.tri[q].acks
  out : ∀ o ∈ s.out, o ∈ t.out

namespace Sent

variable {q : Fin 4} {s t u : State}

theorem refl : Sent q s s := ⟨rfl, rfl, rfl, fun _ h => h⟩

theorem trans (h : Sent q s t) (k : Sent q t u) : Sent q s u :=
  ⟨k.now.trans h.now, k.cseq.trans h.cseq, k.acks.trans h.acks, fun o ho => k.out o (h.out o ho)⟩

theorem of_same (h : Sent q s t) (hn : u.now = t.now) (ht : u.tri = t.tri) (ho : u.out = t.out) : Sent q s u :=
  h.trans ⟨hn, by rw [ht], by rw [ht], fun _ hm => ho ▸ hm⟩

theorem ite {p : Prop} [Decidable p] (h : Sent q s t) (k : Sent q s u) : Sent q s (if p then t else u) := by
  split
  · exact h
  · exact k

theorem foldl {α : Type} {g : State → α → State} {l : List α} (h : Sent q s t) (k : ∀ x a, Sent q s x → Sent q s (g x a)) :
    Sent q s (l.foldl g t) := foldl_keeps (P := Sent q s) k h

theorem wr {f : Fld} {i v : Nat} (h : Sent q s t) : Sent q s (t.wr f i v) := h.of_same rfl rfl rfl

theorem wrb {f : Fld} {i : Nat} {b : Bool} (h : Sent q s t) : Sent q s (t.wrb f i b) := h.of_same rfl rfl rfl

theorem bump {f : Fld} {i : Nat} (h : Sent q s t) : Sent q s (t.bump f i) := h.of_same rfl rfl rfl

theorem emit {o : Output} (h : Sent q s t) : Sent q s (t.emit o) := h.trans ⟨rfl, rfl, rfl, fun _ hm => List.mem_append_left _ hm⟩

theorem modChr {c : Fin 4} {g : Chrono → Chrono} (h : Sent q s t) : Sent q s (t.modChr c g) := h.of_same rfl rfl rfl

theorem modLight {c : Fin 4} {g : Light → Light} (h : Sent q s t) : Sent q s (t.modLight c g) := h.of_same rfl rfl rfl

theorem modChan {c : Fin 4} {k : Fin 6} {g : LaserCh → LaserCh} (h : Sent q s t) : Sent q s (t.modChan c k g) := h.of_same rfl rfl rfl

theorem modHel {c : Fin 4} {g : Helio → Helio} (h : Sent q s t) : Sent q s (t.modHel c g) := h.of_same rfl rfl rfl

theorem modPic {c : Fin 4} {g : Picture → Picture} (h : Sent q s t) : Sent q s (t.modPic c g) := h.of_same rfl rfl rfl

theorem modEng {e : Fin 6} {g : Engine → Engine} (h : Sent q s t) : Sent q s (t.modEng e g) := h.of_same rfl rfl rfl

theorem modPar {g : Pair → Pair} (h : Sent q s t) : Sent q s (t.modPar g) := h.of_same rfl rfl rfl

theorem setPwr {p} (h : Sent q s t) : Sent q s { t with pwr := p } := h.of_same rfl rfl rfl

theorem modTri {c : Fin 4} {g : Trioc → Trioc} (h : Sent q s t)
    (hg : ∀ k, (g k).cseq = k.cseq ∧ (g k).acks = k.acks := by exact fun _ => ⟨rfl, rfl⟩) : Sent q s (t.modTri c g) := by
  refine h.trans ?_
  by_cases hq : q = c
  · subst hq
    obtain ⟨hc, ha⟩ := hg t.tri[q]
    exact ⟨rfl, by simpa using hc, by simpa using ha, fun _ hm => hm⟩
  · have ht : (t.modTri c g).tri[q] = t.tri[q] := by simp only [State.modTri_tri, vector_get_set_ne _ _ hq]
    exact ⟨rfl, by rw [ht], by rw [ht], fun _ hm => hm⟩

theorem wakeHeld {c : Fin 4} {n : Nat} (h : Sent q s t) : Sent q s (t.wakeHeld c n) := by
  refine h.trans ?_
  unfold State.wakeHeld
  split
  · exact .ite .refl (.wr (.modChr .refl))
  · exact .refl

theorem reportSub {v : UType} {i sub code : Nat} {items : List (Nat × Nat)} (h : Sent q s t) :
    Sent q s (t.reportSub v i sub code items) := h.trans (.ite .refl (by
  extract_lets cls r s1 s2 s3 s4 x s5 s6 s7 x1
  have hs1 : Sent q t s1 := .bump (.wr .refl)
  have hs3 : Sent q t s3 := .ite ((Sent.wr hs1 : Sent q t s2).of_same rfl rfl rfl) hs1
  have hs4 : Sent q t s4 := hs3.of_same rfl rfl rfl
  have hs5 : Sent q t s5 := .ite (hs4.of_same rfl rfl rfl) hs4
  have hs6 : Sent q t s6 := hs5.of_same (State.enqueue_now ..) (State.enqueue_tri ..) (State.enqueue_out ..)
  have hs7 : Sent q t s7 := .ite (.wakeHeld hs6) hs6
  have hs8 : ∀ p, Sent q t ({ s7 with pwr := p }.emit (.faultOut true)) := fun _ => .emit (hs7.of_same rfl rfl rfl)
  exact .ite ((hs8 _).of_same (State.logTrigger_now ..) (State.logTrigger_tri ..) (State.logTrigger_out ..)) hs7))

theorem report {v : UType} {i code : Nat} {items : List (Nat × Nat)} (h : Sent q s t) : Sent q s (t.report v i code items) :=
  h.reportSub

theorem addLit {c k n pat} (h : Sent q s t) : Sent q s (t.addLit c k n pat) := by
  refine h.trans ?_
  unfold State.addLit
  extract_lets i x em s1 s2
  have hs1 : Sent q t s1 := .wr .refl
  have hs2 : Sent q t s2 := .foldl hs1 (fun _ _ hx1 => .ite hx1 (.wr hx1))
  exact .modChan hs2

theorem releaseLref {c k} (h : Sent q s t) : Sent q s (t.releaseLref c k) := by
  refine h.trans ?_
  unfold State.releaseLref
  split
  · exact .ite .refl (by
      extract_lets s1
      have hs1 : Sent q t s1 := .modChan .refl
      exact .ite (.emit hs1) hs1)
  · exact .refl

theorem endDiag {c k} (h : Sent q s t) : Sent q s (t.endDiag c k) := by
  refine h.trans ?_
  unfold State.endDiag
  extract_lets s1
  have hs1 : Sent q t s1 := .ite (.modChan (.addLit .refl)) .refl
  exact .releaseLref hs1

theorem endSegment {c f} (h : Sent q s t) : Sent q s (t.endSegment c f) :=
  h.trans (.ite .refl (by
    extract_lets p frac at'
    exact .ite .refl (.modHel .refl)))

theorem applyHeldFlags {c} (h : Sent q s t) : Sent q s (t.applyHeldFlags c) := by
  refine h.trans ?_
  unfold State.applyHeldFlags
  extract_lets f
  exact .modPic .refl

theorem leaveHeld {c n} (h : Sent q s t) : Sent q s (t.leaveHeld c n) := by
  refine h.trans ?_
  unfold State.leaveHeld
  split
  · exact .refl
  · exact .ite .refl (by
      extract_lets s1 s2 w s3
      have hs1 : Sent q t s1 := .modPic (.modChr .refl)
      have hs2 : Sent q t s2 := .applyHeldFlags (.wr hs1)
      have hs3 : Sent q t s3 := .report hs2
      exact .ite hs3 (.report (.bump hs3)))

theorem notePicture {c} (h : Sent q s t) : Sent q s (t.notePicture c) :=
  h.trans (.ite .refl (by
    extract_lets x
    exact .wr (.setPwr .refl)))

theorem noteWear {c} (h : Sent q s t) : Sent q s (t.noteWear c) :=
  h.trans (.foldl .refl (fun _ _ hx => .ite hx (.report (.modChan hx))))

theorem violate {code hit} (h : Sent q s t) : Sent q s (t.violate code hit) :=
  h.trans (.foldl .refl (fun _ _ hx => by
    extract_lets st
    exact .ite (.modEng hx) hx))

theorem litUntil {c k from' upto} (h : Sent q s t) : Sent q s (t.litUntil c k from' upto) := by
  refine h.trans ?_
  unfold State.litUntil
  extract_lets l dim r
  exact .addLit (.modLight .refl)

theorem setLenAt {c k v dly} (h : Sent q s t) : Sent q s (t.setLenAt c k v dly) :=
  h.trans (.ite .refl (by
    extract_lets s1 edge was s2 s3
    have hs1 : Sent q t s1 := .ite (.violate .refl) .refl
    have hs2 : Sent q t s2 := .ite hs1 (.litUntil hs1)
    have hs3 : Sent q t s3 := .modChan hs2
    exact .ite hs3 (.ite (.emit hs3) (.emit hs3))))

theorem lensFall {c} (h : Sent q s t) : Sent q s (t.lensFall c) :=
  h.trans (.foldl .refl (fun _ _ hx => .setLenAt hx))

theorem takeCalibration {c} (h : Sent q s t) : Sent q s (t.takeCalibration c) :=
  h.trans (.foldl .refl (fun _ _ hx => by
    extract_lets i
    exact .ite hx (.modChan hx)))

theorem sendTransit {kind fields} (h : Sent q s t) : Sent q s (t.sendTransit kind fields) :=
  h.trans (.ite (.emit .refl) .refl)

theorem sendMark {c} (h : Sent q s t) : Sent q s (t.sendMark c) :=
  h.trans (.ite (.sendTransit .refl) .refl)

theorem setRange {c at' high} (h : Sent q s t) : Sent q s (t.setRange c at' high) := by
  refine h.trans ?_
  unfold State.setRange
  extract_lets base
  exact .emit (.modLight .refl)

theorem loseLatch {c ld} (h : Sent q s t) : Sent q s (t.loseLatch c ld) := by
  refine h.trans ?_
  unfold State.loseLatch
  extract_lets hi cur moved lit s1 again
  have hs1 : Sent q t s1 := .foldl .refl (fun _ _ hx => .modChan hx)
  exact .wr (.modLight hs1)

theorem latchLoad {c ld at'} (h : Sent q s t) : Sent q s (t.latchLoad c ld at') := by
  refine h.trans ?_
  unfold State.latchLoad
  extract_lets hi before s1 s2
  have hs1 : Sent q t s1 := .violate .refl
  have hs2 : Sent q t s2 := .foldl hs1 (fun _ _ hx => by
      extract_lets k i1 old s3 again
      have hs3 : Sent q t s3 := .wr (.wr hx)
      exact .modChan hs3)
  exact .wr (.modLight hs2)

theorem showPend {c} (h : Sent q s t) : Sent q s (t.showPend c) :=
  h.trans (.wrb .refl)

theorem quietInterval {c r dump high} (h : Sent q s t) : Sent q s (t.quietInterval c r dump high) := by
  refine h.trans ?_
  unfold State.quietInterval
  split
  · extract_lets s1 s2
    have hs1 : Sent q t s1 := .setRange .refl
    have hs2 : Sent q t s2 := .ite (.loseLatch hs1) (.latchLoad (.emit hs1))
    exact .setRange (.showPend hs2)
  · exact .ite .refl (.setRange .refl)

theorem cascadeStrobe {c at' j scale} (h : Sent q s t) : Sent q s (t.cascadeStrobe c at' j scale) :=
  h.trans (.modHel .refl)

theorem strobe {c tsrc prim at'} (h : Sent q s t) : Sent q s (t.strobe c tsrc prim at') := by
  refine h.trans ?_
  unfold State.strobe
  extract_lets r i
  exact .emit (.modHel .refl)

theorem blameUnit {c num tiles u i} (h : Sent q s t) : Sent q s (t.blameUnit c num tiles u i) :=
  h.trans (.ite .refl (.modPic .refl))

theorem flagTiles {c num k tiles} (h : Sent q s t) : Sent q s (t.flagTiles c num k tiles) :=
  h.trans (.modPic .refl)

theorem flagBy {c num k tiles u i} (h : Sent q s t) : Sent q s (t.flagBy c num k tiles u i) :=
  h.trans (.blameUnit (.flagTiles .refl))

theorem takeOver {trigger} (h : Sent q s t) : Sent q s (t.takeOver trigger) :=
  h.trans (.ite .refl (by
    extract_lets xs s1
    have hs1 : Sent q t s1 := .modPar .refl
    exact .ite hs1 (.sendTransit hs1)))

theorem countPathPlane {c key bad} (h : Sent q s t) : Sent q s (t.countPathPlane c key bad) :=
  h.trans (.ite .refl (by
    extract_lets l l1 s1 run
    have hs1 : Sent q t s1 := .modPar .refl
    exact .ite (.takeOver hs1) hs1))
theorem settleBlocks {c pid first last key} (h : Sent q s t) : Sent q s (t.settleBlocks c pid first last key).2 := by
  refine h.trans ?_
  unfold State.settleBlocks
  extract_lets at' mine all bad path g rows s1
  have hs1 : Sent q t s1 := .countPathPlane (.modTri .refl)
  exact .foldl hs1 fun _ _ hx => .report (.bump (.flagBy hx))

end Sent

namespace NoRise

variable {s t : State}

theorem emit {o : Output} (h : NoRise s t) : NoRise s (t.emit o) := h.of_light rfl

theorem armCheck_len (x : LaserCh) (r : LampRange) (v : Nat) : (State.armCheck x r v).len = x.len := by
  rfl

theorem noteTried_len (x : LaserCh) (r : LampRange) (v : Nat) : (State.noteTried x r v).len = x.len := by
  unfold State.noteTried; split <;> rfl

theorem takeCalibration {c} (h : NoRise s t) : NoRise s (t.takeCalibration c) :=
  h.trans (.foldl .refl (fun _ _ hx => by
    extract_lets i
    exact .ite hx (.modChan hx fun _ hl => hl)))

theorem setRange {c at' high} (h : NoRise s t) : NoRise s (t.setRange c at' high) := by
  refine h.trans ?_
  unfold State.setRange
  extract_lets base
  exact .emit (.modLight .refl fun _ => rfl)

theorem loseLatch {c ld} (h : NoRise s t) : NoRise s (t.loseLatch c ld) := by
  refine h.trans ?_
  unfold State.loseLatch
  extract_lets hi cur moved lit s1 again
  have hs1 : NoRise t s1 := .foldl .refl (fun _ _ hx => .modChan hx fun _ hl => by rw [noteTried_len, armCheck_len]; exact hl)
  exact .wr (.modLight hs1 fun _ => rfl)

theorem violate {code hit} (h : NoRise s t) : NoRise s (t.violate code hit) :=
  h.touches (Touches.violate .refl : Touches Touches.Parts.violate _ _)

theorem latchLoad {c ld at'} (h : NoRise s t) : NoRise s (t.latchLoad c ld at') := by
  refine h.trans ?_
  unfold State.latchLoad
  extract_lets hi before s1 s2
  have hs1 : NoRise t s1 := .violate .refl
  have hs2 : NoRise t s2 := .foldl hs1 (fun _ _ hx => by
      extract_lets k i1 old s3 again
      have hs3 : NoRise t s3 := .wr (.wr hx)
      refine .modChan hs3 fun x hl => ?_
      extract_lets y1 y2
      have h1 : y1.len = false := by
        simp only [y1]
        split
        · rw [armCheck_len]; exact hl
        · exact hl
      have h2 : y2.len = false := by
        simp only [y2, noteTried_len]
        split
        · exact h1
        · exact h1
      split
      · exact h2
      · exact h2)
  exact .wr (.modLight hs2 fun _ => rfl)

theorem showPend {c} (h : NoRise s t) : NoRise s (t.showPend c) :=
  h.touches (Touches.showPend .refl : Touches Touches.Parts.showPend _ _)

theorem quietInterval {c r dump high} (h : NoRise s t) : NoRise s (t.quietInterval c r dump high) := by
  refine h.trans ?_
  unfold State.quietInterval
  split
  · extract_lets s1 s2
    have hs1 : NoRise t s1 := .setRange .refl
    have hs2 : NoRise t s2 := .ite (.loseLatch hs1) (.latchLoad (.emit hs1))
    exact .setRange (.showPend hs2)
  · exact .ite .refl (.setRange .refl)

theorem noteTonly {c} (h : NoRise s t) : NoRise s (t.noteTonly c) :=
  h.touches (Touches.noteTonly .refl : Touches Touches.Parts.noteTonly _ _)

theorem suppress {c f} (h : NoRise s t) : NoRise s (t.suppress c f) :=
  h.touches (Touches.suppress .refl : Touches Touches.Parts.suppress _ _)

theorem sendMark {c} (h : NoRise s t) : NoRise s (t.sendMark c) :=
  h.touches (Touches.sendMark .refl : Touches Touches.Parts.sendMark _ _)

theorem resetOff {c} (h : NoRise s t) : NoRise s (t.resetOff c) :=
  h.touches (Touches.resetOff .refl : Touches Touches.Parts.resetOff _ _)

end NoRise

namespace State

variable {s : State}

/-! ### F of a frame -/

/-- The next adjustment draws at most one free value: nothing else changes. -/
theorem nextAdj_snd (s : State) (c : Fin 4) (tail : Nat) : (s.nextAdj c tail).2 = s ∨ (s.nextAdj c tail).2 = (s.freeBits 32).2 := by
  unfold nextAdj
  extract_lets a slew pull bound back f
  split
  · exact .inl rfl
  · split
    · exact .inl rfl
    · split
      · exact .inl rfl
      · split
        · exact .inl rfl
        · exact .inr rfl

theorem nextAdj_now (s : State) (c : Fin 4) (tail : Nat) : (s.nextAdj c tail).2.now = s.now := by
  rcases s.nextAdj_snd c tail with h | h
  · rw [h]
  · rw [h]; rfl

theorem nextAdj_rd (s : State) (c : Fin 4) (tail : Nat) (f : Fld) (i : Nat) : (s.nextAdj c tail).2.rd f i = s.rd f i := by
  rcases s.nextAdj_snd c tail with h | h
  · rw [h]
  · rw [h]; rfl

theorem frameTiming_lastF (s : State) (c : Fin 4) (f : FrameRec) : (s.frameTiming c f).chr[c].lastF = s.now := by
  unfold frameTiming
  extract_lets k s1 r s2 next g
  have hn : s1.now = s.now := by
    simp only [s1]
    split
    · rfl
    · rfl
  simp only [expectMeridian, wr_chr, modChr_chr, vector_get_set_self, s2, wrI, r]
  exact (nextAdj_now ..).trans hn

theorem frameTiming_seg (s : State) (c : Fin 4) (f : FrameRec) : (s.frameTiming c f).chr[c].seg = 0 := by
  unfold frameTiming
  extract_lets k s1 r s2 next g
  simp only [expectMeridian, wr_chr, modChr_chr, vector_get_set_self, s2, wrI]

theorem frameTiming_shown (s : State) (c : Fin 4) (f : FrameRec) : (s.frameTiming c f).rd (.chr .showFrame) c = s.rd (.chr .showFrame) c := by
  unfold frameTiming
  extract_lets k s1 r s2 next g
  have hs1 : s1.rd (.chr .showFrame) c = s.rd (.chr .showFrame) c := by
    simp only [s1]
    split
    · rfl
    · exact rd_wr_ne_fld _ (by simp)
  have hs2 : s2.rd (.chr .showFrame) c = r.2.rd (.chr .showFrame) c := by
    simp only [s2, wrI]
    rw [rd_wr_ne_fld _ (by simp), modChr_rd]
  rw [expectMeridian, rd_wr_ne_fld _ (by simp), modChr_rd, hs2, show r.2.rd (.chr .showFrame) c = _ from nextAdj_rd .., hs1]

/-- F of a frame that has a record shows its number, takes this instant for F and closes every segment and window (R131). -/
theorem frameStart_begins {c : Fin 4} {n : Nat} {f : FrameRec} (hn : n < 2 ^ 32) (hf : (s.wr (.chr .showFrame) c n).shownRec c = some f) :
    (s.frameStart c n).rd (.chr .showFrame) c = n ∧ (s.frameStart c n).chr[c].lastF = s.now ∧ (s.frameStart c n).chr[c].seg = 0
      ∧ (s.frameStart c n).light[c].awin = false := by
  unfold frameStart
  extract_lets s0
  split
  next h => exact absurd (h.symm.trans hf) (by simp)
  next f' h =>
    extract_lets s1 s2 s3 s4 s5
    have hk1 : TimesKept c (s0.frameTiming c f') ((s1.lensFall c).takeCalibration c) := .takeCalibration (.lensFall (.sendMark (.heldAtF .refl)))
    have hk2 : TimesKept c s2 (((s5.dumpDiags c n f').compareVerdicts c).strobe c 1 0 s5.now) :=
      .strobe (.compareVerdicts (.dumpDiags (.quietInterval (.wr (.wr (.wr (.endAsupp (.resetOff .refl))))))))
    have hchr : s2.chr = ((s1.lensFall c).takeCalibration c).chr := modLight_chr ..
    have hrd : s2.rd (.chr .showFrame) c = ((s1.lensFall c).takeCalibration c).rd (.chr .showFrame) c := modLight_rd ..
    refine ⟨?_, ?_, ?_, hk2.awin.trans ?_⟩
    · rw [hk2.shown, hrd, hk1.shown, frameTiming_shown]
      exact rd_wr_of_lt _ _ _ (hn.trans (by decide))
    · rw [hk2.lastF, hchr, hk1.lastF]
      exact frameTiming_lastF ..
    · rw [hk2.seg, hchr, hk1.seg]
      exact frameTiming_seg ..
    · simp only [s2, modLight_light, vector_get_set_self]

theorem frameStart_next {t n : Nat} {c : Fin 4} (hr : s.chr[c].running = true) (hn : s.nextShown c = some n) :
    exec (.frameStart t c) s = .next ((s.advance t).frameStart c n) := by
  have hn' : (s.advance t).nextShown c = some n := hn
  change execFrameStart t c s = _
  unfold execFrameStart
  simp only [hn', advance_chr, hr, if_true]

/-! ### G of a segment -/

/-- G of a segment takes this instant for G, counts the segment and names its primary, outside any A-window (R110). -/
theorem segmentStart_opens (s : State) (c : Fin 4) (f : FrameRec) (prim : Nat) (body : List SchedEntry) :
    (s.segmentStart c f prim body).chr[c].lastG = s.now ∧ (s.segmentStart c f prim body).chr[c].seg = s.chr[c].seg + 1
      ∧ (s.segmentStart c f prim body).light[c].segPrim = (Fin.ofNat 3 prim).val ∧ (s.segmentStart c f prim body).light[c].awin = false := by
  unfold segmentStart
  extract_lets n s1 s2 s3 p locked s4 s5 b s6 l s7
  have hk1 : TimesKept c s s1 := .endSegment (.foldl .refl fun _ _ hx => .endDiag hx)
  have hk2 : TimesKept c s s2 := .ite (.noteWear (.notePicture (.leaveHeld hk1))) hk1
  have ht1 : Sent c s s1 := .endSegment (.foldl .refl fun _ _ hx => .endDiag hx)
  have ht2 : Sent c s s2 := .ite (.noteWear (.notePicture (.leaveHeld ht1))) ht1
  have hseg : ((s2.lensFall c).takeCalibration c).chr[c].seg = s.chr[c].seg := (TimesKept.takeCalibration (.lensFall hk2)).seg
  have hk4 : TimesKept c (s3.modLight c fun l => { l with awin := false, hold := false, segPrim := p.val, gated := l.gated && !locked }) s4 :=
    .segmentBanks .refl
  have hk5 : TimesKept c _ s5 := .modLight hk4
  have hk6 : TimesKept c _ s6 := .foldl hk5 fun _ _ hx => .resetPlane hx
  have hk7 : TimesKept c _ s7 := .cascadeStrobe (.quietInterval (.sendMark hk6))
  have hk8 : TimesKept c _ ((s7.noteTonly c).strobe c 2 p.val s7.now) := .strobe (.noteTonly hk7)
  clear_value s2
  refine ⟨?_, ?_, hk8.segPrim.trans ?_, hk8.awin.trans ?_⟩
  · rw [hk8.lastG, modLight_chr, modChr_chr, vector_get_set_self]
    exact ht2.now
  · rw [hk8.seg, modLight_chr, modChr_chr, vector_get_set_self]
    exact congrArg (· + 1) hseg
  · rw [modLight_light, vector_get_set_self]
  · rw [modLight_light, vector_get_set_self]

theorem segmentStart_next {t : Nat} {c : Fin 4} {f : FrameRec} {g : Nat × List SchedEntry} (hr : s.chr[c].running = true)
    (hf : s.shownRec c = some f) (hg : (State.shownSegs f)[s.chr[c].seg]? = some g) :
    exec (.segmentStart t c) s = .next ((s.advance t).segmentStart c f g.1 g.2) := by
  have hf' : (s.advance t).shownRec c = some f := hf
  change execSegmentStart t c s = _
  unfold execSegmentStart
  simp only [hf', advance_chr, hg, hr, if_true]

/-! ### Resets of bands -/

/-- A reset command for bands was sent from s to t: its number is taken, its acknowledgement awaited, and it stands in the outputs. -/
def ResetSent (s t : State) (c : Fin 4) (first last : Nat) : Prop :=
  t.tri[c].cseq = (s.tri[c].cseq + 1) % 65536
  ∧ (∃ a ∈ t.tri[c].acks, a.cseq = s.tri[c].cseq ∧ a.first = first ∧ a.last = last ∧ a.settleAt = s.now + s.cfg[c].settle)
  ∧ ∃ lanes cmd u at', Output.command c lanes cmd u at' ∈ t.out ∧ cmd.op = .reset ∧ cmd.first = first ∧ cmd.last = last
      ∧ cmd.cseq = s.tri[c].cseq

theorem ResetSent.sent {t u : State} {c : Fin 4} {first last : Nat} (h : ResetSent s t c first last) (k : Sent c t u) :
    ResetSent s u c first last := by
  obtain ⟨hc, ⟨a, ha, hack⟩, lanes, cmd, n, at', ho, hcmd⟩ := h
  exact ⟨k.cseq.trans hc, ⟨a, k.acks ▸ ha, hack⟩, lanes, cmd, n, at', k.out _ ho, hcmd⟩

/-- A reset sent from a later state whose clock, command number and settle time are those of s. -/
theorem ResetSent.before {s' t : State} {c : Fin 4} {first last : Nat} (h : ResetSent s' t c first last) (k : Sent c s s')
    (hg : s'.cfg = s.cfg) : ResetSent s t c first last := by
  unfold ResetSent at h ⊢
  rwa [k.now, k.cseq, hg] at h

theorem sendCommand_emits {c : Fin 4} (op : CmdOp) (first last place : Nat) (hold replay : Bool) (pid at' : Nat) (hd : s.drives = true) :
    ∃ lanes cmd, s.sendCommand c op first last place hold replay pid at'
        = (s.modTri c fun t => { t with cseq := (t.cseq + 1) % 65536 }).emit (.command c lanes cmd cmd.unit at')
      ∧ cmd.op = op ∧ cmd.first = first ∧ cmd.last = last ∧ cmd.cseq = s.tri[c].cseq := by
  unfold sendCommand
  exact ⟨_, _, if_pos hd, rfl, rfl, rfl, rfl⟩

theorem resetBands_sent {c : Fin 4} {first last place pid : Nat} {hold : Bool} (ha : s.arrayFed c = true) (hd : s.drives = true) :
    ResetSent s (s.resetBands c first last place hold pid) c first last := by
  unfold resetBands
  rw [if_neg (by simp [ha])]
  extract_lets rep q s1
  obtain ⟨lanes, cmd, hs1, hop, hfirst, hlast, hcseq⟩ := s.sendCommand_emits (c := c) .reset first last place hold rep pid s.now hd
  replace hs1 : s1 = _ := hs1
  clear_value s1
  subst hs1
  have hdr : ∀ g o, ((s.modTri c g).emit o).drives = s.drives := fun _ _ => rfl
  rw [if_neg (by rw [hdr, hd]; simp)]
  refine ⟨?_, ⟨{ cseq := q, first := first, last := last, place := place, frame := s.shownFrame c, replay := rep,
                  settleAt := s.now + s.cfg[c].settle }, ?_, rfl, rfl, rfl, rfl⟩,
    lanes, cmd, cmd.unit, s.now, ?_, hop, hfirst, hlast, hcseq⟩
  · rw [modTri_tri, vector_get_set_self, emit_tri, modTri_tri, vector_get_set_self]
  · rw [modTri_tri, vector_get_set_self]
    exact List.mem_append_right _ (List.mem_singleton_self _)
  · rw [modTri_out]
    exact List.mem_append_right _ (List.mem_singleton_self _)

theorem resetPlane_sent {c : Fin 4} {f : FrameRec} {first last : Nat} {hold : Bool} {ent : Option (Nat × Nat)} (ha : s.arrayFed c = true)
    (hd : s.drives = true) : ResetSent s (s.resetPlane c f first last hold ent).2 c first last := by
  unfold resetPlane
  split
  · exact resetBands_sent ha hd
  · extract_lets p pid seg s1
    have hs1 : ResetSent s s1 c first last := resetBands_sent ha hd
    split
    · exact hs1
    · exact hs1.sent (.settleBlocks .refl)

theorem arrayFed_congr {t : State} {c : Fin 4} {ps : List Part} (k : Touches ps s t) (hd : t.light[c].darkened = s.light[c].darkened)
    (hp : Part.reg .tri ∉ ps := by decide) : t.arrayFed c = s.arrayFed c := by
  unfold arrayFed
  rw [hd, k.rd (.tri .stateLink) c hp]

theorem drives_congr {t : State} {ps : List Part} (k : Touches ps s t) (hp : Part.reg .par ∉ ps := by decide) : t.drives = s.drives := by
  unfold drives role on
  rw [k.rd (.par .statRole) 0 hp, k.rd (.par .statSelOwn) 0 hp]

theorem aPlaneReset_sent {c : Fin 4} {f : FrameRec} {first last : Nat} {e : Nat × Nat} (ha : s.arrayFed c = true) (hd : s.drives = true) :
    ResetSent s (s.aPlaneReset c f first last e) c first last := by
  unfold aPlaneReset
  extract_lets s1 r s2 n s3
  have hk : Touches Touches.Parts.lensFall s s1 := .takeCalibration (.lensFall .refl)
  have hs1 : ResetSent s1 r.2 c first last := resetPlane_sent
    ((arrayFed_congr hk (TimesKept.takeCalibration (.lensFall .refl) : TimesKept c s s1).darkened).trans ha) ((drives_congr hk).trans hd)
  have hs2 : Sent c r.2 s2 := .modLight .refl
  have hs3 : Sent c r.2 s3 := .ite hs2 (.report (.flagBy hs2))
  exact (hs1.before (.takeCalibration (.lensFall .refl)) (hk .cfg (by decide))).sent (.strobe (.cascadeStrobe (.quietInterval hs3)))

theorem planeReset_next {t first last : Nat} {c : Fin 4} {ent : Option (Nat × Nat)} {f : FrameRec} (hr : s.chr[c].running = true)
    (hs : s.chr[c].seg ≠ 0) (hf : s.shownRec c = some f) (hl : first ≤ last) (hb : last < s.cfg[c].bands)
    (hd : s.resetDue c f (max s.now t) first last ent = true) (ha : s.arrayFed c = true) (hv : s.drives = true) :
    ∃ r, exec (.planeReset t c first last ent) s = .next r ∧ ResetSent (s.advance t) r c first last := by
  have hf' : (s.advance t).shownRec c = some f := hf
  have hd' : (s.advance t).resetDue c f (max s.now t) first last ent = true := hd
  have hk : Touches Touches.Parts.sendMark (s.advance t) ((s.advance t).sendMark c) := .sendMark .refl
  have hx : ∀ {y}, ResetSent ((s.advance t).sendMark c) y c first last → ResetSent (s.advance t) y c first last := fun h =>
    h.before (.sendMark .refl) (hk .cfg (by decide))
  have ha' : ((s.advance t).sendMark c).arrayFed c = true :=
    (arrayFed_congr hk (TimesKept.sendMark .refl : TimesKept c (s.advance t) _).darkened).trans ha
  have hv' : ((s.advance t).sendMark c).drives = true := (drives_congr hk).trans hv
  change ∃ r, execPlaneReset t c first last ent s = .next r ∧ _
  unfold execPlaneReset
  extract_lets s0 s1
  split
  next h => exact absurd (h.symm.trans hf') (by simp)
  next f' h =>
    cases Option.some.inj (h.symm.trans hf')
    rw [if_neg (by simp [s0, hr, hs, Nat.not_lt.2 hl, Nat.not_le.2 hb, hd', -Fin.getElem_fin])]
    split
    · exact ⟨_, rfl, hx (aPlaneReset_sent ha' hv')⟩
    · exact ⟨_, rfl, hx ((resetPlane_sent ha' hv').sent (.takeCalibration .refl))⟩

/-! ### LEN at the S of a G, in A-windows and in the tail -/

/-- From s to t no register, no stopped unit and nothing of an output's light that its gates read has changed; no pulse is newly lost. -/
structure GateKept (c : Fin 4) (s t : State) : Prop where
  regs : ∀ f i, t.rd f i = s.rd f i
  stopped : t.stopped = s.stopped
  darkened : t.light[c].darkened = s.light[c].darkened
  rangeLost : t.light[c].rangeLost = s.light[c].rangeLost
  gated : t.light[c].gated = s.light[c].gated
  segDim : t.light[c].segDim = s.light[c].segDim
  lost : ∀ k : Fin 6, s.light[c].chans[k].lostPulse = false → t.light[c].chans[k].lostPulse = false

namespace GateKept

variable {t u : State} {c : Fin 4}

theorem refl : GateKept c s s := ⟨fun _ _ => rfl, rfl, rfl, rfl, rfl, rfl, fun _ h => h⟩

theorem trans (h : GateKept c s t) (k : GateKept c t u) : GateKept c s u :=
  ⟨fun f i => (k.regs f i).trans (h.regs f i), k.stopped.trans h.stopped, k.darkened.trans h.darkened, k.rangeLost.trans h.rangeLost,
    k.gated.trans h.gated, k.segDim.trans h.segDim, fun j e => k.lost j (h.lost j e)⟩

theorem of_same (h : GateKept c s t) (hr : ∀ f i, u.rd f i = t.rd f i) (hs : u.stopped = t.stopped) (hl : u.light = t.light) :
    GateKept c s u := h.trans ⟨hr, hs, by rw [hl], by rw [hl], by rw [hl], by rw [hl], fun _ e => by rw [hl]; exact e⟩

theorem ite {p : Prop} [Decidable p] (h : GateKept c s t) (k : GateKept c s u) : GateKept c s (if p then t else u) := by
  split
  · exact h
  · exact k

theorem emit {o : Output} (h : GateKept c s t) : GateKept c s (t.emit o) := h.of_same (fun _ _ => rfl) rfl rfl

theorem violate {code hit} (h : GateKept c s t) : GateKept c s (t.violate code hit) :=
  h.of_same (violate_rd t code hit) ((Touches.violate .refl : Touches Touches.Parts.violate _ _) .stopped (by decide))
    ((Touches.violate .refl : Touches Touches.Parts.violate _ _) .light (by decide))

theorem modChan {k : Fin 6} {g : LaserCh → LaserCh} (h : GateKept c s t) (hg : ∀ x, x.lostPulse = false → (g x).lostPulse = false) :
    GateKept c s (t.modChan c k g) := by
  refine h.trans ⟨fun _ _ => rfl, rfl, ?_, ?_, ?_, ?_, fun j e => ?_⟩
  · simp only [State.modChan, modLight_light, vector_get_set_self]
  · simp only [State.modChan, modLight_light, vector_get_set_self]
  · simp only [State.modChan, modLight_light, vector_get_set_self]
  · simp only [State.modChan, modLight_light, vector_get_set_self]
  · rw [modChan_chan]
    split
    next hk => exact hg _ (hk.2 ▸ e)
    next => exact e

theorem setLenAt_high {k : Fin 6} {dly : Int} (h : GateKept c s t) : GateKept c s (t.setLenAt c k true dly) := by
  refine h.trans ?_
  unfold State.setLenAt
  refine .ite .refl ?_
  extract_lets s1 edge was s2 s3
  have hs1 : GateKept c t s1 := .ite (.violate .refl) .refl
  have hs2 : GateKept c t s2 := by
    simp only [s2, if_true]
    exact hs1
  have hs3 : GateKept c t s3 := .modChan hs2 fun _ e => e
  exact .ite hs3 (.ite (.emit hs3) (.emit hs3))

theorem gateOpen (h : GateKept c s t) (k : Fin 6) : t.gateOpen c k = s.gateOpen c k := by
  unfold State.gateOpen
  simp only [State.on, State.chState, State.halted, State.unitFatal, State.domOn, h.regs, h.stopped, h.darkened, h.rangeLost, h.gated]

end GateKept

theorem setLenAt_len_self (s : State) (c : Fin 4) (k : Fin 6) (dly : Int) : (s.setLenAt c k true dly).light[c].chans[k].len = true := by
  unfold setLenAt
  split
  next h => simpa using h
  next =>
    extract_lets s1 edge was s2 s3
    have hs3 : s3.light[c].chans[k].len = true := by simp only [s3, modChan_chan, and_self, if_true]
    split
    · exact hs3
    · split
      · exact hs3
      · exact hs3

theorem setLenAt_len_kept {s : State} {c : Fin 4} {k j : Fin 6} {dly : Int} (h : s.light[c].chans[k].len = true) :
    (s.setLenAt c j true dly).light[c].chans[k].len = true := by
  by_cases hj : j = k
  · subst hj
    exact setLenAt_len_self ..
  · unfold setLenAt
    split
    · exact h
    · extract_lets s1 edge was s2 s3
      have hs3 : s3.light[c].chans[k].len = true := by
        simp only [s3, modChan_chan, hj, and_false, if_false, s2, if_true, s1]
        rw [(Touches.violate .refl : Touches Touches.Parts.violate _ _) .light (by decide)]
        exact h
      split
      · exact hs3
      · split
        · exact hs3
        · exact hs3

theorem modChan_lostPulse_len {s : State} {c : Fin 4} {k j : Fin 6} (h : s.light[c].chans[k].len = true) :
    (s.modChan c j fun x => { x with lostPulse := false }).light[c].chans[k].len = true :=
  have hlen : ∀ x : LaserCh, ({ x with lostPulse := false } : LaserCh).len = x.len := fun _ => rfl
  (modChan_len s c c j k hlen).trans h

theorem lensRise_kept (s : State) (c : Fin 4) : GateKept c s (s.lensRise c) := by
  unfold lensRise
  extract_lets p
  refine foldl_keeps (P := GateKept c s) (fun x j hx => ?_) .refl
  split
  · exact .modChan hx fun _ _ => rfl
  · exact .ite (.setLenAt_high hx) hx

/-- At the S of a G each channel of the primary whose gate is open and that has a lit segment rises, unless its pulse was lost (R136). -/
theorem lensRise_len {c : Fin 4} {k : Fin 6} (hk : k ∈ banksOf (Fin.ofNat 3 s.light[c].segPrim))
    (hl : s.light[c].chans[k].lostPulse = false) (hg : s.gateOpen c k = true)
    (hd : s.light[c].segDim[(Fin.ofNat 3 s.light[c].segPrim : Fin 3)] ≠ 0) : (s.lensRise c).light[c].chans[k].len = true := by
  unfold lensRise
  extract_lets p
  refine foldl_of_mem_inv (I := GateKept c s) (P := fun x => x.light[c].chans[k].len = true) hk (fun x j hx => ?_) (fun x hx => ?_)
    (fun x j hx => ?_) .refl
  · split
    · exact .modChan hx fun _ _ => rfl
    · exact .ite (.setLenAt_high hx) hx
  · rw [if_neg (by simp [hx.lost k hl, -Fin.getElem_fin]), if_pos (by rw [hx.gateOpen k, hg, hx.segDim]; exact bne_iff_ne.2 hd)]
    exact setLenAt_len_self ..
  · split
    · exact modChan_lostPulse_len hx
    · split
      · exact setLenAt_len_kept hx
      · exact hx

theorem strobe_light (s : State) (c : Fin 4) (tsrc prim at' : Nat) : (s.strobe c tsrc prim at').light = s.light := rfl

theorem strobe_rd (s : State) (c : Fin 4) (tsrc prim at' : Nat) (f : Fld) (i : Nat) : (s.strobe c tsrc prim at').rd f i = s.rd f i := rfl

theorem settleComplete_lights {t first : Nat} {c : Fin 4} {k : Fin 6} {f : FrameRec} {ent : Option (Nat × Nat)} (hr : s.chr[c].running = true)
    (hs : s.chr[c].seg ≠ 0) (hf : s.shownRec c = some f) (ha : s.light[c].awin = false)
    (hn : max s.now t = s.chr[c].lastG + f.sched.hdr.settle) (hk : k ∈ banksOf (Fin.ofNat 3 s.light[c].segPrim))
    (hl : s.light[c].chans[k].lostPulse = false) (hg : s.gateOpen c k = true)
    (hd : s.light[c].segDim[(Fin.ofNat 3 s.light[c].segPrim : Fin 3)] ≠ 0) :
    ∃ r, exec (.settleComplete t c first ent) s = .next r ∧ r.light[c].chans[k].len = true ∧ OnlyRegs s r [] := by
  have hf' : (s.advance t).shownRec c = some f := hf
  have hn' : (s.advance t).now = (s.advance t).chr[c].lastG + f.sched.hdr.settle := hn
  have ha' : (s.advance t).light[c].awin = false := ha
  have hlen : ((s.advance t).lensRise c).light[c].chans[k].len = true := lensRise_len hk hl hg hd
  have hregs : OnlyRegs s ((s.advance t).lensRise c) [] := fun g i _ => ((s.advance t).lensRise_kept c).regs g i
  change ∃ r, execSettleComplete t c first ent s = .next r ∧ _
  unfold execSettleComplete
  extract_lets s0 a
  split
  next h => exact absurd (h.symm.trans hf') (by simp)
  next f' h =>
    cases Option.some.inj (h.symm.trans hf')
    rw [if_neg (by simp [s0, hr, hs, -Fin.getElem_fin])]
    extract_lets r due lit s1
    have hlit : lit = true := by simp only [lit, a, s0, ha', hn', beq_self_eq_true, Bool.false_eq_true, if_false]
    have hdue : due = true := by simp only [due, r, a, s0, ha', hn', Nat.add_sub_cancel, beq_self_eq_true, Bool.not_false,
      Bool.and_true, Bool.true_or]
    have hs1 : s1 = (s.advance t).lensRise c := if_pos hlit
    have hle : f.sched.hdr.settle ≤ s0.now := hn' ▸ Nat.le_add_left ..
    rw [if_neg (by simp [hdue, Nat.not_lt.2 hle]), hs1]
    split
    · split
      · exact ⟨_, rfl, (congrArg (·[c].chans[k].len) (strobe_light ..)).trans hlen, fun g i hg => (strobe_rd ..).trans (hregs g i hg)⟩
      · exact ⟨_, rfl, hlen, hregs⟩
    · exact ⟨_, rfl, hlen, hregs⟩

/-- `lensFall` leaves every LEN of its cluster low. -/
theorem lensFall_low (s : State) (c : Fin 4) : (s.lensFall c).lensAllLow c := by
  intro k
  refine foldl_of_mem (P := fun x : State => x.light[c].chans[k].len = false) (mem_allChans k) (fun x => ?_) (fun x j hx => ?_) s
  · exact setLenAt_low x c k _
  · exact (NoRise.setLenAt .refl) c k hx

theorem aWindowStart_dark {t : Nat} {c : Fin 4} {f : FrameRec} (hr : s.chr[c].running = true) (hs : s.chr[c].seg ≠ 0)
    (hf : s.shownRec c = some f) (ht : f.sched.hdr.tform = false) :
    ∃ r, exec (.aWindowStart t c) s = .next r ∧ r.light[c].awin = true ∧ r.lensAllLow c := by
  have hf' : (s.advance t).shownRec c = some f := hf
  change ∃ r, execAWindowStart t c s = .next r ∧ _
  unfold execAWindowStart
  extract_lets s0 s1
  split
  next h => exact absurd (h.symm.trans hf') (by simp)
  next f' h =>
    cases Option.some.inj (h.symm.trans hf')
    rw [if_neg (by simp [s0, hr, hs, ht, -Fin.getElem_fin])]
    have hk : TimesKept c ((s0.lensFall c).modLight c fun l => { l with awin := true }) (s1.suppress c f) := .suppress (.noteTonly .refl)
    refine ⟨_, rfl, hk.awin.trans ?_, lensAllLow_of_noRise (lensFall_low s0 c) (.suppress (.noteTonly (.modLight .refl fun _ => rfl)))⟩
    simp only [modLight_light, vector_get_set_self]

theorem tailStart_dark {t : Nat} {c : Fin 4} (hr : s.chr[c].running = true) (hs : s.chr[c].seg ≠ 0) :
    ∃ r, exec (.tailStart t c) s = .next r ∧ r.light[c].awin = false ∧ r.light[c].hold = false ∧ r.lensAllLow c := by
  change ∃ r, execTailStart t c s = .next r ∧ _
  unfold execTailStart
  extract_lets s0 s1 s2
  rw [if_neg (by simp [s0, hr, hs, -Fin.getElem_fin])]
  have hk : TimesKept c s2 (((s2.sendMark c).resetOff c).quietInterval c s2.now false true) := .quietInterval (.resetOff (.sendMark .refl))
  refine ⟨_, rfl, hk.awin.trans ?_, hk.hold.trans ?_, lensAllLow_of_noRise (lensFall_low s1 c)
    (.quietInterval (.resetOff (.sendMark (.modLight (.takeCalibration .refl) fun _ => rfl))))⟩
  · simp only [s2, modLight_light, vector_get_set_self]
  · simp only [s2, modLight_light, vector_get_set_self]

end State

/-- Settles O50: each instant of a frame on display sets what it names, and every later operation of the same command leaves it. -/
theorem frameInstants : Obligations.FrameInstants := by
  unfold Obligations.FrameInstants
  refine ⟨fun t n c f s hr hn hlt hf => ?_, fun t c f g s hr hf hg => ?_, fun t first last c ent f s hr hs hf hl hb hd ha hv => ?_,
    fun t first c k f ent s hr hs hf ha hn hk hl hg hd => ?_, fun t c f s hr hs hf ht => ?_, fun t c s hr hs => ?_⟩
  · exact ⟨_, State.frameStart_next hr hn, State.frameStart_begins hlt hf⟩
  · exact ⟨_, State.segmentStart_next hr hf hg, State.segmentStart_opens ..⟩
  · obtain ⟨r, hnext, hcseq, hack, hout⟩ := State.planeReset_next hr hs hf hl hb hd ha hv
    exact ⟨r, hnext, hcseq, hack, hout, KeepsNext.sameMemory (KeepsNext.execPlaneReset .refl) hnext⟩
  · obtain ⟨r, hnext, hlen, hregs⟩ := State.settleComplete_lights (first := first) (ent := ent) hr hs hf ha hn hk hl hg hd
    exact ⟨r, hnext, hlen, hregs, KeepsNext.sameMemory (KeepsNext.execSettleComplete .refl) hnext⟩
  · obtain ⟨r, hnext, hawin, hlow⟩ := State.aWindowStart_dark (t := t) hr hs hf ht
    exact ⟨r, hnext, hawin, hlow, KeepsNext.sameMemory (KeepsNext.execAWindowStart .refl) hnext⟩
  · obtain ⟨r, hnext, hawin, hhold, hlow⟩ := State.tailStart_dark (t := t) hr hs
    exact ⟨r, hnext, hawin, hhold, hlow, KeepsNext.sameMemory (KeepsNext.execTailStart .refl) hnext⟩

end Sys2Proof.Machine

end
